-- ==== Sys2Proof/Word.lean ====
section
/-! DEFINITION. The word types of the CBX96 and the plainest arithmetic on them.
Registers are 32 bits wide (R35); memory is byte addressed. -/

namespace Sys2Proof

/-- A register word (R35: register windows accept aligned 32-bit accesses only). -/
abbrev Word := BitVec 32

/-- A byte of memory. -/
abbrev Byte := BitVec 8

end Sys2Proof
end

