-- ==== Sys2Proof/Syntax.lean ====
section
/-! DEFINITION. The commands of the module: one constructor per row of the table of operations and
events, with what the row carries. An observation of the outside world (a voltage, a current, how
long it has lasted) is an operand, since the outside gives it. -/

namespace Sys2Proof

/-- What the header and the session layer say of a command frame that a host sends (R50 to R55). -/
structure HostHdr where
  /-- path: 0 Towpath, 1 tunnel, 2 recovery port; R46 -/
  path : Fin 3 := 0
  /-- REF; R50 -/
  ref : Nat := 0
  /-- FLAGS bit ENC; R50 -/
  enc : Bool := false
  /-- SEQ of an encrypted payload, 64 bits; R54 -/
  seq : Nat := 0
  /-- GCM tag of an encrypted payload, 128 bits; R54 -/
  tag : Nat := 0
  /-- header and payload bytes as the tag covers them; R54 -/
  covered : List Nat := []
  /-- ADDR: target module address; R50 -/
  dest : Nat := 0
  /-- the payload length fits the command; R58 -/
  fits : Bool := true
  /-- LEN; R50 -/
  len : Nat := 0
  /-- the access falls in the cycle of the hardware update that the row before made; R45 -/
  same : Bool := false
  deriving DecidableEq, Repr

/-- What a start finds of the two Warden firmware slots (R303, R330): the version of an image that passes
its verification. -/
structure FwSeen where
  /-- slot A -/
  a : Option (BitVec 32) := none
  /-- slot B -/
  b : Option (BitVec 32) := none
  deriving DecidableEq, Repr

/-- A CAN frame on the bus (R354 to R360). -/
structure CanFrame where
  /-- 1: 29-bit identifier; R356 -/
  ide : Bool := false
  /-- identifier, a standard one in bits 28:18; R356 -/
  id : Nat := 0
  /-- format: 0 classical, 1 FD, 2 XL; R356 -/
  fmt : Nat := 0
  /-- FD bit-rate switch; R356 -/
  brs : Bool := false
  /-- data bytes; R356 -/
  data : List Nat := []
  /-- SDT of an XL frame, 8 bits; R356 -/
  sdt : Nat := 0
  /-- VCID of an XL frame, 8 bits; R356 -/
  vcid : Nat := 0
  /-- AF of an XL frame, 32 bits; R356 -/
  af : Nat := 0
  /-- ns of waterway time from the sample point of its SOF bit to the end of the frame; R359 -/
  sofAgo : Nat := 0
  deriving DecidableEq, Repr

/-- What a HELLO barge says of a neighbour (R405). -/
structure Hello where
  /-- SERIAL; R405 -/
  serial : Nat
  /-- FLAGS; R405 -/
  flags : Nat
  /-- MAJOR; R405 -/
  major : Nat
  /-- LOCKCYC; R405 -/
  lockCyc : Nat
  /-- STATE; R405 -/
  state : Nat
  /-- PORT; R405 -/
  port : Nat
  /-- ADDR; R405 -/
  addr : Nat
  /-- POUND; R405 -/
  pound : Nat
  /-- PLAN; R405 -/
  plan : Nat
  /-- ROOT_SERIAL; R405 -/
  rootSerial : Nat
  /-- ROOT_HOPS; R405 -/
  rootHops : Nat
  /-- TOPO; R405 -/
  topo : Nat
  /-- CHART_VER; R405 -/
  chartVer : Nat
  /-- FW_VER; R405 -/
  fwVer : Nat
  deriving DecidableEq, Repr

/-- What a LINKSTATE barge says of one port of its sender (R407). -/
structure LinkEnd where
  /-- neighbour's address; R407 -/
  naddr : Nat := 0
  /-- neighbour's port; R407 -/
  nport : Nat := 0
  /-- LSTATE; R407 -/
  lstate : Nat := 0
  deriving DecidableEq, Repr

/-- The last LINKSTATE of one module (R407). -/
structure LinkState where
  /-- LSEQ, 16 bits; R407 -/
  lseq : Nat := 0
  /-- SERIAL; R407 -/
  serial : Nat := 0
  /-- ports 0 to 3; R407 -/
  ports : List LinkEnd := []
  deriving DecidableEq, Repr


/-- A transfer still open in a power domain (R349): who makes it, where, and of a host's command the word and the
header. -/
structure OpenAccess where
  /-- master code; R46 -/
  m : Fin 12 := 0
  /-- full address -/
  addr : BitVec 32 := 0#32
  /-- it is a write -/
  write : Bool := false
  /-- word of a BLOCK READ; R57 -/
  index : Nat := 0
  /-- word of a write -/
  data : BitVec 32 := 0#32
  /-- the write has taken effect before it was cut; R39 -/
  took : Bool := false
  /-- header of the host's command -/
  h : HostHdr := {}
  deriving DecidableEq, Repr

/-- Who makes a write or a read, and whether it falls in the cycle of the hardware update that the row before made. -/
structure Sender where
  /-- master code; R46 -/
  code : Fin 12 := 0
  /-- in the cycle of the row before; R27, R45 -/
  same : Bool := false
  deriving DecidableEq, Repr

/-- What LOG CLEAR brings (R57, R451). -/
structure ClearCode where
  /-- the clear authorisation code, 128 bits -/
  code : Nat := 0
  /-- nothing interrupts the clear that it starts -/
  whole : Bool := true
  deriving DecidableEq, Repr

/-- The access of a host or an engine that does not complete (R39, R57). -/
structure CutWord where
  /-- it is a write -/
  write : Bool := false
  /-- word of a BLOCK READ -/
  index : Nat := 0
  deriving DecidableEq, Repr

/-- What is seen when VRES reaches the limit of valve recovery (R81, R164). -/
structure DivertSeen where
  /-- VRES in mV -/
  mv : Nat := 0
  /-- energy in mJ that each valve has recovered up to now -/
  mj : List Nat := []
  deriving DecidableEq, Repr

/-- The voltages at a backlight (R82, R216). -/
structure BlVolts where
  /-- its output in mV -/
  vout : Nat := 0
  /-- VRES in mV -/
  vres : Nat := 0
  deriving DecidableEq, Repr

/-- How a selective-wake decoder sees a frame (R384). -/
structure FrameSeen where
  /-- it ends in an error -/
  bad : Bool := false
  /-- its rate, as PN_CFG.RATE codes it -/
  rate : Fin 4 := 0
  deriving DecidableEq, Repr

/-- A link that the PHY of a port shows (R397). -/
structure PhyLink where
  /-- the port -/
  port : Fin 4 := 0
  /-- the neighbour is the master of the link -/
  peerMaster : Bool := false
  deriving DecidableEq, Repr

/-- What the comparators of one Trellis column read in a line visit (R225, R228, R230). -/
structure ColRead where
  /-- voltage of the column in step 5, in mV -/
  level : Nat := 0
  /-- current of the column in step 5, in µA -/
  current : Nat := 0
  /-- voltage of the column at the end of the pre-charge of step 2, in mV -/
  pre : Nat := 0
  deriving DecidableEq, Repr

/-- The commands, in the order of the table; the ones that carry nothing and a few others stand last,
since compiled code can build only the first 245 constructors that carry something. -/
inductive Instr where
  /-- READ (R57): Host READ command reads one register through the normal view and returns its data, with RC side effects. -/
  | read (h : HostHdr) (addr : Word)
  /-- WRITE (R57): Host WRITE command writes one register through any view and is acknowledged once the target accepts it. -/
  | write (h : HostHdr) (addr data : Word)
  /-- BLOCK_READ (R57): Host BLOCK READ reads 1 to 256 consecutive words and stops with NAK BUSERR at the first bus error. -/
  | blockRead (h : HostHdr) (addr : Word) (count : Nat)
  /-- SESSION_OPEN (R53): Host SESSION OPEN verifies the host, exchanges ephemeral keys and opens, replaces or closes the session on its path. -/
  | sessionOpen (h : HostHdr) (level keyIndex nonce pub sig : Nat)
  /-- AUTH_FAIL_HOLD_EXPIRY (R56): The 1 s hold after a failed SESSION OPEN ends, and service-level openings are evaluated again. -/
  | authFailHoldExpiry (p : Fin 3)
  /-- SESSION_TIMEOUT (R56): A session ends after 60 s without an accepted command. -/
  | sessionTimeout (p : Fin 3)
  /-- POWER (R340): Host POWER command requests a power state for this module or the whole waterway. -/
  | power (h : HostHdr) (target scope : Nat)
  /-- PIECE (R480): Host PIECE command delivers one 4 KiB update piece and returns its status. -/
  | piece (h : HostHdr) (id piece : Nat) (data : List Nat) (flashOk : Bool)
  /-- LOG_READ (R449): Host LOG READ returns Logbook records in SEQ order from a start sequence, skipping holes. -/
  | logRead (h : HostHdr) (start count : Nat)
  /-- LOG_CLEAR (R451): Host LOG CLEAR with a valid authorisation code invalidates the Logbook and writes a CLEAR record. -/
  | logClear (h : HostHdr) (code : ClearCode)
  /-- ENABLE (R57): Host ENABLE command requests the consistency check of a subsystem and answers with its result. -/
  | enable (h : HostHdr) (sub val : Nat)
  /-- UNKNOWN_TYPE (R58): A well-formed command frame whose TYPE is not defined receives NAK UNKNOWN_TYPE. -/
  | unknownType (h : HostHdr) (typ : Nat)
  /-- TOWPATH_FRAME_DISCARD (R51): A Towpath frame with a bad CRC, missing delimiter, invalid code group or excessive LEN is discarded and counted. -/
  | towpathFrameDiscard (p : Fin 3)
  /-- TOWPATH_LINK_CHANGE (R62): The Towpath receiver gains or loses lock, raising EV240. -/
  | towpathLinkChange (up : Bool)
  /-- EVENT_HOLD_EXPIRY (R63): The HOLD window of an event source ends, allowing its merged pending notice to be sent. -/
  | eventHoldExpiry (n : Fin 256)
  /-- REGISTER_WRITE (R36): A write to a register without its own row acts on each field by view and access code, with privilege and lock checks. -/
  | registerWrite (m : Sender) (addr data : Word)
  /-- RC_READ_CLEAR (R36): A normal-view read clears the RC bits it returns as 1. -/
  | rcReadClear (m : Sender) (addr : Word)
  /-- DIE_ACCESS_TIMEOUT (R39): A die register access not completed within 500 µs after issue ends in a TIMEOUT bus error. -/
  | dieAccessTimeout (m : Fin 12) (addr : Word) (w : CutWord) (h : HostHdr)
  /-- CULVERT_FRAME_RECEIVE (R17): A die receives a Culvert frame, checks CRC and sequence, NAKs bad ones and delivers good ones in order. -/
  | culvertFrameReceive (cv : Fin 6) (toDie : Bool) (frame : BitVec 80)
  /-- CULVERT_LINK_DOWN (R17): A frame failing four consecutive attempts declares the link down, discards its frames and raises the Culvert fault. -/
  | culvertLinkDown (cv : Fin 6) (toDie : Bool)
  /-- CULVERT_LINK_TRAINED (R17): A Culvert completes training, shows UP and resynchronises states, inputs and claims. -/
  | culvertLinkTrained (cv : Fin 6)
  /-- CULVERT_TRAINING_ATTEMPT_FAIL (R17): A training attempt fails and is repeated at once. -/
  | culvertTrainingAttemptFail (cv : Fin 6)
  /-- HEARTBEAT (R18): A side whose lane has been idle for 8 µs sends a heartbeat frame. -/
  | heartbeat (cv : Fin 6) (toDie : Bool)
  /-- LODGE_SILENCE_DETECTED (R29): A power, Arbour or Glasshouse die finds the Lodge silent, holds outputs, discards shadows and starts limp timers. -/
  | lodgeSilenceDetected (die : Fin 5)
  /-- CLAIM_FRAME (R30): A bank reads a claim frame and returns to Lodge control, unchanged or after its safe state. -/
  | claimFrame (bank : Fin 15)
  /-- MOOR_FRAME (R31): A die accepts a moor frame, keeps configured channels under hold and stops its limp timers. -/
  | moorFrame (die : Fin 5)
  /-- CHW (R289): Tiller CHW writes a lock-port word, queuing it in the lock set or applying it immediately. -/
  | chw (e : Fin 9) (r rs1 : Fin 32) (m : Bool) (sp : Fin 16) (off : BitVec 11)
  /-- SET_COMPLETE_ACK (R24): A die acknowledges the set-complete frame when its shadow holds the announced count. -/
  | setCompleteAck (cv : Fin 5)
  /-- IMMEDIATE_COMMAND_APPLY (R26): A die applies an immediate class 1 command to its active register on receipt and cancels any queued write to the field. -/
  | immediateCommandApply (cv : Fin 5)
  /-- LIMP_EXPIRY (R118): A bank's limp timer reaches its expiry tick and the bank applies its safe-state table. -/
  | limpExpiry (bank : Fin 15)
  /-- VBAT_BAND_CHANGE (R69): VBAT passes a band threshold for the whole filter window and the Harbour moves it into the next band. -/
  | vbatBandChange (mv dur : Nat)
  /-- REVERSE_DETECTED (R70): BATT_SENSE below −0.3 V for 2 µs turns the FET gate off, sets REVERSE and enters Dropout at once. -/
  | reverseDetected (mv : Int) (dur : Nat)
  /-- REVERSE_CLEARED (R70): BATT_SENSE above +3.0 V for 50 µs drives the FET gate on again. -/
  | reverseCleared (mv : Int) (dur : Nat)
  /-- LV_UNDERVOLTAGE_RESET (R73): LV below 4.2 V for 2 µs makes the Harbour assert LRST and reset the Lodge. -/
  | lvUndervoltageReset (mv dur : Nat)
  /-- LODGE_RESTART (R73): LV above 4.6 V for 1 ms lets the Lodge leave reset and start. -/
  | lodgeRestart (mv dur : Nat)
  /-- BOOST_EN_WRITE (R74): Writing BOOST_EN starts the reservoir, stops it, or clears FAULT by a 0-then-1 sequence. -/
  | boostEnWrite (m : Fin 12) (v : Bool)
  /-- RESERVOIR_LEVEL_CHANGE (R74): VRES crosses a reservoir threshold and the reservoir moves between PRECHARGE, BOOST, FULL and RIDE. -/
  | reservoirLevelChange (vres vbat : Nat)
  /-- RESERVOIR_SHORT (R76): VRES below 2 V 5 ms after precharge begins puts the reservoir in FAULT with SHORT. -/
  | reservoirShort (vres : Nat)
  /-- RESERVOIR_TIMEOUT (R76): VRES not at 40 V within 400 ms of precharge puts the reservoir in FAULT with TIMEOUT. -/
  | reservoirTimeout (vres : Nat)
  /-- CAP_ESTIMATE (R77): At cold start the charge from 40 to 64 V yields CAP_EST and may set CAP_LOW. -/
  | capEstimate (charge : Nat)
  /-- VALVE_DECAY_DIVERT (R81): VRES reaching 76 V moves every valve decay to its 58 V clamp and sets OVP. -/
  | valveDecayDivert (vres : DivertSeen)
  /-- VALVE_DECAY_RETURN (R81): VRES below 74 V for 100 µs returns valve decay paths to VRES. -/
  | valveDecayReturn (vres dur : Nat)
  /-- LOAD_SHED (R82): VRES falls below a load's shed level and the Glasshouse turns that load off. -/
  | loadShed (load : Fin 10) (vres : Nat)
  /-- SHED_RESTART (R82): VRES 6 V above a shed level for 1 ms restarts the shed load with soft start. -/
  | shedRestart (load : Fin 10) (vres dur : Nat)
  /-- CAMERA_RAIL_ENABLE (R84): EN going from 0 to 1 ramps a camera rail to VSET; a 0-then-1 clears latches and retry counts. -/
  | cameraRailEnable (m : Fin 12) (n : Fin 6) (en : Bool)
  /-- CAMERA_RAIL_LATCH (R85): A camera rail protection filter expires and the rail latches off with EV011. -/
  | cameraRailLatch (n : Fin 6) (cond : Fin 4) (level dur : Nat)
  /-- CAMERA_RAIL_RETRY (R86): 100 ms after an over-current or short latch, a rail with retries left restarts if no thermal veto holds. -/
  | cameraRailRetry (n : Fin 6)
  /-- CAMERA_RAIL_POWER_SHED (R87): The six-rail power sum above 48 W for 1 ms sheds one rail and sets SHED_P. -/
  | cameraRailPowerShed (power dur : Nat)
  /-- TEMPERATURE_READ (R90): Every 10 ms the six sensors are read and TS0 is compared with TBASE_MAX, raising EV014 and FLT63. -/
  | temperatureRead (t0 t1 t2 t3 t4 t5 : Int)
  /-- OC_LATCH (R102): A high-side channel's current exceeds its threshold for OC_FILT and the channel latches off with OCL. -/
  | ocLatch (ch : Fin 96) (ma dur : Nat) (limit : Bool)
  /-- HLIM_LATCH (R104): The hard limit engaged for 4 ms inside the inrush window latches the channel off with HLIM. -/
  | hlimLatch (ch : Fin 96) (dur : Nat)
  /-- INRUSH_WINDOW_END (R103): A channel's inrush window ends and OC_TH becomes the threshold; INRUSH goes to ON. -/
  | inrushWindowEnd (ch : Fin 96)
  /-- THERMAL_LATCH (R105): TJ reaches 170 °C, latching an on channel off with THERM and starting the thermal veto. -/
  | thermalLatch (ch : Fin 96) (tj : Int)
  /-- VETO_CLEAR (R106): Every veto of a channel clears and a VETOED channel with its demand on turns on. -/
  | vetoClear (ch : Fin 96) (tj : Int)
  /-- RETRY_DUE (R107): RETRY_DLY elapses after a latch and the channel retries, waits in VETOED or defers. -/
  | retryDue (ch : Fin 96)
  /-- PAV_CMD_WRITE (R97): A PAV_CMD write applied to a channel changes its demand or duty, possibly making a demand edge or turn-off. -/
  | pavCmdWrite (m : Sender) (ch : Fin 96) (w : Word)
  /-- PAV_CLR (R109): CLR in PAV_CMD clears RETRIES and restarts a latched channel whose demand is on. -/
  | pavClr (m : Sender) (ch : Fin 96)
  /-- WIRE_MODEL_TICK (R111): Each millisecond the wire integrator updates Θ and may warn, trip or clear the wire veto. -/
  | wireModelTick (ch : Fin 96) (i2 : Nat)
  /-- WIRE_CONSTANT_WRITE (R112): A write that changes WIRE_K or WIRE_TAU sets Θ to 50 % of the new K. -/
  | wireConstantWrite (m : Fin 12) (ch : Fin 96) (w : Word)
  /-- PAIR_IMBALANCE (R96): Half-current imbalance above 30 % for 10 ms in a pair raises EV029. -/
  | pairImbalance (ch : Fin 96) (ia ib dur : Nat)
  /-- UV_TURN_OFF (R113): VBAT below UV_TH for 10 µs turns off every on channel of that class on the die into UVOFF. -/
  | uvTurnOff (die cls : Fin 3) (mv dur : Nat)
  /-- UV_RESTART_WINDOW_END (R113): VBAT at or above UV_TH + UV_HYST for 1 ms starts the ordered restart of UVOFF channels. -/
  | uvRestartWindowEnd (die cls : Fin 3) (mv dur : Nat)
  /-- UV_RESTART_SLOT (R113): Each 50 µs the next UVOFF channel restarts, resuming or soft-starting. -/
  | uvRestartSlot (p : Fin 6)
  /-- SOFT_START_COMPLETE (R113): A soft-start ramp reaches DUTY and the channel leaves SOFT. -/
  | softStartComplete (ch : Fin 96)
  /-- ONSTATE_BURST_COMPLETE (R129): An 8-sample on-state burst completes, writes MEAS_IV and counts open-load observations. -/
  | onstateBurstComplete (ch : Fin 96) (iv v : Nat)
  /-- OFFSTATE_TEST_COMPLETE (R131): An off-state test ends its two phases and yields OK, OPEN_OFF or SHORT_BAT. -/
  | offstateTestComplete (ch : Fin 96) (va vb : Nat)
  /-- LATCH_CAPTURE (R133): After an OCL or HLIM latch the output voltage is sampled and classed as SHORT_GND or OVERLOAD. -/
  | latchCapture (ch : Fin 96) (v : Nat)
  /-- DIAG_STRETCH (R135): A stretched PWM period holds the output on until a burst completes and records the excess as debt. -/
  | diagStretch (ch : Fin 96) (ns : Nat)
  /-- BACKGROUND_SAMPLE (R138): A background slot takes a harness-health sample pair from the next eligible channel. -/
  | backgroundSample (b : Fin 6) (k : Fin 16) (iv v : Nat) (ready : BitVec 16)
  /-- HH_BATCH_SEND (R138): Every 10 ms a die sends its harness-health sums as class 4 frames and restarts them. -/
  | hhBatchSend (die : Fin 3)
  /-- HH_BATCH_ARRIVAL (R139): The Lodge computes, compensates and accumulates a batch resistance into the trend day. -/
  | hhBatchArrival (ch : Fin 96)
  /-- RELEARN (R141): RELEARN in MEAS_HHCMD restarts baseline learning of channel CH. -/
  | relearn (m : Fin 12) (ch : Fin 128)
  /-- CLOSE_DAY (R140): CLOSE_DAY in MEAS_HHCMD closes the trend day for all channels. -/
  | closeDay (m : Fin 12)
  /-- PEAK_GRANT (R159): In its slot a bank grants its peak to one requesting valve and defers the others. -/
  | peakGrant (b : Fin 4) (vres : Nat)
  /-- PEAK_REQUEST_REFUSED (R160): A deferral window ends without a grant and the valve enters REFUSED. -/
  | peakRequestRefused (v : Fin 24)
  /-- PEAK_END (R155): PEAK_T or PEAK_EXT after the kink elapses and the valve enters HOLD, releasing the peak. -/
  | peakEnd (v : Fin 24)
  /-- SLU_CMD_WRITE (R154): An applied SLU_CMD write changes a valve's demand or setpoint, starting a peak request, PROP entry or decay. -/
  | sluCmdWrite (m : Sender) (v : Fin 24) (w : Word)
  /-- SLU_CLR (R173): CLR in SLU_CMD makes a new request for a LATCHED or REFUSED valve. -/
  | sluClr (m : Sender) (v : Fin 24)
  /-- DECAY_SAFE_POINT (R162): A decaying coil current falls below 50 mA and the valve goes to OFF, LATCHED or SUPPLY or starts a pending turn-on. -/
  | decaySafePoint (v : Fin 24) (ma mj : Nat)
  /-- DECAY_TIMEOUT (R162): A decay not reaching its safe point within 50 ms raises EV061 and is treated as reaching it. -/
  | decayTimeout (v : Fin 24) (mj : Nat)
  /-- DECAY_PATH_SWITCH (R162): VRES near VBNK moves a fast decay to the clamp, or back when VRES recovers. -/
  | decayPathSwitch (v : Fin 24) (vres vbnk mj : Nat)
  /-- KINK_SAMPLE (R166): Every 10 µs in the window the peak owner is sampled and the kink detector may report a kink. -/
  | kinkSample (v : Fin 24) (x : Nat)
  /-- KINK_WINDOW_CLOSE (R167): A kink window closes without a kink, setting NOMOVE and raising EV051. -/
  | kinkWindowClose (v : Fin 24)
  /-- LOOP_SATURATION (R152): A valve loop at 100 % duty and more than 10 % low for 5 ms sets SAT and raises EV052. -/
  | loopSaturation (v : Fin 24) (duty ma dur : Nat)
  /-- VALVE_OPEN_CHECK (R168): A 2 ms or 10 ms on-state check counts an open-load observation for a valve. -/
  | valveOpenCheck (v : Fin 24) (ma : Nat)
  /-- VALVE_OC_LATCH (R169): A low-side driver at or above 6 A for 2 µs latches, classing SHORT_LOAD or SHORT_BAT. -/
  | valveOcLatch (v : Fin 24) (ma rise dur : Nat)
  /-- BANK_IMBALANCE (R170): Bank current exceeding the low-side sum by 300 mA for 100 µs sets LEAK and may latch the bank switch. -/
  | bankImbalance (b : Fin 4) (ib sum dur : Nat)
  /-- VALVE_OFFSTATE_TEST (R171): A 500 µs off-state test of a valve on a live or dead bank yields a result or BNODE_HI. -/
  | valveOffstateTest (v : Fin 24) (pin vbnk : Nat)
  /-- VALVE_THERMAL_LATCH (R173): A low-side driver reaching 170 °C latches with THERM and holds its veto. -/
  | valveThermalLatch (v : Fin 24) (tj : Int)
  /-- VALVE_VETO_CLEAR (R173): A valve's thermal veto clears and a VETOED valve with its demand on turns on. -/
  | valveVetoClear (v : Fin 24) (tj : Int)
  /-- BANK_SWITCH_LATCH (R150): A bank switch latches on over-current or temperature, and its valves decay into SUPPLY. -/
  | bankSwitchLatch (b : Fin 4) (therm : Bool) (ma dur : Nat) (t : Int)
  /-- BCLR (R150): BCLR releases a latched bank switch with its veto clear and restarts its valves. -/
  | bclr (m : Fin 12) (b : Fin 4)
  /-- BR_CMD_WRITE (R182): An applied BR_CMD write changes a motor's demand, direction, duty or GOTO target. -/
  | brCmdWrite (m : Sender) (h : Fin 16) (w : Word)
  /-- BR_CLR (R184): CLR in BR_CMD restarts a LATCHED, STALLED or TRAPPED motor. -/
  | brClr (m : Sender) (h : Fin 16)
  /-- BRAKE_END (R186): BRK_T elapses; the motor reaches its safe point and enters its next state or a pending turn-on. -/
  | brakeEnd (h : Fin 16)
  /-- BRIDGE_LATCH (R187): A bridge switch over-current, hard-limit or thermal latch turns all switches off and sets CODE. -/
  | bridgeLatch (h : Fin 16) (kind : Fin 3) (highSide : Bool) (ma dur : Nat) (tj : Int)
  /-- BRIDGE_VETO_CLEAR (R187): A half-bridge thermal veto clears and a VETOED motor turns on. -/
  | bridgeVetoClear (h : Fin 16) (tj : Int)
  /-- START_BLANK_END (R188): ST_BLK ends in RUN; an open-load observation is counted and CODE may return to OK. -/
  | startBlankEnd (h : Fin 16) (ma : Nat)
  /-- STALL (R189): Current at STALL_TH for STALL_T or no ripple for RIP_TO brakes the motor into STALLED. -/
  | stall (h : Fin 16) (ma dur : Nat)
  /-- RIPPLE_COUNTED (R190): A commutation ripple updates POS and RPER and feeds the anti-trap comparison. -/
  | rippleCounted (h : Fin 16) (period : Nat)
  /-- PARK_REACHED (R194): The debounced park input becomes active and a PARKING motor brakes. -/
  | parkReached (p : Fin 2) (level : Bool) (dur : Nat)
  /-- PARK_TIMEOUT (R194): PARK_TO elapses before the park input and the motor brakes with PARKTO. -/
  | parkTimeout (h : Fin 16)
  /-- LF_DRIVER_LATCH (R199): An LF antenna driver at 2.5 A for 5 µs latches and raises EV075. -/
  | lfDriverLatch (a : Fin 6) (ma dur : Nat)
  /-- LIGHT_CMD_WRITE (R206): An applied LC_CMD or BL_CMD write changes a sink's or backlight's demand or level. -/
  | lightCmdWrite (m : Sender) (k : Fin 52) (w : Word)
  /-- LIGHT_CLR (R210): CLR restarts a LATCHED sink or backlight. -/
  | lightClr (m : Sender) (k : Fin 52)
  /-- FADE_UPDATE (R207): Every 100 µs a fading element steps its level and may complete FADE_IN or reach level 0. -/
  | fadeUpdate (k : Fin 52)
  /-- SINK_OBSERVATION (R209): Sink comparators are read at the end of the 40 µs window and open or short results counted. -/
  | sinkObservation (k : Fin 48) (vsink ua : Nat)
  /-- FOLDBACK_READ (R212): Every 10 ms TS5 sets the foldback factor and may trigger or clear thermal shutdown. -/
  | foldbackRead (t : Int)
  /-- BACKLIGHT_LATCH (R216): A backlight open, short or over-current condition latches the converter off. -/
  | backlightLatch (n : Fin 4) (cond : Fin 3) (v : BlVolts) (ma dur : Nat)
  /-- BACKLIGHT_SATURATION (R216): A backlight more than 10 % below target for 5 ms sets SAT and raises EV086. -/
  | backlightSaturation (n : Fin 4) (ma dur : Nat)
  /-- PHOTODIODE_INTEGRATION (R218): Every 10 ms a photodiode input reports its integrated current with auto-ranging. -/
  | photodiodeIntegration (p : Fin 4) (val : Nat)
  /-- SENSOR_READ (R219): Every 10 ms the Lodge reads each enabled I²C sensor slot and sends the counts to the Glasshouse. -/
  | sensorRead (n : Fin 4) (data : BitVec 48) (ack arrived : Bool)
  /-- SENSOR_TRANSACTION_TIMEOUT (R220): An I²C transaction not complete within 2 ms counts as a bad tick. -/
  | sensorTransactionTimeout (n : Fin 4)
  /-- TRELLIS_FRAME_START (R226): A Trellis frame starts, measuring VTRSUP and swapping buffers if SHOW changed. -/
  | trellisFrameStart (vtrsup : Nat)
  /-- TRELLIS_LINE_VISIT (R225): Each line time blanks, pre-charges, switches the line and runs the column sinks. -/
  | trellisLineVisit (levels currents pres : List Nat)
  /-- LINE_SWITCH_LATCH (R231): A line switch latches on over-current or temperature and its line is skipped. -/
  | lineSwitchLatch (l : Fin 16) (therm : Bool) (ma dur : Nat) (t : Int)
  /-- TR_CMD_WRITE (R227): An applied TR_CMD write starts or stops scanning or selects the displayed buffer. -/
  | trCmdWrite (m : Sender) (w : Word)
  /-- LCLR (R231): LCLR releases latched lines with clear vetoes and leaves FAULT. -/
  | lclr (m : Sender)
  /-- DEBOUNCE_WINDOW_END (R241): A debounce window reaches its end tick with stable samples and the debounced level changes. -/
  | debounceWindowEnd (j : Fin 128)
  /-- INPUT_CHANGE_DELIVERY (R242): A debounced change reaches the Lodge input image, sets IN_EDGE and may raise EV096. -/
  | inputChangeDelivery (j : Fin 128)
  /-- INPUT_POLL (R243): In Moored or Berthed an input is polled; enough counting polls wake the module. -/
  | inputPoll (j : Fin 128) (mv : Int)
  /-- FO_CMD_WRITE (R245): A FO_CMD write is applied by the owner or ignored as non-owner, and opens a new owner window. -/
  | foCmdWrite (m : Sender) (o : Fin 16) (w : Word)
  /-- FO_CLR (R247): CLR restarts a field output in THERMOFF with AUTO = 0. -/
  | foClr (m : Sender) (o : Fin 16)
  /-- DEMAG_SAFE_POINT (R246): A demagnetising field output reaches its safe point; the clamp disarms and a pending turn-on proceeds. -/
  | demagSafePoint (o : Fin 16) (pin : Int)
  /-- FO_THERMAL_SHUTDOWN (R247): A field output at thermal shutdown turns off through DEMAG into THERMOFF. -/
  | foThermalShutdown (o : Fin 16) (t : Int)
  /-- FO_AUTO_RESTART (R247): With AUTO = 1 the output turns on again once its veto clears. -/
  | foAutoRestart (o : Fin 16) (t : Int)
  /-- FO_DIAGNOSIS (R248): An output below 5 mA for 10 ms sets OPEN, or an off pin above 3 V for 10 ms sets SHORT_BAT. -/
  | foDiagnosis (o : Fin 16) (ua mv dur : Nat)
  /-- OWNER_WINDOW_EXPIRY (R250): The owner window ends without a write and the output enters owner limp. -/
  | ownerWindowExpiry (o : Fin 16)
  /-- OWNER_LIMP_EXPIRY (R250): Owner limp lasts LIMP_TIME and the output takes its safe state. -/
  | ownerLimpExpiry (o : Fin 16)
  /-- L_OVERRUN (R260): A class L list using L_BUDGET slots without ending traps fatally with L_OVERRUN. -/
  | lOverrun (k : Fin 8)
  /-- CLASS_F_WATCHDOG (R262): No class F pass within 16 × F_WD cycles raises EV114 and may stall the Keeper. -/
  | classFWatchdog (k : Fin 8)
  /-- KEEPER_RESTART (R272): RESTART in KEEPER_CTRL stops a Keeper, clears it, optionally reloads data and releases it at the next strobe. -/
  | keeperRestart (m : Fin 12) (k : Fin 8) (keep : Bool)
  /-- ADD (R280): ALU ADD writes rs1 + rs2 modulo 2^32. -/
  | add (e : Fin 9) (rd rs1 rs2 : Fin 32)
  /-- SUB (R280): ALU SUB writes rs1 − rs2 modulo 2^32. -/
  | sub (e : Fin 9) (rd rs1 rs2 : Fin 32)
  /-- AND (R280): ALU AND writes the bitwise AND. -/
  | and (e : Fin 9) (rd rs1 rs2 : Fin 32)
  /-- OR (R280): ALU OR writes the bitwise OR. -/
  | or (e : Fin 9) (rd rs1 rs2 : Fin 32)
  /-- XOR (R280): ALU XOR writes the bitwise exclusive OR. -/
  | xor (e : Fin 9) (rd rs1 rs2 : Fin 32)
  /-- SHL (R280): ALU SHL shifts left with zero fill. -/
  | shl (e : Fin 9) (rd rs1 rs2 : Fin 32)
  /-- SHR (R280): ALU SHR shifts right with zero fill. -/
  | shr (e : Fin 9) (rd rs1 rs2 : Fin 32)
  /-- SHA (R280): ALU SHA shifts right with sign fill. -/
  | sha (e : Fin 9) (rd rs1 rs2 : Fin 32)
  /-- LTS (R280): ALU LTS writes 1 if rs1 < rs2 signed. -/
  | lts (e : Fin 9) (rd rs1 rs2 : Fin 32)
  /-- LTU (R280): ALU LTU writes 1 if rs1 < rs2 unsigned. -/
  | ltu (e : Fin 9) (rd rs1 rs2 : Fin 32)
  /-- MIN (R280): ALU MIN writes the signed minimum. -/
  | min (e : Fin 9) (rd rs1 rs2 : Fin 32)
  /-- MAX (R280): ALU MAX writes the signed maximum. -/
  | max (e : Fin 9) (rd rs1 rs2 : Fin 32)
  /-- MUL (R280): ALU MUL writes the low 32 bits of the product at distance 3. -/
  | mul (e : Fin 9) (rd rs1 rs2 : Fin 32)
  /-- MHS (R280): ALU MHS writes the high 32 bits of the signed product. -/
  | mhs (e : Fin 9) (rd rs1 rs2 : Fin 32)
  /-- MHU (R280): ALU MHU writes the high 32 bits of the unsigned product. -/
  | mhu (e : Fin 9) (rd rs1 rs2 : Fin 32)
  /-- DIVS (R280): ALU DIVS writes the signed quotient at distance 20, 0 for divisor 0. -/
  | divs (e : Fin 9) (rd rs1 rs2 : Fin 32)
  /-- DIVU (R280): ALU DIVU writes the unsigned quotient at distance 20, 0 for divisor 0. -/
  | divu (e : Fin 9) (rd rs1 rs2 : Fin 32)
  /-- MODS (R280): ALU MODS writes the signed remainder at distance 20. -/
  | mods (e : Fin 9) (rd rs1 rs2 : Fin 32)
  /-- MODU (R280): ALU MODU writes the unsigned remainder at distance 20. -/
  | modu (e : Fin 9) (rd rs1 rs2 : Fin 32)
  /-- ADDK (R279): ADDK writes rs1 plus a sign-extended immediate. -/
  | addk (e : Fin 9) (rd rs1 : Fin 32) (imm : BitVec 16)
  /-- ANDK (R279): ANDK writes rs1 AND a zero-extended immediate. -/
  | andk (e : Fin 9) (rd rs1 : Fin 32) (imm : BitVec 16)
  /-- ORK (R279): ORK writes rs1 OR a zero-extended immediate. -/
  | ork (e : Fin 9) (rd rs1 : Fin 32) (imm : BitVec 16)
  /-- XORK (R279): XORK writes rs1 XOR a zero-extended immediate. -/
  | xork (e : Fin 9) (rd rs1 : Fin 32) (imm : BitVec 16)
  /-- LTSK (R279): LTSK compares rs1 with a signed immediate. -/
  | ltsk (e : Fin 9) (rd rs1 : Fin 32) (imm : BitVec 16)
  /-- LTUK (R279): LTUK compares rs1 with an unsigned immediate. -/
  | ltuk (e : Fin 9) (rd rs1 : Fin 32) (imm : BitVec 16)
  /-- SHK (R279): SHK shifts rs1 by an immediate amount and kind. -/
  | shk (e : Fin 9) (rd rs1 : Fin 32) (kind : Fin 4) (amt : Fin 32)
  /-- HI (R279): HI writes the immediate shifted left by 16. -/
  | hi (e : Fin 9) (rd : Fin 32) (imm : BitVec 16)
  /-- LDW (R281): LDW loads a word from memory at distance 2. -/
  | ldw (e : Fin 9) (rd rs1 : Fin 32) (imm : BitVec 16)
  /-- LDH (R281): LDH loads a sign-extended halfword. -/
  | ldh (e : Fin 9) (rd rs1 : Fin 32) (imm : BitVec 16)
  /-- LDHU (R281): LDHU loads a zero-extended halfword. -/
  | ldhu (e : Fin 9) (rd rs1 : Fin 32) (imm : BitVec 16)
  /-- LDB (R281): LDB loads a sign-extended byte. -/
  | ldb (e : Fin 9) (rd rs1 : Fin 32) (imm : BitVec 16)
  /-- LDBU (R281): LDBU loads a zero-extended byte. -/
  | ldbu (e : Fin 9) (rd rs1 : Fin 32) (imm : BitVec 16)
  /-- STW (R281): STW stores a word to memory. -/
  | stw (e : Fin 9) (rs2 rs1 : Fin 32) (imm : BitVec 16)
  /-- STH (R281): STH stores the low halfword. -/
  | sth (e : Fin 9) (rs2 rs1 : Fin 32) (imm : BitVec 16)
  /-- STB (R281): STB stores the low byte. -/
  | stb (e : Fin 9) (rs2 rs1 : Fin 32) (imm : BitVec 16)
  /-- BREQ (R282): BREQ branches if rs1 equals rs2, after its delay slot. -/
  | breq (e : Fin 9) (rs1 rs2 : Fin 32) (off : BitVec 16)
  /-- BRNE (R282): BRNE branches if rs1 differs from rs2. -/
  | brne (e : Fin 9) (rs1 rs2 : Fin 32) (off : BitVec 16)
  /-- BRLT (R282): BRLT branches if rs1 < rs2 signed. -/
  | brlt (e : Fin 9) (rs1 rs2 : Fin 32) (off : BitVec 16)
  /-- BRGE (R282): BRGE branches if rs1 ≥ rs2 signed. -/
  | brge (e : Fin 9) (rs1 rs2 : Fin 32) (off : BitVec 16)
  /-- BRLO (R282): BRLO branches if rs1 < rs2 unsigned. -/
  | brlo (e : Fin 9) (rs1 rs2 : Fin 32) (off : BitVec 16)
  /-- BRHS (R282): BRHS branches if rs1 ≥ rs2 unsigned. -/
  | brhs (e : Fin 9) (rs1 rs2 : Fin 32) (off : BitVec 16)
  /-- BKEQ (R282): BKEQ branches if rs1 equals k8. -/
  | bkeq (e : Fin 9) (rs1 : Fin 32) (k : BitVec 8) (off : BitVec 13)
  /-- BKNE (R282): BKNE branches if rs1 differs from k8. -/
  | bkne (e : Fin 9) (rs1 : Fin 32) (k : BitVec 8) (off : BitVec 13)
  /-- BKLT (R282): BKLT branches if rs1 < k8 signed. -/
  | bklt (e : Fin 9) (rs1 : Fin 32) (k : BitVec 8) (off : BitVec 13)
  /-- BKGE (R282): BKGE branches if rs1 ≥ k8 signed. -/
  | bkge (e : Fin 9) (rs1 : Fin 32) (k : BitVec 8) (off : BitVec 13)
  /-- BKLO (R282): BKLO branches if rs1 < k8 unsigned. -/
  | bklo (e : Fin 9) (rs1 : Fin 32) (k : BitVec 8) (off : BitVec 13)
  /-- BKHS (R282): BKHS branches if rs1 ≥ k8 unsigned. -/
  | bkhs (e : Fin 9) (rs1 : Fin 32) (k : BitVec 8) (off : BitVec 13)
  /-- J (R282): J jumps by its offset after its delay slot. -/
  | j (e : Fin 9) (off : BitVec 26)
  /-- JAL (R284): JAL jumps and writes its delay slot's address to x31. -/
  | jal (e : Fin 9) (off : BitVec 26)
  /-- JX (R279): JX jumps to the address in rs1. -/
  | jx (e : Fin 9) (rs1 : Fin 32)
  /-- JALX (R284): JALX jumps to rs1 and writes the link to rd. -/
  | jalx (e : Fin 9) (rd rs1 : Fin 32)
  /-- RET (R284): RET jumps to rs1 + 4. -/
  | ret (e : Fin 9) (rs1 : Fin 32)
  /-- CHR (R263): CHR reads a lock-port word from the present snapshot at distance 4. -/
  | chr (e : Fin 9) (r rs1 : Fin 32) (sp : Fin 16) (off : BitVec 11)
  /-- RDC (R290): RDC reads a control register of the running class. -/
  | rdc (e : Fin 9) (r : Fin 32) (cr : BitVec 8)
  /-- WRC (R290): WRC writes a control register, ignoring RO fields. -/
  | wrc (e : Fin 9) (r : Fin 32) (cr : BitVec 8)
  /-- RTE (R293): RTE clears INH and resumes at TPC or TNPC. -/
  | rte (e : Fin 9) (skip : Bool)
  /-- YIELD (R295): YIELD ends the present list, switching to class F or completing the pass. -/
  | yield (e : Fin 9)
  /-- CALLM (R298): CALLM checks and builds a masked register frame and calls its target. -/
  | callm (e : Fin 9) (off : BitVec 26)
  /-- RETM (R299): RETM restores the masked registers from the frame and returns. -/
  | retm (e : Fin 9)
  /-- TRAP_ENTRY (R292): A trapping instruction has no effect; results land, trap registers are written and execution goes to EVEC or TVEC. -/
  | trapEntry (e : Fin 9) (cause : Fin 16) (word : Word)
  /-- COLD_START (R330): The Lodge leaves reset into a cold start: self-test, firmware and Chart verification, loading, discovery, checks and claims. -/
  | coldStart (fw : FwSeen)
  /-- WARM_START (R331): The Lodge leaves reset into a warm start using retained state, reloads Lodge-side sections and reclaims banks. -/
  | warmStart (fw : FwSeen) (topo : Option Word)
  /-- LIMP_CLR (R336): LIMP_CLR in a service session clears START_FAIL and causes a cold start. -/
  | limpClr (m : Fin 12)
  /-- CHECK_EN_REQUEST (R322): A write of 1 to a clear ENABLE bit queues that subsystem's consistency check. -/
  | checkEnRequest (m : Fin 12) (sub : Fin 18)
  /-- CHECK_EN_DISABLE (R326): A write of 0 to an ENABLE bit disables the subsystem or withdraws its queued check. -/
  | checkEnDisable (m : Fin 12) (sub : Fin 18)
  /-- CHECK_COMPLETE (R322): A consistency check ends, accepting or refusing, and records its result and a CHECK notice. -/
  | checkComplete (flash : Fin 3)
  /-- ENTRY_ABORT (R344): A wake before the commit point aborts entry and raises EV248. -/
  | entryAbort (kind : Fin 16) (index : Nat)
  /-- WAKE (R347): The Harbour records the wake source and returns the module to Run. -/
  | wake (kind : Fin 16) (index : Nat) (multi : Bool)
  /-- POWER_BARGE_RECEIVE (R409): A module receives a POWER barge, acknowledges it, and applies the request at its apply time. -/
  | powerBargeReceive (state reqId origin apply : Nat)
  /-- DOMAIN_ISOLATION_REQUEST (R349): A domain going down bars new transfers and drains those in flight. -/
  | domainIsolationRequest (dom : Fin 32) (inFlight : Nat)
  /-- DOMAIN_DRAINED (R349): The last in-flight transfer completes and the domain is isolated. -/
  | domainDrained (dom : Fin 32)
  /-- FORCED_ISOLATION (R349): At the end of 50 µs the domain is isolated by force and open transfers abort. -/
  | forcedIsolation (dom : Fin 32) (engines hosts blocks : List OpenAccess)
  /-- POWER_DOMOFF_WRITE (R350): A POWER_DOMOFF write powers a domain down or up, or is refused as locked. -/
  | powerDomoffWrite (m : Fin 12) (w : Word)
  /-- CAN_FRAME_RECEIVE (R357): A received CAN frame is stored in the lowest matching object, or dropped and counted. -/
  | canFrameReceive (c : Fin 8) (f : CanFrame)
  /-- J1939_CONTENTION (R366): A contending claim with a lower NAME makes the module choose again or cannot claim. -/
  | j1939Contention (c : Fin 8) (name sa : Nat)
  /-- J1939_REQUEST (R366): A request for address claim is answered by the Warden. -/
  | j1939Request (c : Fin 8)
  /-- LIN_SCHEDULE_SLOT (R369): A commander slot starts and sends its frame, go-to-sleep or nothing. -/
  | linScheduleSlot (ch : Fin 12)
  /-- LIN_SCHED_SWITCH (R369): A SCHED write switches tables at the end of the current slot. -/
  | linSchedSwitch (m : Fin 12) (ch : Fin 12) (table : Fin 4)
  /-- LIN_FRAME_RECEIVE (R369): A LIN frame completes; subscribed data are stored and a go-to-sleep sets SLEEPCMD. -/
  | linFrameReceive (ch : Fin 12) (id : Fin 64) (data : BitVec 64)
  /-- LIN_ERROR (R371): A checksum, response, framing or short error is recorded. -/
  | linError (ch : Fin 12) (id : Fin 64) (kind : Fin 4) (dur : Nat)
  /-- LIN_HEADER (R368): A responder detects a break and sync and answers identifiers it publishes. -/
  | linHeader (ch : Fin 12) (id : Fin 64) (breakBits rate : Nat)
  /-- T1S_FRAME_RECEIVE (R372): A 10BASE-T1S frame passes the filter to the Warden or raises a receive error. -/
  | t1sFrameReceive (p : Fin 2) (dest : Nat) (bytes : List Nat) (bad : Bool)
  /-- PLCA_BEACON_LOST (R372): Beacons stop, PLCA_OK falls and LOST is set. -/
  | plcaBeaconLost (p : Fin 2)
  /-- SENT_FAST_FRAME (R374): A valid SENT fast frame writes SENT_FAST and SENT_TS, or an erroneous one is counted. -/
  | sentFastFrame (n : Fin 4) (cal status data : Nat) (crcOk : Bool) (ago : Nat)
  /-- SENT_SLOW_MESSAGE (R374): A completed slow message writes SENT_SLOW and raises EV154. -/
  | sentSlowMessage (n : Fin 4) (kind id data : Nat)
  /-- SENT_TIMEOUT (R374): No valid frame within SENT_TO sets TIMEOUT and raises EV155. -/
  | sentTimeout (n : Fin 4)
  /-- NETPM_XCV_WRITE (R379): A NETPM_XCV write requests a transceiver state, applied at the Harbour. -/
  | netpmXcvWrite (m : Fin 12) (t : Fin 18) (w : Word)
  /-- WKSEND (R383): WKSEND makes a LIN transceiver drive a 1 ms wake pulse. -/
  | wksend (m : Fin 12) (t : Fin 18)
  /-- CAN_WAKE_PATTERN (R382): An armed CAN transceiver detects the three-phase wake-up pattern and sets WKF. -/
  | canWakePattern (c : Fin 6) (p1 p2 p3 total : Nat)
  /-- LIN_WAKE (R383): An armed LIN transceiver detects a dominant pulse of LWAKE and sets WKF. -/
  | linWake (ch : Fin 12) (dur : Nat)
  /-- SELECTIVE_WAKE_FRAME (R384): A decoded CAN frame matching the selective-wake filter, or FEC overflow, wakes the transceiver. -/
  | selectiveWakeFrame (c : Fin 6) (f : CanFrame) (remote : Bool) (err : FrameSeen)
  /-- RUN_TRANSCEIVER_WAKE (R385): In Run a wake on a sleeping transceiver raises its event and may return it to Normal. -/
  | runTransceiverWake (t : Fin 18)
  /-- LIN_SLEEP_FOLLOW (R387): A responder with SLP_FOLLOW sleeps its transceiver on go-to-sleep or 4 s recessive. -/
  | linSleepFollow (ch : Fin 12)
  /-- KEEP_AWAKE_FRAME (R388): A keep-awake frame refreshes its channel's hold on the network. -/
  | keepAwakeFrame (c : Fin 6) (ide : Bool) (id : Nat)
  /-- KEEP_AWAKE_TIMEOUT (R388): NM_TO passes without a keep-awake frame and the channel stops holding. -/
  | keepAwakeTimeout (c : Fin 6)
  /-- TUNNEL_FRAME_COMPLETE (R425): All tunnel segments arrive and the frame is handled as if on the tunnel path. -/
  | tunnelFrameComplete (src : Nat) (flashOk : Bool)
  /-- TUNNEL_TIMEOUT (R425): A tunnel frame incomplete at TUN_TO is discarded. -/
  | tunnelTimeout (src : Nat)
  /-- PIECE_BARGE_ASSEMBLY (R411): 17 PIECE parts are collected into one piece and handled as a PIECE. -/
  | pieceBargeAssembly (src : Nat) (flashOk : Bool)
  /-- MLIMP_CLR (R442): MLIMP_CLR leaves module limp when no limp-reaction fault is set, restarting Keepers. -/
  | mlimpClr (m : Fin 12)
  /-- FAULT_STICKY_CLEAR (R438): A privileged W1C clear of fault bits may release ERRN. -/
  | faultStickyClear (m : Sender) (w : Fin 3) (bits : Word)
  /-- LOGBOOK_RECORD_DROP (R448): A record finding the queue full is dropped, counted and raises EV208 and FLT64. -/
  | logbookRecordDrop (typ : Fin 9) (source index : Nat)
  /-- ECC_READ_ERROR (R452): A read with a SECDED error is corrected or raises the uncorrectable consequence for its reader. -/
  | eccReadError (reader : Fin 10) (mram double : Bool) (addr : Word)
  /-- SCRUB (R453): The background scrubber reads and corrects the next memory word. -/
  | scrub (mram : Bool) (err : Fin 3)
  /-- CHECK_UNIT_GO (R456): GO arms a check unit with the initial value. -/
  | checkUnitGo (m : Fin 12) (u : Fin 4) (w : Word)
  /-- CHECK_UNIT_RESULT (R456): A check unit reaches CU_LEN bytes, writes CU_RES and reports match or mismatch. -/
  | checkUnitResult (u : Fin 4)
  /-- MODE_REQ (R469): A MODE_REQ write enters or leaves TEST or RECOVERY and draws a fresh LNONCE. -/
  | modeReq (m : Fin 12) (mode : Fin 16)
  /-- ARM (R485): ARM in READY runs the compatibility check and starts the hand-over of each component. -/
  | arm (m : Fin 12)
  /-- ABORT (R491): ABORT clears the staged update outside HANDOVER and raises EV223. -/
  | abort (m : Fin 12)
  /-- DIE_RESET (R112): A power die resets after loss of its supply: Θ restarts at 50 % of K, PAV_STAT clears, POS and NORM_OK clear and outputs stay off until claimed. -/
  | dieReset (die : Fin 5)
  /-- RAW_LEVEL_CHANGE (R241): A change of an input's raw sampled level opens a debounce window, or closes an open one without a change. -/
  | rawLevelChange (j : Fin 128) (mv : Int)
  /-- PWM_PERIOD_START (R100): A PWM period starts on a channel or sink: a new duty takes effect, stretch debt is repaid and the on-time begins. -/
  | pwmPeriodStart (element : Fin 148)
  /-- CAMERA_RAIL_VETO_CLEAR (R85): A camera rail's sensor falls below 135 °C, ending the thermal veto and letting a held-off retry proceed. -/
  | cameraRailVetoClear (n : Fin 6) (t : Int)
  /-- NOTICE_SEND (R60): When the notice path is free, the highest-priority pending item is built into a notice frame and its pending state clears. -/
  | noticeSend
  /-- LRST_ASSERTED (R18): Assertion of the Lodge reset line is detected by the dies, which treat the Lodge as silent. -/
  | lrstAsserted
  /-- LOCK_SET_CLOSE (R23): The lock port closes the set 4 µs before the strobe and sends set-complete frames. -/
  | lockSetClose
  /-- LARM_RAISE (R24): At 1 µs before the strobe the Lodge raises LARM if every required acknowledgement is in. -/
  | larmRaise
  /-- LOCK_STROBE (R25): LSTB toggles; dies copy shadow to active if LARM is high, the snapshot is taken and Keepers are released. -/
  | lockStrobe
  /-- LARM_DROP (R22): LARM drops 0.2 µs after the strobe. -/
  | larmDrop
  /-- LIFETIME_COUNTER_FLUSH (R121): Every 10 minutes the Lodge adds the dies' SWCNT and SCCNT counts into MRAM. -/
  | lifetimeCounterFlush
  /-- TREND_DAY_CLOSE (R140): A trend day closes, writes day means, updates learning and drift, and raises EV039. -/
  | trendDayClose
  /-- TREND_FLUSH (R143): Every 10 minutes the trend accumulators are flushed to MRAM. -/
  | trendFlush
  /-- BRIDGE_SUPPLY_RETURN_SLOT (R195): On band return each motor due makes its turn-on, 50 µs apart. -/
  | bridgeSupplyReturnSlot
  /-- LOOP_TICK (R221): Every 10 ms each enabled loop updates or holds the gains of its members. -/
  | loopTick
  /-- FO_OVER_RESTART_SLOT (R251): After Over, field outputs restart in output order, 50 µs apart. -/
  | foOverRestartSlot
  /-- START_CLAIM_WAIT_END (R330): The start, having waited for the precharge step, sends claim frames and reaches RUN. -/
  | startClaimWaitEnd
  /-- START_TIMEOUT (R334): A start not successful within 2 s is failed: the Harbour asserts LRST and records it. -/
  | startTimeout
  /-- LOW_POWER_ENTRY (R345): Entry to Moored or Berthed closes the trend day, halts Keepers, saves state and runs the transceiver handshake. -/
  | lowPowerEntry
  /-- COMMIT_POINT (R392): The Harbour reads the first moor frame; entry can no longer be aborted. -/
  | commitPoint
  /-- LODGE_POWER_DOWN (R345): Lodge domains drain and isolate, the Lodge goes off and the reservoir is HELD. -/
  | lodgePowerDown
  /-- MOORED_TO_BERTHED (R346): A pending Berthed request at Moored runs on the Harbour alone, turning off kept outputs. -/
  | mooredToBerthed
  /-- WAKE_TIMER (R347): WAKE_TMR seconds after entry the wake timer wakes the module. -/
  | wakeTimer
  /-- POWER_APPLY_TIME (R343): Waterway time reaches the apply time and the request is taken under R341. -/
  | powerApplyTime
  /-- POWER_ACK_TIMEOUT (R343): A module not acknowledging within 5 ms is logged and EV251 raised. -/
  | powerAckTimeout
  /-- MAX_AWAKE_EXPIRY (R389): The maximum-awake timer ends, records the culprit and requests Berthed. -/
  | maxAwakeExpiry
  /-- HOLDOFF_EXPIRY (R390): The culprit hold-off window ends and culprit wakes count again. -/
  | holdoffExpiry
  /-- DISCOVERY (R412): Cold discovery trains ports, elects the root, assigns addresses, computes routes and takes time. -/
  | discovery
  /-- RECOVERY_COMPLETE (R419): All modules have installed their tables; RECOV clears, RECOMP increments and EV178 is raised. -/
  | recoveryComplete
  /-- WATERWAY_JOIN (R415): A module starting beside a running waterway joins it or is quarantined. -/
  | waterwayJoin
  /-- SYNC_SEND (R426): Every 1 ms the root sends SYNC and FOLLOW on every UP port. -/
  | syncSend
  /-- HOLDOVER_ENTRY (R427): With no route to the root the module enters holdover. -/
  | holdoverEntry
  /-- HOLDOVER_EXIT (R427): A route to the root returns and the module leaves holdover and slews. -/
  | holdoverExit
  /-- WATERWAY_TIME_FLUSH (R428): Every 10 minutes waterway time is flushed to MRAM. -/
  | waterwayTimeFlush
  /-- REACTION_WINDOW_END (R444): The 1.28 µs reaction window ends; a Lodge-reset reaction asserts LRST. -/
  | reactionWindowEnd
  /-- LOGBOOK_RECORD_WRITE (R448): A queued record is written to its slot, no sooner than 500 µs after the previous one. -/
  | logbookRecordWrite
  /-- LF_FRAME_SENT (R465): The LF challenge frame completes and the carrier phase of each antenna follows. -/
  | lfFrameSent
  /-- CARRIER_PHASE_END (R464): The Arbour reports the end of the carrier phase and the slot grid starts. -/
  | carrierPhaseEnd
  /-- GATE_SLOT_END (R464): A token answer slot ends; collisions are noted. -/
  | gateSlotEnd
  /-- ANTI_COLLISION_ROUND (R467): A SELECT round with its window narrows the search of a collided slot. -/
  | antiCollisionRound
  /-- GATE_SESSION_END (R466): A session ends, classifies answers and sets success or failure, AUTH and FAIL_CNT. -/
  | gateSessionEnd
  /-- GATE_DELAY_END (R470): The delay window ends and GO is accepted again. -/
  | gateDelayEnd
  /-- GATE_SESSION_ABANDON (R471): A session is abandoned on Lodge silence, Over, Dropout, antenna latch or receiver failure. -/
  | gateSessionAbandon
  /-- RECOVERY_MODE_TIMEOUT (R469): RECOVERY mode ends 10 minutes after entry. -/
  | recoveryModeTimeout
  /-- IGNITION_ON (R472): A debounced rise of the ignition input starts the release message burst. -/
  | ignitionOn
  /-- RELEASE_MESSAGE (R472): A release message timer sends one authenticated release message with a rising CTR. -/
  | releaseMessage
  /-- IGNITION_OFF (R472): Ignition-off stops release messages and clears AUTH. -/
  | ignitionOff
  /-- UPDATE_COMPLETE (R482): All pieces verified, components are copied to inactive slots and compatibility decides READY or REFUSED. -/
  | updateComplete
  /-- UPDATE_RECORD_SEND (R484): Once per second and at each change the Warden sends its update record on flow 0xFD. -/
  | updateRecordSend
  /-- QUIET_POINT (R487): A quiet point arrives and the Warden hand-over runs. -/
  | quietPoint
  /-- QUIET_TIMEOUT (R487): No quiet point within QUIET_TO refuses the ARM with QUIET. -/
  | quietTimeout
  /-- FIRMWARE_RESUMED (R487): The new firmware reports RESUMED and the boot record names its slot. -/
  | firmwareResumed
  /-- HANDOVER_ROLLBACK (R487): RESUMED missing at 1.5 ms switches CODE_BANK back and rolls back. -/
  | handoverRollback
  /-- KEEPER_SWAP_STROBE (R490): At the swap strobe every Keeper copies its state map, exchanges banks and is released on the new program. -/
  | keeperSwapStrobe
  /-- WARDEN_WATCHDOG_EXPIRY (R436): The Warden watchdog expires and raises FLT37 with its reaction. -/
  | wardenWatchdogExpiry
  /-- PLL_LOSS_OF_LOCK (R436): A Lodge PLL loses lock, or a die oscillator drifts outside ±5 %, raising FLT62. -/
  | pllLossOfLock
  /-- CAN_TX_SOF (R360): At start of frame the winning transmit object is frozen and sent. -/
  | canTxSof (c : Fin 8)
  /-- CAN_TX_COMPLETE (R360): A transmitted frame ends; TXREQ clears, TXRES is set and staged writes apply. -/
  | canTxComplete (c : Fin 8)
  /-- CAN_CANCEL (R362): A CAN_CANCEL GO write cancels a transmit object according to bus position. -/
  | canCancel (m : Fin 12) (c : Fin 8) (obj : Fin 128)
  /-- CAN_ERROR (R363): A bus error updates TEC and REC and may enter warning, error passive or bus-off. -/
  | canError (c : Fin 8) (tx : Bool) (lec : Fin 7) (kind : Fin 3) (inData : Bool)
  /-- BO_REQ (R363): BO_REQ starts bus-off recovery in manual mode. -/
  | boReq (m : Fin 12) (c : Fin 8)
  /-- BUS_OFF_RECOVERED (R363): 128 occurrences of 11 recessive bits complete recovery, clearing TEC and REC. -/
  | busOffRecovered (c : Fin 8)
  /-- COLLISION_WINDOW_EXPIRY (R364): A collision window ends with fewer than three counts and its entry clears. -/
  | collisionWindowExpiry (c : Fin 8)
  /-- RATE_DETECTION (R365): In rate detection the controller measures MINBIT, tries candidates and confirms on two good frames. -/
  | rateDetection (c : Fin 8) (kind : Fin 3) (minbit : Nat)
  /-- RATE_DETECTION_TIMEOUT (R365): RD_TO expires without success and RDFAIL is set. -/
  | rateDetectionTimeout (c : Fin 8)
  /-- J1939_CLAIM_START (R366): The Warden sends an address claim and enters claiming. -/
  | j1939ClaimStart (c : Fin 8)
  /-- J1939_CLAIM_WINDOW_END (R366): 250 ms without contention makes the address claimed. -/
  | j1939ClaimWindowEnd (c : Fin 8)
  /-- AQ_PORT_LINK_UP (R397): A port's PHY link comes up and it begins the HELLO exchange. -/
  | aqPortLinkUp (p : PhyLink)
  /-- HELLO_RECEIVE (R405): A HELLO barge updates neighbour data, root candidate and port state, or enters VERSION. -/
  | helloReceive (p : Fin 4) (x : Hello)
  /-- KEEP_SEND (R398): A port idle for 100 µs sends a KEEP barge. -/
  | keepSend (p : Fin 4)
  /-- AQ_LINK_DOWN (R398): A port is declared down on PHY link loss or 400 µs without a valid barge. -/
  | aqLinkDown (p : Fin 4) (phyLost : Bool)
  /-- BARGE_RECEIVE (R400): A barge or fragment arrives, is CRC-checked, reassembled, forwarded or delivered. -/
  | bargeReceive (p : Fin 4) (bytes : List Nat)
  /-- BARGE_TRANSMIT (R401): At a fragment boundary or idle line a port sends the head of the highest waiting class. -/
  | bargeTransmit (p : Fin 4)
  /-- TREE_RECEIVE (R406): A TREE barge gives the module its path from the root and is forwarded. -/
  | treeReceive (p : Fin 4) (root len path : Nat)
  /-- ADDR_RECEIVE (R414): An ADDR barge records an address claim and resolves duplicates. -/
  | addrReceive (p : Fin 4) (serial addr pound len flags path hops : Nat)
  /-- LINKSTATE_RECEIVE (R419): A newer LINKSTATE barge sets RECOV and the module recomputes and installs its table. -/
  | linkstateReceive (p : Fin 4) (addr : Nat) (x : LinkState) (hops : Nat)
  /-- FLOW_SEND (R423): A fabric flow with staged writes, or due by the 100-cycle rule, is sent once per lock cycle. -/
  | flowSend (n : Nat)
  /-- SYNC_RECEIVE (R426): A SYNC and FOLLOW from the parent correct rate and offset and are resent downstream. -/
  | syncReceive (p : Fin 4) (sseq depth time stamp residence : Nat)
  /-- DELAY_MEASURE (R426): Every 125 ms a port exchanges DELAY_REQ and DELAY_RESP to measure link delay. -/
  | delayMeasure (p : Fin 4) (t1 t2 t3 t4 : Nat)
  /-- PIECE_PARTS_TIMEOUT (R411): A piece whose parts are not all present within 10 s is discarded. -/
  | piecePartsTimeout (src : Nat)
  /-- LOG_BARGE_REQUEST (R411): A LOG barge with N = 0 is answered with LOG barges of records. -/
  | logBargeRequest (src first count : Nat)
  /-- GATE_GO (R464): GO in GATE_CMD starts a Gatehouse session or is refused. -/
  | gateGo (m : Fin 12) (w : Word)
  /-- UHF_IRQ (R473): A UHF_IRQ edge reads the receiver's frame over SPI and stamps it into its slot. -/
  | uhfIrq (good carrier : Bool) (len : Nat) (frame : List Nat)
  /-- LEARN_CODE_SUBMIT (R469): A write to GATE_LCODE_HI submits the service code, arming a LEARN session or counting a failure. -/
  | learnCodeSubmit (m : Fin 12) (hi : Word)
  /-- EOL_DONE (R469): Writing EOL_DONE as 1 leaves START-UP for good. -/
  | eolDone (m : Fin 12) (done : Bool)
  /-- REVOKE (R468): REVOKE frees token entry RIDX and raises EV233. -/
  | revoke (m : Fin 12) (ridx : Fin 16)
  /-- UHF_RECEIVER_FAIL (R473): IRQ low for 10 ms or three oversized reads mark the receiver failed and raise FLT65. -/
  | uhfReceiverFail (lowDur : Nat)
  /-- ARBITRATION_LOST (R362): A transmitting CAN controller loses arbitration: a pending cancel takes effect, or the object waits to be sent again. -/
  | arbitrationLost (c : Fin 8)
  deriving DecidableEq, Repr

end Sys2Proof
end

