-- ==== Sys2Proof/Machine/RegMap.lean ====
section
/-! DEFINITION. The register map of the CBX96: one address function and one field constant per
register and field of the manual's tables, and the table the bus reads (R34 to R41). An address is
that of the normal view. Generated once from the register tables of the manual. -/

namespace Sys2Proof.Machine

/-- A bit field of a register: its lowest bit and its width. -/
structure Fld where
  /-- lowest bit -/
  lo : Nat
  /-- width in bits -/
  w : Nat
  deriving DecidableEq, Repr

/-- The access codes of R11. -/
inductive Acc where
  | rw | ro | rc | wo | w1c | wl
  deriving DecidableEq, Repr

/-- What locks the RW, PR configuration fields of a register (R326): the ENABLE bit named. -/
inductive Lock where
  /-- nothing locks it -/
  | none
  /-- the ENABLE bit of the Pavilion that holds the channel of this index -/
  | pavOwn
  /-- the ENABLE bit of the Pavilion of this index -/
  | pavBank
  /-- the ENABLE bit of either Pavilion of the class of this index -/
  | pavClass
  /-- the ENABLE bit of any Pavilion -/
  | pavAny
  /-- the ENABLE bit of this subsystem code -/
  | sub (n : Nat)
  deriving DecidableEq, Repr

/-- Where a register lives (R34). -/
inductive Home where
  | lodge | harbour | arbour | glasshouse
  /-- the power die of Pavilion index / 16 -/
  | pav16
  /-- the power die of the Pavilion of this index -/
  | pav1
  /-- all three power dies -/
  | powerAll
  deriving DecidableEq, Repr

/-- One field of a register row. -/
structure FInfo where
  /-- the bits -/
  fld : Fld
  /-- the access code -/
  acc : Acc
  /-- true: PR is written after the code -/
  pr : Bool
  /-- the value at reset -/
  rst : Nat
  deriving DecidableEq, Repr

/-- One register array of the map: entry `i * n2 + j` lies at `base + s1 * i + s2 * j`. -/
structure RegRow where
  /-- the normal-view address of entry 0 -/
  base : Nat
  /-- stride and count of the outer index -/
  s1 : Nat
  /-- count of the outer index -/
  n1 : Nat
  /-- stride of the inner index -/
  s2 : Nat
  /-- count of the inner index -/
  n2 : Nat
  /-- true: the 96-channel array of R40, decoded partially -/
  hs : Bool
  /-- the die that holds it -/
  home : Home
  /-- what locks its configuration fields -/
  lock : Lock
  /-- its fields -/
  fields : List FInfo
  deriving DecidableEq, Repr

/-- SYS_ID (R4). -/
abbrev SYS_ID : Nat := 0x40000000
/-- field FAMILY of SYS_ID: bits 31:16, RO -/
abbrev SYS_ID_FAMILY : Fld := ⟨16, 16⟩
/-- field PART of SYS_ID: bits 15:4, RO -/
abbrev SYS_ID_PART : Fld := ⟨4, 12⟩
/-- field STEPPING of SYS_ID: bits 3:0, RO -/
abbrev SYS_ID_STEPPING : Fld := ⟨0, 4⟩

/-- SYS_VARIANT (R5). -/
abbrev SYS_VARIANT : Nat := 0x40000004
/-- field GRADE of SYS_VARIANT: bits 7:4, RO -/
abbrev SYS_VARIANT_GRADE : Fld := ⟨4, 4⟩
/-- field GATE_FUSED of SYS_VARIANT: bits 0:0, RO -/
abbrev SYS_VARIANT_GATE_FUSED : Fld := ⟨0, 1⟩

/-- SYS_CV_STAT (R32). -/
abbrev SYS_CV_STAT (i : Nat) : Nat := 0x40000100 + 4 * i
/-- field LOST of SYS_CV_STAT: bits 31:31, W1C -/
abbrev SYS_CV_STAT_LOST : Fld := ⟨31, 1⟩
/-- field UP of SYS_CV_STAT: bits 30:30, RO -/
abbrev SYS_CV_STAT_UP : Fld := ⟨30, 1⟩
/-- field RETRANS of SYS_CV_STAT: bits 15:8, RW -/
abbrev SYS_CV_STAT_RETRANS : Fld := ⟨8, 8⟩
/-- field CRCERR of SYS_CV_STAT: bits 7:0, RW -/
abbrev SYS_CV_STAT_CRCERR : Fld := ⟨0, 8⟩

/-- SYS_LOCK_STAT (R33). -/
abbrev SYS_LOCK_STAT : Nat := 0x40000120
/-- field SLIP_CNT of SYS_LOCK_STAT: bits 31:16, RW -/
abbrev SYS_LOCK_STAT_SLIP_CNT : Fld := ⟨16, 16⟩
/-- field MISSING of SYS_LOCK_STAT: bits 5:0, RO -/
abbrev SYS_LOCK_STAT_MISSING : Fld := ⟨0, 6⟩

/-- SYS_ACCESS_STAT (R46). -/
abbrev SYS_ACCESS_STAT : Nat := 0x40000140
/-- field PRIVVIOL of SYS_ACCESS_STAT: bits 31:31, W1C -/
abbrev SYS_ACCESS_STAT_PRIVVIOL : Fld := ⟨31, 1⟩
/-- field LOCKVIOL of SYS_ACCESS_STAT: bits 30:30, W1C -/
abbrev SYS_ACCESS_STAT_LOCKVIOL : Fld := ⟨30, 1⟩
/-- field PRIV_MASTER of SYS_ACCESS_STAT: bits 23:20, RO -/
abbrev SYS_ACCESS_STAT_PRIV_MASTER : Fld := ⟨20, 4⟩
/-- field LOCK_MASTER of SYS_ACCESS_STAT: bits 19:16, RO -/
abbrev SYS_ACCESS_STAT_LOCK_MASTER : Fld := ⟨16, 4⟩
/-- field PRIV_CNT of SYS_ACCESS_STAT: bits 15:8, RW -/
abbrev SYS_ACCESS_STAT_PRIV_CNT : Fld := ⟨8, 8⟩
/-- field LOCK_CNT of SYS_ACCESS_STAT: bits 7:0, RW -/
abbrev SYS_ACCESS_STAT_LOCK_CNT : Fld := ⟨0, 8⟩

/-- SYS_PRIV_ADDR (R47). -/
abbrev SYS_PRIV_ADDR : Nat := 0x40000144
/-- field ADDR of SYS_PRIV_ADDR: bits 31:0, RO -/
abbrev SYS_PRIV_ADDR_ADDR : Fld := ⟨0, 32⟩

/-- SYS_LOCK_ADDR (R47). -/
abbrev SYS_LOCK_ADDR : Nat := 0x40000148
/-- field ADDR of SYS_LOCK_ADDR: bits 31:0, RO -/
abbrev SYS_LOCK_ADDR_ADDR : Fld := ⟨0, 32⟩

/-- SYS_BUSERR_STAT (R48). -/
abbrev SYS_BUSERR_STAT : Nat := 0x4000014C
/-- field VALID of SYS_BUSERR_STAT: bits 31:31, W1C -/
abbrev SYS_BUSERR_STAT_VALID : Fld := ⟨31, 1⟩
/-- field MASTER of SYS_BUSERR_STAT: bits 27:24, RO -/
abbrev SYS_BUSERR_STAT_MASTER : Fld := ⟨24, 4⟩
/-- field KIND of SYS_BUSERR_STAT: bits 23:20, RO -/
abbrev SYS_BUSERR_STAT_KIND : Fld := ⟨20, 4⟩
/-- field WRITE of SYS_BUSERR_STAT: bits 19:19, RO -/
abbrev SYS_BUSERR_STAT_WRITE : Fld := ⟨19, 1⟩
/-- field COUNT of SYS_BUSERR_STAT: bits 15:0, RW -/
abbrev SYS_BUSERR_STAT_COUNT : Fld := ⟨0, 16⟩

/-- SYS_BUSERR_ADDR (R48). -/
abbrev SYS_BUSERR_ADDR : Nat := 0x40000150
/-- field ADDR of SYS_BUSERR_ADDR: bits 31:0, RO -/
abbrev SYS_BUSERR_ADDR_ADDR : Fld := ⟨0, 32⟩

/-- HOST_EVCFG (R64). -/
abbrev HOST_EVCFG (i : Nat) : Nat := 0x400D1000 + 4 * i
/-- field EN of HOST_EVCFG: bits 31:31, RW -/
abbrev HOST_EVCFG_EN : Fld := ⟨31, 1⟩
/-- field CLASS of HOST_EVCFG: bits 30:29, RW -/
abbrev HOST_EVCFG_CLASS : Fld := ⟨29, 2⟩
/-- field KROUTE of HOST_EVCFG: bits 27:24, RW -/
abbrev HOST_EVCFG_KROUTE : Fld := ⟨24, 4⟩
/-- field HOLD of HOST_EVCFG: bits 18:16, RW -/
abbrev HOST_EVCFG_HOLD : Fld := ⟨16, 3⟩

/-- HOST_EVCNT (R65). -/
abbrev HOST_EVCNT (i : Nat) : Nat := 0x400D1400 + 4 * i
/-- field COUNT of HOST_EVCNT: bits 15:0, RW -/
abbrev HOST_EVCNT_COUNT : Fld := ⟨0, 16⟩

/-- HOST_EVPEND (R66). -/
abbrev HOST_EVPEND (i : Nat) : Nat := 0x400D1800 + 4 * i
/-- field PEND of HOST_EVPEND: bits 15:0, W1C -/
abbrev HOST_EVPEND_PEND : Fld := ⟨0, 16⟩

/-- HOST_CFG (R67). -/
abbrev HOST_CFG : Nat := 0x400D0000
/-- field TUN_ADDR of HOST_CFG: bits 23:16, RW -/
abbrev HOST_CFG_TUN_ADDR : Fld := ⟨16, 8⟩
/-- field NOTE_PORT of HOST_CFG: bits 9:8, RW -/
abbrev HOST_CFG_NOTE_PORT : Fld := ⟨8, 2⟩
/-- field TP_EN of HOST_CFG: bits 0:0, RW, PR -/
abbrev HOST_CFG_TP_EN : Fld := ⟨0, 1⟩

/-- HOST_STAT (R68). -/
abbrev HOST_STAT : Nat := 0x400D0004
/-- field LINK of HOST_STAT: bits 31:31, RO -/
abbrev HOST_STAT_LINK : Fld := ⟨31, 1⟩
/-- field LEVEL of HOST_STAT: bits 30:29, RO -/
abbrev HOST_STAT_LEVEL : Fld := ⟨29, 2⟩
/-- field OUTST of HOST_STAT: bits 18:16, RO -/
abbrev HOST_STAT_OUTST : Fld := ⟨16, 3⟩
/-- field NAK_CNT of HOST_STAT: bits 15:8, RW -/
abbrev HOST_STAT_NAK_CNT : Fld := ⟨8, 8⟩
/-- field CRC_CNT of HOST_STAT: bits 7:0, RW -/
abbrev HOST_STAT_CRC_CNT : Fld := ⟨0, 8⟩

/-- SUPPLY_STAT (R92). -/
abbrev SUPPLY_STAT : Nat := 0x40010000
/-- field REVERSE of SUPPLY_STAT: bits 31:31, W1C -/
abbrev SUPPLY_STAT_REVERSE : Fld := ⟨31, 1⟩
/-- field OVER of SUPPLY_STAT: bits 30:30, W1C -/
abbrev SUPPLY_STAT_OVER : Fld := ⟨30, 1⟩
/-- field DROP of SUPPLY_STAT: bits 29:29, W1C -/
abbrev SUPPLY_STAT_DROP : Fld := ⟨29, 1⟩
/-- field RVACT of SUPPLY_STAT: bits 28:28, RO -/
abbrev SUPPLY_STAT_RVACT : Fld := ⟨28, 1⟩
/-- field BAND of SUPPLY_STAT: bits 25:24, RO -/
abbrev SUPPLY_STAT_BAND : Fld := ⟨24, 2⟩
/-- field LODGE_SRC of SUPPLY_STAT: bits 23:23, RO -/
abbrev SUPPLY_STAT_LODGE_SRC : Fld := ⟨23, 1⟩

/-- SUPPLY_VOLT (R92). -/
abbrev SUPPLY_VOLT : Nat := 0x40010004
/-- field VBAT of SUPPLY_VOLT: bits 31:16, RO -/
abbrev SUPPLY_VOLT_VBAT : Fld := ⟨16, 16⟩
/-- field VRES of SUPPLY_VOLT: bits 15:0, RO -/
abbrev SUPPLY_VOLT_VRES : Fld := ⟨0, 16⟩

/-- SUPPLY_RES_CFG (R92). -/
abbrev SUPPLY_RES_CFG : Nat := 0x40010010
/-- field BOOST_EN of SUPPLY_RES_CFG: bits 31:31, RW -/
abbrev SUPPLY_RES_CFG_BOOST_EN : Fld := ⟨31, 1⟩
/-- field VRES_TGT of SUPPLY_RES_CFG: bits 30:24, RW -/
abbrev SUPPLY_RES_CFG_VRES_TGT : Fld := ⟨24, 7⟩
/-- field CHG_ILIM of SUPPLY_RES_CFG: bits 23:20, RW -/
abbrev SUPPLY_RES_CFG_CHG_ILIM : Fld := ⟨20, 4⟩
/-- field CHG_ILIM_LOW of SUPPLY_RES_CFG: bits 19:16, RW -/
abbrev SUPPLY_RES_CFG_CHG_ILIM_LOW : Fld := ⟨16, 4⟩
/-- field VFLOOR of SUPPLY_RES_CFG: bits 15:10, RW -/
abbrev SUPPLY_RES_CFG_VFLOOR : Fld := ⟨10, 6⟩
/-- field VEARLY of SUPPLY_RES_CFG: bits 9:4, RW -/
abbrev SUPPLY_RES_CFG_VEARLY : Fld := ⟨4, 6⟩

/-- SUPPLY_RES_CFG2 (R92). -/
abbrev SUPPLY_RES_CFG2 : Nat := 0x40010014
/-- field VALVE_FLOOR of SUPPLY_RES_CFG2: bits 31:25, RW -/
abbrev SUPPLY_RES_CFG2_VALVE_FLOOR : Fld := ⟨25, 7⟩
/-- field DECL_CAP of SUPPLY_RES_CFG2: bits 9:0, RW -/
abbrev SUPPLY_RES_CFG2_DECL_CAP : Fld := ⟨0, 10⟩

/-- SUPPLY_RES_STAT (R92). -/
abbrev SUPPLY_RES_STAT : Nat := 0x40010018
/-- field STATE of SUPPLY_RES_STAT: bits 31:29, RO -/
abbrev SUPPLY_RES_STAT_STATE : Fld := ⟨29, 3⟩
/-- field CAP_LOW of SUPPLY_RES_STAT: bits 28:28, W1C -/
abbrev SUPPLY_RES_STAT_CAP_LOW : Fld := ⟨28, 1⟩
/-- field SHORT of SUPPLY_RES_STAT: bits 27:27, W1C -/
abbrev SUPPLY_RES_STAT_SHORT : Fld := ⟨27, 1⟩
/-- field OVP of SUPPLY_RES_STAT: bits 26:26, W1C -/
abbrev SUPPLY_RES_STAT_OVP : Fld := ⟨26, 1⟩
/-- field TIMEOUT of SUPPLY_RES_STAT: bits 25:25, W1C -/
abbrev SUPPLY_RES_STAT_TIMEOUT : Fld := ⟨25, 1⟩
/-- field CAP_EST of SUPPLY_RES_STAT: bits 22:13, RO -/
abbrev SUPPLY_RES_STAT_CAP_EST : Fld := ⟨13, 10⟩

/-- SUPPLY_RIDE_CNT (R92). -/
abbrev SUPPLY_RIDE_CNT : Nat := 0x4001001C
/-- field RIDE_CNT of SUPPLY_RIDE_CNT: bits 31:16, RW -/
abbrev SUPPLY_RIDE_CNT_RIDE_CNT : Fld := ⟨16, 16⟩
/-- field VMIN_RIDE of SUPPLY_RIDE_CNT: bits 15:0, RO -/
abbrev SUPPLY_RIDE_CNT_VMIN_RIDE : Fld := ⟨0, 16⟩

/-- CR_CFG (R92). -/
abbrev CR_CFG (i : Nat) : Nat := 0x40010100 + 4 * i
/-- field EN of CR_CFG: bits 31:31, RW -/
abbrev CR_CFG_EN : Fld := ⟨31, 1⟩
/-- field SHED of CR_CFG: bits 30:30, RW -/
abbrev CR_CFG_SHED : Fld := ⟨30, 1⟩
/-- field RETRY of CR_CFG: bits 29:27, RW -/
abbrev CR_CFG_RETRY : Fld := ⟨27, 3⟩
/-- field ILIM of CR_CFG: bits 20:16, RW -/
abbrev CR_CFG_ILIM : Fld := ⟨16, 5⟩
/-- field VSET of CR_CFG: bits 15:8, RW -/
abbrev CR_CFG_VSET : Fld := ⟨8, 8⟩

/-- CR_STAT (R92). -/
abbrev CR_STAT (i : Nat) : Nat := 0x40010120 + 4 * i
/-- field ON of CR_STAT: bits 31:31, RO -/
abbrev CR_STAT_ON : Fld := ⟨31, 1⟩
/-- field LATCHED of CR_STAT: bits 30:30, RO -/
abbrev CR_STAT_LATCHED : Fld := ⟨30, 1⟩
/-- field OC of CR_STAT: bits 29:29, W1C -/
abbrev CR_STAT_OC : Fld := ⟨29, 1⟩
/-- field SHORT of CR_STAT: bits 28:28, W1C -/
abbrev CR_STAT_SHORT : Fld := ⟨28, 1⟩
/-- field OV of CR_STAT: bits 27:27, W1C -/
abbrev CR_STAT_OV : Fld := ⟨27, 1⟩
/-- field THERM of CR_STAT: bits 26:26, W1C -/
abbrev CR_STAT_THERM : Fld := ⟨26, 1⟩
/-- field SHED_P of CR_STAT: bits 25:25, W1C -/
abbrev CR_STAT_SHED_P : Fld := ⟨25, 1⟩
/-- field SHED_V of CR_STAT: bits 24:24, RO -/
abbrev CR_STAT_SHED_V : Fld := ⟨24, 1⟩
/-- field RETRIES of CR_STAT: bits 19:17, RO -/
abbrev CR_STAT_RETRIES : Fld := ⟨17, 3⟩
/-- field IOUT of CR_STAT: bits 15:0, RO -/
abbrev CR_STAT_IOUT : Fld := ⟨0, 16⟩

/-- SUPPLY_CR_SUM (R92). -/
abbrev SUPPLY_CR_SUM : Nat := 0x40010140
/-- field PSUM of SUPPLY_CR_SUM: bits 15:0, RO -/
abbrev SUPPLY_CR_SUM_PSUM : Fld := ⟨0, 16⟩

/-- SUPPLY_TEMP (R92). -/
abbrev SUPPLY_TEMP (i : Nat) : Nat := 0x40010200 + 4 * i
/-- field TEMP of SUPPLY_TEMP: bits 15:0, RO -/
abbrev SUPPLY_TEMP_TEMP : Fld := ⟨0, 16⟩

/-- SUPPLY_TBASE (R92). -/
abbrev SUPPLY_TBASE : Nat := 0x40010220
/-- field TBASE_MAX of SUPPLY_TBASE: bits 7:0, WL -/
abbrev SUPPLY_TBASE_TBASE_MAX : Fld := ⟨0, 8⟩

/-- PAV_CMD (R124). -/
abbrev PAV_CMD (i : Nat) : Nat := 0x40020000 + 4 * i
/-- field ON of PAV_CMD: bits 31:31, RW -/
abbrev PAV_CMD_ON : Fld := ⟨31, 1⟩
/-- field CLR of PAV_CMD: bits 30:30, WO -/
abbrev PAV_CMD_CLR : Fld := ⟨30, 1⟩
/-- field DUTY of PAV_CMD: bits 15:0, RW -/
abbrev PAV_CMD_DUTY : Fld := ⟨0, 16⟩

/-- PAV_PROT (R124). -/
abbrev PAV_PROT (i : Nat) : Nat := 0x40020200 + 4 * i
/-- field OC_TH of PAV_PROT: bits 31:24, RW, PR -/
abbrev PAV_PROT_OC_TH : Fld := ⟨24, 8⟩
/-- field INR_TH of PAV_PROT: bits 23:16, RW, PR -/
abbrev PAV_PROT_INR_TH : Fld := ⟨16, 8⟩
/-- field INR_TIME of PAV_PROT: bits 15:8, RW, PR -/
abbrev PAV_PROT_INR_TIME : Fld := ⟨8, 8⟩
/-- field OC_FILT of PAV_PROT: bits 7:4, RW, PR -/
abbrev PAV_PROT_OC_FILT : Fld := ⟨4, 4⟩
/-- field RETRY_N of PAV_PROT: bits 3:0, RW, PR -/
abbrev PAV_PROT_RETRY_N : Fld := ⟨0, 4⟩

/-- PAV_CFG (R124). -/
abbrev PAV_CFG (i : Nat) : Nat := 0x40020400 + 4 * i
/-- field PAIR of PAV_CFG: bits 31:31, RW, PR -/
abbrev PAV_CFG_PAIR : Fld := ⟨31, 1⟩
/-- field UV_SOFT of PAV_CFG: bits 29:29, RW, PR -/
abbrev PAV_CFG_UV_SOFT : Fld := ⟨29, 1⟩
/-- field MOOR_KEEP of PAV_CFG: bits 28:28, RW, PR -/
abbrev PAV_CFG_MOOR_KEEP : Fld := ⟨28, 1⟩
/-- field PWMF of PAV_CFG: bits 27:25, RW, PR -/
abbrev PAV_CFG_PWMF : Fld := ⟨25, 3⟩
/-- field PHASE of PAV_CFG: bits 24:17, RW, PR -/
abbrev PAV_CFG_PHASE : Fld := ⟨17, 8⟩
/-- field RETRY_DLY of PAV_CFG: bits 16:10, RW, PR -/
abbrev PAV_CFG_RETRY_DLY : Fld := ⟨10, 7⟩
/-- field SAFE of PAV_CFG: bits 9:8, RW, PR -/
abbrev PAV_CFG_SAFE : Fld := ⟨8, 2⟩
/-- field SAFE_DUTY of PAV_CFG: bits 7:0, RW, PR -/
abbrev PAV_CFG_SAFE_DUTY : Fld := ⟨0, 8⟩

/-- PAV_WIRE (R124). -/
abbrev PAV_WIRE (i : Nat) : Nat := 0x40020600 + 4 * i
/-- field WIRE_TAU of PAV_WIRE: bits 31:22, RW, PR -/
abbrev PAV_WIRE_WIRE_TAU : Fld := ⟨22, 10⟩
/-- field WIRE_K of PAV_WIRE: bits 19:0, RW, PR -/
abbrev PAV_WIRE_WIRE_K : Fld := ⟨0, 20⟩

/-- PAV_STAT (R124). -/
abbrev PAV_STAT (i : Nat) : Nat := 0x40020800 + 4 * i
/-- field STATE of PAV_STAT: bits 31:28, RO -/
abbrev PAV_STAT_STATE : Fld := ⟨28, 4⟩
/-- field OCL of PAV_STAT: bits 27:27, W1C -/
abbrev PAV_STAT_OCL : Fld := ⟨27, 1⟩
/-- field HLIM of PAV_STAT: bits 26:26, W1C -/
abbrev PAV_STAT_HLIM : Fld := ⟨26, 1⟩
/-- field THERM of PAV_STAT: bits 25:25, W1C -/
abbrev PAV_STAT_THERM : Fld := ⟨25, 1⟩
/-- field WIRE of PAV_STAT: bits 24:24, W1C -/
abbrev PAV_STAT_WIRE : Fld := ⟨24, 1⟩
/-- field UV of PAV_STAT: bits 23:23, W1C -/
abbrev PAV_STAT_UV : Fld := ⟨23, 1⟩
/-- field VETO_T of PAV_STAT: bits 22:22, RO -/
abbrev PAV_STAT_VETO_T : Fld := ⟨22, 1⟩
/-- field VETO_W of PAV_STAT: bits 21:21, RO -/
abbrev PAV_STAT_VETO_W : Fld := ⟨21, 1⟩
/-- field CLAMP of PAV_STAT: bits 20:20, RO -/
abbrev PAV_STAT_CLAMP : Fld := ⟨20, 1⟩
/-- field RETRIES of PAV_STAT: bits 19:16, RO -/
abbrev PAV_STAT_RETRIES : Fld := ⟨16, 4⟩
/-- field THETA of PAV_STAT: bits 15:8, RO -/
abbrev PAV_STAT_THETA : Fld := ⟨8, 8⟩
/-- field TJ of PAV_STAT: bits 7:0, RO -/
abbrev PAV_STAT_TJ : Fld := ⟨0, 8⟩

/-- PAV_SWCNT_LO (R124). -/
abbrev PAV_SWCNT_LO (i : Nat) : Nat := 0x40020A00 + 4 * i
/-- field CNT_LO of PAV_SWCNT_LO: bits 31:0, RO -/
abbrev PAV_SWCNT_LO_CNT_LO : Fld := ⟨0, 32⟩

/-- PAV_SWCNT_HI (R124). -/
abbrev PAV_SWCNT_HI (i : Nat) : Nat := 0x40020C00 + 4 * i
/-- field CNT_HI of PAV_SWCNT_HI: bits 7:0, RO -/
abbrev PAV_SWCNT_HI_CNT_HI : Fld := ⟨0, 8⟩

/-- PAV_SCCNT (R124). -/
abbrev PAV_SCCNT (i : Nat) : Nat := 0x40020E00 + 4 * i
/-- field SCCNT of PAV_SCCNT: bits 31:0, RO -/
abbrev PAV_SCCNT_SCCNT : Fld := ⟨0, 32⟩

/-- PAV_BANK (R124). -/
abbrev PAV_BANK (i : Nat) : Nat := 0x40021000 + 4 * i
/-- field LIMP_TIME of PAV_BANK: bits 25:16, RW, PR -/
abbrev PAV_BANK_LIMP_TIME : Fld := ⟨16, 10⟩
/-- field SS_TIME of PAV_BANK: bits 7:0, RW, PR -/
abbrev PAV_BANK_SS_TIME : Fld := ⟨0, 8⟩

/-- PAV_BSTAT (R124). -/
abbrev PAV_BSTAT (i : Nat) : Nat := 0x40021020 + 4 * i
/-- field LIMP of PAV_BSTAT: bits 31:31, RO -/
abbrev PAV_BSTAT_LIMP : Fld := ⟨31, 1⟩
/-- field SAFE of PAV_BSTAT: bits 30:30, RO -/
abbrev PAV_BSTAT_SAFE : Fld := ⟨30, 1⟩
/-- field LIMPED of PAV_BSTAT: bits 29:29, W1C -/
abbrev PAV_BSTAT_LIMPED : Fld := ⟨29, 1⟩
/-- field SAFED of PAV_BSTAT: bits 28:28, W1C -/
abbrev PAV_BSTAT_SAFED : Fld := ⟨28, 1⟩
/-- field MOOR of PAV_BSTAT: bits 27:27, RO -/
abbrev PAV_BSTAT_MOOR : Fld := ⟨27, 1⟩
/-- field LIMP_MS of PAV_BSTAT: bits 15:0, RO -/
abbrev PAV_BSTAT_LIMP_MS : Fld := ⟨0, 16⟩

/-- PAV_UV (R124). -/
abbrev PAV_UV (i : Nat) : Nat := 0x40021040 + 4 * i
/-- field UVACT of PAV_UV: bits 31:31, RO -/
abbrev PAV_UV_UVACT : Fld := ⟨31, 1⟩
/-- field UVSEEN of PAV_UV: bits 30:30, W1C -/
abbrev PAV_UV_UVSEEN : Fld := ⟨30, 1⟩
/-- field UV_TH of PAV_UV: bits 15:8, RW, PR -/
abbrev PAV_UV_UV_TH : Fld := ⟨8, 8⟩
/-- field UV_HYST of PAV_UV: bits 7:4, RW, PR -/
abbrev PAV_UV_UV_HYST : Fld := ⟨4, 4⟩

/-- MEAS_IV (R147). -/
abbrev MEAS_IV (i : Nat) : Nat := 0x40030000 + 4 * i
/-- field I of MEAS_IV: bits 31:16, RO -/
abbrev MEAS_IV_I : Fld := ⟨16, 16⟩
/-- field V of MEAS_IV: bits 15:4, RO -/
abbrev MEAS_IV_V : Fld := ⟨4, 12⟩
/-- field VALID of MEAS_IV: bits 3:3, RO -/
abbrev MEAS_IV_VALID : Fld := ⟨3, 1⟩

/-- MEAS_DCFG (R147). -/
abbrev MEAS_DCFG (i : Nat) : Nat := 0x40030200 + 4 * i
/-- field DIAG_EN of MEAS_DCFG: bits 31:31, RW, PR -/
abbrev MEAS_DCFG_DIAG_EN : Fld := ⟨31, 1⟩
/-- field OFF_EN of MEAS_DCFG: bits 30:30, RW, PR -/
abbrev MEAS_DCFG_OFF_EN : Fld := ⟨30, 1⟩
/-- field STRETCH of MEAS_DCFG: bits 29:29, RW, PR -/
abbrev MEAS_DCFG_STRETCH : Fld := ⟨29, 1⟩
/-- field LOADTYPE of MEAS_DCFG: bits 28:26, RW, PR -/
abbrev MEAS_DCFG_LOADTYPE : Fld := ⟨26, 3⟩
/-- field OL_TH of MEAS_DCFG: bits 23:16, RW, PR -/
abbrev MEAS_DCFG_OL_TH : Fld := ⟨16, 8⟩
/-- field OL_CNT of MEAS_DCFG: bits 15:12, RW, PR -/
abbrev MEAS_DCFG_OL_CNT : Fld := ⟨12, 4⟩

/-- MEAS_DIAG (R147). -/
abbrev MEAS_DIAG (i : Nat) : Nat := 0x40030400 + 4 * i
/-- field CODE of MEAS_DIAG: bits 31:28, RO -/
abbrev MEAS_DIAG_CODE : Fld := ⟨28, 4⟩
/-- field OPEN_ON of MEAS_DIAG: bits 27:27, W1C -/
abbrev MEAS_DIAG_OPEN_ON : Fld := ⟨27, 1⟩
/-- field OPEN_OFF of MEAS_DIAG: bits 26:26, W1C -/
abbrev MEAS_DIAG_OPEN_OFF : Fld := ⟨26, 1⟩
/-- field SHORT_BAT of MEAS_DIAG: bits 25:25, W1C -/
abbrev MEAS_DIAG_SHORT_BAT : Fld := ⟨25, 1⟩
/-- field SHORT_GND of MEAS_DIAG: bits 24:24, W1C -/
abbrev MEAS_DIAG_SHORT_GND : Fld := ⟨24, 1⟩
/-- field STRETCHED of MEAS_DIAG: bits 23:23, RO -/
abbrev MEAS_DIAG_STRETCHED : Fld := ⟨23, 1⟩
/-- field LATCH_V of MEAS_DIAG: bits 11:0, RO -/
abbrev MEAS_DIAG_LATCH_V : Fld := ⟨0, 12⟩

/-- MEAS_HHCFG (R147). -/
abbrev MEAS_HHCFG (i : Nat) : Nat := 0x40030600 + 4 * i
/-- field HH_EN of MEAS_HHCFG: bits 31:31, RW, PR -/
abbrev MEAS_HHCFG_HH_EN : Fld := ⟨31, 1⟩
/-- field TSEL of MEAS_HHCFG: bits 30:28, RW, PR -/
abbrev MEAS_HHCFG_TSEL : Fld := ⟨28, 3⟩
/-- field ALPHA of MEAS_HHCFG: bits 27:18, RW, PR -/
abbrev MEAS_HHCFG_ALPHA : Fld := ⟨18, 10⟩
/-- field HH_IMIN of MEAS_HHCFG: bits 17:12, RW, PR -/
abbrev MEAS_HHCFG_HH_IMIN : Fld := ⟨12, 6⟩
/-- field DRIFT_TH of MEAS_HHCFG: bits 11:5, RW, PR -/
abbrev MEAS_HHCFG_DRIFT_TH : Fld := ⟨5, 7⟩
/-- field DRIFT_DAYS of MEAS_HHCFG: bits 4:0, RW, PR -/
abbrev MEAS_HHCFG_DRIFT_DAYS : Fld := ⟨0, 5⟩

/-- MEAS_HHBASE (R147). -/
abbrev MEAS_HHBASE (i : Nat) : Nat := 0x40030800 + 4 * i
/-- field LEARNED of MEAS_HHBASE: bits 31:31, RO -/
abbrev MEAS_HHBASE_LEARNED : Fld := ⟨31, 1⟩
/-- field LEFT of MEAS_HHBASE: bits 27:24, RO -/
abbrev MEAS_HHBASE_LEFT : Fld := ⟨24, 4⟩
/-- field BASE of MEAS_HHBASE: bits 23:0, RO -/
abbrev MEAS_HHBASE_BASE : Fld := ⟨0, 24⟩

/-- MEAS_HHDAY (R147). -/
abbrev MEAS_HHDAY (i : Nat) : Nat := 0x40030A00 + 4 * i
/-- field SPARSE of MEAS_HHDAY: bits 31:31, RO -/
abbrev MEAS_HHDAY_SPARSE : Fld := ⟨31, 1⟩
/-- field MEAN of MEAS_HHDAY: bits 23:0, RO -/
abbrev MEAS_HHDAY_MEAN : Fld := ⟨0, 24⟩

/-- MEAS_HHSTAT (R147). -/
abbrev MEAS_HHSTAT (i : Nat) : Nat := 0x40030C00 + 4 * i
/-- field DRIFT_FLAG of MEAS_HHSTAT: bits 31:31, W1C -/
abbrev MEAS_HHSTAT_DRIFT_FLAG : Fld := ⟨31, 1⟩
/-- field DRIFT_ACT of MEAS_HHSTAT: bits 30:30, RO -/
abbrev MEAS_HHSTAT_DRIFT_ACT : Fld := ⟨30, 1⟩
/-- field OVER_DAYS of MEAS_HHSTAT: bits 29:24, RO -/
abbrev MEAS_HHSTAT_OVER_DAYS : Fld := ⟨24, 6⟩
/-- field DRIFT of MEAS_HHSTAT: bits 15:0, RO -/
abbrev MEAS_HHSTAT_DRIFT : Fld := ⟨0, 16⟩

/-- MEAS_CFG (R147). -/
abbrev MEAS_CFG : Nat := 0x40031000
/-- field STRETCH_N of MEAS_CFG: bits 31:28, RW, PR -/
abbrev MEAS_CFG_STRETCH_N : Fld := ⟨28, 4⟩
/-- field LEARN_DAYS of MEAS_CFG: bits 27:24, RW, PR -/
abbrev MEAS_CFG_LEARN_DAYS : Fld := ⟨24, 4⟩
/-- field DIAG_PER of MEAS_CFG: bits 23:16, RW, PR -/
abbrev MEAS_CFG_DIAG_PER : Fld := ⟨16, 8⟩
/-- field OFFT of MEAS_CFG: bits 15:8, RW, PR -/
abbrev MEAS_CFG_OFFT : Fld := ⟨8, 8⟩
/-- field MIN_T of MEAS_CFG: bits 7:0, RW, PR -/
abbrev MEAS_CFG_MIN_T : Fld := ⟨0, 8⟩

/-- MEAS_HHCMD (R147). -/
abbrev MEAS_HHCMD : Nat := 0x40031004
/-- field RELEARN of MEAS_HHCMD: bits 31:31, WO -/
abbrev MEAS_HHCMD_RELEARN : Fld := ⟨31, 1⟩
/-- field CLOSE_DAY of MEAS_HHCMD: bits 30:30, WO -/
abbrev MEAS_HHCMD_CLOSE_DAY : Fld := ⟨30, 1⟩
/-- field CH of MEAS_HHCMD: bits 6:0, RW -/
abbrev MEAS_HHCMD_CH : Fld := ⟨0, 7⟩

/-- MEAS_ARB (R147). -/
abbrev MEAS_ARB (i : Nat) : Nat := 0x40031020 + 4 * i
/-- field FG_SHARE of MEAS_ARB: bits 31:24, RO -/
abbrev MEAS_ARB_FG_SHARE : Fld := ⟨24, 8⟩
/-- field BG_SHARE of MEAS_ARB: bits 23:16, RO -/
abbrev MEAS_ARB_BG_SHARE : Fld := ⟨16, 8⟩
/-- field BG_PTR of MEAS_ARB: bits 3:0, RO -/
abbrev MEAS_ARB_BG_PTR : Fld := ⟨0, 4⟩

/-- MEAS_SCNT (R147). -/
abbrev MEAS_SCNT (i : Nat) : Nat := 0x40031040 + 4 * i
/-- field SCNT of MEAS_SCNT: bits 31:0, RW -/
abbrev MEAS_SCNT_SCNT : Fld := ⟨0, 32⟩

/-- SLU_CMD (R178). -/
abbrev SLU_CMD (i : Nat) : Nat := 0x40040000 + 4 * i
/-- field ON of SLU_CMD: bits 31:31, RW -/
abbrev SLU_CMD_ON : Fld := ⟨31, 1⟩
/-- field CLR of SLU_CMD: bits 30:30, WO -/
abbrev SLU_CMD_CLR : Fld := ⟨30, 1⟩
/-- field SETPT of SLU_CMD: bits 10:0, RW -/
abbrev SLU_CMD_SETPT : Fld := ⟨0, 11⟩

/-- SLU_CFG (R178). -/
abbrev SLU_CFG (i : Nat) : Nat := 0x40040080 + 4 * i
/-- field MODE of SLU_CFG: bits 31:31, RW, PR -/
abbrev SLU_CFG_MODE : Fld := ⟨31, 1⟩
/-- field PEAK_END of SLU_CFG: bits 30:30, RW, PR -/
abbrev SLU_CFG_PEAK_END : Fld := ⟨30, 1⟩
/-- field SAFE of SLU_CFG: bits 29:28, RW, PR -/
abbrev SLU_CFG_SAFE : Fld := ⟨28, 2⟩
/-- field DECAY of SLU_CFG: bits 27:26, RW, PR -/
abbrev SLU_CFG_DECAY : Fld := ⟨26, 2⟩
/-- field IPEAK of SLU_CFG: bits 25:19, RW, PR -/
abbrev SLU_CFG_IPEAK : Fld := ⟨19, 7⟩
/-- field IHOLD of SLU_CFG: bits 18:12, RW, PR -/
abbrev SLU_CFG_IHOLD : Fld := ⟨12, 7⟩
/-- field PEAK_T of SLU_CFG: bits 11:4, RW, PR -/
abbrev SLU_CFG_PEAK_T : Fld := ⟨4, 8⟩
/-- field PEAK_EXT of SLU_CFG: bits 3:0, RW, PR -/
abbrev SLU_CFG_PEAK_EXT : Fld := ⟨0, 4⟩

/-- SLU_DITH (R178). -/
abbrev SLU_DITH (i : Nat) : Nat := 0x40040100 + 4 * i
/-- field DITH_F of SLU_DITH: bits 31:26, RW, PR -/
abbrev SLU_DITH_DITH_F : Fld := ⟨26, 6⟩
/-- field DITH_A of SLU_DITH: bits 25:20, RW, PR -/
abbrev SLU_DITH_DITH_A : Fld := ⟨20, 6⟩
/-- field DEFER_T of SLU_DITH: bits 15:8, RW, PR -/
abbrev SLU_DITH_DEFER_T : Fld := ⟨8, 8⟩

/-- SLU_KINK (R178). -/
abbrev SLU_KINK (i : Nat) : Nat := 0x40040180 + 4 * i
/-- field KEN of SLU_KINK: bits 31:31, RW, PR -/
abbrev SLU_KINK_KEN : Fld := ⟨31, 1⟩
/-- field KSRC of SLU_KINK: bits 30:30, RW, PR -/
abbrev SLU_KINK_KSRC : Fld := ⟨30, 1⟩
/-- field KW_START of SLU_KINK: bits 29:22, RW, PR -/
abbrev SLU_KINK_KW_START : Fld := ⟨22, 8⟩
/-- field KW_END of SLU_KINK: bits 21:14, RW, PR -/
abbrev SLU_KINK_KW_END : Fld := ⟨14, 8⟩
/-- field KTH of SLU_KINK: bits 13:6, RW, PR -/
abbrev SLU_KINK_KTH : Fld := ⟨6, 8⟩

/-- SLU_DCFG (R178). -/
abbrev SLU_DCFG (i : Nat) : Nat := 0x40040200 + 4 * i
/-- field ON_EN of SLU_DCFG: bits 31:31, RW, PR -/
abbrev SLU_DCFG_ON_EN : Fld := ⟨31, 1⟩
/-- field OFF_EN of SLU_DCFG: bits 30:30, RW, PR -/
abbrev SLU_DCFG_OFF_EN : Fld := ⟨30, 1⟩
/-- field OL_CNT of SLU_DCFG: bits 29:26, RW, PR -/
abbrev SLU_DCFG_OL_CNT : Fld := ⟨26, 4⟩

/-- SLU_STAT (R178). -/
abbrev SLU_STAT (i : Nat) : Nat := 0x40040280 + 4 * i
/-- field STATE of SLU_STAT: bits 31:28, RO -/
abbrev SLU_STAT_STATE : Fld := ⟨28, 4⟩
/-- field CODE of SLU_STAT: bits 27:24, RO -/
abbrev SLU_STAT_CODE : Fld := ⟨24, 4⟩
/-- field OCL of SLU_STAT: bits 23:23, W1C -/
abbrev SLU_STAT_OCL : Fld := ⟨23, 1⟩
/-- field THERM of SLU_STAT: bits 22:22, W1C -/
abbrev SLU_STAT_THERM : Fld := ⟨22, 1⟩
/-- field REFUSED of SLU_STAT: bits 21:21, W1C -/
abbrev SLU_STAT_REFUSED : Fld := ⟨21, 1⟩
/-- field DEFERRED of SLU_STAT: bits 20:20, W1C -/
abbrev SLU_STAT_DEFERRED : Fld := ⟨20, 1⟩
/-- field OPEN of SLU_STAT: bits 19:19, W1C -/
abbrev SLU_STAT_OPEN : Fld := ⟨19, 1⟩
/-- field SHORT_GND of SLU_STAT: bits 18:18, W1C -/
abbrev SLU_STAT_SHORT_GND : Fld := ⟨18, 1⟩
/-- field SHORT_BAT of SLU_STAT: bits 17:17, W1C -/
abbrev SLU_STAT_SHORT_BAT : Fld := ⟨17, 1⟩
/-- field SHORT_LOAD of SLU_STAT: bits 16:16, W1C -/
abbrev SLU_STAT_SHORT_LOAD : Fld := ⟨16, 1⟩
/-- field SAT of SLU_STAT: bits 15:15, RO -/
abbrev SLU_STAT_SAT : Fld := ⟨15, 1⟩
/-- field VETO_T of SLU_STAT: bits 14:14, RO -/
abbrev SLU_STAT_VETO_T : Fld := ⟨14, 1⟩
/-- field PEND of SLU_STAT: bits 13:13, RO -/
abbrev SLU_STAT_PEND : Fld := ⟨13, 1⟩
/-- field SRC of SLU_STAT: bits 12:12, RO -/
abbrev SLU_STAT_SRC : Fld := ⟨12, 1⟩
/-- field TJ of SLU_STAT: bits 7:0, RO -/
abbrev SLU_STAT_TJ : Fld := ⟨0, 8⟩

/-- SLU_MOVE (R178). -/
abbrev SLU_MOVE (i : Nat) : Nat := 0x40040300 + 4 * i
/-- field MOVED of SLU_MOVE: bits 31:31, RO -/
abbrev SLU_MOVE_MOVED : Fld := ⟨31, 1⟩
/-- field NOMOVE of SLU_MOVE: bits 30:30, RO -/
abbrev SLU_MOVE_NOMOVE : Fld := ⟨30, 1⟩
/-- field I_KINK of SLU_MOVE: bits 29:16, RO -/
abbrev SLU_MOVE_I_KINK : Fld := ⟨16, 14⟩
/-- field MOVE_T of SLU_MOVE: bits 15:0, RO -/
abbrev SLU_MOVE_MOVE_T : Fld := ⟨0, 16⟩

/-- SLU_MEAS (R178). -/
abbrev SLU_MEAS (i : Nat) : Nat := 0x40040380 + 4 * i
/-- field I of SLU_MEAS: bits 31:16, RO -/
abbrev SLU_MEAS_I : Fld := ⟨16, 16⟩
/-- field DUTY of SLU_MEAS: bits 15:8, RO -/
abbrev SLU_MEAS_DUTY : Fld := ⟨8, 8⟩

/-- SLU_BANK (R178). -/
abbrev SLU_BANK (i : Nat) : Nat := 0x40040400 + 4 * i
/-- field BOOST of SLU_BANK: bits 31:31, RW, PR -/
abbrev SLU_BANK_BOOST : Fld := ⟨31, 1⟩
/-- field BAL_ACT of SLU_BANK: bits 30:30, RW, PR -/
abbrev SLU_BANK_BAL_ACT : Fld := ⟨30, 1⟩
/-- field BCLR of SLU_BANK: bits 29:29, WO -/
abbrev SLU_BANK_BCLR : Fld := ⟨29, 1⟩
/-- field LIMP_TIME of SLU_BANK: bits 25:16, RW, PR -/
abbrev SLU_BANK_LIMP_TIME : Fld := ⟨16, 10⟩

/-- SLU_BSTAT (R178). -/
abbrev SLU_BSTAT (i : Nat) : Nat := 0x40040410 + 4 * i
/-- field LIMP of SLU_BSTAT: bits 31:31, RO -/
abbrev SLU_BSTAT_LIMP : Fld := ⟨31, 1⟩
/-- field SAFE of SLU_BSTAT: bits 30:30, RO -/
abbrev SLU_BSTAT_SAFE : Fld := ⟨30, 1⟩
/-- field LIMPED of SLU_BSTAT: bits 29:29, W1C -/
abbrev SLU_BSTAT_LIMPED : Fld := ⟨29, 1⟩
/-- field SAFED of SLU_BSTAT: bits 28:28, W1C -/
abbrev SLU_BSTAT_SAFED : Fld := ⟨28, 1⟩
/-- field LEAK of SLU_BSTAT: bits 27:27, W1C -/
abbrev SLU_BSTAT_LEAK : Fld := ⟨27, 1⟩
/-- field BSW_LATCH of SLU_BSTAT: bits 26:26, RO -/
abbrev SLU_BSTAT_BSW_LATCH : Fld := ⟨26, 1⟩
/-- field ON_VRES of SLU_BSTAT: bits 25:25, RO -/
abbrev SLU_BSTAT_ON_VRES : Fld := ⟨25, 1⟩
/-- field PEAK_OWNER of SLU_BSTAT: bits 24:20, RO -/
abbrev SLU_BSTAT_PEAK_OWNER : Fld := ⟨20, 5⟩
/-- field BNODE_HI of SLU_BSTAT: bits 19:19, RO -/
abbrev SLU_BSTAT_BNODE_HI : Fld := ⟨19, 1⟩
/-- field BSW_OCL of SLU_BSTAT: bits 18:18, W1C -/
abbrev SLU_BSTAT_BSW_OCL : Fld := ⟨18, 1⟩
/-- field BSW_THERM of SLU_BSTAT: bits 17:17, W1C -/
abbrev SLU_BSTAT_BSW_THERM : Fld := ⟨17, 1⟩
/-- field BSW_VETO of SLU_BSTAT: bits 16:16, RO -/
abbrev SLU_BSTAT_BSW_VETO : Fld := ⟨16, 1⟩
/-- field REFUSE_CNT of SLU_BSTAT: bits 15:8, RW -/
abbrev SLU_BSTAT_REFUSE_CNT : Fld := ⟨8, 8⟩
/-- field IBANK of SLU_BSTAT: bits 7:0, RO -/
abbrev SLU_BSTAT_IBANK : Fld := ⟨0, 8⟩

/-- SLU_REC (R178). -/
abbrev SLU_REC (i : Nat) : Nat := 0x40040420 + 4 * i
/-- field EREC of SLU_REC: bits 31:0, RW -/
abbrev SLU_REC_EREC : Fld := ⟨0, 32⟩

/-- BR_CMD (R201). -/
abbrev BR_CMD (i : Nat) : Nat := 0x40050000 + 4 * i
/-- field RUN of BR_CMD: bits 31:31, RW -/
abbrev BR_CMD_RUN : Fld := ⟨31, 1⟩
/-- field DIR of BR_CMD: bits 30:30, RW -/
abbrev BR_CMD_DIR : Fld := ⟨30, 1⟩
/-- field CLR of BR_CMD: bits 29:29, WO -/
abbrev BR_CMD_CLR : Fld := ⟨29, 1⟩
/-- field GOTO of BR_CMD: bits 28:28, RW -/
abbrev BR_CMD_GOTO : Fld := ⟨28, 1⟩
/-- field DUTY of BR_CMD: bits 27:16, RW -/
abbrev BR_CMD_DUTY : Fld := ⟨16, 12⟩
/-- field TGT of BR_CMD: bits 15:0, RW -/
abbrev BR_CMD_TGT : Fld := ⟨0, 16⟩

/-- BR_CFG (R201). -/
abbrev BR_CFG (i : Nat) : Nat := 0x40050040 + 4 * i
/-- field PAIR of BR_CFG: bits 31:31, RW, PR -/
abbrev BR_CFG_PAIR : Fld := ⟨31, 1⟩
/-- field SIDE of BR_CFG: bits 30:30, RW, PR -/
abbrev BR_CFG_SIDE : Fld := ⟨30, 1⟩
/-- field PWMF of BR_CFG: bits 29:27, RW, PR -/
abbrev BR_CFG_PWMF : Fld := ⟨27, 3⟩
/-- field BRAKE of BR_CFG: bits 26:26, RW, PR -/
abbrev BR_CFG_BRAKE : Fld := ⟨26, 1⟩
/-- field BRK_HOLD of BR_CFG: bits 25:25, RW, PR -/
abbrev BR_CFG_BRK_HOLD : Fld := ⟨25, 1⟩
/-- field SAFE of BR_CFG: bits 24:23, RW, PR -/
abbrev BR_CFG_SAFE : Fld := ⟨23, 2⟩
/-- field PARK_SEL of BR_CFG: bits 22:21, RW, PR -/
abbrev BR_CFG_PARK_SEL : Fld := ⟨21, 2⟩
/-- field PARK_LVL of BR_CFG: bits 20:20, RW, PR -/
abbrev BR_CFG_PARK_LVL : Fld := ⟨20, 1⟩
/-- field BRK_T of BR_CFG: bits 19:12, RW, PR -/
abbrev BR_CFG_BRK_T : Fld := ⟨12, 8⟩
/-- field RAMP_T of BR_CFG: bits 11:4, RW, PR -/
abbrev BR_CFG_RAMP_T : Fld := ⟨4, 8⟩

/-- BR_PROT (R201). -/
abbrev BR_PROT (i : Nat) : Nat := 0x40050080 + 4 * i
/-- field OC_TH of BR_PROT: bits 31:27, RW, PR -/
abbrev BR_PROT_OC_TH : Fld := ⟨27, 5⟩
/-- field OC_FILT of BR_PROT: bits 26:24, RW, PR -/
abbrev BR_PROT_OC_FILT : Fld := ⟨24, 3⟩
/-- field STALL_TH of BR_PROT: bits 23:16, RW, PR -/
abbrev BR_PROT_STALL_TH : Fld := ⟨16, 8⟩
/-- field STALL_T of BR_PROT: bits 15:8, RW, PR -/
abbrev BR_PROT_STALL_T : Fld := ⟨8, 8⟩
/-- field ST_BLK of BR_PROT: bits 7:0, RW, PR -/
abbrev BR_PROT_ST_BLK : Fld := ⟨0, 8⟩

/-- BR_RIP (R201). -/
abbrev BR_RIP (i : Nat) : Nat := 0x400500C0 + 4 * i
/-- field RIP_EN of BR_RIP: bits 31:31, RW, PR -/
abbrev BR_RIP_RIP_EN : Fld := ⟨31, 1⟩
/-- field NORM of BR_RIP: bits 30:30, RW, PR -/
abbrev BR_RIP_NORM : Fld := ⟨30, 1⟩
/-- field NORM_DIR of BR_RIP: bits 29:29, RW, PR -/
abbrev BR_RIP_NORM_DIR : Fld := ⟨29, 1⟩
/-- field OL_CNT of BR_RIP: bits 28:26, RW, PR -/
abbrev BR_RIP_OL_CNT : Fld := ⟨26, 3⟩
/-- field RIP_TO of BR_RIP: bits 25:16, RW, PR -/
abbrev BR_RIP_RIP_TO : Fld := ⟨16, 10⟩
/-- field PARK_TO of BR_RIP: bits 15:8, RW, PR -/
abbrev BR_RIP_PARK_TO : Fld := ⟨8, 8⟩
/-- field AT_REV of BR_RIP: bits 7:0, RW, PR -/
abbrev BR_RIP_AT_REV : Fld := ⟨0, 8⟩

/-- BR_AT (R201). -/
abbrev BR_AT (i : Nat) : Nat := 0x40050100 + 4 * i
/-- field AT_EN of BR_AT: bits 31:31, RW, PR -/
abbrev BR_AT_AT_EN : Fld := ⟨31, 1⟩
/-- field AT_DIR of BR_AT: bits 30:30, RW, PR -/
abbrev BR_AT_AT_DIR : Fld := ⟨30, 1⟩
/-- field AT_TH of BR_AT: bits 29:24, RW, PR -/
abbrev BR_AT_AT_TH : Fld := ⟨24, 6⟩
/-- field AT_LO of BR_AT: bits 23:12, RW, PR -/
abbrev BR_AT_AT_LO : Fld := ⟨12, 12⟩
/-- field AT_HI of BR_AT: bits 11:0, RW, PR -/
abbrev BR_AT_AT_HI : Fld := ⟨0, 12⟩

/-- BR_STAT (R201). -/
abbrev BR_STAT (i : Nat) : Nat := 0x40050140 + 4 * i
/-- field STATE of BR_STAT: bits 31:28, RO -/
abbrev BR_STAT_STATE : Fld := ⟨28, 4⟩
/-- field CODE of BR_STAT: bits 27:24, RO -/
abbrev BR_STAT_CODE : Fld := ⟨24, 4⟩
/-- field OCL of BR_STAT: bits 23:23, W1C -/
abbrev BR_STAT_OCL : Fld := ⟨23, 1⟩
/-- field HLIM of BR_STAT: bits 22:22, W1C -/
abbrev BR_STAT_HLIM : Fld := ⟨22, 1⟩
/-- field THERM of BR_STAT: bits 21:21, W1C -/
abbrev BR_STAT_THERM : Fld := ⟨21, 1⟩
/-- field STALL of BR_STAT: bits 20:20, W1C -/
abbrev BR_STAT_STALL : Fld := ⟨20, 1⟩
/-- field TRAP of BR_STAT: bits 19:19, W1C -/
abbrev BR_STAT_TRAP : Fld := ⟨19, 1⟩
/-- field PARKTO of BR_STAT: bits 18:18, W1C -/
abbrev BR_STAT_PARKTO : Fld := ⟨18, 1⟩
/-- field OPEN of BR_STAT: bits 17:17, W1C -/
abbrev BR_STAT_OPEN : Fld := ⟨17, 1⟩
/-- field VETO_T of BR_STAT: bits 16:16, RO -/
abbrev BR_STAT_VETO_T : Fld := ⟨16, 1⟩
/-- field PEND of BR_STAT: bits 15:15, RO -/
abbrev BR_STAT_PEND : Fld := ⟨15, 1⟩
/-- field NORM_OK of BR_STAT: bits 14:14, RO -/
abbrev BR_STAT_NORM_OK : Fld := ⟨14, 1⟩
/-- field GOTO_REJ of BR_STAT: bits 13:13, W1C -/
abbrev BR_STAT_GOTO_REJ : Fld := ⟨13, 1⟩
/-- field TJ of BR_STAT: bits 7:0, RO -/
abbrev BR_STAT_TJ : Fld := ⟨0, 8⟩

/-- BR_POS (R201). -/
abbrev BR_POS (i : Nat) : Nat := 0x40050180 + 4 * i
/-- field RPER of BR_POS: bits 31:16, RO -/
abbrev BR_POS_RPER : Fld := ⟨16, 16⟩
/-- field POS of BR_POS: bits 15:0, RW -/
abbrev BR_POS_POS : Fld := ⟨0, 16⟩

/-- BR_MEAS (R201). -/
abbrev BR_MEAS (i : Nat) : Nat := 0x400501C0 + 4 * i
/-- field I of BR_MEAS: bits 15:0, RO -/
abbrev BR_MEAS_I : Fld := ⟨0, 16⟩

/-- BR_GRP (R201). -/
abbrev BR_GRP (i : Nat) : Nat := 0x40050200 + 4 * i
/-- field LIMP_TIME of BR_GRP: bits 25:16, RW, PR -/
abbrev BR_GRP_LIMP_TIME : Fld := ⟨16, 10⟩

/-- BR_GSTAT (R201). -/
abbrev BR_GSTAT (i : Nat) : Nat := 0x40050210 + 4 * i
/-- field LIMP of BR_GSTAT: bits 31:31, RO -/
abbrev BR_GSTAT_LIMP : Fld := ⟨31, 1⟩
/-- field SAFE of BR_GSTAT: bits 30:30, RO -/
abbrev BR_GSTAT_SAFE : Fld := ⟨30, 1⟩
/-- field LIMPED of BR_GSTAT: bits 29:29, W1C -/
abbrev BR_GSTAT_LIMPED : Fld := ⟨29, 1⟩
/-- field SAFED of BR_GSTAT: bits 28:28, W1C -/
abbrev BR_GSTAT_SAFED : Fld := ⟨28, 1⟩

/-- LC_CMD (R236). -/
abbrev LC_CMD (i : Nat) : Nat := 0x40060000 + 4 * i
/-- field ON of LC_CMD: bits 31:31, RW -/
abbrev LC_CMD_ON : Fld := ⟨31, 1⟩
/-- field CLR of LC_CMD: bits 30:30, WO -/
abbrev LC_CMD_CLR : Fld := ⟨30, 1⟩
/-- field LVL of LC_CMD: bits 15:0, RW -/
abbrev LC_CMD_LVL : Fld := ⟨0, 16⟩

/-- BL_CMD (R236). -/
abbrev BL_CMD (i : Nat) : Nat := 0x40060400 + 4 * i
/-- field ON of BL_CMD: bits 31:31, RW -/
abbrev BL_CMD_ON : Fld := ⟨31, 1⟩
/-- field CLR of BL_CMD: bits 30:30, WO -/
abbrev BL_CMD_CLR : Fld := ⟨30, 1⟩
/-- field LVL of BL_CMD: bits 15:0, RW -/
abbrev BL_CMD_LVL : Fld := ⟨0, 16⟩

/-- LC_CFG (R236). -/
abbrev LC_CFG (i : Nat) : Nat := 0x40060100 + 4 * i
/-- field FOLLOW of LC_CFG: bits 31:31, RW, PR -/
abbrev LC_CFG_FOLLOW : Fld := ⟨31, 1⟩
/-- field MOOR_KEEP of LC_CFG: bits 30:30, RW, PR -/
abbrev LC_CFG_MOOR_KEEP : Fld := ⟨30, 1⟩
/-- field SHORT_OFF of LC_CFG: bits 29:29, RW, PR -/
abbrev LC_CFG_SHORT_OFF : Fld := ⟨29, 1⟩
/-- field PWMF of LC_CFG: bits 28:26, RW, PR -/
abbrev LC_CFG_PWMF : Fld := ⟨26, 3⟩
/-- field SAFE of LC_CFG: bits 25:24, RW, PR -/
abbrev LC_CFG_SAFE : Fld := ⟨24, 2⟩
/-- field FADE_T of LC_CFG: bits 23:16, RW, PR -/
abbrev LC_CFG_FADE_T : Fld := ⟨16, 8⟩
/-- field ISET of LC_CFG: bits 9:0, RW, PR -/
abbrev LC_CFG_ISET : Fld := ⟨0, 10⟩

/-- LC_DCFG (R236). -/
abbrev LC_DCFG (i : Nat) : Nat := 0x40060200 + 4 * i
/-- field DIAG_EN of LC_DCFG: bits 31:31, RW, PR -/
abbrev LC_DCFG_DIAG_EN : Fld := ⟨31, 1⟩
/-- field STRETCH of LC_DCFG: bits 30:30, RW, PR -/
abbrev LC_DCFG_STRETCH : Fld := ⟨30, 1⟩
/-- field OL_CNT of LC_DCFG: bits 29:26, RW, PR -/
abbrev LC_DCFG_OL_CNT : Fld := ⟨26, 4⟩
/-- field VSH_TH of LC_DCFG: bits 23:16, RW, PR -/
abbrev LC_DCFG_VSH_TH : Fld := ⟨16, 8⟩
/-- field SAFE_LVL of LC_DCFG: bits 15:8, RW, PR -/
abbrev LC_DCFG_SAFE_LVL : Fld := ⟨8, 8⟩

/-- LC_STAT (R236). -/
abbrev LC_STAT (i : Nat) : Nat := 0x40060300 + 4 * i
/-- field STATE of LC_STAT: bits 31:28, RO -/
abbrev LC_STAT_STATE : Fld := ⟨28, 4⟩
/-- field CODE of LC_STAT: bits 27:24, RO -/
abbrev LC_STAT_CODE : Fld := ⟨24, 4⟩
/-- field OPEN of LC_STAT: bits 23:23, W1C -/
abbrev LC_STAT_OPEN : Fld := ⟨23, 1⟩
/-- field SHORT of LC_STAT: bits 22:22, W1C -/
abbrev LC_STAT_SHORT : Fld := ⟨22, 1⟩
/-- field PEND of LC_STAT: bits 21:21, RO -/
abbrev LC_STAT_PEND : Fld := ⟨21, 1⟩
/-- field FOLD of LC_STAT: bits 20:20, RO -/
abbrev LC_STAT_FOLD : Fld := ⟨20, 1⟩
/-- field STRETCHED of LC_STAT: bits 19:19, RO -/
abbrev LC_STAT_STRETCHED : Fld := ⟨19, 1⟩
/-- field VSINK of LC_STAT: bits 11:0, RO -/
abbrev LC_STAT_VSINK : Fld := ⟨0, 12⟩

/-- BL_CFG (R236). -/
abbrev BL_CFG (i : Nat) : Nat := 0x40060410 + 4 * i
/-- field SHED of BL_CFG: bits 31:31, RW, PR -/
abbrev BL_CFG_SHED : Fld := ⟨31, 1⟩
/-- field SAFE of BL_CFG: bits 30:29, RW, PR -/
abbrev BL_CFG_SAFE : Fld := ⟨29, 2⟩
/-- field PWMF of BL_CFG: bits 28:26, RW, PR -/
abbrev BL_CFG_PWMF : Fld := ⟨26, 3⟩
/-- field VOMAX of BL_CFG: bits 25:20, RW, PR -/
abbrev BL_CFG_VOMAX : Fld := ⟨20, 6⟩
/-- field FADE_T of BL_CFG: bits 19:12, RW, PR -/
abbrev BL_CFG_FADE_T : Fld := ⟨12, 8⟩
/-- field ISET of BL_CFG: bits 8:0, RW, PR -/
abbrev BL_CFG_ISET : Fld := ⟨0, 9⟩

/-- BL_STAT (R236). -/
abbrev BL_STAT (i : Nat) : Nat := 0x40060420 + 4 * i
/-- field STATE of BL_STAT: bits 31:28, RO -/
abbrev BL_STAT_STATE : Fld := ⟨28, 4⟩
/-- field CODE of BL_STAT: bits 27:24, RO -/
abbrev BL_STAT_CODE : Fld := ⟨24, 4⟩
/-- field OPEN of BL_STAT: bits 23:23, W1C -/
abbrev BL_STAT_OPEN : Fld := ⟨23, 1⟩
/-- field SHORT of BL_STAT: bits 22:22, W1C -/
abbrev BL_STAT_SHORT : Fld := ⟨22, 1⟩
/-- field OCL of BL_STAT: bits 21:21, W1C -/
abbrev BL_STAT_OCL : Fld := ⟨21, 1⟩
/-- field SAT of BL_STAT: bits 20:20, RO -/
abbrev BL_STAT_SAT : Fld := ⟨20, 1⟩
/-- field PEND of BL_STAT: bits 19:19, RO -/
abbrev BL_STAT_PEND : Fld := ⟨19, 1⟩
/-- field VOUT of BL_STAT: bits 11:0, RO -/
abbrev BL_STAT_VOUT : Fld := ⟨0, 12⟩

/-- BL_MEAS (R236). -/
abbrev BL_MEAS (i : Nat) : Nat := 0x40060430 + 4 * i
/-- field IOUT of BL_MEAS: bits 15:0, RO -/
abbrev BL_MEAS_IOUT : Fld := ⟨0, 16⟩

/-- PD_VAL (R236). -/
abbrev PD_VAL (i : Nat) : Nat := 0x40060440 + 4 * i
/-- field OVR of PD_VAL: bits 31:31, RO -/
abbrev PD_VAL_OVR : Fld := ⟨31, 1⟩
/-- field RANGE of PD_VAL: bits 29:28, RO -/
abbrev PD_VAL_RANGE : Fld := ⟨28, 2⟩
/-- field VAL of PD_VAL: bits 23:0, RO -/
abbrev PD_VAL_VAL : Fld := ⟨0, 24⟩

/-- SNS_CFG (R236). -/
abbrev SNS_CFG (i : Nat) : Nat := 0x40060450 + 4 * i
/-- field EN of SNS_CFG: bits 31:31, RW, PR -/
abbrev SNS_CFG_EN : Fld := ⟨31, 1⟩
/-- field BUS of SNS_CFG: bits 30:30, RW, PR -/
abbrev SNS_CFG_BUS : Fld := ⟨30, 1⟩
/-- field BE of SNS_CFG: bits 29:29, RW, PR -/
abbrev SNS_CFG_BE : Fld := ⟨29, 1⟩
/-- field REG of SNS_CFG: bits 23:16, RW, PR -/
abbrev SNS_CFG_REG : Fld := ⟨16, 8⟩
/-- field ADDR of SNS_CFG: bits 14:8, RW, PR -/
abbrev SNS_CFG_ADDR : Fld := ⟨8, 7⟩

/-- LOOP_CFG (R236). -/
abbrev LOOP_CFG (i : Nat) : Nat := 0x40060500 + 4 * i
/-- field EN of LOOP_CFG: bits 31:31, RW, PR -/
abbrev LOOP_CFG_EN : Fld := ⟨31, 1⟩
/-- field RGB of LOOP_CFG: bits 30:30, RW, PR -/
abbrev LOOP_CFG_RGB : Fld := ⟨30, 1⟩
/-- field SRC of LOOP_CFG: bits 29:27, RW, PR -/
abbrev LOOP_CFG_SRC : Fld := ⟨27, 3⟩
/-- field SNSF of LOOP_CFG: bits 26:26, RO -/
abbrev LOOP_CFG_SNSF : Fld := ⟨26, 1⟩
/-- field KSH of LOOP_CFG: bits 25:22, RW, PR -/
abbrev LOOP_CFG_KSH : Fld := ⟨22, 4⟩
/-- field MEM2 of LOOP_CFG: bits 20:14, RW, PR -/
abbrev LOOP_CFG_MEM2 : Fld := ⟨14, 7⟩
/-- field MEM1 of LOOP_CFG: bits 13:7, RW, PR -/
abbrev LOOP_CFG_MEM1 : Fld := ⟨7, 7⟩
/-- field MEM0 of LOOP_CFG: bits 6:0, RW, PR -/
abbrev LOOP_CFG_MEM0 : Fld := ⟨0, 7⟩

/-- LOOP_TGT (R236). -/
abbrev LOOP_TGT (i j : Nat) : Nat := 0x40060520 + 16 * i + 4 * j
/-- field TGT of LOOP_TGT: bits 23:0, RW, PR -/
abbrev LOOP_TGT_TGT : Fld := ⟨0, 24⟩

/-- LOOP_MAT (R236). -/
abbrev LOOP_MAT (i j : Nat) : Nat := 0x40060600 + 32 * i + 4 * j
/-- field M_HI of LOOP_MAT: bits 31:16, RW, PR -/
abbrev LOOP_MAT_M_HI : Fld := ⟨16, 16⟩
/-- field M_LO of LOOP_MAT: bits 15:0, RW, PR -/
abbrev LOOP_MAT_M_LO : Fld := ⟨0, 16⟩

/-- LOOP_STAT (R236). -/
abbrev LOOP_STAT (i j : Nat) : Nat := 0x40060700 + 16 * i + 4 * j
/-- field SAT of LOOP_STAT: bits 31:31, RO -/
abbrev LOOP_STAT_SAT : Fld := ⟨31, 1⟩
/-- field SATSEEN of LOOP_STAT: bits 30:30, W1C -/
abbrev LOOP_STAT_SATSEEN : Fld := ⟨30, 1⟩
/-- field HELD of LOOP_STAT: bits 29:29, RO -/
abbrev LOOP_STAT_HELD : Fld := ⟨29, 1⟩
/-- field GAIN of LOOP_STAT: bits 15:0, RO -/
abbrev LOOP_STAT_GAIN : Fld := ⟨0, 16⟩

/-- TR_CFG (R236). -/
abbrev TR_CFG : Nat := 0x40060800
/-- field FRAME_HZ of TR_CFG: bits 31:23, RW, PR -/
abbrev TR_CFG_FRAME_HZ : Fld := ⟨23, 9⟩
/-- field NLINES of TR_CFG: bits 22:19, RW, PR -/
abbrev TR_CFG_NLINES : Fld := ⟨19, 4⟩
/-- field NSUB of TR_CFG: bits 18:15, RW, PR -/
abbrev TR_CFG_NSUB : Fld := ⟨15, 4⟩
/-- field BLANK of TR_CFG: bits 14:10, RW, PR -/
abbrev TR_CFG_BLANK : Fld := ⟨10, 5⟩

/-- TR_CFG2 (R236). -/
abbrev TR_CFG2 : Nat := 0x40060804
/-- field STRETCH of TR_CFG2: bits 31:31, RW, PR -/
abbrev TR_CFG2_STRETCH : Fld := ⟨31, 1⟩
/-- field COLF_STOP of TR_CFG2: bits 30:30, RW, PR -/
abbrev TR_CFG2_COLF_STOP : Fld := ⟨30, 1⟩
/-- field SAFE of TR_CFG2: bits 29:28, RW, PR -/
abbrev TR_CFG2_SAFE : Fld := ⟨28, 2⟩
/-- field CONF of TR_CFG2: bits 27:24, RW, PR -/
abbrev TR_CFG2_CONF : Fld := ⟨24, 4⟩
/-- field PRE_VF of TR_CFG2: bits 23:16, RW, PR -/
abbrev TR_CFG2_PRE_VF : Fld := ⟨16, 8⟩
/-- field VSH_TH of TR_CFG2: bits 15:8, RW, PR -/
abbrev TR_CFG2_VSH_TH : Fld := ⟨8, 8⟩
/-- field SAFE_LVL of TR_CFG2: bits 7:0, RW, PR -/
abbrev TR_CFG2_SAFE_LVL : Fld := ⟨0, 8⟩

/-- TR_COLMASK_LO (R236). -/
abbrev TR_COLMASK_LO : Nat := 0x40060808
/-- field COL_LO of TR_COLMASK_LO: bits 31:0, RW, PR -/
abbrev TR_COLMASK_LO_COL_LO : Fld := ⟨0, 32⟩

/-- TR_COLMASK_HI (R236). -/
abbrev TR_COLMASK_HI : Nat := 0x4006080C
/-- field COL_HI of TR_COLMASK_HI: bits 15:0, RW, PR -/
abbrev TR_COLMASK_HI_COL_HI : Fld := ⟨0, 16⟩

/-- TR_CMD (R236). -/
abbrev TR_CMD : Nat := 0x40060810
/-- field RUN of TR_CMD: bits 31:31, RW -/
abbrev TR_CMD_RUN : Fld := ⟨31, 1⟩
/-- field SHOW of TR_CMD: bits 30:30, RW -/
abbrev TR_CMD_SHOW : Fld := ⟨30, 1⟩
/-- field LCLR of TR_CMD: bits 29:29, WO -/
abbrev TR_CMD_LCLR : Fld := ⟨29, 1⟩

/-- TR_STAT (R236). -/
abbrev TR_STAT : Nat := 0x40060814
/-- field STATE of TR_STAT: bits 31:30, RO -/
abbrev TR_STAT_STATE : Fld := ⟨30, 2⟩
/-- field DISP of TR_STAT: bits 29:29, RO -/
abbrev TR_STAT_DISP : Fld := ⟨29, 1⟩
/-- field COLF of TR_STAT: bits 28:28, W1C -/
abbrev TR_STAT_COLF : Fld := ⟨28, 1⟩
/-- field LSEEN of TR_STAT: bits 27:27, W1C -/
abbrev TR_STAT_LSEEN : Fld := ⟨27, 1⟩
/-- field LLATCH of TR_STAT: bits 15:0, RO -/
abbrev TR_STAT_LLATCH : Fld := ⟨0, 16⟩

/-- TR_COLF_LO (R236). -/
abbrev TR_COLF_LO : Nat := 0x40060818
/-- field COL_LO of TR_COLF_LO: bits 31:0, W1C -/
abbrev TR_COLF_LO_COL_LO : Fld := ⟨0, 32⟩

/-- TR_COLF_HI (R236). -/
abbrev TR_COLF_HI : Nat := 0x4006081C
/-- field COL_HI of TR_COLF_HI: bits 15:0, W1C -/
abbrev TR_COLF_HI_COL_HI : Fld := ⟨0, 16⟩

/-- LIGHT_BANK (R236). -/
abbrev LIGHT_BANK : Nat := 0x40060900
/-- field STRETCH_N of LIGHT_BANK: bits 31:28, RW, PR -/
abbrev LIGHT_BANK_STRETCH_N : Fld := ⟨28, 4⟩
/-- field LIMP_TIME of LIGHT_BANK: bits 25:16, RW, PR -/
abbrev LIGHT_BANK_LIMP_TIME : Fld := ⟨16, 10⟩

/-- LIGHT_BSTAT (R236). -/
abbrev LIGHT_BSTAT : Nat := 0x40060904
/-- field LIMP of LIGHT_BSTAT: bits 31:31, RO -/
abbrev LIGHT_BSTAT_LIMP : Fld := ⟨31, 1⟩
/-- field SAFE of LIGHT_BSTAT: bits 30:30, RO -/
abbrev LIGHT_BSTAT_SAFE : Fld := ⟨30, 1⟩
/-- field LIMPED of LIGHT_BSTAT: bits 29:29, W1C -/
abbrev LIGHT_BSTAT_LIMPED : Fld := ⟨29, 1⟩
/-- field SAFED of LIGHT_BSTAT: bits 28:28, W1C -/
abbrev LIGHT_BSTAT_SAFED : Fld := ⟨28, 1⟩
/-- field MOOR of LIGHT_BSTAT: bits 27:27, RO -/
abbrev LIGHT_BSTAT_MOOR : Fld := ⟨27, 1⟩

/-- LIGHT_THERM (R236). -/
abbrev LIGHT_THERM : Nat := 0x40060908
/-- field FOLD of LIGHT_THERM: bits 31:31, RO -/
abbrev LIGHT_THERM_FOLD : Fld := ⟨31, 1⟩
/-- field TSD of LIGHT_THERM: bits 30:30, RO -/
abbrev LIGHT_THERM_TSD : Fld := ⟨30, 1⟩
/-- field TSDSEEN of LIGHT_THERM: bits 29:29, W1C -/
abbrev LIGHT_THERM_TSDSEEN : Fld := ⟨29, 1⟩
/-- field TFOLD of LIGHT_THERM: bits 15:8, RW, PR -/
abbrev LIGHT_THERM_TFOLD : Fld := ⟨8, 8⟩
/-- field FACT of LIGHT_THERM: bits 7:0, RO -/
abbrev LIGHT_THERM_FACT : Fld := ⟨0, 8⟩

/-- TR_OPEN (R236). -/
abbrev TR_OPEN (i : Nat) : Nat := 0x40060A00 + 4 * i
/-- field LEDS of TR_OPEN: bits 31:0, W1C -/
abbrev TR_OPEN_LEDS : Fld := ⟨0, 32⟩

/-- TR_SHORT (R236). -/
abbrev TR_SHORT (i : Nat) : Nat := 0x40060A80 + 4 * i
/-- field LEDS of TR_SHORT: bits 31:0, W1C -/
abbrev TR_SHORT_LEDS : Fld := ⟨0, 32⟩

/-- TR_BUF_A (R236). -/
abbrev TR_BUF_A (i : Nat) : Nat := 0x40061000 + 4 * i
/-- field L_ODD of TR_BUF_A: bits 27:16, RW -/
abbrev TR_BUF_A_L_ODD : Fld := ⟨16, 12⟩
/-- field L_EVEN of TR_BUF_A: bits 11:0, RW -/
abbrev TR_BUF_A_L_EVEN : Fld := ⟨0, 12⟩

/-- TR_BUF_B (R236). -/
abbrev TR_BUF_B (i : Nat) : Nat := 0x40061800 + 4 * i
/-- field L_ODD of TR_BUF_B: bits 27:16, RW -/
abbrev TR_BUF_B_L_ODD : Fld := ⟨16, 12⟩
/-- field L_EVEN of TR_BUF_B: bits 11:0, RW -/
abbrev TR_BUF_B_L_EVEN : Fld := ⟨0, 12⟩

/-- IN_CFG (R254). -/
abbrev IN_CFG (i : Nat) : Nat := 0x40070000 + 4 * i
/-- field WAKE of IN_CFG: bits 31:30, RW, PR -/
abbrev IN_CFG_WAKE : Fld := ⟨30, 2⟩
/-- field EVT of IN_CFG: bits 29:29, RW, PR -/
abbrev IN_CFG_EVT : Fld := ⟨29, 1⟩
/-- field WET of IN_CFG: bits 27:26, RW, PR -/
abbrev IN_CFG_WET : Fld := ⟨26, 2⟩
/-- field PULL of IN_CFG: bits 25:25, RW, PR -/
abbrev IN_CFG_PULL : Fld := ⟨25, 1⟩
/-- field CLEAN of IN_CFG: bits 24:24, RW, PR -/
abbrev IN_CFG_CLEAN : Fld := ⟨24, 1⟩
/-- field THR of IN_CFG: bits 23:22, RW, PR -/
abbrev IN_CFG_THR : Fld := ⟨22, 2⟩
/-- field DEB of IN_CFG: bits 12:0, RW, PR -/
abbrev IN_CFG_DEB : Fld := ⟨0, 13⟩

/-- IN_LVL (R254). -/
abbrev IN_LVL (i : Nat) : Nat := 0x40070200 + 4 * i
/-- field LVL of IN_LVL: bits 31:0, RO -/
abbrev IN_LVL_LVL : Fld := ⟨0, 32⟩

/-- IN_RAW (R254). -/
abbrev IN_RAW (i : Nat) : Nat := 0x40070210 + 4 * i
/-- field LVL of IN_RAW: bits 31:0, RO -/
abbrev IN_RAW_LVL : Fld := ⟨0, 32⟩

/-- IN_EDGE (R254). -/
abbrev IN_EDGE (i : Nat) : Nat := 0x40070220 + 4 * i
/-- field SEEN of IN_EDGE: bits 31:0, W1C -/
abbrev IN_EDGE_SEEN : Fld := ⟨0, 32⟩

/-- IN_CHAT (R254). -/
abbrev IN_CHAT (i : Nat) : Nat := 0x40070230 + 4 * i
/-- field SEEN of IN_CHAT: bits 31:0, W1C -/
abbrev IN_CHAT_SEEN : Fld := ⟨0, 32⟩

/-- IN_POLL (R254). -/
abbrev IN_POLL : Nat := 0x40070240
/-- field POLL_PER of IN_POLL: bits 31:24, RW, PR -/
abbrev IN_POLL_POLL_PER : Fld := ⟨24, 8⟩
/-- field WAKE_CNT of IN_POLL: bits 23:22, RW, PR -/
abbrev IN_POLL_WAKE_CNT : Fld := ⟨22, 2⟩

/-- FO_CMD (R254). -/
abbrev FO_CMD (i : Nat) : Nat := 0x40070400 + 4 * i
/-- field ON of FO_CMD: bits 31:31, RW -/
abbrev FO_CMD_ON : Fld := ⟨31, 1⟩
/-- field CLR of FO_CMD: bits 30:30, WO -/
abbrev FO_CMD_CLR : Fld := ⟨30, 1⟩

/-- FO_CFG (R254). -/
abbrev FO_CFG (i : Nat) : Nat := 0x40070440 + 4 * i
/-- field OWNER of FO_CFG: bits 31:30, RW, PR -/
abbrev FO_CFG_OWNER : Fld := ⟨30, 2⟩
/-- field SAFE of FO_CFG: bits 29:28, RW, PR -/
abbrev FO_CFG_SAFE : Fld := ⟨28, 2⟩
/-- field AUTO of FO_CFG: bits 27:27, RW, PR -/
abbrev FO_CFG_AUTO : Fld := ⟨27, 1⟩
/-- field DIAG_EN of FO_CFG: bits 26:26, RW, PR -/
abbrev FO_CFG_DIAG_EN : Fld := ⟨26, 1⟩
/-- field OWN_TO of FO_CFG: bits 23:16, RW, PR -/
abbrev FO_CFG_OWN_TO : Fld := ⟨16, 8⟩

/-- FO_STAT (R254). -/
abbrev FO_STAT (i : Nat) : Nat := 0x40070480 + 4 * i
/-- field STATE of FO_STAT: bits 31:28, RO -/
abbrev FO_STAT_STATE : Fld := ⟨28, 4⟩
/-- field OLIMP of FO_STAT: bits 27:27, RO -/
abbrev FO_STAT_OLIMP : Fld := ⟨27, 1⟩
/-- field OSAFE of FO_STAT: bits 26:26, RO -/
abbrev FO_STAT_OSAFE : Fld := ⟨26, 1⟩
/-- field LIM of FO_STAT: bits 25:25, RO -/
abbrev FO_STAT_LIM : Fld := ⟨25, 1⟩
/-- field THERM of FO_STAT: bits 24:24, W1C -/
abbrev FO_STAT_THERM : Fld := ⟨24, 1⟩
/-- field OPEN of FO_STAT: bits 23:23, W1C -/
abbrev FO_STAT_OPEN : Fld := ⟨23, 1⟩
/-- field SHORT_BAT of FO_STAT: bits 22:22, W1C -/
abbrev FO_STAT_SHORT_BAT : Fld := ⟨22, 1⟩
/-- field NOTOWN of FO_STAT: bits 21:21, W1C -/
abbrev FO_STAT_NOTOWN : Fld := ⟨21, 1⟩
/-- field VETO_T of FO_STAT: bits 20:20, RO -/
abbrev FO_STAT_VETO_T : Fld := ⟨20, 1⟩
/-- field PEND of FO_STAT: bits 19:19, RO -/
abbrev FO_STAT_PEND : Fld := ⟨19, 1⟩
/-- field TJ of FO_STAT: bits 7:0, RO -/
abbrev FO_STAT_TJ : Fld := ⟨0, 8⟩

/-- KEEPER_CFG (R275). -/
abbrev KEEPER_CFG : Nat := 0x40080000
/-- field LOCK_CYC of KEEPER_CFG: bits 6:0, RW, PR -/
abbrev KEEPER_CFG_LOCK_CYC : Fld := ⟨0, 7⟩

/-- KEEPER_LCC (R275). -/
abbrev KEEPER_LCC : Nat := 0x40080004
/-- field LCC of KEEPER_LCC: bits 31:0, RO -/
abbrev KEEPER_LCC_LCC : Fld := ⟨0, 32⟩

/-- KEEPER_LSET (R275). -/
abbrev KEEPER_LSET : Nat := 0x40080008
/-- field HIGH of KEEPER_LSET: bits 25:16, RW -/
abbrev KEEPER_LSET_HIGH : Fld := ⟨16, 10⟩
/-- field FULL_CNT of KEEPER_LSET: bits 15:0, RW -/
abbrev KEEPER_LSET_FULL_CNT : Fld := ⟨0, 16⟩

/-- KEEPER_CTRL (R275). -/
abbrev KEEPER_CTRL (i : Nat) : Nat := 0x40080100 + 4 * i
/-- field RESTART of KEEPER_CTRL: bits 31:31, WO, PR -/
abbrev KEEPER_CTRL_RESTART : Fld := ⟨31, 1⟩
/-- field KEEP of KEEPER_CTRL: bits 30:30, RW, PR -/
abbrev KEEPER_CTRL_KEEP : Fld := ⟨30, 1⟩
/-- field F_WD_ACT of KEEPER_CTRL: bits 29:29, RW, PR -/
abbrev KEEPER_CTRL_F_WD_ACT : Fld := ⟨29, 1⟩
/-- field F_WD of KEEPER_CTRL: bits 23:16, RW, PR -/
abbrev KEEPER_CTRL_F_WD : Fld := ⟨16, 8⟩
/-- field L_BUDGET of KEEPER_CTRL: bits 15:0, RW, PR -/
abbrev KEEPER_CTRL_L_BUDGET : Fld := ⟨0, 16⟩

/-- KEEPER_STAT (R275). -/
abbrev KEEPER_STAT (i : Nat) : Nat := 0x40080120 + 4 * i
/-- field STATE of KEEPER_STAT: bits 31:29, RO -/
abbrev KEEPER_STAT_STATE : Fld := ⟨29, 3⟩
/-- field WRONG_OWN of KEEPER_STAT: bits 28:28, W1C -/
abbrev KEEPER_STAT_WRONG_OWN : Fld := ⟨28, 1⟩
/-- field TRAP_CNT of KEEPER_STAT: bits 23:16, RW -/
abbrev KEEPER_STAT_TRAP_CNT : Fld := ⟨16, 8⟩
/-- field F_CARRY of KEEPER_STAT: bits 15:0, RW -/
abbrev KEEPER_STAT_F_CARRY : Fld := ⟨0, 16⟩

/-- KEEPER_TRAP (R275). -/
abbrev KEEPER_TRAP (i : Nat) : Nat := 0x40080140 + 4 * i
/-- field K_TRAP of KEEPER_TRAP: bits 3:0, RO -/
abbrev KEEPER_TRAP_K_TRAP : Fld := ⟨0, 4⟩

/-- KEEPER_TPC (R275). -/
abbrev KEEPER_TPC (i : Nat) : Nat := 0x40080160 + 4 * i
/-- field K_TPC of KEEPER_TPC: bits 31:0, RO -/
abbrev KEEPER_TPC_K_TPC : Fld := ⟨0, 32⟩

/-- KEEPER_LUSE (R275). -/
abbrev KEEPER_LUSE (i : Nat) : Nat := 0x40080180 + 4 * i
/-- field L_MAX of KEEPER_LUSE: bits 31:16, RW -/
abbrev KEEPER_LUSE_L_MAX : Fld := ⟨16, 16⟩
/-- field L_LAST of KEEPER_LUSE: bits 15:0, RO -/
abbrev KEEPER_LUSE_L_LAST : Fld := ⟨0, 16⟩

/-- CHECK_EN (R337). -/
abbrev CHECK_EN : Nat := 0x40100000
/-- field ENABLE of CHECK_EN: bits 17:0, RW, PR -/
abbrev CHECK_EN_ENABLE : Fld := ⟨0, 18⟩

/-- CHECK_STAT (R337). -/
abbrev CHECK_STAT : Nat := 0x40100004
/-- field BUSY of CHECK_STAT: bits 31:31, RO -/
abbrev CHECK_STAT_BUSY : Fld := ⟨31, 1⟩
/-- field CUR of CHECK_STAT: bits 28:24, RO -/
abbrev CHECK_STAT_CUR : Fld := ⟨24, 5⟩
/-- field QUEUE of CHECK_STAT: bits 17:0, RO -/
abbrev CHECK_STAT_QUEUE : Fld := ⟨0, 18⟩

/-- CHECK_REASON (R337). -/
abbrev CHECK_REASON : Nat := 0x40100008
/-- field SUBSYS of CHECK_REASON: bits 31:27, RO -/
abbrev CHECK_REASON_SUBSYS : Fld := ⟨27, 5⟩
/-- field CODE of CHECK_REASON: bits 22:16, RO -/
abbrev CHECK_REASON_CODE : Fld := ⟨16, 7⟩
/-- field DETAIL of CHECK_REASON: bits 15:0, RO -/
abbrev CHECK_REASON_DETAIL : Fld := ⟨0, 16⟩

/-- CHECK_START (R337). -/
abbrev CHECK_START : Nat := 0x40100010
/-- field STATE of CHECK_START: bits 31:28, RO -/
abbrev CHECK_START_STATE : Fld := ⟨28, 4⟩
/-- field KIND of CHECK_START: bits 27:27, RO -/
abbrev CHECK_START_KIND : Fld := ⟨27, 1⟩
/-- field CSLOT of CHECK_START: bits 26:26, RO -/
abbrev CHECK_START_CSLOT : Fld := ⟨26, 1⟩
/-- field FSLOT of CHECK_START: bits 25:25, RO -/
abbrev CHECK_START_FSLOT : Fld := ⟨25, 1⟩
/-- field START_FAIL of CHECK_START: bits 23:16, RO -/
abbrev CHECK_START_START_FAIL : Fld := ⟨16, 8⟩
/-- field CLAIM_MS of CHECK_START: bits 15:0, RO -/
abbrev CHECK_START_CLAIM_MS : Fld := ⟨0, 16⟩

/-- CHECK_STARTCTL (R337). -/
abbrev CHECK_STARTCTL : Nat := 0x40100014
/-- field LIMP_CLR of CHECK_STARTCTL: bits 31:31, WO, PR -/
abbrev CHECK_STARTCTL_LIMP_CLR : Fld := ⟨31, 1⟩

/-- CHECK_CHARTVER (R337). -/
abbrev CHECK_CHARTVER : Nat := 0x40100018
/-- field MAJOR of CHECK_CHARTVER: bits 31:24, RO -/
abbrev CHECK_CHARTVER_MAJOR : Fld := ⟨24, 8⟩
/-- field MINOR of CHECK_CHARTVER: bits 23:16, RO -/
abbrev CHECK_CHARTVER_MINOR : Fld := ⟨16, 8⟩
/-- field PATCH of CHECK_CHARTVER: bits 15:0, RO -/
abbrev CHECK_CHARTVER_PATCH : Fld := ⟨0, 16⟩

/-- CHECK_FWVER (R337). -/
abbrev CHECK_FWVER : Nat := 0x4010001C
/-- field MAJOR of CHECK_FWVER: bits 31:24, RO -/
abbrev CHECK_FWVER_MAJOR : Fld := ⟨24, 8⟩
/-- field MINOR of CHECK_FWVER: bits 23:16, RO -/
abbrev CHECK_FWVER_MINOR : Fld := ⟨16, 8⟩
/-- field PATCH of CHECK_FWVER: bits 15:0, RO -/
abbrev CHECK_FWVER_PATCH : Fld := ⟨0, 16⟩

/-- CHECK_DIGEST (R337). -/
abbrev CHECK_DIGEST : Nat := 0x40100020
/-- field DIGEST of CHECK_DIGEST: bits 31:0, RO -/
abbrev CHECK_DIGEST_DIGEST : Fld := ⟨0, 32⟩

/-- CHECK_LAST (R337). -/
abbrev CHECK_LAST (i : Nat) : Nat := 0x40100040 + 4 * i
/-- field RESULT of CHECK_LAST: bits 31:30, RO -/
abbrev CHECK_LAST_RESULT : Fld := ⟨30, 2⟩
/-- field CODE of CHECK_LAST: bits 22:16, RO -/
abbrev CHECK_LAST_CODE : Fld := ⟨16, 7⟩
/-- field DETAIL of CHECK_LAST: bits 15:0, RO -/
abbrev CHECK_LAST_DETAIL : Fld := ⟨0, 16⟩

/-- POWER_STAT (R353). -/
abbrev POWER_STAT : Nat := 0x40130000
/-- field STATE of POWER_STAT: bits 31:30, RO -/
abbrev POWER_STAT_STATE : Fld := ⟨30, 2⟩
/-- field TRANS of POWER_STAT: bits 29:29, RO -/
abbrev POWER_STAT_TRANS : Fld := ⟨29, 1⟩
/-- field TARGET of POWER_STAT: bits 28:27, RO -/
abbrev POWER_STAT_TARGET : Fld := ⟨27, 2⟩
/-- field PEND of POWER_STAT: bits 26:26, RO -/
abbrev POWER_STAT_PEND : Fld := ⟨26, 1⟩
/-- field PEND_TGT of POWER_STAT: bits 25:24, RO -/
abbrev POWER_STAT_PEND_TGT : Fld := ⟨24, 2⟩
/-- field ABORT_CNT of POWER_STAT: bits 15:0, RW -/
abbrev POWER_STAT_ABORT_CNT : Fld := ⟨0, 16⟩

/-- POWER_CFG (R353). -/
abbrev POWER_CFG : Nat := 0x40130004
/-- field NEEDS_SESSION of POWER_CFG: bits 31:31, RW, PR -/
abbrev POWER_CFG_NEEDS_SESSION : Fld := ⟨31, 1⟩
/-- field AQ_WAKE of POWER_CFG: bits 30:30, RW, PR -/
abbrev POWER_CFG_AQ_WAKE : Fld := ⟨30, 1⟩
/-- field WAKE_FWD of POWER_CFG: bits 29:29, RW, PR -/
abbrev POWER_CFG_WAKE_FWD : Fld := ⟨29, 1⟩
/-- field TP_WAKE of POWER_CFG: bits 28:28, RW, PR -/
abbrev POWER_CFG_TP_WAKE : Fld := ⟨28, 1⟩
/-- field PN_MOOR of POWER_CFG: bits 27:22, RW, PR -/
abbrev POWER_CFG_PN_MOOR : Fld := ⟨22, 6⟩
/-- field PN_BERTH of POWER_CFG: bits 21:16, RW, PR -/
abbrev POWER_CFG_PN_BERTH : Fld := ⟨16, 6⟩
/-- field WAKE_TMR of POWER_CFG: bits 15:0, RW, PR -/
abbrev POWER_CFG_WAKE_TMR : Fld := ⟨0, 16⟩

/-- POWER_RET_LO (R353). -/
abbrev POWER_RET_LO : Nat := 0x40130008
/-- field RET_LO of POWER_RET_LO: bits 31:0, RW, PR -/
abbrev POWER_RET_LO_RET_LO : Fld := ⟨0, 32⟩

/-- POWER_RET_HI (R353). -/
abbrev POWER_RET_HI : Nat := 0x4013000C
/-- field RET_HI of POWER_RET_HI: bits 7:0, RW, PR -/
abbrev POWER_RET_HI_RET_HI : Fld := ⟨0, 8⟩

/-- WAKE_SOURCE (R353). -/
abbrev WAKE_SOURCE : Nat := 0x40130010
/-- field KIND of WAKE_SOURCE: bits 31:28, RO -/
abbrev WAKE_SOURCE_KIND : Fld := ⟨28, 4⟩
/-- field MULTI of WAKE_SOURCE: bits 27:27, RO -/
abbrev WAKE_SOURCE_MULTI : Fld := ⟨27, 1⟩
/-- field INDEX of WAKE_SOURCE: bits 15:0, RO -/
abbrev WAKE_SOURCE_INDEX : Fld := ⟨0, 16⟩

/-- POWER_CNT (R353). -/
abbrev POWER_CNT : Nat := 0x40130014
/-- field MOOR_CNT of POWER_CNT: bits 31:16, RW -/
abbrev POWER_CNT_MOOR_CNT : Fld := ⟨16, 16⟩
/-- field BERTH_CNT of POWER_CNT: bits 15:0, RW -/
abbrev POWER_CNT_BERTH_CNT : Fld := ⟨0, 16⟩

/-- POWER_DOMOFF (R353). -/
abbrev POWER_DOMOFF : Nat := 0x40130020
/-- field OFF of POWER_DOMOFF: bits 13:0, RW, PR -/
abbrev POWER_DOMOFF_OFF : Fld := ⟨0, 14⟩

/-- POWER_ISO (R353). -/
abbrev POWER_ISO : Nat := 0x40130024
/-- field LAST_DOM of POWER_ISO: bits 31:24, RO -/
abbrev POWER_ISO_LAST_DOM : Fld := ⟨24, 8⟩
/-- field FORCE_CNT of POWER_ISO: bits 15:0, RW -/
abbrev POWER_ISO_FORCE_CNT : Fld := ⟨0, 16⟩

/-- CAN_CTRL (R376). -/
abbrev CAN_CTRL (i : Nat) : Nat := 0x40090000 + 1024 * i
/-- field ON of CAN_CTRL: bits 31:31, RW, PR -/
abbrev CAN_CTRL_ON : Fld := ⟨31, 1⟩
/-- field MODE of CAN_CTRL: bits 30:28, RW, PR -/
abbrev CAN_CTRL_MODE : Fld := ⟨28, 3⟩
/-- field BO_MODE of CAN_CTRL: bits 27:27, RW, PR -/
abbrev CAN_CTRL_BO_MODE : Fld := ⟨27, 1⟩
/-- field BO_REQ of CAN_CTRL: bits 26:26, WO -/
abbrev CAN_CTRL_BO_REQ : Fld := ⟨26, 1⟩
/-- field ONESHOT of CAN_CTRL: bits 25:25, RW, PR -/
abbrev CAN_CTRL_ONESHOT : Fld := ⟨25, 1⟩
/-- field RD_AUTO of CAN_CTRL: bits 24:24, RW, PR -/
abbrev CAN_CTRL_RD_AUTO : Fld := ⟨24, 1⟩
/-- field FD_EN of CAN_CTRL: bits 23:23, RW, PR -/
abbrev CAN_CTRL_FD_EN : Fld := ⟨23, 1⟩
/-- field XL_EN of CAN_CTRL: bits 22:22, RW, PR -/
abbrev CAN_CTRL_XL_EN : Fld := ⟨22, 1⟩
/-- field RD_TO of CAN_CTRL: bits 15:8, RW, PR -/
abbrev CAN_CTRL_RD_TO : Fld := ⟨8, 8⟩

/-- CAN_NBT (R376). -/
abbrev CAN_NBT (i : Nat) : Nat := 0x40090004 + 1024 * i
/-- field BRP of CAN_NBT: bits 31:24, RW, PR -/
abbrev CAN_NBT_BRP : Fld := ⟨24, 8⟩
/-- field TSEG1 of CAN_NBT: bits 23:16, RW, PR -/
abbrev CAN_NBT_TSEG1 : Fld := ⟨16, 8⟩
/-- field TSEG2 of CAN_NBT: bits 15:8, RW, PR -/
abbrev CAN_NBT_TSEG2 : Fld := ⟨8, 8⟩
/-- field SJW of CAN_NBT: bits 7:0, RW, PR -/
abbrev CAN_NBT_SJW : Fld := ⟨0, 8⟩

/-- CAN_DBT (R376). -/
abbrev CAN_DBT (i : Nat) : Nat := 0x40090008 + 1024 * i
/-- field BRP of CAN_DBT: bits 31:24, RW, PR -/
abbrev CAN_DBT_BRP : Fld := ⟨24, 8⟩
/-- field TSEG1 of CAN_DBT: bits 23:16, RW, PR -/
abbrev CAN_DBT_TSEG1 : Fld := ⟨16, 8⟩
/-- field TSEG2 of CAN_DBT: bits 15:8, RW, PR -/
abbrev CAN_DBT_TSEG2 : Fld := ⟨8, 8⟩
/-- field SJW of CAN_DBT: bits 7:0, RW, PR -/
abbrev CAN_DBT_SJW : Fld := ⟨0, 8⟩

/-- CAN_TDC (R376). -/
abbrev CAN_TDC (i : Nat) : Nat := 0x4009000C + 1024 * i
/-- field TDC_EN of CAN_TDC: bits 31:31, RW, PR -/
abbrev CAN_TDC_TDC_EN : Fld := ⟨31, 1⟩
/-- field TDCO of CAN_TDC: bits 15:8, RW, PR -/
abbrev CAN_TDC_TDCO : Fld := ⟨8, 8⟩
/-- field TDCV of CAN_TDC: bits 7:0, RO -/
abbrev CAN_TDC_TDCV : Fld := ⟨0, 8⟩

/-- CAN_XBT (R376). -/
abbrev CAN_XBT (i : Nat) : Nat := 0x40091810 + 1024 * i
/-- field BRP of CAN_XBT: bits 31:24, RW, PR -/
abbrev CAN_XBT_BRP : Fld := ⟨24, 8⟩
/-- field TSEG1 of CAN_XBT: bits 23:16, RW, PR -/
abbrev CAN_XBT_TSEG1 : Fld := ⟨16, 8⟩
/-- field TSEG2 of CAN_XBT: bits 15:8, RW, PR -/
abbrev CAN_XBT_TSEG2 : Fld := ⟨8, 8⟩
/-- field SJW of CAN_XBT: bits 7:0, RW, PR -/
abbrev CAN_XBT_SJW : Fld := ⟨0, 8⟩

/-- CAN_ERR (R376). -/
abbrev CAN_ERR (i : Nat) : Nat := 0x40090020 + 1024 * i
/-- field STATE of CAN_ERR: bits 31:30, RO -/
abbrev CAN_ERR_STATE : Fld := ⟨30, 2⟩
/-- field LEC of CAN_ERR: bits 29:27, RO -/
abbrev CAN_ERR_LEC : Fld := ⟨27, 3⟩
/-- field TEC of CAN_ERR: bits 24:16, RO -/
abbrev CAN_ERR_TEC : Fld := ⟨16, 9⟩
/-- field REC of CAN_ERR: bits 15:8, RO -/
abbrev CAN_ERR_REC : Fld := ⟨8, 8⟩
/-- field BO_CNT of CAN_ERR: bits 7:0, RW -/
abbrev CAN_ERR_BO_CNT : Fld := ⟨0, 8⟩

/-- CAN_STAT (R376). -/
abbrev CAN_STAT (i : Nat) : Nat := 0x40090024 + 1024 * i
/-- field WARN of CAN_STAT: bits 31:31, W1C -/
abbrev CAN_STAT_WARN : Fld := ⟨31, 1⟩
/-- field PASSIVE of CAN_STAT: bits 30:30, W1C -/
abbrev CAN_STAT_PASSIVE : Fld := ⟨30, 1⟩
/-- field BUSOFF of CAN_STAT: bits 29:29, W1C -/
abbrev CAN_STAT_BUSOFF : Fld := ⟨29, 1⟩
/-- field LATE of CAN_STAT: bits 28:28, W1C -/
abbrev CAN_STAT_LATE : Fld := ⟨28, 1⟩
/-- field COLL of CAN_STAT: bits 27:27, W1C -/
abbrev CAN_STAT_COLL : Fld := ⟨27, 1⟩
/-- field RDOK of CAN_STAT: bits 26:26, W1C -/
abbrev CAN_STAT_RDOK : Fld := ⟨26, 1⟩
/-- field RDFAIL of CAN_STAT: bits 25:25, W1C -/
abbrev CAN_STAT_RDFAIL : Fld := ⟨25, 1⟩
/-- field PEXC of CAN_STAT: bits 24:24, W1C -/
abbrev CAN_STAT_PEXC : Fld := ⟨24, 1⟩
/-- field RXDROP of CAN_STAT: bits 15:0, RW -/
abbrev CAN_STAT_RXDROP : Fld := ⟨0, 16⟩

/-- CAN_RDET (R376). -/
abbrev CAN_RDET (i : Nat) : Nat := 0x40090028 + 1024 * i
/-- field DONE of CAN_RDET: bits 31:31, RO -/
abbrev CAN_RDET_DONE : Fld := ⟨31, 1⟩
/-- field FOUND of CAN_RDET: bits 30:30, RO -/
abbrev CAN_RDET_FOUND : Fld := ⟨30, 1⟩
/-- field CAND of CAN_RDET: bits 29:27, RO -/
abbrev CAN_RDET_CAND : Fld := ⟨27, 3⟩
/-- field MINBIT of CAN_RDET: bits 15:0, RO -/
abbrev CAN_RDET_MINBIT : Fld := ⟨0, 16⟩

/-- CAN_RCAND (R376). -/
abbrev CAN_RCAND (i j : Nat) : Nat := 0x40090030 + 1024 * i + 4 * j
/-- field BRP of CAN_RCAND: bits 31:24, RW, PR -/
abbrev CAN_RCAND_BRP : Fld := ⟨24, 8⟩
/-- field TSEG1 of CAN_RCAND: bits 23:16, RW, PR -/
abbrev CAN_RCAND_TSEG1 : Fld := ⟨16, 8⟩
/-- field TSEG2 of CAN_RCAND: bits 15:8, RW, PR -/
abbrev CAN_RCAND_TSEG2 : Fld := ⟨8, 8⟩
/-- field SJW of CAN_RCAND: bits 7:0, RW, PR -/
abbrev CAN_RCAND_SJW : Fld := ⟨0, 8⟩

/-- CAN_CANCEL (R376). -/
abbrev CAN_CANCEL (i : Nat) : Nat := 0x40090050 + 1024 * i
/-- field GO of CAN_CANCEL: bits 31:31, WO -/
abbrev CAN_CANCEL_GO : Fld := ⟨31, 1⟩
/-- field OBJ of CAN_CANCEL: bits 6:0, RW -/
abbrev CAN_CANCEL_OBJ : Fld := ⟨0, 7⟩

/-- CAN_COLL (R376). -/
abbrev CAN_COLL (i : Nat) : Nat := 0x40090054 + 1024 * i
/-- field IDE of CAN_COLL: bits 29:29, RO -/
abbrev CAN_COLL_IDE : Fld := ⟨29, 1⟩
/-- field ID of CAN_COLL: bits 28:0, RO -/
abbrev CAN_COLL_ID : Fld := ⟨0, 29⟩

/-- CAN_TXREQ (R376). -/
abbrev CAN_TXREQ (i j : Nat) : Nat := 0x40090060 + 1024 * i + 4 * j
/-- field OBJS of CAN_TXREQ: bits 31:0, RO -/
abbrev CAN_TXREQ_OBJS : Fld := ⟨0, 32⟩

/-- CAN_NEWDAT (R376). -/
abbrev CAN_NEWDAT (i j : Nat) : Nat := 0x40090070 + 1024 * i + 4 * j
/-- field OBJS of CAN_NEWDAT: bits 31:0, RO -/
abbrev CAN_NEWDAT_OBJS : Fld := ⟨0, 32⟩

/-- CAN_J1939 (R376). -/
abbrev CAN_J1939 (i : Nat) : Nat := 0x40090080 + 1024 * i
/-- field EN of CAN_J1939: bits 31:31, RW, PR -/
abbrev CAN_J1939_EN : Fld := ⟨31, 1⟩
/-- field AAC of CAN_J1939: bits 30:30, RW, PR -/
abbrev CAN_J1939_AAC : Fld := ⟨30, 1⟩
/-- field STATE of CAN_J1939: bits 29:28, RO -/
abbrev CAN_J1939_STATE : Fld := ⟨28, 2⟩
/-- field PREF of CAN_J1939: bits 23:16, RW, PR -/
abbrev CAN_J1939_PREF : Fld := ⟨16, 8⟩
/-- field ADDR of CAN_J1939: bits 15:8, RO -/
abbrev CAN_J1939_ADDR : Fld := ⟨8, 8⟩

/-- CAN_J1939_NAME_LO (R376). -/
abbrev CAN_J1939_NAME_LO (i : Nat) : Nat := 0x40090084 + 1024 * i
/-- field NAME of CAN_J1939_NAME_LO: bits 31:0, RW, PR -/
abbrev CAN_J1939_NAME_LO_NAME : Fld := ⟨0, 32⟩

/-- CAN_J1939_NAME_HI (R376). -/
abbrev CAN_J1939_NAME_HI (i : Nat) : Nat := 0x40090088 + 1024 * i
/-- field NAME of CAN_J1939_NAME_HI: bits 31:0, RW, PR -/
abbrev CAN_J1939_NAME_HI_NAME : Fld := ⟨0, 32⟩

/-- LIN_CFG (R377). -/
abbrev LIN_CFG (i : Nat) : Nat := 0x400A0000 + 64 * i
/-- field ON of LIN_CFG: bits 31:31, RW, PR -/
abbrev LIN_CFG_ON : Fld := ⟨31, 1⟩
/-- field ROLE of LIN_CFG: bits 30:30, RW, PR -/
abbrev LIN_CFG_ROLE : Fld := ⟨30, 1⟩
/-- field PULLUP of LIN_CFG: bits 29:29, RW, PR -/
abbrev LIN_CFG_PULLUP : Fld := ⟨29, 1⟩
/-- field AUTOBAUD of LIN_CFG: bits 28:28, RW, PR -/
abbrev LIN_CFG_AUTOBAUD : Fld := ⟨28, 1⟩
/-- field SCHED of LIN_CFG: bits 27:26, RW -/
abbrev LIN_CFG_SCHED : Fld := ⟨26, 2⟩
/-- field RATE of LIN_CFG: bits 15:0, RW, PR -/
abbrev LIN_CFG_RATE : Fld := ⟨0, 16⟩

/-- LIN_STAT (R377). -/
abbrev LIN_STAT (i : Nat) : Nat := 0x400A0004 + 64 * i
/-- field CKSUM of LIN_STAT: bits 31:31, W1C -/
abbrev LIN_STAT_CKSUM : Fld := ⟨31, 1⟩
/-- field NORESP of LIN_STAT: bits 30:30, W1C -/
abbrev LIN_STAT_NORESP : Fld := ⟨30, 1⟩
/-- field FRAMING of LIN_STAT: bits 29:29, W1C -/
abbrev LIN_STAT_FRAMING : Fld := ⟨29, 1⟩
/-- field SHORT of LIN_STAT: bits 28:28, W1C -/
abbrev LIN_STAT_SHORT : Fld := ⟨28, 1⟩
/-- field SLEEPCMD of LIN_STAT: bits 27:27, W1C -/
abbrev LIN_STAT_SLEEPCMD : Fld := ⟨27, 1⟩
/-- field SLOT of LIN_STAT: bits 20:16, RO -/
abbrev LIN_STAT_SLOT : Fld := ⟨16, 5⟩
/-- field ERRCNT of LIN_STAT: bits 15:0, RW -/
abbrev LIN_STAT_ERRCNT : Fld := ⟨0, 16⟩

/-- T1S_CFG (R378). -/
abbrev T1S_CFG (i : Nat) : Nat := 0x40140000 + 32 * i
/-- field ON of T1S_CFG: bits 31:31, RW, PR -/
abbrev T1S_CFG_ON : Fld := ⟨31, 1⟩
/-- field PLCA_EN of T1S_CFG: bits 30:30, RW, PR -/
abbrev T1S_CFG_PLCA_EN : Fld := ⟨30, 1⟩
/-- field BURST_CNT of T1S_CFG: bits 27:24, RW, PR -/
abbrev T1S_CFG_BURST_CNT : Fld := ⟨24, 4⟩
/-- field NODE_ID of T1S_CFG: bits 23:16, RW, PR -/
abbrev T1S_CFG_NODE_ID : Fld := ⟨16, 8⟩
/-- field NODE_CNT of T1S_CFG: bits 15:8, RW, PR -/
abbrev T1S_CFG_NODE_CNT : Fld := ⟨8, 8⟩
/-- field TO_TMR of T1S_CFG: bits 7:0, RW, PR -/
abbrev T1S_CFG_TO_TMR : Fld := ⟨0, 8⟩

/-- T1S_STAT (R378). -/
abbrev T1S_STAT (i : Nat) : Nat := 0x40140004 + 32 * i
/-- field PLCA_OK of T1S_STAT: bits 31:31, RO -/
abbrev T1S_STAT_PLCA_OK : Fld := ⟨31, 1⟩
/-- field LOST of T1S_STAT: bits 30:30, W1C -/
abbrev T1S_STAT_LOST : Fld := ⟨30, 1⟩
/-- field RXERR of T1S_STAT: bits 29:29, W1C -/
abbrev T1S_STAT_RXERR : Fld := ⟨29, 1⟩
/-- field COLL of T1S_STAT: bits 15:0, RW -/
abbrev T1S_STAT_COLL : Fld := ⟨0, 16⟩

/-- SENT_CFG (R378). -/
abbrev SENT_CFG (i : Nat) : Nat := 0x40140100 + 32 * i
/-- field ON of SENT_CFG: bits 31:31, RW, PR -/
abbrev SENT_CFG_ON : Fld := ⟨31, 1⟩
/-- field CRC_MODE of SENT_CFG: bits 30:30, RW, PR -/
abbrev SENT_CFG_CRC_MODE : Fld := ⟨30, 1⟩
/-- field PAUSE of SENT_CFG: bits 29:29, RW, PR -/
abbrev SENT_CFG_PAUSE : Fld := ⟨29, 1⟩
/-- field SLOW of SENT_CFG: bits 28:27, RW, PR -/
abbrev SENT_CFG_SLOW : Fld := ⟨27, 2⟩
/-- field NIBBLES of SENT_CFG: bits 26:24, RW, PR -/
abbrev SENT_CFG_NIBBLES : Fld := ⟨24, 3⟩
/-- field SENT_TO of SENT_CFG: bits 23:16, RW, PR -/
abbrev SENT_CFG_SENT_TO : Fld := ⟨16, 8⟩
/-- field TICK of SENT_CFG: bits 13:0, RW, PR -/
abbrev SENT_CFG_TICK : Fld := ⟨0, 14⟩

/-- SENT_FAST (R378). -/
abbrev SENT_FAST (i : Nat) : Nat := 0x40140104 + 32 * i
/-- field FRESH of SENT_FAST: bits 31:31, RC -/
abbrev SENT_FAST_FRESH : Fld := ⟨31, 1⟩
/-- field STATUS of SENT_FAST: bits 27:24, RO -/
abbrev SENT_FAST_STATUS : Fld := ⟨24, 4⟩
/-- field DATA of SENT_FAST: bits 23:0, RO -/
abbrev SENT_FAST_DATA : Fld := ⟨0, 24⟩

/-- SENT_SLOW (R378). -/
abbrev SENT_SLOW (i : Nat) : Nat := 0x40140108 + 32 * i
/-- field FRESH of SENT_SLOW: bits 31:31, RC -/
abbrev SENT_SLOW_FRESH : Fld := ⟨31, 1⟩
/-- field KIND of SENT_SLOW: bits 29:28, RO -/
abbrev SENT_SLOW_KIND : Fld := ⟨28, 2⟩
/-- field ID of SENT_SLOW: bits 27:20, RO -/
abbrev SENT_SLOW_ID : Fld := ⟨20, 8⟩
/-- field SDATA of SENT_SLOW: bits 15:0, RO -/
abbrev SENT_SLOW_SDATA : Fld := ⟨0, 16⟩

/-- SENT_TS (R378). -/
abbrev SENT_TS (i : Nat) : Nat := 0x4014010C + 32 * i
/-- field TS of SENT_TS: bits 31:0, RO -/
abbrev SENT_TS_TS : Fld := ⟨0, 32⟩

/-- SENT_STAT (R378). -/
abbrev SENT_STAT (i : Nat) : Nat := 0x40140110 + 32 * i
/-- field CRCERR of SENT_STAT: bits 31:31, W1C -/
abbrev SENT_STAT_CRCERR : Fld := ⟨31, 1⟩
/-- field CALERR of SENT_STAT: bits 30:30, W1C -/
abbrev SENT_STAT_CALERR : Fld := ⟨30, 1⟩
/-- field TIMEOUT of SENT_STAT: bits 29:29, W1C -/
abbrev SENT_STAT_TIMEOUT : Fld := ⟨29, 1⟩
/-- field ERRCNT of SENT_STAT: bits 15:0, RW -/
abbrev SENT_STAT_ERRCNT : Fld := ⟨0, 16⟩

/-- NETPM_XCV (R395). -/
abbrev NETPM_XCV (i : Nat) : Nat := 0x400B0000 + 4 * i
/-- field REQ of NETPM_XCV: bits 31:30, RW -/
abbrev NETPM_XCV_REQ : Fld := ⟨30, 2⟩
/-- field STATE of NETPM_XCV: bits 29:28, RO -/
abbrev NETPM_XCV_STATE : Fld := ⟨28, 2⟩
/-- field WAKE_EN of NETPM_XCV: bits 27:27, RW, PR -/
abbrev NETPM_XCV_WAKE_EN : Fld := ⟨27, 1⟩
/-- field HSEL of NETPM_XCV: bits 26:24, RW, PR -/
abbrev NETPM_XCV_HSEL : Fld := ⟨24, 3⟩
/-- field AUTO_NORMAL of NETPM_XCV: bits 23:23, RW, PR -/
abbrev NETPM_XCV_AUTO_NORMAL : Fld := ⟨23, 1⟩
/-- field WKF of NETPM_XCV: bits 22:22, W1C -/
abbrev NETPM_XCV_WKF : Fld := ⟨22, 1⟩
/-- field ARMED of NETPM_XCV: bits 21:21, RO -/
abbrev NETPM_XCV_ARMED : Fld := ⟨21, 1⟩
/-- field SLP_FOLLOW of NETPM_XCV: bits 20:20, RW, PR -/
abbrev NETPM_XCV_SLP_FOLLOW : Fld := ⟨20, 1⟩
/-- field WKSEND of NETPM_XCV: bits 19:19, WO -/
abbrev NETPM_XCV_WKSEND : Fld := ⟨19, 1⟩
/-- field WUF of NETPM_XCV: bits 13:8, RW, PR -/
abbrev NETPM_XCV_WUF : Fld := ⟨8, 6⟩
/-- field WUP_TO of NETPM_XCV: bits 7:4, RW, PR -/
abbrev NETPM_XCV_WUP_TO : Fld := ⟨4, 4⟩

/-- NETPM_PN_CFG (R395). -/
abbrev NETPM_PN_CFG (i : Nat) : Nat := 0x400B0080 + 4 * i
/-- field PN_EN of NETPM_PN_CFG: bits 31:31, RW, PR -/
abbrev NETPM_PN_CFG_PN_EN : Fld := ⟨31, 1⟩
/-- field IDE of NETPM_PN_CFG: bits 30:30, RW, PR -/
abbrev NETPM_PN_CFG_IDE : Fld := ⟨30, 1⟩
/-- field FD_PASSIVE of NETPM_PN_CFG: bits 29:29, RW, PR -/
abbrev NETPM_PN_CFG_FD_PASSIVE : Fld := ⟨29, 1⟩
/-- field RATE of NETPM_PN_CFG: bits 28:27, RW, PR -/
abbrev NETPM_PN_CFG_RATE : Fld := ⟨27, 2⟩
/-- field PN_DLC of NETPM_PN_CFG: bits 26:23, RW, PR -/
abbrev NETPM_PN_CFG_PN_DLC : Fld := ⟨23, 4⟩
/-- field FECW of NETPM_PN_CFG: bits 22:22, W1C -/
abbrev NETPM_PN_CFG_FECW : Fld := ⟨22, 1⟩
/-- field FEC of NETPM_PN_CFG: bits 21:16, RO -/
abbrev NETPM_PN_CFG_FEC : Fld := ⟨16, 6⟩

/-- NETPM_PN_ID (R395). -/
abbrev NETPM_PN_ID (i : Nat) : Nat := 0x400B00A0 + 4 * i
/-- field ID of NETPM_PN_ID: bits 28:0, RW, PR -/
abbrev NETPM_PN_ID_ID : Fld := ⟨0, 29⟩

/-- NETPM_PN_MASK (R395). -/
abbrev NETPM_PN_MASK (i : Nat) : Nat := 0x400B00C0 + 4 * i
/-- field ID of NETPM_PN_MASK: bits 28:0, RW, PR -/
abbrev NETPM_PN_MASK_ID : Fld := ⟨0, 29⟩

/-- NETPM_PN_DLO (R395). -/
abbrev NETPM_PN_DLO (i : Nat) : Nat := 0x400B00E0 + 4 * i
/-- field DMASK of NETPM_PN_DLO: bits 31:0, RW, PR -/
abbrev NETPM_PN_DLO_DMASK : Fld := ⟨0, 32⟩

/-- NETPM_PN_DHI (R395). -/
abbrev NETPM_PN_DHI (i : Nat) : Nat := 0x400B0100 + 4 * i
/-- field DMASK of NETPM_PN_DHI: bits 31:0, RW, PR -/
abbrev NETPM_PN_DHI_DMASK : Fld := ⟨0, 32⟩

/-- NETPM_AWAKE (R395). -/
abbrev NETPM_AWAKE : Nat := 0x400B0200
/-- field HOLD of NETPM_AWAKE: bits 31:31, RW -/
abbrev NETPM_AWAKE_HOLD : Fld := ⟨31, 1⟩
/-- field MAX_AWAKE of NETPM_AWAKE: bits 30:20, RW, PR -/
abbrev NETPM_AWAKE_MAX_AWAKE : Fld := ⟨20, 11⟩
/-- field HOLDOFF of NETPM_AWAKE: bits 19:9, RW, PR -/
abbrev NETPM_AWAKE_HOLDOFF : Fld := ⟨9, 11⟩
/-- field NM_TO of NETPM_AWAKE: bits 8:0, RW, PR -/
abbrev NETPM_AWAKE_NM_TO : Fld := ⟨0, 9⟩

/-- NETPM_LOCAL (R395). -/
abbrev NETPM_LOCAL (i : Nat) : Nat := 0x400B0210 + 4 * i
/-- field LOCAL of NETPM_LOCAL: bits 31:0, RW, PR -/
abbrev NETPM_LOCAL_LOCAL : Fld := ⟨0, 32⟩

/-- NETPM_KID (R395). -/
abbrev NETPM_KID (i : Nat) : Nat := 0x400B0220 + 4 * i
/-- field KIE of NETPM_KID: bits 31:31, RW, PR -/
abbrev NETPM_KID_KIE : Fld := ⟨31, 1⟩
/-- field ID of NETPM_KID: bits 28:0, RW, PR -/
abbrev NETPM_KID_ID : Fld := ⟨0, 29⟩

/-- NETPM_KMSK (R395). -/
abbrev NETPM_KMSK (i : Nat) : Nat := 0x400B0240 + 4 * i
/-- field ID of NETPM_KMSK: bits 28:0, RW, PR -/
abbrev NETPM_KMSK_ID : Fld := ⟨0, 29⟩

/-- NETPM_STAT (R395). -/
abbrev NETPM_STAT : Nat := 0x400B0280
/-- field HOLDING of NETPM_STAT: bits 31:26, RO -/
abbrev NETPM_STAT_HOLDING : Fld := ⟨26, 6⟩
/-- field CULPRIT of NETPM_STAT: bits 25:20, RO -/
abbrev NETPM_STAT_CULPRIT : Fld := ⟨20, 6⟩
/-- field TIMER of NETPM_STAT: bits 19:19, RO -/
abbrev NETPM_STAT_TIMER : Fld := ⟨19, 1⟩
/-- field HOLDOFF_ACT of NETPM_STAT: bits 18:18, RO -/
abbrev NETPM_STAT_HOLDOFF_ACT : Fld := ⟨18, 1⟩
/-- field ENF_CNT of NETPM_STAT: bits 15:8, RW -/
abbrev NETPM_STAT_ENF_CNT : Fld := ⟨8, 8⟩
/-- field IGN_CNT of NETPM_STAT: bits 7:0, RW -/
abbrev NETPM_STAT_IGN_CNT : Fld := ⟨0, 8⟩

/-- NETPM_CULPRIT (R395). -/
abbrev NETPM_CULPRIT : Nat := 0x400B0284
/-- field CH of NETPM_CULPRIT: bits 31:29, RO -/
abbrev NETPM_CULPRIT_CH : Fld := ⟨29, 3⟩
/-- field ID of NETPM_CULPRIT: bits 28:0, RO -/
abbrev NETPM_CULPRIT_ID : Fld := ⟨0, 29⟩

/-- NETPM_WAKEID (R395). -/
abbrev NETPM_WAKEID : Nat := 0x400B0288
/-- field CH of NETPM_WAKEID: bits 31:29, RO -/
abbrev NETPM_WAKEID_CH : Fld := ⟨29, 3⟩
/-- field ID of NETPM_WAKEID: bits 28:0, RO -/
abbrev NETPM_WAKEID_ID : Fld := ⟨0, 29⟩

/-- NETPM_HEN (R395). -/
abbrev NETPM_HEN : Nat := 0x400B0290
/-- field HEN_STATE of NETPM_HEN: bits 7:4, RO -/
abbrev NETPM_HEN_HEN_STATE : Fld := ⟨4, 4⟩
/-- field HEN_FORCE of NETPM_HEN: bits 3:0, RW -/
abbrev NETPM_HEN_HEN_FORCE : Fld := ⟨0, 4⟩

/-- AQ_CFG (R435). -/
abbrev AQ_CFG : Nat := 0x400C0000
/-- field ROOT_EN of AQ_CFG: bits 31:31, RW, PR -/
abbrev AQ_CFG_ROOT_EN : Fld := ⟨31, 1⟩
/-- field SEQWIN of AQ_CFG: bits 27:16, RW, PR -/
abbrev AQ_CFG_SEQWIN : Fld := ⟨16, 12⟩
/-- field TUN_TO of AQ_CFG: bits 15:8, RW, PR -/
abbrev AQ_CFG_TUN_TO : Fld := ⟨8, 8⟩

/-- AQ_STAT (R435). -/
abbrev AQ_STAT : Nat := 0x400C0004
/-- field STATE of AQ_STAT: bits 31:30, RO -/
abbrev AQ_STAT_STATE : Fld := ⟨30, 2⟩
/-- field ROOT of AQ_STAT: bits 29:29, RO -/
abbrev AQ_STAT_ROOT : Fld := ⟨29, 1⟩
/-- field HOLDOVER of AQ_STAT: bits 28:28, RO -/
abbrev AQ_STAT_HOLDOVER : Fld := ⟨28, 1⟩
/-- field RECOV of AQ_STAT: bits 27:27, RO -/
abbrev AQ_STAT_RECOV : Fld := ⟨27, 1⟩
/-- field POUND of AQ_STAT: bits 23:20, RO -/
abbrev AQ_STAT_POUND : Fld := ⟨20, 4⟩
/-- field ADDR of AQ_STAT: bits 15:8, RO -/
abbrev AQ_STAT_ADDR : Fld := ⟨8, 8⟩
/-- field NMOD of AQ_STAT: bits 7:0, RO -/
abbrev AQ_STAT_NMOD : Fld := ⟨0, 8⟩

/-- AQ_SERIAL_LO (R435). -/
abbrev AQ_SERIAL_LO : Nat := 0x400C0008
/-- field SERIAL of AQ_SERIAL_LO: bits 31:0, RO -/
abbrev AQ_SERIAL_LO_SERIAL : Fld := ⟨0, 32⟩

/-- AQ_SERIAL_HI (R435). -/
abbrev AQ_SERIAL_HI : Nat := 0x400C000C
/-- field SERIAL of AQ_SERIAL_HI: bits 31:0, RO -/
abbrev AQ_SERIAL_HI_SERIAL : Fld := ⟨0, 32⟩

/-- AQ_POS_LO (R435). -/
abbrev AQ_POS_LO : Nat := 0x400C0010
/-- field PATH_LO of AQ_POS_LO: bits 31:0, RO -/
abbrev AQ_POS_LO_PATH_LO : Fld := ⟨0, 32⟩

/-- AQ_POS_HI (R435). -/
abbrev AQ_POS_HI : Nat := 0x400C0014
/-- field LEN of AQ_POS_HI: bits 31:27, RO -/
abbrev AQ_POS_HI_LEN : Fld := ⟨27, 5⟩
/-- field PATH_HI of AQ_POS_HI: bits 25:0, RO -/
abbrev AQ_POS_HI_PATH_HI : Fld := ⟨0, 26⟩

/-- AQ_TOPO (R435). -/
abbrev AQ_TOPO : Nat := 0x400C0018
/-- field TOPO of AQ_TOPO: bits 31:0, RO -/
abbrev AQ_TOPO_TOPO : Fld := ⟨0, 32⟩

/-- AQ_TIME_LO (R435). -/
abbrev AQ_TIME_LO : Nat := 0x400C0020
/-- field TIME of AQ_TIME_LO: bits 31:0, RO -/
abbrev AQ_TIME_LO_TIME : Fld := ⟨0, 32⟩

/-- AQ_TIME_HI (R435). -/
abbrev AQ_TIME_HI : Nat := 0x400C0024
/-- field TIME of AQ_TIME_HI: bits 31:0, RO -/
abbrev AQ_TIME_HI_TIME : Fld := ⟨0, 32⟩

/-- AQ_SYNC (R435). -/
abbrev AQ_SYNC : Nat := 0x400C0028
/-- field OFFSET of AQ_SYNC: bits 31:16, RO -/
abbrev AQ_SYNC_OFFSET : Fld := ⟨16, 16⟩
/-- field DEPTH of AQ_SYNC: bits 4:0, RO -/
abbrev AQ_SYNC_DEPTH : Fld := ⟨0, 5⟩

/-- AQ_LCNT (R435). -/
abbrev AQ_LCNT : Nat := 0x400C002C
/-- field RECOMP of AQ_LCNT: bits 31:16, RW -/
abbrev AQ_LCNT_RECOMP : Fld := ⟨16, 16⟩
/-- field DROP_NR of AQ_LCNT: bits 15:0, RW -/
abbrev AQ_LCNT_DROP_NR : Fld := ⟨0, 16⟩

/-- AQ_PCFG (R435). -/
abbrev AQ_PCFG (i : Nat) : Nat := 0x400C0100 + 32 * i
/-- field EN of AQ_PCFG: bits 31:31, RW, PR -/
abbrev AQ_PCFG_EN : Fld := ⟨31, 1⟩
/-- field MS of AQ_PCFG: bits 30:30, RW, PR -/
abbrev AQ_PCFG_MS : Fld := ⟨30, 1⟩

/-- AQ_PSTAT (R435). -/
abbrev AQ_PSTAT (i : Nat) : Nat := 0x400C0104 + 32 * i
/-- field LSTATE of AQ_PSTAT: bits 31:29, RO -/
abbrev AQ_PSTAT_LSTATE : Fld := ⟨29, 3⟩
/-- field DOWNSEEN of AQ_PSTAT: bits 28:28, W1C -/
abbrev AQ_PSTAT_DOWNSEEN : Fld := ⟨28, 1⟩
/-- field VERSEEN of AQ_PSTAT: bits 27:27, W1C -/
abbrev AQ_PSTAT_VERSEEN : Fld := ⟨27, 1⟩
/-- field NADDR of AQ_PSTAT: bits 23:16, RO -/
abbrev AQ_PSTAT_NADDR : Fld := ⟨16, 8⟩
/-- field NPORT of AQ_PSTAT: bits 15:14, RO -/
abbrev AQ_PSTAT_NPORT : Fld := ⟨14, 2⟩
/-- field DELAY of AQ_PSTAT: bits 13:0, RO -/
abbrev AQ_PSTAT_DELAY : Fld := ⟨0, 14⟩

/-- AQ_PCNT (R435). -/
abbrev AQ_PCNT (i : Nat) : Nat := 0x400C0108 + 32 * i
/-- field CRCERR of AQ_PCNT: bits 31:16, RW -/
abbrev AQ_PCNT_CRCERR : Fld := ⟨16, 16⟩
/-- field LREPL of AQ_PCNT: bits 15:8, RW -/
abbrev AQ_PCNT_LREPL : Fld := ⟨8, 8⟩
/-- field QDROP of AQ_PCNT: bits 7:0, RW -/
abbrev AQ_PCNT_QDROP : Fld := ⟨0, 8⟩

/-- AQ_PLOAD (R435). -/
abbrev AQ_PLOAD (i : Nat) : Nat := 0x400C010C + 32 * i
/-- field LLOAD of AQ_PLOAD: bits 15:0, RO -/
abbrev AQ_PLOAD_LLOAD : Fld := ⟨0, 16⟩

/-- AQ_ROUTE (R435). -/
abbrev AQ_ROUTE (i : Nat) : Nat := 0x400C0404 + 4 * i
/-- field VALID of AQ_ROUTE: bits 31:31, RO -/
abbrev AQ_ROUTE_VALID : Fld := ⟨31, 1⟩
/-- field PORT of AQ_ROUTE: bits 23:22, RO -/
abbrev AQ_ROUTE_PORT : Fld := ⟨22, 2⟩
/-- field HOPS of AQ_ROUTE: bits 15:8, RO -/
abbrev AQ_ROUTE_HOPS : Fld := ⟨8, 8⟩

/-- AQ_RXF (R435). -/
abbrev AQ_RXF (i : Nat) : Nat := 0x400C0800 + 4 * i
/-- field LAST_SEQ of AQ_RXF: bits 31:16, RO -/
abbrev AQ_RXF_LAST_SEQ : Fld := ⟨16, 16⟩
/-- field GAP of AQ_RXF: bits 15:8, RW -/
abbrev AQ_RXF_GAP : Fld := ⟨8, 8⟩
/-- field STALE of AQ_RXF: bits 7:0, RW -/
abbrev AQ_RXF_STALE : Fld := ⟨0, 8⟩

/-- FAULT_STICKY (R460). -/
abbrev FAULT_STICKY (i : Nat) : Nat := 0x400E0000 + 4 * i
/-- field FLT of FAULT_STICKY: bits 31:0, W1C, PR -/
abbrev FAULT_STICKY_FLT : Fld := ⟨0, 32⟩

/-- FAULT_STAT (R460). -/
abbrev FAULT_STAT : Nat := 0x400E0010
/-- field ERRN_LOW of FAULT_STAT: bits 31:31, RO -/
abbrev FAULT_STAT_ERRN_LOW : Fld := ⟨31, 1⟩
/-- field REACTING of FAULT_STAT: bits 30:30, RO -/
abbrev FAULT_STAT_REACTING : Fld := ⟨30, 1⟩
/-- field MLIMP of FAULT_STAT: bits 29:29, RO -/
abbrev FAULT_STAT_MLIMP : Fld := ⟨29, 1⟩
/-- field CAPTURES of FAULT_STAT: bits 15:0, RW -/
abbrev FAULT_STAT_CAPTURES : Fld := ⟨0, 16⟩

/-- FAULT_CTRL (R460). -/
abbrev FAULT_CTRL : Nat := 0x400E0014
/-- field MLIMP_CLR of FAULT_CTRL: bits 31:31, WO, PR -/
abbrev FAULT_CTRL_MLIMP_CLR : Fld := ⟨31, 1⟩

/-- FAULT_LAST (R460). -/
abbrev FAULT_LAST : Nat := 0x400E0018
/-- field FLT of FAULT_LAST: bits 23:16, RO -/
abbrev FAULT_LAST_FLT : Fld := ⟨16, 8⟩
/-- field REACT of FAULT_LAST: bits 9:8, RO -/
abbrev FAULT_LAST_REACT : Fld := ⟨8, 2⟩
/-- field NCAP of FAULT_LAST: bits 7:0, RO -/
abbrev FAULT_LAST_NCAP : Fld := ⟨0, 8⟩

/-- FAULT_CFG (R460). -/
abbrev FAULT_CFG (i : Nat) : Nat := 0x400E0100 + 4 * i
/-- field REACT of FAULT_CFG: bits 31:30, WL -/
abbrev FAULT_CFG_REACT : Fld := ⟨30, 2⟩
/-- field BANK of FAULT_CFG: bits 27:24, WL -/
abbrev FAULT_CFG_BANK : Fld := ⟨24, 4⟩

/-- LOG_HEAD_LO (R461). -/
abbrev LOG_HEAD_LO : Nat := 0x400F0000
/-- field SEQ_LO of LOG_HEAD_LO: bits 31:0, RO -/
abbrev LOG_HEAD_LO_SEQ_LO : Fld := ⟨0, 32⟩

/-- LOG_HEAD_HI (R461). -/
abbrev LOG_HEAD_HI : Nat := 0x400F0004
/-- field SEQ_HI of LOG_HEAD_HI: bits 15:0, RO -/
abbrev LOG_HEAD_HI_SEQ_HI : Fld := ⟨0, 16⟩

/-- LOG_FOUND_LO (R461). -/
abbrev LOG_FOUND_LO : Nat := 0x400F0008
/-- field SEQ_LO of LOG_FOUND_LO: bits 31:0, RO -/
abbrev LOG_FOUND_LO_SEQ_LO : Fld := ⟨0, 32⟩

/-- LOG_FOUND_HI (R461). -/
abbrev LOG_FOUND_HI : Nat := 0x400F000C
/-- field SEQ_HI of LOG_FOUND_HI: bits 15:0, RO -/
abbrev LOG_FOUND_HI_SEQ_HI : Fld := ⟨0, 16⟩

/-- LOG_STAT (R461). -/
abbrev LOG_STAT : Nat := 0x400F0010
/-- field FOUND_FULL of LOG_STAT: bits 31:31, RO -/
abbrev LOG_STAT_FOUND_FULL : Fld := ⟨31, 1⟩
/-- field CLEARING of LOG_STAT: bits 30:30, RO -/
abbrev LOG_STAT_CLEARING : Fld := ⟨30, 1⟩
/-- field QUEUE of LOG_STAT: bits 22:16, RO -/
abbrev LOG_STAT_QUEUE : Fld := ⟨16, 7⟩
/-- field DROP_CNT of LOG_STAT: bits 15:0, RW -/
abbrev LOG_STAT_DROP_CNT : Fld := ⟨0, 16⟩

/-- CU_CFG (R462). -/
abbrev CU_CFG (i : Nat) : Nat := 0x40101000 + 64 * i
/-- field GO of CU_CFG: bits 31:31, WO -/
abbrev CU_CFG_GO : Fld := ⟨31, 1⟩
/-- field REPEAT of CU_CFG: bits 30:30, RW -/
abbrev CU_CFG_REPEAT : Fld := ⟨30, 1⟩
/-- field FLT_EN of CU_CFG: bits 29:29, RW, PR -/
abbrev CU_CFG_FLT_EN : Fld := ⟨29, 1⟩
/-- field SRC of CU_CFG: bits 28:26, RW -/
abbrev CU_CFG_SRC : Fld := ⟨26, 3⟩
/-- field POLY of CU_CFG: bits 25:23, RW -/
abbrev CU_CFG_POLY : Fld := ⟨23, 3⟩

/-- CU_FILT (R462). -/
abbrev CU_FILT (i : Nat) : Nat := 0x40101004 + 64 * i
/-- field FILT of CU_FILT: bits 31:0, RW -/
abbrev CU_FILT_FILT : Fld := ⟨0, 32⟩

/-- CU_BASE (R462). -/
abbrev CU_BASE (i : Nat) : Nat := 0x40101008 + 64 * i
/-- field BASE of CU_BASE: bits 31:0, RW -/
abbrev CU_BASE_BASE : Fld := ⟨0, 32⟩

/-- CU_LEN (R462). -/
abbrev CU_LEN (i : Nat) : Nat := 0x4010100C + 64 * i
/-- field LEN of CU_LEN: bits 31:0, RW -/
abbrev CU_LEN_LEN : Fld := ⟨0, 32⟩

/-- CU_EXP_LO (R462). -/
abbrev CU_EXP_LO (i : Nat) : Nat := 0x40101010 + 64 * i
/-- field EXP of CU_EXP_LO: bits 31:0, RW -/
abbrev CU_EXP_LO_EXP : Fld := ⟨0, 32⟩

/-- CU_EXP_HI (R462). -/
abbrev CU_EXP_HI (i : Nat) : Nat := 0x40101014 + 64 * i
/-- field EXP of CU_EXP_HI: bits 31:0, RW -/
abbrev CU_EXP_HI_EXP : Fld := ⟨0, 32⟩

/-- CU_RES_LO (R462). -/
abbrev CU_RES_LO (i : Nat) : Nat := 0x40101018 + 64 * i
/-- field RES of CU_RES_LO: bits 31:0, RO -/
abbrev CU_RES_LO_RES : Fld := ⟨0, 32⟩

/-- CU_RES_HI (R462). -/
abbrev CU_RES_HI (i : Nat) : Nat := 0x4010101C + 64 * i
/-- field RES of CU_RES_HI: bits 31:0, RO -/
abbrev CU_RES_HI_RES : Fld := ⟨0, 32⟩

/-- CU_STAT (R462). -/
abbrev CU_STAT (i : Nat) : Nat := 0x40101020 + 64 * i
/-- field BUSY of CU_STAT: bits 31:31, RO -/
abbrev CU_STAT_BUSY : Fld := ⟨31, 1⟩
/-- field DONE of CU_STAT: bits 30:30, W1C -/
abbrev CU_STAT_DONE : Fld := ⟨30, 1⟩
/-- field MATCH of CU_STAT: bits 29:29, RO -/
abbrev CU_STAT_MATCH : Fld := ⟨29, 1⟩
/-- field MISMATCH of CU_STAT: bits 28:28, W1C -/
abbrev CU_STAT_MISMATCH : Fld := ⟨28, 1⟩
/-- field RUNS of CU_STAT: bits 15:0, RW -/
abbrev CU_STAT_RUNS : Fld := ⟨0, 16⟩

/-- CHECK_ECC (R462). -/
abbrev CHECK_ECC : Nat := 0x40101100
/-- field UE_CNT of CHECK_ECC: bits 31:24, RW -/
abbrev CHECK_ECC_UE_CNT : Fld := ⟨24, 8⟩
/-- field CE_MRAM of CHECK_ECC: bits 23:12, RW -/
abbrev CHECK_ECC_CE_MRAM : Fld := ⟨12, 12⟩
/-- field CE_SRAM of CHECK_ECC: bits 11:0, RW -/
abbrev CHECK_ECC_CE_SRAM : Fld := ⟨0, 12⟩

/-- CHECK_ECCADDR (R462). -/
abbrev CHECK_ECCADDR : Nat := 0x40101104
/-- field ADDR of CHECK_ECCADDR: bits 31:0, RO -/
abbrev CHECK_ECCADDR_ADDR : Fld := ⟨0, 32⟩

/-- GATE_CFG (R476). -/
abbrev GATE_CFG : Nat := 0x40110000
/-- field IGN_IN of GATE_CFG: bits 31:25, RW, PR -/
abbrev GATE_CFG_IGN_IN : Fld := ⟨25, 7⟩
/-- field INT_ANT of GATE_CFG: bits 24:19, RW, PR -/
abbrev GATE_CFG_INT_ANT : Fld := ⟨19, 6⟩
/-- field SLOT_T of GATE_CFG: bits 18:15, RW, PR -/
abbrev GATE_CFG_SLOT_T : Fld := ⟨15, 4⟩
/-- field ACOL_MAX of GATE_CFG: bits 14:9, RW, PR -/
abbrev GATE_CFG_ACOL_MAX : Fld := ⟨9, 6⟩
/-- field IN_TH of GATE_CFG: bits 7:0, RW, PR -/
abbrev GATE_CFG_IN_TH : Fld := ⟨0, 8⟩

/-- GATE_CMD (R476). -/
abbrev GATE_CMD : Nat := 0x40110004
/-- field GO of GATE_CMD: bits 31:31, WO -/
abbrev GATE_CMD_GO : Fld := ⟨31, 1⟩
/-- field KIND of GATE_CMD: bits 30:28, RW -/
abbrev GATE_CMD_KIND : Fld := ⟨28, 3⟩
/-- field ANT of GATE_CMD: bits 21:16, RW -/
abbrev GATE_CMD_ANT : Fld := ⟨16, 6⟩
/-- field MASK of GATE_CMD: bits 15:0, RW -/
abbrev GATE_CMD_MASK : Fld := ⟨0, 16⟩

/-- GATE_STAT (R476). -/
abbrev GATE_STAT : Nat := 0x40110008
/-- field BUSY of GATE_STAT: bits 31:31, RO -/
abbrev GATE_STAT_BUSY : Fld := ⟨31, 1⟩
/-- field AUTH of GATE_STAT: bits 30:30, RO -/
abbrev GATE_STAT_AUTH : Fld := ⟨30, 1⟩
/-- field GMODE of GATE_STAT: bits 29:28, RO -/
abbrev GATE_STAT_GMODE : Fld := ⟨28, 2⟩
/-- field ZONE of GATE_STAT: bits 27:27, RO -/
abbrev GATE_STAT_ZONE : Fld := ⟨27, 1⟩
/-- field RESULT of GATE_STAT: bits 26:24, RO -/
abbrev GATE_STAT_RESULT : Fld := ⟨24, 3⟩
/-- field FAIL_CNT of GATE_STAT: bits 23:16, RO -/
abbrev GATE_STAT_FAIL_CNT : Fld := ⟨16, 8⟩
/-- field ENR_CNT of GATE_STAT: bits 15:10, RO -/
abbrev GATE_STAT_ENR_CNT : Fld := ⟨10, 6⟩
/-- field KDER_SET of GATE_STAT: bits 9:9, RO -/
abbrev GATE_STAT_KDER_SET : Fld := ⟨9, 1⟩
/-- field SESS of GATE_STAT: bits 7:0, RO -/
abbrev GATE_STAT_SESS : Fld := ⟨0, 8⟩

/-- GATE_RES (R476). -/
abbrev GATE_RES : Nat := 0x4011000C
/-- field TOKEN of GATE_RES: bits 31:28, RO -/
abbrev GATE_RES_TOKEN : Fld := ⟨28, 4⟩
/-- field REASON of GATE_RES: bits 27:24, RO -/
abbrev GATE_RES_REASON : Fld := ⟨24, 4⟩
/-- field NBAD of GATE_RES: bits 23:16, RO -/
abbrev GATE_RES_NBAD : Fld := ⟨16, 8⟩
/-- field NCOLL of GATE_RES: bits 15:8, RO -/
abbrev GATE_RES_NCOLL : Fld := ⟨8, 8⟩

/-- GATE_DELAY (R476). -/
abbrev GATE_DELAY : Nat := 0x40110010
/-- field REMAIN of GATE_DELAY: bits 19:0, RO -/
abbrev GATE_DELAY_REMAIN : Fld := ⟨0, 20⟩

/-- GATE_MODE (R476). -/
abbrev GATE_MODE : Nat := 0x40110014
/-- field MODE_REQ of GATE_MODE: bits 27:24, RW, PR -/
abbrev GATE_MODE_MODE_REQ : Fld := ⟨24, 4⟩
/-- field REVOKE of GATE_MODE: bits 4:4, WO, PR -/
abbrev GATE_MODE_REVOKE : Fld := ⟨4, 1⟩
/-- field RIDX of GATE_MODE: bits 3:0, RW, PR -/
abbrev GATE_MODE_RIDX : Fld := ⟨0, 4⟩

/-- GATE_CTR (R476). -/
abbrev GATE_CTR : Nat := 0x40110018
/-- field CTR of GATE_CTR: bits 31:0, RO -/
abbrev GATE_CTR_CTR : Fld := ⟨0, 32⟩

/-- GATE_EOL (R476). -/
abbrev GATE_EOL : Nat := 0x4011001C
/-- field EOL_DONE of GATE_EOL: bits 31:31, WL, PR -/
abbrev GATE_EOL_EOL_DONE : Fld := ⟨31, 1⟩

/-- GATE_LNONCE_LO (R476). -/
abbrev GATE_LNONCE_LO : Nat := 0x40110020
/-- field LNONCE of GATE_LNONCE_LO: bits 31:0, RO -/
abbrev GATE_LNONCE_LO_LNONCE : Fld := ⟨0, 32⟩

/-- GATE_LNONCE_HI (R476). -/
abbrev GATE_LNONCE_HI : Nat := 0x40110024
/-- field LNONCE of GATE_LNONCE_HI: bits 31:0, RO -/
abbrev GATE_LNONCE_HI_LNONCE : Fld := ⟨0, 32⟩

/-- GATE_LCODE_LO (R476). -/
abbrev GATE_LCODE_LO : Nat := 0x40110028
/-- field LCODE of GATE_LCODE_LO: bits 31:0, WO, PR -/
abbrev GATE_LCODE_LO_LCODE : Fld := ⟨0, 32⟩

/-- GATE_LCODE_HI (R476). -/
abbrev GATE_LCODE_HI : Nat := 0x4011002C
/-- field LCODE of GATE_LCODE_HI: bits 31:0, WO, PR -/
abbrev GATE_LCODE_HI_LCODE : Fld := ⟨0, 32⟩

/-- GATE_KDER (R476). -/
abbrev GATE_KDER (i : Nat) : Nat := 0x40110030 + 4 * i
/-- field KDER of GATE_KDER: bits 31:0, WL, PR -/
abbrev GATE_KDER_KDER : Fld := ⟨0, 32⟩

/-- GATE_TOK (R476). -/
abbrev GATE_TOK (i : Nat) : Nat := 0x40110100 + 4 * i
/-- field VALID of GATE_TOK: bits 31:31, RO -/
abbrev GATE_TOK_VALID : Fld := ⟨31, 1⟩
/-- field BAD_CNT of GATE_TOK: bits 15:8, RW -/
abbrev GATE_TOK_BAD_CNT : Fld := ⟨8, 8⟩
/-- field LAST_RSSI of GATE_TOK: bits 7:0, RO -/
abbrev GATE_TOK_LAST_RSSI : Fld := ⟨0, 8⟩

/-- GATE_TOKID (R476). -/
abbrev GATE_TOKID (i : Nat) : Nat := 0x40110140 + 4 * i
/-- field ID of GATE_TOKID: bits 31:0, RO -/
abbrev GATE_TOKID_ID : Fld := ⟨0, 32⟩

/-- GATE_IDPUB (R476). -/
abbrev GATE_IDPUB (i : Nat) : Nat := 0x40110200 + 4 * i
/-- field IDPUB of GATE_IDPUB: bits 31:0, RO -/
abbrev GATE_IDPUB_IDPUB : Fld := ⟨0, 32⟩

/-- LF_TRIM (R477). -/
abbrev LF_TRIM (i : Nat) : Nat := 0x40141000 + 4 * i
/-- field FREQ of LF_TRIM: bits 15:0, RW, PR -/
abbrev LF_TRIM_FREQ : Fld := ⟨0, 16⟩

/-- LF_STAT (R477). -/
abbrev LF_STAT (i : Nat) : Nat := 0x40141020 + 4 * i
/-- field LATCH of LF_STAT: bits 31:31, W1C -/
abbrev LF_STAT_LATCH : Fld := ⟨31, 1⟩
/-- field ON of LF_STAT: bits 30:30, RO -/
abbrev LF_STAT_ON : Fld := ⟨30, 1⟩
/-- field IPK of LF_STAT: bits 15:0, RO -/
abbrev LF_STAT_IPK : Fld := ⟨0, 16⟩

/-- UPD_STAT (R493). -/
abbrev UPD_STAT : Nat := 0x40120000
/-- field STATE of UPD_STAT: bits 31:28, RO -/
abbrev UPD_STAT_STATE : Fld := ⟨28, 4⟩
/-- field COLD of UPD_STAT: bits 27:27, RO -/
abbrev UPD_STAT_COLD : Fld := ⟨27, 1⟩
/-- field DETAIL of UPD_STAT: bits 26:20, RO -/
abbrev UPD_STAT_DETAIL : Fld := ⟨20, 7⟩
/-- field REASON of UPD_STAT: bits 19:12, RO -/
abbrev UPD_STAT_REASON : Fld := ⟨12, 8⟩

/-- UPD_ID (R493). -/
abbrev UPD_ID : Nat := 0x40120004
/-- field UPDATE_ID of UPD_ID: bits 31:0, RO -/
abbrev UPD_ID_UPDATE_ID : Fld := ⟨0, 32⟩

/-- UPD_PIECES (R493). -/
abbrev UPD_PIECES : Nat := 0x40120008
/-- field TOTAL of UPD_PIECES: bits 28:16, RO -/
abbrev UPD_PIECES_TOTAL : Fld := ⟨16, 13⟩
/-- field HELD of UPD_PIECES: bits 12:0, RO -/
abbrev UPD_PIECES_HELD : Fld := ⟨0, 13⟩

/-- UPD_CTRL (R493). -/
abbrev UPD_CTRL : Nat := 0x4012000C
/-- field ARM of UPD_CTRL: bits 31:31, WO, PR -/
abbrev UPD_CTRL_ARM : Fld := ⟨31, 1⟩
/-- field ABORT of UPD_CTRL: bits 30:30, WO, PR -/
abbrev UPD_CTRL_ABORT : Fld := ⟨30, 1⟩
/-- field UPD_PEER of UPD_CTRL: bits 15:8, RO -/
abbrev UPD_CTRL_UPD_PEER : Fld := ⟨8, 8⟩
/-- field QUIET_TO of UPD_CTRL: bits 7:0, RW, PR -/
abbrev UPD_CTRL_QUIET_TO : Fld := ⟨0, 8⟩

/-- UPD_HO (R493). -/
abbrev UPD_HO : Nat := 0x40120010
/-- field RB_CNT of UPD_HO: bits 31:24, RW -/
abbrev UPD_HO_RB_CNT : Fld := ⟨24, 8⟩
/-- field HO_CNT of UPD_HO: bits 23:16, RW -/
abbrev UPD_HO_HO_CNT : Fld := ⟨16, 8⟩
/-- field PAUSE_US of UPD_HO: bits 11:0, RO -/
abbrev UPD_HO_PAUSE_US : Fld := ⟨0, 12⟩

/-- UPD_SWAP (R493). -/
abbrev UPD_SWAP : Nat := 0x40120014
/-- field SWAP_LCC of UPD_SWAP: bits 31:0, RO -/
abbrev UPD_SWAP_SWAP_LCC : Fld := ⟨0, 32⟩

/-- UPD_CODE (R493). -/
abbrev UPD_CODE : Nat := 0x40120018
/-- field CODE_BANK of UPD_CODE: bits 0:0, RO -/
abbrev UPD_CODE_CODE_BANK : Fld := ⟨0, 1⟩

/-- UPD_BITMAP (R493). -/
abbrev UPD_BITMAP (i : Nat) : Nat := 0x40120100 + 4 * i
/-- field HELD of UPD_BITMAP: bits 31:0, RO -/
abbrev UPD_BITMAP_HELD : Fld := ⟨0, 32⟩

/-- UPD_KEY (R493). -/
abbrev UPD_KEY (i j : Nat) : Nat := 0x40120400 + 64 * i + 4 * j
/-- field KEY of UPD_KEY: bits 31:0, WL, PR -/
abbrev UPD_KEY_KEY : Fld := ⟨0, 32⟩

/-- The registers of the block at 0x4000_0000. -/
def regRows4000 : List RegRow := [
  ⟨0x40000000, 4, 1, 4, 1, false, .lodge, .none, [⟨SYS_ID_FAMILY, .ro, false, 0x5943⟩, ⟨SYS_ID_PART, .ro, false, 0x96⟩, ⟨SYS_ID_STEPPING, .ro, false, 0x1⟩]⟩,
  ⟨0x40000004, 4, 1, 4, 1, false, .lodge, .none, [⟨SYS_VARIANT_GRADE, .ro, false, 0x0⟩, ⟨SYS_VARIANT_GATE_FUSED, .ro, false, 0x0⟩]⟩,
  ⟨0x40000100, 4, 6, 4, 1, false, .lodge, .none, [⟨SYS_CV_STAT_LOST, .w1c, false, 0x0⟩, ⟨SYS_CV_STAT_UP, .ro, false, 0x0⟩, ⟨SYS_CV_STAT_RETRANS, .rw, false, 0x0⟩, ⟨SYS_CV_STAT_CRCERR, .rw, false, 0x0⟩]⟩,
  ⟨0x40000120, 4, 1, 4, 1, false, .lodge, .none, [⟨SYS_LOCK_STAT_SLIP_CNT, .rw, false, 0x0⟩, ⟨SYS_LOCK_STAT_MISSING, .ro, false, 0x0⟩]⟩,
  ⟨0x40000140, 4, 1, 4, 1, false, .lodge, .none, [⟨SYS_ACCESS_STAT_PRIVVIOL, .w1c, false, 0x0⟩, ⟨SYS_ACCESS_STAT_LOCKVIOL, .w1c, false, 0x0⟩, ⟨SYS_ACCESS_STAT_PRIV_MASTER, .ro, false, 0x0⟩, ⟨SYS_ACCESS_STAT_LOCK_MASTER, .ro, false, 0x0⟩, ⟨SYS_ACCESS_STAT_PRIV_CNT, .rw, false, 0x0⟩, ⟨SYS_ACCESS_STAT_LOCK_CNT, .rw, false, 0x0⟩]⟩,
  ⟨0x40000144, 4, 1, 4, 1, false, .lodge, .none, [⟨SYS_PRIV_ADDR_ADDR, .ro, false, 0x0⟩]⟩,
  ⟨0x40000148, 4, 1, 4, 1, false, .lodge, .none, [⟨SYS_LOCK_ADDR_ADDR, .ro, false, 0x0⟩]⟩,
  ⟨0x4000014C, 4, 1, 4, 1, false, .lodge, .none, [⟨SYS_BUSERR_STAT_VALID, .w1c, false, 0x0⟩, ⟨SYS_BUSERR_STAT_MASTER, .ro, false, 0x0⟩, ⟨SYS_BUSERR_STAT_KIND, .ro, false, 0x0⟩, ⟨SYS_BUSERR_STAT_WRITE, .ro, false, 0x0⟩, ⟨SYS_BUSERR_STAT_COUNT, .rw, false, 0x0⟩]⟩,
  ⟨0x40000150, 4, 1, 4, 1, false, .lodge, .none, [⟨SYS_BUSERR_ADDR_ADDR, .ro, false, 0x0⟩]⟩]

/-- The registers of the block at 0x4001_0000. -/
def regRows4001 : List RegRow := [
  ⟨0x40010000, 4, 1, 4, 1, false, .harbour, .none, [⟨SUPPLY_STAT_REVERSE, .w1c, false, 0x0⟩, ⟨SUPPLY_STAT_OVER, .w1c, false, 0x0⟩, ⟨SUPPLY_STAT_DROP, .w1c, false, 0x0⟩, ⟨SUPPLY_STAT_RVACT, .ro, false, 0x0⟩, ⟨SUPPLY_STAT_BAND, .ro, false, 0x2⟩, ⟨SUPPLY_STAT_LODGE_SRC, .ro, false, 0x0⟩]⟩,
  ⟨0x40010004, 4, 1, 4, 1, false, .harbour, .none, [⟨SUPPLY_VOLT_VBAT, .ro, false, 0x0⟩, ⟨SUPPLY_VOLT_VRES, .ro, false, 0x0⟩]⟩,
  ⟨0x40010010, 4, 1, 4, 1, false, .harbour, .none, [⟨SUPPLY_RES_CFG_BOOST_EN, .rw, false, 0x0⟩, ⟨SUPPLY_RES_CFG_VRES_TGT, .rw, false, 0x48⟩, ⟨SUPPLY_RES_CFG_CHG_ILIM, .rw, false, 0x4⟩, ⟨SUPPLY_RES_CFG_CHG_ILIM_LOW, .rw, false, 0x2⟩, ⟨SUPPLY_RES_CFG_VFLOOR, .rw, false, 0x18⟩, ⟨SUPPLY_RES_CFG_VEARLY, .rw, false, 0x28⟩]⟩,
  ⟨0x40010014, 4, 1, 4, 1, false, .harbour, .none, [⟨SUPPLY_RES_CFG2_VALVE_FLOOR, .rw, false, 0x38⟩, ⟨SUPPLY_RES_CFG2_DECL_CAP, .rw, false, 0xBC⟩]⟩,
  ⟨0x40010018, 4, 1, 4, 1, false, .harbour, .none, [⟨SUPPLY_RES_STAT_STATE, .ro, false, 0x0⟩, ⟨SUPPLY_RES_STAT_CAP_LOW, .w1c, false, 0x0⟩, ⟨SUPPLY_RES_STAT_SHORT, .w1c, false, 0x0⟩, ⟨SUPPLY_RES_STAT_OVP, .w1c, false, 0x0⟩, ⟨SUPPLY_RES_STAT_TIMEOUT, .w1c, false, 0x0⟩, ⟨SUPPLY_RES_STAT_CAP_EST, .ro, false, 0x0⟩]⟩,
  ⟨0x4001001C, 4, 1, 4, 1, false, .harbour, .none, [⟨SUPPLY_RIDE_CNT_RIDE_CNT, .rw, false, 0x0⟩, ⟨SUPPLY_RIDE_CNT_VMIN_RIDE, .ro, false, 0x0⟩]⟩,
  ⟨0x40010100, 4, 6, 4, 1, false, .glasshouse, .none, [⟨CR_CFG_EN, .rw, false, 0x0⟩, ⟨CR_CFG_SHED, .rw, false, 0x0⟩, ⟨CR_CFG_RETRY, .rw, false, 0x0⟩, ⟨CR_CFG_ILIM, .rw, false, 0x16⟩, ⟨CR_CFG_VSET, .rw, false, 0x8C⟩]⟩,
  ⟨0x40010120, 4, 6, 4, 1, false, .glasshouse, .none, [⟨CR_STAT_ON, .ro, false, 0x0⟩, ⟨CR_STAT_LATCHED, .ro, false, 0x0⟩, ⟨CR_STAT_OC, .w1c, false, 0x0⟩, ⟨CR_STAT_SHORT, .w1c, false, 0x0⟩, ⟨CR_STAT_OV, .w1c, false, 0x0⟩, ⟨CR_STAT_THERM, .w1c, false, 0x0⟩, ⟨CR_STAT_SHED_P, .w1c, false, 0x0⟩, ⟨CR_STAT_SHED_V, .ro, false, 0x0⟩, ⟨CR_STAT_RETRIES, .ro, false, 0x0⟩, ⟨CR_STAT_IOUT, .ro, false, 0x0⟩]⟩,
  ⟨0x40010140, 4, 1, 4, 1, false, .glasshouse, .none, [⟨SUPPLY_CR_SUM_PSUM, .ro, false, 0x0⟩]⟩,
  ⟨0x40010200, 4, 6, 4, 1, false, .harbour, .none, [⟨SUPPLY_TEMP_TEMP, .ro, false, 0x0⟩]⟩,
  ⟨0x40010220, 4, 1, 4, 1, false, .harbour, .none, [⟨SUPPLY_TBASE_TBASE_MAX, .wl, false, 0x0⟩]⟩]

/-- The registers of the block at 0x4002_0000. -/
def regRows4002 : List RegRow := [
  ⟨0x40020000, 4, 96, 4, 1, true, .pav16, .none, [⟨PAV_CMD_ON, .rw, false, 0x0⟩, ⟨PAV_CMD_CLR, .wo, false, 0x0⟩, ⟨PAV_CMD_DUTY, .rw, false, 0xFFFF⟩]⟩,
  ⟨0x40020200, 4, 96, 4, 1, true, .pav16, .pavOwn, [⟨PAV_PROT_OC_TH, .rw, true, 0x64⟩, ⟨PAV_PROT_INR_TH, .rw, true, 0xC8⟩, ⟨PAV_PROT_INR_TIME, .rw, true, 0x5⟩, ⟨PAV_PROT_OC_FILT, .rw, true, 0x3⟩, ⟨PAV_PROT_RETRY_N, .rw, true, 0x0⟩]⟩,
  ⟨0x40020400, 4, 96, 4, 1, true, .pav16, .pavOwn, [⟨PAV_CFG_PAIR, .rw, true, 0x0⟩, ⟨PAV_CFG_UV_SOFT, .rw, true, 0x0⟩, ⟨PAV_CFG_MOOR_KEEP, .rw, true, 0x0⟩, ⟨PAV_CFG_PWMF, .rw, true, 0x0⟩, ⟨PAV_CFG_PHASE, .rw, true, 0x0⟩, ⟨PAV_CFG_RETRY_DLY, .rw, true, 0x19⟩, ⟨PAV_CFG_SAFE, .rw, true, 0x0⟩, ⟨PAV_CFG_SAFE_DUTY, .rw, true, 0x0⟩]⟩,
  ⟨0x40020600, 4, 96, 4, 1, true, .pav16, .pavOwn, [⟨PAV_WIRE_WIRE_TAU, .rw, true, 0x0⟩, ⟨PAV_WIRE_WIRE_K, .rw, true, 0x0⟩]⟩,
  ⟨0x40020800, 4, 96, 4, 1, true, .pav16, .none, [⟨PAV_STAT_STATE, .ro, false, 0x0⟩, ⟨PAV_STAT_OCL, .w1c, false, 0x0⟩, ⟨PAV_STAT_HLIM, .w1c, false, 0x0⟩, ⟨PAV_STAT_THERM, .w1c, false, 0x0⟩, ⟨PAV_STAT_WIRE, .w1c, false, 0x0⟩, ⟨PAV_STAT_UV, .w1c, false, 0x0⟩, ⟨PAV_STAT_VETO_T, .ro, false, 0x0⟩, ⟨PAV_STAT_VETO_W, .ro, false, 0x0⟩, ⟨PAV_STAT_CLAMP, .ro, false, 0x0⟩, ⟨PAV_STAT_RETRIES, .ro, false, 0x0⟩, ⟨PAV_STAT_THETA, .ro, false, 0x0⟩, ⟨PAV_STAT_TJ, .ro, false, 0x0⟩]⟩,
  ⟨0x40020A00, 4, 96, 4, 1, true, .lodge, .none, [⟨PAV_SWCNT_LO_CNT_LO, .ro, false, 0x0⟩]⟩,
  ⟨0x40020C00, 4, 96, 4, 1, true, .lodge, .none, [⟨PAV_SWCNT_HI_CNT_HI, .ro, false, 0x0⟩]⟩,
  ⟨0x40020E00, 4, 96, 4, 1, true, .lodge, .none, [⟨PAV_SCCNT_SCCNT, .ro, false, 0x0⟩]⟩,
  ⟨0x40021000, 4, 6, 4, 1, false, .pav1, .pavBank, [⟨PAV_BANK_LIMP_TIME, .rw, true, 0xA⟩, ⟨PAV_BANK_SS_TIME, .rw, true, 0x19⟩]⟩,
  ⟨0x40021020, 4, 6, 4, 1, false, .pav1, .none, [⟨PAV_BSTAT_LIMP, .ro, false, 0x0⟩, ⟨PAV_BSTAT_SAFE, .ro, false, 0x0⟩, ⟨PAV_BSTAT_LIMPED, .w1c, false, 0x0⟩, ⟨PAV_BSTAT_SAFED, .w1c, false, 0x0⟩, ⟨PAV_BSTAT_MOOR, .ro, false, 0x0⟩, ⟨PAV_BSTAT_LIMP_MS, .ro, false, 0x0⟩]⟩,
  ⟨0x40021040, 4, 3, 4, 1, false, .powerAll, .pavClass, [⟨PAV_UV_UVACT, .ro, false, 0x0⟩, ⟨PAV_UV_UVSEEN, .w1c, false, 0x0⟩, ⟨PAV_UV_UV_TH, .rw, true, 0x0⟩, ⟨PAV_UV_UV_HYST, .rw, true, 0xA⟩]⟩]

/-- The registers of the block at 0x4003_0000. -/
def regRows4003 : List RegRow := [
  ⟨0x40030000, 4, 96, 4, 1, true, .pav16, .none, [⟨MEAS_IV_I, .ro, false, 0x0⟩, ⟨MEAS_IV_V, .ro, false, 0x0⟩, ⟨MEAS_IV_VALID, .ro, false, 0x0⟩]⟩,
  ⟨0x40030200, 4, 96, 4, 1, true, .pav16, .pavOwn, [⟨MEAS_DCFG_DIAG_EN, .rw, true, 0x0⟩, ⟨MEAS_DCFG_OFF_EN, .rw, true, 0x0⟩, ⟨MEAS_DCFG_STRETCH, .rw, true, 0x0⟩, ⟨MEAS_DCFG_LOADTYPE, .rw, true, 0x0⟩, ⟨MEAS_DCFG_OL_TH, .rw, true, 0x8⟩, ⟨MEAS_DCFG_OL_CNT, .rw, true, 0x2⟩]⟩,
  ⟨0x40030400, 4, 96, 4, 1, true, .pav16, .none, [⟨MEAS_DIAG_CODE, .ro, false, 0x0⟩, ⟨MEAS_DIAG_OPEN_ON, .w1c, false, 0x0⟩, ⟨MEAS_DIAG_OPEN_OFF, .w1c, false, 0x0⟩, ⟨MEAS_DIAG_SHORT_BAT, .w1c, false, 0x0⟩, ⟨MEAS_DIAG_SHORT_GND, .w1c, false, 0x0⟩, ⟨MEAS_DIAG_STRETCHED, .ro, false, 0x0⟩, ⟨MEAS_DIAG_LATCH_V, .ro, false, 0x0⟩]⟩,
  ⟨0x40030600, 4, 96, 4, 1, true, .lodge, .pavOwn, [⟨MEAS_HHCFG_HH_EN, .rw, true, 0x0⟩, ⟨MEAS_HHCFG_TSEL, .rw, true, 0x0⟩, ⟨MEAS_HHCFG_ALPHA, .rw, true, 0x0⟩, ⟨MEAS_HHCFG_HH_IMIN, .rw, true, 0x14⟩, ⟨MEAS_HHCFG_DRIFT_TH, .rw, true, 0x5⟩, ⟨MEAS_HHCFG_DRIFT_DAYS, .rw, true, 0x3⟩]⟩,
  ⟨0x40030800, 4, 96, 4, 1, true, .lodge, .none, [⟨MEAS_HHBASE_LEARNED, .ro, false, 0x0⟩, ⟨MEAS_HHBASE_LEFT, .ro, false, 0x0⟩, ⟨MEAS_HHBASE_BASE, .ro, false, 0x0⟩]⟩,
  ⟨0x40030A00, 4, 96, 4, 1, true, .lodge, .none, [⟨MEAS_HHDAY_SPARSE, .ro, false, 0x0⟩, ⟨MEAS_HHDAY_MEAN, .ro, false, 0x0⟩]⟩,
  ⟨0x40030C00, 4, 96, 4, 1, true, .lodge, .none, [⟨MEAS_HHSTAT_DRIFT_FLAG, .w1c, false, 0x0⟩, ⟨MEAS_HHSTAT_DRIFT_ACT, .ro, false, 0x0⟩, ⟨MEAS_HHSTAT_OVER_DAYS, .ro, false, 0x0⟩, ⟨MEAS_HHSTAT_DRIFT, .ro, false, 0x0⟩]⟩,
  ⟨0x40031000, 4, 1, 4, 1, false, .lodge, .pavAny, [⟨MEAS_CFG_STRETCH_N, .rw, true, 0x8⟩, ⟨MEAS_CFG_LEARN_DAYS, .rw, true, 0x7⟩, ⟨MEAS_CFG_DIAG_PER, .rw, true, 0xA⟩, ⟨MEAS_CFG_OFFT, .rw, true, 0x14⟩, ⟨MEAS_CFG_MIN_T, .rw, true, 0x1E⟩]⟩,
  ⟨0x40031004, 4, 1, 4, 1, false, .lodge, .none, [⟨MEAS_HHCMD_RELEARN, .wo, false, 0x0⟩, ⟨MEAS_HHCMD_CLOSE_DAY, .wo, false, 0x0⟩, ⟨MEAS_HHCMD_CH, .rw, false, 0x0⟩]⟩,
  ⟨0x40031020, 4, 6, 4, 1, false, .pav1, .none, [⟨MEAS_ARB_FG_SHARE, .ro, false, 0x0⟩, ⟨MEAS_ARB_BG_SHARE, .ro, false, 0x0⟩, ⟨MEAS_ARB_BG_PTR, .ro, false, 0x0⟩]⟩,
  ⟨0x40031040, 4, 6, 4, 1, false, .pav1, .none, [⟨MEAS_SCNT_SCNT, .rw, false, 0x0⟩]⟩]

/-- The registers of the block at 0x4004_0000. -/
def regRows4004 : List RegRow := [
  ⟨0x40040000, 4, 24, 4, 1, false, .arbour, .none, [⟨SLU_CMD_ON, .rw, false, 0x0⟩, ⟨SLU_CMD_CLR, .wo, false, 0x0⟩, ⟨SLU_CMD_SETPT, .rw, false, 0x0⟩]⟩,
  ⟨0x40040080, 4, 24, 4, 1, false, .arbour, (.sub 7), [⟨SLU_CFG_MODE, .rw, true, 0x0⟩, ⟨SLU_CFG_PEAK_END, .rw, true, 0x0⟩, ⟨SLU_CFG_SAFE, .rw, true, 0x0⟩, ⟨SLU_CFG_DECAY, .rw, true, 0x0⟩, ⟨SLU_CFG_IPEAK, .rw, true, 0x28⟩, ⟨SLU_CFG_IHOLD, .rw, true, 0xA⟩, ⟨SLU_CFG_PEAK_T, .rw, true, 0x14⟩, ⟨SLU_CFG_PEAK_EXT, .rw, true, 0x2⟩]⟩,
  ⟨0x40040100, 4, 24, 4, 1, false, .arbour, (.sub 7), [⟨SLU_DITH_DITH_F, .rw, true, 0xA⟩, ⟨SLU_DITH_DITH_A, .rw, true, 0x0⟩, ⟨SLU_DITH_DEFER_T, .rw, true, 0x14⟩]⟩,
  ⟨0x40040180, 4, 24, 4, 1, false, .arbour, (.sub 7), [⟨SLU_KINK_KEN, .rw, true, 0x0⟩, ⟨SLU_KINK_KSRC, .rw, true, 0x0⟩, ⟨SLU_KINK_KW_START, .rw, true, 0xA⟩, ⟨SLU_KINK_KW_END, .rw, true, 0x28⟩, ⟨SLU_KINK_KTH, .rw, true, 0xA⟩]⟩,
  ⟨0x40040200, 4, 24, 4, 1, false, .arbour, (.sub 7), [⟨SLU_DCFG_ON_EN, .rw, true, 0x0⟩, ⟨SLU_DCFG_OFF_EN, .rw, true, 0x0⟩, ⟨SLU_DCFG_OL_CNT, .rw, true, 0x2⟩]⟩,
  ⟨0x40040280, 4, 24, 4, 1, false, .arbour, .none, [⟨SLU_STAT_STATE, .ro, false, 0x0⟩, ⟨SLU_STAT_CODE, .ro, false, 0x0⟩, ⟨SLU_STAT_OCL, .w1c, false, 0x0⟩, ⟨SLU_STAT_THERM, .w1c, false, 0x0⟩, ⟨SLU_STAT_REFUSED, .w1c, false, 0x0⟩, ⟨SLU_STAT_DEFERRED, .w1c, false, 0x0⟩, ⟨SLU_STAT_OPEN, .w1c, false, 0x0⟩, ⟨SLU_STAT_SHORT_GND, .w1c, false, 0x0⟩, ⟨SLU_STAT_SHORT_BAT, .w1c, false, 0x0⟩, ⟨SLU_STAT_SHORT_LOAD, .w1c, false, 0x0⟩, ⟨SLU_STAT_SAT, .ro, false, 0x0⟩, ⟨SLU_STAT_VETO_T, .ro, false, 0x0⟩, ⟨SLU_STAT_PEND, .ro, false, 0x0⟩, ⟨SLU_STAT_SRC, .ro, false, 0x0⟩, ⟨SLU_STAT_TJ, .ro, false, 0x0⟩]⟩,
  ⟨0x40040300, 4, 24, 4, 1, false, .arbour, .none, [⟨SLU_MOVE_MOVED, .ro, false, 0x0⟩, ⟨SLU_MOVE_NOMOVE, .ro, false, 0x0⟩, ⟨SLU_MOVE_I_KINK, .ro, false, 0x0⟩, ⟨SLU_MOVE_MOVE_T, .ro, false, 0x0⟩]⟩,
  ⟨0x40040380, 4, 24, 4, 1, false, .arbour, .none, [⟨SLU_MEAS_I, .ro, false, 0x0⟩, ⟨SLU_MEAS_DUTY, .ro, false, 0x0⟩]⟩,
  ⟨0x40040400, 4, 4, 4, 1, false, .arbour, (.sub 7), [⟨SLU_BANK_BOOST, .rw, true, 0x0⟩, ⟨SLU_BANK_BAL_ACT, .rw, true, 0x0⟩, ⟨SLU_BANK_BCLR, .wo, false, 0x0⟩, ⟨SLU_BANK_LIMP_TIME, .rw, true, 0xA⟩]⟩,
  ⟨0x40040410, 4, 4, 4, 1, false, .arbour, .none, [⟨SLU_BSTAT_LIMP, .ro, false, 0x0⟩, ⟨SLU_BSTAT_SAFE, .ro, false, 0x0⟩, ⟨SLU_BSTAT_LIMPED, .w1c, false, 0x0⟩, ⟨SLU_BSTAT_SAFED, .w1c, false, 0x0⟩, ⟨SLU_BSTAT_LEAK, .w1c, false, 0x0⟩, ⟨SLU_BSTAT_BSW_LATCH, .ro, false, 0x0⟩, ⟨SLU_BSTAT_ON_VRES, .ro, false, 0x0⟩, ⟨SLU_BSTAT_PEAK_OWNER, .ro, false, 0x1F⟩, ⟨SLU_BSTAT_BNODE_HI, .ro, false, 0x0⟩, ⟨SLU_BSTAT_BSW_OCL, .w1c, false, 0x0⟩, ⟨SLU_BSTAT_BSW_THERM, .w1c, false, 0x0⟩, ⟨SLU_BSTAT_BSW_VETO, .ro, false, 0x0⟩, ⟨SLU_BSTAT_REFUSE_CNT, .rw, false, 0x0⟩, ⟨SLU_BSTAT_IBANK, .ro, false, 0x0⟩]⟩,
  ⟨0x40040420, 4, 4, 4, 1, false, .arbour, .none, [⟨SLU_REC_EREC, .rw, false, 0x0⟩]⟩]

/-- The registers of the block at 0x4005_0000. -/
def regRows4005 : List RegRow := [
  ⟨0x40050000, 4, 16, 4, 1, false, .arbour, .none, [⟨BR_CMD_RUN, .rw, false, 0x0⟩, ⟨BR_CMD_DIR, .rw, false, 0x0⟩, ⟨BR_CMD_CLR, .wo, false, 0x0⟩, ⟨BR_CMD_GOTO, .rw, false, 0x0⟩, ⟨BR_CMD_DUTY, .rw, false, 0xFFF⟩, ⟨BR_CMD_TGT, .rw, false, 0x0⟩]⟩,
  ⟨0x40050040, 4, 16, 4, 1, false, .arbour, (.sub 8), [⟨BR_CFG_PAIR, .rw, true, 0x0⟩, ⟨BR_CFG_SIDE, .rw, true, 0x0⟩, ⟨BR_CFG_PWMF, .rw, true, 0x4⟩, ⟨BR_CFG_BRAKE, .rw, true, 0x1⟩, ⟨BR_CFG_BRK_HOLD, .rw, true, 0x0⟩, ⟨BR_CFG_SAFE, .rw, true, 0x0⟩, ⟨BR_CFG_PARK_SEL, .rw, true, 0x0⟩, ⟨BR_CFG_PARK_LVL, .rw, true, 0x0⟩, ⟨BR_CFG_BRK_T, .rw, true, 0x14⟩, ⟨BR_CFG_RAMP_T, .rw, true, 0x0⟩]⟩,
  ⟨0x40050080, 4, 16, 4, 1, false, .arbour, (.sub 8), [⟨BR_PROT_OC_TH, .rw, true, 0x18⟩, ⟨BR_PROT_OC_FILT, .rw, true, 0x3⟩, ⟨BR_PROT_STALL_TH, .rw, true, 0x0⟩, ⟨BR_PROT_STALL_T, .rw, true, 0x32⟩, ⟨BR_PROT_ST_BLK, .rw, true, 0x32⟩]⟩,
  ⟨0x400500C0, 4, 16, 4, 1, false, .arbour, (.sub 8), [⟨BR_RIP_RIP_EN, .rw, true, 0x0⟩, ⟨BR_RIP_NORM, .rw, true, 0x0⟩, ⟨BR_RIP_NORM_DIR, .rw, true, 0x1⟩, ⟨BR_RIP_OL_CNT, .rw, true, 0x2⟩, ⟨BR_RIP_RIP_TO, .rw, true, 0x64⟩, ⟨BR_RIP_PARK_TO, .rw, true, 0x32⟩, ⟨BR_RIP_AT_REV, .rw, true, 0x19⟩]⟩,
  ⟨0x40050100, 4, 16, 4, 1, false, .arbour, (.sub 8), [⟨BR_AT_AT_EN, .rw, true, 0x0⟩, ⟨BR_AT_AT_DIR, .rw, true, 0x0⟩, ⟨BR_AT_AT_TH, .rw, true, 0xC⟩, ⟨BR_AT_AT_LO, .rw, true, 0x0⟩, ⟨BR_AT_AT_HI, .rw, true, 0xFFF⟩]⟩,
  ⟨0x40050140, 4, 16, 4, 1, false, .arbour, .none, [⟨BR_STAT_STATE, .ro, false, 0x0⟩, ⟨BR_STAT_CODE, .ro, false, 0x0⟩, ⟨BR_STAT_OCL, .w1c, false, 0x0⟩, ⟨BR_STAT_HLIM, .w1c, false, 0x0⟩, ⟨BR_STAT_THERM, .w1c, false, 0x0⟩, ⟨BR_STAT_STALL, .w1c, false, 0x0⟩, ⟨BR_STAT_TRAP, .w1c, false, 0x0⟩, ⟨BR_STAT_PARKTO, .w1c, false, 0x0⟩, ⟨BR_STAT_OPEN, .w1c, false, 0x0⟩, ⟨BR_STAT_VETO_T, .ro, false, 0x0⟩, ⟨BR_STAT_PEND, .ro, false, 0x0⟩, ⟨BR_STAT_NORM_OK, .ro, false, 0x0⟩, ⟨BR_STAT_GOTO_REJ, .w1c, false, 0x0⟩, ⟨BR_STAT_TJ, .ro, false, 0x0⟩]⟩,
  ⟨0x40050180, 4, 16, 4, 1, false, .arbour, .none, [⟨BR_POS_RPER, .ro, false, 0x0⟩, ⟨BR_POS_POS, .rw, false, 0x0⟩]⟩,
  ⟨0x400501C0, 4, 16, 4, 1, false, .arbour, .none, [⟨BR_MEAS_I, .ro, false, 0x0⟩]⟩,
  ⟨0x40050200, 4, 4, 4, 1, false, .arbour, (.sub 8), [⟨BR_GRP_LIMP_TIME, .rw, true, 0xA⟩]⟩,
  ⟨0x40050210, 4, 4, 4, 1, false, .arbour, .none, [⟨BR_GSTAT_LIMP, .ro, false, 0x0⟩, ⟨BR_GSTAT_SAFE, .ro, false, 0x0⟩, ⟨BR_GSTAT_LIMPED, .w1c, false, 0x0⟩, ⟨BR_GSTAT_SAFED, .w1c, false, 0x0⟩]⟩]

/-- The registers of the block at 0x4006_0000. -/
def regRows4006 : List RegRow := [
  ⟨0x40060000, 4, 48, 4, 1, false, .glasshouse, .none, [⟨LC_CMD_ON, .rw, false, 0x0⟩, ⟨LC_CMD_CLR, .wo, false, 0x0⟩, ⟨LC_CMD_LVL, .rw, false, 0xFFFF⟩]⟩,
  ⟨0x40060400, 4, 4, 4, 1, false, .glasshouse, .none, [⟨BL_CMD_ON, .rw, false, 0x0⟩, ⟨BL_CMD_CLR, .wo, false, 0x0⟩, ⟨BL_CMD_LVL, .rw, false, 0xFFFF⟩]⟩,
  ⟨0x40060100, 4, 48, 4, 1, false, .glasshouse, (.sub 9), [⟨LC_CFG_FOLLOW, .rw, true, 0x0⟩, ⟨LC_CFG_MOOR_KEEP, .rw, true, 0x0⟩, ⟨LC_CFG_SHORT_OFF, .rw, true, 0x0⟩, ⟨LC_CFG_PWMF, .rw, true, 0x1⟩, ⟨LC_CFG_SAFE, .rw, true, 0x0⟩, ⟨LC_CFG_FADE_T, .rw, true, 0x0⟩, ⟨LC_CFG_ISET, .rw, true, 0x28⟩]⟩,
  ⟨0x40060200, 4, 48, 4, 1, false, .glasshouse, (.sub 9), [⟨LC_DCFG_DIAG_EN, .rw, true, 0x0⟩, ⟨LC_DCFG_STRETCH, .rw, true, 0x0⟩, ⟨LC_DCFG_OL_CNT, .rw, true, 0x2⟩, ⟨LC_DCFG_VSH_TH, .rw, true, 0x32⟩, ⟨LC_DCFG_SAFE_LVL, .rw, true, 0x0⟩]⟩,
  ⟨0x40060300, 4, 48, 4, 1, false, .glasshouse, .none, [⟨LC_STAT_STATE, .ro, false, 0x0⟩, ⟨LC_STAT_CODE, .ro, false, 0x0⟩, ⟨LC_STAT_OPEN, .w1c, false, 0x0⟩, ⟨LC_STAT_SHORT, .w1c, false, 0x0⟩, ⟨LC_STAT_PEND, .ro, false, 0x0⟩, ⟨LC_STAT_FOLD, .ro, false, 0x0⟩, ⟨LC_STAT_STRETCHED, .ro, false, 0x0⟩, ⟨LC_STAT_VSINK, .ro, false, 0x0⟩]⟩,
  ⟨0x40060410, 4, 4, 4, 1, false, .glasshouse, (.sub 9), [⟨BL_CFG_SHED, .rw, true, 0x0⟩, ⟨BL_CFG_SAFE, .rw, true, 0x1⟩, ⟨BL_CFG_PWMF, .rw, true, 0x3⟩, ⟨BL_CFG_VOMAX, .rw, true, 0x28⟩, ⟨BL_CFG_FADE_T, .rw, true, 0x0⟩, ⟨BL_CFG_ISET, .rw, true, 0x0⟩]⟩,
  ⟨0x40060420, 4, 4, 4, 1, false, .glasshouse, .none, [⟨BL_STAT_STATE, .ro, false, 0x0⟩, ⟨BL_STAT_CODE, .ro, false, 0x0⟩, ⟨BL_STAT_OPEN, .w1c, false, 0x0⟩, ⟨BL_STAT_SHORT, .w1c, false, 0x0⟩, ⟨BL_STAT_OCL, .w1c, false, 0x0⟩, ⟨BL_STAT_SAT, .ro, false, 0x0⟩, ⟨BL_STAT_PEND, .ro, false, 0x0⟩, ⟨BL_STAT_VOUT, .ro, false, 0x0⟩]⟩,
  ⟨0x40060430, 4, 4, 4, 1, false, .glasshouse, .none, [⟨BL_MEAS_IOUT, .ro, false, 0x0⟩]⟩,
  ⟨0x40060440, 4, 4, 4, 1, false, .glasshouse, .none, [⟨PD_VAL_OVR, .ro, false, 0x0⟩, ⟨PD_VAL_RANGE, .ro, false, 0x0⟩, ⟨PD_VAL_VAL, .ro, false, 0x0⟩]⟩,
  ⟨0x40060450, 4, 4, 4, 1, false, .glasshouse, (.sub 9), [⟨SNS_CFG_EN, .rw, true, 0x0⟩, ⟨SNS_CFG_BUS, .rw, true, 0x0⟩, ⟨SNS_CFG_BE, .rw, true, 0x0⟩, ⟨SNS_CFG_REG, .rw, true, 0x0⟩, ⟨SNS_CFG_ADDR, .rw, true, 0x0⟩]⟩,
  ⟨0x40060500, 4, 8, 4, 1, false, .glasshouse, (.sub 9), [⟨LOOP_CFG_EN, .rw, true, 0x0⟩, ⟨LOOP_CFG_RGB, .rw, true, 0x0⟩, ⟨LOOP_CFG_SRC, .rw, true, 0x0⟩, ⟨LOOP_CFG_SNSF, .ro, false, 0x0⟩, ⟨LOOP_CFG_KSH, .rw, true, 0x3⟩, ⟨LOOP_CFG_MEM2, .rw, true, 0x7F⟩, ⟨LOOP_CFG_MEM1, .rw, true, 0x7F⟩, ⟨LOOP_CFG_MEM0, .rw, true, 0x7F⟩]⟩,
  ⟨0x40060520, 16, 8, 4, 3, false, .glasshouse, (.sub 9), [⟨LOOP_TGT_TGT, .rw, true, 0x0⟩]⟩,
  ⟨0x40060600, 32, 8, 4, 5, false, .glasshouse, (.sub 9), [⟨LOOP_MAT_M_HI, .rw, true, 0x0⟩, ⟨LOOP_MAT_M_LO, .rw, true, 0x0⟩]⟩,
  ⟨0x40060700, 16, 8, 4, 3, false, .glasshouse, .none, [⟨LOOP_STAT_SAT, .ro, false, 0x0⟩, ⟨LOOP_STAT_SATSEEN, .w1c, false, 0x0⟩, ⟨LOOP_STAT_HELD, .ro, false, 0x0⟩, ⟨LOOP_STAT_GAIN, .ro, false, 0x4000⟩]⟩,
  ⟨0x40060800, 4, 1, 4, 1, false, .glasshouse, (.sub 9), [⟨TR_CFG_FRAME_HZ, .rw, true, 0xC8⟩, ⟨TR_CFG_NLINES, .rw, true, 0xF⟩, ⟨TR_CFG_NSUB, .rw, true, 0x0⟩, ⟨TR_CFG_BLANK, .rw, true, 0x4⟩]⟩,
  ⟨0x40060804, 4, 1, 4, 1, false, .glasshouse, (.sub 9), [⟨TR_CFG2_STRETCH, .rw, true, 0x0⟩, ⟨TR_CFG2_COLF_STOP, .rw, true, 0x1⟩, ⟨TR_CFG2_SAFE, .rw, true, 0x0⟩, ⟨TR_CFG2_CONF, .rw, true, 0x2⟩, ⟨TR_CFG2_PRE_VF, .rw, true, 0x10⟩, ⟨TR_CFG2_VSH_TH, .rw, true, 0xA⟩, ⟨TR_CFG2_SAFE_LVL, .rw, true, 0x0⟩]⟩,
  ⟨0x40060808, 4, 1, 4, 1, false, .glasshouse, (.sub 9), [⟨TR_COLMASK_LO_COL_LO, .rw, true, 0x0⟩]⟩,
  ⟨0x4006080C, 4, 1, 4, 1, false, .glasshouse, (.sub 9), [⟨TR_COLMASK_HI_COL_HI, .rw, true, 0x0⟩]⟩,
  ⟨0x40060810, 4, 1, 4, 1, false, .glasshouse, .none, [⟨TR_CMD_RUN, .rw, false, 0x0⟩, ⟨TR_CMD_SHOW, .rw, false, 0x0⟩, ⟨TR_CMD_LCLR, .wo, false, 0x0⟩]⟩,
  ⟨0x40060814, 4, 1, 4, 1, false, .glasshouse, .none, [⟨TR_STAT_STATE, .ro, false, 0x0⟩, ⟨TR_STAT_DISP, .ro, false, 0x0⟩, ⟨TR_STAT_COLF, .w1c, false, 0x0⟩, ⟨TR_STAT_LSEEN, .w1c, false, 0x0⟩, ⟨TR_STAT_LLATCH, .ro, false, 0x0⟩]⟩,
  ⟨0x40060818, 4, 1, 4, 1, false, .glasshouse, (.sub 9), [⟨TR_COLF_LO_COL_LO, .w1c, false, 0x0⟩]⟩,
  ⟨0x4006081C, 4, 1, 4, 1, false, .glasshouse, (.sub 9), [⟨TR_COLF_HI_COL_HI, .w1c, false, 0x0⟩]⟩,
  ⟨0x40060900, 4, 1, 4, 1, false, .glasshouse, (.sub 9), [⟨LIGHT_BANK_STRETCH_N, .rw, true, 0x8⟩, ⟨LIGHT_BANK_LIMP_TIME, .rw, true, 0xA⟩]⟩,
  ⟨0x40060904, 4, 1, 4, 1, false, .glasshouse, .none, [⟨LIGHT_BSTAT_LIMP, .ro, false, 0x0⟩, ⟨LIGHT_BSTAT_SAFE, .ro, false, 0x0⟩, ⟨LIGHT_BSTAT_LIMPED, .w1c, false, 0x0⟩, ⟨LIGHT_BSTAT_SAFED, .w1c, false, 0x0⟩, ⟨LIGHT_BSTAT_MOOR, .ro, false, 0x0⟩]⟩,
  ⟨0x40060908, 4, 1, 4, 1, false, .glasshouse, (.sub 9), [⟨LIGHT_THERM_FOLD, .ro, false, 0x0⟩, ⟨LIGHT_THERM_TSD, .ro, false, 0x0⟩, ⟨LIGHT_THERM_TSDSEEN, .w1c, false, 0x0⟩, ⟨LIGHT_THERM_TFOLD, .rw, true, 0x7D⟩, ⟨LIGHT_THERM_FACT, .ro, false, 0x80⟩]⟩,
  ⟨0x40060A00, 4, 24, 4, 1, false, .glasshouse, .none, [⟨TR_OPEN_LEDS, .w1c, false, 0x0⟩]⟩,
  ⟨0x40060A80, 4, 24, 4, 1, false, .glasshouse, .none, [⟨TR_SHORT_LEDS, .w1c, false, 0x0⟩]⟩,
  ⟨0x40061000, 4, 384, 4, 1, false, .glasshouse, .none, [⟨TR_BUF_A_L_ODD, .rw, false, 0x0⟩, ⟨TR_BUF_A_L_EVEN, .rw, false, 0x0⟩]⟩,
  ⟨0x40061800, 4, 384, 4, 1, false, .glasshouse, .none, [⟨TR_BUF_B_L_ODD, .rw, false, 0x0⟩, ⟨TR_BUF_B_L_EVEN, .rw, false, 0x0⟩]⟩]

/-- The registers of the block at 0x4007_0000. -/
def regRows4007 : List RegRow := [
  ⟨0x40070000, 4, 128, 4, 1, false, .harbour, (.sub 10), [⟨IN_CFG_WAKE, .rw, true, 0x0⟩, ⟨IN_CFG_EVT, .rw, true, 0x0⟩, ⟨IN_CFG_WET, .rw, true, 0x0⟩, ⟨IN_CFG_PULL, .rw, true, 0x0⟩, ⟨IN_CFG_CLEAN, .rw, true, 0x0⟩, ⟨IN_CFG_THR, .rw, true, 0x2⟩, ⟨IN_CFG_DEB, .rw, true, 0x64⟩]⟩,
  ⟨0x40070200, 4, 4, 4, 1, false, .harbour, .none, [⟨IN_LVL_LVL, .ro, false, 0x0⟩]⟩,
  ⟨0x40070210, 4, 4, 4, 1, false, .harbour, .none, [⟨IN_RAW_LVL, .ro, false, 0x0⟩]⟩,
  ⟨0x40070220, 4, 4, 4, 1, false, .harbour, .none, [⟨IN_EDGE_SEEN, .w1c, false, 0x0⟩]⟩,
  ⟨0x40070230, 4, 4, 4, 1, false, .harbour, .none, [⟨IN_CHAT_SEEN, .w1c, false, 0x0⟩]⟩,
  ⟨0x40070240, 4, 1, 4, 1, false, .harbour, (.sub 10), [⟨IN_POLL_POLL_PER, .rw, true, 0xA⟩, ⟨IN_POLL_WAKE_CNT, .rw, true, 0x1⟩]⟩,
  ⟨0x40070400, 4, 16, 4, 1, false, .arbour, .none, [⟨FO_CMD_ON, .rw, false, 0x0⟩, ⟨FO_CMD_CLR, .wo, false, 0x0⟩]⟩,
  ⟨0x40070440, 4, 16, 4, 1, false, .arbour, (.sub 10), [⟨FO_CFG_OWNER, .rw, true, 0x3⟩, ⟨FO_CFG_SAFE, .rw, true, 0x0⟩, ⟨FO_CFG_AUTO, .rw, true, 0x0⟩, ⟨FO_CFG_DIAG_EN, .rw, true, 0x0⟩, ⟨FO_CFG_OWN_TO, .rw, true, 0x0⟩]⟩,
  ⟨0x40070480, 4, 16, 4, 1, false, .arbour, .none, [⟨FO_STAT_STATE, .ro, false, 0x0⟩, ⟨FO_STAT_OLIMP, .ro, false, 0x0⟩, ⟨FO_STAT_OSAFE, .ro, false, 0x0⟩, ⟨FO_STAT_LIM, .ro, false, 0x0⟩, ⟨FO_STAT_THERM, .w1c, false, 0x0⟩, ⟨FO_STAT_OPEN, .w1c, false, 0x0⟩, ⟨FO_STAT_SHORT_BAT, .w1c, false, 0x0⟩, ⟨FO_STAT_NOTOWN, .w1c, false, 0x0⟩, ⟨FO_STAT_VETO_T, .ro, false, 0x0⟩, ⟨FO_STAT_PEND, .ro, false, 0x0⟩, ⟨FO_STAT_TJ, .ro, false, 0x0⟩]⟩]

/-- The registers of the block at 0x4008_0000. -/
def regRows4008 : List RegRow := [
  ⟨0x40080000, 4, 1, 4, 1, false, .lodge, (.sub 11), [⟨KEEPER_CFG_LOCK_CYC, .rw, true, 0xA⟩]⟩,
  ⟨0x40080004, 4, 1, 4, 1, false, .lodge, .none, [⟨KEEPER_LCC_LCC, .ro, false, 0x0⟩]⟩,
  ⟨0x40080008, 4, 1, 4, 1, false, .lodge, .none, [⟨KEEPER_LSET_HIGH, .rw, false, 0x0⟩, ⟨KEEPER_LSET_FULL_CNT, .rw, false, 0x0⟩]⟩,
  ⟨0x40080100, 4, 8, 4, 1, false, .lodge, (.sub 11), [⟨KEEPER_CTRL_RESTART, .wo, true, 0x0⟩, ⟨KEEPER_CTRL_KEEP, .rw, true, 0x0⟩, ⟨KEEPER_CTRL_F_WD_ACT, .rw, true, 0x0⟩, ⟨KEEPER_CTRL_F_WD, .rw, true, 0x0⟩, ⟨KEEPER_CTRL_L_BUDGET, .rw, true, 0x0⟩]⟩,
  ⟨0x40080120, 4, 8, 4, 1, false, .lodge, .none, [⟨KEEPER_STAT_STATE, .ro, false, 0x0⟩, ⟨KEEPER_STAT_WRONG_OWN, .w1c, false, 0x0⟩, ⟨KEEPER_STAT_TRAP_CNT, .rw, false, 0x0⟩, ⟨KEEPER_STAT_F_CARRY, .rw, false, 0x0⟩]⟩,
  ⟨0x40080140, 4, 8, 4, 1, false, .lodge, .none, [⟨KEEPER_TRAP_K_TRAP, .ro, false, 0x0⟩]⟩,
  ⟨0x40080160, 4, 8, 4, 1, false, .lodge, .none, [⟨KEEPER_TPC_K_TPC, .ro, false, 0x0⟩]⟩,
  ⟨0x40080180, 4, 8, 4, 1, false, .lodge, .none, [⟨KEEPER_LUSE_L_MAX, .rw, false, 0x0⟩, ⟨KEEPER_LUSE_L_LAST, .ro, false, 0x0⟩]⟩]

/-- The registers of the block at 0x4009_0000. -/
def regRows4009 : List RegRow := [
  ⟨0x40090000, 1024, 8, 4, 1, false, .lodge, (.sub 12), [⟨CAN_CTRL_ON, .rw, true, 0x0⟩, ⟨CAN_CTRL_MODE, .rw, true, 0x1⟩, ⟨CAN_CTRL_BO_MODE, .rw, true, 0x0⟩, ⟨CAN_CTRL_BO_REQ, .wo, false, 0x0⟩, ⟨CAN_CTRL_ONESHOT, .rw, true, 0x0⟩, ⟨CAN_CTRL_RD_AUTO, .rw, true, 0x0⟩, ⟨CAN_CTRL_FD_EN, .rw, true, 0x0⟩, ⟨CAN_CTRL_XL_EN, .rw, true, 0x0⟩, ⟨CAN_CTRL_RD_TO, .rw, true, 0x0⟩]⟩,
  ⟨0x40090004, 1024, 8, 4, 1, false, .lodge, (.sub 12), [⟨CAN_NBT_BRP, .rw, true, 0x0⟩, ⟨CAN_NBT_TSEG1, .rw, true, 0x0⟩, ⟨CAN_NBT_TSEG2, .rw, true, 0x0⟩, ⟨CAN_NBT_SJW, .rw, true, 0x0⟩]⟩,
  ⟨0x40090008, 1024, 8, 4, 1, false, .lodge, (.sub 12), [⟨CAN_DBT_BRP, .rw, true, 0x0⟩, ⟨CAN_DBT_TSEG1, .rw, true, 0x0⟩, ⟨CAN_DBT_TSEG2, .rw, true, 0x0⟩, ⟨CAN_DBT_SJW, .rw, true, 0x0⟩]⟩,
  ⟨0x4009000C, 1024, 8, 4, 1, false, .lodge, (.sub 12), [⟨CAN_TDC_TDC_EN, .rw, true, 0x0⟩, ⟨CAN_TDC_TDCO, .rw, true, 0x0⟩, ⟨CAN_TDC_TDCV, .ro, false, 0x0⟩]⟩,
  ⟨0x40091810, 1024, 2, 4, 1, false, .lodge, (.sub 12), [⟨CAN_XBT_BRP, .rw, true, 0x0⟩, ⟨CAN_XBT_TSEG1, .rw, true, 0x0⟩, ⟨CAN_XBT_TSEG2, .rw, true, 0x0⟩, ⟨CAN_XBT_SJW, .rw, true, 0x0⟩]⟩,
  ⟨0x40090020, 1024, 8, 4, 1, false, .lodge, .none, [⟨CAN_ERR_STATE, .ro, false, 0x0⟩, ⟨CAN_ERR_LEC, .ro, false, 0x0⟩, ⟨CAN_ERR_TEC, .ro, false, 0x0⟩, ⟨CAN_ERR_REC, .ro, false, 0x0⟩, ⟨CAN_ERR_BO_CNT, .rw, false, 0x0⟩]⟩,
  ⟨0x40090024, 1024, 8, 4, 1, false, .lodge, .none, [⟨CAN_STAT_WARN, .w1c, false, 0x0⟩, ⟨CAN_STAT_PASSIVE, .w1c, false, 0x0⟩, ⟨CAN_STAT_BUSOFF, .w1c, false, 0x0⟩, ⟨CAN_STAT_LATE, .w1c, false, 0x0⟩, ⟨CAN_STAT_COLL, .w1c, false, 0x0⟩, ⟨CAN_STAT_RDOK, .w1c, false, 0x0⟩, ⟨CAN_STAT_RDFAIL, .w1c, false, 0x0⟩, ⟨CAN_STAT_PEXC, .w1c, false, 0x0⟩, ⟨CAN_STAT_RXDROP, .rw, false, 0x0⟩]⟩,
  ⟨0x40090028, 1024, 8, 4, 1, false, .lodge, .none, [⟨CAN_RDET_DONE, .ro, false, 0x0⟩, ⟨CAN_RDET_FOUND, .ro, false, 0x0⟩, ⟨CAN_RDET_CAND, .ro, false, 0x0⟩, ⟨CAN_RDET_MINBIT, .ro, false, 0x0⟩]⟩,
  ⟨0x40090030, 1024, 8, 4, 8, false, .lodge, (.sub 12), [⟨CAN_RCAND_BRP, .rw, true, 0x0⟩, ⟨CAN_RCAND_TSEG1, .rw, true, 0x0⟩, ⟨CAN_RCAND_TSEG2, .rw, true, 0x0⟩, ⟨CAN_RCAND_SJW, .rw, true, 0x0⟩]⟩,
  ⟨0x40090050, 1024, 8, 4, 1, false, .lodge, .none, [⟨CAN_CANCEL_GO, .wo, false, 0x0⟩, ⟨CAN_CANCEL_OBJ, .rw, false, 0x0⟩]⟩,
  ⟨0x40090054, 1024, 8, 4, 1, false, .lodge, .none, [⟨CAN_COLL_IDE, .ro, false, 0x0⟩, ⟨CAN_COLL_ID, .ro, false, 0x0⟩]⟩,
  ⟨0x40090060, 1024, 8, 4, 4, false, .lodge, .none, [⟨CAN_TXREQ_OBJS, .ro, false, 0x0⟩]⟩,
  ⟨0x40090070, 1024, 8, 4, 4, false, .lodge, .none, [⟨CAN_NEWDAT_OBJS, .ro, false, 0x0⟩]⟩,
  ⟨0x40090080, 1024, 8, 4, 1, false, .lodge, (.sub 12), [⟨CAN_J1939_EN, .rw, true, 0x0⟩, ⟨CAN_J1939_AAC, .rw, true, 0x0⟩, ⟨CAN_J1939_STATE, .ro, false, 0x0⟩, ⟨CAN_J1939_PREF, .rw, true, 0xFE⟩, ⟨CAN_J1939_ADDR, .ro, false, 0xFE⟩]⟩,
  ⟨0x40090084, 1024, 8, 4, 1, false, .lodge, (.sub 12), [⟨CAN_J1939_NAME_LO_NAME, .rw, true, 0x0⟩]⟩,
  ⟨0x40090088, 1024, 8, 4, 1, false, .lodge, (.sub 12), [⟨CAN_J1939_NAME_HI_NAME, .rw, true, 0x0⟩]⟩]

/-- The registers of the block at 0x400A_0000. -/
def regRows400A : List RegRow := [
  ⟨0x400A0000, 64, 12, 4, 1, false, .lodge, (.sub 13), [⟨LIN_CFG_ON, .rw, true, 0x0⟩, ⟨LIN_CFG_ROLE, .rw, true, 0x0⟩, ⟨LIN_CFG_PULLUP, .rw, true, 0x0⟩, ⟨LIN_CFG_AUTOBAUD, .rw, true, 0x0⟩, ⟨LIN_CFG_SCHED, .rw, false, 0x0⟩, ⟨LIN_CFG_RATE, .rw, true, 0x4B00⟩]⟩,
  ⟨0x400A0004, 64, 12, 4, 1, false, .lodge, .none, [⟨LIN_STAT_CKSUM, .w1c, false, 0x0⟩, ⟨LIN_STAT_NORESP, .w1c, false, 0x0⟩, ⟨LIN_STAT_FRAMING, .w1c, false, 0x0⟩, ⟨LIN_STAT_SHORT, .w1c, false, 0x0⟩, ⟨LIN_STAT_SLEEPCMD, .w1c, false, 0x0⟩, ⟨LIN_STAT_SLOT, .ro, false, 0x0⟩, ⟨LIN_STAT_ERRCNT, .rw, false, 0x0⟩]⟩]

/-- The registers of the block at 0x400B_0000. -/
def regRows400B : List RegRow := [
  ⟨0x400B0000, 4, 18, 4, 1, false, .harbour, (.sub 14), [⟨NETPM_XCV_REQ, .rw, false, 0x1⟩, ⟨NETPM_XCV_STATE, .ro, false, 0x1⟩, ⟨NETPM_XCV_WAKE_EN, .rw, true, 0x0⟩, ⟨NETPM_XCV_HSEL, .rw, true, 0x4⟩, ⟨NETPM_XCV_AUTO_NORMAL, .rw, true, 0x0⟩, ⟨NETPM_XCV_WKF, .w1c, false, 0x0⟩, ⟨NETPM_XCV_ARMED, .ro, false, 0x0⟩, ⟨NETPM_XCV_SLP_FOLLOW, .rw, true, 0x0⟩, ⟨NETPM_XCV_WKSEND, .wo, false, 0x0⟩, ⟨NETPM_XCV_WUF, .rw, true, 0xA⟩, ⟨NETPM_XCV_WUP_TO, .rw, true, 0x2⟩]⟩,
  ⟨0x400B0080, 4, 6, 4, 1, false, .harbour, (.sub 14), [⟨NETPM_PN_CFG_PN_EN, .rw, true, 0x0⟩, ⟨NETPM_PN_CFG_IDE, .rw, true, 0x0⟩, ⟨NETPM_PN_CFG_FD_PASSIVE, .rw, true, 0x1⟩, ⟨NETPM_PN_CFG_RATE, .rw, true, 0x2⟩, ⟨NETPM_PN_CFG_PN_DLC, .rw, true, 0x0⟩, ⟨NETPM_PN_CFG_FECW, .w1c, false, 0x0⟩, ⟨NETPM_PN_CFG_FEC, .ro, false, 0x0⟩]⟩,
  ⟨0x400B00A0, 4, 6, 4, 1, false, .harbour, (.sub 14), [⟨NETPM_PN_ID_ID, .rw, true, 0x0⟩]⟩,
  ⟨0x400B00C0, 4, 6, 4, 1, false, .harbour, (.sub 14), [⟨NETPM_PN_MASK_ID, .rw, true, 0x0⟩]⟩,
  ⟨0x400B00E0, 4, 6, 4, 1, false, .harbour, (.sub 14), [⟨NETPM_PN_DLO_DMASK, .rw, true, 0x0⟩]⟩,
  ⟨0x400B0100, 4, 6, 4, 1, false, .harbour, (.sub 14), [⟨NETPM_PN_DHI_DMASK, .rw, true, 0x0⟩]⟩,
  ⟨0x400B0200, 4, 1, 4, 1, false, .harbour, (.sub 14), [⟨NETPM_AWAKE_HOLD, .rw, false, 0x0⟩, ⟨NETPM_AWAKE_MAX_AWAKE, .rw, true, 0x0⟩, ⟨NETPM_AWAKE_HOLDOFF, .rw, true, 0x0⟩, ⟨NETPM_AWAKE_NM_TO, .rw, true, 0x5⟩]⟩,
  ⟨0x400B0210, 4, 4, 4, 1, false, .harbour, (.sub 14), [⟨NETPM_LOCAL_LOCAL, .rw, true, 0x0⟩]⟩,
  ⟨0x400B0220, 4, 6, 4, 1, false, .harbour, (.sub 14), [⟨NETPM_KID_KIE, .rw, true, 0x0⟩, ⟨NETPM_KID_ID, .rw, true, 0x0⟩]⟩,
  ⟨0x400B0240, 4, 6, 4, 1, false, .harbour, (.sub 14), [⟨NETPM_KMSK_ID, .rw, true, 0x0⟩]⟩,
  ⟨0x400B0280, 4, 1, 4, 1, false, .harbour, .none, [⟨NETPM_STAT_HOLDING, .ro, false, 0x0⟩, ⟨NETPM_STAT_CULPRIT, .ro, false, 0x0⟩, ⟨NETPM_STAT_TIMER, .ro, false, 0x0⟩, ⟨NETPM_STAT_HOLDOFF_ACT, .ro, false, 0x0⟩, ⟨NETPM_STAT_ENF_CNT, .rw, false, 0x0⟩, ⟨NETPM_STAT_IGN_CNT, .rw, false, 0x0⟩]⟩,
  ⟨0x400B0284, 4, 1, 4, 1, false, .harbour, .none, [⟨NETPM_CULPRIT_CH, .ro, false, 0x0⟩, ⟨NETPM_CULPRIT_ID, .ro, false, 0x0⟩]⟩,
  ⟨0x400B0288, 4, 1, 4, 1, false, .harbour, .none, [⟨NETPM_WAKEID_CH, .ro, false, 0x0⟩, ⟨NETPM_WAKEID_ID, .ro, false, 0x0⟩]⟩,
  ⟨0x400B0290, 4, 1, 4, 1, false, .harbour, .none, [⟨NETPM_HEN_HEN_STATE, .ro, false, 0x0⟩, ⟨NETPM_HEN_HEN_FORCE, .rw, false, 0x0⟩]⟩]

/-- The registers of the block at 0x400C_0000. -/
def regRows400C : List RegRow := [
  ⟨0x400C0000, 4, 1, 4, 1, false, .lodge, (.sub 15), [⟨AQ_CFG_ROOT_EN, .rw, true, 0x0⟩, ⟨AQ_CFG_SEQWIN, .rw, true, 0x100⟩, ⟨AQ_CFG_TUN_TO, .rw, true, 0xA⟩]⟩,
  ⟨0x400C0004, 4, 1, 4, 1, false, .lodge, .none, [⟨AQ_STAT_STATE, .ro, false, 0x0⟩, ⟨AQ_STAT_ROOT, .ro, false, 0x0⟩, ⟨AQ_STAT_HOLDOVER, .ro, false, 0x0⟩, ⟨AQ_STAT_RECOV, .ro, false, 0x0⟩, ⟨AQ_STAT_POUND, .ro, false, 0x0⟩, ⟨AQ_STAT_ADDR, .ro, false, 0x0⟩, ⟨AQ_STAT_NMOD, .ro, false, 0x0⟩]⟩,
  ⟨0x400C0008, 4, 1, 4, 1, false, .lodge, .none, [⟨AQ_SERIAL_LO_SERIAL, .ro, false, 0x0⟩]⟩,
  ⟨0x400C000C, 4, 1, 4, 1, false, .lodge, .none, [⟨AQ_SERIAL_HI_SERIAL, .ro, false, 0x0⟩]⟩,
  ⟨0x400C0010, 4, 1, 4, 1, false, .lodge, .none, [⟨AQ_POS_LO_PATH_LO, .ro, false, 0x0⟩]⟩,
  ⟨0x400C0014, 4, 1, 4, 1, false, .lodge, .none, [⟨AQ_POS_HI_LEN, .ro, false, 0x0⟩, ⟨AQ_POS_HI_PATH_HI, .ro, false, 0x0⟩]⟩,
  ⟨0x400C0018, 4, 1, 4, 1, false, .lodge, .none, [⟨AQ_TOPO_TOPO, .ro, false, 0x0⟩]⟩,
  ⟨0x400C0020, 4, 1, 4, 1, false, .lodge, .none, [⟨AQ_TIME_LO_TIME, .ro, false, 0x0⟩]⟩,
  ⟨0x400C0024, 4, 1, 4, 1, false, .lodge, .none, [⟨AQ_TIME_HI_TIME, .ro, false, 0x0⟩]⟩,
  ⟨0x400C0028, 4, 1, 4, 1, false, .lodge, .none, [⟨AQ_SYNC_OFFSET, .ro, false, 0x0⟩, ⟨AQ_SYNC_DEPTH, .ro, false, 0x0⟩]⟩,
  ⟨0x400C002C, 4, 1, 4, 1, false, .lodge, .none, [⟨AQ_LCNT_RECOMP, .rw, false, 0x0⟩, ⟨AQ_LCNT_DROP_NR, .rw, false, 0x0⟩]⟩,
  ⟨0x400C0100, 32, 4, 4, 1, false, .lodge, (.sub 15), [⟨AQ_PCFG_EN, .rw, true, 0x1⟩, ⟨AQ_PCFG_MS, .rw, true, 0x0⟩]⟩,
  ⟨0x400C0104, 32, 4, 4, 1, false, .lodge, .none, [⟨AQ_PSTAT_LSTATE, .ro, false, 0x0⟩, ⟨AQ_PSTAT_DOWNSEEN, .w1c, false, 0x0⟩, ⟨AQ_PSTAT_VERSEEN, .w1c, false, 0x0⟩, ⟨AQ_PSTAT_NADDR, .ro, false, 0x0⟩, ⟨AQ_PSTAT_NPORT, .ro, false, 0x0⟩, ⟨AQ_PSTAT_DELAY, .ro, false, 0x0⟩]⟩,
  ⟨0x400C0108, 32, 4, 4, 1, false, .lodge, .none, [⟨AQ_PCNT_CRCERR, .rw, false, 0x0⟩, ⟨AQ_PCNT_LREPL, .rw, false, 0x0⟩, ⟨AQ_PCNT_QDROP, .rw, false, 0x0⟩]⟩,
  ⟨0x400C010C, 32, 4, 4, 1, false, .lodge, .none, [⟨AQ_PLOAD_LLOAD, .ro, false, 0x0⟩]⟩,
  ⟨0x400C0404, 4, 250, 4, 1, false, .lodge, .none, [⟨AQ_ROUTE_VALID, .ro, false, 0x0⟩, ⟨AQ_ROUTE_PORT, .ro, false, 0x0⟩, ⟨AQ_ROUTE_HOPS, .ro, false, 0x0⟩]⟩,
  ⟨0x400C0800, 4, 128, 4, 1, false, .lodge, .none, [⟨AQ_RXF_LAST_SEQ, .ro, false, 0x0⟩, ⟨AQ_RXF_GAP, .rw, false, 0x0⟩, ⟨AQ_RXF_STALE, .rw, false, 0x0⟩]⟩]

/-- The registers of the block at 0x400D_0000. -/
def regRows400D : List RegRow := [
  ⟨0x400D1000, 4, 256, 4, 1, false, .lodge, .none, [⟨HOST_EVCFG_EN, .rw, false, 0x0⟩, ⟨HOST_EVCFG_CLASS, .rw, false, 0x0⟩, ⟨HOST_EVCFG_KROUTE, .rw, false, 0x0⟩, ⟨HOST_EVCFG_HOLD, .rw, false, 0x0⟩]⟩,
  ⟨0x400D1400, 4, 256, 4, 1, false, .lodge, .none, [⟨HOST_EVCNT_COUNT, .rw, false, 0x0⟩]⟩,
  ⟨0x400D1800, 4, 16, 4, 1, false, .lodge, .none, [⟨HOST_EVPEND_PEND, .w1c, false, 0x0⟩]⟩,
  ⟨0x400D0000, 4, 1, 4, 1, false, .lodge, .none, [⟨HOST_CFG_TUN_ADDR, .rw, false, 0x0⟩, ⟨HOST_CFG_NOTE_PORT, .rw, false, 0x0⟩, ⟨HOST_CFG_TP_EN, .rw, true, 0x1⟩]⟩,
  ⟨0x400D0004, 4, 1, 4, 1, false, .lodge, .none, [⟨HOST_STAT_LINK, .ro, false, 0x0⟩, ⟨HOST_STAT_LEVEL, .ro, false, 0x0⟩, ⟨HOST_STAT_OUTST, .ro, false, 0x0⟩, ⟨HOST_STAT_NAK_CNT, .rw, false, 0x0⟩, ⟨HOST_STAT_CRC_CNT, .rw, false, 0x0⟩]⟩]

/-- The registers of the block at 0x400E_0000. -/
def regRows400E : List RegRow := [
  ⟨0x400E0000, 4, 3, 4, 1, false, .lodge, .none, [⟨FAULT_STICKY_FLT, .w1c, true, 0x0⟩]⟩,
  ⟨0x400E0010, 4, 1, 4, 1, false, .lodge, .none, [⟨FAULT_STAT_ERRN_LOW, .ro, false, 0x0⟩, ⟨FAULT_STAT_REACTING, .ro, false, 0x0⟩, ⟨FAULT_STAT_MLIMP, .ro, false, 0x0⟩, ⟨FAULT_STAT_CAPTURES, .rw, false, 0x0⟩]⟩,
  ⟨0x400E0014, 4, 1, 4, 1, false, .lodge, .none, [⟨FAULT_CTRL_MLIMP_CLR, .wo, true, 0x0⟩]⟩,
  ⟨0x400E0018, 4, 1, 4, 1, false, .lodge, .none, [⟨FAULT_LAST_FLT, .ro, false, 0x0⟩, ⟨FAULT_LAST_REACT, .ro, false, 0x0⟩, ⟨FAULT_LAST_NCAP, .ro, false, 0x0⟩]⟩,
  ⟨0x400E0100, 4, 96, 4, 1, false, .lodge, .none, [⟨FAULT_CFG_REACT, .wl, false, 0x0⟩, ⟨FAULT_CFG_BANK, .wl, false, 0x0⟩]⟩]

/-- The registers of the block at 0x400F_0000. -/
def regRows400F : List RegRow := [
  ⟨0x400F0000, 4, 1, 4, 1, false, .lodge, .none, [⟨LOG_HEAD_LO_SEQ_LO, .ro, false, 0x0⟩]⟩,
  ⟨0x400F0004, 4, 1, 4, 1, false, .lodge, .none, [⟨LOG_HEAD_HI_SEQ_HI, .ro, false, 0x0⟩]⟩,
  ⟨0x400F0008, 4, 1, 4, 1, false, .lodge, .none, [⟨LOG_FOUND_LO_SEQ_LO, .ro, false, 0x0⟩]⟩,
  ⟨0x400F000C, 4, 1, 4, 1, false, .lodge, .none, [⟨LOG_FOUND_HI_SEQ_HI, .ro, false, 0x0⟩]⟩,
  ⟨0x400F0010, 4, 1, 4, 1, false, .lodge, .none, [⟨LOG_STAT_FOUND_FULL, .ro, false, 0x0⟩, ⟨LOG_STAT_CLEARING, .ro, false, 0x0⟩, ⟨LOG_STAT_QUEUE, .ro, false, 0x0⟩, ⟨LOG_STAT_DROP_CNT, .rw, false, 0x0⟩]⟩]

/-- The registers of the block at 0x4010_0000. -/
def regRows4010 : List RegRow := [
  ⟨0x40100000, 4, 1, 4, 1, false, .lodge, .none, [⟨CHECK_EN_ENABLE, .rw, true, 0x0⟩]⟩,
  ⟨0x40100004, 4, 1, 4, 1, false, .lodge, .none, [⟨CHECK_STAT_BUSY, .ro, false, 0x0⟩, ⟨CHECK_STAT_CUR, .ro, false, 0x0⟩, ⟨CHECK_STAT_QUEUE, .ro, false, 0x0⟩]⟩,
  ⟨0x40100008, 4, 1, 4, 1, false, .lodge, .none, [⟨CHECK_REASON_SUBSYS, .ro, false, 0x0⟩, ⟨CHECK_REASON_CODE, .ro, false, 0x0⟩, ⟨CHECK_REASON_DETAIL, .ro, false, 0x0⟩]⟩,
  ⟨0x40100010, 4, 1, 4, 1, false, .lodge, .none, [⟨CHECK_START_STATE, .ro, false, 0x1⟩, ⟨CHECK_START_KIND, .ro, false, 0x0⟩, ⟨CHECK_START_CSLOT, .ro, false, 0x0⟩, ⟨CHECK_START_FSLOT, .ro, false, 0x0⟩, ⟨CHECK_START_START_FAIL, .ro, false, 0x0⟩, ⟨CHECK_START_CLAIM_MS, .ro, false, 0x0⟩]⟩,
  ⟨0x40100014, 4, 1, 4, 1, false, .lodge, .none, [⟨CHECK_STARTCTL_LIMP_CLR, .wo, true, 0x0⟩]⟩,
  ⟨0x40100018, 4, 1, 4, 1, false, .lodge, .none, [⟨CHECK_CHARTVER_MAJOR, .ro, false, 0x0⟩, ⟨CHECK_CHARTVER_MINOR, .ro, false, 0x0⟩, ⟨CHECK_CHARTVER_PATCH, .ro, false, 0x0⟩]⟩,
  ⟨0x4010001C, 4, 1, 4, 1, false, .lodge, .none, [⟨CHECK_FWVER_MAJOR, .ro, false, 0x0⟩, ⟨CHECK_FWVER_MINOR, .ro, false, 0x0⟩, ⟨CHECK_FWVER_PATCH, .ro, false, 0x0⟩]⟩,
  ⟨0x40100020, 4, 1, 4, 1, false, .lodge, .none, [⟨CHECK_DIGEST_DIGEST, .ro, false, 0x0⟩]⟩,
  ⟨0x40100040, 4, 18, 4, 1, false, .lodge, .none, [⟨CHECK_LAST_RESULT, .ro, false, 0x0⟩, ⟨CHECK_LAST_CODE, .ro, false, 0x0⟩, ⟨CHECK_LAST_DETAIL, .ro, false, 0x0⟩]⟩,
  ⟨0x40101000, 64, 4, 4, 1, false, .lodge, .none, [⟨CU_CFG_GO, .wo, false, 0x0⟩, ⟨CU_CFG_REPEAT, .rw, false, 0x0⟩, ⟨CU_CFG_FLT_EN, .rw, true, 0x0⟩, ⟨CU_CFG_SRC, .rw, false, 0x0⟩, ⟨CU_CFG_POLY, .rw, false, 0x3⟩]⟩,
  ⟨0x40101004, 64, 4, 4, 1, false, .lodge, .none, [⟨CU_FILT_FILT, .rw, false, 0x0⟩]⟩,
  ⟨0x40101008, 64, 4, 4, 1, false, .lodge, .none, [⟨CU_BASE_BASE, .rw, false, 0x0⟩]⟩,
  ⟨0x4010100C, 64, 4, 4, 1, false, .lodge, .none, [⟨CU_LEN_LEN, .rw, false, 0x0⟩]⟩,
  ⟨0x40101010, 64, 4, 4, 1, false, .lodge, .none, [⟨CU_EXP_LO_EXP, .rw, false, 0x0⟩]⟩,
  ⟨0x40101014, 64, 4, 4, 1, false, .lodge, .none, [⟨CU_EXP_HI_EXP, .rw, false, 0x0⟩]⟩,
  ⟨0x40101018, 64, 4, 4, 1, false, .lodge, .none, [⟨CU_RES_LO_RES, .ro, false, 0x0⟩]⟩,
  ⟨0x4010101C, 64, 4, 4, 1, false, .lodge, .none, [⟨CU_RES_HI_RES, .ro, false, 0x0⟩]⟩,
  ⟨0x40101020, 64, 4, 4, 1, false, .lodge, .none, [⟨CU_STAT_BUSY, .ro, false, 0x0⟩, ⟨CU_STAT_DONE, .w1c, false, 0x0⟩, ⟨CU_STAT_MATCH, .ro, false, 0x0⟩, ⟨CU_STAT_MISMATCH, .w1c, false, 0x0⟩, ⟨CU_STAT_RUNS, .rw, false, 0x0⟩]⟩,
  ⟨0x40101100, 4, 1, 4, 1, false, .lodge, .none, [⟨CHECK_ECC_UE_CNT, .rw, false, 0x0⟩, ⟨CHECK_ECC_CE_MRAM, .rw, false, 0x0⟩, ⟨CHECK_ECC_CE_SRAM, .rw, false, 0x0⟩]⟩,
  ⟨0x40101104, 4, 1, 4, 1, false, .lodge, .none, [⟨CHECK_ECCADDR_ADDR, .ro, false, 0x0⟩]⟩]

/-- The registers of the block at 0x4011_0000. -/
def regRows4011 : List RegRow := [
  ⟨0x40110000, 4, 1, 4, 1, false, .lodge, (.sub 17), [⟨GATE_CFG_IGN_IN, .rw, true, 0x0⟩, ⟨GATE_CFG_INT_ANT, .rw, true, 0x0⟩, ⟨GATE_CFG_SLOT_T, .rw, true, 0x4⟩, ⟨GATE_CFG_ACOL_MAX, .rw, true, 0x8⟩, ⟨GATE_CFG_IN_TH, .rw, true, 0x40⟩]⟩,
  ⟨0x40110004, 4, 1, 4, 1, false, .lodge, .none, [⟨GATE_CMD_GO, .wo, false, 0x0⟩, ⟨GATE_CMD_KIND, .rw, false, 0x0⟩, ⟨GATE_CMD_ANT, .rw, false, 0x3F⟩, ⟨GATE_CMD_MASK, .rw, false, 0x0⟩]⟩,
  ⟨0x40110008, 4, 1, 4, 1, false, .lodge, .none, [⟨GATE_STAT_BUSY, .ro, false, 0x0⟩, ⟨GATE_STAT_AUTH, .ro, false, 0x0⟩, ⟨GATE_STAT_GMODE, .ro, false, 0x1⟩, ⟨GATE_STAT_ZONE, .ro, false, 0x0⟩, ⟨GATE_STAT_RESULT, .ro, false, 0x0⟩, ⟨GATE_STAT_FAIL_CNT, .ro, false, 0x0⟩, ⟨GATE_STAT_ENR_CNT, .ro, false, 0x0⟩, ⟨GATE_STAT_KDER_SET, .ro, false, 0x0⟩, ⟨GATE_STAT_SESS, .ro, false, 0x0⟩]⟩,
  ⟨0x4011000C, 4, 1, 4, 1, false, .lodge, .none, [⟨GATE_RES_TOKEN, .ro, false, 0x0⟩, ⟨GATE_RES_REASON, .ro, false, 0x0⟩, ⟨GATE_RES_NBAD, .ro, false, 0x0⟩, ⟨GATE_RES_NCOLL, .ro, false, 0x0⟩]⟩,
  ⟨0x40110010, 4, 1, 4, 1, false, .lodge, .none, [⟨GATE_DELAY_REMAIN, .ro, false, 0x0⟩]⟩,
  ⟨0x40110014, 4, 1, 4, 1, false, .lodge, .none, [⟨GATE_MODE_MODE_REQ, .rw, true, 0x0⟩, ⟨GATE_MODE_REVOKE, .wo, true, 0x0⟩, ⟨GATE_MODE_RIDX, .rw, true, 0x0⟩]⟩,
  ⟨0x40110018, 4, 1, 4, 1, false, .lodge, .none, [⟨GATE_CTR_CTR, .ro, false, 0x0⟩]⟩,
  ⟨0x4011001C, 4, 1, 4, 1, false, .lodge, .none, [⟨GATE_EOL_EOL_DONE, .wl, true, 0x0⟩]⟩,
  ⟨0x40110020, 4, 1, 4, 1, false, .lodge, .none, [⟨GATE_LNONCE_LO_LNONCE, .ro, false, 0x0⟩]⟩,
  ⟨0x40110024, 4, 1, 4, 1, false, .lodge, .none, [⟨GATE_LNONCE_HI_LNONCE, .ro, false, 0x0⟩]⟩,
  ⟨0x40110028, 4, 1, 4, 1, false, .lodge, .none, [⟨GATE_LCODE_LO_LCODE, .wo, true, 0x0⟩]⟩,
  ⟨0x4011002C, 4, 1, 4, 1, false, .lodge, .none, [⟨GATE_LCODE_HI_LCODE, .wo, true, 0x0⟩]⟩,
  ⟨0x40110030, 4, 4, 4, 1, false, .lodge, .none, [⟨GATE_KDER_KDER, .wl, true, 0x0⟩]⟩,
  ⟨0x40110100, 4, 16, 4, 1, false, .lodge, .none, [⟨GATE_TOK_VALID, .ro, false, 0x0⟩, ⟨GATE_TOK_BAD_CNT, .rw, false, 0x0⟩, ⟨GATE_TOK_LAST_RSSI, .ro, false, 0x0⟩]⟩,
  ⟨0x40110140, 4, 16, 4, 1, false, .lodge, .none, [⟨GATE_TOKID_ID, .ro, false, 0x0⟩]⟩,
  ⟨0x40110200, 4, 16, 4, 1, false, .lodge, .none, [⟨GATE_IDPUB_IDPUB, .ro, false, 0x0⟩]⟩]

/-- The registers of the block at 0x4012_0000. -/
def regRows4012 : List RegRow := [
  ⟨0x40120000, 4, 1, 4, 1, false, .lodge, .none, [⟨UPD_STAT_STATE, .ro, false, 0x0⟩, ⟨UPD_STAT_COLD, .ro, false, 0x0⟩, ⟨UPD_STAT_DETAIL, .ro, false, 0x0⟩, ⟨UPD_STAT_REASON, .ro, false, 0x0⟩]⟩,
  ⟨0x40120004, 4, 1, 4, 1, false, .lodge, .none, [⟨UPD_ID_UPDATE_ID, .ro, false, 0x0⟩]⟩,
  ⟨0x40120008, 4, 1, 4, 1, false, .lodge, .none, [⟨UPD_PIECES_TOTAL, .ro, false, 0x0⟩, ⟨UPD_PIECES_HELD, .ro, false, 0x0⟩]⟩,
  ⟨0x4012000C, 4, 1, 4, 1, false, .lodge, .none, [⟨UPD_CTRL_ARM, .wo, true, 0x0⟩, ⟨UPD_CTRL_ABORT, .wo, true, 0x0⟩, ⟨UPD_CTRL_UPD_PEER, .ro, false, 0x0⟩, ⟨UPD_CTRL_QUIET_TO, .rw, true, 0xA⟩]⟩,
  ⟨0x40120010, 4, 1, 4, 1, false, .lodge, .none, [⟨UPD_HO_RB_CNT, .rw, false, 0x0⟩, ⟨UPD_HO_HO_CNT, .rw, false, 0x0⟩, ⟨UPD_HO_PAUSE_US, .ro, false, 0x0⟩]⟩,
  ⟨0x40120014, 4, 1, 4, 1, false, .lodge, .none, [⟨UPD_SWAP_SWAP_LCC, .ro, false, 0x0⟩]⟩,
  ⟨0x40120018, 4, 1, 4, 1, false, .lodge, .none, [⟨UPD_CODE_CODE_BANK, .ro, false, 0x0⟩]⟩,
  ⟨0x40120100, 4, 128, 4, 1, false, .lodge, .none, [⟨UPD_BITMAP_HELD, .ro, false, 0x0⟩]⟩,
  ⟨0x40120400, 64, 4, 4, 16, false, .lodge, .none, [⟨UPD_KEY_KEY, .wl, true, 0x0⟩]⟩]

/-- The registers of the block at 0x4013_0000. -/
def regRows4013 : List RegRow := [
  ⟨0x40130000, 4, 1, 4, 1, false, .lodge, .none, [⟨POWER_STAT_STATE, .ro, false, 0x0⟩, ⟨POWER_STAT_TRANS, .ro, false, 0x0⟩, ⟨POWER_STAT_TARGET, .ro, false, 0x0⟩, ⟨POWER_STAT_PEND, .ro, false, 0x0⟩, ⟨POWER_STAT_PEND_TGT, .ro, false, 0x0⟩, ⟨POWER_STAT_ABORT_CNT, .rw, false, 0x0⟩]⟩,
  ⟨0x40130004, 4, 1, 4, 1, false, .harbour, .none, [⟨POWER_CFG_NEEDS_SESSION, .rw, true, 0x0⟩, ⟨POWER_CFG_AQ_WAKE, .rw, true, 0x0⟩, ⟨POWER_CFG_WAKE_FWD, .rw, true, 0x0⟩, ⟨POWER_CFG_TP_WAKE, .rw, true, 0x0⟩, ⟨POWER_CFG_PN_MOOR, .rw, true, 0x0⟩, ⟨POWER_CFG_PN_BERTH, .rw, true, 0x0⟩, ⟨POWER_CFG_WAKE_TMR, .rw, true, 0x0⟩]⟩,
  ⟨0x40130008, 4, 1, 4, 1, false, .harbour, .none, [⟨POWER_RET_LO_RET_LO, .rw, true, 0x0⟩]⟩,
  ⟨0x4013000C, 4, 1, 4, 1, false, .harbour, .none, [⟨POWER_RET_HI_RET_HI, .rw, true, 0x0⟩]⟩,
  ⟨0x40130010, 4, 1, 4, 1, false, .harbour, .none, [⟨WAKE_SOURCE_KIND, .ro, false, 0x0⟩, ⟨WAKE_SOURCE_MULTI, .ro, false, 0x0⟩, ⟨WAKE_SOURCE_INDEX, .ro, false, 0x0⟩]⟩,
  ⟨0x40130014, 4, 1, 4, 1, false, .harbour, .none, [⟨POWER_CNT_MOOR_CNT, .rw, false, 0x0⟩, ⟨POWER_CNT_BERTH_CNT, .rw, false, 0x0⟩]⟩,
  ⟨0x40130020, 4, 1, 4, 1, false, .lodge, .none, [⟨POWER_DOMOFF_OFF, .rw, true, 0x0⟩]⟩,
  ⟨0x40130024, 4, 1, 4, 1, false, .lodge, .none, [⟨POWER_ISO_LAST_DOM, .ro, false, 0x0⟩, ⟨POWER_ISO_FORCE_CNT, .rw, false, 0x0⟩]⟩]

/-- The registers of the block at 0x4014_0000. -/
def regRows4014 : List RegRow := [
  ⟨0x40140000, 32, 2, 4, 1, false, .lodge, (.sub 16), [⟨T1S_CFG_ON, .rw, true, 0x0⟩, ⟨T1S_CFG_PLCA_EN, .rw, true, 0x1⟩, ⟨T1S_CFG_BURST_CNT, .rw, true, 0x0⟩, ⟨T1S_CFG_NODE_ID, .rw, true, 0x0⟩, ⟨T1S_CFG_NODE_CNT, .rw, true, 0x8⟩, ⟨T1S_CFG_TO_TMR, .rw, true, 0x20⟩]⟩,
  ⟨0x40140004, 32, 2, 4, 1, false, .lodge, .none, [⟨T1S_STAT_PLCA_OK, .ro, false, 0x0⟩, ⟨T1S_STAT_LOST, .w1c, false, 0x0⟩, ⟨T1S_STAT_RXERR, .w1c, false, 0x0⟩, ⟨T1S_STAT_COLL, .rw, false, 0x0⟩]⟩,
  ⟨0x40140100, 32, 4, 4, 1, false, .lodge, (.sub 16), [⟨SENT_CFG_ON, .rw, true, 0x0⟩, ⟨SENT_CFG_CRC_MODE, .rw, true, 0x1⟩, ⟨SENT_CFG_PAUSE, .rw, true, 0x0⟩, ⟨SENT_CFG_SLOW, .rw, true, 0x0⟩, ⟨SENT_CFG_NIBBLES, .rw, true, 0x6⟩, ⟨SENT_CFG_SENT_TO, .rw, true, 0xA⟩, ⟨SENT_CFG_TICK, .rw, true, 0x12C⟩]⟩,
  ⟨0x40140104, 32, 4, 4, 1, false, .lodge, .none, [⟨SENT_FAST_FRESH, .rc, false, 0x0⟩, ⟨SENT_FAST_STATUS, .ro, false, 0x0⟩, ⟨SENT_FAST_DATA, .ro, false, 0x0⟩]⟩,
  ⟨0x40140108, 32, 4, 4, 1, false, .lodge, .none, [⟨SENT_SLOW_FRESH, .rc, false, 0x0⟩, ⟨SENT_SLOW_KIND, .ro, false, 0x0⟩, ⟨SENT_SLOW_ID, .ro, false, 0x0⟩, ⟨SENT_SLOW_SDATA, .ro, false, 0x0⟩]⟩,
  ⟨0x4014010C, 32, 4, 4, 1, false, .lodge, .none, [⟨SENT_TS_TS, .ro, false, 0x0⟩]⟩,
  ⟨0x40140110, 32, 4, 4, 1, false, .lodge, .none, [⟨SENT_STAT_CRCERR, .w1c, false, 0x0⟩, ⟨SENT_STAT_CALERR, .w1c, false, 0x0⟩, ⟨SENT_STAT_TIMEOUT, .w1c, false, 0x0⟩, ⟨SENT_STAT_ERRCNT, .rw, false, 0x0⟩]⟩,
  ⟨0x40141000, 4, 6, 4, 1, false, .arbour, (.sub 17), [⟨LF_TRIM_FREQ, .rw, true, 0x30D4⟩]⟩,
  ⟨0x40141020, 4, 6, 4, 1, false, .arbour, .none, [⟨LF_STAT_LATCH, .w1c, false, 0x0⟩, ⟨LF_STAT_ON, .ro, false, 0x0⟩, ⟨LF_STAT_IPK, .ro, false, 0x0⟩]⟩]

/-- The register arrays of the block that holds address `a`. -/
def regRowsOf (a : Nat) : List RegRow :=
  match a / 0x10000 with
  | 0x4000 => regRows4000
  | 0x4001 => regRows4001
  | 0x4002 => regRows4002
  | 0x4003 => regRows4003
  | 0x4004 => regRows4004
  | 0x4005 => regRows4005
  | 0x4006 => regRows4006
  | 0x4007 => regRows4007
  | 0x4008 => regRows4008
  | 0x4009 => regRows4009
  | 0x400A => regRows400A
  | 0x400B => regRows400B
  | 0x400C => regRows400C
  | 0x400D => regRows400D
  | 0x400E => regRows400E
  | 0x400F => regRows400F
  | 0x4010 => regRows4010
  | 0x4011 => regRows4011
  | 0x4012 => regRows4012
  | 0x4013 => regRows4013
  | 0x4014 => regRows4014
  | _ => []

/-- The entry of array `r` at normal-view address `a`, if `a` is one of its entries; the index of an
R40 array has bit 5 dropped where bit 6 is set. -/
def RegRow.entry (r : RegRow) (a : Nat) : Option Nat :=
  if a < r.base then none
  else
    let d := a - r.base
    if r.n2 = 1 then
      let i := d / r.s1
      if d % r.s1 = 0 then
        if r.hs then
          if i < 64 then some i else if i < 96 then some i else if i < 128 then some (i - 32) else none
        else if i < r.n1 then some i else none
      else none
    else
      let i := d / r.s1
      let j := (d % r.s1) / r.s2
      if (d % r.s1) % r.s2 = 0 ∧ i < r.n1 ∧ j < r.n2 then some (i * r.n2 + j) else none

/-- The normal-view address of entry `k` of array `r`. -/
def RegRow.addrOf (r : RegRow) (k : Nat) : Nat :=
  if r.n2 = 1 then r.base + r.s1 * k else r.base + r.s1 * (k / r.n2) + r.s2 * (k % r.n2)

/-- The array and the entry that a normal-view address names. -/
def findReg (rs : List RegRow) (a : Nat) : Option (RegRow × Nat) :=
  match rs with
  | [] => none
  | r :: rest =>
    match r.entry a with
    | some i => some (r, i)
    | none => findReg rest a

/-- The array and the entry of a normal-view address (R34, R40). -/
def regAt (a : Nat) : Option (RegRow × Nat) := findReg (regRowsOf a) a

/-- The word with every field at its reset value. -/
def resetWord (fs : List FInfo) : Nat :=
  match fs with
  | [] => 0
  | f :: rest => f.rst * 2 ^ f.fld.lo + resetWord rest

/-- What a register that no step has changed reads as: the Reset column of its table (R9). The
identity matrix of LOOP_MAT, the undervoltage threshold of each class and the fields kept over
every start (log entry 4: zero) do not fit a table cell and stand here. -/
def regReset (a : Nat) : Word :=
  match regAt a with
  | none => 0#32
  | some (r, k) =>
    if r.base = 0x40060600 then
      (if k % 5 = 0 ∨ k % 5 = 2 ∨ k % 5 = 4 then 0x1000#32 else 0#32)
    else if r.base = 0x40021040 then
      BitVec.ofNat 32 (resetWord r.fields + (match k with | 0 => 70 | 1 => 60 | _ => 50) * 256)
    else BitVec.ofNat 32 (resetWord r.fields)

end Sys2Proof.Machine
end

