-- ==== Sys2Proof/Config.lean ====
section
/-! DEFINITION. What one part fixes for its whole life, and the values the manual leaves open.
Every definition here is opaque: no proof can see a value, so a claim about the model holds
whatever the values are. The log entries that mark them are named beside each. -/

namespace Sys2Proof

/-- The three ordering numbers (R1). -/
inductive Variant where
  /-- YCBX96-A. -/
  | a
  /-- YCBX96-H. -/
  | h
  /-- YCBX96-AE, the Gatehouse held off. -/
  | ae
  deriving DecidableEq, Repr, Inhabited

/-- The ordering number of this part (R1, R5); log entry 3. -/
opaque Config.variant : Variant

/-- The module serial number (R435); log entry 3. -/
opaque Config.serial : BitVec 64

/-- The value the manual leaves open at draw `n`; log entry 2. -/
opaque Config.freeValue (w : Nat) (n : Nat) : BitVec w

/-- ECDSA P-256 verification of a signature over a message under a public key; log entry 6. -/
opaque Config.ecdsaVerify (publicKey message signature : List Nat) : Bool

/-- ECDSA P-256 signature by the module identity key; log entry 6. -/
opaque Config.identitySign (message : List Nat) : BitVec 512

/-- The module identity public key X‖Y; log entry 6. -/
opaque Config.identityPublic : BitVec 512

/-- The X coordinate of an ECDH P-256 shared point; log entry 6. -/
opaque Config.ecdhX (privateKey publicKey : Nat) : BitVec 256

/-- The public key X‖Y of a P-256 private key; log entry 6. -/
opaque Config.p256Public (privateKey : Nat) : BitVec 512

/-- HKDF-SHA-256 of an input with a salt and an info string, as a number of that many bytes; log entry 6. -/
opaque Config.hkdf (input salt info : List Nat) (bytes : Nat) : Nat

/-- SHA-256 of a list of numbered parts; log entry 6. -/
opaque Config.sha256 (parts : List Nat) : BitVec 256

/-- AES-128-CMAC under a key of a list of numbered parts; log entry 6. -/
opaque Config.cmac (key : Nat) (parts : List Nat) : BitVec 128

/-- AES-128 encryption of one block; log entry 6. -/
opaque Config.aes (key block : Nat) : BitVec 128

/-- AES-128-GCM tag of a payload under a key, a nonce and additional data; log entry 6. -/
opaque Config.gcmTag (key nonce : Nat) (aad payload : List Nat) : BitVec 128

/-- AES-128-GCM encryption or decryption of a text under a key and a nonce; log entry 6. -/
opaque Config.gcmCrypt (key nonce : Nat) (text : List Nat) : List Nat

/-- The topology digest of a sorted link list, CRC-32C over a layout that the manual does not give (R435);
log entry 30. -/
opaque Config.topoDigest (links : List Nat) : BitVec 32

/-- The Aqueduct protocol major of the firmware the part is delivered with (R399, R478); log entry 31. -/
opaque Config.aqMajor : BitVec 4

/-- The Svetoc signature of a Warden firmware image with this SHA-256, by the key in the boot ROM (R307, R483); log
entry 6. -/
opaque Config.svetocVerify (digest : BitVec 256) : Bool

/-- Pieces of 4096 bytes that the Basin of the fitted flash holds (R303, R478); log entry 41. -/
opaque Config.basinPieces : Nat

/-- The provisioning public key in the boot ROM, 64 bytes (R479); log entry 6. -/
opaque Config.provisioningKey : List Nat

end Sys2Proof
end

