-- ==== Sys2Proof/Machine/State.lean ====
section
/-! DEFINITION. The state of the module as plain data: the queue of waiting commands, the registers,
the memories, and every piece of state the manual gives a unit beside its registers. Each field
names the rule that gives it. -/

namespace Sys2Proof.Machine

/-- A table by number in canonical form: keys strictly rising, no entry equal to the default that
an unlisted key reads as. -/
abbrev Tab (α : Type) := List (Nat × α)

/-- The masters of R46, by code: 0 the Warden, 1 to 8 Keepers K0 to K7, 9 a host on the Towpath,
10 a tunnelled host, 11 a host on the recovery port. -/
abbrev Master := Fin 12

/-- A Logbook record (R446) before its check fields are computed. -/
structure LogRec where
  /-- SEQ, 48 bits; R446 -/
  seq : Nat := 0
  /-- TYPE, 8 bits; R446 -/
  typ : Nat := 0
  /-- MASTER, 8 bits; R446 -/
  master : Nat := 0xFF
  /-- TIME, waterway time in ns, 64 bits; R446 -/
  time : Nat := 0
  /-- SOURCE, 16 bits; R446 -/
  source : Nat := 0
  /-- INDEX, 16 bits; R446 -/
  index : Nat := 0xFFFF
  /-- LCC, 32 bits; R446 -/
  lcc : Nat := 0
  /-- DATA, up to 32 bytes; R446 -/
  data : List Nat := []
  deriving DecidableEq, Repr

/-- What the event block holds of one source between notices (R59, R63). -/
structure EvAux where
  /-- count since the last notice, 16 bits; R59 -/
  count : Nat := 0
  /-- waterway time of the first occurrence since the last notice, 64 bits; R59 -/
  first : Nat := 0
  /-- waterway time of the latest occurrence, 64 bits; R59 -/
  last : Nat := 0
  /-- time before which no notice of the source is sent, in ns; R63 HOLD -/
  holdEnd : Nat := 0
  deriving DecidableEq, Repr

/-- The pending fault notice of one source (R59). -/
structure FaultNote where
  /-- FLT number; R59 -/
  flt : Nat
  /-- reaction; R59 -/
  react : Nat
  /-- waterway time of the first occurrence; R59 -/
  time : Nat
  deriving DecidableEq, Repr

/-- The event block, the fault collector and the Logbook controller: what they hold beside their
registers. -/
structure Report where
  /-- per event source: merged notice state; R59, R63 -/
  ev : Tab EvAux := []
  /-- the event source whose notice was sent last, 8 bits (round robin); R60 -/
  evLast : Nat := 255
  /-- pending FAULT notices, lowest first when sent; R59 -/
  faultNotes : List FaultNote := []
  /-- pending WAKE notice: WAKE_SOURCE and waterway time; R59 -/
  wakeNote : Option (Nat × Nat) := none
  /-- pending CHECK notices by subsystem: (subsystem, result, reason code); R59 -/
  checkNotes : Tab (Nat × Nat) := []
  /-- pending UPDATE notice: identifier, state, reason; R59 -/
  updateNote : Option (Nat × Nat × Nat) := none
  /-- REF counter of notices, 8 bits; R50 -/
  noteRef : Nat := 0
  /-- event word (256 bits) of each Keeper gathering for the next snapshot; R63 -/
  keeperWords : Tab Nat := []
  /-- records waiting for the Logbook, at most 64, oldest first; R448 -/
  queue : List LogRec := []
  /-- records dropped since the last OVERFLOW record; R448 -/
  overflow : Nat := 0
  /-- Logbook slots 0 to 32767 with a valid record; R445 -/
  slots : Tab LogRec := []
  /-- head sequence, 48 bits, in MRAM; R447 -/
  head : Nat := 0
  /-- the ring of 1024 MRAM words that the head sequence is written into; R501 -/
  ring : Tab Nat := []
  /-- sequence of the last CLEAR record, 48 bits; R461 -/
  found : Nat := 0
  /-- records written since the last authorised clear; R445 -/
  written : Nat := 0
  /-- start time of the last record write in ns; R448 -/
  lastWrite : Option Nat := none
  /-- a clear begun and not completed: the old head sequence; R451 -/
  clearMark : Option Nat := none
  /-- the host path and REF that the clear in progress answers; R451 -/
  clearAsk : Option (Nat × Nat) := none
  /-- first occurrences captured and not yet reacted to; R443 -/
  capture : List Nat := []
  /-- end of the reaction window in ns; R444 -/
  windowEnd : Nat := 0
  /-- a reaction 0b11 waits for the end of its window; R444 -/
  resetDue : Bool := false
  /-- per source: when it was last raised with its sticky bit set, in ns plus 1; R437 -/
  reraised : Tab Nat := []
  deriving DecidableEq, Repr

/-- What a die applies: a write of an output command register or a lock-port word that its shadow
holds (R23 to R26). -/
structure LockWrite where
  /-- normal-view address of the command register, or the lock-port target of a Lodge unit -/
  target : Nat
  /-- the word -/
  word : Nat
  /-- code of the master whose write it is; R46, R249 -/
  master : Nat := 1
  deriving DecidableEq, Repr

/-- What one Culvert frame of a command carries (R16); the frames that carry a report, a claim or a
moor order are the commands that deliver them. -/
inductive Payload where
  /-- class 0 heartbeat; R18 -/
  | heartbeat
  /-- class 1 claim of a bank; R30 -/
  | claim (bank : Nat)
  /-- class 1 moor frame; R31 -/
  | moor
  /-- class 1 immediate command; R26 -/
  | immediate (w : LockWrite)
  /-- class 2 lock-set write; R23 -/
  | lockWrite (w : LockWrite)
  /-- class 2 set-complete frame with its count; R24 -/
  | setComplete (count : Nat)
  deriving DecidableEq, Repr

/-- What a die report holds until the Lodge can take it (R119). -/
inductive Held where
  /-- an event occurrence -/
  | event (source index : Nat)
  /-- an event occurrence whose record carries data -/
  | eventData (source index : Nat) (data : List Nat)
  /-- a raise of a fault source -/
  | fault (source : Nat)
  deriving DecidableEq, Repr

/-- One die other than the Lodge: PA, PB, PC, Arbour, Glasshouse, Harbour are 0 to 5. -/
structure Die where
  /-- 1: the die has found the Lodge silent; R18, R29 -/
  silent : Bool := false
  /-- shadow registers written for the next strobe; R24, R25 -/
  shadow : List LockWrite := []
  /-- lock-set writes received for the open set, before same-target replacement; R24 -/
  received : Nat := 0
  /-- the count announced by the set-complete frame; R24 -/
  announced : Option Nat := none
  /-- reports held while the Lodge is silent or the link is down; R119 -/
  held : List Held := []
  /-- number of the draw that gave the measured fields of the last update, plus one; R507 -/
  seen : Nat := 0
  deriving DecidableEq, Repr

/-- One direction of one Culvert (R15 to R17). -/
structure Lane where
  /-- next SEQ the sender gives, 8 bits; R15 -/
  txSeq : Nat := 0
  /-- next SEQ the receiver expects, 8 bits; R15 -/
  rxSeq : Nat := 0
  /-- attempts made with the oldest frame, 0 to 4; R17 -/
  attempts : Nat := 0
  /-- the send queue and retry buffer, in sending order; R16, R17 -/
  queue : List Payload := []
  /-- time of the last valid frame received, in ns; R18 -/
  lastFrame : Nat := 0
  deriving DecidableEq, Repr

/-- One Culvert CV0 to CV5 (R15). -/
structure Culvert where
  /-- Lodge to die -/
  down : Lane := {}
  /-- die to Lodge -/
  up : Lane := {}
  /-- the link was declared down since the open set opened; R24 -/
  downSinceOpen : Bool := false
  /-- writes given to the link for the coming strobe; R24 -/
  count : Nat := 0
  /-- the die has acknowledged the set-complete frame; R24 -/
  acked : Bool := false
  /-- training attempts that failed since the link went down; R17 -/
  trainFails : Nat := 0
  /-- set-complete frames on their way for a strobe that is past; R24 -/
  stale : Nat := 0
  deriving DecidableEq, Repr

/-- The lock port on the Lodge (R22 to R28). -/
structure LockPort where
  /-- lock set for the next strobe that is still open: at most 512 targets; R23, R267 -/
  openSet : List LockWrite := []
  /-- set closed for the coming strobe; R23 -/
  closedSet : List LockWrite := []
  /-- 1: the set for the coming strobe is closed; R23 -/
  closed : Bool := false
  /-- level of the strobe line LSTB; R22 -/
  lstb : Bool := false
  /-- level of the arm line LARM; R22 -/
  larm : Bool := false
  /-- level of the Lodge reset line LRST; R22 -/
  lrst : Bool := false
  /-- time at which LRST was asserted last, in ns; R22 -/
  lrstSince : Nat := 0
  /-- time of the last lock strobe, in ns: the cycle it began runs to the next one; R255 -/
  strobeAt : Option Nat := none
  deriving DecidableEq, Repr

/-- A bank: 0 to 5 P1 to P6, 6 to 9 VB0 to VB3, 10 to 13 BG0 to BG3, 14 TR (R441). -/
structure Bank where
  /-- start of the present limp, in ns; R29 -/
  limpStart : Option Nat := none
  /-- expiry tick of the limp timer, in ns; R116 -/
  limpEnd : Option Nat := none
  /-- 1: held under an accepted moor frame; R31 -/
  moored : Bool := false
  /-- limp of this bank waits to be reported at the claim; R119 -/
  limpReport : Bool := false
  /-- 1: claimed since the die's own reset; R330 -/
  claimed : Bool := false
  /-- safe state of this bank waits to be reported at the claim; R119 -/
  safeReport : Bool := false
  deriving DecidableEq, Repr

/-- One host path (R53 to R56): master codes 9 Towpath, 10 tunnel, 11 recovery. -/
structure HostPath where
  /-- session level 0 none, 1 protected, 2 service; R53 -/
  level : Nat := 0
  /-- 1: opened with the provisioning key; R479 -/
  prov : Bool := false
  /-- last accepted SEQ of the session; R55 -/
  lastSeq : Nat := 0
  /-- SEQ of the next encrypted frame sent; R54 -/
  txSeq : Nat := 1
  /-- time of the last accepted command, in ns; R56 -/
  lastCommand : Nat := 0
  /-- end of the authentication hold, in ns; R56 -/
  holdEnd : Nat := 0
  /-- host-to-module key, 128 bits; R54 -/
  keyIn : Nat := 0
  /-- module-to-host key, 128 bits; R54 -/
  keyOut : Nat := 0
  /-- host-to-module salt, 32 bits; R54 -/
  saltIn : Nat := 0
  /-- module-to-host salt, 32 bits; R54 -/
  saltOut : Nat := 0
  deriving DecidableEq, Repr

/-- A camera rail beside its registers (R84 to R87). -/
structure CamRail where
  /-- time at which a retry falls due, in ns; R86 -/
  retryDue : Option Nat := none
  /-- 1: the thermal veto holds; R85 -/
  veto : Bool := false
  /-- 1: a retry came due and waits for the veto; R86 -/
  retryWaits : Bool := false
  /-- 1: a start came due and waits for the veto; R85 -/
  startWaits : Bool := false
  /-- start of the present ramp, in ns; R84 -/
  rampStart : Nat := 0
  /-- output in mV from which the present ramp started; R84 -/
  rampFrom : Nat := 0
  deriving DecidableEq, Repr

/-- The supply section beside its registers (R69 to R90). -/
structure Supply where
  /-- camera rails CR0 to CR5 -/
  rails : Tab CamRail := []
  /-- begin of PRECHARGE, in ns, while the reservoir runs; R76 -/
  prechargeStart : Option Nat := none
  /-- highest VRES seen since PRECHARGE began, in mV; R76 -/
  vresTop : Nat := 0
  /-- 1: the boost converter drives; R71, R74 -/
  boost : Bool := false
  /-- 1: LV has been below 4.2 V and not yet above 4.6 V for 1 ms; R73 -/
  lvLow : Bool := false
  /-- 1: valve decay stands on the 58 V clamp; R81 -/
  diverted : Bool := false
  /-- 1: the comparison of TS0 with TBASE_MAX is armed; R90 -/
  tbaseArmed : Bool := false
  /-- time of the last power shed, at which a new window began, in ns; R87 -/
  sumFrom : Option Nat := none
  /-- 1: RPG_GATE is driven on; R70; on at reset, DESIGN CHOICE of log entry 68 -/
  gate : Bool := true
  /-- last VBAT seen by the Harbour, in mV; R69; 24 V at reset, DESIGN CHOICE of log entry 68 -/
  vbat : Nat := 24000
  /-- last VRES seen, in mV; R74 -/
  vres : Nat := 0
  /-- 1: backlight BLn is shed at its VRES level at present; R82 -/
  blShed : Tab Bool := []
  deriving DecidableEq, Repr

/-- A high-side channel beside its registers (R97 to R122). -/
structure Chan where
  /-- time at which a protection layer or the supply last took it off, in ns; R27, R115 -/
  hitAt : Option Nat := none
  /-- causes of the last latch: bit 0 OCL, 1 HLIM, 2 THERM, 3 WIRE; R115 -/
  causes : Nat := 0
  /-- 1: an OCL or HLIM latch whose output voltage is still to be sampled; R133 -/
  capture : Bool := false
  /-- time of the last turn-on, in ns; R103, R128 -/
  onAt : Option Nat := none
  /-- time at which the channel last went to OFF, in ns; R132 -/
  offAt : Option Nat := none
  /-- end of the inrush window, in ns; R103 -/
  inrEnd : Option Nat := none
  /-- end of the last inrush window, also after it, in ns; R103 -/
  winEnd : Option Nat := none
  /-- start of the present PWM period, or of the on-state where later, in ns; R99, R103, R128 -/
  pulseAt : Nat := 0
  /-- on-time of the earlier periods of this on-state, in ns; R103, R104 -/
  onSum : Nat := 0
  /-- the part of it after the inrush window, in ns; R103 -/
  winSum : Nat := 0
  /-- start of the next PWM period, in ns; R99, R100 -/
  nextPeriod : Option Nat := none
  /-- PAV_WIRE as a cold start found it, until the Chart loads it again; R112 -/
  frozen : Option Word := none
  /-- time at which a retry falls due, in ns; R107 -/
  retryDue : Option Nat := none
  /-- 1: a retry came due during undervoltage, Over or Moored hold; R110 -/
  retryHeld : Bool := false
  /-- 1: the turn-on that waits in VETOED is a retry; R107 -/
  vetoRetry : Bool := false
  /-- 1: turned off by a moor frame, to return at the next claim; R120 -/
  moorOff : Bool := false
  /-- wire model Θ in 10^-9 A²s; R111 -/
  theta : Nat := 0
  /-- 1: the wire warning has been given and not re-armed; R111 -/
  warned : Bool := false
  /-- soft start: begin of the present ramp, in ns; R113 -/
  softStart : Nat := 0
  /-- soft start: duty at the begin of the present ramp; R113 -/
  softFrom : Nat := 0
  /-- soft start: end of the ramp, in ns; R113 -/
  softEnd : Option Nat := none
  /-- 1: a static channel runs at the class maximum under its safe state; R118 -/
  safePwm : Bool := false
  /-- duty in effect in the present PWM period; R100 -/
  duty : Nat := 0
  /-- stretch debt D in ns; R136 -/
  debt : Nat := 0
  /-- D before the present period repaid of it, in ns; R136 -/
  debtWas : Nat := 0
  /-- on-time of the present PWM period in ns; R99, R136 -/
  pulse : Nat := 0
  /-- turn-ons counted by the die and not yet added; R121 -/
  swDie : Nat := 0
  /-- OCL and HLIM latches counted by the die and not yet added; R121 -/
  scDie : Nat := 0
  /-- SWCNT in MRAM, 40 bits; R121 -/
  swMram : Nat := 0
  /-- SCCNT in MRAM, 32 bits; R121 -/
  scMram : Nat := 0
  /-- 1: EV030 has been raised for the channel; R122 -/
  endured : Bool := false
  deriving DecidableEq, Repr

/-- Undervoltage state of one Pavilion (R113). -/
structure Uv where
  /-- 1: the class stands in undervoltage at this Pavilion; R113 -/
  act : Bool := false
  /-- 1: undervoltage turn-off since UVSEEN was last cleared; R124 -/
  seen : Bool := false
  /-- time at which UVSEEN was last set here, in ns; R45 -/
  seenAt : Option Nat := none
  /-- UVOFF channels still to restart, in channel order; R113 -/
  queue : List Nat := []
  /-- time of the next restart slot, in ns; R113 -/
  slotDue : Nat := 0
  /-- 1: EV023 waits for the end of this restart; R113 -/
  owing : Bool := false
  deriving DecidableEq, Repr

/-- Measurement and harness health of one high-side channel beside its registers (R128 to R143). -/
structure MeasCh where
  /-- HH_EN as the die holds it; R138 -/
  dieEn : Bool := false
  /-- HH_IMIN as the die holds it; R138 -/
  dieImin : Nat := 0
  /-- batches that arrived last: stamp in waterway time, and what they added to the day; R140, R144 -/
  tick : Nat × Int × Nat × Nat := (0, 0, 0, 0)
  /-- waterway time at which learning started; R144 -/
  learnAt : Option Nat := none
  /-- end of the DIAG_PER in which the next burst is owed, in ns; R129 -/
  burstDue : Nat := 0
  /-- end of the last off-state test, in ns; R132 -/
  testEnd : Option Nat := none
  /-- consecutive on-state bursts below OL_TH; R130 -/
  openBursts : Nat := 0
  /-- off-state result being confirmed, as a CODE; R131 -/
  offKind : Nat := 0
  /-- consecutive off-state tests with that result; R131 -/
  offCount : Nat := 0
  /-- consecutive good observations of the kind that set CODE; R134 -/
  good : Nat := 0
  /-- what set CODE: 0 on-state burst, 1 off-state test, 2 latch; R134 -/
  codeBy : Nat := 0
  /-- periods until the next stretch; R135 -/
  stretchLeft : Nat := 0
  /-- ΣV·I of the die, in LSB products; R138 -/
  sumVI : Nat := 0
  /-- ΣI² of the die; R138 -/
  sumII : Nat := 0
  /-- sample count of the die; R138 -/
  count : Nat := 0
  /-- batches sent and not yet arrived, oldest first: (ΣV·I, ΣI², n); R138 -/
  sent : List (Nat × Nat × Nat) := []
  /-- ΣR_ref·ΣI² of the trend day, in 10^-9 Ω units; R139 -/
  wsum : Int := 0
  /-- ΣΣI² of the trend day; R139 -/
  weight : Nat := 0
  /-- batches with n > 0 of the trend day; R140 -/
  batches : Nat := 0
  /-- the three accumulators as last flushed to MRAM; R143 -/
  flushed : Int × Nat × Nat := (0, 0, 0)
  /-- sum of the day means learned so far, 0.1 mΩ; R141 -/
  learnSum : Nat := 0
  /-- day means learned so far; R141 -/
  learnDays : Nat := 0
  /-- EV037 has been raised and OVER_DAYS has not returned to 0; R142 -/
  driftTold : Bool := false
  deriving DecidableEq, Repr

/-- The measurement arbiter of one Pavilion (R127). -/
structure Arbiter where
  /-- foreground grants of the last 4096 slots, newest first: (number of the last slot, slots); R127, R147 -/
  fg : List (Nat × Nat) := []
  /-- numbers of the background slots of the last 4096, newest first; R127, R147 -/
  bg : List Nat := []
  deriving DecidableEq, Repr

/-- Measurement of the module (R125 to R145). -/
structure Meas where
  /-- the arbiters of P1 to P6; R127 -/
  arbs : Tab Arbiter := []
  /-- the 96 channels; R128 -/
  chans : Tab MeasCh := []
  /-- waterway time at which the present trend day opened, 64 bits; R140 -/
  dayOpen : Nat := 0
  deriving DecidableEq, Repr

/-- Why a valve decays, and so where it goes at its safe point (R162). -/
inductive DecayCause where
  | off | latched | supply
  deriving DecidableEq, Repr

/-- A valve beside its registers (R153 to R173). -/
structure Valve where
  /-- time at which a protection layer or the supply last took it off, in ns; R27, R174 -/
  hitAt : Option Nat := none
  /-- time of the peak request that waits, in ns; R159 -/
  request : Option Nat := none
  /-- 1: the request has not yet met a slot of its bank; R159 -/
  fresh : Bool := false
  /-- 1: the request is bounded by DEFER_T; R160, R161 -/
  bounded : Bool := true
  /-- why the valve decays; R162 -/
  cause : DecayCause := .off
  /-- start of the decay, in ns; R162 -/
  decayStart : Nat := 0
  /-- 1: the decay runs into VRES and its energy counts; R162, R164 -/
  decayFast : Bool := false
  /-- time of the grant, in ns; R155, R165 -/
  grant : Nat := 0
  /-- end of the peak, in ns; R155 -/
  peakEnd : Nat := 0
  /-- time the low-side driver turned on, in ns; R168 -/
  onTime : Nat := 0
  /-- 1: the 2 ms check of this turn-on is done; R168 -/
  checked : Bool := false
  /-- 1: the kink window of this grant has not yet reported; R165 -/
  watching : Bool := false
  /-- the last samples of the window, newest first, at most four; R166 -/
  samples : List Nat := []
  /-- top of the detector; R166 -/
  top : Nat := 0
  /-- low of the detector; R166 -/
  low : Nat := 0
  /-- dipped of the detector; R166 -/
  dipped : Bool := false
  /-- t_low, or the first of the consecutive samples, in ns; R166 -/
  tLow : Nat := 0
  /-- consecutive low samples, KSRC = 1; R166 -/
  runLow : Nat := 0
  /-- DITH_F in effect, in 10 Hz; R156 -/
  dithF : Nat := 0
  /-- DITH_A in effect, in 0.5 %; R156 -/
  dithA : Nat := 0
  /-- start of the next dither period while the valve is in PROP, in ns; R156 -/
  dithNext : Option Nat := none
  /-- consecutive open-load observations; R168 -/
  olCount : Nat := 0
  /-- consecutive off-state results of one kind; R171 -/
  offCount : Nat := 0
  /-- the off-state result that is being confirmed, as a CODE; R171 -/
  offKind : Nat := 0
  /-- consecutive good observations of the kind that set CODE; R172 -/
  goodCount : Nat := 0
  /-- what set CODE: 0 on-state observation, 1 off-state test, 2 latch; R172 -/
  codeBy : Nat := 0
  deriving DecidableEq, Repr

/-- Where a brake leads (R185, R189, R193). -/
inductive BrakeTo where
  | off | stalled
  /-- the first brake of a trap: then REVERSING -/
  | reverse
  /-- the second brake of a trap: then TRAPPED -/
  | trapped
  deriving DecidableEq, Repr

/-- A motor beside its registers (R182 to R195). -/
structure Motor where
  /-- time at which a protection layer or the supply last took it off, in ns; R27, R196 -/
  hitAt : Option Nat := none
  /-- direction of the last run: 1 reverse; R190 -/
  rev : Bool := false
  /-- end of BRK_T, in ns; R186 -/
  brakeEnd : Nat := 0
  /-- where the brake leads; R185 -/
  brakeTo : BrakeTo := .off
  /-- direction of the pending turn-on; R186 -/
  pendRev : Bool := false
  /-- time of the last turn-on, in ns; R184, R196 -/
  onAt : Option Nat := none
  /-- time at which its park input last stopped it, in ns; R194, R196 -/
  parkAt : Option Nat := none
  /-- DUTY of the run, kept through PARKING and REVERSING; R183, R193, R194 -/
  duty : Nat := 0
  /-- time of the last change of DUTY in this run, in ns; R183 -/
  dutyAt : Option Nat := none
  /-- duty in effect at that change, which the period that it fell into keeps; R183 -/
  dutyWas : Nat := 0
  /-- start of the ramp, or of the last change of DUTY, in ns; R183 -/
  rampStart : Nat := 0
  /-- duty from which the ramp or the change started; R183 -/
  rampFrom : Nat := 0
  /-- end of the ramp, in ns; R183 -/
  rampEnd : Nat := 0
  /-- end of the start blank, in ns; R184 -/
  blankEnd : Nat := 0
  /-- 1: the start blank of this run has ended and been judged; R188 -/
  blankDone : Bool := false
  /-- sum of the ripple periods of the anti-trap reference, in ns; R193 -/
  refSum : Nat := 0
  /-- ripple periods in the reference, 0 to 16; R193 -/
  refCount : Nat := 0
  /-- the last ripple periods, newest first, at most four, in ns; R190 -/
  periods : List Nat := []
  /-- time of the last ripple, in ns; R189 -/
  lastRipple : Nat := 0
  /-- ripples left of a reversal; R193 -/
  revLeft : Nat := 0
  /-- end of PARK_TO, in ns; R194 -/
  parkEnd : Option Nat := none
  /-- consecutive runs with an open-load observation; R188 -/
  olCount : Nat := 0
  /-- what SUPPLY cut off: 0 a run, 1 a brake, 2 parking, 3 a reversal or trap brake; R195 -/
  cut : Nat := 0
  /-- POS saved over a low-power state, 16 bits; R198 -/
  savedPos : Nat := 0
  /-- NORM_OK saved over a low-power state; R198 -/
  savedNorm : Bool := false
  /-- 1: saved, and not yet written back; R198 -/
  saved : Bool := false
  deriving DecidableEq, Repr

/-- What the Arbour holds for all motors (R194, R195). -/
structure Bridges where
  /-- motors that wait for their restart slot, in motor order; R195 -/
  queue : List Nat := []
  /-- time of the next restart slot, in ns; R195 -/
  slotDue : Nat := 0
  /-- debounced level of BPARK0; R194 -/
  park0 : Bool := false
  /-- debounced level of BPARK1; R194 -/
  park1 : Bool := false
  deriving DecidableEq, Repr

/-- A light element beside its registers: sinks LC00 to LC47 are 0 to 47, backlights BL0 to BL3 are
48 to 51 (R204 to R217). -/
structure Elem where
  /-- time at which a protection layer or the supply last took it off, in ns; R27, R232 -/
  hitAt : Option Nat := none
  /-- applied level in 1/65536 units of LVL, ramping during a fade; R207 -/
  level : Nat := 0
  /-- A of the fade-out in progress; R207 -/
  top : Nat := 0
  /-- level in effect in the present PWM period, 16 bits; R205 -/
  active : Nat := 0
  /-- time of the last turn-on, in ns; R216 -/
  onTime : Nat := 0
  /-- 1: the present FADE_IN is the 1 ms soft start of a shed return; R217 -/
  soft : Bool := false
  /-- on-time carried into the next period, in ns; R205, R214 -/
  carry : Nat := 0
  /-- stretch debt, in ns; R211 -/
  debt : Nat := 0
  /-- periods since the last turn-on; R211 -/
  periods : Nat := 0
  /-- on-time of the present period, in ns; R205 -/
  pulse : Nat := 0
  /-- 1: the present period is stretched; R211 -/
  stretched : Bool := false
  /-- the diagnosis result that is being confirmed: 0 none, 1 open, 2 short; R209 -/
  obsKind : Nat := 0
  /-- consecutive observations of it; R209 -/
  obsCount : Nat := 0
  /-- 1: the present run of them has been confirmed; R209 -/
  obsDone : Bool := false
  /-- consecutive good observations; R209 -/
  goodCount : Nat := 0
  /-- the applied level that the safe state set, until a command is applied; R233 -/
  safeA : Option Nat := none
  deriving DecidableEq, Repr

/-- A source of the luminance loops: PD0 to PD3 are 0 to 3, SNS0 to SNS3 are 4 to 7 (R219, R220). -/
structure Source where
  /-- counts of the reading complete for the coming tick; R219 -/
  reading : Option (Nat × Nat × Nat) := none
  /-- tag of the last reading, 8 bits; R219 -/
  tag : Nat := 0
  /-- consecutive bad ticks; R220 -/
  bad : Nat := 0
  /-- consecutive good ticks; R220 -/
  good : Nat := 0
  /-- 1: the source is in fault; R220 -/
  fault : Bool := false
  deriving DecidableEq, Repr

/-- The Trellis beside its registers (R224 to R233). -/
structure Trellis where
  /-- time at which a protection layer or the supply last took it off, in ns; R27, R232 -/
  hitAt : Option Nat := none
  /-- frame number since RUN, 32 bits; R229 -/
  frame : Nat := 0
  /-- line of the next visit; R225 -/
  line : Nat := 0
  /-- sub-scan of the next visit; R224 -/
  sub : Nat := 0
  /-- VTRSUP at the frame start, in mV; R228 -/
  vtrsup : Nat := 0
  /-- time at which SHOW was last applied, in ns; R226 -/
  showTime : Nat := 0
  /-- bit j: LED j was observed in this frame; R228 -/
  seen : Nat := 0
  /-- consecutive frames with an open result, by LED; R228 -/
  opens : Tab Nat := []
  /-- consecutive frames with a short result, by LED; R228 -/
  shorts : Tab Nat := []
  /-- bit j: the present run of open results of LED j has been confirmed; R228 -/
  opensDone : Nat := 0
  /-- bit j: the present run of short results of LED j has been confirmed; R228 -/
  shortsDone : Nat := 0
  /-- stretch debt in 25 ns units, by LED; R229 -/
  debts : Tab Nat := []
  /-- consecutive frames below 1.0 V of the present scan, by column; R230 -/
  lows : Tab Nat := []
  /-- the foldback factor f in 1/400 units; R212 -/
  fold : Nat := 400
  /-- bit n: thermal veto of line switch n; R231 -/
  veto : Nat := 0
  /-- safe level in place of the buffer after a safe state; R233 -/
  safeLevel : Option Nat := none
  /-- gains saved in MRAM over a low-power state, by 3 * loop + member; R223 -/
  savedGains : Tab Nat := []
  /-- time of the last LOOP_TICK; R222, R232 -/
  loopAt : Option Nat := none
  /-- the words of LOOP_STAT that it found, in order; R222, R232 -/
  loopWords : List Word := []
  deriving DecidableEq, Repr

/-- An input SI000 to SI095, FI00 to FI31 beside its registers (R241 to R243). -/
structure Input where
  /-- end tick of the open debounce window, in ns; R241 -/
  winEnd : Option Nat := none
  /-- new level of the open window; R241 -/
  level : Bool := false
  /-- times of the debounced changes of the last second, newest first, in ns; R242 -/
  changes : List Nat := []
  /-- time left of a debounce window that the stopped run clock holds, in ns; R243 -/
  winLeft : Option Nat := none
  /-- time of the last debounced change, in ns; R239 -/
  changedAt : Option Nat := none
  /-- debounced changes that wait for delivery to the Lodge, oldest first; R242 -/
  waiting : List Bool := []
  /-- level last delivered to the Lodge input image; R242, R243 -/
  ref : Bool := false
  /-- consecutive counting polls; R243 -/
  polls : Nat := 0
  /-- time of the last poll in the present low-power state, in ns; R243 -/
  polledAt : Option Nat := none
  deriving DecidableEq, Repr

/-- Why a field output demagnetises (R245 to R247). -/
inductive DemagCause where
  | off | therm | supply
  deriving DecidableEq, Repr

/-- A field output FO00 to FO15 beside its registers (R245 to R251). -/
structure FieldOut where
  /-- time at which a protection layer or the supply last took it off, in ns; R27, R252 -/
  hitAt : Option Nat := none
  /-- why it demagnetises; R245 -/
  cause : DemagCause := .off
  /-- end tick of the owner window, in ns; R250 -/
  ownEnd : Option Nat := none
  /-- expiry tick of owner limp, in ns; R250 -/
  limpEnd : Option Nat := none
  /-- owner-limp time left while the timer is stopped, in ns; R251 -/
  limpLeft : Option Nat := none
  /-- 1: open load stands; R248 -/
  openNow : Bool := false
  /-- 1: short to battery stands; R248 -/
  shortNow : Bool := false
  /-- 1: turned off by a moor frame; R251 -/
  moorOff : Bool := false
  deriving DecidableEq, Repr

/-- What the Arbour holds for all field outputs (R251). -/
structure FieldBank where
  /-- outputs that wait for their restart slot after Over; R251 -/
  queue : List Nat := []
  /-- time of the next restart slot, in ns; R251 -/
  slotDue : Nat := 0
  deriving DecidableEq, Repr

/-- One entry of the collision table of a controller (R364). -/
structure CollEntry where
  /-- 1: 29-bit identifier; R364 -/
  ide : Bool
  /-- identifier; R364 -/
  id : Nat
  /-- counts inside the window; R364 -/
  count : Nat
  /-- time of the first count, in ns; R364 -/
  start : Nat
  deriving DecidableEq, Repr

/-- A CAN controller beside its registers and message memory (R354 to R366). -/
structure CanCtl where
  /-- the frozen object and the copy of its frame; R360 -/
  frozen : Option (Nat × CanFrame) := none
  /-- waterway time at the SOF bit of the frozen frame, in ns; R359 -/
  sof : Nat := 0
  /-- a cancel of the frozen object is pending or came too late; R362 -/
  cancel : Bool := false
  /-- staged lock-port words held while the object is frozen: (lock-port word, value); R361 -/
  held : List (Nat × Word) := []
  /-- the collision table, at most four entries; R364 -/
  coll : List CollEntry := []
  /-- 1: bus-off recovery runs; R363 -/
  recovering : Bool := false
  /-- entry to rate detection, in ns; R365 -/
  rdStart : Nat := 0
  /-- candidates rejected since the last measurement; R365 -/
  rdTried : List Nat := []
  /-- candidate listened at; R365 -/
  rdCand : Option Nat := none
  /-- error-free frames in a row at that candidate; R365 -/
  rdGood : Nat := 0
  /-- number of the draw that gave TDCV, plus one; R355 -/
  tdc : Nat := 0
  /-- objects that stored a frame since the previous snapshot; R361 -/
  fresh : List Nat := []
  /-- address being claimed; R366 -/
  jAddr : Nat := 0xFE
  /-- end of the contention window, in ns; R366 -/
  jEnd : Nat := 0
  /-- addresses seen claimed by others; R366 -/
  jTaken : List Nat := []
  deriving DecidableEq, Repr

/-- A frame of a LIN channel (R316, R368 to R370). -/
structure LinFrame where
  /-- DIR: 0 unused, 1 published, 2 subscribed; R316 -/
  dir : Nat := 0
  /-- enhanced checksum; R316 -/
  enhanced : Bool := false
  /-- data length 1 to 8; R316 -/
  len : Nat := 0
  /-- data bytes 0 to 7, little-endian, 64 bits; R370 -/
  data : Nat := 0
  /-- 1: received since the previous snapshot; R370 -/
  fresh : Bool := false
  /-- 1: the last frame had an error; R370 -/
  err : Bool := false
  deriving DecidableEq, Repr

/-- A slot of a LIN schedule table (R316). -/
structure LinSlot where
  /-- identifier; R316 -/
  id : Nat
  /-- KIND: 0 frame, 1 go-to-sleep, 2 empty; R316 -/
  kind : Nat
  /-- slot length in 0.1 ms; R316 -/
  time : Nat
  deriving DecidableEq, Repr

/-- A LIN channel beside its registers (R368 to R371). -/
structure LinCtl where
  /-- the table in use; R369 -/
  table : Nat := 0
  /-- a switch to the table of SCHED waits for the end of the slot; R369 -/
  switching : Bool := false
  /-- the next slot of the table; R369 -/
  next : Nat := 0
  /-- end of the present slot, in ns; R369 -/
  slotEnd : Nat := 0
  /-- time of the last bus activity, in ns; R387 -/
  lastActive : Nat := 0
  /-- start of the frame whose header the channel has sent or taken, until the frame ends, in ns; R326, R368 -/
  header : Option Nat := none
  deriving DecidableEq, Repr

/-- A SENT input beside its registers (R373, R374). -/
structure SentIn where
  /-- time of the last valid frame, in ns; R374 -/
  lastValid : Nat := 0
  /-- 1: the timeout since that frame has been reported; R374 -/
  timedOut : Bool := false
  /-- width of the last calibration pulse, in 0.01 µs, 0 before the first; R373 -/
  lastCal : Nat := 0
  deriving DecidableEq, Repr

/-- The vehicle buses beside their registers. -/
structure Buses where
  /-- the eight CAN controllers; R354 -/
  can : Tab CanCtl := []
  /-- LIN frames by 64 * channel + identifier; R316 -/
  linFrames : Tab LinFrame := []
  /-- LIN schedule tables by 4 * channel + table; R316 -/
  linSched : Tab (List LinSlot) := []
  /-- the twelve LIN channels; R368 -/
  lin : Tab LinCtl := []
  /-- 10BASE-T1S unicast filter addresses by port, 48 bits; R320 -/
  t1sUni : Tab Nat := []
  /-- 10BASE-T1S multicast filter addresses by 8 * port + entry, 48 bits; R320 -/
  t1sMulti : Tab Nat := []
  /-- received 10BASE-T1S frames on their way to the Warden, oldest first: (port, bytes); R372 -/
  t1sRx : List (Nat × List Nat) := []
  /-- time of the next beacon by 10BASE-T1S port, in ns; R372 -/
  t1sBeacon : Tab Nat := []
  /-- the four SENT inputs; R373 -/
  sent : Tab SentIn := []
  /-- time at which CAN, LIN or MISC was last disabled, in ns plus one, by subsystem; R326 -/
  offAt : Tab Nat := []
  deriving DecidableEq, Repr

/-- Starting, checks and the Chart in use (R302 to R336). -/
structure Start where
  /-- time at which the Lodge left reset, or of the wake, in ns; R330, R331 -/
  trigger : Nat := 0
  /-- the Lodge is off or held in reset; R73, R345 -/
  lodgeDown : Bool := false
  /-- 1: the Reservoir precharge step of the start has ended, or is skipped; R75 -/
  resDone : Bool := false
  /-- the next start may be warm: the power dies rode through, or the module wakes from Moored; R329 -/
  warmNext : Bool := false
  /-- MRAM holds a valid warm record; R329 -/
  warmValid : Bool := false
  /-- warm record: ENABLE bits before the reset; R331 -/
  warmEnable : Nat := 0
  /-- warm record: Chart digest, 256 bits; R331 -/
  warmDigest : Nat := 0
  /-- warm record: topology digest; R331 -/
  warmTopo : Word := 0#32
  /-- failures recorded by the Harbour and not yet added to START_FAIL; R334 -/
  failures : Nat := 0
  /-- step of cold discovery, 0 before it; R412 -/
  disc : Nat := 0
  /-- time at which start step 7 began, in ns; R412 -/
  discAt : Nat := 0
  /-- auto-enable entries still to write: (subsystem, ESSENTIAL); R332 -/
  auto : List (Nat × Bool) := []
  /-- ESSENTIAL subsystems of the present start; R332 -/
  essential : List Nat := []
  /-- banks that accepted the claim of this start, by bit; R333 -/
  claims : Nat := 0
  /-- requested checks waiting, in order of request; R324 -/
  checkQueue : List Nat := []
  /-- ENABLE commands that wait for their answer: (subsystem, path, REF); R324 -/
  askers : List (Nat × Nat × Nat) := []
  /-- sections of the Chart in use: (TYPE, offset from the flash start, length); R306 -/
  sections : List (Nat × Nat × Nat) := []
  /-- pin claims the dies last received, by pin: (USE, SUBSYS); R313, R503 -/
  pins : Tab (Nat × Nat) := []
  /-- Chart digest of R307, 256 bits -/
  digest : Nat := 0
  /-- active Chart slot, 1 for B, as the boot record names it; R304 -/
  chartSlot : Bool := false
  /-- active firmware slot, 1 for B, as the boot record names it; R304 -/
  fwSlot : Bool := false
  /-- firmware slot, 1 for B, whose image the code SRAM holds; R331, R486 -/
  codeSlot : Bool := false
  /-- Aqueduct protocol major, plus one, of the firmware that an update put into slot A (0) or B (1); R478 -/
  fwMajor : Tab Nat := []
  /-- digest of the firmware image that the code SRAM holds, 256 bits; R331 -/
  fwDigest : Nat := 0
  /-- directory CRC fields queued for rewriting: section TYPEs; R455 -/
  rewrites : List Nat := []
  deriving DecidableEq, Repr

/-- A check unit beside its registers (R456). -/
structure Cu where
  /-- CRC register of the run; R457 -/
  crc : Nat := 0
  /-- bytes taken; R456 -/
  taken : Nat := 0
  deriving DecidableEq, Repr

/-- The background scrubber (R453). -/
structure Scrubber where
  /-- next SRAM word -/
  sram : Nat := 0
  /-- next MRAM word -/
  mram : Nat := 0
  deriving DecidableEq, Repr

/-- A power domain going down (R349). -/
structure Domain where
  /-- new transfers are barred; R349 -/
  barred : Bool := false
  /-- isolation request, in ns; R349 -/
  start : Nat := 0
  /-- transfers in flight; R349 -/
  inFlight : Nat := 0
  /-- the domain is isolated; R349 -/
  isolated : Bool := false
  /-- end of the power-up that follows a write of 0, in ns; R350 -/
  upAt : Option Nat := none
  deriving DecidableEq, Repr

/-- The power states beside their registers (R338 to R351). -/
structure Power where
  /-- entry in progress: 0 before step 4 of R345, 1 handshake done, 2 committed; R344, R345 -/
  stage : Nat := 0
  /-- start of the transition, in ns; R345 -/
  began : Nat := 0
  /-- time of the commit point, in ns; R392 -/
  commitAt : Nat := 0
  /-- wake latched after the commit point: (KIND, INDEX); R344 -/
  latched : Option (Nat × Nat) := none
  /-- time at which that wake was latched, in ns; R347 -/
  latchedAt : Nat := 0
  /-- several sources were latched in that instant; R347 -/
  latchedMulti : Bool := false
  /-- time of the last wake, in ns; R347 -/
  wokeAt : Option Nat := none
  /-- low-power state that it left; R347 -/
  wokeFrom : Nat := 0
  /-- POWER commands of one cycle that wait for one of a lower master code: (master code, target, scope); R351 -/
  sameCycle : List (Nat × Nat × Nat) := []
  /-- time of the last entry to Run, in ns; R239 -/
  runSince : Nat := 0
  /-- time at which the low-power state was entered, in ns; R347 -/
  entered : Nat := 0
  /-- events reported at the next start: (source, index); R345, R390, R392 -/
  late : List (Nat × Nat) := []
  /-- the domains by code; R349 -/
  domains : Tab Domain := []
  /-- forwarded requests that wait for their apply time: (waterway time, state code); R343 -/
  apply : List (Nat × Nat) := []
  /-- modules that have not acknowledged a request sent: (address, request number, end of its 5 ms); R343 -/
  ackWait : List (Nat × Nat × Nat) := []
  deriving DecidableEq, Repr

/-- Network sleep beside its registers (R382 to R392). -/
structure Net where
  /-- last keep-awake frame by CAN channel: (time in ns plus one, identifier); R388 -/
  keep : Tab (Nat × Nat) := []
  /-- start of the maximum-awake timer, in ns; R389 -/
  awakeStart : Option Nat := none
  /-- a local reason held when last evaluated; R388, R394 -/
  localHeld : Bool := false
  /-- the entry in progress was requested by the maximum-awake enforcement; R390 -/
  enforced : Bool := false
  /-- the pending request is one of the maximum-awake enforcement; R390, R393 -/
  enfPend : Bool := false
  /-- time at which a wake ended the hold-off, in ns; R393 -/
  holdOver : Option Nat := none
  /-- end of the culprit hold-off, in ns; R390 -/
  holdEnd : Option Nat := none
  /-- controller whose first frame after the claim gives NETPM_WAKEID; R386 -/
  idDue : Option Nat := none
  /-- transceivers that have detected a wake since they last reached Sleep, one bit each; R381 -/
  woken : Nat := 0
  deriving DecidableEq, Repr

/-- A path entry of the fabric plan (R317). -/
structure PathEntry where
  /-- hops from the root; R317 -/
  len : Nat
  /-- module address; R317 -/
  addr : Nat
  /-- pound; R317 -/
  pound : Nat
  /-- egress ports, two bits per hop; R317 -/
  path : Nat
  deriving DecidableEq, Repr

/-- A flow entry of the fabric plan (R317). -/
structure PlanFlow where
  /-- source module address; R317 -/
  src : Nat
  /-- flow identifier; R317 -/
  flow : Nat
  /-- 0 class L, 1 class F; R317 -/
  cls : Nat
  /-- destination kind; R317 -/
  dkind : Nat
  /-- destination; R317 -/
  dst : Nat
  /-- owning Keeper; R317 -/
  owner : Nat
  /-- variables; R317 -/
  nv : Nat
  deriving DecidableEq, Repr

/-- The fabric plan of the Chart (R317). -/
structure FabricPlan where
  /-- waterway lock cycle in 10 µs; R317 -/
  wlock : Nat := 0
  /-- path table; R317 -/
  paths : List PathEntry := []
  /-- flow table; R317 -/
  flows : List PlanFlow := []
  /-- variable table: (flow entry, position); R317 -/
  vars : List (Nat × Nat) := []
  /-- plan digest, 64 bits; R317 -/
  digest : Nat := 0
  deriving DecidableEq, Repr

/-- A barge (R399). -/
structure Barge where
  /-- protocol major, 4 bits; R399 -/
  ver : Nat := 1
  /-- class: 0 L, 1 F, 2 T; R399 -/
  cls : Nat
  /-- destination kind: 0 module, 1 pound, 2 all; R399 -/
  dkind : Nat
  /-- TYPE; R399 -/
  typ : Nat
  /-- DST; R399 -/
  dst : Nat
  /-- SRC; R399 -/
  src : Nat
  /-- FLOW; R399 -/
  flow : Nat
  /-- HOPS; R399 -/
  hops : Nat := 31
  /-- SEQ, 16 bits; R399 -/
  seq : Nat := 0
  /-- payload bytes; R399 -/
  payload : List Nat := []
  /-- STAMP, 32 bits; R399 -/
  stamp : Nat := 0
  deriving DecidableEq, Repr

/-- A port AQ0 to AQ3 beside its registers (R396 to R402). -/
structure AqPort where
  /-- the PHY shows link; R397 -/
  phy : Bool := false
  /-- waiting class L barges, at most one per flow; R402 -/
  ql : List Barge := []
  /-- waiting class F barges, at most 64; R402 -/
  qf : List Barge := []
  /-- waiting class T barges, at most 32; R402 -/
  qt : List Barge := []
  /-- the F barge in sending and its next fragment; R401 -/
  txF : Option (Barge × Nat) := none
  /-- the T barge in sending and its next fragment; R401 -/
  txT : Option (Barge × Nat) := none
  /-- F fragments sent in a row while T waited; R401 -/
  waitT : Nat := 0
  /-- partial barge received in class F: the barge so far, bytes announced, next fragment; R400 -/
  rxF : Option (Barge × Nat × Nat) := none
  /-- partial barge received in class T; R400 -/
  rxT : Option (Barge × Nat × Nat) := none
  /-- time of the last valid barge received, in ns; R398 -/
  lastRx : Nat := 0
  /-- time at which the last sending ends, in ns; R398, R400 -/
  lastTx : Nat := 0
  /-- what the neighbour's last HELLO said; R405 -/
  hello : Option Hello := none
  /-- the last link-delay measurements, newest first, at most 8, in ns; R426 -/
  delays : List Nat := []
  /-- sequence number of the next DELAY_REQ, 16 bits; R408 -/
  rseq : Nat := 0
  /-- time at which the next link-delay exchange is due, in ns; R426 -/
  nextDelay : Nat := 0
  /-- time at which the next HELLO is due, in ns; R412 -/
  nextHello : Nat := 0
  /-- time at which the last SYNC left, in ns; R408 -/
  syncAt : Nat := 0
  deriving DecidableEq, Repr

/-- The receive side of one flow (R421). -/
structure RxFlow where
  /-- last accepted SEQ, none before the first; R421 -/
  last : Option Nat := none
  /-- barges beyond the window in a row; R421 -/
  far : Nat := 0
  deriving DecidableEq, Repr

/-- A tunnel frame in reassembly (R425). -/
structure Tunnel where
  /-- segments by index; R425 -/
  parts : Tab (List Nat) := []
  /-- index of the last segment; R425 -/
  last : Option Nat := none
  /-- time of the first segment, in ns; R425 -/
  start : Nat := 0
  deriving DecidableEq, Repr

/-- An update piece in assembly from PIECE barges (R411). -/
structure PieceParts where
  /-- UPDATE_ID; R411 -/
  update : Nat := 0
  /-- PIECE; R411 -/
  piece : Nat := 0
  /-- parts by number; R411 -/
  parts : Tab (List Nat) := []
  /-- time of the first part, in ns; R411 -/
  start : Nat := 0
  deriving DecidableEq, Repr

/-- The Aqueduct beside its registers (R396 to R435). -/
structure Aq where
  /-- the fabric plan loaded from the Chart; R317 -/
  plan : FabricPlan := {}
  /-- the four ports; R396 -/
  ports : Tab AqPort := []
  /-- best root candidate: serial number; R405 -/
  rootSerial : Option Nat := none
  /-- the candidate has ROOT_EN = 1; R405 -/
  rootEn : Bool := false
  /-- hops to the candidate; R405 -/
  rootHops : Nat := 0
  /-- time at which another candidate was last adopted, in ns; R412 -/
  candAt : Nat := 0
  /-- the TREE path kept: LEN and PATH; R406 -/
  tree : Option (Nat × Nat) := none
  /-- address claims: serial number plus one by address; R414 -/
  claims : Tab Nat := []
  /-- last LINKSTATE by module address; R407 -/
  links : Tab LinkState := []
  /-- LSEQ of this module, 16 bits; R407 -/
  lseq : Nat := 0
  /-- next SEQ of each flow this module sends; R421 -/
  txSeq : Tab Nat := []
  /-- receive flows by 256 * SRC + FLOW; R421 -/
  rx : Tab RxFlow := []
  /-- received variables; R424 -/
  image : Tab Word := []
  /-- variables of accepted barges that no snapshot has seen: time of completion in ns, variable, value, LCC plus one;
  R424 -/
  landing : List (Nat × Nat × Word × Nat) := []
  /-- LCC at the last accepted barge of a variable, plus one; R422 -/
  stamp : Tab Nat := []
  /-- published values last sent; R422 -/
  sentVars : Tab Word := []
  /-- published values staged; R423 -/
  staged : Tab (Option Word) := []
  /-- LCC at the last sending of a flow entry, plus one; R423 -/
  sentAt : Tab Nat := []
  /-- the owning Keeper's class L list has ended in this cycle, by Keeper; R423 -/
  listEnded : Tab Bool := []
  /-- class F flow entries with a write staged before the last strobe; R423 -/
  readyF : List Nat := []
  /-- tunnel frames in reassembly by source; R425 -/
  tunnels : Tab Tunnel := []
  /-- the module whose tunnelled host the tunnel path answers; R425 -/
  tunHost : Nat := 0
  /-- the host path whose frames last went out through the tunnel: answers that come back leave there; R50 -/
  fwdPath : Nat := 9
  /-- pieces in assembly by source; R411 -/
  pieces : Tab PieceParts := []
  /-- SSEQ of the next SYNC, 16 bits; R408 -/
  sseq : Nat := 0
  /-- time at which the root's next SYNC is due, in ns; R426 -/
  nextSync : Nat := 0
  /-- offset left to slew, in ns; R427 -/
  slew : Int := 0
  /-- part of a ns already slewed of that offset, in 1/1000 ns; R427 -/
  slewPart : Int := 0
  /-- rate correction in ppm; R426, R427 -/
  rate : Int := 0
  /-- part of a ns of correction not yet in waterway time, in 1/1000 ns; R427 -/
  ratePart : Int := 0
  /-- time at which the last SYNC was taken, in ns; R426 -/
  syncTaken : Option Nat := none
  /-- waterway time last flushed to MRAM; R428 -/
  flushed : Option Nat := none
  /-- time at which the next flush is due, in ns; R428 -/
  nextFlush : Nat := 0
  /-- end of the present recovery, in ns; R419 -/
  recovEnd : Nat := 0
  /-- POWER requests: REQ_ID of the next request, 8 bits; R409 -/
  reqId : Nat := 0
  /-- update records of the waterway by address: time of receipt in ns plus one, and bytes; R484 -/
  updRecs : Tab (Nat × List Nat) := []
  /-- a quarantined module's own cause: 1 address held, 2 digest differs; R415 -/
  quarCause : Nat := 0
  deriving DecidableEq, Repr

/-- The trap registers of one class (R290 to R292). -/
structure TrapSet where
  /-- TCAUSE; R290 -/
  cause : Nat := 0
  /-- TPC; R290 -/
  tpc : Word := 0#32
  /-- TNPC; R290 -/
  tnpc : Word := 0#32
  /-- TRAPINST; R290 -/
  inst : Word := 0#32
  /-- TSTAT.INH; R291 -/
  inh : Bool := false
  /-- TSTAT.TDS; R291 -/
  tds : Bool := false
  /-- TSTAT.CLS; R291 -/
  cls : Bool := false
  /-- SCRATCH0; R290 -/
  scratch0 : Word := 0#32
  /-- SCRATCH1; R290 -/
  scratch1 : Word := 0#32
  deriving DecidableEq, Repr

/-- The bank of one class of an engine (R276). -/
structure Ctx where
  /-- x1 to x31; R276 -/
  regs : Tab Word := []
  /-- address of the next instruction; R282 -/
  pc : Word := 0#32
  /-- address of the instruction after it; R282 -/
  npc : Word := 4#32
  /-- the next instruction sits in a delay slot; R282 -/
  ds : Bool := false
  /-- trap registers; R290 -/
  trap : TrapSet := {}
  deriving DecidableEq, Repr

/-- A Tiller engine: Keepers K0 to K7 are 0 to 7, the Warden is 8 (R258 to R301). -/
structure Engine where
  /-- bank of class L; the Warden's only bank; R276 -/
  l : Ctx := {}
  /-- bank of class F; R276 -/
  f : Ctx := {}
  /-- class that runs: true class F; R259 -/
  inF : Bool := false
  /-- results in flight: (register, value, instructions left); R285 -/
  flight : List (Nat × Word × Nat) := []
  /-- EVEC; R290 -/
  evec : Word := 0xFFFFFFFF#32
  /-- TVEC; R290 -/
  tvec : Word := 0xFFFFFFFF#32
  /-- LENTRY; R290 -/
  lentry : Word := 0xFFFFFFFF#32
  /-- FENTRY; R290 -/
  fentry : Word := 0xFFFFFFFF#32
  /-- SLOTS; R290 -/
  slots : Nat := 0
  /-- slots used by the class L list in this cycle; R260 -/
  lUsed : Nat := 0
  /-- the class F pass is complete and starts again at FENTRY; R295 -/
  fDone : Bool := true
  /-- lock cycles since the class F list last completed a pass; R262 -/
  fCount : Nat := 0
  /-- EV114 has been raised since the last completed pass; R262 -/
  fReported : Bool := false
  /-- a rule program is present; for the Warden: it runs; R315 -/
  present : Bool := false
  /-- release waits for the first strobe after a reload; R272 -/
  waiting : Bool := false
  /-- the release will raise EV116; R272 -/
  restarted : Bool := false
  /-- code image, data image of the rule program in flash: (address, length); R315 -/
  code : Nat × Nat := (0, 0)
  /-- data image: (address, length); R315 -/
  data : Nat × Nat := (0, 0)
  /-- declared worst-case class L slots; R315 -/
  lDecl : Nat := 0
  deriving DecidableEq, Repr

/-- The input snapshot of the present cycle (R259, R263). -/
structure Snap where
  /-- Lodge-held words at the snapshot; R263 -/
  regs : Tab Word := []
  /-- words of dies 0 to 4 in force at the snapshot; R263 -/
  dies : Tab (Tab Word) := []
  /-- words of dies 0 to 4 as the STATUS mirror held them at the snapshot; R264 -/
  stats : Tab (Tab Word) := []
  /-- level of the 128 inputs; R263 -/
  levels : Nat := 0
  /-- changes of the 128 inputs since the previous snapshot; R263 -/
  edges : Nat := 0
  /-- waterway time; R263 -/
  wwt : Nat := 0
  /-- VBAT band; R263 -/
  band : Nat := 2
  /-- event word (256 bits) of each Keeper; R264 -/
  events : Tab Nat := []
  /-- CAN objects that stored a frame, by 128 * controller + object; R264 -/
  canFresh : List Nat := []
  /-- LIN frames by 64 * channel + identifier; R370 -/
  lin : Tab LinFrame := []
  /-- fabric variables received; R424 -/
  image : Tab Word := []
  /-- LCC at their last accepted barge, plus one; R422 -/
  stamp : Tab Nat := []
  /-- fabric variables published, as last sent; R422 -/
  sentVars : Tab Word := []
  /-- SHARED words 0 to 255; R265 -/
  shared : Tab Word := []
  deriving DecidableEq, Repr

/-- The engines and what they share (R258 to R301). -/
structure Keepers where
  /-- engines; R258, R276 -/
  engines : Tab Engine := []
  /-- present snapshot; R259 -/
  snap : Snap := {}
  /-- the lock cycle that acts, in 10 µs units; R255 -/
  lockT : Nat := 10
  /-- the registers as the last ticks left them, newest first, with their time in ns; R264 -/
  mirror : List (Nat × Tab Word) := []
  /-- SHARED words of the next snapshot; R265 -/
  shared : Tab Word := []
  /-- changes of the 128 inputs gathering for the next snapshot; R263 -/
  edgeAcc : Nat := 0
  /-- declared owner of a COMMAND target, plus one, by index; R267 -/
  owners : Tab Nat := []
  /-- COMMAND indices that the owner table lists twice; R315 -/
  ownTwice : List Nat := []
  deriving DecidableEq, Repr

/-- The Gatehouse beside its registers (R463 to R473). -/
structure Gate where
  /-- phase of the session: 0 none, 1 LF frame, 2 carrier, 3 slots, 4 anti-collision; R464 -/
  phase : Nat := 0
  /-- time at which the session entered its phase, in ns; R464 -/
  phaseAt : Nat := 0
  /-- number of the draw that gave an antenna's last peak current, plus one, by antenna; R477 -/
  ipk : Tab Nat := []
  /-- KIND of the session; R464 -/
  kind : Nat := 0
  /-- antennas of the session; R464 -/
  ant : Nat := 0
  /-- token indices asked; R464 -/
  mask : Nat := 0
  /-- the challenge, 64 bits; R464 -/
  chal : Nat := 0
  /-- slots in order, 0 to 16; R464, R468 -/
  slots : List Nat := []
  /-- start of the slot grid, in ns; R464 -/
  gridStart : Nat := 0
  /-- slots ended; R464 -/
  ended : Nat := 0
  /-- valid answers: (token index, inside, highest RSSI); R466 -/
  valid : List (Nat × Bool × Nat) := []
  /-- identifier of a new token that answered rightly in slot 16, plus one; R468 -/
  newId : Nat := 0
  /-- invalid answers; R466 -/
  bad : Nat := 0
  /-- collided slots, ascending; R467 -/
  collided : List Nat := []
  /-- open branches of the search: (slot, length, bits); R467 -/
  branches : List (Nat × Nat × Nat) := []
  /-- what the present window received: 0 nothing, 1 one good answer, 2 collision; R467 -/
  seen : Nat := 0
  /-- anti-collision rounds made; R467 -/
  rounds : Nat := 0
  /-- antennas that latched in this session; R471 -/
  latched : Nat := 0
  /-- the carriers were stopped under R29 or R199 since the session started; R471 -/
  broken : Bool := false
  /-- the ignition stands at its last debounced rise or fall that the Gatehouse has taken; R472 -/
  ign : Bool := false
  /-- ignition went off during this session; R471 -/
  ignOff : Bool := false
  /-- entries to free at the end of the session; R471 -/
  revoke : List Nat := []
  /-- the LEARN session is armed; R469 -/
  armed : Bool := false
  /-- end of the delay window, in ns; R470 -/
  delayEnd : Option Nat := none
  /-- LCODE low word; R469 -/
  lcodeLo : Word := 0#32
  /-- host path whose session entered TEST or RECOVERY; R469 -/
  modePath : Nat := 0
  /-- end of RECOVERY, in ns; R469 -/
  modeEnd : Option Nat := none
  /-- K_DER, 128 bits, and its words written; R463 -/
  kDer : Nat := 0
  /-- words of K_DER written, by bit; R463 -/
  kDerSet : Nat := 0
  /-- ignition-on, in ns, while release messages run; R472 -/
  ignOn : Option Nat := none
  /-- release messages sent since ignition-on; R472 -/
  relCount : Nat := 0
  /-- CTR stored in MRAM; R472 -/
  ctrStored : Nat := 0
  /-- consecutive reads with a length above 32; R473 -/
  oversize : Nat := 0
  deriving DecidableEq, Repr

/-- Field update beside its registers (R478 to R491). -/
structure Upd where
  /-- ARM, in ns, while the hand-over waits for a quiet point; R487 -/
  armed : Option Nat := none
  /-- components still to hand over: (TYPE, HOT); R485 -/
  todo : List (Nat × Bool) := []
  /-- start of the Warden pause, in ns; R487 -/
  pause : Option Nat := none
  /-- the code bank is switched and the new firmware has started; R487 -/
  switched : Bool := false
  /-- another module has switched too and this one is the later; R491 -/
  clash : Bool := false
  /-- the Warden as the old firmware left it in the hand-over area; R487 -/
  oldEng : Engine := {}
  /-- time at which the next update record is due, in ns; R484 -/
  nextRecord : Nat := 0
  /-- commands that wait for the end of the pause, oldest first; R488 -/
  waiting : List Instr := []
  /-- a Keeper program swap is loaded into the shadow banks; R489 -/
  swap : Bool := false
  /-- the new Chart's sections while a swap waits; R489 -/
  newSections : List (Nat × Nat × Nat) := []
  deriving DecidableEq, Repr

/-- What the module sends to the outside. -/
inductive Out where
  /-- a Towpath frame on the path of master code `path`: TYPE, REF, ADDR, FLAGS bit ENC, and the payload bytes as
  they go out; R50, R55 -/
  | frame (path typ ref addr : Nat) (enc : Bool) (payload : List Nat)
  /-- a CAN frame begins on controller `c`; R360 -/
  | can (c : Nat) (f : CanFrame)
  /-- controller `c` acknowledges the frame on its bus; R357 -/
  | canAck (c : Nat)
  /-- the beacon of 10BASE-T1S port `p`; R372 -/
  | t1sBeacon (p : Nat)
  /-- a LIN header for `id` on channel `ch`; R368 -/
  | linHeader (ch id : Nat)
  /-- LIN data published on channel `ch` for `id`, with its checksum kind; R369 -/
  | linData (ch id : Nat) (enhanced : Bool) (data : List Nat)
  /-- a barge fragment leaves port `p`: fragment `index` of barge `b`; R400 -/
  | barge (p index : Nat) (b : Barge)
  /-- a LIN wake pulse on channel `ch`; R383 -/
  | linWake (ch : Nat)
  /-- line energy on Aqueduct port `p`; R348 -/
  | lineEnergy (p : Nat)
  /-- an LF frame on the antennas of mask `ant`, their carriers in 10 Hz units, its bits in sending order; R465, R477 -/
  | lf (ant : Nat) (freqs : List Nat) (bits : List Bool)
  /-- a transaction on I²C bus `bus` with address `addr`: a write of register byte `reg`, a repeated start and a read of
  6 bytes; R219 -/
  | i2c (bus addr reg : Nat)
  deriving DecidableEq, Repr

/-- The machine. -/
structure State where
  /-- commands that are waiting, first in first out; the queue of the block -/
  pending : List Instr := []
  /-- time since power-on in ns, the model's own clock (log entry 1) -/
  now : Nat := 0
  /-- waterway time, 64-bit count of ns; R426 -/
  wwt : Nat := 0
  /-- the model's own counter of free values drawn (log entry 2) -/
  draws : Nat := 0
  /-- every register of the map by normal-view address; R34 -/
  regs : Tab Word := []
  /-- the registers as the row before found them, for an access of the same cycle; R45 -/
  prev : Tab Word := []
  /-- ENABLE bits by subsystem code as the dies hold them; R29, R326 -/
  dieEn : Nat := 0
  /-- memory bytes: flash, MRAM and the SRAMs; R296 -/
  mem : List Host.Cell := []
  /-- what the module has sent, oldest first; R57, R60 -/
  out : List Out := []
  /-- WL fields written and locked, by 32 * address + lowest bit; R43 -/
  wlSet : Tab Bool := []
  /-- event block, fault collector and Logbook controller; R59 to R63, R437, R447 -/
  rep : Report := {}
  /-- host paths by master code; R53 -/
  hosts : Tab HostPath := []
  /-- the six dies beside the Lodge; R13 -/
  dies : Tab Die := []
  /-- Culverts CV0 to CV5; R15 -/
  cvs : Tab Culvert := []
  /-- the lock port; R22 -/
  lock : LockPort := {}
  /-- the fifteen banks; R29 -/
  banks : Tab Bank := []
  /-- supply section; R69 -/
  sup : Supply := {}
  /-- the 96 high-side channels; R97 -/
  chans : Tab Chan := []
  /-- undervoltage state of the six Pavilions; R113 -/
  uvs : Tab Uv := []
  /-- the 24 valves; R153 -/
  valves : Tab Valve := []
  /-- the motors by half-bridge number; R184 -/
  motors : Tab Motor := []
  /-- restart slots and park inputs of the Arbour; R194, R195 -/
  bridges : Bridges := {}
  /-- sinks and backlights; R207 -/
  elems : Tab Elem := []
  /-- loop sources; R220 -/
  sources : Tab Source := []
  /-- the Trellis; R224 -/
  trellis : Trellis := {}
  /-- the 128 inputs; R241 -/
  inputs : Tab Input := []
  /-- the 16 field outputs; R245 -/
  fieldOuts : Tab FieldOut := []
  /-- restart slots of the field outputs; R251 -/
  fieldBank : FieldBank := {}
  /-- CAN, LIN, 10BASE-T1S and SENT controllers; R354 to R374 -/
  bus : Buses := {}
  /-- the Aqueduct; R396 to R435 -/
  aq : Aq := {}
  /-- the Tiller engines, the snapshot and the SHARED words; R258 to R301 -/
  kp : Keepers := {}
  /-- measurement, diagnosis and trending; R128 to R143 -/
  meas : Meas := {}
  /-- starting, checks and the Chart in use; R304 to R336 -/
  start : Start := {}
  /-- check units CU0 to CU3; R456 -/
  cus : Tab Cu := []
  /-- the scrubber; R453 -/
  scrub : Scrubber := {}
  /-- power states and domains; R338 to R351 -/
  pow : Power := {}
  /-- network sleep; R382 to R392 -/
  net : Net := {}
  /-- the Gatehouse; R463 to R473 -/
  gate : Gate := {}
  /-- field update; R478 to R491 -/
  upd : Upd := {}
  deriving DecidableEq, Repr

/-- A fault of the machine. The manual gives every command an effect and lets none stop the machine,
so there is no fault: what the manual calls a fault is a state it goes on from (safe). -/
inductive Fault where
  deriving DecidableEq, Repr

/-- Why a command is not run. -/
inductive Refusal where
  /-- the command's meaning is not written yet; only the dispatch answers it (safe) -/
  | notModelled (mnemonic : String)
  deriving DecidableEq, Repr

/-- The machine right after reset: every register at the Reset column of its table (an empty table
reads so), nothing waiting, nothing in progress. -/
def State.reset : State := {}

end Sys2Proof.Machine
end

