-- ==== Sys2Proof/Machine/Ops.lean ====
section
/-! DEFINITION. The named operations on tables, memory, registers, events, faults and the Logbook.
Every meaning is written over these. -/

namespace Sys2Proof.Machine

/-! ### Tables -/

/-- What table `t` holds at `k`, if it lists it. -/
def Tab.find {α : Type} (t : Tab α) (k : Nat) : Option α :=
  match t with
  | [] => none
  | (j, v) :: rest => if j = k then some v else Tab.find rest k

/-- What table `t` holds at `k`, `d` where it lists nothing. -/
def Tab.get {α : Type} (t : Tab α) (d : α) (k : Nat) : α := (Tab.find t k).getD d

/-- The table without entry `k`. -/
def Tab.erase {α : Type} (t : Tab α) (k : Nat) : Tab α :=
  match t with
  | [] => []
  | (j, v) :: rest => if j = k then Tab.erase rest k else (j, v) :: Tab.erase rest k

/-- The sorted table with `(k, v)` put in, `k` not listed before. -/
def Tab.insert {α : Type} (t : Tab α) (k : Nat) (v : α) : Tab α :=
  match t with
  | [] => [(k, v)]
  | (j, u) :: rest => if k < j then (k, v) :: (j, u) :: rest else (j, u) :: Tab.insert rest k v

/-- The table with `v` at `k`; an entry equal to the default `d` is not listed. -/
def Tab.put {α : Type} [DecidableEq α] (t : Tab α) (d : α) (k : Nat) (v : α) : Tab α :=
  if v = d then Tab.erase t k else Tab.insert (Tab.erase t k) k v

/-- The table with entry `k` changed by `f`. -/
def Tab.mod {α : Type} [DecidableEq α] (t : Tab α) (d : α) (k : Nat) (f : α → α) : Tab α :=
  Tab.put t d k (f (Tab.get t d k))

/-- The canonical form of a table: keys strictly rising, no entry equal to its default. -/
def Tab.wf {α : Type} [DecidableEq α] (d : Nat → α) (t : Tab α) : Bool :=
  match t with
  | [] => true
  | (k, v) :: rest => decide (v ≠ d k) && rest.all (fun e => decide (k < e.1)) && Tab.wf d rest

/-! ### Small arithmetic -/

/-- The value held between two limits (the nearer limit acts). -/
def clampN (lo hi x : Nat) : Nat := if x < lo then lo else if hi < x then hi else x

/-- A counter that saturates at `top`. -/
def satInc (top x : Nat) : Nat := if x < top then x + 1 else top

/-- The sum of `x` and `y` in a counter of `w` bits that saturates (R506). -/
def satAdd (w x y : Nat) : Nat := if x + y < 2 ^ w then x + y else 2 ^ w - 1

/-- Bit `i` of a number. -/
def bitOf (x i : Nat) : Bool := x / 2 ^ i % 2 == 1

/-- The number with bit `i` set. -/
def setBitN (x i : Nat) : Nat := if bitOf x i then x else x + 2 ^ i

/-- The number with bit `i` clear. -/
def clrBitN (x i : Nat) : Nat := if bitOf x i then x - 2 ^ i else x

/-- A flag as a number. -/
def b2n (b : Bool) : Nat := if b then 1 else 0

/-- The two's complement of an integer on `w` bits. -/
def twos (w : Nat) (x : Int) : Nat := (x % (2 ^ w : Nat)).toNat

/-- The integer a two's complement number of `w` bits stands for. -/
def signed (w x : Nat) : Int := if x < 2 ^ (w - 1) then (x : Int) else (x : Int) - (2 ^ w : Nat)

/-- The number that a list of bytes spells, little-endian. -/
def leNat (l : List Nat) : Nat :=
  match l with
  | [] => 0
  | b :: rest => b + 256 * leNat rest

/-- The low `n` bytes of a number, little-endian. -/
def leBytes (n x : Nat) : List Nat := (List.range n).map (fun i => x / 256 ^ i % 256)

/-! ### Registers -/

/-- Field `f` of word `v`. -/
def fget (f : Fld) (v : Word) : Nat := (v.extractLsb' f.lo f.w).toNat

/-- The bits of field `f`. -/
def fmask (f : Fld) : Word := ((BitVec.allOnes f.w).setWidth 32) <<< f.lo

/-- Word `v` with field `f` holding `x` modulo its width. -/
def fput (f : Fld) (x : Nat) (v : Word) : Word :=
  (v &&& ~~~ fmask f) ||| (((BitVec.ofNat f.w x).setWidth 32) <<< f.lo)

/-- The word of the register at normal-view address `a`. -/
def State.reg (s : State) (a : Nat) : Word := Tab.get s.regs (regReset a) a

/-- The state with `v` in the register at `a`. -/
def State.setReg (a : Nat) (v : Word) (s : State) : State :=
  { s with regs := Tab.put s.regs (regReset a) a v }

/-- Field `f` of the register at `a`. -/
def State.fld (s : State) (a : Nat) (f : Fld) : Nat := fget f (s.reg a)

/-- The state with `x` in field `f` of the register at `a`. -/
def State.setFld (a : Nat) (f : Fld) (x : Nat) (s : State) : State :=
  State.setReg a (fput f x (s.reg a)) s

/-- Field `f` of the register at `a` reads as a flag that is 1. -/
def State.flag (s : State) (a : Nat) (f : Fld) : Bool := s.fld a f == 1

/-- The state with a flag field set or cleared. -/
def State.setFlag (a : Nat) (f : Fld) (b : Bool) (s : State) : State := State.setFld a f (b2n b) s

/-- A counter field counts one and saturates at its greatest value. -/
def State.incFld (a : Nat) (f : Fld) (s : State) : State :=
  State.setFld a f (satInc (2 ^ f.w - 1) (s.fld a f)) s

/-! ### Free values -/

/-- The next free value of `w` bits, and the state after drawing it (log entry 2). -/
def State.free (w : Nat) (s : State) : BitVec w := Config.freeValue w s.draws

/-- A free value of `w` bits, the one of draw `n`. -/
def freeAt (w n : Nat) : Nat := (Config.freeValue w n).toNat

/-- The state after one free value has been drawn. -/
def State.drawn (s : State) : State := { s with draws := s.draws + 1 }

/-! ### Memory -/

/-- What a byte that no entry lists reads as: erased flash reads 0xFF, SRAM and MRAM 0 (log
entry 5). Keys of the flash are those at and above `flashBase`. -/
def flashBase : Nat := 0x1000000000

/-- The byte an unlisted key reads as. -/
def memDefault (k : Nat) : Byte := if flashBase ≤ k then 0xFF#8 else 0#8

/-- The byte of memory at key `k`. -/
def State.byte (s : State) (k : Nat) : Byte := Tab.get s.mem (memDefault k) k

/-- The state with byte `b` stored at key `k`. -/
def State.setByte (k : Nat) (b : Byte) (s : State) : State :=
  { s with mem := Tab.put s.mem (memDefault k) k b }

/-- `n` bytes from key `k` as a little-endian number. -/
def State.bytesLE (s : State) (k n : Nat) : Nat :=
  match n with
  | 0 => 0
  | m + 1 => (s.byte k).toNat + 256 * State.bytesLE s (k + 1) m

/-- The state with the low `n` bytes of `v` stored little-endian from key `k`. -/
def State.setBytesLE (k n v : Nat) (s : State) : State :=
  match n with
  | 0 => s
  | m + 1 => State.setBytesLE (k + 1) m (v / 256) (State.setByte k (BitVec.ofNat 8 v) s)

/-- The memory stands in its canonical form. -/
def Memory.wf (m : List Host.Cell) : Bool := Tab.wf memDefault m

/-! ### Output -/

/-- The state with `o` sent. -/
def State.send (o : Out) (s : State) : State := { s with out := s.out ++ [o] }

/-! ### Logbook queue, events and fault capture -/

/-- A record of the present waterway time and lock-cycle counter. -/
def mkRec (s : State) (typ source index : Nat) (data : List Nat) : LogRec :=
  { typ := typ, time := s.wwt, source := source, index := index,
    lcc := (s.reg KEEPER_LCC).toNat, data := data }

/-- A record that finds the queue full is dropped and counted (R448). -/
def countDrop (s : State) : State :=
  let t := State.incFld LOG_STAT LOG_STAT_DROP_CNT s
  { s with regs := t.regs, rep := { s.rep with overflow := s.rep.overflow + 1 } }

/-- A record is queued, or dropped and counted without raising anything (R448). -/
def pushQuiet (r : LogRec) (s : State) : State :=
  if s.rep.queue.length < 64 then { s with rep := { s.rep with queue := s.rep.queue ++ [r] } }
  else countDrop s

/-- The event source of number `n` is enabled (R63). -/
def evOn (s : State) (n : Nat) : Bool := s.flag (HOST_EVCFG n) HOST_EVCFG_EN

/-- What an occurrence of an enabled source does beside its record (R63): it counts, merges into the
pending notice where CLASS asks for one (whose count saturates at 0xFFFF, log entry 67), and reaches the Keeper that
KROUTE names. -/
def evCount (n : Nat) (s : State) : State :=
  let cls := s.fld (HOST_EVCFG n) HOST_EVCFG_CLASS
  let kr := s.fld (HOST_EVCFG n) HOST_EVCFG_KROUTE
  let a := Tab.get s.rep.ev {} n
  let t := State.incFld (HOST_EVCNT n) HOST_EVCNT_COUNT s
  let t := if cls = 1 ∨ cls = 2 then
      State.setFld (HOST_EVPEND (n / 16)) HOST_EVPEND_PEND
        (setBitN (t.fld (HOST_EVPEND (n / 16)) HOST_EVPEND_PEND) (n % 16)) t
    else t
  let ev := if cls = 1 ∨ cls = 2 then
      Tab.put s.rep.ev {} n
        { a with count := satInc 0xFFFF a.count,
                 first := (if a.count = 0 then s.wwt else a.first), last := s.wwt }
    else s.rep.ev
  let kw := if 8 ≤ kr then Tab.put s.rep.keeperWords 0 (kr - 8)
      (setBitN (Tab.get s.rep.keeperWords 0 (kr - 8)) n)
    else s.rep.keeperWords
  { s with regs := t.regs, rep := { s.rep with ev := ev, keeperWords := kw } }

/-- CLASS of source `n` asks for a Logbook record (R64). -/
def evLogs (s : State) (n : Nat) : Bool := 2 ≤ s.fld (HOST_EVCFG n) HOST_EVCFG_CLASS

/-- An occurrence whose record, if it meets a full queue, is only counted (R448). -/
def raiseQuiet (n index : Nat) (data : List Nat) (s : State) : State :=
  if evOn s n then
    let t := evCount n s
    if evLogs s n then pushQuiet (mkRec s 1 n index data) t else t
  else s

/-- Sticky bit of fault source `n` (R437). -/
def sticky (s : State) (n : Nat) : Bool :=
  bitOf (s.fld (FAULT_STICKY (n / 32)) FAULT_STICKY_FLT) (n % 32)

/-- A raise now falls in the reaction window and is lost (R444). -/
def inWindow (s : State) : Bool :=
  decide (s.rep.windowEnd ≤ s.now + 1280 ∧ s.now < s.rep.windowEnd)

/-- The reaction that R436 derives from REACT and from the source's allowed set. -/
def actingReact (s : State) (n : Nat) : Nat :=
  let r := s.fld (FAULT_CFG n) FAULT_CFG_REACT
  if n = 36 then 3
  else if n = 37 then (if r < 2 then 2 else r)
  else if n = 40 ∨ n = 41 ∨ n = 43 ∨ n = 64 ∨ n = 66 then 0
  else r

/-- The registers and notices of a first occurrence (R437, R438). -/
def captureRegs (n : Nat) (s : State) : State :=
  let a := FAULT_STICKY (n / 32)
  let t := State.setFld a FAULT_STICKY_FLT (setBitN (s.fld a FAULT_STICKY_FLT) (n % 32)) s
  let t := State.incFld FAULT_STAT FAULT_STAT_CAPTURES t
  let t := State.setFlag FAULT_STAT FAULT_STAT_ERRN_LOW true t
  { s with
    regs := t.regs,
    rep := { s.rep with
      faultNotes := s.rep.faultNotes ++ [⟨n, actingReact s n, s.wwt⟩],
      capture := s.rep.capture ++ [n] } }

/-- The lowest number of a list. -/
def lowest (l : List Nat) : Nat := l.foldl (fun m x => if x < m then x else m) (l.headD 0)

/-- The highest number of a list. -/
def highest (l : List Nat) : Nat := l.foldl (fun m x => if m < x then x else m) 0

/-- The sources and the highest reaction of the capture that stands since this very cycle, whose reaction has not started:
what else is captured in the cycle joins it (R443, R458). -/
def sameCapture (s : State) : Option (Nat × Nat × Nat) :=
  let w := s.reg FAULT_LAST
  if s.flag FAULT_STAT FAULT_STAT_REACTING && s.rep.windowEnd == s.now + 1290 then
    some (fget FAULT_LAST_FLT w, fget FAULT_LAST_REACT w, fget FAULT_LAST_NCAP w)
  else none

/-- FAULT_LAST shows the capture of the sources `caps`, whose highest reaction is `r` (R460). -/
def showCapture (caps : List Nat) (r : Nat) (s : State) : State :=
  let c := match sameCapture s with
    | some (f, x, n) => (lowest (f :: caps), highest [x, r], n + caps.length)
    | none => (lowest caps, r, caps.length)
  State.setReg FAULT_LAST (fput FAULT_LAST_FLT c.1 (fput FAULT_LAST_REACT c.2.1 (fput FAULT_LAST_NCAP (clampN 0 255 c.2.2) 0#32))) s

/-- Source `n` is raised while its sticky bit is 1, which does nothing but keep the bit over a clear of the same cycle
(R437). -/
def raiseAgain (n : Nat) (s : State) : State :=
  { s with rep := { s.rep with reraised := Tab.put s.rep.reraised 0 n (s.now + 1) } }

/-- FLT64, raised where a record is dropped; its own records are only counted when they meet the full
queue (R448). Its reaction is notice only (R436), so its window opens here when no other capture
of the cycle stands. -/
def raiseFault64 (s : State) : State :=
  if inWindow s then s
  else if sticky s 64 then raiseAgain 64 s
  else
    let t := raiseQuiet 201 0xFFFF [] (pushQuiet (mkRec s 2 64 0xFFFF [0]) (captureRegs 64 s))
    match s.rep.capture with
    | [] =>
      let u := State.setFlag FAULT_STAT FAULT_STAT_REACTING true (showCapture [64] 0 t)
      { t with regs := u.regs, rep := { t.rep with capture := [], windowEnd := s.now + 1290 } }
    | _ => t

/-- A record is queued; one that finds the queue full is dropped, counted, and raises EV208 and
FLT64 (R448). -/
def pushRec (r : LogRec) (s : State) : State :=
  if s.rep.queue.length < 64 then { s with rep := { s.rep with queue := s.rep.queue ++ [r] } }
  else raiseFault64 (raiseQuiet 208 0xFFFF [] (countDrop s))

/-- The body of `raiseEv`, before its frame is fixed. -/
def raiseEvCore (n index : Nat) (data : List Nat) (s : State) : State :=
  if evOn s n then
    let t := evCount n s
    if evLogs s n then pushRec (mkRec s 1 n index data) t else t
  else s

/-- Occurrence of event source `n` (R63). It changes registers and the report section only. -/
def raiseEv (n index : Nat) (s : State) : State :=
  let t := raiseEvCore n index [] s
  { s with regs := t.regs, rep := t.rep }

/-- Occurrence of event source `n` whose record carries `data` (R63, R446). -/
def raiseEvData (n index : Nat) (data : List Nat) (s : State) : State :=
  let t := raiseEvCore n index data s
  { s with regs := t.regs, rep := t.rep }

/-- The body of `raiseFault`. -/
def raiseFaultCore (n : Nat) (s : State) : State :=
  if inWindow s then s
  else if sticky s n then raiseAgain n s
  else raiseEv 201 0xFFFF (pushRec (mkRec s 2 n 0xFFFF [actingReact s n]) (captureRegs n s))

/-- A raise of fault source `n` (R437): a first occurrence is captured; its reaction is run by
`settle` at the end of the command. A raise inside the reaction window is lost (R444). -/
def raiseFault (n : Nat) (s : State) : State :=
  let t := raiseFaultCore n s
  { s with regs := t.regs, rep := t.rep }

/-- A Logbook record of another type (R446). -/
def logOther (r : LogRec) (s : State) : State :=
  let t := pushRec r s
  { s with regs := t.regs, rep := t.rep }

/-! ### Dies -/

/-- The Culvert of die `d` shows UP (R32). -/
def cvUp (s : State) (d : Nat) : Bool := s.flag (SYS_CV_STAT d) SYS_CV_STAT_UP

/-- The die of Pavilion index `p` (R13): P1 and P6 on PA, P2 and P5 on PB, P3 and P4 on PC. -/
def dieOfPav (p : Nat) : Nat := if p < 3 then p else 5 - p

/-- The die that owns bank `b` (R13). -/
def dieOfBank (b : Nat) : Nat := if b < 6 then dieOfPav b else if b < 14 then 3 else 4

/-- The state with die `d` changed. -/
def State.modDie (d : Nat) (f : Die → Die) (s : State) : State :=
  { s with dies := Tab.mod s.dies {} d f }

/-- Die `d`. -/
def State.die (s : State) (d : Nat) : Die := Tab.get s.dies {} d

/-- A die can report to the Lodge: it does not find it silent and its link is up (R17, R119). -/
def dieReports (s : State) (d : Nat) : Bool := !(s.die d).silent && cvUp s d

/-- An event that rises on die `d`: it is reported, or held until the die can report (R119). -/
def dieEv (d n index : Nat) (s : State) : State :=
  if dieReports s d then raiseEv n index s
  else State.modDie d (fun x => { x with held := x.held ++ [.event n index] }) s

/-- `dieEv` for an event whose record carries `data` (R446). -/
def dieEvData (d n index : Nat) (data : List Nat) (s : State) : State :=
  if dieReports s d then raiseEvData n index data s
  else State.modDie d (fun x => { x with held := x.held ++ [.eventData n index data] }) s

/-- A fault that a die reports to the collector as a sticky bit (R436), or holds (R119, R444). -/
def dieFault (d n : Nat) (s : State) : State :=
  if dieReports s d then raiseFault n s
  else State.modDie d (fun x => { x with held := x.held ++ [.fault n] }) s

/-- A held report of a die is delivered. -/
def deliver (h : Held) (s : State) : State :=
  match h with
  | .event n i => raiseEv n i s
  | .eventData n i l => raiseEvData n i l s
  | .fault n => raiseFault n s

/-- The held reports of die `d` arrive in the Lodge, in order (R119). -/
def deliverHeld (d : Nat) (s : State) : State :=
  (s.die d).held.foldl (fun t h => deliver h t) (State.modDie d (fun x => { x with held := [] }) s)

/-! ### Enable bits and bands -/

/-- ENABLE bit of subsystem code `n` (R322). -/
def enabled (s : State) (n : Nat) : Bool := bitOf (s.fld CHECK_EN CHECK_EN_ENABLE) n

/-- CAN, LIN or MISC is disabled now; a frame on a bus is still completed (R326). -/
def noteOff (n : Nat) (s : State) : State := { s with bus := { s.bus with offAt := Tab.put s.bus.offAt 0 n (s.now + 1) } }

/-- Subsystem `n` has been disabled while a frame was on the bus that began `ago` ns ago and ends now (R326). -/
def endsFrame (s : State) (n ago : Nat) : Bool :=
  let off := Tab.get s.bus.offAt 0 n
  !enabled s n && off != 0 && decide (off ≤ s.now + 1 ∧ s.now < off + ago)

/-- VBAT stands in Over (R69). -/
def inOver (s : State) : Bool := s.fld SUPPLY_STAT SUPPLY_STAT_BAND == 3

/-- VBAT stands in Dropout (R69). -/
def inDropout (s : State) : Bool := s.fld SUPPLY_STAT SUPPLY_STAT_BAND == 0

/-- Module limp stands (R442). -/
def moduleLimp (s : State) : Bool := s.flag FAULT_STAT FAULT_STAT_MLIMP

/-- Bank `b`. -/
def State.bank (s : State) (b : Nat) : Bank := Tab.get s.banks {} b

/-- The state with bank `b` changed. -/
def State.modBank (b : Nat) (f : Bank → Bank) (s : State) : State :=
  { s with banks := Tab.mod s.banks {} b f }

/-- Subsystem code of bank `b` (R321). -/
def subOfBank (b : Nat) : Nat := if b < 6 then b + 1 else if b < 10 then 7 else if b < 14 then 8 else 9

/-- The pin map that the dies last received claims the first function of pin `p` (R313, R503). -/
def pinFirst (s : State) (p : Nat) : Bool := bitOf (Tab.get s.start.pins (0, 0) p).1 0

/-- The pin map that the dies last received claims the second function of pin `p` (R313, R503). -/
def pinSecond (s : State) (p : Nat) : Bool := bitOf (Tab.get s.start.pins (0, 0) p).1 1

/-- The pin of high-side channel `g` (R502). -/
def pinOfPav (g : Nat) : Nat := if g < 32 then 265 + g else g - 31

/-- The pin of element `k`, a sink or a backlight (R502). -/
def pinOfLight (k : Nat) : Nat := if k < 48 then 65 + k else 285 + k

/-- The pin of input `j`, SI or FI (R502). -/
def pinOfInput (j : Nat) : Nat :=
  if j < 64 then 1 + j else if j < 96 then 17 + j else if j < 112 then 17 + j else j - 47

/-- Input `j` is claimed: else it reads 0, is not sampled and cannot wake (R503). -/
def inputClaimed (s : State) (j : Nat) : Bool := pinSecond s (pinOfInput j)

/-- ENABLE bit of subsystem code `n` as the dies hold it, which they keep while the Lodge is absent (R29, R326). -/
def dieEnabled (s : State) (n : Nat) : Bool := bitOf s.dieEn n

/-- The module is in Moored or Berthed, or going there past the point where the Harbour run clock
stops: STATE of POWER_STAT (R243). -/
def lowPower (s : State) : Bool := 2 ≤ s.fld POWER_STAT POWER_STAT_STATE

/-- Bank `b` serves its demands: its subsystem is enabled and the bank has been claimed since the
reset of its die (R321, R330). -/
def serving (s : State) (b : Nat) : Bool := dieEnabled s (subOfBank b) && (s.bank b).claimed

/-- Field output `o` serves its demand: INPUT is enabled and its bank has been claimed (R321, R330). -/
def foServing (s : State) (o : Nat) : Bool := dieEnabled s 10 && (s.bank (6 + o / 4)).claimed

/-- The dies hold ENABLE bit `n` as the Lodge has it (R30, R326). -/
def syncEnable (n : Nat) (s : State) : State :=
  { s with dieEn := if enabled s n then setBitN s.dieEn n else clrBitN s.dieEn n }

/-! ### The reservoir -/

/-- STATE codes of the reservoir (R74). -/
abbrev resOff : Nat := 0
/-- PRECHARGE -/
abbrev resPrecharge : Nat := 1
/-- BOOST -/
abbrev resBoost : Nat := 2
/-- FULL -/
abbrev resFull : Nat := 3
/-- RIDE -/
abbrev resRide : Nat := 4
/-- FAULT -/
abbrev resFault : Nat := 5
/-- HELD -/
abbrev resHeld : Nat := 6

/-- STATE of the reservoir. -/
def resState (s : State) : Nat := s.fld SUPPLY_RES_STAT SUPPLY_RES_STAT_STATE

/-- STATE of the reservoir becomes `x`. -/
def setResState (x : Nat) (s : State) : State := State.setFld SUPPLY_RES_STAT SUPPLY_RES_STAT_STATE x s

/-- VRES_TGT in mV, held between 40 and 72 V (R92). -/
def vresTarget (s : State) : Nat := clampN 40 72 (s.fld SUPPLY_RES_CFG SUPPLY_RES_CFG_VRES_TGT) * 1000

/-- VFLOOR in mV, held between 20 and 40 V (R92). -/
def vFloor (s : State) : Nat := clampN 20 40 (s.fld SUPPLY_RES_CFG SUPPLY_RES_CFG_VFLOOR) * 1000

/-- VEARLY in mV; below VFLOOR it acts as VFLOOR (R92). -/
def vEarly (s : State) : Nat :=
  let v := s.fld SUPPLY_RES_CFG SUPPLY_RES_CFG_VEARLY * 1000
  if v < vFloor s then vFloor s else v

/-- Camera rails and backlights may run (R76): in FAULT only while VRES stays above VFLOOR. -/
def resCarries (s : State) : Bool := resState s != resFault || decide (vFloor s < s.sup.vres)

/-! ### Privilege and register writes -/

/-- The level of the session that runs on host path `m`: one without an accepted command ends at 60 s (R7, R53, R56). -/
def sessionLevel (s : State) (m : Nat) : Nat :=
  let x := Tab.get s.hosts {} m
  if s.now < x.lastCommand + 60000000000 then x.level else 0

/-- Master `m` is a host in a service session on its path (R41, R53). -/
def inService (s : State) (m : Nat) : Bool := decide (9 ≤ m) && sessionLevel s m == 2

/-- Master `m` is privileged (R41): the Warden, or a host in a service session on its path. -/
def privileged (s : State) (m : Nat) : Bool := m == 0 || inService s m

/-- The view a block address uses (R36): 0 normal, 1 set, 2 clear, 3 toggle. -/
def viewOf (a : Nat) : Nat := if a < 0x50000000 then a % 0x10000 / 0x4000 else 0

/-- The normal-view address of a block address (R36). -/
def normalOf (a : Nat) : Nat := if a < 0x50000000 then a - viewOf a * 0x4000 else a

/-- Subsystem `n` locks its fields: it is enabled, or its check runs (R322, R326). -/
def locking (s : State) (n : Nat) : Bool := enabled s n || s.start.checkQueue.head? == some n

/-- The configuration fields of an array entry are locked (R322, R326). -/
def lockedBy (s : State) (l : Lock) (i : Nat) : Bool :=
  match l with
  | .none => false
  | .pavOwn => locking s (i / 16 + 1)
  | .pavBank => locking s (i + 1)
  | .pavClass => locking s (2 * i + 1) || locking s (2 * i + 2)
  | .pavAny => locking s 1 || locking s 2 || locking s 3 || locking s 4 || locking s 5 || locking s 6
  | .sub n => locking s n

/-- What a view makes of the bits of one field (R36). -/
def viewBits (acc : Acc) (view old x : Nat) : Nat :=
  match acc with
  | .rw | .wl => match view with
    | 0 => x
    | 1 => old ||| x
    | 2 => old - (old &&& x)
    | _ => old ^^^ x
  | .w1c => match view with
    | 0 | 2 => old - (old &&& x)
    | _ => old
  | .rc => match view with
    | 2 => old - (old &&& x)
    | _ => old
  | .ro | .wo => old

/-- What a register write has come to so far. -/
structure WriteAcc where
  /-- the word -/
  word : Word
  /-- a privilege violation (R42) -/
  priv : Bool
  /-- a lock violation (R43) -/
  lock : Bool
  /-- WL fields newly locked, by their lowest bit (R43) -/
  wl : List Nat
  deriving DecidableEq, Repr

/-- One field of a register write (R36, R37, R41 to R43). -/
def writeField (s : State) (m a view : Nat) (locked : Bool) (v : Word) (w : WriteAcc) (f : FInfo) :
    WriteAcc :=
  let x := fget f.fld v
  let old := fget f.fld w.word
  let new := viewBits f.acc view old x
  if f.pr && !privileged s m then
    { w with priv := w.priv || (x != 0 && f.acc != .ro) }
  else if f.acc == .wl then
    if Tab.get s.wlSet false (32 * a + f.fld.lo) then { w with lock := w.lock || (new != old) }
    else if view == 0 || x != 0 then
      { w with word := fput f.fld new w.word, wl := w.wl ++ [f.fld.lo] }
    else w
  else if locked && f.pr && f.acc == .rw then { w with lock := w.lock || (new != old) }
  else { w with word := fput f.fld new w.word }

/-- A privilege violation by master `m` at full address `full` (R42, R46, R47). -/
def privViol (m full : Nat) (s : State) : State :=
  let first := !(s.flag SYS_ACCESS_STAT SYS_ACCESS_STAT_PRIVVIOL)
  let t := State.incFld SYS_ACCESS_STAT SYS_ACCESS_STAT_PRIV_CNT
    (State.setFlag SYS_ACCESS_STAT SYS_ACCESS_STAT_PRIVVIOL true s)
  let t := if first then State.setReg SYS_PRIV_ADDR (BitVec.ofNat 32 full)
      (State.setFld SYS_ACCESS_STAT SYS_ACCESS_STAT_PRIV_MASTER m t) else t
  raiseEv 253 0xFFFF t

/-- A lock violation by master `m` at full address `full` with attempted value `v` (R43, R46, R47). -/
def lockViol (m full : Nat) (v : Word) (s : State) : State :=
  let first := !(s.flag SYS_ACCESS_STAT SYS_ACCESS_STAT_LOCKVIOL)
  let t := State.incFld SYS_ACCESS_STAT SYS_ACCESS_STAT_LOCK_CNT
    (State.setFlag SYS_ACCESS_STAT SYS_ACCESS_STAT_LOCKVIOL true s)
  let t := if first then State.setReg SYS_LOCK_ADDR (BitVec.ofNat 32 full)
      (State.setFld SYS_ACCESS_STAT SYS_ACCESS_STAT_LOCK_MASTER m t) else t
  let t := raiseEv 254 0xFFFF t
  logOther { mkRec s 3 0xFFFF 0xFFFF (leBytes 4 full ++ leBytes 4 v.toNat) with master := m } t

/-- The fields of entry `i` of row `r`: the last word of a loop matrix has no upper entry (R10, R236). -/
def entryFields (r : RegRow) (i : Nat) : List FInfo :=
  if r.base = LOOP_MAT 0 0 ∧ i % 5 = 4 then r.fields.drop 1 else r.fields

/-- A write of `v` to the register entry `i` of row `r` through the view of full address `full`, field
by field; what the write of a field makes the hardware do besides is added by its own row. -/
def writeRow (m full : Nat) (r : RegRow) (i : Nat) (v : Word) (s : State) : State :=
  let a := r.addrOf i
  let locked := lockedBy s r.lock i
  let w := (entryFields r i).foldl (fun w f => writeField s m a (viewOf full) locked v w f)
    ⟨s.reg a, false, false, []⟩
  let t := State.setReg a w.word s
  let t := { t with wlSet := w.wl.foldl (fun u lo => Tab.put u false (32 * a + lo) true) t.wlSet }
  let t := if w.priv then privViol m full t else t
  if w.lock then lockViol m full v t else t

/-- The generic write of a register by full address (R36); an address that names no register is left
to the bus. -/
def regWrite (m full : Nat) (v : Word) (s : State) : State :=
  match regAt (normalOf full) with
  | none => s
  | some (r, i) => writeRow m full r i v s

/-! ### Bus errors and power domains (R39, R48, R349, R350) -/

/-- A bus error of `kind` by master `m` at full address `full` (R39, R48): it counts, the first one after
VALID was last 0 is captured, and EV246 is raised. -/
def busError (m full : Nat) (write : Bool) (kind : Nat) (s : State) : State :=
  let t := State.incFld SYS_BUSERR_STAT SYS_BUSERR_STAT_COUNT s
  let t := if s.flag SYS_BUSERR_STAT SYS_BUSERR_STAT_VALID then t
    else
      let w := fput SYS_BUSERR_STAT_VALID 1 (fput SYS_BUSERR_STAT_MASTER m (fput SYS_BUSERR_STAT_KIND kind
        (fput SYS_BUSERR_STAT_WRITE (b2n write) (t.reg SYS_BUSERR_STAT))))
      State.setReg SYS_BUSERR_ADDR (BitVec.ofNat 32 full) (State.setReg SYS_BUSERR_STAT w t)
  raiseEv 246 0xFFFF t

/-- Domain `d`. -/
def State.dom (s : State) (d : Nat) : Domain := Tab.get s.pow.domains {} d

/-- The state with domain `d` changed. -/
def State.modDom (d : Nat) (f : Domain → Domain) (s : State) : State :=
  { s with pow := { s.pow with domains := Tab.mod s.pow.domains {} d f } }

/-- Accesses into domain `d` end in DOMAIN_OFF (R349, R350): from its isolation request to the end of its
power-up. -/
def domOff (s : State) (d : Nat) : Bool :=
  (s.dom d).barred &&
  (match (s.dom d).upAt with
    | some u => decide (s.now < u)
    | none => true)

/-- The lowest channel of a set. -/
def lowestBit (m : Nat) : Nat := ((List.range 6).find? (fun c => bitOf m c)).getD 0

end Sys2Proof.Machine
end

