-- ==== Sys2Proof/Machine/CrcOps.lean ====
section
/-! DEFINITION. The check values of R457: Culvert frames, barges, Chart sections and the check units use
them. -/

namespace Sys2Proof.Machine

/-- A parameter set of R457. -/
structure CrcSet where
  /-- width in bits -/
  w : Nat
  /-- polynomial -/
  poly : Nat
  /-- initial value -/
  init : Nat
  /-- reflected -/
  refl : Bool
  /-- final XOR -/
  xorOut : Nat
  deriving DecidableEq, Repr

/-- CRC-8 (SAE J1850). -/
def crcJ1850 : CrcSet := ⟨8, 0x1D, 0xFF, false, 0xFF⟩

/-- CRC-16 (CCITT). -/
def crcCcitt : CrcSet := ⟨16, 0x1021, 0xFFFF, false, 0⟩

/-- CRC-32 (IEEE 802.3). -/
def crcIeee : CrcSet := ⟨32, 0x04C11DB7, 0xFFFFFFFF, true, 0xFFFFFFFF⟩

/-- CRC-32C. -/
def crcC : CrcSet := ⟨32, 0x1EDC6F41, 0xFFFFFFFF, true, 0xFFFFFFFF⟩

/-- CRC-64 (ECMA-182). -/
def crcEcma : CrcSet := ⟨64, 0x42F0E1EBA9EA3693, 0, false, 0⟩

/-- The set that POLY names; reserved codes act as CRC-32C (R457). -/
def crcSet (poly : Nat) : CrcSet :=
  match poly with
  | 0 => crcJ1850
  | 1 => crcCcitt
  | 2 => crcIeee
  | 4 => crcEcma
  | _ => crcC

/-- The low `n` bits of `x` in reverse order. -/
def reverseBits (n x : Nat) : Nat :=
  match n with
  | 0 => 0
  | m + 1 => x % 2 * 2 ^ m + reverseBits m (x / 2)

/-- One bit, most significant first, taken into a register of width `w`. -/
def crcBit (w poly crc : Nat) (bit : Bool) : Nat :=
  let sh := crc * 2 % 2 ^ w
  if bitOf crc (w - 1) != bit then sh ^^^ poly else sh

/-- The low `n` bits of `x`, most significant first, taken into the register. -/
def crcBits (w poly n x crc : Nat) : Nat :=
  match n with
  | 0 => crc
  | m + 1 => crcBits w poly m x (crcBit w poly crc (bitOf x m))

/-- One byte taken into the register; a reflected set takes its bits least significant first. -/
def crcByte (c : CrcSet) (crc b : Nat) : Nat :=
  crcBits c.w c.poly 8 (if c.refl then reverseBits 8 b else b) crc

/-- The check value that the register has come to. -/
def crcResult (c : CrcSet) (crc : Nat) : Nat := (if c.refl then reverseBits c.w crc else crc) ^^^ c.xorOut

/-- The check value of a list of bytes. -/
def crcOf (c : CrcSet) (bytes : List Nat) : Nat := crcResult c (bytes.foldl (crcByte c) c.init)

end Sys2Proof.Machine
end

