-- ==== Sys2Proof/Machine/CuOps.lean ====
section
/-! DEFINITION. The check units CU0 to CU3 (R456, R457). -/

namespace Sys2Proof.Machine

/-- Check unit `u` beside its registers. -/
def State.cu (s : State) (u : Nat) : Cu := Tab.get s.cus {} u

/-- The state with check unit `u` changed. -/
def State.modCu (u : Nat) (f : Cu → Cu) (s : State) : State := { s with cus := Tab.mod s.cus {} u f }

/-- The parameter set of check unit `u`. -/
def cuSet (s : State) (u : Nat) : CrcSet := crcSet (s.fld (CU_CFG u) CU_CFG_POLY)

/-- CU_LEN of check unit `u`. -/
def cuLen (s : State) (u : Nat) : Nat := (s.reg (CU_LEN u)).toNat

/-- GO arms unit `u` with the initial value of its polynomial. -/
def cuArm (u : Nat) (s : State) : State :=
  State.modCu u (fun _ => { crc := (cuSet s u).init, taken := 0 }) (State.setFlag (CU_STAT u) CU_STAT_BUSY true s)

/-- Unit `u` runs and has taken CU_LEN bytes. -/
def cuDone (s : State) (u : Nat) : Bool := s.flag (CU_STAT u) CU_STAT_BUSY && decide (cuLen s u ≤ (s.cu u).taken)

/-- The result of a run of unit `u`: CU_RES, DONE, MATCH or MISMATCH with its events, FLT44 + u with FLT_EN,
and the next run with REPEAT (R456). -/
def cuResult (u : Nat) (s : State) : State :=
  let c := cuSet s u
  let r := crcResult c (s.cu u).crc
  let e := ((s.reg (CU_EXP_LO u)).toNat + 2 ^ 32 * (s.reg (CU_EXP_HI u)).toNat) % 2 ^ c.w
  let t := State.setReg (CU_RES_LO u) (BitVec.ofNat 32 r) (State.setReg (CU_RES_HI u) (BitVec.ofNat 32 (r / 2 ^ 32)) s)
  let t := State.incFld (CU_STAT u) CU_STAT_RUNS (State.setFlag (CU_STAT u) CU_STAT_DONE true t)
  let t := State.setFlag (CU_STAT u) CU_STAT_MATCH (r == e) t
  let t := if r = e then raiseEv 196 u t
    else
      let t := raiseEv (192 + u) u (State.setFlag (CU_STAT u) CU_STAT_MISMATCH true t)
      if s.flag (CU_CFG u) CU_CFG_FLT_EN then raiseFault (44 + u) t else t
  if s.flag (CU_CFG u) CU_CFG_REPEAT then cuArm u t else State.setFlag (CU_STAT u) CU_STAT_BUSY false t

/-- Unit `u` takes bytes in order, none beyond CU_LEN; a run that has ended reports before the next one
takes (R456). -/
def cuTake (u : Nat) (bytes : List Nat) (s : State) : State :=
  let t := if cuDone s u then cuResult u s else s
  if t.flag (CU_STAT u) CU_STAT_BUSY then
    let l := bytes.take (cuLen t u - (t.cu u).taken)
    State.modCu u (fun x => { crc := l.foldl (crcByte (cuSet t u)) x.crc, taken := x.taken + l.length }) t
  else t

/-- Unit `u` observes source `src`; the reserved code acts as 0 (R456). -/
def cuSees (s : State) (u src : Nat) : Bool :=
  let x := s.fld (CU_CFG u) CU_CFG_SRC
  s.flag (CU_STAT u) CU_STAT_BUSY && (if x = 7 then 0 else x) == src

/-- The bytes of `l`, first at address `a`, that lie inside [CU_BASE, + CU_LEN) of unit `u`. -/
def cuInside (s : State) (u a : Nat) (l : List Nat) : List Nat :=
  let b := (s.reg (CU_BASE u)).toNat
  (l.zipIdx).filterMap (fun e => if b ≤ a + e.2 ∧ a + e.2 < b + cuLen s u then some e.1 else none)

/-- A Lodge bus access of a word at `a` passes the units that observe the bus. -/
def cuBus (write : Bool) (a : Nat) (v : Word) (s : State) : State :=
  (List.range 4).foldl (fun t u =>
    let b := (t.reg (CU_BASE u)).toNat
    if cuSees t u 0 && bitOf (t.reg (CU_FILT u)).toNat 0 == !write && decide (b ≤ a ∧ a < b + cuLen t u) then
      cuTake u ((List.range 4).map (fun i => v.toNat / 256 ^ i % 256)) t
    else t) s

/-- The payload of an accepted barge on port `p` passes the units that observe it. -/
def cuBarge (p src flow : Nat) (payload : List Nat) (s : State) : State :=
  (List.range 4).foldl (fun t u =>
    if cuSees t u (1 + p) && (t.reg (CU_FILT u)).toNat % 2 ^ 16 == 256 * src + flow then cuTake u payload t else t) s

/-- The data of a stored CAN frame pass the units that observe it. -/
def cuCan (c id : Nat) (data : List Nat) (s : State) : State :=
  (List.range 4).foldl (fun t u =>
    if cuSees t u 5 && (t.reg (CU_FILT u)).toNat == c * 2 ^ 29 + id then cuTake u data t else t) s

/-- Bytes read from flash, first at address `a`, pass the units that observe the flash path. -/
def cuFlash (a : Nat) (bytes : List Nat) (s : State) : State :=
  (List.range 4).foldl (fun t u => if cuSees t u 6 then cuTake u (cuInside t u a bytes) t else t) s

/-- The module reads `n` bytes of flash, the first at address `a`, while the Lodge runs (R456). -/
def flashRead (a n : Nat) (s : State) : State :=
  if (List.range 4).any (fun u => cuSees s u 6) then
    cuFlash a ((List.range n).map (fun i => (s.byte (flashBase + a + i)).toNat)) s
  else s

end Sys2Proof.Machine
end

