-- ==== Sys2Proof/Machine/PavOps.lean ====
section
/-! DEFINITION. What a Pavilion die does with a channel and a bank of channels (R93 to R122). -/

namespace Sys2Proof.Machine

/-- STATE codes of a channel (R101). -/
abbrev pavOff : Nat := 0
/-- ON -/
abbrev pavOn : Nat := 1
/-- INRUSH -/
abbrev pavInrush : Nat := 2
/-- SOFT -/
abbrev pavSoft : Nat := 3
/-- LATCHED -/
abbrev pavLatched : Nat := 4
/-- VETOED -/
abbrev pavVetoed : Nat := 5
/-- UVOFF -/
abbrev pavUvoff : Nat := 6

/-- Hidden state of channel `i`. -/
def State.chan (s : State) (i : Nat) : Chan := Tab.get s.chans {} i

/-- The state with the hidden state of channel `i` changed. -/
def State.modChan (i : Nat) (f : Chan → Chan) (s : State) : State :=
  { s with chans := Tab.mod s.chans {} i f }

/-- Undervoltage state of Pavilion `p`. -/
def State.uv (s : State) (p : Nat) : Uv := Tab.get s.uvs {} p

/-- The state with the undervoltage state of Pavilion `p` changed. -/
def State.modUv (p : Nat) (f : Uv → Uv) (s : State) : State :=
  { s with uvs := Tab.mod s.uvs {} p f }

/-- Channel `ch` belongs to a heavy pair: PAIR of the even channel of a heavy Pavilion is 1 (R94). -/
def paired (s : State) (ch : Nat) : Bool :=
  decide (ch < 32) && s.flag (PAV_CFG (ch / 2 * 2)) PAV_CFG_PAIR

/-- The channel whose registers govern `ch`: the even channel of a pair (R95). -/
def govern (s : State) (ch : Nat) : Nat := if paired s ch then ch / 2 * 2 else ch

/-- Nominal current in mA of the channel or pair that `g` governs (R93, R95). -/
def pavNominal (s : State) (g : Nat) : Nat :=
  if g / 16 < 2 then (if paired s g then 20000 else 10000)
  else if g / 16 < 4 then 4000 else 1200

/-- The class of a Pavilion: 0 heavy, 1 medium, 2 light (R93, R124). -/
def pavClass (p : Nat) : Nat := p / 2

/-- Class minimum on-time in ns (R93). -/
def pavMinOn (p : Nat) : Nat := match pavClass p with | 0 => 20000 | 1 => 10000 | _ => 5000

/-- PWM frequency in Hz of PWMF on Pavilion `p`, none for static (R98); codes above the class maximum
run at it. -/
def pavHz (p pwmf : Nat) : Option Nat :=
  let top := if pavClass p = 0 then 400 else 2000
  match pwmf with
  | 0 => none
  | 1 => some 100
  | 2 => some 200
  | 3 => some 400
  | 4 => some (if top < 1000 then top else 1000)
  | _ => some top

/-- The demand of the channel that `g` governs is on (R97). -/
def pavDemand (s : State) (g : Nat) : Bool :=
  s.flag (PAV_CMD g) PAV_CMD_ON && s.fld (PAV_CMD g) PAV_CMD_DUTY != 0

/-- STATE of the channel that `g` governs. -/
def pavState (s : State) (g : Nat) : Nat := s.fld (PAV_STAT g) PAV_STAT_STATE

/-- The output is on or in PWM: ON, INRUSH or SOFT (R101). -/
def pavLive (s : State) (g : Nat) : Bool :=
  pavState s g == pavOn || pavState s g == pavInrush || pavState s g == pavSoft

/-- A veto holds: the thermal veto of either half of a pair, or the wire veto (R105, R106). -/
def pavVeto (s : State) (g : Nat) : Bool :=
  s.flag (PAV_STAT g) PAV_STAT_VETO_T || s.flag (PAV_STAT g) PAV_STAT_VETO_W ||
  (paired s g && s.flag (PAV_STAT (g + 1)) PAV_STAT_VETO_T)

/-- Undervoltage or Over holds turn-ons of Pavilion `p` off (R113, R114). -/
def pavUvNow (s : State) (p : Nat) : Bool := (s.uv p).act || inOver s

/-- The window, ramp, retry and periods of a channel end. -/
def Chan.stop (c : Chan) : Chan :=
  { c with inrEnd := none, retryDue := none, retryHeld := false, vetoRetry := false, softEnd := none,
           nextPeriod := none }

/-- A protection layer or the supply takes the channel off at `now` (R27, R115). -/
def Chan.hit (c : Chan) (now : Nat) : Chan := { c.stop with hitAt := some now }

/-- A protection layer or the supply took channel `g` off in this very instant (R115). -/
def pavHitNow (s : State) (g : Nat) : Bool := (s.chan g).hitAt == some s.now

/-- STATE of `g` becomes `st`; CLAMP and STRETCHED apply only while the output is on (R99, R136). -/
def setPavState (g st : Nat) (s : State) : State :=
  let t := State.setFld (PAV_STAT g) PAV_STAT_STATE st s
  if st = pavOn ∨ st = pavInrush ∨ st = pavSoft then t
  else State.setFlag (MEAS_DIAG g) MEAS_DIAG_STRETCHED false (State.setFlag (PAV_STAT g) PAV_STAT_CLAMP false t)

/-- PWM frequency of channel `g` in Hz, none for static (R98); in SOFT, and under a safe state with PWM, the class
maximum stands in place of static (R113, R118). -/
def pavFreq (s : State) (g : Nat) (soft : Bool) : Option Nat :=
  match pavHz (g / 16) (s.fld (PAV_CFG g) PAV_CFG_PWMF) with
  | some hz => some hz
  | none => if soft || (s.chan g).safePwm then pavHz (g / 16) 6 else none

/-- An on-time of `duty` in a period at `hz` is raised to the class minimum (R99). -/
def pavClamps (p hz duty : Nat) : Bool :=
  duty != 0 && duty != 0xFFFF && decide (1000000000 / hz * duty / 65536 < pavMinOn p)

/-- CLAMP of channel `g` for a period of `duty` that starts now (R99). -/
def setClamp (g duty : Nat) (soft : Bool) (s : State) : State :=
  match pavFreq s g soft with
  | some hz => State.setFlag (PAV_STAT g) PAV_STAT_CLAMP (pavClamps (g / 16) hz duty) s
  | none => State.setFlag (PAV_STAT g) PAV_STAT_CLAMP false s

/-- CLAMP of a channel that runs static now: no on-time is raised (R99). -/
def staticClamp (g : Nat) (s : State) : State :=
  if (pavFreq s g (pavState s g == pavSoft)).isNone then State.setFlag (PAV_STAT g) PAV_STAT_CLAMP false s else s

/-- PWM period of channel `g` in ns, none for static (R98). -/
def pavPeriod (s : State) (g : Nat) (soft : Bool) : Option Nat :=
  (pavFreq s g soft).map (fun hz => 1000000000 / hz)

/-- Nominal on-time in ns of a period with `duty` (R99): 0xFFFF is continuous, a short on-time is raised to
the class minimum, a short off-time keeps the output on. -/
def onTimeOf (p period duty : Nat) : Nat :=
  let t := period * duty / 65536
  if duty = 0 then 0
  else if duty = 0xFFFF then period
  else if t < pavMinOn p then pavMinOn p
  else if period - t < pavMinOn p then period
  else t

/-- The next period start of channel `g` after now: period starts stand at PHASE/256 of the period in the timebase of its
die (R99, R100; log entry 69). -/
def pavNextStart (s : State) (g period : Nat) : Nat :=
  let off := period * s.fld (PAV_CFG g) PAV_CFG_PHASE / 256
  if s.now < off then off else off + ((s.now - off) / period + 1) * period

/-- When the period after the present one starts, none for a static channel (R98, R100). -/
def pavNext (s : State) (g : Nat) (soft : Bool) : Option Nat :=
  (pavPeriod s g soft).map (fun period => pavNextStart s g period)

/-- On-time of a period of channel `g` with `duty` that starts now; 0 for a static channel (R99). -/
def pavPulse (s : State) (g duty : Nat) (soft : Bool) : Nat :=
  match pavPeriod s g soft with
  | some period => onTimeOf (g / 16) period duty
  | none => 0

/-- On-time of the present period of channel `g` from time `a` on, in ns (R103): the output is off after its pulse. -/
def onFrom (s : State) (g a : Nat) : Nat :=
  let c := s.chan g
  let e := match pavPeriod s g (pavState s g == pavSoft) with
    | some _ => Nat.min s.now (c.pulseAt + c.pulse)
    | none => s.now
  e - Nat.max a c.pulseAt

/-- On-time of channel `g` since its last turn-on, in ns (R103, R104). -/
def onTotal (s : State) (g : Nat) : Nat := (s.chan g).onSum + onFrom s g 0

/-- On-time of channel `g` since the end of its inrush window, in ns (R103). -/
def onAfter (s : State) (g : Nat) : Nat :=
  match (s.chan g).winEnd with
  | some e => (s.chan g).winSum + onFrom s g e
  | none => onTotal s g

/-- The present period of channel `g` ends now, and what it had of on-time counts (R103). -/
def nextPulse (g : Nat) (s : State) : State :=
  State.modChan g (fun c => { c with onSum := onTotal s g, winSum := onAfter s g, pulseAt := s.now }) s

/-- The pulse and the remaining debt of a period with nominal on-time `ton` (R136). -/
def repay (debt ton tmin : Nat) : Nat × Nat :=
  if ton ≤ debt then (0, debt - ton)
  else
    let pulse := if ton - debt < tmin then tmin else ton - debt
    (pulse, debt - (ton - pulse))

/-- Soft-start time of Pavilion `p` in ns (R113). -/
def ssTime (s : State) (p : Nat) : Nat := s.fld (PAV_BANK p) PAV_BANK_SS_TIME * 4000000

/-- A turn-on (R101): it counts in SWCNT, clears VALID of MEAS_IV (R129), and opens an inrush window where
INR_TIME is not 0 (R103); with `soft` the duty ramps over SS_TIME (R113). The first period starts at once, later ones
follow the timebase (R100); it repays of a debt that stands (R136). A pair counts its turn-ons in its even half (log
entry 69). -/
def turnOn (g : Nat) (soft : Bool) (s : State) : State :=
  let inr := s.fld (PAV_PROT g) PAV_PROT_INR_TIME * 4000000
  let ss := ssTime s (g / 16)
  let ramp := soft && ss != 0
  let t := setPavState g (if ramp then pavSoft else if inr = 0 then pavOn else pavInrush)
    (State.setFlag (MEAS_IV g) MEAS_IV_VALID false s)
  let duty := if ramp then 0 else s.fld (PAV_CMD g) PAV_CMD_DUTY
  let r := repay (s.chan g).debt (pavPulse s g duty ramp) (pavMinOn (g / 16))
  setClamp g duty ramp (State.modChan g (fun c => { c.stop with
    swDie := c.swDie + 1,
    onAt := some s.now, pulseAt := s.now, onSum := 0, winSum := 0,
    inrEnd := (if inr = 0 then none else some (s.now + inr)),
    winEnd := (if inr = 0 then none else some (s.now + inr)),
    nextPeriod := pavNext s g ramp, pulse := r.1, debt := r.2, debtWas := c.debt,
    softStart := s.now, softFrom := 0,
    softEnd := (if ramp then some (s.now + ss) else none),
    duty := duty }) t)

/-- A turn-on is due while a veto holds: the channel enters VETOED and EV028 is raised (R106). -/
def enterVetoed (g : Nat) (retry : Bool) (s : State) : State :=
  let t := State.modChan g (fun c => { c.stop with vetoRetry := retry }) (setPavState g pavVetoed s)
  if pavState s g = pavVetoed then t else dieEv (dieOfPav (g / 16)) 28 g t

/-- A turn-on of `g` falls due by a demand edge, a CLR, a restart or the clearing of a veto (R106, R113); where a veto
and undervoltage or Over both hold it, the channel enters VETOED (log entry 69). A channel whose pin is not claimed
stays off (R313). -/
def turnOnDue (g : Nat) (soft : Bool) (s : State) : State :=
  if !pinFirst s (pinOfPav g) then s
  else if pavVeto s g then enterVetoed g false s
  else if pavUvNow s (g / 16) then
    State.modChan g Chan.stop (State.setFlag (PAV_STAT g) PAV_STAT_UV true (setPavState g pavUvoff s))
  else turnOn g soft s

/-- A due retry is performed and counted (R107). -/
def doRetry (g : Nat) (s : State) : State :=
  turnOn g false (State.setFld (PAV_STAT g) PAV_STAT_RETRIES (s.fld (PAV_STAT g) PAV_STAT_RETRIES + 1) s)

/-- The channel goes to OFF, RETRIES clears (R101), and so does the stretch debt (R136). -/
def goOff (g : Nat) (s : State) : State :=
  State.modChan g (fun c => { c.stop with debt := 0, offAt := some s.now })
    (State.setFld (PAV_STAT g) PAV_STAT_RETRIES 0 (setPavState g pavOff s))

/-- A retry that was held falls due again (R110): it waits for a veto, is cancelled where the demand is off (R115), and
else is performed. -/
def heldRetry (g : Nat) (s : State) : State :=
  if !pavDemand s g then goOff g s
  else if pavVeto s g then enterVetoed g true s
  else doRetry g s

/-- The soft start of an UVOFF restart uses UV_SOFT of the channel (R113). -/
def uvSoft (s : State) (g : Nat) : Bool := s.flag (PAV_CFG g) PAV_CFG_UV_SOFT

/-- Channels of Pavilion `p` that govern themselves, in channel order. -/
def pavChannels (s : State) (p : Nat) : List Nat :=
  ((List.range 16).map (fun k => 16 * p + k)).filter (fun ch => govern s ch == ch)

/-- EV023 is raised once every UVOFF channel of the Pavilion has restarted and no soft start begun by
those restarts runs (R113). -/
def checkRestarted (p : Nat) (s : State) : State :=
  if (s.uv p).owing && (s.uv p).queue.isEmpty &&
      (pavChannels s p).all (fun g => pavState s g != pavUvoff && pavState s g != pavSoft) then
    dieEv (dieOfPav p) 23 p (State.modUv p (fun u => { u with owing := false }) s)
  else s

/-- What a latch cause sets and raises: its bit, its event and its count (R102, R104, R105, R111, R122). -/
inductive LatchCause where
  | ocl | hlim | therm | wire
  deriving DecidableEq, Repr

/-- The cause bit of a latch. -/
def LatchCause.bit (c : LatchCause) : Fld :=
  match c with
  | .ocl => PAV_STAT_OCL
  | .hlim => PAV_STAT_HLIM
  | .therm => PAV_STAT_THERM
  | .wire => PAV_STAT_WIRE

/-- The event of a latch. -/
def LatchCause.ev (c : LatchCause) : Nat :=
  match c with
  | .ocl => 16
  | .hlim => 17
  | .therm => 18
  | .wire => 19

/-- The place of a latch cause in the hidden word of causes. -/
def LatchCause.place (c : LatchCause) : Nat :=
  match c with
  | .ocl => 0
  | .hlim => 1
  | .therm => 2
  | .wire => 3

/-- The latch counts in SCCNT: OCL and HLIM (R121). -/
def LatchCause.counts (c : LatchCause) : Bool := c == .ocl || c == .hlim

/-- RETRY_DLY in ns, 0 acting as 1 (R124). -/
def retryDelay (s : State) (g : Nat) : Nat :=
  (if s.fld (PAV_CFG g) PAV_CFG_RETRY_DLY = 0 then 1 else s.fld (PAV_CFG g) PAV_CFG_RETRY_DLY) * 20000000

/-- The register and hidden state of a latch (R101, R107, R108). -/
def latchState (g : Nat) (c : LatchCause) (s : State) : State :=
  let more := decide (s.fld (PAV_STAT g) PAV_STAT_RETRIES < s.fld (PAV_PROT g) PAV_PROT_RETRY_N)
  State.modChan g (fun x => { x.hit s.now with
      retryDue := (if more && c != .wire then some (s.now + retryDelay s g) else none),
      scDie := x.scDie + b2n c.counts, causes := 2 ^ c.place, capture := c.counts })
    (State.setFlag (PAV_STAT g) c.bit true (setPavState g pavLatched s))

/-- EV030 when SCCNT of the channel reaches 900 000, once (R122). -/
def checkEndured (g : Nat) (s : State) : State :=
  if 900000 ≤ (s.chan g).scDie + (s.chan g).scMram && !(s.chan g).endured then
    dieEv (dieOfPav (g / 16)) 30 g (State.modChan g (fun x => { x with endured := true }) s)
  else s

/-- A latch cause can act on channel `g` now: the output is on, or went off for undervoltage in this very instant
(R115). -/
def pavLatches (s : State) (g : Nat) : Bool := pavLive s g || (pavHitNow s g && pavState s g == pavUvoff)

/-- A second cause of a latch of this very instant (R115): its bit and its event; SCCNT counts one event for the latch,
and a WIRE cause leaves no retry (R108). -/
def latchToo (g : Nat) (c : LatchCause) (s : State) : State :=
  let d := dieOfPav (g / 16)
  let had := (s.chan g).causes
  let last := s.fld (PAV_STAT g) PAV_STAT_RETRIES == s.fld (PAV_PROT g) PAV_PROT_RETRY_N
  let t := State.modChan g (fun x => { x with
      retryDue := if c == .wire then none else x.retryDue,
      scDie := x.scDie + b2n (c.counts && decide (had % 4 = 0)),
      causes := setBitN had c.place, capture := x.capture || c.counts })
    (State.setFlag (PAV_STAT g) c.bit true s)
  let t := dieEv d c.ev g t
  let t := if c.counts then checkEndured g t else t
  match c with
  | .wire => dieFault d (8 + g / 16) t
  | _ => if last && had == 8 then dieEv d 21 g t else t

/-- A latch of the live channel that `g` governs (R102 to R111): state, event, and where no retry
remains EV021 with the Pavilion's fault source; a wire trip raises the source too (R436). -/
def latchFirst (g : Nat) (c : LatchCause) (s : State) : State :=
  let d := dieOfPav (g / 16)
  let last := s.fld (PAV_STAT g) PAV_STAT_RETRIES == s.fld (PAV_PROT g) PAV_PROT_RETRY_N
  let t := dieEv d c.ev g (latchState g c s)
  let t := if c.counts then checkEndured g t else t
  checkRestarted (g / 16) (match c with
    | .wire => dieFault d (8 + g / 16) t
    | _ => if last then dieFault d (8 + g / 16) (dieEv d 21 g t) else t)

/-- A latch cause reaches channel `g` (R102 to R111, R115): a live channel latches, a channel that latched in this very
instant takes the further cause, and any other is left alone. -/
def latch (g : Nat) (c : LatchCause) (s : State) : State :=
  if pavLatches s g then latchFirst g c s
  else if pavHitNow s g && pavState s g == pavLatched && !bitOf (s.chan g).causes c.place then latchToo g c s
  else s

/-- The next step of a vetoed channel when a veto clears: it turns on in the first cycle in which every
veto is clear and the demand is still on (R106); with the demand off it goes to OFF (R101, R115). A retry that waited,
and that undervoltage, Over or Moored hold keeps back then, returns to LATCHED, held (log entry 69). -/
def vetoCleared (g : Nat) (s : State) : State :=
  if pavState s g = pavVetoed && !pavVeto s g then
    if !pavDemand s g then goOff g s
    else if (s.chan g).vetoRetry then
      if pavUvNow s (g / 16) || (s.bank (g / 16)).moored then
        State.modChan g (fun c => { c.stop with retryHeld := true }) (setPavState g pavLatched s)
      else doRetry g s
    else turnOnDue g false s
  else s

/-- Remaining part of a soft ramp towards a new duty: the slope is new duty / SS_TIME, and a duty at or below the present
one ends the ramp at the next period start (R115). -/
def retargetSoft (g duty : Nat) (old : Nat) (s : State) : State :=
  let ss := ssTime s (g / 16)
  let c := s.chan g
  let present := if ss = 0 then old else c.softFrom + old * (s.now - c.softStart) / ss
  let e := if duty ≤ present then c.nextPeriod.getD s.now else s.now + ss * (duty - present) / duty
  State.modChan g (fun c => { c with softStart := s.now, softFrom := present, softEnd := some e }) s

/-- An applied PAV_CMD word with ON, DUTY and CLR (R97, R100, R109). While the Pavilion does not
serve (ENABLE 0, or not yet claimed) the word is held and no demand is applied (R101). -/
def applyPavCmd (ch : Nat) (on : Bool) (duty : Nat) (clr : Bool) (s : State) : State :=
  if govern s ch != ch then s
  else
    let old := pavDemand s ch
    let oldDuty := s.fld (PAV_CMD ch) PAV_CMD_DUTY
    let t := State.setFld (PAV_CMD ch) PAV_CMD_DUTY duty (State.setFlag (PAV_CMD ch) PAV_CMD_ON on s)
    let t := staticClamp ch (State.modChan ch (fun c => { c with safePwm := false }) t)
    if !serving s (ch / 16) then t
    else if !pavDemand t ch then
      checkRestarted (ch / 16) (if pavState s ch = pavOff then t else goOff ch t)
    else
      let t := if clr then State.setFld (PAV_STAT ch) PAV_STAT_RETRIES 0 t else t
      let t := if duty != oldDuty && pavState s ch == pavSoft then retargetSoft ch duty oldDuty t else t
      let edge := !old && (pavState s ch == pavOff || pavState s ch == pavVetoed)
      let restart := clr && (pavState s ch == pavLatched || pavState s ch == pavVetoed)
      if edge || restart then turnOnDue ch false t else t

/-- A demand that goes off in the cycle in which a veto cleared or a retry fell due wins (R115): the turn-on of that
cycle did not take place. A word for the odd half of a pair is no demand (R95). -/
def undoTurnOn (ch : Nat) (w : Word) (s : State) : State :=
  if govern s ch == ch && !(fget PAV_CMD_ON w == 1 && fget PAV_CMD_DUTY w != 0) && (s.chan ch).onAt == some s.now &&
      pavLive s ch then
    State.modChan ch (fun c => { c with swDie := c.swDie - 1 }) s
  else s

/-- The demand of a channel is set by a safe-state table entry: never a demand edge for a channel that
is LATCHED or VETOED (R118). -/
def safeChannel (g : Nat) (s : State) : State :=
  let safe := s.fld (PAV_CFG g) PAV_CFG_SAFE
  let on := safe == 1 || (safe == 3 && s.fld (PAV_CFG g) PAV_CFG_SAFE_DUTY != 0)
  let duty := if safe = 3 then s.fld (PAV_CFG g) PAV_CFG_SAFE_DUTY * 257 else 0xFFFF
  if safe = 2 then s
  else
    let old := pavDemand s g
    let t := if safe = 0 then State.setFlag (PAV_CMD g) PAV_CMD_ON false s
      else State.setFld (PAV_CMD g) PAV_CMD_DUTY duty (State.setFlag (PAV_CMD g) PAV_CMD_ON true s)
    let t := State.modChan g (fun c => { c with safePwm := safe == 3 }) t
    let t := if pavState s g = pavSoft ∧ on then retargetSoft g duty (s.fld (PAV_CMD g) PAV_CMD_DUTY) t else t
    let t := if pavLive s g ∧ (s.chan g).nextPeriod = none then
        State.modChan g (fun c => { c with
          nextPeriod := pavNext t g (pavState s g == pavSoft),
          pulseAt := s.now, onSum := onTotal s g, winSum := onAfter s g,
          pulse := (pavNext t g (pavState s g == pavSoft)).getD s.now - s.now }) t
      else t
    if !serving s (g / 16) || pavState s g == pavLatched || pavState s g == pavVetoed then t
    else if !on then (if pavState s g = pavOff then t else goOff g t)
    else if !old && pavState s g == pavOff then turnOnDue g false t
    else t

/-- Every channel of Pavilion `p` takes its entry of the safe-state table (R118). -/
def pavSafeState (p : Nat) (s : State) : State :=
  checkRestarted p ((pavChannels s p).foldl (fun t g => safeChannel g t) s)

/-- An UVOFF channel restarts; one whose demand is off goes to OFF (R101, R113). -/
def uvRestartOne (g : Nat) (s : State) : State :=
  if pavState s g = pavUvoff then (if pavDemand s g then turnOnDue g (uvSoft s g) s else goOff g s) else s

/-- The ordered restart of Pavilion `p` begins: the first UVOFF channel restarts now, the others wait
for their slots 50 µs apart; retries held for undervoltage fall due again (R110, R113, R114). -/
def uvRestart (p : Nat) (s : State) : State :=
  let held := (pavChannels s p).filter (fun g => pavState s g == pavLatched && (s.chan g).retryHeld)
  let q := (pavChannels s p).filter (fun g => pavState s g == pavUvoff)
  let t := held.foldl (fun t g => if (s.bank p).moored then t else heldRetry g t) s
  match q with
  | [] => t
  | g :: rest =>
    let t := State.modUv p (fun u => { u with queue := rest, slotDue := s.now + 50000, owing := true }) t
    checkRestarted p (uvRestartOne g t)

/-- Channel `g` latched in this very instant, in which an undervoltage or Over turn-off reaches it too (R115). -/
def latchedNow (s : State) (g : Nat) : Bool := pavState s g == pavLatched && pavHitNow s g

/-- An undervoltage or Over turn-off of channel `g` (R71, R113): a channel that latches in the same instant stays
LATCHED with UV set (R115). -/
def uvOffOne (g : Nat) (s : State) : State :=
  if pavLive s g then
    State.modChan g (fun c => c.hit s.now) (State.setFlag (PAV_STAT g) PAV_STAT_UV true (setPavState g pavUvoff s))
  else if latchedNow s g then State.setFlag (PAV_STAT g) PAV_STAT_UV true s
  else s

/-- An undervoltage or Over turn-off of the channels of Pavilion `p` (R71, R113). -/
def uvOff (p : Nat) (s : State) : State :=
  (pavChannels s p).foldl (fun t g => uvOffOne g t) (State.modUv p (fun u => { u with queue := [] }) s)

/-- Every channel of a Pavilion goes to OFF and pending retries are cancelled, as when ENABLE is
written 0 (R101). -/
def pavDisable (p : Nat) (s : State) : State :=
  ((List.range 16).map (fun k => 16 * p + k)).foldl (fun t g => goOff g t)
    (State.modUv p (fun u => { u with queue := [], owing := false }) s)

/-- The demands of Pavilion `p` are applied, as when its check is accepted: a channel whose demand is on
turns on from OFF (R101). -/
def pavEnable (p : Nat) (s : State) : State :=
  (pavChannels s p).foldl (fun t g =>
    if pavDemand t g && pavState t g == pavOff then turnOnDue g false t else t) s

/-- MEAS_DIAG of Pavilion `p` is lost with its power (R145). -/
def dropDiag (p : Nat) (s : State) : State :=
  (List.range 16).foldl (fun t k => State.setReg (MEAS_DIAG (16 * p + k)) (regReset (MEAS_DIAG (16 * p + k))) t) s

/-- Moored hold of Pavilion `p` (R120): channels with MOOR_KEEP = 0 turn off, to return at the next
claim, in LATCHED and VETOED too (log entry 69); with no kept channel the Pavilion is powered down, and MEAS_DIAG is lost.
VALID of MEAS_IV is cleared (R145). -/
def pavMoor (p : Nat) (s : State) : State :=
  let t := (pavChannels s p).foldl (fun t g =>
    if t.flag (PAV_CFG g) PAV_CFG_MOOR_KEEP then t
    else if pavState t g = pavOff then t
    else State.modChan g (fun c => { c with moorOff := true }) (goOff g t)) s
  let t := checkRestarted p ((List.range 16).foldl (fun t k =>
    State.setFlag (MEAS_IV (16 * p + k)) MEAS_IV_VALID false t) t)
  let kept := (pavChannels s p).any (fun g => s.flag (PAV_CFG g) PAV_CFG_MOOR_KEEP)
  State.setFlag (PAV_BSTAT p) PAV_BSTAT_MOOR kept (if kept then t else dropDiag p t)

/-- The end of Moored hold of Pavilion `p` at a claim: channels return to their demand, retries fall
due again (R110, R120). -/
def pavUnmoor (p : Nat) (s : State) : State :=
  let t := State.setFlag (PAV_BSTAT p) PAV_BSTAT_MOOR false s
  (pavChannels s p).foldl (fun t g =>
    if (t.chan g).moorOff then
      let t := State.modChan g (fun c => { c with moorOff := false }) t
      if pavDemand t g && pavState t g == pavOff && serving t p then turnOnDue g false t else t
    else if pavState t g == pavLatched && (t.chan g).retryHeld && !pavUvNow t p then heldRetry g t
    else t) t

end Sys2Proof.Machine
end

