-- ==== Sys2Proof/Machine/MeasOps.lean ====
section
/-! DEFINITION. Measurement, diagnosis and harness-health trending of the high-side channels (R125 to
R147). -/

namespace Sys2Proof.Machine

/-- Measurement state of channel `g`. -/
def State.mch (s : State) (g : Nat) : MeasCh := Tab.get s.meas.chans {} g

/-- The state with the measurement state of channel `g` changed. -/
def State.modMch (g : Nat) (f : MeasCh → MeasCh) (s : State) : State :=
  { s with meas := { s.meas with chans := Tab.mod s.meas.chans {} g f } }

/-- Current LSB of channel `g` in 0.1 mA (R125). -/
def measLsb (s : State) (g : Nat) : Nat :=
  if g / 16 < 2 then (if paired s g then 10 else 5) else if g / 16 < 4 then 2 else 1

/-- OL_TH, 0 acting as 1 (R147). -/
def olTh (s : State) (g : Nat) : Nat :=
  if s.fld (MEAS_DCFG g) MEAS_DCFG_OL_TH = 0 then 1 else s.fld (MEAS_DCFG g) MEAS_DCFG_OL_TH

/-- A mean current of `i` LSB lies below OL_TH (R130). -/
def belowOl (s : State) (g i : Nat) : Bool := decide (i * measLsb s g * 40 < olTh s g * pavNominal s g)

/-- Confirmations that a result needs: OL_CNT + 1 (R130, R131, R134). -/
def olNeed (s : State) (g : Nat) : Nat := s.fld (MEAS_DCFG g) MEAS_DCFG_OL_CNT + 1

/-- CODE of channel `g`. -/
def diagCode (s : State) (g : Nat) : Nat := s.fld (MEAS_DIAG g) MEAS_DIAG_CODE

/-- CODE takes a confirmed result, set by observations of kind `by'`; its sticky bit, where it has one, is
set and its event raised (R130, R131, R133). -/
def diagConfirm (g code by' : Nat) (s : State) : State :=
  let d := dieOfPav (g / 16)
  let t := State.modMch g (fun x => { x with codeBy := by', good := 0 })
    (State.setFld (MEAS_DIAG g) MEAS_DIAG_CODE code s)
  match code with
  | 1 => dieEv d 32 g (State.setFlag (MEAS_DIAG g) MEAS_DIAG_OPEN_ON true t)
  | 2 => dieEv d 33 g (State.setFlag (MEAS_DIAG g) MEAS_DIAG_OPEN_OFF true t)
  | 3 => dieEv d 34 g (State.setFlag (MEAS_DIAG g) MEAS_DIAG_SHORT_BAT true t)
  | 4 => dieEv d 35 g (State.setFlag (MEAS_DIAG g) MEAS_DIAG_SHORT_GND true t)
  | _ => t

/-- CODE returns to OK with EV036 (R134). -/
def diagOk (g : Nat) (s : State) : State :=
  dieEv (dieOfPav (g / 16)) 36 g
    (State.modMch g (fun x => { x with good := 0 }) (State.setFld (MEAS_DIAG g) MEAS_DIAG_CODE 0 s))

/-- A good observation of kind `by'` (R134): `need` of them in a row return CODE to OK. -/
def diagGood (g by' need : Nat) (s : State) : State :=
  if diagCode s g = 0 ∨ (s.mch g).codeBy ≠ by' then s
  else if need ≤ (s.mch g).good + 1 then diagOk g s
  else State.modMch g (fun x => { x with good := x.good + 1 }) s

/-! ### The slots of a Pavilion (R125, R127) -/

/-- The arbiter of Pavilion `b`. -/
def State.arb (s : State) (b : Nat) : Arbiter := Tab.get s.meas.arbs {} b

/-- The state with the arbiter of Pavilion `b` changed. -/
def State.modArb (b : Nat) (f : Arbiter → Arbiter) (s : State) : State :=
  { s with meas := { s.meas with arbs := Tab.mod s.meas.arbs {} b f } }

/-- Number of the present 1 µs slot in the timebase of the dies (R125). -/
def slotNow (s : State) : Nat := s.now / 1000

/-- The foreground had slot `n` of Pavilion `b`. -/
def fgHad (s : State) (b n : Nat) : Bool := (s.arb b).fg.any (fun e => decide (e.1 < n + e.2 ∧ n ≤ e.1))

/-- Background had a slot in slots 0 to 14 of the frame of slot `n`, before it (R127). -/
def bgServed (s : State) (b n : Nat) : Bool := (s.arb b).bg.any (fun k => k / 16 == n / 16 && decide (k < n ∧ k % 16 < 15))

/-- Slot `n` is the one of its frame that is reserved for background (R127). -/
def reservedSlot (s : State) (b n : Nat) : Bool := n % 16 == 15 && !bgServed s b n

/-- Slots that a burst of 8 samples ending with slot `n` spans: 9 when the reserved slot falls among them (R128). -/
def burstSpan (s : State) (b n : Nat) : Nat :=
  if (List.range 8).any (fun k => decide (k ≤ n) && reservedSlot s b (n - k)) then 9 else 8

/-- A foreground grant of Pavilion `b` that spans the `k` slots up to the present one (R127). -/
def takeFg (b k : Nat) (s : State) : State :=
  let n := slotNow s
  State.modArb b (fun x => { x with fg := (n, k) :: x.fg.filter (fun e => decide (n < e.1 + 4096)) }) s

/-- Background takes the present slot of Pavilion `b` (R127). -/
def takeBg (b : Nat) (s : State) : State :=
  let n := slotNow s
  State.modArb b (fun x => { x with bg := n :: x.bg.filter (fun k => decide (n < k + 4096)) }) s

/-- The slots of a foreground grant of `e.2` slots ending with slot `e.1` that lie among the last 4096 (R147): the
reserved slot inside a burst of 9 is not one. -/
def grantSlots (s : State) (e : Nat × Nat) : Nat :=
  ((List.range e.2).filter (fun k => decide (slotNow s < e.1 - k + 4096) && !(e.2 == 9 && (e.1 - k) % 16 == 15))).length

/-- Foreground slots among the last 4096, in 16-slot units (R147). -/
def fgShare (s : State) (b : Nat) : Nat :=
  clampN 0 255 ((((s.arb b).fg.foldl (fun n e => n + grantSlots s e) 0)) / 16)

/-- Background slots among the last 4096, in 16-slot units (R147). -/
def bgShare (s : State) (b : Nat) : Nat :=
  clampN 0 255 (((s.arb b).bg.filter (fun k => decide (slotNow s < k + 4096))).length / 16)

/-- Measurement of the bank of channel `g` runs: it stops in Moored and Berthed (R145). -/
def measRuns (s : State) (g : Nat) : Bool := !(s.bank (g / 16)).moored && !lowPower s

/-- The slots that Pavilion `b` has completed (R147): the counter wraps. -/
def countSlots (b n : Nat) (s : State) : State :=
  State.setReg (MEAS_SCNT b) (s.reg (MEAS_SCNT b) + BitVec.ofNat 32 n) s

/-- DIAG_PER in ns, 0 acting as 1 (R147). -/
def diagPeriod (s : State) : Nat :=
  (if s.fld MEAS_CFG MEAS_CFG_DIAG_PER = 0 then 1 else s.fld MEAS_CFG MEAS_CFG_DIAG_PER) * 1000000

/-- The `n`-th consecutive result confirms CODE `code` (R130, R131, R134): as the run becomes long enough, and again
while the run goes on where another result has taken CODE since. -/
def confirms (s : State) (g n code : Nat) : Bool :=
  decide (olNeed s g ≤ n) && (n == olNeed s g || diagCode s g != code)

/-- Longest time from a turn-on to 90 % of the output swing on Pavilion `p`, in ns (R93). -/
def swingMax (p : Nat) : Nat := match pavClass p with | 0 => 60000 | 1 => 40000 | _ => 25000

/-- A burst of channel `g` is owed (R129): its first on-time after a turn-on, or DIAG_PER after the last burst. -/
def burstOwed (s : State) (g : Nat) : Bool :=
  s.flag (MEAS_DCFG g) MEAS_DCFG_DIAG_EN && pavLive s g && measRuns s g &&
    (!s.flag (MEAS_IV g) MEAS_IV_VALID || decide ((s.mch g).burstDue ≤ s.now))

/-- An owed burst of channel `g` wants the present slot (R127 to R129): 31 µs have passed since the output stood, at the
latest, at 90 % of its swing; under PWM in the 9 slots after them, in an on-time that holds the burst. -/
def burstWants (s : State) (g : Nat) : Bool :=
  let c := s.chan g
  let first := c.pulseAt + swingMax (g / 16) + 31000
  burstOwed s g && decide (first ≤ s.now) &&
  (match pavPeriod s g (pavState s g == pavSoft) with
    | some _ => decide (s.now < first + 9000 ∧ first + 9000 ≤ c.pulseAt + c.pulse)
    | none => true)

/-- The present slot of Pavilion `b` goes to background (R127, R144): no foreground request had it or wants it, or it is
the reserved slot of a frame in which background has had none. -/
def bgMay (s : State) (b : Nat) : Bool :=
  let n := slotNow s
  !(s.arb b).bg.contains n &&
  (reservedSlot s b n || (!fgHad s b n && !(pavChannels s b).any (fun g => burstWants s g)))

/-- The `k` slots of Pavilion `b` up to the present one were a burst's own (R127, R128): foreground had none of them
before, and background none but the reserved one. -/
def slotsOwn (s : State) (b k : Nat) : Bool :=
  let n := slotNow s
  (List.range k).all (fun j => decide (j ≤ n) && !fgHad s b (n - j)) &&
  decide (((List.range k).filter (fun j => (s.arb b).bg.contains (n - j))).length + 8 ≤ k)

/-- The present on-time of channel `g` holds a burst of `k` slots that ends now (R128): 31 µs and the slots, beside the
swing, have passed since it began, and the output has not turned off. -/
def burstFits (s : State) (g k : Nat) : Bool :=
  let c := s.chan g
  decide (c.pulseAt + 31000 + k * 1000 ≤ s.now) &&
  (match pavPeriod s g (pavState s g == pavSoft) with
    | some _ => decide (s.now ≤ c.pulseAt + c.pulse)
    | none => true)

/-- A completed on-state burst of channel `g` with means `i` and `v` in LSB (R128 to R130, R134). -/
def burst (g i v : Nat) (s : State) : State :=
  let w := fput MEAS_IV_I (clampN 0 0xFFFF i) (fput MEAS_IV_V (clampN 0 0xFFF v)
    (fput MEAS_IV_VALID 1 (s.reg (MEAS_IV g))))
  let t := takeFg (g / 16) (burstSpan s (g / 16) (slotNow s)) (State.setReg (MEAS_IV g) w s)
  let t := State.modMch g (fun x => { x with burstDue := s.now + diagPeriod s }) t
  if belowOl t g i then
    let n := (t.mch g).openBursts + 1
    let t := State.modMch g (fun x => { x with
      openBursts := n, good := if x.codeBy = 0 then 0 else x.good }) t
    if confirms t g n 1 then diagConfirm g 1 0 t else t
  else
    let t := State.modMch g (fun x => { x with openBursts := 0 }) t
    if (t.mch g).codeBy = 2 then diagGood g 2 1 t else diagGood g 0 (olNeed t g) t

/-- The load type of channel `g` allows the off-state test (R137). -/
def offAllowed (s : State) (g : Nat) : Bool :=
  let l := s.fld (MEAS_DCFG g) MEAS_DCFG_LOADTYPE
  l != 4 && l != 5 && l != 7

/-- The load type of channel `g` allows trending (R137). -/
def trendAllowed (s : State) (g : Nat) : Bool :=
  let l := s.fld (MEAS_DCFG g) MEAS_DCFG_LOADTYPE
  l == 1 || l == 2 || l == 3

/-- OFFT in ns, 0 acting as 1 (R147). -/
def offTime (s : State) : Nat :=
  (if s.fld MEAS_CFG MEAS_CFG_OFFT = 0 then 1 else s.fld MEAS_CFG MEAS_CFG_OFFT) * 50000

/-- An off-state test that ends now began at or after time `a`, and after the test before it (R132). -/
def testSince (s : State) (g : Nat) (a : Option Nat) : Bool :=
  let ok (b : Option Nat) : Bool := match b with
    | some b => decide (b + 2 * offTime s ≤ s.now)
    | none => true
  ok a && ok (s.mch g).testEnd

/-- The present PWM off-time of channel `g` held the off-state test that ends now (R132, R144): it is long enough, the
test began in it, not in the class minimum on-time before the period start, and ended before that start. -/
def offTimeFits (s : State) (g : Nat) : Bool :=
  let c := s.chan g
  match pavPeriod s g (pavState s g == pavSoft), c.nextPeriod with
  | some _, some next =>
    pavLive s g && testSince s g (some (c.pulseAt + c.pulse)) &&
    decide (c.pulseAt + c.pulse + 2 * offTime s + 10000 ≤ next ∧ s.now < next ∧
      s.now + pavMinOn (g / 16) ≤ next + 2 * offTime s)
  | _, _ => false

/-- The channel has been in OFF for a whole test (R132). -/
def offLong (s : State) (g : Nat) : Bool := pavState s g == pavOff && testSince s g (s.chan g).offAt

/-- An off-state test of channel `g` ends with `va` and `vb` mV (R131, R134). -/
def offTest (g va vb : Nat) (s : State) : State :=
  let kind := if 4000 ≤ vb then 3 else if 3000 ≤ va then 2 else 0
  let s := State.modMch g (fun x => { x with testEnd := some s.now }) s
  if kind = 0 then
    diagGood g 1 (olNeed s g) (State.modMch g (fun x => { x with offKind := 0, offCount := 0 }) s)
  else
    let n := if (s.mch g).offKind = kind then (s.mch g).offCount + 1 else 1
    let t := State.modMch g (fun x => { x with
      offKind := kind, offCount := n, good := if x.codeBy = 1 then 0 else x.good }) s
    if confirms t g n kind then diagConfirm g kind 1 t else t

/-- The capture of an OCL or HLIM latch of channel `g` at `v` in 16 mV units (R133). -/
def latchSample (g v : Nat) (s : State) : State :=
  let t := takeFg (g / 16) 1 (State.setFld (MEAS_DIAG g) MEAS_DIAG_LATCH_V (clampN 0 0xFFF v) s)
  let t := State.modChan g (fun c => { c with capture := false }) t
  diagConfirm g (if v * 16 < 2000 then 4 else 5) 2 t

/-- The Lodge copies HH_EN and HH_IMIN of channel `g` to its die, where the Culvert carries them (R17, R138). -/
def copyHh (g : Nat) (s : State) : State :=
  if cvUp s (dieOfPav (g / 16)) then
    State.modMch g (fun x => { x with
      dieEn := s.flag (MEAS_HHCFG g) MEAS_HHCFG_HH_EN, dieImin := s.fld (MEAS_HHCFG g) MEAS_HHCFG_HH_IMIN }) s
  else s

/-- Channel `g` may be sampled by what its die holds (R138): trending is on, and STATE is ON. -/
def hhTrends (s : State) (g : Nat) : Bool :=
  govern s g == g && (s.mch g).dieEn && trendAllowed s g && pavState s g == pavOn

/-- Channel `g` is eligible for a background sample of `i` LSB (R138). -/
def hhEligible (s : State) (g i : Nat) : Bool :=
  let imin := (s.mch g).dieImin
  hhTrends s g && decide ((if imin = 0 then 1 else imin) * pavNominal s g ≤ i * measLsb s g * 10)

/-- The next eligible channel of Pavilion `b` in round-robin order from BG_PTR (R127, R138); `ready`: the channels whose
output has settled and whose current is high enough. -/
def hhNext (s : State) (b ready : Nat) : Option Nat :=
  ((List.range 16).map (fun k => (s.fld (MEAS_ARB b) MEAS_ARB_BG_PTR + k) % 16)).find?
    (fun k => bitOf ready k && hhTrends s (16 * b + k))

/-- The die sends its sums of channel `g` and starts them again (R138). -/
def sendBatch (g : Nat) (s : State) : State :=
  let x := s.mch g
  if x.count = 0 then s
  else State.modMch g (fun x => { x with
    sent := x.sent ++ [(x.sumVI, x.sumII, x.count)], sumVI := 0, sumII := 0, count := 0 }) s

/-- The sensor of TSEL in 0.1 °C (R139): 6 and 7 act as 0. -/
def hhTemp (s : State) (g : Nat) : Int :=
  let k := s.fld (MEAS_HHCFG g) MEAS_HHCFG_TSEL
  signed 16 (s.fld (SUPPLY_TEMP (if k < 6 then k else 0)) SUPPLY_TEMP_TEMP)

/-- 10^6 times 1 + ALPHA·(T − 25 °C) (R139). -/
def hhScale (s : State) (g : Nat) : Int :=
  1000000 + signed 10 (s.fld (MEAS_HHCFG g) MEAS_HHCFG_ALPHA) * (hhTemp s g - 250)

/-- R_ref·ΣI² of a batch in 10^-9 Ω (R139); with a scale of 0 it has no value and is a free value. -/
def hhWeighted (s : State) (g vi : Nat) : Int :=
  let d := (measLsb s g : Int) * hhScale s g
  if d = 0 then ((s.free 64).toNat : Int)
  else (160 * 1000000000 * 1000000 * (vi : Int)) / d

/-- What the batches of channel `g` that arrived at the present tick have added to the day (R140, R144). -/
def tickBatches (s : State) (g : Nat) : Int × Nat × Nat :=
  let x := (s.mch g).tick
  if x.1 = s.wwt then x.2 else (0, 0, 0)

/-- The oldest batch of channel `g` is stamped and adds to its trend day (R139). -/
def batchAdds (g : Nat) (s : State) : State :=
  match (s.mch g).sent with
  | [] => s
  | (vi, ii, _) :: rest =>
    let w := hhWeighted s g vi
    let p := tickBatches s g
    State.drawn (State.modMch g (fun x => { x with
      sent := rest, wsum := x.wsum + w, weight := x.weight + ii, batches := x.batches + 1,
      tick := (s.wwt, p.1 + w, p.2.1 + ii, p.2.2 + 1) }) s)

/-- A quotient in whole units: exact where it is whole, else one of its two neighbours, which the manual
leaves open. -/
def roundFree (s : State) (a : Int) (b : Nat) : Int :=
  if a % (b : Int) = 0 then a / (b : Int) else a / (b : Int) + ((s.free 1).toNat : Int)

/-- What the day of channel `g` that closes now covers: batches stamped at the close tick belong to the next day (R140). -/
def dayBatches (s : State) (g : Nat) : Int × Nat × Nat :=
  let x := s.mch g
  let p := tickBatches s g
  (x.wsum - p.1, x.weight - p.2.1, x.batches - p.2.2)

/-- The day mean of channel `g` in 0.1 mΩ on 24 bits (R140); a day without weight, and a mean that the
field cannot hold, have no stated value; a channel that does not trend and had no batch keeps MEAN (log entry 69). -/
def dayMean (s : State) (g : Nat) : Nat :=
  let x := dayBatches s g
  if x.2.1 = 0 then
    (if s.flag (MEAS_HHCFG g) MEAS_HHCFG_HH_EN then (s.free 24).toNat else s.fld (MEAS_HHDAY g) MEAS_HHDAY_MEAN)
  else
    let m := roundFree s x.1 (x.2.1 * 100000)
    if 0 ≤ m ∧ m < 2 ^ 24 then m.toNat else (s.free 24).toNat

/-- MIN_T, LEARN_DAYS, DRIFT_TH and DRIFT_DAYS: 0 acts as 1 (R147). -/
def zeroAsOne (x : Nat) : Nat := if x = 0 then 1 else x

/-- The day of channel `g` is sparse (R140): batches come 100 a second. -/
def sparseDay (s : State) (g : Nat) : Bool :=
  decide ((dayBatches s g).2.2 < zeroAsOne (s.fld MEAS_CFG MEAS_CFG_MIN_T) * 6000)

/-- Learning of channel `g` starts (R141, R144): DRIFT_FLAG is kept. -/
def startLearn (g : Nat) (s : State) : State :=
  let h := s.reg (MEAS_HHSTAT g)
  let t := State.setReg (MEAS_HHSTAT g) (fput MEAS_HHSTAT_DRIFT_ACT 0 (fput MEAS_HHSTAT_OVER_DAYS 0
    (fput MEAS_HHSTAT_DRIFT 0 h))) s
  let t := State.setFlag (MEAS_HHBASE g) MEAS_HHBASE_LEARNED false
    (State.setFld (MEAS_HHBASE g) MEAS_HHBASE_LEFT (zeroAsOne (s.fld MEAS_CFG MEAS_CFG_LEARN_DAYS)) t)
  State.modMch g (fun x => { x with learnSum := 0, learnDays := 0, driftTold := false, learnAt := some s.wwt }) t

/-- A non-sparse day with `mean` counts towards the baseline of channel `g` (R141). -/
def learnDay (g mean : Nat) (s : State) : State :=
  let left := s.fld (MEAS_HHBASE g) MEAS_HHBASE_LEFT
  let t := State.modMch g (fun x => { x with
    learnSum := x.learnSum + mean, learnDays := x.learnDays + 1 }) s
  let t := State.setFld (MEAS_HHBASE g) MEAS_HHBASE_LEFT (left - 1) t
  if left = 1 then
    let x := t.mch g
    let base := (roundFree t x.learnSum x.learnDays).toNat
    raiseEv 38 g (State.drawn (State.setFlag (MEAS_HHBASE g) MEAS_HHBASE_LEARNED true
      (State.setFld (MEAS_HHBASE g) MEAS_HHBASE_BASE base t)))
  else t

/-- The drift of a non-sparse day of channel `g` with a learned baseline (R142). -/
def driftDay (g mean : Nat) (s : State) : State :=
  let diff : Int := (mean : Int) - (s.fld (MEAS_HHBASE g) MEAS_HHBASE_BASE : Int)
  let mohm := roundFree s diff 10
  let sat : Int := if mohm < -32767 then -32767 else if 32767 < mohm then 32767 else mohm
  let t := State.drawn (State.setFld (MEAS_HHSTAT g) MEAS_HHSTAT_DRIFT (twos 16 sat) s)
  if zeroAsOne (s.fld (MEAS_HHCFG g) MEAS_HHCFG_DRIFT_TH) * 100 ≤ diff.natAbs then
    let t := State.incFld (MEAS_HHSTAT g) MEAS_HHSTAT_OVER_DAYS t
    if zeroAsOne (s.fld (MEAS_HHCFG g) MEAS_HHCFG_DRIFT_DAYS) ≤ t.fld (MEAS_HHSTAT g) MEAS_HHSTAT_OVER_DAYS ∧
        !(t.mch g).driftTold then
      raiseEvData 37 g (g :: leBytes 2 (twos 16 sat)) (State.modMch g (fun x => { x with driftTold := true })
        (State.setFlag (MEAS_HHSTAT g) MEAS_HHSTAT_DRIFT_ACT true
          (State.setFlag (MEAS_HHSTAT g) MEAS_HHSTAT_DRIFT_FLAG true t)))
    else t
  else
    State.modMch g (fun x => { x with driftTold := false })
      (State.setFlag (MEAS_HHSTAT g) MEAS_HHSTAT_DRIFT_ACT false
        (State.setFld (MEAS_HHSTAT g) MEAS_HHSTAT_OVER_DAYS 0 t))

/-- The close of the trend day of channel `g` (R140 to R142): a day that closes at the tick at which learning starts is
not learned (R144). -/
def closeChannel (g : Nat) (s : State) : State :=
  let mean := dayMean s g
  let sparse := sparseDay s g
  let learned := s.flag (MEAS_HHBASE g) MEAS_HHBASE_LEARNED
  let t := State.drawn (State.setFld (MEAS_HHDAY g) MEAS_HHDAY_MEAN mean
    (State.setFlag (MEAS_HHDAY g) MEAS_HHDAY_SPARSE sparse s))
  let t := if sparse then t
    else if learned then driftDay g mean t
    else if t.fld (MEAS_HHBASE g) MEAS_HHBASE_LEFT = 0 || (s.mch g).learnAt == some s.wwt then t
    else learnDay g mean t
  let p := tickBatches s g
  State.modMch g (fun x => { x with wsum := p.1, weight := p.2.1, batches := p.2.2, flushed := (0, 0, 0) }) t

/-- The trend day closes for every channel, and EV039 is raised once (R140). -/
def closeDay (s : State) : State :=
  let t := (List.range 96).foldl (fun t g => if govern t g = g then closeChannel g t else t) s
  raiseEv 39 0xFFFF { t with meas := { t.meas with dayOpen := s.wwt } }

/-- Length of a trend day in ns (R140). -/
def dayLength : Nat := 86400000000000

/-- 24 h of waterway time have passed since the day opened (R140). -/
def dayOver (s : State) : Bool := decide (s.meas.dayOpen + dayLength ≤ s.wwt)

/-- The oldest batch of channel `g` arrives (R139): one stamped at or after the close belongs to the next day (R140). -/
def batchArrives (g : Nat) (s : State) : State :=
  if (s.mch g).sent.isEmpty then s else batchAdds g (if dayOver s then closeDay s else s)

/-- Trend accumulators as they stand are flushed to MRAM (R143). -/
def flushTrend (s : State) : State :=
  (List.range 96).foldl (fun t g =>
    State.modMch g (fun x => { x with flushed := (x.wsum, x.weight, x.batches) }) t) s

/-- N of the diagnosis stretch (R135, R147). -/
def stretchN (s : State) : Nat := 2 ^ clampN 4 12 (s.fld MEAS_CFG MEAS_CFG_STRETCH_N)

/-- A stretched period of channel `g` that kept the output on for `ns` (R135, R136); none where the nominal on-time holds
a burst, none without DIAG_EN, as there is no burst then (log entry 69), and none under Moored hold (R145). The stretched
period repays nothing: a debt still owed adds to the new excess (R136). -/
def stretch (g ns : Nat) (s : State) : State :=
  match pavPeriod s g false with
  | none => s
  | some period =>
    let ton := onTimeOf (g / 16) period (s.chan g).duty
    if s.flag (MEAS_DCFG g) MEAS_DCFG_STRETCH ∧ s.flag (MEAS_DCFG g) MEAS_DCFG_DIAG_EN ∧
        pavState s g = pavOn ∧ measRuns s g ∧ (s.mch g).stretchLeft = 0 ∧ ton < ns ∧ ns + pavMinOn (g / 16) ≤ period then
      let t := State.setFlag (MEAS_DIAG g) MEAS_DIAG_STRETCHED true s
      let t := State.modChan g (fun c => { c with debt := c.debtWas + (ns - ton), pulse := ns }) t
      State.modMch g (fun x => { x with stretchLeft := stretchN s }) t
    else s

/-- Duty of channel `g` in the period that starts now: the ramp of a soft start, else DUTY (R100, R113). -/
def periodDuty (s : State) (g : Nat) : Nat :=
  let c := s.chan g
  let duty := s.fld (PAV_CMD g) PAV_CMD_DUTY
  match c.softEnd with
  | some e =>
    if e ≤ s.now then duty
    else c.softFrom + (duty - c.softFrom) * (s.now - c.softStart) / (e - c.softStart)
  | none => duty

/-- The start of the next period of channel `g` has come (R99, R100). -/
def periodDue (s : State) (g : Nat) : Bool :=
  match (s.chan g).nextPeriod with
  | some b => decide (b ≤ s.now)
  | none => false

/-- A PWM period of channel `g` starts (R99, R100, R113, R136): the duty in effect, CLAMP, and the pulse after
the repayment of debt; STRETCHED goes to 0 where a stretch that was due was not applied. No period is cut short or
lengthened. -/
def pavPeriodStart (g : Nat) (s : State) : State :=
  let soft := pavState s g == pavSoft
  match pavPeriod s g soft with
  | none =>
    if periodDue s g then
      staticClamp g (State.modChan g (fun c => { c with nextPeriod := none, duty := periodDuty s g }) (nextPulse g s))
    else s
  | some period =>
    if pavLive s g && periodDue s g then
      let duty := periodDuty s g
      let ton := onTimeOf (g / 16) period duty
      let r := repay (s.chan g).debt ton (pavMinOn (g / 16))
      let t := setClamp g duty soft (nextPulse g s)
      let t := State.modChan g (fun c => { c with
        duty := duty, pulse := r.1, debt := r.2, debtWas := c.debt, nextPeriod := pavNext s g soft }) t
      let t := State.modMch g (fun x => { x with stretchLeft := x.stretchLeft - 1 }) t
      if (s.mch g).stretchLeft = 0 then State.setFlag (MEAS_DIAG g) MEAS_DIAG_STRETCHED false t else t
    else s

end Sys2Proof.Machine
end

