-- ==== Sys2Proof/Machine/BridgeOps.lean ====
section
/-! DEFINITION. What the Arbour does with a motor and a bridge group (R179 to R198). -/

namespace Sys2Proof.Machine

/-- STATE codes of a motor (R184). -/
abbrev brOff : Nat := 0
/-- RUN -/
abbrev brRun : Nat := 1
/-- BRAKE -/
abbrev brBrake : Nat := 2
/-- PARKING -/
abbrev brParking : Nat := 3
/-- REVERSING -/
abbrev brReversing : Nat := 4
/-- LATCHED -/
abbrev brLatched : Nat := 5
/-- VETOED -/
abbrev brVetoed : Nat := 6
/-- STALLED -/
abbrev brStalled : Nat := 7
/-- TRAPPED -/
abbrev brTrapped : Nat := 8
/-- SUPPLY -/
abbrev brSupply : Nat := 9

/-- Hidden state of motor `h`. -/
def State.motor (s : State) (h : Nat) : Motor := Tab.get s.motors {} h

/-- The state with the hidden state of motor `h` changed. -/
def State.modMotor (h : Nat) (f : Motor → Motor) (s : State) : State :=
  { s with motors := Tab.mod s.motors {} h f }

/-- STATE of motor `h`. -/
def brState (s : State) (h : Nat) : Nat := s.fld (BR_STAT h) BR_STAT_STATE

/-- STATE of motor `h` becomes `st`. -/
def setBrState (h st : Nat) (s : State) : State := State.setFld (BR_STAT h) BR_STAT_STATE st s

/-- Half-bridge `h` belongs to an H-bridge: PAIR of the even half-bridge is 1 (R180). -/
def brPaired (s : State) (h : Nat) : Bool := s.flag (BR_CFG (h / 2 * 2)) BR_CFG_PAIR

/-- The half-bridge that names the motor of half-bridge `h` (R181). -/
def brGovern (s : State) (h : Nat) : Nat := if brPaired s h then h / 2 * 2 else h

/-- The thermal veto of the motor: of either half of an H-bridge (R180, R187). -/
def brVeto (s : State) (h : Nat) : Bool :=
  s.flag (BR_STAT h) BR_STAT_VETO_T || (brPaired s h && s.flag (BR_STAT (h + 1)) BR_STAT_VETO_T)

/-- The demand of motor `h` is on (R182). -/
def brDemand (s : State) (h : Nat) : Bool :=
  s.flag (BR_CMD h) BR_CMD_RUN && s.fld (BR_CMD h) BR_CMD_DUTY != 0

/-- POS of motor `h`, two's complement. -/
def brPos (s : State) (h : Nat) : Int := signed 16 (s.fld (BR_POS h) BR_POS_POS)

/-- TGT of motor `h`, two's complement. -/
def brTgt (s : State) (h : Nat) : Int := signed 16 (s.fld (BR_CMD h) BR_CMD_TGT)

/-- The direction that the command asks for: towards TGT with GOTO, else DIR; true is reverse (R182). A half-bridge
that is not paired knows one direction (R181). -/
def brDir (s : State) (h : Nat) : Bool :=
  if !brPaired s h then false
  else if s.flag (BR_CMD h) BR_CMD_GOTO then decide (brTgt s h < brPos s h)
  else s.flag (BR_CMD h) BR_CMD_DIR

/-- The direction of the demand as it stood: that of the run with GOTO, whose overrun may have left TGT behind (R192),
else DIR. -/
def brDirWas (s : State) (h : Nat) : Bool :=
  if brPaired s h && s.flag (BR_CMD h) BR_CMD_GOTO then (s.motor h).rev else brDir s h

/-! ### PWM, ramp and switches (R179, R181, R183, R185) -/

/-- PWM period of motor `h` in ns, none for static (R183); the reserved codes count as static (log entry 71). -/
def brPeriod (s : State) (h : Nat) : Option Nat :=
  match s.fld (BR_CFG h) BR_CFG_PWMF with
  | 1 => some 1000000
  | 2 => some 250000
  | 3 => some 62500
  | 4 => some 50000
  | 5 => some 40000
  | _ => none

/-- On-time in ns of a period with `duty` (R179, R183): 0xFFF is continuous, and a pulse below 1 µs is omitted. -/
def brOnTime (period duty : Nat) : Nat :=
  if duty = 0xFFF then period
  else if period * duty / 4096 < 1000 then 0
  else period * duty / 4096

/-- The duty that motor `h` is to have at time `t`, by its ramp (R183). -/
def brDutyAt (s : State) (h t : Nat) : Nat :=
  let x := s.motor h
  if t < x.rampStart then x.rampFrom
  else if x.rampEnd ≤ t then x.duty
  else x.rampFrom + (x.duty - x.rampFrom) * (t - x.rampStart) / (x.rampEnd - x.rampStart)

/-- The duty in effect: that of the last period start since the turn-on, which a later change of DUTY leaves alone
until the next one (R183); a static motor is continuous. -/
def brDuty (s : State) (h : Nat) : Nat :=
  let x := s.motor h
  match brPeriod s h with
  | none => if x.duty = 0 then 0 else 0xFFF
  | some p =>
    let start := Nat.max (x.onAt.getD 0) (s.now - s.now % p)
    match x.dutyAt with
    | some c => if start ≤ c then x.dutyWas else brDutyAt s h start
    | none => brDutyAt s h start

/-- Ramp of motor `h` in ns (R183). -/
def rampTime (s : State) (h : Nat) : Nat := s.fld (BR_CFG h) BR_CFG_RAMP_T * 4000000

/-- DUTY of a running motor changes to `d`: from the present duty, with the slope of `d` over RAMP_T while the ramp runs,
else at the next period start (R183, log entry 71). -/
def brRetarget (h d : Nat) (s : State) : State :=
  let x := s.motor h
  let present := brDutyAt s h s.now
  let e := if s.now < x.rampEnd ∧ present < d then s.now + rampTime s h * (d - present) / d else s.now
  State.modMotor h (fun x => { x with
    dutyAt := some s.now, dutyWas := brDuty s h, duty := d, rampStart := s.now, rampFrom := present, rampEnd := e }) s

/-- What the switches of a motor do. -/
inductive Drive where
  | off
  /-- the H-bridge drives in direction `rev` with `on` ns of every period -/
  | bridge (rev : Bool) (on : Nat)
  /-- one switch of a half-bridge drives: the low side with SIDE = 1 -/
  | single (lowSide : Bool) (on : Nat)
  /-- both low sides of an H-bridge are on -/
  | lowSides
  /-- the switch on the return side of a half-bridge is on: the high side with SIDE = 1 -/
  | returnSide (highSide : Bool)
  deriving DecidableEq, Repr

/-- The switches of an actively braked or held motor (R181, R185). -/
def brShort (s : State) (h : Nat) : Drive :=
  if brPaired s h then .lowSides else .returnSide (s.flag (BR_CFG h) BR_CFG_SIDE)

/-- The supply lets no bridge run: Over or Dropout (R195). -/
def brNoSupply (s : State) : Bool := inOver s || inDropout s

/-- The low sides of motor `h` hold it in OFF, STALLED or TRAPPED (R185): not in Over and Dropout, where every switch is
off (R195), nor under Moored hold (R198). -/
def brHolds (s : State) (h : Nat) : Bool :=
  !brNoSupply s && !(s.bank (10 + h / 4)).moored && s.flag (BR_CFG h) BR_CFG_BRAKE && s.flag (BR_CFG h) BR_CFG_BRK_HOLD &&
  (brState s h == brOff || brState s h == brStalled || brState s h == brTrapped)

/-- What the switches of motor `h` do now (R181, R183 to R185). -/
def brDrive (s : State) (h : Nat) : Drive :=
  let on := brOnTime ((brPeriod s h).getD 1000000) (brDuty s h)
  match brState s h with
  | 1 | 3 | 4 =>
    if brPaired s h then .bridge (s.motor h).rev on else .single (s.flag (BR_CFG h) BR_CFG_SIDE) on
  | 2 => if s.flag (BR_CFG h) BR_CFG_BRAKE then brShort s h else .off
  | _ => if brHolds s h then brShort s h else .off

/-! ### Turn-ons and brakes -/

/-- POS of motor `h` becomes `x`. -/
def setPos (h : Nat) (x : Int) (s : State) : State := State.setFld (BR_POS h) BR_POS_POS (twos 16 x) s

/-- The debounced park input of motor `h` is active; none without PARK_SEL (R194). -/
def parkActive (s : State) (h : Nat) : Option Bool :=
  let lvl := s.flag (BR_CFG h) BR_CFG_PARK_LVL
  match s.fld (BR_CFG h) BR_CFG_PARK_SEL with
  | 1 => some (s.bridges.park0 == lvl)
  | 2 => some (s.bridges.park1 == lvl)
  | _ => none

/-- Motor `h` enters RUN in direction `rev`: ramp, start blank and a new anti-trap reference (R184). -/
def brEnterRun (h : Nat) (rev : Bool) (s : State) : State :=
  let be := s.now + s.fld (BR_PROT h) BR_PROT_ST_BLK * 2000000
  State.modMotor h (fun x => { x with
    rev := rev, onAt := some s.now, dutyAt := none, duty := s.fld (BR_CMD h) BR_CMD_DUTY,
    rampStart := s.now, rampFrom := 0, rampEnd := s.now + rampTime s h, blankEnd := be, blankDone := false,
    refSum := 0, refCount := 0, lastRipple := s.now, parkEnd := none })
    (State.setFlag (BR_STAT h) BR_STAT_PEND false (setBrState h brRun s))

/-- A turn-on of motor `h` in direction `rev` (R182, R184, R187, R195): none under Moored hold (R198); a GOTO
demand without a normalised position runs nothing; one that stands at its target has nothing to run. -/
def brTurnOn (h : Nat) (rev : Bool) (s : State) : State :=
  if !pinFirst s (297 + h) then s
  else if (s.bank (10 + h / 4)).moored then setBrState h brOff s
  else if s.flag (BR_CMD h) BR_CMD_GOTO && !s.flag (BR_STAT h) BR_STAT_NORM_OK then
    State.setFlag (BR_STAT h) BR_STAT_GOTO_REJ true (setBrState h brOff s)
  else if s.flag (BR_CMD h) BR_CMD_GOTO && brPos s h == brTgt s h then setBrState h brOff s
  else if brVeto s h then
    (if brState s h = brVetoed then s else dieEv 3 67 h (setBrState h brVetoed s))
  else if brNoSupply s then
    State.modMotor h (fun x => { x with cut := 0 }) (dieEv 3 78 h (setBrState h brSupply s))
  else brEnterRun h rev s

/-- Motor `h` brakes; the brake leads to `c` (R185). -/
def brBrakeTo (h : Nat) (c : BrakeTo) (s : State) : State :=
  let bt := s.fld (BR_CFG h) BR_CFG_BRK_T
  State.modMotor h (fun x => { x with
    brakeTo := c, brakeEnd := s.now + (if bt = 0 then 1 else bt) * 1000000, parkEnd := none })
    (State.setFlag (BR_STAT h) BR_STAT_PEND false (setBrState h brBrake s))

/-- Motor `h` enters PARKING and runs on (R194). -/
def brPark (h : Nat) (s : State) : State :=
  let pt := s.fld (BR_RIP h) BR_RIP_PARK_TO
  State.modMotor h (fun x => { x with
    parkEnd := (if pt = 0 then none else some (s.now + pt * 100000000)) }) (setBrState h brParking s)

/-- A run that ends because its demand went off: PARKING where a park input is set and inactive, else a
brake (R194). -/
def brStop (h : Nat) (s : State) : State :=
  match parkActive s h with
  | some false => brPark h s
  | _ => brBrakeTo h .off s

/-- A turn-on due during a brake is held pending (R186). -/
def brPend (h : Nat) (rev : Bool) (s : State) : State :=
  State.modMotor h (fun x => { x with pendRev := rev }) (State.setFlag (BR_STAT h) BR_STAT_PEND true s)

/-- The direction `rev` is the closing direction of an anti-trap motor, in which TRAPPED needs a new
demand edge; CLR leaves TRAPPED for OFF there (R184, R193; log entry 71). -/
def trapDir (s : State) (h : Nat) (rev : Bool) : Bool := rev == s.flag (BR_AT h) BR_AT_AT_DIR

/-- GOTO of motor `h` asks for no run: without a normalised position, or at its target (R182, R192). -/
def gotoEnds (s : State) (h : Nat) : Bool :=
  s.flag (BR_CMD h) BR_CMD_GOTO && (!s.flag (BR_STAT h) BR_STAT_NORM_OK || brPos s h == brTgt s h)

/-- A motor `h` in RUN or PARKING whose GOTO asks for no run brakes: GOTO_REJ without a normalised position, EV070 at its
target (R182, R192). -/
def gotoStop (h : Nat) (s : State) : State :=
  let t := brBrakeTo h .off s
  if s.flag (BR_STAT h) BR_STAT_NORM_OK then dieEv 3 70 h t else State.setFlag (BR_STAT h) BR_STAT_GOTO_REJ true t

/-- An applied BR_CMD word whose old word is still in the register of `s`, the new one in that of `t`
(R182, R184, R186, R194). -/
def brReact (h : Nat) (clr : Bool) (s t : State) : State :=
  let st := brState s h
  let rev := brDir t h
  let t := if st = brRun ∧ brDemand t h ∧ t.fld (BR_CMD h) BR_CMD_DUTY ≠ (s.motor h).duty then
      brRetarget h (t.fld (BR_CMD h) BR_CMD_DUTY) t
    else t
  if !brDemand t h then
    if st = brRun then brStop h t
    else if st = brBrake ∨ st = brReversing then State.setFlag (BR_STAT h) BR_STAT_PEND false t
    else if st = brVetoed ∨ st = brStalled ∨ st = brTrapped then setBrState h brOff t
    else t
  else if !brDemand s h then
    if st = brParking ∧ gotoEnds t h then gotoStop h t
    else if st = brOff ∨ st = brLatched ∨ st = brStalled ∨ st = brTrapped ∨ st = brParking then brTurnOn h rev t
    else if st = brBrake then brPend h rev t
    else t
  else if st = brRun ∧ gotoEnds t h then gotoStop h t
  else if rev != brDirWas s h then
    if st = brRun then (if rev == (s.motor h).rev then t else brPend h rev (brBrakeTo h .off t))
    else if st = brBrake then brPend h rev t
    else if st = brOff ∨ st = brStalled then brTurnOn h rev t
    else if st = brTrapped then
      (if !trapDir t h rev then brTurnOn h rev t else if clr then setBrState h brOff t else t)
    else if st = brLatched && clr then brTurnOn h rev t
    else t
  else if clr then
    if st = brLatched ∨ st = brStalled then brTurnOn h rev t
    else if st = brTrapped then (if trapDir t h rev then setBrState h brOff t else brTurnOn h rev t)
    else t
  else t

/-- In the cycle of the row before, the command of R196 wins: a demand edge over a park input that became active, and a
direction change over the turn-on at the safe point. -/
def brWins (h : Nat) (s t : State) : Bool :=
  let x := s.motor h
  brDemand t h &&
    ((!brDemand s h && brState s h == brBrake && x.parkAt == some s.now) ||
     (brDemand s h && brState s h == brRun && x.onAt == some s.now && brDir t h != x.rev && !gotoEnds t h))

/-- An applied BR_CMD word (R182), with `same` in the cycle of the row before; the odd half-bridge of an H-bridge ignores
it (R180). While BRIDGE ENABLE is 0 the word is held and no demand is applied (R184). -/
def applyBrCmd (same : Bool) (h : Nat) (w : Word) (clr : Bool) (s : State) : State :=
  if brGovern s h != h then s
  else
    let t := State.setReg (BR_CMD h) (w &&& 0xDFFFFFFF#32) s
    if !serving s (10 + h / 4) then t
    else if same && brWins h s t then brTurnOn h (brDir t h) t
    else brReact h clr s t

/-- A motor that turns: RUN, PARKING, REVERSING or BRAKE. -/
def brMoving (s : State) (h : Nat) : Bool :=
  let st := brState s h
  st == brRun || st == brParking || st == brReversing || st == brBrake

/-- A latch of motor `h`: all its switches turn off, CODE from the switch that tripped (R187); while BRIDGE ENABLE is 0
the motor is in OFF (R184). -/
def brLatch (h : Nat) (highSide : Bool) (bit : Fld) (ev : Nat) (s : State) : State :=
  let t := State.setFld (BR_STAT h) BR_STAT_CODE (if highSide then 2 else 3)
    (State.setFlag (BR_STAT h) bit true
      (State.setFlag (BR_STAT h) BR_STAT_PEND false
        (setBrState h (if dieEnabled s 8 then brLatched else brOff) s)))
  dieFault 3 (18 + h / 4) (dieEv 3 ev h
    (State.modMotor h (fun x => { x with parkEnd := none, hitAt := some s.now }) t))

/-- The zone of anti-trap holds motor `h` (R193). -/
def inTrapZone (s : State) (h : Nat) : Bool :=
  s.flag (BR_AT h) BR_AT_AT_EN && s.flag (BR_RIP h) BR_RIP_RIP_EN && trapDir s h (s.motor h).rev &&
  (!s.flag (BR_STAT h) BR_STAT_NORM_OK ||
    decide (((s.fld (BR_AT h) BR_AT_AT_LO * 8 : Nat) : Int) ≤ brPos s h ∧
      brPos s h < ((s.fld (BR_AT h) BR_AT_AT_HI * 8 : Nat) : Int)))

/-- The anti-trap response begins: TRAP, EV069, and a brake that leads to the reversal (R193). -/
def brTrap (h : Nat) (s : State) : State :=
  dieEv 3 69 h (State.setFlag (BR_STAT h) BR_STAT_TRAP true (brBrakeTo h .reverse s))

/-- Every moving motor loses its supply (R195). -/
def brSupplyOff (s : State) : State :=
  (List.range 16).foldl (fun t h =>
    if brGovern t h = h ∧ brMoving t h then
      let cut := if brState t h = brRun then 0 else if brState t h = brParking then 2
        else if brState t h = brReversing then 3
        else match (t.motor h).brakeTo with
          | .reverse | .trapped => 3
          | _ => 1
      dieEv 3 78 h (State.modMotor h (fun x => { x with cut := cut, parkEnd := none, hitAt := some s.now })
        (State.setFlag (BR_STAT h) BR_STAT_PEND false (setBrState h brSupply t)))
    else t) { s with bridges := { s.bridges with queue := [] } }

/-- The band returns: the motors due wait for their slots, 50 µs apart in motor order; one with nothing
due goes to OFF (R195). -/
def brSupplyReturn (s : State) : State :=
  let due := (List.range 16).filter (fun h => brGovern s h == h && brState s h == brSupply &&
    (brDemand s h || (s.motor h).cut != 0))
  let idle := (List.range 16).filter (fun h => brGovern s h == h && brState s h == brSupply &&
    !(brDemand s h || (s.motor h).cut != 0))
  let t := idle.foldl (fun t h => setBrState h brOff t) s
  { t with bridges := { s.bridges with queue := due, slotDue := s.now } }

/-- A motor that was PARKING, its demand off, makes its turn-on in its last direction and runs on to park; under a veto
and under Moored hold it cannot, and goes to OFF (R184, R194, R195, R198). -/
def brParkOn (h : Nat) (s : State) : State :=
  match parkActive s h with
  | some false =>
    if brVeto s h || (s.bank (10 + h / 4)).moored then setBrState h brOff s
    else
      let d := (s.motor h).duty
      brPark h (State.modMotor h (fun x => { x with duty := d }) (brEnterRun h (s.motor h).rev s))
  | _ => brBrakeTo h .off s

/-- Motor `h` makes its restart after a supply cut (R195). -/
def brRestart (h : Nat) (s : State) : State :=
  if brState s h = brSupply ∧ !serving s (10 + h / 4) then setBrState h brOff s
  else if brState s h = brSupply then
    match (s.motor h).cut with
    | 3 => setBrState h (if brDemand s h then brTrapped else brOff) s
    | 2 => if brDemand s h then brTurnOn h (brDir s h) s else brParkOn h s
    | 1 => if brDemand s h then brTurnOn h (brDir s h) s else brBrakeTo h .off s
    | _ => if brDemand s h then brTurnOn h (brDir s h) s else setBrState h brOff s
  else s

/-- Motor `h` takes its entry of the safe-state table (R197): every motor that turns brakes to OFF, or parks; one cut off
in SUPPLY does on the return what the table leaves of its run (log entry 71). -/
def safeMotor (h : Nat) (s : State) : State :=
  let safe := s.fld (BR_CFG h) BR_CFG_SAFE
  let st := brState s h
  if safe = 2 then s
  else
    let t := State.setFlag (BR_CMD h) BR_CMD_RUN false s
    if st = brRun ∨ st = brReversing then (if safe = 1 then brStop h t else brBrakeTo h .off t)
    else if st = brParking then (if safe = 1 then t else brBrakeTo h .off t)
    else if st = brBrake then
      State.modMotor h (fun x => { x with brakeTo := .off }) (State.setFlag (BR_STAT h) BR_STAT_PEND false t)
    else if st = brSupply then
      State.modMotor h (fun x => { x with
        cut := if safe = 1 then (if x.cut = 0 ∧ brDemand s h then 2 else x.cut) else if x.cut = 2 then 0 else x.cut }) t
    else t

/-- Every motor of group `g` takes its safe state (R197). -/
def brSafeState (g : Nat) (s : State) : State :=
  ((List.range 4).map (fun k => 4 * g + k)).foldl
    (fun t h => if brGovern t h = h then safeMotor h t else t) s

/-- Motor `h` at ENABLE = 0: a moving motor brakes and ends in OFF, every other is in OFF (R184, R326). -/
def brDisable (h : Nat) (s : State) : State :=
  if brState s h = brBrake then
    State.modMotor h (fun x => { x with brakeTo := .off }) (State.setFlag (BR_STAT h) BR_STAT_PEND false s)
  else if brMoving s h then brBrakeTo h .off s
  else
    State.modMotor h (fun x => { x with parkEnd := none })
      (State.setFlag (BR_STAT h) BR_STAT_PEND false (setBrState h brOff s))

/-- Every motor at ENABLE = 0 (R184, R326). -/
def brAllOff (s : State) : State :=
  (List.range 16).foldl (fun t h => brDisable h t) { s with bridges := { s.bridges with queue := [] } }

/-- Every motor of group `g` at a claim that finds ENABLE 0 (R184, R326). -/
def brGroupOff (g : Nat) (s : State) : State :=
  ((List.range 4).map (fun k => 4 * g + k)).foldl (fun t h => brDisable h t)
    { s with bridges := { s.bridges with queue := s.bridges.queue.filter (fun h => h / 4 != g) } }

/-- Every motor whose demand is on makes a turn-on from OFF, as at ENABLE = 1 (R184). -/
def brAllOn (s : State) : State :=
  (List.range 16).foldl (fun t h =>
    if brGovern t h = h ∧ brDemand t h then
      (if brState t h = brOff then brTurnOn h (brDir t h) t
       else if brState t h = brBrake then brPend h (brDir t h) t
       else t)
    else t) s

/-- POS of motor `h` has been written (R191, R192): NORM_OK is set, and a GOTO run that stands at TGT now brakes. -/
def posWritten (h : Nat) (s : State) : State :=
  let t := State.setFlag (BR_STAT h) BR_STAT_NORM_OK true s
  if brState t h = brRun ∧ brDemand t h ∧ gotoEnds t h then gotoStop h t else t

/-- POS and NORM_OK of every motor are saved to MRAM (R198, R345). -/
def savePositions (s : State) : State :=
  (List.range 16).foldl (fun t h => State.modMotor h (fun x => { x with
    saved := true, savedPos := s.fld (BR_POS h) BR_POS_POS, savedNorm := s.flag (BR_STAT h) BR_STAT_NORM_OK }) t) s

/-- A brake under Moored hold leads to no reversal (R198). -/
def heldBrake (c : BrakeTo) : BrakeTo :=
  match c with
  | .reverse => .off
  | c => c

/-- At the moor frame every moving motor of group `g` brakes (R198). -/
def brMoor (g : Nat) (s : State) : State :=
  ((List.range 4).map (fun k => 4 * g + k)).foldl (fun t h =>
    let st := brState t h
    if brGovern t h = h ∧ (st = brRun ∨ st = brParking ∨ st = brReversing) then brBrakeTo h .off t
    else if st = brBrake then
      State.modMotor h (fun x => { x with brakeTo := heldBrake x.brakeTo }) (State.setFlag (BR_STAT h) BR_STAT_PEND false t)
    else if st = brSupply then State.modMotor h (fun x => { x with cut := if x.cut = 3 then 3 else 0 }) t
    else t) s

/-- POS and NORM_OK of motor `h` are written back where they were saved (R198). -/
def writeBack (h : Nat) (s : State) : State :=
  let x := s.motor h
  if x.saved then
    State.modMotor h (fun x => { x with saved := false })
      (State.setFlag (BR_STAT h) BR_STAT_NORM_OK x.savedNorm (State.setFld (BR_POS h) BR_POS_POS x.savedPos s))
  else s

/-- At the claim after a low-power state POS and NORM_OK of group `g` are written back (R198), after a reset of the Arbour
in that state too. -/
def brUnmoor (g : Nat) (s : State) : State :=
  ((List.range 4).map (fun k => 4 * g + k)).foldl (fun t h => writeBack h t) s

end Sys2Proof.Machine
end

