-- ==== Sys2Proof/Machine/FieldOps.lean ====
section
/-! DEFINITION. What the Harbour does with an input and the Arbour with a field output (R237 to R252). -/

namespace Sys2Proof.Machine

/-- STATE codes of a field output (R245). -/
abbrev foOff : Nat := 0
/-- ON -/
abbrev foOn : Nat := 1
/-- DEMAG -/
abbrev foDemag : Nat := 2
/-- THERMOFF -/
abbrev foTherm : Nat := 3
/-- SUPPLY -/
abbrev foSupply : Nat := 4

/-- Hidden state of input `j`. -/
def State.input (s : State) (j : Nat) : Input := Tab.get s.inputs {} j

/-- The state with the hidden state of input `j` changed. -/
def State.modInput (j : Nat) (f : Input → Input) (s : State) : State :=
  { s with inputs := Tab.mod s.inputs {} j f }

/-- Hidden state of field output `o`. -/
def State.fo (s : State) (o : Nat) : FieldOut := Tab.get s.fieldOuts {} o

/-- The state with the hidden state of field output `o` changed. -/
def State.modFo (o : Nat) (f : FieldOut → FieldOut) (s : State) : State :=
  { s with fieldOuts := Tab.mod s.fieldOuts {} o f }

/-- Bit `j % 32` of word `j / 32` of an input array. -/
def inBit (s : State) (base j : Nat) : Bool := bitOf (s.reg (base + 4 * (j / 32))).toNat (j % 32)

/-- The state with that bit set to `b`. -/
def setInBit (base j : Nat) (b : Bool) (s : State) : State :=
  let a := base + 4 * (j / 32)
  let x := (s.reg a).toNat
  State.setReg a (BitVec.ofNat 32 (if b then setBitN x (j % 32) else clrBitN x (j % 32))) s

/-- The debounced level of input `j`. -/
def inLevel (s : State) (j : Nat) : Bool := inBit s (IN_LVL 0) j

/-- Debounce time of input `j` in ns: 10 µs units, 0 acting as 1, above 6500 as 6500 (R254). -/
def debTime (s : State) (j : Nat) : Nat := clampN 1 6500 (s.fld (IN_CFG j) IN_CFG_DEB) * 10000

/-- Rising and falling threshold of input `j` in mV: of a switch input (R238), ratiometric ones to the VBAT last seen; of
a field input by its type (R240). -/
def inThresholds (s : State) (j : Nat) : Int × Int :=
  let thr := s.fld (IN_CFG j) IN_CFG_THR
  if 96 ≤ j then (if thr = 1 then (9000, 7000) else (12000, 9500))
  else match thr with
    | 0 => (3000, 2000)
    | 1 => (5000, 3500)
    | 2 => (9000, 6500)
    | _ => ((s.sup.vbat * 55 / 100 : Nat), (s.sup.vbat * 40 / 100 : Nat))

/-- The level that the comparator of input `j` gives with its pin at `mv` mV, `was` being its level before (R238). -/
def inReads (s : State) (j : Nat) (was : Bool) (mv : Int) : Bool :=
  decide ((inThresholds s j).1 < mv) || (was && decide ((inThresholds s j).2 ≤ mv))

/-- The 20 ms after a debounced change of input `j` or after an entry to Run run at present (R239). -/
def cleaning (s : State) (j : Nat) : Bool :=
  decide (s.now < s.pow.runSince + 20000000) || (s.input j).changedAt.any (fun b => decide (s.now < b + 20000000))

/-- POLL_PER in ns (R243, R254). -/
def pollPer (s : State) : Nat := clampN 1 20 (s.fld IN_POLL IN_POLL_POLL_PER) * 10000000

/-- The 50 µs pulse of a poll of switch input `j` runs in Moored or Berthed (R243). -/
def pollPulse (s : State) (j : Nat) : Bool :=
  s.fld (IN_CFG j) IN_CFG_WAKE != 0 &&
  (s.input j).polledAt.any (fun b => decide (b + pollPer s ≤ s.now + 50000 ∧ s.now < b + pollPer s))

/-- The wetting current that input `j` applies now, in mA (R239): none on a field input (R240), on an unclaimed pin
(R503), and, but for the pulse of a poll, while the run clock stands (R243). -/
def wetNow (s : State) (j : Nat) : Nat :=
  if 96 ≤ j || !inputClaimed s j then 0
  else if lowPower s then b2n (pollPulse s j)
  else if s.flag (IN_CFG j) IN_CFG_CLEAN && !cleaning s j then 1
  else [0, 1, 5, 10].getD (s.fld (IN_CFG j) IN_CFG_WET) 0

/-- The current that input `j` wets its contact with, positive out of the pin (R237): PULL sources it from VBAT. -/
def wetCurrent (s : State) (j : Nat) : Int :=
  if s.flag (IN_CFG j) IN_CFG_PULL then (wetNow s j : Int) else -(wetNow s j : Int)

/-- Changes of the last second count for chatter (R242): more than 20 set IN_CHAT and raise EV097, unless
the bit still stands. -/
def chatter (j : Nat) (s : State) : State :=
  let recent := (s.now :: (s.input j).changes).filter (fun t => decide (s.now < t + 1000000000))
  let t := State.modInput j (fun x => { x with changes := recent.take 21 }) s
  if 20 < recent.length && !inBit s (IN_CHAT 0) j then dieEv 5 97 j (setInBit (IN_CHAT 0) j true t) else t

/-- The debounced level of input `j` changes to `b` (R241, R242): IN_EDGE, EV096 with EVT, the change for the Lodge, and
the count for chatter. -/
def debounced (j : Nat) (b : Bool) (s : State) : State :=
  let t := setInBit (IN_EDGE 0) j true (setInBit (IN_LVL 0) j b s)
  let t := State.modInput j (fun x => { x with
    winEnd := none, changedAt := some s.now, waiting := x.waiting ++ [b] }) t
  chatter j (if s.flag (IN_CFG j) IN_CFG_EVT then dieEv 5 96 j t else t)

/-- The level `b` of input `j` reaches the Lodge input image, with its change for the next snapshot (R242, R263). -/
def imageTakes (j : Nat) (b : Bool) (s : State) : State :=
  let t := State.modInput j (fun x => { x with ref := b }) s
  { t with kp := { t.kp with edgeAcc := setBitN t.kp.edgeAcc j } }

/-- The run clock stops (R243): open debounce windows hold what is left of them, and polling begins. -/
def Input.sleep (now : Nat) (x : Input) : Input :=
  { x with winEnd := none, winLeft := (match x.winEnd with | some e => some (e - now) | none => x.winLeft),
           polls := 0, polledAt := none }

/-- The run clock runs again (R243): a held debounce window goes on. -/
def Input.wake (now : Nat) (x : Input) : Input :=
  { x with winEnd := (match x.winLeft with | some l => some (now + l) | none => x.winEnd), winLeft := none, polls := 0,
           polledAt := none }

/-- A change of the raw level of input `j` (R241). -/
def rawChange (j : Nat) (b : Bool) (s : State) : State :=
  let t := setInBit (IN_RAW 0) j b s
  let x := s.input j
  if !inputClaimed s j then s else
  let opened := fun (t : State) =>
    if b != inLevel t j then
      State.modInput j (fun x => { x with winEnd := some (s.now + debTime s j), level := b }) t
    else State.modInput j (fun x => { x with winEnd := none }) t
  match x.winEnd with
  | none => opened t
  | some e =>
    if b == x.level then t
    else if e ≤ s.now then opened (debounced j x.level t)
    else State.modInput j (fun x => { x with winEnd := none }) t

/-- Master class of R249: 0 Keepers, 1 Warden, 2 host. -/
def masterClass (m : Nat) : Nat := if m = 0 then 1 else if m < 9 then 0 else 2

/-- STATE of field output `o`. -/
def foState (s : State) (o : Nat) : Nat := s.fld (FO_STAT o) FO_STAT_STATE

/-- STATE of field output `o` becomes `st`. -/
def setFoState (o st : Nat) (s : State) : State := State.setFld (FO_STAT o) FO_STAT_STATE st s

/-- The demand of field output `o` is on (R245). -/
def foDemand (s : State) (o : Nat) : Bool := s.flag (FO_CMD o) FO_CMD_ON

/-- LIMP_TIME of the bank of output `o` in ns (R116, R250). -/
def foLimpTime (s : State) (o : Nat) : Nat :=
  clampN 5 1000 (s.fld (SLU_BANK (o / 4)) SLU_BANK_LIMP_TIME) * 10000000

/-- A turn-on of field output `o`: none under Moored hold (R251), held pending while the thermal veto holds, SUPPLY in
Over (R245 to R247). -/
def foTurnOn (o : Nat) (s : State) : State :=
  if !pinFirst s (113 + o) then s
  else if (s.bank (6 + o / 4)).moored then State.setFlag (FO_STAT o) FO_STAT_PEND false (setFoState o foOff s)
  else if s.flag (FO_STAT o) FO_STAT_VETO_T then
    State.setFlag (FO_STAT o) FO_STAT_PEND true (setFoState o foTherm s)
  else
    let t := State.setFlag (FO_STAT o) FO_STAT_PEND false s
    if inOver s then setFoState o foSupply t
    else State.modFo o (fun x => { x with openNow := false, shortNow := false }) (setFoState o foOn t)

/-- A turn-off of field output `o`: DEMAG until the safe point (R246); the limit is engaged no more (R244). -/
def foTurnOff (o : Nat) (c : DemagCause) (s : State) : State :=
  State.modFo o (fun x => { x with
      cause := c, openNow := false, hitAt := if c = .off then x.hitAt else some s.now })
    (State.setFlag (FO_STAT o) FO_STAT_LIM false
      (State.setFlag (FO_STAT o) FO_STAT_PEND false (setFoState o foDemag s)))

/-- A demand applied to field output `o` (R245 to R247). -/
def foDemandSet (o : Nat) (on clr : Bool) (s : State) : State :=
  let old := foDemand s o
  let st := foState s o
  let t := State.setFlag (FO_CMD o) FO_CMD_ON on s
  if !foServing s o then t
  else if !on then
    if st = foOn then foTurnOff o .off t
    else if st = foDemag ∨ st = foTherm then State.setFlag (FO_STAT o) FO_STAT_PEND false t
    else t
  else if !old then
    if st = foOff then foTurnOn o t
    else if st = foDemag then State.setFlag (FO_STAT o) FO_STAT_PEND true t
    else if st = foTherm && !s.flag (FO_CFG o) FO_CFG_AUTO then foTurnOn o t
    else t
  else if clr && st == foTherm && !s.flag (FO_CFG o) FO_CFG_AUTO then foTurnOn o t
  else t

/-- Field output `o` takes the state its SAFE gives (R250, R251). -/
def foSafe (o : Nat) (s : State) : State :=
  match s.fld (FO_CFG o) FO_CFG_SAFE with
  | 1 => foDemandSet o true false s
  | 2 => s
  | _ => foDemandSet o false false s

/-- The output is watched: it has an owner and a window (R250). -/
def foWatched (s : State) (o : Nat) : Bool :=
  s.fld (FO_CFG o) FO_CFG_OWNER != 3 && s.fld (FO_CFG o) FO_CFG_OWN_TO != 0

/-- Owner limp begins (R250). -/
def foEnterLimp (o : Nat) (s : State) : State :=
  dieEv 3 103 o (State.modFo o (fun x => { x with ownEnd := none, limpEnd := some (s.now + foLimpTime s o) })
    (State.setFlag (FO_STAT o) FO_STAT_OLIMP true s))

/-- The safe state of owner limp is applied (R250); FLT67 (R436). -/
def foOwnerSafe (o : Nat) (s : State) : State :=
  let t := State.modFo o (fun x => { x with limpEnd := none }) s
  let t := foSafe o (State.setFlag (FO_STAT o) FO_STAT_OSAFE true t)
  dieFault 3 67 (dieEv 3 104 o t)

/-- An accepted owner write meets a window or owner limp that has just ended (R250, R252). -/
def foOwnerSettle (o : Nat) (s : State) : State :=
  let x := s.fo o
  let t := match x.ownEnd with
    | some e => if e ≤ s.now then foEnterLimp o s else s
    | none => s
  let t := match (t.fo o).limpEnd with
    | some e => if e ≤ s.now then foOwnerSafe o t else t
    | none => t
  if t.flag (FO_STAT o) FO_STAT_OLIMP then
    dieEv 3 105 o (State.modFo o (fun x => { x with limpEnd := none, limpLeft := none })
      (State.setFlag (FO_STAT o) FO_STAT_OSAFE false (State.setFlag (FO_STAT o) FO_STAT_OLIMP false t)))
  else t

/-- A FO_CMD write by a master of class `c` (R249, R250); with `taken` a protection layer took the output off in the
same cycle and the command is consumed (R27). -/
def applyFoCmd (taken : Bool) (c o : Nat) (on clr : Bool) (s : State) : State :=
  let owner := s.fld (FO_CFG o) FO_CFG_OWNER
  if owner != 3 && owner != c then
    dieEv 3 102 o (State.setFlag (FO_STAT o) FO_STAT_NOTOWN true s)
  else
    let t := if owner = 3 then s else foOwnerSettle o s
    let t := if foWatched s o then
        State.modFo o (fun x => { x with
          ownEnd := some (s.now + s.fld (FO_CFG o) FO_CFG_OWN_TO * 10000000) }) t
      else t
    if taken then State.setFlag (FO_CMD o) FO_CMD_ON on t else foDemandSet o on clr t

/-- Every field output that is on turns off through DEMAG towards SUPPLY, as VBAT enters Over (R71). -/
def foOverOff (s : State) : State :=
  (List.range 16).foldl (fun t o => if foState t o = foOn then foTurnOff o .supply t else t)
    { s with fieldBank := { s.fieldBank with queue := [] } }

/-- On leaving Over the outputs in SUPPLY whose demand is on wait for their restart slots, 50 µs apart; the others go to
OFF (R251). -/
def foOverReturn (s : State) : State :=
  let due (o : Nat) : Bool := foDemand s o && foServing s o
  let held := (List.range 16).filter (fun o => foState s o == foSupply)
  let t := (held.filter (fun o => !due o)).foldl (fun t o => setFoState o foOff t) s
  { t with fieldBank := { queue := held.filter due, slotDue := s.now } }

/-- Field outputs of valve bank `b`. -/
def fosOf (b : Nat) : List Nat := (List.range 4).map (fun k => 4 * b + k)

/-- The owner watch of the outputs of bank `b` stops while the Lodge is silent (R251). -/
def foSuspend (b : Nat) (s : State) : State :=
  (fosOf b).foldl (fun t o => State.modFo o (fun x => { x with ownEnd := none }) t) s

/-- A claim opens a new owner window for every watched output not in owner limp, and lets a stopped
owner-limp timer run on (R251). -/
def foResume (b : Nat) (s : State) : State :=
  (fosOf b).foldl (fun t o =>
    let t := State.modFo o (fun x => match x.limpLeft with
      | some l => { x with limpEnd := some (t.now + l), limpLeft := none }
      | none => x) t
    if foWatched t o && !t.flag (FO_STAT o) FO_STAT_OLIMP then
      State.modFo o (fun x => { x with
        ownEnd := some (t.now + t.fld (FO_CFG o) FO_CFG_OWN_TO * 10000000) }) t
    else t) s

/-- The moor frame turns the outputs of bank `b` off through DEMAG and stops their owner-limp timers
(R251). -/
def foMoor (b : Nat) (s : State) : State :=
  (fosOf b).foldl (fun t o =>
    let t := State.modFo o (fun x => { x with
      ownEnd := none, moorOff := true,
      limpLeft := x.limpEnd.map (fun e => e - t.now), limpEnd := none }) t
    if foState t o = foOn then foTurnOff o .off t else State.setFlag (FO_STAT o) FO_STAT_PEND false t) s

/-- At the claim after a low-power state the outputs of bank `b` return to their demand (R251). -/
def foUnmoor (b : Nat) (s : State) : State :=
  (fosOf b).foldl (fun t o =>
    if (t.fo o).moorOff then
      let t := State.modFo o (fun x => { x with moorOff := false }) t
      if !(foDemand t o && foServing t o) then t
      else if foState t o = foOff then foTurnOn o t
      else if foState t o = foDemag then State.setFlag (FO_STAT o) FO_STAT_PEND true t
      else t
    else t) s

/-- The outputs of bank `b` take their safe state with the bank (R251). -/
def foSafeState (b : Nat) (s : State) : State := (fosOf b).foldl (fun t o => foSafe o t) s

/-- Output `o` leaves service, as at INPUT ENABLE = 0 (R326): a demagnetisation completes. -/
def foDisable (o : Nat) (s : State) : State :=
  if foState s o = foOn then foTurnOff o .off s
  else if foState s o = foDemag then
    State.modFo o (fun x => { x with cause := .off }) (State.setFlag (FO_STAT o) FO_STAT_PEND false s)
  else State.setFlag (FO_STAT o) FO_STAT_PEND false (setFoState o foOff s)

/-- Every field output goes to OFF through DEMAG, as at INPUT ENABLE = 0. -/
def foAllOff (s : State) : State := (List.range 16).foldl (fun t o => foDisable o t) s

/-- The field outputs of bank `b` leave service (R326). -/
def foBankOff (b : Nat) (s : State) : State := (fosOf b).foldl (fun t o => foDisable o t) s

/-- Outputs whose demand is on turn on from OFF, as at INPUT ENABLE = 1. -/
def foAllOn (s : State) : State :=
  (List.range 16).foldl (fun t o =>
    if foDemand t o && foState t o == foOff then foTurnOn o t else t) s

end Sys2Proof.Machine
end

