-- ==== Sys2Proof/Machine/LightOps.lean ====
section
/-! DEFINITION. What the Glasshouse does with sinks, backlights, loops and the Trellis (R202 to R234).
Elements 0 to 47 are the sinks LC00 to LC47, 48 to 51 the backlights BL0 to BL3. -/

namespace Sys2Proof.Machine

/-- STATE codes of an element (R207, R217). -/
abbrev ltOff : Nat := 0
/-- FADE_IN -/
abbrev ltFadeIn : Nat := 1
/-- ON -/
abbrev ltOn : Nat := 2
/-- FADE_OUT -/
abbrev ltFadeOut : Nat := 3
/-- LATCHED -/
abbrev ltLatched : Nat := 4
/-- COLUMN of a sink, SHED of a backlight -/
abbrev ltShed : Nat := 5
/-- SUPPLY -/
abbrev ltSupply : Nat := 6

/-- Hidden state of element `k`. -/
def State.elem (s : State) (k : Nat) : Elem := Tab.get s.elems {} k

/-- The state with the hidden state of element `k` changed. -/
def State.modElem (k : Nat) (f : Elem → Elem) (s : State) : State :=
  { s with elems := Tab.mod s.elems {} k f }

/-- Loop source `i`. -/
def State.source (s : State) (i : Nat) : Source := Tab.get s.sources {} i

/-- The state with loop source `i` changed. -/
def State.modSource (i : Nat) (f : Source → Source) (s : State) : State :=
  { s with sources := Tab.mod s.sources {} i f }

/-- Command register of element `k`. -/
def ltCmd (k : Nat) : Nat := if k < 48 then LC_CMD k else BL_CMD (k - 48)

/-- Status register of element `k`. -/
def ltStat (k : Nat) : Nat := if k < 48 then LC_STAT k else BL_STAT (k - 48)

/-- PEND of element `k`. -/
def ltPend (k : Nat) : Fld := if k < 48 then LC_STAT_PEND else BL_STAT_PEND

/-- FADE_T of element `k` in 100 µs updates (R207). -/
def ltFade (s : State) (k : Nat) : Nat :=
  (if k < 48 then s.fld (LC_CFG k) LC_CFG_FADE_T else s.fld (BL_CFG (k - 48)) BL_CFG_FADE_T) * 100

/-- Sink `k` is a Trellis column (R203). -/
def isColumn (s : State) (k : Nat) : Bool :=
  if k < 32 then bitOf (s.fld TR_COLMASK_LO TR_COLMASK_LO_COL_LO) k
  else decide (k < 48) && bitOf (s.fld TR_COLMASK_HI TR_COLMASK_HI_COL_HI) (k - 32)

/-- Sink `k` is a follower (R203). -/
def isFollower (s : State) (k : Nat) : Bool :=
  decide (k < 48) && s.flag (LC_CFG k) LC_CFG_FOLLOW

/-- The leader of sink `k`: the nearest lower-numbered sink with FOLLOW = 0, at most 7 below. -/
def leaderOf (s : State) (k fuel : Nat) : Nat :=
  match fuel with
  | 0 => k
  | n + 1 => if isFollower s k && decide (0 < k) then leaderOf s (k - 1) n else k

/-- Element `k` takes commands: a direct sink or a backlight (R203). -/
def isDirect (s : State) (k : Nat) : Bool := !isColumn s k && !isFollower s k

/-- STATE of element `k`; a column sink reads COLUMN while LIGHT is enabled. -/
def ltState (s : State) (k : Nat) : Nat := fget ⟨28, 4⟩ (s.reg (ltStat k))

/-- STATE of element `k` becomes `st`. -/
def setLtState (k st : Nat) (s : State) : State := State.setFld (ltStat k) ⟨28, 4⟩ st s

/-- LVL of element `k`. -/
def ltLvl (s : State) (k : Nat) : Nat := s.fld (ltCmd k) LC_CMD_LVL

/-- The demand of element `k` is on: ON = 1 and LVL not 0 (R204). -/
def ltDemand (s : State) (k : Nat) : Bool := s.flag (ltCmd k) LC_CMD_ON && ltLvl s k != 0

/-- The member code of element `k` in LOOP_CFG (R236). -/
def memberCode (k : Nat) : Nat := if k < 48 then k else 0x40 + (k - 48)

/-- The element that a member code names. -/
def memberElem (c : Nat) : Option Nat :=
  if c < 48 then some c else if 0x40 ≤ c ∧ c < 0x44 then some (c - 0x40 + 48) else none

/-- Member codes of loop `l` in member order; a mono loop has one (R221). -/
def loopMembers (s : State) (l : Nat) : List Nat :=
  if s.flag (LOOP_CFG l) LOOP_CFG_RGB then
    [s.fld (LOOP_CFG l) LOOP_CFG_MEM0, s.fld (LOOP_CFG l) LOOP_CFG_MEM1, s.fld (LOOP_CFG l) LOOP_CFG_MEM2]
  else [s.fld (LOOP_CFG l) LOOP_CFG_MEM0]

/-- The gain of the loop member that element `k` is, 0x4000 (1.0) where no enabled loop owns it. -/
def gainOf (s : State) (k : Nat) : Nat :=
  (List.range 8).foldl (fun g l =>
    if s.flag (LOOP_CFG l) LOOP_CFG_EN then
      match (loopMembers s l).findIdx? (fun c => c == memberCode k) with
      | some m => s.fld (LOOP_STAT l m) LOOP_STAT_GAIN
      | none => g
    else g) 0x4000

/-- The applied level A of element `k` (R204, R221): its level times its gain, or the level that the safe state set
(R233). -/
def ltApplied (s : State) (k : Nat) : Nat :=
  match (s.elem k).safeA with
  | some a => a
  | none =>
    let a := ltLvl s k * gainOf s k / 0x4000
    if 65535 < a then 65535 else a

/-- The lowest level of the analog region (R204, R215). -/
def ltAnalog (k : Nat) : Nat := if k < 48 then 6554 else 8192

/-- The run of observations ends (R209). -/
def Elem.clearObs (e : Elem) : Elem := { e with obsKind := 0, obsCount := 0, obsDone := false }

/-- Everything that a fade, a stretch or a run of observations holds ends. -/
def Elem.stop (e : Elem) : Elem :=
  { e.clearObs with level := 0, top := 0, active := 0, soft := false, carry := 0, debt := 0, periods := 0, pulse := 0,
                    stretched := false }

/-- The followers of the run that goes on at sink `k`, at most `fuel` of them (R203). -/
def followersFrom (s : State) (k fuel : Nat) : List Nat :=
  match fuel with
  | 0 => []
  | n + 1 => if isFollower s k then k :: followersFrom s (k + 1) n else []

/-- The sinks of the run that leader `k` heads, `k` first (R203). -/
def runOf (s : State) (k : Nat) : List Nat := k :: followersFrom s (k + 1) 7

/-- No member of the run of `k` holds an observation any more (R209, R210). -/
def clearRun (k : Nat) (s : State) : State :=
  (followersFrom s (k + 1) 7).foldl (fun t j => State.modElem j Elem.clearObs t) s

/-- A protection layer or the supply takes element `k` off now (R27, R232). -/
def ltHit (k : Nat) (s : State) : State := State.modElem k (fun e => { e with hitAt := some s.now }) s

/-- A protection layer takes the Trellis off now (R27, R232). -/
def trHit (s : State) : State := { s with trellis := { s.trellis with hitAt := some s.now } }

/-- A thermal shutdown of the Glasshouse stands (R212). -/
def lightTsd (s : State) : Bool := s.flag LIGHT_THERM LIGHT_THERM_TSD

/-- A turn-on of element `k` (R207, R208): SUPPLY while Over or a shutdown holds a sink, SHED while VRES
or a fault of the reservoir (R76) holds a backlight, else FADE_IN from 0, or ON at once with FADE_T = 0. -/
def ltTurnOn (k : Nat) (s : State) : State :=
  let t := clearRun k (State.setFlag (ltStat k) (ltPend k) false s)
  if !pinFirst s (pinOfLight k) then t
  else if k < 48 && (inOver s || lightTsd s) then setLtState k ltSupply t
  else if 48 ≤ k && (Tab.get s.sup.blShed false (k - 48) || !resCarries s) then
    setLtState k ltShed { t with sup := { t.sup with blShed := Tab.put t.sup.blShed false (k - 48) true } }
  else if ltFade s k = 0 then
    State.modElem k (fun e => { e.stop with
      level := ltApplied s k * 65536, active := ltApplied s k, onTime := s.now }) (setLtState k ltOn t)
  else
    State.modElem k (fun e => { e.stop with onTime := s.now }) (setLtState k ltFadeIn t)

/-- Element `k` goes dark at once into state `st`; no stretch is applied to it and it is not saturated. -/
def ltDark (k st : Nat) (s : State) : State :=
  let t := State.setFlag (ltStat k) (ltPend k) false (setLtState k st s)
  State.modElem k Elem.stop <| clearRun k
    (if k < 48 then State.setFlag (LC_STAT k) LC_STAT_STRETCHED false t
     else State.setFlag (BL_STAT (k - 48)) BL_STAT_SAT false t)

/-- The demand of a lit element at applied level `a` goes off: FADE_OUT, or OFF at once with FADE_T = 0
(R207); a debt is cleared, and no stretch is applied any more (R136, R211). -/
def ltFadeDown (k a : Nat) (s : State) : State :=
  if ltFade s k = 0 then ltDark k ltOff s
  else
    State.modElem k (fun e => { e with top := a, debt := 0, stretched := false })
      (setLtState k ltFadeOut (if k < 48 then State.setFlag (LC_STAT k) LC_STAT_STRETCHED false s else s))

/-- A new level of a lit element takes effect: at once from the analog region, else at the next period
start (R205). -/
def ltRelevel (k : Nat) (s : State) : State :=
  if ltState s k = ltOn then
    let a := ltApplied s k
    State.modElem k (fun e => { e with
      level := a * 65536, active := (if ltAnalog k ≤ e.active then a else e.active) }) s
  else s

/-- The loop updates of this very tick are taken back for every loop with element `k`, whose members hold their gains
(R232). -/
def holdGains (k : Nat) (s : State) : State :=
  if s.trellis.loopAt = some s.now then
    (List.range 24).foldl (fun t i =>
      let ms := loopMembers s (i / 3)
      if s.flag (LOOP_CFG (i / 3)) LOOP_CFG_EN && ms.contains (memberCode k) && decide (i % 3 < ms.length) then
        let a := LOOP_STAT (i / 3) (i % 3)
        let u := State.setFlag a LOOP_STAT_HELD true (State.setReg a (s.trellis.loopWords.getD i (s.reg a)) t)
        match memberElem (ms.getD (i % 3) 0xFF) with
        | some e => ltRelevel e u
        | none => u
      else t) s
  else s

/-- The demand of element `k`, FADE_IN or ON, goes off in FADE_OUT from its applied level (R207), and a loop with it holds
its gains in this tick (R232). -/
def ltLeave (k : Nat) (t s : State) : State :=
  let u := holdGains k s
  ltFadeDown k (ltApplied u k) (holdGains k t)

/-- An applied LC_CMD or BL_CMD word (R206 to R208, R210). -/
def applyLtCmd (k : Nat) (on : Bool) (lvl : Nat) (clr : Bool) (s : State) : State :=
  let old := ltDemand s k
  let st := ltState s k
  let t := State.setFld (ltCmd k) LC_CMD_LVL lvl (State.setFlag (ltCmd k) LC_CMD_ON on s)
  let t := State.modElem k (fun e => { e with safeA := none }) t
  if !serving s 14 || !isDirect s k then t
  else if !ltDemand t k then
    if st = ltFadeIn ∨ st = ltOn then ltLeave k t s
    else if st = ltFadeOut then State.setFlag (ltStat k) (ltPend k) false t
    else t
  else if !old then
    if st = ltOff ∨ st = ltLatched then ltTurnOn k t
    else if st = ltFadeOut then State.setFlag (ltStat k) (ltPend k) true t
    else t
  else if clr && st == ltLatched then ltTurnOn k t
  else ltRelevel k t

/-- The current factor f of R212 in 1/400 units, for a temperature in 0.1 °C. -/
def foldFactor (tfold : Nat) (t : Int) : Nat :=
  let d := t - (clampN 100 140 tfold * 10 : Nat)
  if d ≤ 0 then 400 else if 200 ≤ d then 200 else 400 - d.toNat

/-- ISET of element `k` in µA (R202, R214, R236): a follower has its leader's. -/
def ltIset (s : State) (k : Nat) : Nat :=
  if k < 48 then clampN 0 600 (s.fld (LC_CFG (leaderOf s k 7)) LC_CFG_ISET) * 250
  else clampN 0 300 (s.fld (BL_CFG (k - 48)) BL_CFG_ISET) * 5000

/-- The foldback factor acts on element `k`: never on a backlight (R212). -/
def ltFold (s : State) (k : Nat) : Nat := if k < 48 then s.trellis.fold else 400

/-- The current of element `k` while it is on, in µA (R204, R212, R215): ISET × A / 65 536 in the analog region, a
tenth (a backlight: an eighth) of ISET in the PWM region, times f. -/
def ltAmp (s : State) (k : Nat) : Nat :=
  let a := (s.elem (if k < 48 then leaderOf s k 7 else k)).active
  (if ltAnalog k ≤ a then ltIset s k * a / 65536 else ltIset s k / (if k < 48 then 10 else 8)) * ltFold s k / 400

/-- The current that column `c` sinks for a lit LED, ISET × f, in µA (R212, R225). -/
def columnAmp (s : State) (c : Nat) : Nat := clampN 0 600 (s.fld (LC_CFG c) LC_CFG_ISET) * 250 * s.trellis.fold / 400

/-- Direct sinks go dark into SUPPLY and the Trellis enters its SUPPLY state (R212, R213). -/
def lightSupplyOff (s : State) : State :=
  let t := (List.range 48).foldl (fun t k =>
    let st := ltState t k
    if isDirect t k && (st == ltFadeIn || st == ltOn || st == ltFadeOut) then ltHit k (ltDark k ltSupply t) else t) s
  if t.fld TR_STAT TR_STAT_STATE = 1 then trHit (State.setFld TR_STAT TR_STAT_STATE 3 t) else t

/-- Sinks in SUPPLY whose demand is on make a turn-on; the Trellis resumes at its next frame start
(R212, R213). -/
def lightSupplyOn (s : State) : State :=
  if inOver s || lightTsd s then s
  else
    let t := (List.range 48).foldl (fun t k =>
      if isDirect t k && ltState t k == ltSupply then
        (if ltDemand t k then ltTurnOn k t else ltDark k ltOff t) else t) s
    if t.fld TR_STAT TR_STAT_STATE = 3 then State.setFld TR_STAT TR_STAT_STATE 0 t else t

/-- A fault bit and the event of a latch on sink or backlight `k` (R210, R216). -/
def ltLatch (k code : Nat) (bit : Fld) (ev : Nat) (s : State) : State :=
  let i := if k < 48 then k else k - 48
  dieEv 4 ev i (State.setFld (ltStat k) ⟨24, 4⟩ code
    (State.setFlag (ltStat k) bit true (ltHit k (ltDark k ltLatched s))))

/-- Element `k` takes its entry of the safe-state table (R233): with SAFE = On, exactly the level of the table, whatever
the gain of its loop (log entry 50). -/
def safeElem (k : Nat) (s : State) : State :=
  let safe := if k < 48 then s.fld (LC_CFG k) LC_CFG_SAFE else s.fld (BL_CFG (k - 48)) BL_CFG_SAFE
  let lvl := if k < 48 then s.fld (LC_DCFG k) LC_DCFG_SAFE_LVL * 257 else 0xFFFF
  if !isDirect s k || safe = 2 then s
  else if ltState s k = ltLatched then State.setFlag (ltCmd k) LC_CMD_ON (safe == 1) s
  else if safe = 1 then
    let t := applyLtCmd k true lvl false s
    let t := State.modElem k (fun e => { e with safeA := some lvl }) t
    if ltState t k = ltOn then ltRelevel k t else t
  else applyLtCmd k false (ltLvl s k) false s

/-- Bank TR takes its safe-state table; a Trellis in FAULT stays so (R232, R233). -/
def trSafeState (s : State) : State :=
  let t := (List.range 52).foldl (fun t k => safeElem k t) s
  if t.fld TR_STAT TR_STAT_STATE = 2 then t
  else
    match t.fld TR_CFG2 TR_CFG2_SAFE with
    | 2 => t
    | 1 =>
      let t := State.setFlag TR_CMD TR_CMD_RUN true t
      { t with trellis := { t.trellis with safeLevel := some (t.fld TR_CFG2 TR_CFG2_SAFE_LVL * 16) } }
    | _ => State.setFlag TR_CMD TR_CMD_RUN false t

/-- The Trellis stops: its line switches off, state `st`. -/
def trStop (st : Nat) (s : State) : State :=
  let t := State.setFld TR_STAT TR_STAT_STATE st s
  { t with trellis := { t.trellis with line := 0, sub := 0, debts := [], lows := [] } }

/-- LIGHT is disabled (R326): lit elements fade out, the others go to OFF, and the Trellis stops at the end
of its line visit. -/
def lightDisable (s : State) : State :=
  (List.range 52).foldl (fun t k =>
    let st := ltState t k
    if st = ltFadeIn ∨ st = ltOn then ltLeave k t t
    else if st = ltFadeOut then State.setFlag (ltStat k) (ltPend k) false t
    else ltDark k ltOff t) s

/-- Elements whose demand is on make a turn-on from OFF, as at ENABLE = 1 and at the claim after a
low-power state (R234); column sinks read COLUMN. -/
def lightAllOn (s : State) : State :=
  (List.range 52).foldl (fun t k =>
    if isColumn t k then setLtState k ltShed t
    else if isDirect t k && ltDemand t k && ltState t k == ltOff then ltTurnOn k t else t) s

/-- The gains of the loops are saved to MRAM (R223, R345). -/
def saveGains (s : State) : State :=
  { s with trellis := { s.trellis with savedGains := (List.range 24).foldl (fun g i =>
      Tab.put g 0 i (s.fld (LOOP_STAT (i / 3) (i % 3)) LOOP_STAT_GAIN)) [] } }

/-- The moor frame of bank TR (R88, R234): sinks without MOOR_KEEP, the Trellis and the backlights go off; a Trellis
in FAULT stays so (R230). -/
def lightMoor (s : State) : State :=
  let kept := (List.range 48).any (fun k => isDirect s k && s.flag (LC_CFG k) LC_CFG_MOOR_KEEP)
  let t := (List.range 52).foldl (fun t k =>
    if isColumn t k || (k < 48 && isDirect t k && t.flag (LC_CFG k) LC_CFG_MOOR_KEEP) then t
    else ltDark k ltOff t) s
  let t := State.setFlag LIGHT_BSTAT LIGHT_BSTAT_MOOR kept t
  if t.fld TR_STAT TR_STAT_STATE = 2 then t else trStop 0 t

/-- The claim that ends Moored hold of bank TR (R223, R234). -/
def lightUnmoor (s : State) : State :=
  let t := s.trellis.savedGains.foldl (fun t e =>
    State.setFld (LOOP_STAT (e.1 / 3) (e.1 % 3)) LOOP_STAT_GAIN e.2 t) s
  let t := State.setFlag LIGHT_BSTAT LIGHT_BSTAT_MOOR false t
  if serving t 14 then lightAllOn t else t

/-! ### The luminance and colour loop -/

/-- Entry `i` of the matrix of loop `l` in Q3.12 (R221). -/
def loopMat (s : State) (l i : Nat) : Int :=
  signed 16 (if i % 2 = 0 then s.fld (LOOP_MAT l (i / 2)) LOOP_MAT_M_LO
    else s.fld (LOOP_MAT l (i / 2)) LOOP_MAT_M_HI)

/-- The corrected reading of member `m` of loop `l` for a source reading (R221). -/
def loopCorrected (s : State) (l m : Nat) (r : Nat × Nat × Nat) : Int :=
  if s.fld (LOOP_CFG l) LOOP_CFG_SRC < 4 then (r.1 : Int)
  else (loopMat s l (3 * m) * r.1 + loopMat s l (3 * m + 1) * r.2.1 + loopMat s l (3 * m + 2) * r.2.2) / 4096

/-- The new gain of one member from its target and corrected reading (R221); with a target of 0 the
relative error has no value and the gain is a free value inside its limits. -/
def loopGain (free g t : Nat) (c : Int) (ksh : Nat) : Nat :=
  if t = 0 then clampN 0x1000 0xFFFF free
  else
    let e := ((g : Int) * ((t : Int) - c)) / (t : Int)
    let h := (g : Int) / 2
    let e := if e < -h then -h else if h < e then h else e
    clampN 0x1000 0xFFFF (((g : Int) + e / (2 ^ ksh : Nat)).toNat)

/-- One member of a loop at a tick (R221). -/
def loopMember (l m k : Nat) (r : Nat × Nat × Nat) (s : State) : State :=
  let a := LOOP_STAT l m
  let g := s.fld a LOOP_STAT_GAIN
  let lvl := ltLvl s k
  let ksh := s.fld (LOOP_CFG l) LOOP_CFG_KSH
  let t := s.fld (LOOP_TGT l m) LOOP_TGT_TGT * lvl / 65535
  let new := loopGain (State.free 16 s).toNat g t (loopCorrected s l m r) (if ksh = 0 then 1 else ksh)
  let atLimit := decide (65535 ≤ lvl * g / 0x4000) || g == 0xFFFF
  let g' := if atLimit && decide (g < new) then g else new
  let sat := decide (65535 ≤ lvl * g' / 0x4000) || g' == 0xFFFF
  let was := s.flag a LOOP_STAT_SAT
  let u := if t = 0 then State.drawn s else s
  let u := State.setFlag a LOOP_STAT_SAT sat (State.setFlag a LOOP_STAT_HELD false (State.setFld a LOOP_STAT_GAIN g' u))
  let u := if sat then State.setFlag a LOOP_STAT_SATSEEN true u else u
  let u := ltRelevel k u
  if sat && !was then dieEv 4 87 l u else u

/-- A loop holds its gains for a tick (R222). -/
def loopHolds (s : State) (l : Nat) : Bool :=
  s.flag (LOOP_CFG l) LOOP_CFG_SNSF ||
  (loopMembers s l).any (fun c =>
    match memberElem c with
    | none => false
    | some k => decide (ltLvl s k < 4096) || ltState s k != ltOn ||
        (decide (k < 48) && s.flag LIGHT_THERM LIGHT_THERM_FOLD))

/-- The words of the loops as this tick finds them, for an element that enters FADE_OUT in the same tick (R232). -/
def noteLoops (s : State) : State :=
  { s with trellis := { s.trellis with
      loopAt := some s.now, loopWords := (List.range 24).map (fun i => s.reg (LOOP_STAT (i / 3) (i % 3))) } }

/-- One enabled loop at a tick (R221, R222). -/
def loopTick (l : Nat) (s : State) : State :=
  let ms := loopMembers s l
  let src := s.source (s.fld (LOOP_CFG l) LOOP_CFG_SRC)
  match src.reading with
  | none => (List.range ms.length).foldl (fun t m => State.setFlag (LOOP_STAT l m) LOOP_STAT_HELD true t) s
  | some r =>
    if loopHolds s l then
      (List.range ms.length).foldl (fun t m => State.setFlag (LOOP_STAT l m) LOOP_STAT_HELD true t) s
    else
      (ms.zipIdx).foldl (fun t e =>
        match memberElem e.1 with
        | none => t
        | some k => loopMember l e.2 k r t) s

/-- The tick is bad for source `i`: no complete reading, or a photodiode over range (R220). -/
def sourceBad (s : State) (i : Nat) : Bool :=
  (s.source i).reading.isNone || (decide (i < 4) && s.flag (PD_VAL i) PD_VAL_OVR)

/-- The fault of source `i` shows in every loop on it (R220). -/
def setSnsf (i : Nat) (b : Bool) (s : State) : State :=
  (List.range 8).foldl (fun t l =>
    if t.fld (LOOP_CFG l) LOOP_CFG_SRC = i then State.setFlag (LOOP_CFG l) LOOP_CFG_SNSF b t else t) s

/-- Source `i` is in use by an enabled loop. -/
def sourceUsed (s : State) (i : Nat) : Bool :=
  (List.range 8).any (fun l => s.flag (LOOP_CFG l) LOOP_CFG_EN && s.fld (LOOP_CFG l) LOOP_CFG_SRC == i)

/-- A tick is judged for source `i` (R220). -/
def sourceTick (i : Nat) (s : State) : State :=
  if !sourceUsed s i then s
  else if sourceBad s i then
    let n := (s.source i).bad + 1
    let t := State.modSource i (fun x => { x with bad := n, good := 0 }) s
    if 3 ≤ n && !(s.source i).fault then
      dieEv 4 88 i (setSnsf i true (State.modSource i (fun x => { x with fault := true }) t))
    else t
  else
    let n := (s.source i).good + 1
    let t := State.modSource i (fun x => { x with good := n, bad := 0 }) s
    if 3 ≤ n && (s.source i).fault then
      setSnsf i false (State.modSource i (fun x => { x with fault := false }) t)
    else t

/-! ### The Trellis -/

/-- Lines in use (R224). -/
def trLines (s : State) : Nat := s.fld TR_CFG TR_CFG_NLINES + 1

/-- The level of LED `j` in the displayed buffer, or the safe level (R226, R233). -/
def ledLevel (s : State) (j : Nat) : Nat :=
  match s.trellis.safeLevel with
  | some l => l
  | none =>
    let w := s.reg ((if s.flag TR_STAT TR_STAT_DISP then TR_BUF_B 0 else TR_BUF_A 0) + 4 * (j / 2))
    if j % 2 = 0 then fget TR_BUF_A_L_EVEN w else fget TR_BUF_A_L_ODD w

/-- The on window of a line visit in 25 ns units (R224). -/
def trWindow (s : State) : Nat :=
  40000000 / (clampN 120 480 (s.fld TR_CFG TR_CFG_FRAME_HZ) * trLines s * (s.fld TR_CFG TR_CFG_NSUB + 1))
    - clampN 2 16 (s.fld TR_CFG TR_CFG_BLANK) * 40

/-- T_on of LED `j` in 25 ns units, rounded to the nearest (R226). -/
def ledOn (s : State) (j : Nat) : Nat := (trWindow s * ledLevel s j * 2 + 4095) / (2 * 4095)

/-- This visit of LED `j` is stretched (R229). -/
def ledStretch (s : State) (j : Nat) : Bool :=
  let n := clampN 4 12 (s.fld LIGHT_BANK LIGHT_BANK_STRETCH_N)
  s.flag TR_CFG2 TR_CFG2_STRETCH && s.trellis.sub == 0 && ledOn s j != 0 && decide (ledOn s j < 80) &&
  (s.trellis.frame + 2 ^ 32 - j) % 2 ^ n == 0

/-- A confirmed LED result sets its bit and raises its event (R228). -/
def ledConfirm (base ev j : Nat) (s : State) : State :=
  let a := base + 4 * (j / 32)
  dieEv 4 ev j (State.setReg a (BitVec.ofNat 32 (setBitN (s.reg a).toNat (j % 32))) s)

/-- The pulse and debt of LED `j` in this visit (R136, R229), T_min 25 ns. -/
def ledRun (j : Nat) (s : State) : State :=
  let on := ledOn s j
  let d := Tab.get s.trellis.debts 0 j
  let new := if ledStretch s j then d + (80 - on)
    else if on ≤ d then d - on
    else d - (on - (if on - d < 1 then 1 else on - d))
  { s with trellis := { s.trellis with debts := Tab.put s.trellis.debts 0 j new } }

/-- VSH_TH in mV, held between 0.5 and 3.0 V (R236, log entry 70). -/
def trShortTh (s : State) : Nat := clampN 5 30 (s.fld TR_CFG2 TR_CFG2_VSH_TH) * 100

/-- The comparators find LED current missing: the column below 0.4 V with less than half of ISET × f (R228). -/
def readsOpen (s : State) (c : Nat) (r : ColRead) : Bool := decide (r.level < 400 ∧ 2 * r.current < columnAmp s c)

/-- The comparators find the column above VTRSUP − VSH_TH (R228). -/
def readsShort (s : State) (r : ColRead) : Bool := decide (s.trellis.vtrsup < r.level + trShortTh s)

/-- The observation of LED `j` of the active line by the comparators (R228): a result is confirmed once in each run of
consecutive observed frames that has grown to CONF + 1. -/
def ledObserve (j : Nat) (r : ColRead) (s : State) : State :=
  let on := ledOn s j
  let isOpen := readsOpen s (j % 48) r
  let isShort := readsShort s r
  let lit := decide (80 ≤ on) || ledStretch s j
  let dark := ledLevel s j == 0
  if bitOf s.trellis.seen j || !(lit || dark) then s
  else
    let conf := s.fld TR_CFG2 TR_CFG2_CONF + 1
    let no := if lit then (if isOpen then Tab.get s.trellis.opens 0 j + 1 else 0)
      else Tab.get s.trellis.opens 0 j
    let ns := if isShort then Tab.get s.trellis.shorts 0 j + 1 else 0
    let doneO := if decide (conf ≤ no) then setBitN s.trellis.opensDone j else clrBitN s.trellis.opensDone j
    let doneS := if decide (conf ≤ ns) then setBitN s.trellis.shortsDone j else clrBitN s.trellis.shortsDone j
    let t := { s with trellis := { s.trellis with
      seen := setBitN s.trellis.seen j, opensDone := doneO, shortsDone := doneS,
      opens := Tab.put s.trellis.opens 0 j no, shorts := Tab.put s.trellis.shorts 0 j ns } }
    let t := if bitOf doneO j && !bitOf s.trellis.opensDone j then ledConfirm (TR_OPEN 0) 89 j t else t
    if bitOf doneS j && !bitOf s.trellis.shortsDone j then ledConfirm (TR_SHORT 0) 90 j t else t

/-- Column `c`, found low as `low` says, has been low in CONF + 1 frames now (R230): a fault is confirmed once in a scan. -/
def columnConfirms (s : State) (c : Nat) (low : Bool) : Bool :=
  low && Tab.get s.trellis.lows 0 c == s.fld TR_CFG2 TR_CFG2_CONF

/-- The column check of the first visit of a frame (R230). -/
def columnCheck (c : Nat) (low : Bool) (s : State) : State :=
  let n := if low then Tab.get s.trellis.lows 0 c + 1 else 0
  let t := { s with trellis := { s.trellis with lows := Tab.put s.trellis.lows 0 c n } }
  if columnConfirms s c low then
    let a := if c < 32 then TR_COLF_LO else TR_COLF_HI
    let t := State.setReg a (BitVec.ofNat 32 (setBitN (s.reg a).toNat (c % 32))) t
    dieFault 4 22 (dieEv 4 91 c (State.setFlag TR_STAT TR_STAT_COLF true t))
  else t

/-- The column sinks of the Trellis. -/
def trColumns (s : State) : List Nat := (List.range 48).filter (fun c => isColumn s c)

/-- The LEDs of one visited line run and are observed (R225, R228, R229); entry c of `reads` is what the comparators of
column c read, and a column without an entry is not read. -/
def lineLeds (line : Nat) (reads : List ColRead) (s : State) : State :=
  (trColumns s).foldl (fun t c =>
    let j := 48 * line + c
    let t := match reads[c]? with
      | some r => if t.flag (LC_DCFG c) LC_DCFG_DIAG_EN then ledObserve j r t else t
      | none => t
    ledRun j t) s

/-- The column checks of the first visit of a frame (R230): every column is judged, and then COLF_STOP stops the scan. -/
def columnChecks (reads : List ColRead) (s : State) : State :=
  let low (c : Nat) : Bool := reads[c]?.any (fun r => decide (r.pre < 1000))
  let t := (trColumns s).foldl (fun t c => columnCheck c (low c) t) s
  if s.flag TR_CFG2 TR_CFG2_COLF_STOP && (trColumns s).any (fun c => columnConfirms s c (low c)) then trHit (trStop 2 t)
  else t

/-- One line visit (R225): the column check in the first visit of the frame, the LEDs of a line that is
not latched, and the advance to the next line, sub-scan or the end of scanning (R227). -/
def lineVisit (reads : List ColRead) (s : State) : State :=
  let tr := s.trellis
  let t := if tr.line = 0 ∧ tr.sub = 0 then columnChecks reads s else s
  if t.fld TR_STAT TR_STAT_STATE != 1 then t
  else
    let t := if bitOf (t.fld TR_STAT TR_STAT_LLATCH) tr.line then t else lineLeds tr.line reads t
    if !t.flag TR_CMD TR_CMD_RUN || !serving t 14 || (t.bank 14).moored then trStop 0 t
    else
      let last := tr.line + 1 == trLines s
      { t with trellis := { t.trellis with
        line := (if last then 0 else tr.line + 1),
        sub := (if last then tr.sub + 1 else tr.sub) } }

/-- LCLR (R230, R231): latched lines whose veto is clear are released, and FAULT is left. -/
def trLclr (s : State) : State :=
  let l := s.fld TR_STAT TR_STAT_LLATCH
  let kept := (List.range 16).foldl
    (fun x n => if bitOf l n && !bitOf s.trellis.veto n then clrBitN x n else x) l
  let t := State.setFld TR_STAT TR_STAT_LLATCH kept s
  if t.fld TR_STAT TR_STAT_STATE = 2 then trStop 0 t else t

/-- An applied TR_CMD word (R226, R227, R231); the safe level of R233 ends with it. -/
def applyTrCmd (run show' lclr : Bool) (s : State) : State :=
  let t := State.setFlag TR_CMD TR_CMD_SHOW show' (State.setFlag TR_CMD TR_CMD_RUN run s)
  let t := { t with trellis := { t.trellis with
    showTime := (if show' != s.flag TR_CMD TR_CMD_SHOW then s.now else t.trellis.showTime),
    safeLevel := none } }
  if lclr then trLclr t else t

/-- A Trellis frame starts (R226, R227): VTRSUP is measured, a SHOW applied before this die cycle swaps
the buffers; Over and thermal shutdown hold it in SUPPLY (R212, R213). -/
def trFrameStart (vtrsup : Nat) (s : State) : State :=
  let st := s.fld TR_STAT TR_STAT_STATE
  if st = 2 then s
  else if !serving s 14 || (s.bank 14).moored || !s.flag TR_CMD TR_CMD_RUN then (if st = 0 then s else trStop 0 s)
  else if inOver s || lightTsd s then State.setFld TR_STAT TR_STAT_STATE 3 s
  else
    let fresh := st != 1
    let t := State.setFld TR_STAT TR_STAT_STATE 1 s
    let t := if s.trellis.showTime < s.now && !(s.die 4).silent then
        State.setFld TR_STAT TR_STAT_DISP (s.fld TR_CMD TR_CMD_SHOW) t else t
    { t with trellis := { t.trellis with
      frame := (if fresh then 0 else (s.trellis.frame + 1) % 2 ^ 32),
      lows := (if fresh then [] else s.trellis.lows),
      line := 0, sub := 0, vtrsup := vtrsup, seen := 0 } }

end Sys2Proof.Machine
end

