-- ==== Sys2Proof/Machine/SluiceOps.lean ====
section
/-! DEFINITION. What the Arbour does with a valve and a valve bank (R148 to R176). -/

namespace Sys2Proof.Machine

/-- STATE codes of a valve (R153). -/
abbrev sluOff : Nat := 0
/-- PEAK -/
abbrev sluPeak : Nat := 1
/-- HOLD -/
abbrev sluHold : Nat := 2
/-- PROP -/
abbrev sluProp : Nat := 3
/-- DECAY -/
abbrev sluDecay : Nat := 4
/-- DEFER -/
abbrev sluDefer : Nat := 5
/-- LATCHED -/
abbrev sluLatched : Nat := 6
/-- VETOED -/
abbrev sluVetoed : Nat := 7
/-- REFUSED -/
abbrev sluRefused : Nat := 8
/-- SUPPLY -/
abbrev sluSupply : Nat := 9

/-- Hidden state of valve `v`. -/
def State.valve (s : State) (v : Nat) : Valve := Tab.get s.valves {} v

/-- The state with the hidden state of valve `v` changed. -/
def State.modValve (v : Nat) (f : Valve → Valve) (s : State) : State :=
  { s with valves := Tab.mod s.valves {} v f }

/-- STATE of valve `v`. -/
def sluState (s : State) (v : Nat) : Nat := s.fld (SLU_STAT v) SLU_STAT_STATE

/-- STATE of valve `v` becomes `st`. -/
def setSluState (v st : Nat) (s : State) : State := State.setFld (SLU_STAT v) SLU_STAT_STATE st s

/-- The bank of a valve. -/
def bankOfValve (v : Nat) : Nat := v / 6

/-- The valves of bank `b` in valve order. -/
def valvesOf (b : Nat) : List Nat := (List.range 6).map (fun k => 6 * b + k)

/-- The low-side driver regulates: PEAK, HOLD or PROP. -/
def sluLive (s : State) (v : Nat) : Bool :=
  sluState s v == sluPeak || sluState s v == sluHold || sluState s v == sluProp

/-- The demand of valve `v` is on (R153). -/
def sluDemand (s : State) (v : Nat) : Bool := s.flag (SLU_CMD v) SLU_CMD_ON

/-- The proportional target in mA, 2001 to 2047 acting as 2000 (R178). -/
def sluSetpt (s : State) (v : Nat) : Nat := clampN 0 2000 (s.fld (SLU_CMD v) SLU_CMD_SETPT)

/-- The current target of a live valve in mA. -/
def sluTarget (s : State) (v : Nat) : Nat :=
  if sluState s v = sluPeak then clampN 10 80 (s.fld (SLU_CFG v) SLU_CFG_IPEAK) * 50
  else if sluState s v = sluHold then clampN 2 40 (s.fld (SLU_CFG v) SLU_CFG_IHOLD) * 50
  else sluSetpt s v

/-- Bank `b` is latched (R150). -/
def bswLatched (s : State) (b : Nat) : Bool := s.flag (SLU_BSTAT b) SLU_BSTAT_BSW_LATCH

/-- The bank switch of bank `b` is closed (R149, R151, R176). -/
def bankClosed (s : State) (b : Nat) : Bool :=
  !bswLatched s b && !inOver s && !(s.bank (6 + b)).moored &&
  (valvesOf b).any (fun v => sluLive s v ||
    (sluState s v == sluDecay && s.fld (SLU_CFG v) SLU_CFG_DECAY != 2))

/-- The voltage at BSWn in mV as the Harbour and Arbour last saw the two sources (R149). -/
def bankNode (s : State) (b : Nat) : Nat :=
  if s.flag (SLU_BSTAT b) SLU_BSTAT_ON_VRES then s.sup.vres else s.sup.vbat

/-- The deferral window of valve `v` in ns. -/
def deferTime (s : State) (v : Nat) : Nat := s.fld (SLU_DITH v) SLU_DITH_DEFER_T * 1000000

/-- Start of the kink window in ns (R165). -/
def kinkStart (s : State) (v : Nat) : Nat :=
  (s.valve v).grant + s.fld (SLU_KINK v) SLU_KINK_KW_START * 100000

/-- End of the kink window in ns (R165). -/
def kinkEnd (s : State) (v : Nat) : Nat :=
  (s.valve v).grant + s.fld (SLU_KINK v) SLU_KINK_KW_END * 500000

/-- The kink window of a valve closes without a kink: NOMOVE and EV051, if it had opened (R167). -/
def closeKink (v : Nat) (s : State) : State :=
  if (s.valve v).watching then
    let t := State.modValve v (fun x => { x with watching := false }) s
    if kinkStart s v < kinkEnd s v && kinkStart s v < s.now then
      dieEv 3 51 v (State.setFlag (SLU_MOVE v) SLU_MOVE_NOMOVE true t)
    else t
  else s

/-- The bank of valve `v` releases its peak, if `v` owns it, and returns to VBAT (R149, R159). -/
def releasePeak (v : Nat) (s : State) : State :=
  let b := bankOfValve v
  if s.fld (SLU_BSTAT b) SLU_BSTAT_PEAK_OWNER = v then
    closeKink v (State.setFlag (SLU_BSTAT b) SLU_BSTAT_ON_VRES false
      (State.setFld (SLU_BSTAT b) SLU_BSTAT_PEAK_OWNER 0x1F s))
  else s

/-- Decay by DECAY 0b00 or 0b11 runs into VRES when nothing diverts it and VRES stands 10 V above the
bank node (R162). -/
def fastPath (s : State) (v : Nat) : Bool :=
  let d := s.fld (SLU_CFG v) SLU_CFG_DECAY
  (d == 0 || d == 3) && !s.sup.diverted && decide (bankNode s (bankOfValve v) + 10000 ≤ s.sup.vres)

/-- EREC of a bank grows by what a decay recovered into VRES; it saturates (R164). -/
def addErec (v mj : Nat) (s : State) : State :=
  let a := SLU_REC (bankOfValve v)
  let x := (s.reg a).toNat + mj
  State.setReg a (BitVec.ofNat 32 (if 0xFFFFFFFF < x then 0xFFFFFFFF else x)) s

/-- DITH_F of valve `v` in 10 Hz units (R178). -/
def dithF (s : State) (v : Nat) : Nat := clampN 5 40 (s.fld (SLU_DITH v) SLU_DITH_DITH_F)

/-- DITH_A of valve `v` in 0.5 % units (R178). -/
def dithA (s : State) (v : Nat) : Nat := clampN 0 40 (s.fld (SLU_DITH v) SLU_DITH_DITH_A)

/-- A dither period of valve `v` starts: DITH_F and DITH_A take effect, and the next start follows from them (R156). -/
def ditherStart (v : Nat) (s : State) : State :=
  State.modValve v (fun x => { x with
    dithF := dithF s v, dithA := dithA s v, dithNext := some (s.now + 100000000 / dithF s v) }) s

/-- Peak-to-peak amplitude of the dither of valve `v` in mA (R156): 2 × DITH_A × SETPT / 100, reduced until the current
stays between 0 and 2000 mA about its mean SETPT. -/
def ditherPp (s : State) (v : Nat) : Nat :=
  let sp := sluSetpt s v
  Nat.min ((s.valve v).dithA * sp / 100) (2 * Nat.min sp (2000 - sp))

/-- The limits of the current target of a valve in PROP, in mA: SETPT less and plus half the dither (R156). -/
def ditherRange (s : State) (v : Nat) : Nat × Nat :=
  (sluSetpt s v - ditherPp s v / 2, sluSetpt s v + ditherPp s v / 2)

/-- The dither periods of the valves that have come to their start begin (R156). -/
def ditherTick (s : State) : State :=
  s.valves.foldl (fun t e => match e.2.dithNext with
    | some b => if b ≤ t.now then ditherStart e.1 t else t
    | none => t) s

/-- A protection layer or the supply takes valve `v` off now (R27). -/
def valveHit (v : Nat) (s : State) : State := State.modValve v (fun x => { x with hitAt := some s.now }) s

/-- A decay of valve `v` that runs into VRES moves to the local clamp: what it has recovered, `mj` mJ, counts (R81, R162,
R164). -/
def decayToClamp (v mj : Nat) (s : State) : State :=
  if (s.valve v).decayFast then
    State.modValve v (fun x => { x with decayFast := false }) (addErec v mj s)
  else s

/-- A live valve begins to decay (R162). -/
def startDecay (v : Nat) (c : DecayCause) (s : State) : State :=
  let t := releasePeak v s
  let fast := fastPath t v
  let t := State.setFlag (SLU_STAT v) SLU_STAT_SAT false
    (State.setFlag (SLU_STAT v) SLU_STAT_PEND false (setSluState v sluDecay t))
  State.modValve v (fun x => { x with
    request := none, cause := c, decayStart := s.now, decayFast := fast, watching := false, dithNext := none }) t

/-- A turn-on of valve `v` (R153): none under Moored hold (R176), VETOED under its veto, SUPPLY while its bank is
latched or VBAT in Over, PROP at once in proportional mode, a peak request in peak-and-hold mode. -/
def valveTurnOn (v : Nat) (bounded : Bool) (s : State) : State :=
  let b := bankOfValve v
  if !pinFirst s (129 + v) || (s.bank (6 + b)).moored then s
  else if s.flag (SLU_STAT v) SLU_STAT_VETO_T then
    (if sluState s v = sluVetoed then s else dieEv 3 58 v (setSluState v sluVetoed s))
  else if bswLatched s b || inOver s then setSluState v sluSupply s
  else if s.flag (SLU_CFG v) SLU_CFG_MODE then
    ditherStart v (State.modValve v (fun x => { x with request := none, onTime := s.now, checked := false })
      (setSluState v sluProp s))
  else
    State.modValve v (fun x => { x with request := some s.now, fresh := true, bounded := bounded }) s

/-- A valve that waits goes to OFF and its request is withdrawn. -/
def valveToOff (v : Nat) (s : State) : State :=
  State.modValve v (fun x => { x with request := none })
    (State.setFlag (SLU_STAT v) SLU_STAT_PEND false (setSluState v sluOff s))

/-- An applied SLU_CMD word (R153, R154, R160, R163, R173). -/
def applySluCmd (v : Nat) (on : Bool) (setpt : Nat) (clr : Bool) (s : State) : State :=
  let old := sluDemand s v
  let st := sluState s v
  let t := State.setFld (SLU_CMD v) SLU_CMD_SETPT setpt (State.setFlag (SLU_CMD v) SLU_CMD_ON on s)
  if !serving s (6 + bankOfValve v) then t
  else if !on then
    if sluLive s v then startDecay v .off t
    else if st = sluDecay then State.setFlag (SLU_STAT v) SLU_STAT_PEND false t
    else if st = sluDefer ∨ st = sluVetoed ∨ st = sluRefused ∨ st = sluOff then valveToOff v t
    else State.modValve v (fun x => { x with request := none }) t
  else if !old then
    if st = sluOff ∨ st = sluLatched ∨ st = sluRefused then valveTurnOn v true t
    else if st = sluDecay then
      State.modValve v (fun x => { x with bounded := true }) (State.setFlag (SLU_STAT v) SLU_STAT_PEND true t)
    else t
  else if clr && (st == sluLatched || st == sluRefused) then valveTurnOn v true t
  else t

/-- The safe point of a decay: a pending turn-on starts from the beginning, or the valve goes where its
cause leads (R162, R163). -/
def safePoint (v : Nat) (s : State) : State :=
  let x := s.valve v
  let pend := s.flag (SLU_STAT v) SLU_STAT_PEND
  let t := State.setFlag (SLU_STAT v) SLU_STAT_PEND false s
  if pend && sluDemand s v then valveTurnOn v x.bounded (setSluState v sluOff t)
  else match x.cause with
    | .off => setSluState v sluOff t
    | .latched => setSluState v sluLatched t
    | .supply =>
      if bswLatched s (bankOfValve v) || inOver s then setSluState v sluSupply t
      else if sluDemand s v then valveTurnOn v false (setSluState v sluOff t)
      else setSluState v sluOff t

/-- Valves in SUPPLY of bank `b` restart in valve order, their requests without a bound (R161). -/
def supplyRestart (b : Nat) (s : State) : State :=
  (valvesOf b).foldl (fun t v =>
    if sluState t v = sluSupply then
      if sluDemand t v then valveTurnOn v false (setSluState v sluOff t) else setSluState v sluOff t
    else t) s

/-- Every valve of bank `b` loses its supply: live valves decay towards SUPPLY, waiting ones enter it
(R150, R151). -/
def bankSupplyOff (b : Nat) (s : State) : State :=
  (valvesOf b).foldl (fun t v =>
    if sluLive t v then valveHit v (startDecay v .supply t)
    else if sluState t v = sluDefer ∨ (t.valve v).request.isSome then
      setSluState v sluSupply (State.modValve v (fun x => { x with request := none }) t)
    else t) s

/-- The bank switch of bank `b` latches (R150). -/
def bankLatch (b : Nat) (s : State) : State :=
  let t := bankSupplyOff b s
  dieFault 3 (14 + b) (dieEv 3 60 b (State.setFlag (SLU_BSTAT b) SLU_BSTAT_BSW_LATCH true t))

/-- Valve `v` takes its entry of the safe-state table (R175). -/
def safeValve (v : Nat) (s : State) : State :=
  let safe := s.fld (SLU_CFG v) SLU_CFG_SAFE
  let st := sluState s v
  if safe = 2 then s
  else if st = sluLatched ∨ st = sluVetoed ∨ st = sluRefused then
    State.setFlag (SLU_CMD v) SLU_CMD_ON (safe == 1) s
  else if safe = 1 then
    let t := State.setFlag (SLU_CMD v) SLU_CMD_ON true s
    if !serving s (6 + bankOfValve v) then t
    else if st = sluOff ∨ st = sluDefer then valveTurnOn v false t
    else if st = sluDecay then
      State.modValve v (fun x => { x with bounded := false }) (State.setFlag (SLU_STAT v) SLU_STAT_PEND true t)
    else t
  else
    let t := State.setFlag (SLU_CMD v) SLU_CMD_ON false s
    if sluLive s v then startDecay v .off t
    else if st = sluDecay then State.setFlag (SLU_STAT v) SLU_STAT_PEND false t
    else if st = sluSupply then t
    else valveToOff v t

/-- Every valve of bank `b` takes its safe state (R175). -/
def sluSafeState (b : Nat) (s : State) : State := (valvesOf b).foldl (fun t v => safeValve v t) s

/-- Every energised valve of bank `b` decays and every other one goes to OFF, as at ENABLE = 0 (R153). -/
def sluAllOff (b : Nat) (s : State) : State :=
  (valvesOf b).foldl (fun t v =>
    if sluLive t v then startDecay v .off t
    else if sluState t v = sluDecay then
      State.modValve v (fun x => { x with cause := .off }) (State.setFlag (SLU_STAT v) SLU_STAT_PEND false t)
    else valveToOff v t) s

/-- The moor frame (R176): every energised valve of bank `b` decays and turn-ons that wait are withdrawn. -/
def sluMoor (b : Nat) (s : State) : State :=
  (valvesOf b).foldl (fun t v =>
    if sluLive t v then startDecay v .off t
    else if sluState t v = sluDecay then State.setFlag (SLU_STAT v) SLU_STAT_PEND false t
    else if sluState t v = sluDefer then valveToOff v t
    else State.modValve v (fun x => { x with request := none }) t) s

/-- Each valve of bank `b` whose demand is on makes a turn-on, as at ENABLE = 1, and without a bound at the claim
after a low-power state (R153, R176); in DECAY the turn-on waits for the safe point (R163). -/
def sluAllOn (b : Nat) (bounded : Bool) (s : State) : State :=
  (valvesOf b).foldl (fun t v =>
    if !sluDemand t v then t
    else if sluState t v = sluOff then valveTurnOn v bounded t
    else if sluState t v = sluDecay then
      (match (t.valve v).cause with
       | .off => State.modValve v (fun x => { x with bounded := bounded }) (State.setFlag (SLU_STAT v) SLU_STAT_PEND true t)
       | _ => t)
    else t) s

/-- Requests of bank `b` that may be granted now: those that wait, but for a bounded one whose window
has ended (R160). -/
def grantable (s : State) (b : Nat) : List Nat :=
  (valvesOf b).filter (fun v =>
    match (s.valve v).request with
    | none => false
    | some r => (s.valve v).fresh || !(s.valve v).bounded || decide (s.now < r + deferTime s v))

/-- Of two waiting valves the one whose request is older, the lower number at equal age (R159). -/
def olderRequest (s : State) (best : Option Nat) (v : Nat) : Option Nat :=
  match best with
  | none => some v
  | some u => if ((s.valve v).request.getD 0) < ((s.valve u).request.getD 0) then some v else some u

/-- The reservoir may give a peak at VRES `vres` mV (R76, R80): VRES stands at VALVE_FLOOR, held between 40 and 72 V (log
entry 68), and the reservoir is neither in RIDE nor in FAULT. -/
def peakFromVres (s : State) (vres : Nat) : Bool :=
  decide (clampN 40 72 (s.fld SUPPLY_RES_CFG2 SUPPLY_RES_CFG2_VALVE_FLOOR) * 1000 ≤ vres) &&
  resState s != resRide && resState s != resFault

/-- The bank grants its peak to valve `v`; with BOOST the peak comes from VRES where R80 allows it. -/
def grantPeak (v vres : Nat) (s : State) : State :=
  let b := bankOfValve v
  let boost := s.flag (SLU_BANK b) SLU_BANK_BOOST
  let onVres := boost && peakFromVres s vres
  let pt := s.fld (SLU_CFG v) SLU_CFG_PEAK_T
  let t := State.setFlag (SLU_BSTAT b) SLU_BSTAT_ON_VRES onVres
    (State.setFld (SLU_BSTAT b) SLU_BSTAT_PEAK_OWNER v s)
  let t := State.setReg (SLU_MOVE v) 0#32 t
  let t := State.setFlag (SLU_STAT v) SLU_STAT_SRC onVres (setSluState v sluPeak t)
  let t := State.modValve v (fun x => { x with
    request := none, fresh := false, grant := s.now, onTime := s.now, checked := false,
    peakEnd := s.now + (if pt = 0 then 1 else pt) * 1000000,
    watching := s.flag (SLU_KINK v) SLU_KINK_KEN,
    samples := [], top := 0, low := 0, dipped := false, tLow := 0, runLow := 0 }) t
  if boost && !onVres then dieEv 3 13 v t else t

/-- The request of valve `v` is refused (R160); the record carries the owner of the peak. -/
def refusePeak (v : Nat) (s : State) : State :=
  let b := bankOfValve v
  let t := State.modValve v (fun x => { x with request := none, fresh := false }) s
  let t := State.setFlag (SLU_STAT v) SLU_STAT_REFUSED true (setSluState v sluRefused t)
  dieEvData 3 49 v [s.fld (SLU_BSTAT b) SLU_BSTAT_PEAK_OWNER] (State.incFld (SLU_BSTAT b) SLU_BSTAT_REFUSE_CNT t)

/-- A request that the slot did not grant is deferred, or refused in the same slot with DEFER_T = 0
(R159, R160). -/
def deferPeak (v : Nat) (s : State) : State :=
  let t := State.modValve v (fun x => { x with fresh := false }) s
  let t := dieEv 3 48 v (State.setFlag (SLU_STAT v) SLU_STAT_DEFERRED true (setSluState v sluDefer t))
  if (s.valve v).bounded && s.fld (SLU_DITH v) SLU_DITH_DEFER_T == 0 then refusePeak v t else t

/-- A request that waits while the thermal veto of its valve holds goes to VETOED (R173). -/
def vetoRequests (b : Nat) (s : State) : State :=
  (valvesOf b).foldl (fun t v =>
    if (t.valve v).request.isSome && t.flag (SLU_STAT v) SLU_STAT_VETO_T then
      dieEv 3 58 v (setSluState v sluVetoed (State.modValve v (fun x => { x with request := none, fresh := false }) t))
    else t) s

/-- The bank's sequencer slot (R159). -/
def peakSlot (b vres : Nat) (s : State) : State :=
  let s := vetoRequests b s
  let t := if s.fld (SLU_BSTAT b) SLU_BSTAT_PEAK_OWNER = 0x1F && !bswLatched s b && !inOver s then
      (match (grantable s b).foldl (olderRequest s) none with
       | none => s
       | some v => grantPeak v vres s)
    else s
  ((valvesOf b).filter (fun v => (t.valve v).fresh && (t.valve v).request.isSome)).foldl
    (fun t v => deferPeak v t) t

/-- A low-side latch: a live valve decays towards LATCHED, a decaying one goes there at its safe point
with its pending turn-on withdrawn (R163, R169, R173). -/
def valveLatch (v : Nat) (s : State) : State :=
  if sluLive s v then valveHit v (startDecay v .latched s)
  else if sluState s v = sluDecay then
    valveHit v (State.modValve v (fun x => { x with cause := .latched })
      (State.setFlag (SLU_STAT v) SLU_STAT_PEND false s))
  else s

/-- The `n`-th consecutive result of valve `v` confirms CODE `code` (R168, R171, R172): as the run becomes long enough,
and again while it goes on where another result has taken CODE since. -/
def valveConfirms (s : State) (v n code : Nat) : Bool :=
  let need := s.fld (SLU_DCFG v) SLU_DCFG_OL_CNT + 1
  decide (need ≤ n) && (n == need || s.fld (SLU_STAT v) SLU_STAT_CODE != code)

/-- A confirmed result in CODE with its sticky bit and event (R168, R169, R171). -/
def valveCode (v code by' : Nat) (s : State) : State :=
  let t := State.modValve v (fun x => { x with codeBy := by', goodCount := 0 })
    (State.setFld (SLU_STAT v) SLU_STAT_CODE code s)
  match code with
  | 1 => dieEv 3 53 v (State.setFlag (SLU_STAT v) SLU_STAT_OPEN true t)
  | 2 => dieEv 3 54 v (State.setFlag (SLU_STAT v) SLU_STAT_SHORT_GND true t)
  | 3 => dieEv 3 55 v (State.setFlag (SLU_STAT v) SLU_STAT_SHORT_BAT true t)
  | 4 => dieEv 3 56 v (State.setFlag (SLU_STAT v) SLU_STAT_SHORT_LOAD true t)
  | _ => t

/-- A good observation of kind `by'`: CODE returns to OK after OL_CNT + 1 of them (R172). -/
def valveGood (v by' : Nat) (s : State) : State :=
  if s.fld (SLU_STAT v) SLU_STAT_CODE != 0 && (s.valve v).codeBy == by' then
    let n := (s.valve v).goodCount + 1
    if s.fld (SLU_DCFG v) SLU_DCFG_OL_CNT + 1 ≤ n then
      State.modValve v (fun x => { x with goodCount := 0 }) (State.setFld (SLU_STAT v) SLU_STAT_CODE 0 s)
    else State.modValve v (fun x => { x with goodCount := n }) s
  else s

/-- The mean of a list of numbers. -/
def meanN (l : List Nat) : Nat := l.foldl (· + ·) 0 / l.length

/-- A kink is reported (R167): MOVED, MOVE_T from the grant, I_KINK, EV050; with PEAK_END the peak ends
PEAK_EXT after the kink at the latest (R155). -/
def reportKink (v tk cur : Nat) (s : State) : State :=
  let t := State.setFld (SLU_MOVE v) SLU_MOVE_MOVE_T ((tk - (s.valve v).grant) / 10000)
    (State.setFld (SLU_MOVE v) SLU_MOVE_I_KINK cur (State.setFlag (SLU_MOVE v) SLU_MOVE_MOVED true s))
  let e := tk + s.fld (SLU_CFG v) SLU_CFG_PEAK_EXT * 1000000
  let t := State.modValve v (fun x => { x with
    watching := false,
    peakEnd := (if s.flag (SLU_CFG v) SLU_CFG_PEAK_END && decide (e < x.peakEnd) then e else x.peakEnd) }) t
  dieEv 3 50 v t

/-- One sample of the kink detector (R166). The mean takes the samples there are until the window holds four, and rounds
down; the manual gives neither (DESIGN CHOICE, log entry 70). -/
def kinkStep (v x : Nat) (s : State) : State :=
  let k := s.valve v
  let kth := s.fld (SLU_KINK v) SLU_KINK_KTH
  let kth := if kth = 0 then 1 else kth
  let samples := (x :: k.samples).take 4
  let m := meanN samples
  let first := k.samples.isEmpty
  if !s.flag (SLU_KINK v) SLU_KINK_KSRC then
    let th := kth * 10
    if first then State.modValve v (fun y => { y with samples := samples, top := m, low := m }) s
    else if !k.dipped then
      let top := if k.top < m then m else k.top
      if m + th ≤ top then
        State.modValve v (fun y => { y with
          samples := samples, top := top, dipped := true, low := m, tLow := s.now }) s
      else State.modValve v (fun y => { y with samples := samples, top := top }) s
    else
      let lower := decide (m < k.low)
      let low := if lower then m else k.low
      let tLow := if lower then s.now else k.tLow
      let t := State.modValve v (fun y => { y with samples := samples, low := low, tLow := tLow }) s
      if low + th ≤ m then reportKink v tLow low t else t
  else
    if first then State.modValve v (fun y => { y with samples := samples, top := m, low := m }) s
    else
      let top := if k.top < m then m else k.top
      if m + kth ≤ top then
        let n := k.runLow + 1
        let tl := if k.runLow = 0 then s.now else k.tLow
        let t := State.modValve v (fun y => { y with samples := samples, top := top, runLow := n, tLow := tl }) s
        if 4 ≤ n then reportKink v tl m t else t
      else State.modValve v (fun y => { y with samples := samples, top := top, runLow := 0 }) s

end Sys2Proof.Machine
end

