-- ==== Sys2Proof/Machine/SupplyOps.lean ====
section
/-! DEFINITION. The supply section: VBAT bands, the reservoir and the camera rails (R69 to R90). -/

namespace Sys2Proof.Machine

/-- Camera rail `n` beside its registers. -/
def State.rail (s : State) (n : Nat) : CamRail := Tab.get s.sup.rails {} n

/-- The state with camera rail `n` changed. -/
def State.modRail (n : Nat) (f : CamRail → CamRail) (s : State) : State :=
  { s with sup := { s.sup with rails := Tab.mod s.sup.rails {} n f } }

/-- An observed VBAT and VRES, in mV: SUPPLY_VOLT holds them in 10 mV units (R92, R507); at 40 V the precharge step
of a start ends (R75). -/
def seeVolts (vbat vres : Nat) (s : State) : State :=
  let sat (x : Nat) : Nat := if 0xFFFF < x / 10 then 0xFFFF else x / 10
  let t := State.setFld SUPPLY_VOLT SUPPLY_VOLT_VBAT (sat vbat) s
  let t := State.setFld SUPPLY_VOLT SUPPLY_VOLT_VRES (sat vres) t
  { t with
    sup := { t.sup with vbat := vbat, vres := vres, vresTop := Nat.max t.sup.vresTop vres }
    start := { t.start with resDone := t.start.resDone || decide (40000 ≤ vres) } }

/-! ### The reservoir -/

/-- The boost drives now (R71, R74): in BOOST, and in RIDE in Reduced with its 1 V of hysteresis; never in Over. -/
def boostDrives (s : State) : Bool :=
  let tgt := vresTarget s
  !inOver s &&
    (resState s == resBoost ||
     (resState s == resRide && s.fld SUPPLY_STAT SUPPLY_STAT_BAND == 1 &&
       (decide (s.sup.vres + 1000 ≤ tgt) || (s.sup.boost && decide (s.sup.vres < tgt)))))

/-- The boost is driven or stopped. -/
def setBoost (s : State) : State := { s with sup := { s.sup with boost := boostDrives s } }

/-- Input limit of the boost in A (R74, R92). -/
def boostLimit (s : State) : Nat :=
  if !s.sup.boost then 0
  else clampN 0 8 (if s.fld SUPPLY_STAT SUPPLY_STAT_BAND = 1 then s.fld SUPPLY_RES_CFG SUPPLY_RES_CFG_CHG_ILIM_LOW
    else s.fld SUPPLY_RES_CFG SUPPLY_RES_CFG_CHG_ILIM)

/-- RIDE is entered: it counts, and EV004 is raised (R74). -/
def enterRide (s : State) : State :=
  let t := State.incFld SUPPLY_RIDE_CNT SUPPLY_RIDE_CNT_RIDE_CNT (setResState resRide s)
  let t := State.setFld SUPPLY_RIDE_CNT SUPPLY_RIDE_CNT_VMIN_RIDE (s.sup.vres / 10) t
  dieEv 5 4 0xFFFF t

/-- The reservoir leaves its present state for `x`; leaving RIDE raises EV005 (R74). -/
def resTo (x : Nat) (s : State) : State :=
  let was := resState s
  if x = was then s
  else
    let t := if x = resRide then enterRide s else setResState x s
    let t := if x = resPrecharge then
        { t with sup := { t.sup with prechargeStart := some s.now, vresTop := s.sup.vres } }
      else if x = resOff ∨ x = resFault ∨ x = resHeld then { t with sup := { t.sup with prechargeStart := none } }
      else t
    setBoost (if was = resRide then dieEv 5 5 0xFFFF t else t)

/-- VBAT stands in Reduced or Dropout. -/
def bandLow (s : State) : Bool := s.fld SUPPLY_STAT SUPPLY_STAT_BAND < 2

/-- The state in which a running reservoir belongs at the VBAT and VRES last seen (R74); in Over, where the boost is
stopped, BOOST is not entered (R71, log entry 68). -/
def resPlace (s : State) : Nat :=
  let tgt := vresTarget s
  if s.sup.vres + 1000 < s.sup.vbat then resPrecharge
  else if bandLow s then resRide
  else if tgt ≤ s.sup.vres then resFull
  else if resState s = resFull ∧ tgt < s.sup.vres + 1000 then resFull
  else if inOver s ∧ resState s != resOff ∧ resState s != resHeld then resState s
  else resBoost

/-- The reservoir runs: neither OFF, FAULT nor HELD. -/
def resRuns (s : State) : Bool :=
  resState s != resOff && resState s != resFault && resState s != resHeld

/-- A crossing of VRES (R74): RIDE is left only when VBAT returns to Full. -/
def resLevel (s : State) : State :=
  if !resRuns s then s
  else if resState s = resRide then
    setBoost (if s.sup.vres / 10 < s.fld SUPPLY_RIDE_CNT SUPPLY_RIDE_CNT_VMIN_RIDE then
      State.setFld SUPPLY_RIDE_CNT SUPPLY_RIDE_CNT_VMIN_RIDE (s.sup.vres / 10) s
    else s)
  else resTo (resPlace s) s

/-- VRES is observed at `vres` mV (R74, R81). -/
def seeRes (vres : Nat) (s : State) : State := resLevel (seeVolts s.sup.vbat vres s)

/-- BOOST_EN is written: 1 starts a reservoir that is OFF, and one that runs is judged by the present target; 0 stops it,
from FAULT too (R74). -/
def onBoostEn (new : Bool) (s : State) : State :=
  if new then (if resState s = resOff then resTo (resPlace s) s else resLevel s)
  else if resState s = resHeld then s else resTo resOff s

/-- The reservoir enters FAULT: EV009 and FLT24 (R76, R436). -/
def resFails (bit : Fld) (s : State) : State :=
  dieFault 5 24 (dieEv 5 9 0xFFFF (resTo resFault (State.setFlag SUPPLY_RES_STAT bit true s)))

/-! ### Camera rails -/

/-- Shed level of camera rail `n` in mV (R82). -/
def railShedLevel (s : State) (n : Nat) : Nat :=
  if s.flag (CR_CFG n) CR_CFG_SHED then vEarly s else vFloor s

/-- VSET of rail `n` in mV (R92). -/
def railVset (s : State) (n : Nat) : Nat := 5000 + clampN 0 200 (s.fld (CR_CFG n) CR_CFG_VSET) * 50

/-- ILIM of rail `n` in mA (R92). -/
def railIlim (s : State) (n : Nat) : Nat := (clampN 0 22 (s.fld (CR_CFG n) CR_CFG_ILIM) + 2) * 50

/-- Rails serve EN: SUPPLY is enabled, bank TR has been claimed, and no Moored hold stands (R88, R326,
R330). -/
def railServing (s : State) : Bool := dieEnabled s 0 && (s.bank 14).claimed && !(s.bank 14).moored

/-- Output of rail `n` in mV now, by its ramp at 10 V/ms (R84). -/
def railNow (s : State) (n : Nat) : Nat :=
  let r := s.rail n
  let d := (s.now - r.rampStart) / 100
  let v := railVset s n
  if r.rampFrom ≤ v then (if v < r.rampFrom + d then v else r.rampFrom + d)
  else if r.rampFrom < v + d then v else r.rampFrom - d

/-- Rail `n` turns on with soft start from 0 (R84). -/
def railStart (n : Nat) (s : State) : State :=
  State.modRail n (fun r => { r with
      retryDue := none, retryWaits := false, startWaits := false, rampStart := s.now, rampFrom := 0 })
    (State.setFlag (CR_STAT n) CR_STAT_ON true s)

/-- A start of rail `n` falls due: the thermal veto holds it off (R85); a rail shed at present waits for
VRES (R82), as one does that the reservoir in FAULT cannot carry (R76). -/
def railDue (n : Nat) (s : State) : State :=
  if !pinFirst s (153 + n) then s
  else if !resCarries s then State.setFlag (CR_STAT n) CR_STAT_SHED_V true s
  else if s.flag (CR_STAT n) CR_STAT_SHED_V then s
  else if (s.rail n).veto then State.modRail n (fun r => { r with startWaits := true }) s
  else railStart n s

/-- Rail `n` turns off. -/
def railOff (n : Nat) (s : State) : State :=
  State.modRail n (fun r => { r with retryDue := none, retryWaits := false, startWaits := false })
    (State.setFld (CR_STAT n) CR_STAT_IOUT 0 (State.setFlag (CR_STAT n) CR_STAT_ON false s))

/-- EN of rail `n` is written (R84, R86, R87): 0 turns the rail off and clears LATCHED, RETRIES and SHED_V (log entry
68); 1 after 0 turns it on. -/
def onRailEn (n : Nat) (old new : Bool) (s : State) : State :=
  if !new then
    railOff n (State.setFld (CR_STAT n) CR_STAT_RETRIES 0
      (State.setFlag (CR_STAT n) CR_STAT_SHED_V false (State.setFlag (CR_STAT n) CR_STAT_LATCHED false s)))
  else if !old && railServing s then railDue n s
  else s

/-- VSET of rail `n` is written while it is on: the output ramps from where it is (R84). -/
def onRailVset (n now : Nat) (s : State) : State :=
  if s.flag (CR_STAT n) CR_STAT_ON then
    State.modRail n (fun r => { r with rampStart := s.now, rampFrom := now }) s
  else s

/-- Rail `n` latches off: EV011, FLT23, LATCHED; a retry falls due where one is left (R85, R86, R436); after a thermal
latch none does (log entry 68). -/
def railLatch (n : Nat) (bit : Fld) (retries therm : Bool) (s : State) : State :=
  let t := railOff n (State.setFlag (CR_STAT n) CR_STAT_LATCHED true (State.setFlag (CR_STAT n) bit true s))
  let left := s.fld (CR_STAT n) CR_STAT_RETRIES < s.fld (CR_CFG n) CR_CFG_RETRY
  let t := State.modRail n (fun r => { r with
    veto := r.veto || therm,
    retryDue := if retries && left then some (s.now + 100000000) else none }) t
  dieFault 4 23 (dieEv 4 11 n t)

/-- A retry of rail `n` is performed and counted (R86). -/
def railRetry (n : Nat) (s : State) : State :=
  railStart n (State.setFlag (CR_STAT n) CR_STAT_LATCHED false
    (State.setFld (CR_STAT n) CR_STAT_RETRIES (s.fld (CR_STAT n) CR_STAT_RETRIES + 1) s))

/-- Every rail turns off through its normal turn-off, EN kept (R88, R326); a retry that is due later is dropped, and a
latched rail stays off until EN is written 0 and then 1 (log entry 68). -/
def railsOff (s : State) : State := (List.range 6).foldl (fun t n => railOff n t) s

/-- Rails with EN = 1 that are off and not latched start, as when SUPPLY is enabled and at the claim
(R84, R88, R330). -/
def railsOn (s : State) : State :=
  if railServing s then
    (List.range 6).foldl (fun t n =>
      if t.flag (CR_CFG n) CR_CFG_EN && !t.flag (CR_STAT n) CR_STAT_LATCHED &&
          !t.flag (CR_STAT n) CR_STAT_ON then railDue n t else t) s
  else s

/-! ### Bands -/

/-- Outputs turn off as VBAT enters Over (R71, R113, R151, R195, R213, R251). -/
def overOff (s : State) : State :=
  let t := (List.range 6).foldl (fun t p => uvOff p t) s
  let t := (List.range 4).foldl (fun t b => bankSupplyOff b t) t
  foOverOff (lightSupplyOff (brSupplyOff t))

/-- Outputs return as VBAT leaves Over, as after an undervoltage turn-off (R71, R114). -/
def overReturn (s : State) : State :=
  let t := (List.range 6).foldl (fun t p => uvRestart p t) s
  let t := (List.range 4).foldl (fun t b => supplyRestart b t) t
  foOverReturn (lightSupplyOn (brSupplyReturn t))

/-- The carrier of antenna `a` stops: IPK then holds its peak current, which no rule gives (R477, log entry 17). -/
def lfOff (a : Nat) (s : State) : State :=
  if s.flag (LF_STAT a) LF_STAT_ON then
    State.setFlag (LF_STAT a) LF_STAT_ON false
      { s.drawn with gate := { s.gate with ipk := Tab.put s.gate.ipk 0 a (s.draws + 1) } }
  else s

/-- The LF carriers stop (R29, R199), and a session that runs is to be abandoned (R471). -/
def lfStop (s : State) : State :=
  (List.range 6).foldl (fun t a => lfOff a t) { s with gate := { s.gate with broken := true } }

/-- VBAT stands in Reduced or Dropout: a running reservoir rides (R74). -/
def ridesOn (s : State) : State :=
  setBoost (if resRuns s && resState s != resRide then resTo resRide s else s)

/-- What entry to band `b` from band `was` does beside BAND and EV000 (R70 to R74). -/
def enterBand (was b : Nat) (s : State) : State :=
  match b with
  | 3 =>
    let t := setBoost (State.setFlag SUPPLY_STAT SUPPLY_STAT_OVER true s)
    dieFault 5 25 (dieEv 5 2 0xFFFF (lfStop (overOff t)))
  | 2 =>
    let t := if was = 3 then overReturn s else s
    if resRuns t then setBoost (resTo (resPlace t) t) else t
  | 1 =>
    let t := if was = 0 then brSupplyReturn (State.setFlag SUPPLY_STAT SUPPLY_STAT_LODGE_SRC false s) else s
    ridesOn t
  | _ =>
    let t := if was = 3 then overReturn s else s
    let t := State.setFlag SUPPLY_STAT SUPPLY_STAT_LODGE_SRC true
      (State.setFlag SUPPLY_STAT SUPPLY_STAT_DROP true t)
    ridesOn (dieEv 5 3 0xFFFF (lfStop (brSupplyOff t)))

/-- VBAT moves into band `b`: BAND, EV000 and the effects of the entry (R69). -/
def bandTo (b : Nat) (s : State) : State :=
  let was := s.fld SUPPLY_STAT SUPPLY_STAT_BAND
  if b = was then s
  else enterBand was b (dieEv 5 0 0xFFFF (State.setFld SUPPLY_STAT SUPPLY_STAT_BAND b s))

/-- The band that VBAT enters next from the present one after `dur` ns at `mv` (R69). -/
def nextBand (s : State) (mv dur : Nat) : Nat :=
  match s.fld SUPPLY_STAT SUPPLY_STAT_BAND with
  | 3 => if mv < 57000 ∧ 1000000 ≤ dur then 2 else 3
  | 2 => if 60000 < mv ∧ 20000 ≤ dur then 3 else if mv < 8000 ∧ 10000 ≤ dur then 1 else 2
  | 1 => if 8500 < mv ∧ 10000 ≤ dur then 2 else if mv < 4500 ∧ 5000 ≤ dur then 0 else 1
  | _ => if 5000 < mv ∧ 10000 ≤ dur ∧ !s.flag SUPPLY_STAT SUPPLY_STAT_RVACT then 1 else 0

/-! ### Shedding -/

/-- Shed level in mV of a VRES-fed load: rails 0 to 5, backlights 6 to 9 (R82). -/
def shedLevel (load : Nat) (s : State) : Nat :=
  if load < 6 then railShedLevel s load
  else if s.flag (BL_CFG (load - 6)) BL_CFG_SHED then vEarly s else vFloor s

/-- The load is shed early: SHED = 1 (R82). -/
def shedEarly (load : Nat) (s : State) : Bool :=
  if load < 6 then s.flag (CR_CFG load) CR_CFG_SHED else s.flag (BL_CFG (load - 6)) BL_CFG_SHED

/-- The event of a shed load: EV006 early, EV007 late (R82, R91). -/
def shedEvent (load : Nat) (s : State) : Nat := if shedEarly load s then 6 else 7

/-- The load is off by shedding at present. -/
def isShed (load : Nat) (s : State) : Bool :=
  if load < 6 then s.flag (CR_STAT load) CR_STAT_SHED_V else Tab.get s.sup.blShed false (load - 6)

/-- The shed mark of a load is set or cleared. -/
def markShed (load : Nat) (b : Bool) (s : State) : State :=
  if load < 6 then State.setFlag (CR_STAT load) CR_STAT_SHED_V b s
  else { s with sup := { s.sup with blShed := Tab.put s.sup.blShed false (load - 6) b } }

/-- VRES has fallen below a load's shed level (R82, R217): the load turns off. -/
def loadShed (load vres : Nat) (s : State) : State :=
  let t := seeRes vres s
  if vres < shedLevel load t ∧ !isShed load t then
    let t := markShed load true t
    if load < 6 then
      if t.flag (CR_STAT load) CR_STAT_ON || (t.rail load).startWaits then
        dieEv 4 (shedEvent load t) load (railOff load t)
      else t
    else
      let k := 48 + (load - 6)
      if ltState t k = ltOff ∨ ltState t k = ltLatched then t
      else dieEv 4 (shedEvent load t) load (ltHit k (ltDark k ltShed t))
  else t

end Sys2Proof.Machine
end

