-- ==== Sys2Proof/Machine/Banks.lean ====
section
/-! DEFINITION. What every bank does when the Lodge falls silent, when its limp timer expires, when it
is claimed and when its die is moored (R29 to R31, R116 to R120, R175, R197, R233, R251). Banks 0 to 5
are P1 to P6, 6 to 9 VB0 to VB3, 10 to 13 BG0 to BG3 and 14 is TR (R441). -/

namespace Sys2Proof.Machine

/-- The register that holds LIMP, SAFE, LIMPED and SAFED of bank `b`; the four bits have the same
places in all of them. -/
def bstat (b : Nat) : Nat :=
  if b < 6 then PAV_BSTAT b else if b < 10 then SLU_BSTAT (b - 6)
  else if b < 14 then BR_GSTAT (b - 10) else LIGHT_BSTAT

/-- LIMP_TIME of bank `b` in ns: 50 ms to 10 s in steps of 10 ms (R116). -/
def limpTime (s : State) (b : Nat) : Nat :=
  let x := if b < 6 then s.fld (PAV_BANK b) PAV_BANK_LIMP_TIME
    else if b < 10 then s.fld (SLU_BANK (b - 6)) SLU_BANK_LIMP_TIME
    else if b < 14 then s.fld (BR_GRP (b - 10)) BR_GRP_LIMP_TIME
    else s.fld LIGHT_BANK LIGHT_BANK_LIMP_TIME
  clampN 5 1000 x * 10000000

/-- The banks of die `d` (R13). -/
def banksOf (d : Nat) : List Nat := (List.range 15).filter (fun b => dieOfBank b == d)

/-- The index that the events of bank `b` carry: the bank's number in its own family. -/
def bankIndex (b : Nat) : Nat :=
  if b < 6 then b else if b < 10 then b - 6 else if b < 14 then b - 10 else 0

/-- The event of bank `b` entering limp (R125, R177, R200, R235). -/
def limpEvent (b : Nat) : Nat := if b < 6 then 25 else if b < 10 then 62 else if b < 14 then 76 else 94

/-- The event of bank `b` for a safe state at limp expiry. -/
def safeEvent (b : Nat) : Nat := if b < 6 then 26 else if b < 10 then 63 else if b < 14 then 77 else 95

/-- The event of bank `b` for a safe state by a fault reaction (R440). -/
def reactEvent (b : Nat) : Nat := if b < 6 then 24 else safeEvent b

/-- Bank `b` takes its safe-state table (R118, R175, R197, R233, R251). -/
def bankSafe (b : Nat) (s : State) : State :=
  if b < 6 then pavSafeState b s
  else if b < 10 then foSafeState (b - 6) (sluSafeState (b - 6) s)
  else if b < 14 then brSafeState (b - 10) s
  else trSafeState s

/-- Bank `b` enters limp: its timer starts, LIMP and LIMPED are set (R29, R116). -/
def bankLimp (b : Nat) (s : State) : State :=
  if (s.bank b).moored || (s.bank b).limpStart.isSome then s
  else
    let t := State.modBank b (fun x => { x with
      limpStart := some s.now, limpEnd := some (s.now + limpTime s b), limpReport := true }) s
    let t := State.setFlag (bstat b) PAV_BSTAT_LIMPED true (State.setFlag (bstat b) PAV_BSTAT_LIMP true t)
    if 6 ≤ b ∧ b < 10 then foSuspend (b - 6) t else t

/-- Die `d` finds the Lodge silent (R29): its banks enter limp, its shadow registers are discarded, and
on the Arbour the LF carriers stop. -/
def dieSilent (d : Nat) (s : State) : State :=
  if (s.die d).silent then s
  else
    let t := State.modDie d (fun x => { x with
      silent := true, shadow := [], received := 0, announced := none }) s
    let t := (banksOf d).foldl (fun t b => bankLimp b t) t
    if d = 3 then lfStop t else t

/-- LRST is released; every die has seen it by then (R18, R22). -/
def releaseLrst (s : State) : State :=
  if s.lock.lrst then
    let t := [0, 1, 2, 3, 4].foldl (fun t d => dieSilent d t) s
    { t with lock := { t.lock with lrst := false } }
  else s

/-- The limp timer of bank `b` has reached its expiry tick: the safe-state table is applied (R118). -/
def limpExpires (b : Nat) (s : State) : State :=
  let t := State.modBank b (fun x => { x with limpEnd := none, safeReport := true }) s
  let t := State.setFlag (bstat b) PAV_BSTAT_SAFED true (State.setFlag (bstat b) PAV_BSTAT_SAFE true t)
  bankSafe b t

/-- The limp timer of bank `b` has run out and its safe state is still to come (R30). -/
def limpDue (s : State) (b : Nat) : Bool :=
  match (s.bank b).limpEnd with
  | some e => decide (e ≤ s.now)
  | none => false

/-- The end of Moored hold at a claim (R31, R120, R176, R198, R234, R251). -/
def bankUnmoor (b : Nat) (s : State) : State :=
  let t := State.modBank b (fun x => { x with moored := false }) s
  if b < 6 then pavUnmoor b t
  else if b < 10 then
    foUnmoor (b - 6) (if serving t b then sluAllOn (b - 6) false t else t)
  else if b < 14 then brUnmoor (b - 10) t
  else railsOn (lightUnmoor t)

/-- The first claim of bank `b` since its die's reset lets it serve its demands (R330). -/
def bankFirstClaim (b : Nat) (s : State) : State :=
  let t := State.modBank b (fun x => { x with claimed := true }) s
  if !dieEnabled t (subOfBank b) then (if b = 14 then railsOn t else t)
  else if b < 6 then pavEnable b t
  else if b < 10 then
    let t := sluAllOn (b - 6) true t
    if dieEnabled t 10 then
      (fosOf (b - 6)).foldl (fun t o => if foDemand t o && foState t o == foOff then foTurnOn o t else t) t
    else t
  else if b < 14 then
    ((List.range 4).map (fun k => 4 * (b - 10) + k)).foldl (fun t h =>
      if brGovern t h = h ∧ brDemand t h ∧ brState t h = brOff then brTurnOn h (brDir t h) t else t) t
  else railsOn (lightAllOn t)

/-- The limp facts that bank `b` reports after a claim (R119): LIMP_MS of a Pavilion, the limp and
safe-state events, and EV027 for a Pavilion. -/
def limpReports (b : Nat) (s : State) : State :=
  let x := s.bank b
  let ms := (s.now - x.limpStart.getD s.now) / 1000000
  let t := State.modBank b (fun y => { y with
    limpStart := none, limpEnd := none, limpReport := false, safeReport := false }) s
  if x.limpReport then
    let t := if b < 6 then
        State.setFld (PAV_BSTAT b) PAV_BSTAT_LIMP_MS (if 0xFFFF < ms then 0xFFFF else ms) t
      else t
    let t := raiseEv (limpEvent b) (bankIndex b) t
    let t := if x.safeReport then raiseEv (safeEvent b) (bankIndex b) t else t
    if b < 6 then raiseEv 27 (bankIndex b) t else t
  else t

/-- Subsystem codes whose ENABLE bits the die takes over with the claim of bank `b` (R30, R326). -/
def claimEnables (b : Nat) : List Nat :=
  if b = 14 then [9, 0] else if 6 ≤ b ∧ b < 10 then [7, 10] else [subOfBank b]

/-- The part of subsystem `n` in bank `b` leaves service at a claim that finds its ENABLE bit 0 (R101, R153, R184, R326). -/
def bankOffService (b n : Nat) (s : State) : State :=
  if b < 6 then pavDisable b s
  else if b < 10 then (if n = 7 then sluAllOff (b - 6) s else foBankOff (b - 6) s)
  else if b < 14 then brGroupOff (b - 10) s
  else if n = 9 then lightDisable s else railsOff s

/-- The die takes over ENABLE bit `n` with the claim of bank `b` (R30, R326); outputs that it served without that bit go
off. -/
def takeEnable (b n : Nat) (s : State) : State :=
  let t := syncEnable n s
  if dieEnabled s n && !enabled s n then bankOffService b n t else t

/-- Bank `b` accepts a claim frame (R30): at or after the expiry tick its safe state comes first; then
the bank returns to Lodge control, Moored hold ends, and its die reports what it held (R119). -/
def claimBank (b : Nat) (s : State) : State :=
  let d := dieOfBank b
  let t := if limpDue s b then limpExpires b s else s
  let t := State.setFlag (bstat b) PAV_BSTAT_SAFE false (State.setFlag (bstat b) PAV_BSTAT_LIMP false t)
  let t := (claimEnables b).foldl (fun t n => takeEnable b n t) (State.modDie d (fun x => { x with silent := false }) t)
  let t := if !(t.bank b).claimed then
      bankFirstClaim b (State.modBank b (fun x => { x with moored := false })
        (if 10 ≤ b ∧ b < 14 then brUnmoor (b - 10) t else t))
    else if (t.bank b).moored then bankUnmoor b t else t
  let t := if 6 ≤ b ∧ b < 10 then foResume (b - 6) t else t
  let t := if b < 6 then (List.range 16).foldl (fun t k => copyHh (16 * b + k) t) t else t
  deliverHeld d (limpReports b t)

/-- Die `d` accepts a moor frame (R31): its limp timers stop and its banks keep what is configured under
hold (R120, R176, R198, R234, R251); camera rails go off (R88). -/
def dieMoor (d : Nat) (s : State) : State :=
  (banksOf d).foldl (fun t b =>
    if (t.bank b).moored then t
    else
      let t := State.modBank b (fun x => { x with moored := true, limpEnd := none }) t
      if b < 6 then pavMoor b t
      else if b < 10 then foMoor (b - 6) (sluMoor (b - 6) t)
      else if b < 14 then brMoor (b - 10) t
      else railsOff (lightMoor t)) s

/-- The safe state of bank `b` by a fault reaction for source `n` (R440, R441): SAFED is set, the event
is raised at once with the source in its record, and the bank returns to Lodge control at once. -/
def reactBank (n b : Nat) (s : State) : State :=
  let t := bankSafe b (State.setFlag (bstat b) PAV_BSTAT_SAFED true s)
  raiseEvData (reactEvent b) (bankIndex b) [n] t

end Sys2Proof.Machine
end

