-- ==== Sys2Proof/Machine/BusOps.lean ====
section
/-! DEFINITION. What LIN channels, 10BASE-T1S ports and SENT inputs do (R368 to R374). -/

namespace Sys2Proof.Machine

/-- The frame of identifier `id` on LIN channel `ch`. -/
def State.linFrame (s : State) (ch id : Nat) : LinFrame := Tab.get s.bus.linFrames {} (64 * ch + id)

/-- The state with that frame changed. -/
def State.modLinFrame (ch id : Nat) (f : LinFrame → LinFrame) (s : State) : State :=
  { s with bus := { s.bus with linFrames := Tab.mod s.bus.linFrames {} (64 * ch + id) f } }

/-- LIN channel `ch` beside its registers. -/
def State.lin (s : State) (ch : Nat) : LinCtl := Tab.get s.bus.lin {} ch

/-- The state with LIN channel `ch` changed. -/
def State.modLin (ch : Nat) (f : LinCtl → LinCtl) (s : State) : State :=
  { s with bus := { s.bus with lin := Tab.mod s.bus.lin {} ch f } }

/-- LIN channel `ch` runs: LIN is enabled and ON is 1 (R326, R377). -/
def linRuns (s : State) (ch : Nat) : Bool := enabled s 13 && s.flag (LIN_CFG ch) LIN_CFG_ON && pinFirst s (177 + ch)

/-- Channel `ch` completes a frame that was in progress when LIN was disabled (R326). -/
def linEnds (s : State) (ch : Nat) : Bool :=
  s.flag (LIN_CFG ch) LIN_CFG_ON && pinFirst s (177 + ch) &&
  (match (s.lin ch).header with
    | some t0 => endsFrame s 13 (s.now - t0)
    | none => false)

/-- LIN channel `ch` is a commander (R368). -/
def linCommander (s : State) (ch : Nat) : Bool := !s.flag (LIN_CFG ch) LIN_CFG_ROLE

/-- Bit rate of channel `ch`, held between 1000 and 20 000 bit/s (R377). -/
def linRate (s : State) (ch : Nat) : Nat := clampN 1000 20000 (s.fld (LIN_CFG ch) LIN_CFG_RATE)

/-- Bytes of a LIN frame's data. -/
def linBytes (f : LinFrame) : List Nat := (List.range f.len).map (fun i => f.data / 256 ^ i % 256)

/-- The checksum of `id` is enhanced: never for 0x3C and 0x3D (R316, R368). -/
def linEnhanced (f : LinFrame) (id : Nat) : Bool := f.enhanced && id != 0x3C && id != 0x3D

/-- The slots of table `t` of channel `ch`. -/
def linTable (s : State) (ch t : Nat) : List LinSlot := Tab.get s.bus.linSched [] (4 * ch + t)

/-- The table that SCHED names takes over at the end of the slot: EV149 (R369). -/
def linSwitch (ch : Nat) (s : State) : State :=
  if (s.lin ch).switching then
    raiseEv 149 ch (State.modLin ch (fun x => { x with
      switching := false, table := s.fld (LIN_CFG ch) LIN_CFG_SCHED, next := 0 }) s)
  else s

/-- SCHED of LIN_CFG is written (R369). -/
def onLinSched (ch old new : Nat) (s : State) : State :=
  if old = new then s
  else State.modLin ch (fun x => { x with switching := true }) s

/-- A go-to-sleep command on channel `ch` (R369). -/
def linSleepCmd (ch : Nat) (s : State) : State :=
  raiseEv 148 ch (State.setFlag (LIN_STAT ch) LIN_STAT_SLEEPCMD true s)

/-- One schedule slot of a commander (R316, R369): a published frame goes out with the data last
applied, a subscribed one as a header, a go-to-sleep command as 0x3C with first byte 0 and the rest
0xFF; an empty slot sends nothing. -/
def linSlot (ch : Nat) (sl : LinSlot) (s : State) : State :=
  match sl.kind with
  | 0 =>
    let f := s.linFrame ch sl.id
    let t := State.send (.linHeader ch sl.id) s
    if f.dir = 1 then State.send (.linData ch sl.id (linEnhanced f sl.id) (linBytes f)) t else t
  | 1 => State.send (.linData ch 0x3C false (0 :: List.replicate 7 0xFF)) (State.send (.linHeader ch 0x3C) s)
  | _ => s

/-- A commander's next slot starts; with `live` its transceiver drives the bus (R369, R380). -/
def linNextSlot (ch : Nat) (live : Bool) (s : State) : State :=
  let x := s.lin ch
  let tab := linTable s ch x.table
  let i := if x.next < tab.length then x.next else 0
  match tab[i]? with
  | none => s
  | some sl =>
    let t := State.setFld (LIN_STAT ch) LIN_STAT_SLOT i s
    let t := State.modLin ch (fun y => { y with
      next := i + 1, slotEnd := s.now + sl.time * 100000, lastActive := s.now
      header := if live && decide (sl.kind < 2) then some s.now else none }) t
    if live then linSlot ch sl t else t

/-- A complete frame of identifier `id` with data `d`: a subscribed one is stored, and the last frame had no
error (R369, R370). -/
def linStore (ch id d : Nat) (s : State) : State :=
  let f := s.linFrame ch id
  if f.dir = 2 then
    State.modLinFrame ch id (fun y => { y with data := d % 256 ^ f.len, fresh := true, err := false }) s
  else if f.dir = 1 then State.modLinFrame ch id (fun y => { y with err := false }) s
  else s

/-- A LIN error: its bit, its event and ERRCNT; the stored data stay (R371). Kinds: 0 checksum, 1 no
response, 2 framing, break or sync, 3 bus short. -/
def linError (ch id kind : Nat) (s : State) : State :=
  let bit : Fld := match kind with
    | 0 => LIN_STAT_CKSUM
    | 1 => LIN_STAT_NORESP
    | 2 => LIN_STAT_FRAMING
    | _ => LIN_STAT_SHORT
  let t := State.incFld (LIN_STAT ch) LIN_STAT_ERRCNT (State.setFlag (LIN_STAT ch) bit true s)
  let t := if kind < 3 ∧ (s.linFrame ch id).dir ≠ 0 then
      State.modLinFrame ch id (fun y => { y with err := true }) t else t
  let t := raiseEv (144 + kind) ch t
  if 3 ≤ kind then raiseFault (68 + ch) t else t

/-- A frame of length `len` must end within 1.4 × (34 + 10 × (N + 1)) bit times, in ns (R368). -/
def linFrameTime (s : State) (ch len : Nat) : Nat :=
  14 * (34 + 10 * (len + 1)) * 100000000 / linRate s ch

/-! ### 10BASE-T1S -/

/-- Time of a frame of `n` bytes after its preamble of 8 at 10 Mbit/s, in ns (R372). -/
def t1sTime (n : Nat) : Nat := 800 * (n + 8)

/-- Port `p` runs, or completes the frame that was on its segment when MISC was disabled and began `ago` ns ago (R326,
R378). -/
def t1sRuns (s : State) (p ago : Nat) : Bool := (enabled s 16 || endsFrame s 16 ago) && s.flag (T1S_CFG p) T1S_CFG_ON && pinFirst s (197 + 2 * p) && pinFirst s (198 + 2 * p)

/-- Port `p` is the coordinator of its segment (R372). -/
def t1sCoordinator (s : State) (p : Nat) : Bool :=
  t1sRuns s p 0 && s.flag (T1S_CFG p) T1S_CFG_PLCA_EN && s.fld (T1S_CFG p) T1S_CFG_NODE_ID == 0

/-- A PLCA cycle in ns: the beacon of 20 bit times and one transmit opportunity of TO_TMR bit times for each node (R372,
R378). -/
def plcaCycle (s : State) (p : Nat) : Nat :=
  2000 + 100 * s.fld (T1S_CFG p) T1S_CFG_NODE_CNT * s.fld (T1S_CFG p) T1S_CFG_TO_TMR

/-- The coordinators send the beacons that are due (R372); a silent segment is taken (log entry 29). -/
def sendBeacons (s : State) : State :=
  [0, 1].foldl (fun t p =>
    if t1sCoordinator t p && decide (Tab.get t.bus.t1sBeacon 0 p ≤ t.now) then
      State.send (.t1sBeacon p)
        { t with bus := { t.bus with t1sBeacon := Tab.put t.bus.t1sBeacon 0 p (t.now + plcaCycle t p) } }
    else t) s

/-- The filter of port `p` passes destination `dest` (R320, R372): an all-zero multicast entry is
unused. -/
def t1sPasses (s : State) (p dest : Nat) : Bool :=
  dest == Tab.get s.bus.t1sUni 0 p ||
  (List.range 8).any (fun i =>
    let a := Tab.get s.bus.t1sMulti 0 (8 * p + i)
    a != 0 && a == dest)

/-! ### SENT -/

/-- SENT input `i` beside its registers. -/
def State.sent (s : State) (i : Nat) : SentIn := Tab.get s.bus.sent {} i

/-- The state with SENT input `i` changed. -/
def State.modSent (i : Nat) (f : SentIn → SentIn) (s : State) : State :=
  { s with bus := { s.bus with sent := Tab.mod s.bus.sent {} i f } }

/-- SENT input `i` runs (R326, R378). -/
def sentRuns (s : State) (i : Nat) : Bool := enabled s 16 && s.flag (SENT_CFG i) SENT_CFG_ON && pinFirst s (201 + i)

/-- A calibration pulse of `w` in 0.01 µs is good: within ±20 % of 56 nominal ticks and within 1/64 of
the pulse before it (R373). -/
def sentCalOk (s : State) (i w : Nat) : Bool :=
  let nom := 56 * s.fld (SENT_CFG i) SENT_CFG_TICK
  let last := (s.sent i).lastCal
  decide (4 * nom ≤ 5 * w ∧ 5 * w ≤ 6 * nom) &&
  (last == 0 || decide (64 * (if last < w then w - last else last - w) ≤ last))

/-- An erroneous SENT frame (R374). -/
def sentError (i : Nat) (bit : Fld) (ev : Nat) (s : State) : State :=
  raiseEv ev i (State.incFld (SENT_STAT i) SENT_STAT_ERRCNT (State.setFlag (SENT_STAT i) bit true s))

end Sys2Proof.Machine
end

