-- ==== Sys2Proof/Machine/CanOps.lean ====
section
/-! DEFINITION. What a CAN controller does with its message memory, its bus and its J1939 address
(R354 to R366). -/

namespace Sys2Proof.Machine

/-! ### Message memory (R356) -/

/-- Address of word `w` of object `n` of controller `c`. -/
abbrev canWord (c n w : Nat) : Nat := 0x50000000 + 0x10000 * c + 0x80 * n + 4 * w

/-- Address of byte word `k` of XL buffer `b` of controller `c`. -/
abbrev xlWord (c b k : Nat) : Nat := 0x50000000 + 0x10000 * c + 0x4000 + 0x800 * b + 4 * k

/-- EN of word 0 -/
abbrev OBJ_EN : Fld := ⟨31, 1⟩
/-- DIR -/
abbrev OBJ_DIR : Fld := ⟨30, 1⟩
/-- TXREQ -/
abbrev OBJ_TXREQ : Fld := ⟨29, 1⟩
/-- NEWDAT -/
abbrev OBJ_NEWDAT : Fld := ⟨28, 1⟩
/-- MSGLOST -/
abbrev OBJ_MSGLOST : Fld := ⟨27, 1⟩
/-- TXRES -/
abbrev OBJ_TXRES : Fld := ⟨25, 2⟩
/-- FMT -/
abbrev OBJ_FMT : Fld := ⟨23, 2⟩
/-- BRS -/
abbrev OBJ_BRS : Fld := ⟨22, 1⟩
/-- IDE -/
abbrev OBJ_IDE : Fld := ⟨21, 1⟩
/-- SA_SUB -/
abbrev OBJ_SA_SUB : Fld := ⟨20, 1⟩
/-- XLBUF -/
abbrev OBJ_XLBUF : Fld := ⟨15, 5⟩
/-- LEN -/
abbrev OBJ_LEN : Fld := ⟨0, 12⟩
/-- ID of word 1, MASK of word 2 -/
abbrev OBJ_ID : Fld := ⟨0, 29⟩

/-- The fields of message word `w` (R356), for the bus. -/
def canFields (w : Nat) : List FInfo :=
  match w with
  | 0 => [⟨OBJ_EN, .rw, false, 0⟩, ⟨OBJ_DIR, .rw, false, 0⟩, ⟨OBJ_TXREQ, .rw, false, 0⟩,
          ⟨OBJ_NEWDAT, .w1c, false, 0⟩, ⟨OBJ_MSGLOST, .w1c, false, 0⟩, ⟨OBJ_TXRES, .ro, false, 0⟩,
          ⟨OBJ_FMT, .rw, false, 0⟩, ⟨OBJ_BRS, .rw, false, 0⟩, ⟨OBJ_IDE, .rw, false, 0⟩,
          ⟨OBJ_SA_SUB, .rw, false, 0⟩, ⟨OBJ_XLBUF, .rw, false, 0⟩, ⟨OBJ_LEN, .rw, false, 0⟩]
  | 1 => [⟨OBJ_ID, .rw, false, 0⟩]
  | 2 => [⟨OBJ_ID, .rw, false, 0⟩]
  | 3 => [⟨⟨0, 32⟩, .ro, false, 0⟩]
  | 20 => [⟨⟨16, 16⟩, .rw, false, 0⟩]
  | _ => if w < 22 then [⟨⟨0, 32⟩, .rw, false, 0⟩] else []

/-- The word at offset `off` of the window of controller `c` is defined (R356). -/
def canDefined (c off : Nat) : Bool :=
  if off < 0x4000 then decide (off % 0x80 < 88)
  else decide (6 ≤ c ∧ off < 0x4000 + 24 * 0x800)

/-- The fields of a defined word at offset `off` of a window. -/
def canFieldsAt (off : Nat) : List FInfo :=
  if off < 0x4000 then canFields (off % 0x80 / 4) else [⟨⟨0, 32⟩, .rw, false, 0⟩]

/-- Controller `c` beside its registers. -/
def State.can (s : State) (c : Nat) : CanCtl := Tab.get s.bus.can {} c

/-- The state with controller `c` changed. -/
def State.modCan (c : Nat) (f : CanCtl → CanCtl) (s : State) : State :=
  { s with bus := { s.bus with can := Tab.mod s.bus.can {} c f } }

/-- Header word of object `n` of controller `c`. -/
def objWord (s : State) (c n : Nat) : Word := s.reg (canWord c n 0)

/-- Byte `i` of little-endian words that start at address `a`. -/
def byteAt (s : State) (a i : Nat) : Nat := (s.reg (a + 4 * (i / 4))).toNat / 256 ^ (i % 4) % 256

/-- `n` bytes from address `a`. -/
def bytesAt (s : State) (a n : Nat) : List Nat := (List.range n).map (fun i => byteAt s a i)

/-- The bytes `l` stored little-endian in the words from address `a`; the rest of the last word is kept. -/
def putBytes (a : Nat) (l : List Nat) (s : State) : State :=
  (List.range ((l.length + 3) / 4)).foldl (fun t k =>
    let old := bytesAt t (a + 4 * k) 4
    let new := (List.range 4).map (fun i => l.getD (4 * k + i) (old.getD i 0))
    State.setReg (a + 4 * k) (BitVec.ofNat 32 (leNat new)) t) s

/-- The XL buffer that header `h` names: 24 to 31 act as 23 (R356). -/
def xlBuf (h : Word) : Nat := clampN 0 23 (fget OBJ_XLBUF h)

/-- Address of data word `k` of object `n` with header `h`: in the object, and of an XL object in its XL buffer (R356). -/
def objData (c n : Nat) (h : Word) (k : Nat) : Nat :=
  if 6 ≤ c ∧ fget OBJ_FMT h = 2 then xlWord c (xlBuf h) k else canWord c n (k + 4)

/-- The next valid FD length at or above `n` (R357). -/
def fdLength (n : Nat) : Nat :=
  if n ≤ 8 then n else if n ≤ 12 then 12 else if n ≤ 16 then 16 else if n ≤ 20 then 20
  else if n ≤ 24 then 24 else if n ≤ 32 then 32 else if n ≤ 48 then 48 else 64

/-- The frame format that FMT names: 0b11 acts as classical (R356). -/
def fmtOf (h : Word) : Nat := if fget OBJ_FMT h = 3 then 0 else fget OBJ_FMT h

/-- The identifier sent for object `n`: with SA_SUB the low byte is the claimed address (R366). -/
def sentId (s : State) (c n : Nat) : Nat :=
  let id := fget OBJ_ID (s.reg (canWord c n 1))
  if fget OBJ_SA_SUB (objWord s c n) = 1 then
    id / 256 * 256 + s.fld (CAN_J1939 c) CAN_J1939_ADDR
  else id

/-- The frame that object `n` sends (R356, R357). -/
def frameOf (s : State) (c n : Nat) : CanFrame :=
  let h := objWord s c n
  let fmt := fmtOf h
  let len := fget OBJ_LEN h
  let data := match fmt with
    | 0 => bytesAt s (canWord c n 4) (clampN 0 8 len)
    | 1 =>
      let l := clampN 0 64 len
      bytesAt s (canWord c n 4) l ++ List.replicate (fdLength l - l) 0xCC
    | _ => bytesAt s (xlWord c (xlBuf h) 0) (clampN 1 2048 len)
  { ide := fget OBJ_IDE h == 1, id := sentId s c n, fmt := fmt, brs := fget OBJ_BRS h == 1, data := data,
    sdt := if fmt = 2 then (s.reg (canWord c n 20)).toNat / 2 ^ 24 else 0,
    vcid := if fmt = 2 then (s.reg (canWord c n 20)).toNat / 2 ^ 16 % 256 else 0,
    af := if fmt = 2 then (s.reg (canWord c n 21)).toNat else 0 }

/-! ### Running -/

/-- The pins of controller `c` are claimed (R313, R502). -/
def canPins (s : State) (c : Nat) : Bool :=
  if c < 6 then pinFirst s (159 + 2 * c) && pinFirst s (160 + 2 * c)
  else pinFirst s (153 + 3 * c) && pinFirst s (154 + 3 * c)

/-- Controller `c` is ON and its pins are claimed (R313, R376). -/
def canOn (s : State) (c : Nat) : Bool := s.flag (CAN_CTRL c) CAN_CTRL_ON && canPins s c

/-- Controller `c` runs: CAN is enabled, ON is 1 and its pins are claimed (R313, R326, R376). -/
def canRuns (s : State) (c : Nat) : Bool := enabled s 12 && canOn s c

/-- MODE of controller `c`: reserved codes act as listen-only (R355). -/
def canMode (s : State) (c : Nat) : Nat :=
  if 4 ≤ s.fld (CAN_CTRL c) CAN_CTRL_MODE then 1 else s.fld (CAN_CTRL c) CAN_CTRL_MODE

/-- Controller `c` is in bus-off (R363). -/
def canBusOff (s : State) (c : Nat) : Bool := s.fld (CAN_ERR c) CAN_ERR_STATE == 2

/-- Controller `c` may send: it runs in Normal or loopback and is not in bus-off (R355, R363). -/
def canSends (s : State) (c : Nat) : Bool :=
  canRuns s c && (canMode s c == 0 || canMode s c == 3) && !canBusOff s c

/-- The formats that FD_EN and XL_EN allow on controller `c` (R376). -/
def fmtAllowed (s : State) (c fmt : Nat) : Bool :=
  match fmt with
  | 0 => true
  | 1 => s.flag (CAN_CTRL c) CAN_CTRL_FD_EN
  | _ => decide (6 ≤ c) && s.flag (CAN_CTRL c) CAN_CTRL_XL_EN

/-- The stamp of a frame whose SOF bit was sampled at waterway time `ns`, in whole µs (R359). -/
def usStamp (ns : Nat) : Word := BitVec.ofNat 32 (ns / 1000)

/-! ### Receive (R357) -/

/-- Object `n` accepts frame `f`. -/
def objAccepts (s : State) (c : Nat) (f : CanFrame) (n : Nat) : Bool :=
  let h := objWord s c n
  fget OBJ_EN h == 1 && fget OBJ_DIR h == 0 && (fget OBJ_IDE h == 1) == f.ide &&
  ((s.reg (canWord c n 1) ^^^ BitVec.ofNat 32 f.id) &&& s.reg (canWord c n 2) &&& 0x1FFFFFFF#32) == 0#32 &&
  (f.fmt != 2 || fmtOf h == 2)

/-- The header and data of an accepted frame are written, NEWDAT last, TS stamped (R357, R359). -/
def storeFrame (c n : Nat) (f : CanFrame) (s : State) : State :=
  let h := objWord s c n
  let lost := fget OBJ_NEWDAT h == 1
  let h1 := fput OBJ_FMT f.fmt (fput OBJ_BRS (b2n f.brs) (fput OBJ_IDE (b2n f.ide) (fput OBJ_LEN f.data.length h)))
  let h2 := fput OBJ_NEWDAT 1 (if lost then fput OBJ_MSGLOST 1 h1 else h1)
  let t := State.setReg (canWord c n 1) (BitVec.ofNat 32 f.id) s
  let t := if f.fmt = 2 then
      putBytes (xlWord c (xlBuf h) 0) f.data
        (State.setReg (canWord c n 21) (BitVec.ofNat 32 f.af)
          (State.setReg (canWord c n 20) (BitVec.ofNat 32 (f.sdt * 2 ^ 24 + f.vcid * 2 ^ 16)) t))
    else putBytes (canWord c n 4) f.data t
  let t := State.setReg (canWord c n 0) h2 (State.setReg (canWord c n 3) (usStamp (s.wwt - f.sofAgo)) t)
  let t := State.modCan c (fun x => { x with fresh := if x.fresh.contains n then x.fresh else x.fresh ++ [n] }) t
  if lost then raiseEv 132 c t else t

/-- A frame on the bus is stored in the lowest accepting object, or dropped and counted (R357). -/
def canReceive (c : Nat) (f : CanFrame) (s : State) : State :=
  if !fmtAllowed s c f.fmt then
    raiseEv 133 c (State.setFlag (CAN_STAT c) CAN_STAT_PEXC true s)
  else
    match (List.range 128).find? (fun n => objAccepts s c f n) with
    | some n => storeFrame c n f s
    | none => State.incFld (CAN_STAT c) CAN_STAT_RXDROP s

/-! ### Transmit (R360, R361) -/

/-- Object `n` may be chosen for transmission (R360, R366). -/
def objReady (s : State) (c n : Nat) : Bool :=
  let h := objWord s c n
  fget OBJ_EN h == 1 && fget OBJ_DIR h == 1 && fget OBJ_TXREQ h == 1 && fmtAllowed s c (fmtOf h) &&
  (fget OBJ_SA_SUB h == 0 || s.fld (CAN_J1939 c) CAN_J1939_STATE == 2)

/-- Rank of a frame in arbitration, lower first (ISO 11898-1): the base identifier, then a standard
before an extended frame, then the identifier extension (PRESUMED; log entry 7). -/
def arbRank (ide : Bool) (id : Nat) : Nat :=
  id / 2 ^ 18 * 2 ^ 19 + (if ide then 2 ^ 18 + id % 2 ^ 18 else 0)

/-- The better of two objects: the lower rank, a tie to the lower number. -/
def betterObj (s : State) (c : Nat) (best : Option Nat) (n : Nat) : Option Nat :=
  match best with
  | none => some n
  | some b =>
    let r (k : Nat) : Nat := arbRank (fget OBJ_IDE (objWord s c k) == 1) (sentId s c k)
    if r n < r b then some n else best

/-- The object that controller `c` chooses (R360). -/
def chosenObj (s : State) (c : Nat) : Option Nat :=
  ((List.range 128).filter (fun n => objReady s c n)).foldl (fun b n => betterObj s c b n) none

/-- One lock-port word of object `n` is written into it (R361): word 0 requests transmission, word 1 is the
identifier, words 2 to 17 the data. -/
def putStaged (c n : Nat) (s : State) (e : Nat × Word) : State :=
  if e.1 = 0 then
    let a := canWord c n 0
    State.setReg a (fput OBJ_TXREQ (fget OBJ_TXREQ e.2 ||| fget OBJ_TXREQ (s.reg a)) (s.reg a)) s
  else if e.1 = 1 then State.setReg (canWord c n 1) (e.2 &&& 0x1FFFFFFF#32) s
  else State.setReg (objData c n (objWord s c n) (e.1 - 2)) e.2 s

/-- The staged words held for the frozen object `n` are written when its frame ends (R361). -/
def releaseHeld (c n : Nat) (s : State) : State :=
  (s.can c).held.foldl (putStaged c n) (State.modCan c (fun x => { x with held := [] }) s)

/-- The transmitter delay is measured in a frame with a bit-rate switch (R355, log entry 17): TDCV takes a value that no
rule gives. -/
def measureDelay (c : Nat) (f : CanFrame) (s : State) : State :=
  if s.flag (CAN_TDC c) CAN_TDC_TDC_EN && (f.brs || f.fmt == 2) then
    State.modCan c (fun x => { x with tdc := s.draws + 1 }) s.drawn
  else s

/-- The frozen frame of controller `c` ends: TXREQ clears where `ends`, TXRES takes `res` where given. -/
def endFrame (c n : Nat) (ends : Bool) (res : Option Nat) (s : State) : State :=
  let h := objWord s c n
  let h := if ends then fput OBJ_TXREQ 0 h else h
  let h := match res with
    | some r => fput OBJ_TXRES r h
    | none => h
  releaseHeld c n (State.modCan c (fun x => { x with frozen := none, cancel := false })
    (State.setReg (canWord c n 0) h s))

/-- A frame of controller `c` is given up or to be sent again: after a cancel TXRES is 0b10; with
ONESHOT the object is not sent again (R360, R362). -/
def frameFails (c : Nat) (s : State) : State :=
  match (s.can c).frozen with
  | none => s
  | some (n, _) =>
    if (s.can c).cancel then endFrame c n true (some 2) s
    else endFrame c n (s.flag (CAN_CTRL c) CAN_CTRL_ONESHOT) none s

/-- One staged lock-port word of an object is written into it at the strobe, or held while the object is
frozen (R361). -/
def canStaged (c n w : Nat) (v : Word) (s : State) : State :=
  if (s.can c).frozen.any (fun e => e.1 == n) then
    State.modCan c (fun y => { y with held := y.held ++ [(w, v)] }) s
  else putStaged c n s (w, v)

/-! ### Error confinement (R363, R364) -/

/-- TEC and REC take new values: warning at 96, error passive at 128, bus-off above 255. -/
def setErrCounts (c tec rec : Nat) (s : State) : State :=
  let oldT := s.fld (CAN_ERR c) CAN_ERR_TEC
  let oldR := s.fld (CAN_ERR c) CAN_ERR_REC
  let oldSt := s.fld (CAN_ERR c) CAN_ERR_STATE
  let t := State.setFld (CAN_ERR c) CAN_ERR_REC (clampN 0 255 rec)
    (State.setFld (CAN_ERR c) CAN_ERR_TEC (clampN 0 511 tec) s)
  let t := if (oldT < 96 ∧ 96 ≤ tec) ∨ (oldR < 96 ∧ 96 ≤ rec) then
      raiseEv 128 c (State.setFlag (CAN_STAT c) CAN_STAT_WARN true t)
    else t
  if 255 < tec then
    if oldSt = 2 then t
    else
      let t := State.setFlag (CAN_STAT c) CAN_STAT_BUSOFF true (State.setFld (CAN_ERR c) CAN_ERR_STATE 2 t)
      let t := State.modCan c (fun x => { x with recovering := !s.flag (CAN_CTRL c) CAN_CTRL_BO_MODE }) t
      raiseFault (54 + c) (raiseEv 130 c t)
  else if 128 ≤ tec ∨ 128 ≤ rec then
    if oldSt = 1 then t
    else raiseEv 129 c (State.setFlag (CAN_STAT c) CAN_STAT_PASSIVE true
      (State.setFld (CAN_ERR c) CAN_ERR_STATE 1 t))
  else State.setFld (CAN_ERR c) CAN_ERR_STATE 0 t

/-- Entries of the collision table whose window has ended are cleared (R364). -/
def dropOldColl (c : Nat) (s : State) : State :=
  State.modCan c (fun x => { x with coll := x.coll.filter (fun e => s.now < e.start + 1000000000) }) s

/-- The table without its entry of the oldest window start. -/
def dropOldest (l : List CollEntry) : List CollEntry :=
  match l with
  | [] => []
  | e :: rest =>
    let o := rest.foldl (fun b x => if x.start < b.start then x else b) e
    l.erase o

/-- A collision count of an identifier (R364). -/
def countColl (c : Nat) (ide : Bool) (id : Nat) (s : State) : State :=
  let t := dropOldColl c s
  let l := (t.can c).coll
  match l.find? (fun e => e.ide == ide && e.id == id) with
  | some e =>
    if 2 ≤ e.count then
      let t := State.modCan c (fun x => { x with coll := l.erase e }) t
      let t := State.setReg (CAN_COLL c) (fput CAN_COLL_IDE (b2n ide) (fput CAN_COLL_ID id 0#32)) t
      raiseEv 135 c (State.setFlag (CAN_STAT c) CAN_STAT_COLL true t)
    else State.modCan c (fun x => { x with
      coll := l.map (fun y => if y = e then { y with count := y.count + 1 } else y) }) t
  | none =>
    let l := if l.length < 4 then l else dropOldest l
    State.modCan c (fun x => { x with coll := l ++ [⟨ide, id, 1, s.now⟩] }) t

/-! ### Rate detection (R365) -/

/-- The nominal bit time of a candidate in CAN clock cycles (R355). -/
def candBit (w : Word) : Nat :=
  (fget CAN_RCAND_BRP w + 1) * (3 + fget CAN_RCAND_TSEG1 w + fget CAN_RCAND_TSEG2 w)

/-- Candidate `i` of controller `c` matches MINBIT within ±3 % and has not been rejected. -/
def candMatches (s : State) (c i : Nat) : Bool :=
  let w := s.reg (CAN_RCAND c i)
  let m := s.fld (CAN_RDET c) CAN_RDET_MINBIT
  w != 0#32 && !(s.can c).rdTried.contains i &&
  decide (97 * m ≤ 100 * candBit w ∧ 100 * candBit w ≤ 103 * m)

/-- The controller listens at the lowest candidate that matches; with none, measurement starts again. -/
def rdNext (c : Nat) (s : State) : State :=
  match (List.range 8).find? (fun i => candMatches s c i) with
  | some i => State.modCan c (fun x => { x with rdCand := some i, rdGood := 0 }) s
  | none => State.modCan c (fun x => { x with rdCand := none, rdGood := 0, rdTried := [] }) s

/-- Controller `c` enters rate detection (R365). -/
def rdEnter (c : Nat) (s : State) : State :=
  State.modCan c (fun x => { x with rdStart := s.now, rdCand := none, rdGood := 0, rdTried := [] })
    (State.setReg (CAN_RDET c) 0#32 s)

/-- Two error-free frames confirm candidate `i` (R365). -/
def rdFound (c i : Nat) (s : State) : State :=
  let d := fput CAN_RDET_DONE 1 (fput CAN_RDET_FOUND 1 (fput CAN_RDET_CAND i (s.reg (CAN_RDET c))))
  let t := State.setFlag (CAN_STAT c) CAN_STAT_RDOK true (State.setReg (CAN_RDET c) d s)
  let t := if s.flag (CAN_CTRL c) CAN_CTRL_RD_AUTO then
      State.setFld (CAN_CTRL c) CAN_CTRL_MODE 0 (State.setReg (CAN_NBT c) (s.reg (CAN_RCAND c i)) t)
    else t
  raiseEv 136 c (State.modCan c (fun x => { x with rdCand := none }) t)

/-! ### J1939 address claim (R366) -/

/-- NAME of controller `c`. -/
def jName (s : State) (c : Nat) : Nat :=
  (s.reg (CAN_J1939_NAME_LO c)).toNat + 2 ^ 32 * (s.reg (CAN_J1939_NAME_HI c)).toNat

/-- The address-claim frame (PGN 60928, priority 6, to all) from source address `sa`; its layout is SAE
J1939's (PRESUMED; log entry 8). -/
def claimFrame (name sa : Nat) : CanFrame :=
  { ide := true, id := 0x18EEFF00 + sa % 256,
    data := (List.range 8).map (fun i => name / 256 ^ i % 256) }

/-- STATE of the address claim of controller `c`. -/
def jState (s : State) (c : Nat) : Nat := s.fld (CAN_J1939 c) CAN_J1939_STATE

/-- The Warden sends a claim of `a` and enters claiming (R366). -/
def jClaim (c a : Nat) (s : State) : State :=
  let t := State.setFld (CAN_J1939 c) CAN_J1939_STATE 1 s
  let t := State.modCan c (fun x => { x with jAddr := a, jEnd := s.now + 250000000 }) t
  State.send (.can c (claimFrame (jName s c) a)) t

/-- The Warden cannot claim: it says so from address 254 (R366). -/
def jCannot (c : Nat) (s : State) : State :=
  let t := State.setFld (CAN_J1939 c) CAN_J1939_STATE 3 s
  raiseEv 139 c (State.send (.can c (claimFrame (jName s c) 254)) t)

/-- The module loses address contention and chooses again (R366). -/
def jChoose (c : Nat) (s : State) : State :=
  let x := s.can c
  if s.flag (CAN_J1939 c) CAN_J1939_AAC then
    match ((List.range 120).map (fun i => 128 + i)).find? (fun a => !x.jTaken.contains a) with
    | some a => jClaim c a s
    | none => jCannot c s
  else jCannot c s

end Sys2Proof.Machine
end

