-- ==== Sys2Proof/Machine/LockOps.lean ====
section
/-! DEFINITION. The lock port and the die side of a lock set: targets, streaming over the Culverts,
close, acknowledge, arm, strobe and slip (R22 to R28, R97, R267). -/

namespace Sys2Proof.Machine

/-! ### COMMAND targets (R263) -/

/-- The register address that COMMAND index `i` names. -/
def commandAddr (i : Nat) : Option Nat :=
  if i < 0x60 then some (PAV_CMD i)
  else if 0x100 ≤ i ∧ i < 0x118 then some (SLU_CMD (i - 0x100))
  else if 0x200 ≤ i ∧ i < 0x210 then some (BR_CMD (i - 0x200))
  else if 0x300 ≤ i ∧ i < 0x330 then some (LC_CMD (i - 0x300))
  else if 0x340 ≤ i ∧ i < 0x344 then some (BL_CMD (i - 0x340))
  else if i = 0x380 then some TR_CMD
  else if 0x400 ≤ i ∧ i < 0x410 then some (FO_CMD (i - 0x400))
  else none

/-- The register address of the status word that STATUS index `i` names. -/
def statusAddr (i : Nat) : Option Nat :=
  if i < 0x60 then some (PAV_STAT i)
  else if 0x100 ≤ i ∧ i < 0x118 then some (SLU_STAT (i - 0x100))
  else if 0x200 ≤ i ∧ i < 0x210 then some (BR_STAT (i - 0x200))
  else if 0x300 ≤ i ∧ i < 0x330 then some (LC_STAT (i - 0x300))
  else if 0x340 ≤ i ∧ i < 0x344 then some (BL_STAT (i - 0x340))
  else if i = 0x380 then some TR_STAT
  else if 0x400 ≤ i ∧ i < 0x410 then some (FO_STAT (i - 0x400))
  else none

/-- The die that COMMAND index `i` belongs to (R13). -/
def commandDie (i : Nat) : Nat :=
  if i < 0x60 then dieOfPav (i / 16) else if i < 0x300 then 3 else if i < 0x400 then 4 else 3

/-- A lock-port target: the space in bits 19:16 and the index in bits 15:0 (R263). -/
def lockTarget (space index : Nat) : Nat := space * 0x10000 + index

/-- The bit that a COMMAND word carries as CLR (R97, R154, R182, R206, R245); LCLR for TR_CMD. -/
def clrBit (i : Nat) : Word :=
  if (0x200 ≤ i ∧ i < 0x210) ∨ i = 0x380 then 0x20000000#32 else 0x40000000#32

/-- A later write to a target of one set replaces the word; CLR stays 1 if any write of the set carried
it (R97). -/
def mergeWord (target : Nat) (old new : Word) : Word :=
  if target / 0x10000 = 1 then new ||| (old &&& clrBit (target % 0x10000)) else new

/-- The set with one write more: a second write to one target replaces the first (R23). -/
def addWrite (w : LockWrite) (l : List LockWrite) : List LockWrite :=
  match l with
  | [] => [w]
  | x :: rest =>
    if x.target = w.target then
      { w with word := (mergeWord w.target (BitVec.ofNat 32 x.word) (BitVec.ofNat 32 w.word)).toNat } :: rest
    else x :: addWrite w rest

/-- What counts as one target of the 512 (R267, R361): a COMMAND register, a CAN object, a LIN frame. -/
def setKey (target : Nat) : Nat :=
  if target / 0x10000 = 3 ∨ target / 0x10000 = 4 then target / 64 * 64 else target

/-- Distinct targets of a set. -/
def setSize (l : List LockWrite) : Nat :=
  (l.foldl (fun (ks : List Nat) w =>
    if ks.contains (setKey w.target) then ks else setKey w.target :: ks) []).length

/-- The set already names the target of `target` (R267). -/
def setHas (l : List LockWrite) (target : Nat) : Bool := l.any (fun w => setKey w.target == setKey target)

/-! ### Applying a command word -/

/-- Writes of master `m` to output command registers are ignored in module limp, but for a host in a
service session (R442). -/
def limpBars (s : State) (m : Nat) : Bool :=
  moduleLimp s && !inService s m

/-- The time at which a protection layer or the supply last took the unit of COMMAND index `i` off. -/
def hitTime (s : State) (i : Nat) : Option Nat :=
  if i < 0x60 then (s.chan (govern s i)).hitAt
  else if i < 0x200 then (s.valve (i - 0x100)).hitAt
  else if i < 0x300 then (s.motor (brGovern s (i - 0x200))).hitAt
  else if i < 0x340 then (s.elem (i - 0x300)).hitAt
  else if i < 0x380 then (s.elem (48 + (i - 0x340))).hitAt
  else if i < 0x400 then s.trellis.hitAt
  else (s.fo (i - 0x400)).hitAt

/-- The unit of COMMAND index `i` stands latched by a protection layer of its die, or decays towards that (R27). -/
def latchedUnit (s : State) (i : Nat) : Bool :=
  if i < 0x60 then pavState s (govern s i) == pavLatched
  else if i < 0x200 then
    sluState s (i - 0x100) == sluLatched || (sluState s (i - 0x100) == sluDecay && (s.valve (i - 0x100)).cause == .latched)
  else if i < 0x300 then brState s (brGovern s (i - 0x200)) == brLatched
  else if i < 0x380 then ltState s (if i < 0x340 then i - 0x300 else 48 + (i - 0x340)) == ltLatched
  else s.fld TR_STAT TR_STAT_STATE == 2

/-- The register that holds the command of COMMAND index `i`, a pair's being that of its even half (R95, R180). -/
def commandReg (s : State) (i : Nat) : Nat :=
  if i < 0x60 then PAV_CMD (govern s i)
  else if 0x200 ≤ i ∧ i < 0x210 then BR_CMD (brGovern s (i - 0x200))
  else (commandAddr i).getD 0

/-- The bits of the RW fields of the register at `a`: what a write of it can leave stored (R10). -/
def storedBits (a : Nat) : Word :=
  match regAt a with
  | none => 0#32
  | some (r, _) => r.fields.foldl (fun w f => if f.acc == .rw then w ||| fmask f.fld else w) 0#32

/-- COMMAND index `i` is the odd half of a pair, whose commands are ignored (R95, R180). -/
def oddHalf (s : State) (i : Nat) : Bool := commandReg s i != (commandAddr i).getD 0

/-- A command that its unit consumes: the register takes the word, and nothing else follows (R27); one for the odd half
of a pair is ignored (R95, R180). -/
def consumeCommand (i : Nat) (w : Word) (s : State) : State :=
  if oddHalf s i then s else State.setReg (commandReg s i) (w &&& storedBits (commandReg s i)) s

/-- The die applies word `w` to the command register that COMMAND index `i` names, from master `m`; with `same` in the
cycle of the row before, where a protection layer that took the unit off in that cycle wins (R27). -/
def applyCommand (same : Bool) (m i : Nat) (w : Word) (s : State) : State :=
  if limpBars s m then s
  else if same && decide (i < 0x400) && hitTime s i == some s.now && latchedUnit s i then consumeCommand i w s
  else if i < 0x60 then
    applyPavCmd i (fget PAV_CMD_ON w == 1) (fget PAV_CMD_DUTY w) (fget PAV_CMD_CLR w == 1)
      (if same then undoTurnOn i w s else s)
  else if i < 0x200 then
    applySluCmd (i - 0x100) (fget SLU_CMD_ON w == 1) (fget SLU_CMD_SETPT w) (fget SLU_CMD_CLR w == 1) s
  else if i < 0x300 then applyBrCmd same (i - 0x200) w (fget BR_CMD_CLR w == 1) s
  else if i < 0x340 then
    applyLtCmd (i - 0x300) (fget LC_CMD_ON w == 1) (fget LC_CMD_LVL w) (fget LC_CMD_CLR w == 1) s
  else if i < 0x380 then
    applyLtCmd (48 + (i - 0x340)) (fget LC_CMD_ON w == 1) (fget LC_CMD_LVL w) (fget LC_CMD_CLR w == 1) s
  else if i < 0x400 then
    applyTrCmd (fget TR_CMD_RUN w == 1) (fget TR_CMD_SHOW w == 1) (fget TR_CMD_LCLR w == 1) s
  else applyFoCmd (same && hitTime s i == some s.now) (masterClass m) (i - 0x400) (fget FO_CMD_ON w == 1) (fget FO_CMD_CLR w == 1) s

/-- A CAN or LIN word of the lock set is written at the strobe (R361, R370). -/
def applyLodgeWord (w : LockWrite) (s : State) : State :=
  let i := w.target % 0x10000
  if w.target / 0x10000 = 3 then
    canStaged (i / 0x2000) (i / 64 % 128) (i % 64) (BitVec.ofNat 32 w.word) s
  else if w.target / 0x10000 = 4 then
    let ch := i / 0x1000
    let id := i / 64 % 64
    State.modLinFrame ch id (fun f =>
      if i % 64 = 1 then { f with data := f.data / 2 ^ 32 * 2 ^ 32 + w.word % 2 ^ 32 }
      else { f with data := f.data % 2 ^ 32 + w.word % 2 ^ 32 * 2 ^ 32 }) s
  else s

/-! ### Culvert lanes (R15 to R17) -/

/-- Culvert `cv`. -/
def State.cv (s : State) (cv : Nat) : Culvert := Tab.get s.cvs {} cv

/-- The state with Culvert `cv` changed. -/
def State.modCv (cv : Nat) (f : Culvert → Culvert) (s : State) : State :=
  { s with cvs := Tab.mod s.cvs {} cv f }

/-- Class of a frame (R16). -/
def Payload.cls (p : Payload) : Nat :=
  match p with
  | .heartbeat => 0
  | .immediate _ | .claim _ | .moor => 1
  | .lockWrite _ | .setComplete _ => 2

/-- The frame is a lock-set write. -/
def Payload.isWrite (p : Payload) : Bool :=
  match p with
  | .lockWrite _ => true
  | _ => false

/-- A frame joins a queue behind the frames of its class and lower class numbers (R16); the frame at the
front, already on the lane, stays. -/
def laneInsert (p : Payload) (l : List Payload) : List Payload :=
  match l with
  | [] => [p]
  | x :: rest => if p.cls < x.cls then p :: x :: rest else x :: laneInsert p rest

/-- A frame for a Culvert endpoint that goes down is not sent: a bus error of kind DOMAIN_OFF (R349). Which master and
address the capture shows for a frame that no master's access makes is left open: free values (log entry 54). -/
def frameBarred (s : State) : State :=
  busError ((s.free 4).toNat % 12) (s.drawn.free 32).toNat true 3 s.drawn.drawn

/-- A frame is queued from the Lodge to the die of Culvert `cv`. -/
def sendDown (cv : Nat) (p : Payload) (s : State) : State :=
  if domOff s (0x18 + cv) then frameBarred s
  else State.modCv cv (fun c => { c with down := { c.down with queue :=
    match c.down.queue with
    | [] => [p]
    | x :: rest => x :: laneInsert p rest } }) s

/-- The lane of Culvert `cv` in one direction: true from the Lodge to the die. -/
def laneOf (s : State) (cv : Nat) (toDie : Bool) : Lane := if toDie then (s.cv cv).down else (s.cv cv).up

/-- The state with that lane changed. -/
def modLane (cv : Nat) (toDie : Bool) (f : Lane → Lane) (s : State) : State :=
  State.modCv cv (fun c => if toDie then { c with down := f c.down } else { c with up := f c.up }) s

/-- The lane takes in a valid frame: its sequence moves on and the silence window opens again (R17, R18). -/
def laneTakes (l : Lane) (now : Nat) : Lane :=
  { l with rxSeq := (l.rxSeq + 1) % 256, txSeq := (l.rxSeq + 1) % 256, attempts := 0, lastFrame := now,
           queue := l.queue.drop 1 }

/-- The lane takes in a valid frame that nothing in its queue waited for (R17, R18). -/
def laneHears (l : Lane) (now : Nat) : Lane :=
  { l with rxSeq := (l.rxSeq + 1) % 256, txSeq := (l.rxSeq + 1) % 256, attempts := 0, lastFrame := now }

/-- A frame from the Lodge that a row of its own stands for comes to Culvert `cv`, and `act` is what the die does
with it (R16 to R18): on a free lane it is sent and received at once, at the front of the queue it arrives, and
behind other frames it takes its place in the order of classes and waits. -/
def downFrame (cv : Nat) (p : Payload) (act : State → State) (s : State) : State :=
  if domOff s (0x18 + cv) then frameBarred s
  else match (s.cv cv).down.queue with
  | [] => act (modLane cv true (fun l => laneHears l s.now) s)
  | x :: rest =>
    if x = p then act (modLane cv true (fun l => laneTakes l s.now) s)
    else if rest.contains p then s
    else sendDown cv p s

/-- The link of Culvert `cv` takes writes for the open set: it is up and was not down since the set
opened (R24). -/
def cvTakesSet (s : State) (cv : Nat) : Bool := cvUp s cv && !(s.cv cv).downSinceOpen

/-- The frames behind the one on the lane with word `w` in the place of an older one for its target (R21, R23). -/
def replaceQueued (w : LockWrite) (l : List Payload) : List Payload :=
  l.map (fun p => match p with
    | .lockWrite x => if x.target = w.target then .lockWrite w else p
    | _ => p)

/-- A frame is a lock-set write to target `g`. -/
def isWriteTo (g : Nat) (p : Payload) : Bool :=
  match p with
  | .lockWrite w => w.target == g
  | _ => false

/-- A lock-set write is streamed to its die: one that still waits for the lane is replaced (R23); one on the lane
arrives, and the later one after it (R21). -/
def streamWrite (w : LockWrite) (s : State) : State :=
  if w.target / 0x10000 != 1 then s
  else
    let cv := commandDie (w.target % 0x10000)
    if !cvTakesSet s cv then s
    else
      if ((s.cv cv).down.queue.drop 1).any (fun p => isWriteTo w.target p) then
        modLane cv true (fun l => { l with queue := l.queue.take 1 ++ replaceQueued w (l.queue.drop 1) }) s
      else sendDown cv (.lockWrite w) (State.modCv cv (fun c => { c with count := c.count + 1 }) s)

/-- The write of the open set to target `t`, after the merge of R97. -/
def openWrite (s : State) (t : Nat) : Option LockWrite := s.lock.openSet.find? (fun w => w.target == t)

/-- HIGH and FULL_CNT follow the open set, which had `old` targets before (R275). -/
def noteSetSize (old : Nat) (s : State) : State :=
  let n := setSize s.lock.openSet
  let t := if s.fld KEEPER_LSET KEEPER_LSET_HIGH < n then State.setFld KEEPER_LSET KEEPER_LSET_HIGH n s else s
  if 512 ≤ n ∧ old < 512 then State.incFld KEEPER_LSET KEEPER_LSET_FULL_CNT t else t

/-- A word is queued in the open lock set and streamed while the set of the coming strobe is not yet
closed (R23, R267). -/
def queueWrite (w : LockWrite) (s : State) : State :=
  let t := { s with lock := { s.lock with openSet := addWrite w s.lock.openSet } }
  let t := noteSetSize (setSize s.lock.openSet) t
  if t.lock.closed then t
  else match openWrite t w.target with
    | some x => streamWrite x t
    | none => t

/-- The frames behind the one on the lane without the writes to target `g`, of which `n` have been left out so
far; the count that a set-complete frame behind them announces falls with them (R24, R26). -/
def cancelQueued (g n : Nat) (l : List Payload) : List Payload :=
  match l with
  | [] => []
  | .lockWrite w :: rest =>
    if w.target = g then cancelQueued g (n + 1) rest else .lockWrite w :: cancelQueued g n rest
  | .setComplete k :: rest => .setComplete (k - n) :: cancelQueued g n rest
  | p :: rest => p :: cancelQueued g n rest

/-- Writes to target `g` among the frames of a queue. -/
def queuedWrites (g : Nat) (l : List Payload) : Nat :=
  l.countP (isWriteTo g)

/-- A Culvert from whose queue the writes to target `g` are withdrawn; the frame on the lane completes (R16, R26). -/
def Culvert.cancel (g : Nat) (c : Culvert) : Culvert :=
  match c.down.queue with
  | [] => c
  | x :: rest => { c with
      count := c.count - queuedWrites g rest, down := { c.down with queue := x :: cancelQueued g 0 rest } }

/-- An immediate command of master `m` (R26): any write to the field queued for the next strobe is cancelled, and a
class 1 frame goes to the die. -/
def sendImmediate (m i : Nat) (w : Word) (s : State) : State :=
  let tg := lockTarget 1 i
  let cv := commandDie i
  let t := { s with lock := { s.lock with
    openSet := s.lock.openSet.filter (fun x => x.target != tg),
    closedSet := s.lock.closedSet.filter (fun x => x.target != tg) } }
  if cvUp t cv then sendDown cv (.immediate { target := tg, word := w.toNat, master := m }) (State.modCv cv (Culvert.cancel tg) t) else t

/-- The die of Culvert `cv` applies an immediate command on receipt and drops the field's shadow (R26); a protection layer
that acted in this very instant wins (R27). -/
def applyImmediate (cv : Nat) (w : LockWrite) (s : State) : State :=
  let t := State.modDie cv (fun d => { d with shadow := d.shadow.filter (fun x => x.target != w.target) }) s
  applyCommand true w.master (w.target % 0x10000) (BitVec.ofNat 32 w.word) t

/-- Bank `b` reads the claim frame that its Culvert brings (R30, R333). -/
def claimTaken (b : Nat) (s : State) : State :=
  let t := claimBank b s
  { t with start := { t.start with
    claims := if bitOf t.start.claims b then t.start.claims else t.start.claims + 2 ^ b } }

/-- The receiving side takes in the frame that the lane delivers (R17). -/
def takeDown (cv : Nat) (p : Payload) (s : State) : State :=
  match p with
  | .heartbeat => s
  | .claim b => claimTaken b s
  | .moor => dieMoor cv s
  | .immediate w => applyImmediate cv w s
  | .lockWrite w =>
    State.modDie cv (fun d => { d with shadow := addWrite w d.shadow, received := d.received + 1 }) s
  | .setComplete n =>
    if 0 < (s.cv cv).stale then State.modCv cv (fun c => { c with stale := c.stale - 1 }) s
    else State.modDie cv (fun d => { d with announced := some n }) s

/-- Every frame that waits for the die of Culvert `cv` arrives in its turn: the frames of an access come after those of
lower classes and after the one on the lane (R16, R21). -/
def drainLane (cv : Nat) (s : State) : State :=
  (s.cv cv).down.queue.foldl (fun t p => takeDown cv p (modLane cv true (fun l => laneTakes l t.now) t)) s

/-- The set-complete frames still on their way to the die of Culvert `cv` were for a strobe that is past (R24). -/
def staleFrames (cv : Nat) (s : State) : State :=
  State.modCv cv (fun c => { c with stale := c.down.queue.countP (fun p => p.cls == 2 && !p.isWrite) }) s

/-! ### The strobe sequence (R22 to R25) -/

/-- The Culverts of the dies that take commands. -/
def commandCvs : List Nat := [0, 1, 2, 3, 4]

/-- Waterway time reaches the next strobe's multiple of T within `lead` ns (R429). -/
def strobeTime (s : State) (lead : Nat) : Bool :=
  let n := (s.wwt + lead) / (10000 * s.kp.lockT) % 2 ^ 32
  let ahead := (n + 2 ^ 32 - (s.reg KEEPER_LCC).toNat) % 2 ^ 32
  decide (1 ≤ ahead ∧ ahead < 2 ^ 31)

/-- The strobe that ends the present cycle is at most `lead` ns away: T after the last one (R22, R255); in a waterway when
its time reaches the strobe's multiple of T, by a phase correction of 1 % of T at most (R255, R429). -/
def cycleAt (s : State) (lead : Nat) : Bool :=
  match s.lock.strobeAt with
  | none => s.fld AQ_STAT AQ_STAT_STATE < 2 || strobeTime s lead
  | some t =>
    if 2 ≤ s.fld AQ_STAT AQ_STAT_STATE then
      decide (t + 9900 * s.kp.lockT ≤ s.now + lead) &&
      (strobeTime s lead || decide (t + 10100 * s.kp.lockT ≤ s.now + lead))
    else decide (t + 10000 * s.kp.lockT ≤ s.now + lead)

/-- The close point, 4 µs before the strobe: the set closes, and each die gets a set-complete frame with the count of
its writes (R23, R24); LARM, which falls 0.2 µs after a strobe, is low by now (R22). -/
def closeSet (s : State) : State :=
  if s.lock.closed || !cycleAt s 4000 then s
  else
    let t := { s with lock := { s.lock with
      openSet := [], closedSet := s.lock.openSet, closed := true, larm := false } }
    commandCvs.foldl (fun t cv =>
      if cvTakesSet t cv then sendDown cv (.setComplete (t.cv cv).count) t else t) t

/-- The die of Culvert `cv` acknowledges when its shadow holds the announced count (R24). -/
def ackSet (cv : Nat) (s : State) : State :=
  match (s.die cv).announced with
  | some n => if n ≤ (s.die cv).received then State.modCv cv (fun c => { c with acked := true, up := laneHears c.up s.now }) s else s
  | none => s

/-- Culvert `cv` still owes its acknowledgement (R24). -/
def owesAck (s : State) (cv : Nat) : Bool :=
  let c := s.cv cv
  c.count != 0 && !c.acked && !c.downSinceOpen && cvUp s cv

/-- LARM rises 1 µs before the strobe if every required acknowledgement is in (R24). -/
def raiseArm (s : State) : State :=
  if s.lock.closed && cycleAt s 1000 && commandCvs.all (fun cv => !owesAck s cv) then
    { s with lock := { s.lock with larm := true } }
  else s

/-- Every shadow register of die `d` is copied into its active register (R25); a protection layer that acted in this very
instant wins (R27). A die that finds the Lodge silent applies nothing: writes that reach it then stay in the shadow and
apply at the first strobe after its claim (log entry 66). -/
def applyShadow (d : Nat) (s : State) : State :=
  if (s.die d).silent || (s.cv d).downSinceOpen then s
  else
    let l := (s.die d).shadow
    let t := State.modDie d (fun x => { x with shadow := [], received := 0, announced := none }) s
    l.foldl (fun t w => applyCommand true w.master (w.target % 0x10000) (BitVec.ofNat 32 w.word) t) t

/-- The writes of the next set that came after the close point go to the dies (R23). -/
def openNext (s : State) : State :=
  let t := commandCvs.foldl (fun t cv => State.modCv cv (fun c => { c with
    downSinceOpen := !cvUp t cv, acked := false }) (staleFrames cv t)) s
  t.lock.openSet.foldl (fun t w => streamWrite w t) t

/-- The strobe with LARM high: every die and the Lodge units apply their set (R25, R361, R370). -/
def strobeApplies (s : State) : State :=
  let l := s.lock.closedSet
  let t := { s with lock := { s.lock with closedSet := [], closed := false } }
  let t := commandCvs.foldl (fun t d => applyShadow d t) t
  let t := commandCvs.foldl (fun t cv => State.modCv cv (fun c => { c with count := 0 }) t) t
  openNext (l.foldl (fun t w => applyLodgeWord w t) t)

/-- A lock slip: nothing applies, every set merges into the next one but for the writes to a die whose link went
down, SLIP_CNT counts, MISSING names the Culverts, and EV241 is raised (R24, R25, R33). -/
def strobeSlips (s : State) : State :=
  let missing := commandCvs.foldl (fun m cv => if owesAck s cv then setBitN m cv else m) 0
  let kept := s.lock.closedSet.filter (fun w =>
    w.target / 0x10000 != 1 || !(s.cv (commandDie (w.target % 0x10000))).downSinceOpen)
  let merged := s.lock.openSet.foldl (fun l w => addWrite w l) kept
  let late := s.lock.openSet
  let t := State.setFld SYS_LOCK_STAT SYS_LOCK_STAT_MISSING missing
    (State.incFld SYS_LOCK_STAT SYS_LOCK_STAT_SLIP_CNT s)
  let t := noteSetSize (setSize s.lock.openSet)
    { t with lock := { t.lock with openSet := merged, closedSet := [], closed := false } }
  let t := commandCvs.foldl (fun t cv => State.modCv cv (fun c => { c with
    downSinceOpen := !cvUp t cv, acked := false })
      (staleFrames cv (State.modDie cv (fun d => { d with announced := none }) t))) t
  raiseEv 241 0xFFFF (late.foldl (fun t w => match openWrite t w.target with
    | some x => streamWrite x t
    | none => t) t)

/-- The batches on their way from die `d` are lost with its link (R17, R138). -/
def dropBatches (d : Nat) (s : State) : State :=
  { s with meas := { s.meas with chans := s.meas.chans.filterMap (fun e =>
      let x := if dieOfPav (e.1 / 16) = d then { e.2 with sent := [] } else e.2
      if x = {} then none else some (e.1, x)) } }

/-- The link of Culvert `cv` is declared down: frames queued at both ends and batches on their way are discarded, LOST is
set and the link's fault source is raised (R17, R24, R436). -/
def linkDown (cv : Nat) (s : State) : State :=
  let t := State.modCv cv (fun c => { c with
    down := { c.down with queue := [], attempts := 0 },
    up := { c.up with queue := [], attempts := 0 },
    downSinceOpen := true, trainFails := 0, stale := 0 }) (dropBatches cv s)
  let t := State.setFlag (SYS_CV_STAT cv) SYS_CV_STAT_UP false
    (State.setFlag (SYS_CV_STAT cv) SYS_CV_STAT_LOST true t)
  raiseFault cv t

end Sys2Proof.Machine
end

