-- ==== Sys2Proof/Machine/TillerOps.lean ====
section
/-! DEFINITION. The Tiller engines: registers, the exposed pipeline, traps, stalls, the lists of a
lock cycle, the snapshot and the lock-port reads and writes (R255 to R301). -/

namespace Sys2Proof.Machine

/-- Engine `e`: Keepers K0 to K7 are 0 to 7, the Warden is 8. -/
def State.eng (s : State) (e : Nat) : Engine := Tab.get s.kp.engines {} e

/-- The state with engine `e` changed. -/
def State.modEng (e : Nat) (f : Engine → Engine) (s : State) : State :=
  { s with kp := { s.kp with engines := Tab.mod s.kp.engines {} e f } }

/-- The vector or entry value that marks it absent (R315). -/
abbrev absentEntry : Word := 0xFFFFFFFF#32

/-- The bank of the class that runs. -/
def Engine.ctx (g : Engine) : Ctx := if g.inF then g.f else g.l

/-- The engine with the bank of the running class changed. -/
def Engine.mapCtx (f : Ctx → Ctx) (g : Engine) : Engine :=
  if g.inF then { g with f := f g.f } else { g with l := f g.l }

/-- Key in memory of byte address `a` of engine `e`: the Warden's memories keep their addresses, and
CODE_BANK exchanges the halves of its code SRAM (R486); Keeper `k` has its own SRAMs (R281). -/
def engKey (s : State) (e a : Nat) : Nat :=
  if e < 8 then (e + 1) * 0x100000000 + a
  else if a < 0x80000 ∧ s.fld UPD_CODE UPD_CODE_CODE_BANK = 1 then (a + 0x40000) % 0x80000
  else a

/-- Bytes of code an engine can fetch (R281). -/
def codeTop (e : Nat) : Nat := if e < 8 then 0x10000 else 0x80000

/-- Top of the data SRAM (R281). -/
def dataTop (e : Nat) : Nat := if e < 8 then 0x10008000 else 0x10040000

/-! ### Registers and results in flight (R276, R285 to R288) -/

/-- Register `r` as an instruction that issues now reads it: x0 is 0. -/
def Engine.x (g : Engine) (r : Fin 32) : Word := if r.val = 0 then 0#32 else Tab.get g.ctx.regs 0#32 r.val

/-- The register takes the value. -/
def Engine.land (r : Nat) (v : Word) (g : Engine) : Engine :=
  g.mapCtx (fun c => { c with regs := Tab.put c.regs 0#32 r v })

/-- Every result in flight lands (R288). -/
def Engine.landAll (g : Engine) : Engine :=
  { (g.flight.foldl (fun h w => h.land w.1 w.2.1) g) with flight := [] }

/-- One instruction issues: every distance falls by one, and what reaches it lands (R285, R286). -/
def Engine.issue (g : Engine) : Engine :=
  let aged := g.flight.map (fun w => (w.1, w.2.1, w.2.2 - 1))
  let h := (aged.filter (fun w => w.2.2 == 0)).foldl (fun h w => h.land w.1 w.2.1) g
  { h with flight := aged.filter (fun w => w.2.2 != 0) }

/-- A result for register `r` that the `d`-th later instruction reads first; an earlier write in flight is
cancelled (R279, R287), and x0 keeps nothing (R276). -/
def Engine.result (r : Fin 32) (v : Word) (d : Nat) (g : Engine) : Engine :=
  if r.val = 0 then g
  else { g with flight := g.flight.filter (fun w => w.1 != r.val) ++ [(r.val, v, d)] }

/-- Slots used by the instruction that issues (R258, R260, R290). -/
def Engine.spend (n : Nat) (g : Engine) : Engine :=
  { g with slots := g.slots + n, lUsed := if g.inF then g.lUsed else g.lUsed + n }

/-- Execution moves on to the next instruction. -/
def Engine.advance (g : Engine) : Engine :=
  g.mapCtx (fun c => { c with pc := c.npc, npc := c.npc + 4#32, ds := false })

/-- A branch or jump: the delay slot follows, then the target or the instruction after the delay slot
(R282); bits 1:0 of a target are ignored (R292). -/
def Engine.branch (taken : Bool) (target : Word) (g : Engine) : Engine :=
  g.mapCtx (fun c => { c with
    pc := c.npc, npc := if taken then target &&& 0xFFFFFFFC#32 else c.npc + 4#32, ds := true })

/-- The bank starts at address `a`. -/
def Ctx.enter (a : Word) (c : Ctx) : Ctx := { c with pc := a, npc := a + 4#32, ds := false }

/-! ### Running, trapping, stalling (R270, R271, R292) -/

/-- STATE of a running Keeper (R275). -/
def Engine.runState (g : Engine) : Nat := if g.ctx.trap.inh then 4 else if g.inF then 2 else 1

/-- STATE of Keeper `k` is `x`; the Warden has none. -/
def setKState (k x : Nat) (s : State) : State :=
  if k < 8 then State.setFld (KEEPER_STAT k) KEEPER_STAT_STATE x s else s

/-- STATE of Keeper `k`. -/
def kState (s : State) (k : Nat) : Nat := s.fld (KEEPER_STAT k) KEEPER_STAT_STATE

/-- Engine `e` executes instructions now. -/
def engRuns (s : State) (e : Nat) : Bool :=
  if e < 8 then kState s e == 1 || kState s e == 2 || kState s e == 4 else (s.eng e).present

/-- A fatal cause stalls a Keeper: it stops, and K_TRAP and K_TPC take the cause and the address; EV115
and its fault source are raised (R271). The Warden stops (log entry 21). -/
def stall (e cause : Nat) (s : State) : State :=
  if e < 8 then
    let pc := (s.eng e).ctx.pc
    let t := State.setReg (KEEPER_TPC e) pc (State.setFld (KEEPER_TRAP e) KEEPER_TRAP_K_TRAP cause s)
    raiseFault (28 + e) (raiseEvData 115 e (cause :: leBytes 4 pc.toNat) (setKState e 5 t))
  else State.modEng e (fun g => { g with present := false }) s

/-- What a trap writes into the bank it interrupts (R292). -/
def Ctx.trapped (cls : Bool) (cause : Nat) (inst vec : Word) (c : Ctx) : Ctx :=
  { c with pc := vec, npc := vec + 4#32, ds := false,
           trap := { c.trap with cause := cause, tpc := c.pc, tnpc := c.npc, inst := inst,
                                 inh := true, tds := c.ds, cls := cls } }

/-- Core cycles of a trap entry after the cycle in which the trapping instruction issued, so that the handler issues at
most 24 cycles after it (R292); how many is left open. -/
def trapCycles (s : State) : Nat := (s.free 8).toNat % 24

/-- Engine `e` traps with `cause` at the instruction word `inst` (R270, R292, R315). -/
def trap (e cause : Nat) (inst : Word) (s : State) : State :=
  let g := s.eng e
  let vec := if cause = 1 then g.evec else g.tvec
  if g.ctx.trap.inh then stall e 8 s
  else if vec = absentEntry then stall e cause s
  else
    let pc := g.ctx.pc
    let t := State.modEng e (fun g => ((g.landAll.mapCtx (Ctx.trapped (decide (e < 8) && g.inF) cause inst vec)).spend (trapCycles s)))
      s.drawn
    if e < 8 then
      let t := State.setReg (KEEPER_TPC e) pc (State.setFld (KEEPER_TRAP e) KEEPER_TRAP_K_TRAP cause t)
      raiseEvData 112 e (cause :: leBytes 4 pc.toNat)
        (State.incFld (KEEPER_STAT e) KEEPER_STAT_TRAP_CNT (setKState e 4 t))
    else t

/-! ### Instruction words (R277 to R280) -/

/-- A word of format R. -/
def encR (sub : Nat) (rd rs1 rs2 : Fin 32) : Word :=
  BitVec.ofNat 32 (rd.val * 2 ^ 6 + rs1.val * 2 ^ 11 + rs2.val * 2 ^ 16 + sub * 2 ^ 21)

/-- A word of format I, S or B: opcode, the two register fields and the top halfword. -/
def encI (op : Nat) (r rs1 : Fin 32) (imm : BitVec 16) : Word :=
  BitVec.ofNat 32 (op + r.val * 2 ^ 6 + rs1.val * 2 ^ 11 + imm.toNat * 2 ^ 16)

/-- A word of format BK. -/
def encBK (op : Nat) (rs1 : Fin 32) (k : BitVec 8) (off : BitVec 13) : Word :=
  BitVec.ofNat 32 (op + rs1.val * 2 ^ 6 + k.toNat * 2 ^ 11 + off.toNat * 2 ^ 19)

/-- A word of format J. -/
def encJ (op : Nat) (off : BitVec 26) : Word := BitVec.ofNat 32 (op + off.toNat * 2 ^ 6)

/-- A word of format C. -/
def encC (op : Nat) (r rs1 : Fin 32) (m : Bool) (sp : Fin 16) (off : BitVec 11) : Word :=
  BitVec.ofNat 32 (op + r.val * 2 ^ 6 + rs1.val * 2 ^ 11 + b2n m * 2 ^ 16 + sp.val * 2 ^ 17 + off.toNat * 2 ^ 21)

/-- A word of format SYS. -/
def encSys (fn : Nat) (r : Fin 32) (bit : Bool) (cr : BitVec 8) : Word :=
  BitVec.ofNat 32 (0x34 + r.val * 2 ^ 6 + fn * 2 ^ 16 + b2n bit * 2 ^ 21 + cr.toNat * 2 ^ 24)

/-- Control register `cr` exists on engine `e` (R290). -/
def crKnown (e cr : Nat) : Bool := if e < 8 then decide (cr ≤ 0x0C) else decide (cr < 8 ∨ cr = 0x0A ∨ cr = 0x0B)

/-- Word `w` is a reserved opcode on engine `e`, wherever it stands (R277, R279, R280, R290). -/
def reservedWord (e : Nat) (w : Word) : Bool :=
  let n := w.toNat
  let op := n % 64
  let rd := n / 2 ^ 6 % 32
  let rs1 := n / 2 ^ 11 % 32
  let top := n / 2 ^ 16
  match op with
  | 0x00 => let sub := n / 2 ^ 21
    !([0x000, 0x001, 0x004, 0x005, 0x006, 0x008, 0x009, 0x00A, 0x010, 0x011, 0x012, 0x013, 0x020, 0x021,
      0x022, 0x040, 0x041, 0x042, 0x043].contains sub)
  | 0x07 => top / 2 ^ 14 == 3 || top / 2 ^ 5 % 2 ^ 9 != 0
  | 0x08 => rs1 != 0
  | 0x2A => rd != 0 || top != 0
  | 0x2B => top != 0
  | 0x2C => rd != 0 || top != 0
  | 0x30 => n / 2 ^ 16 % 2 == 1
  | 0x34 =>
    let fn := n / 2 ^ 16 % 32
    let cr := n / 2 ^ 24
    rs1 != 0 || n / 2 ^ 22 % 4 != 0 ||
      (match fn with
       | 0 | 1 => n / 2 ^ 21 % 2 != 0 || !crKnown e cr
       | 2 => rd != 0 || cr != 0
       | 3 => rd != 0 || cr != 0 || n / 2 ^ 21 % 2 != 0 || decide (8 ≤ e)
       | _ => true)
  | 0x3A => decide (e < 8)
  | 0x3B => decide (e < 8) || n / 64 != 0
  | _ => !(decide (1 ≤ op ∧ op ≤ 0x06) || decide (0x0C ≤ op ∧ op ≤ 0x10) || decide (0x14 ≤ op ∧ op ≤ 0x16) ||
      decide (0x18 ≤ op ∧ op ≤ 0x1D) || decide (0x20 ≤ op ∧ op ≤ 0x25) || op == 0x28 || op == 0x29 || op == 0x31)

/-- Word `w` must not stand in a delay slot (R283). -/
def noDelaySlot (w : Word) : Bool :=
  let n := w.toNat
  let op := n % 64
  decide (0x18 ≤ op ∧ op ≤ 0x1D) || decide (0x20 ≤ op ∧ op ≤ 0x25) || decide (0x28 ≤ op ∧ op ≤ 0x2C) ||
    op == 0x3A || op == 0x3B || (op == 0x34 && (n / 2 ^ 16 % 32 == 2 || n / 2 ^ 16 % 32 == 3))

/-- Word `w` traps with RESERVED_OP where engine `g` stands (R277, R283, R293, R295). -/
def reservedHere (e : Nat) (g : Engine) (w : Word) : Bool :=
  reservedWord e w || (g.ctx.ds && noDelaySlot w) ||
    (w.toNat % 64 == 0x34 && w.toNat / 2 ^ 16 % 32 == 2 && !g.ctx.trap.inh) ||
    (w.toNat % 64 == 0x34 && w.toNat / 2 ^ 16 % 32 == 3 && g.ctx.trap.inh)

/-- Keeper `k` has used L_BUDGET slots in its class L list (R260). -/
def overBudget (s : State) (k : Nat) : Bool :=
  engRuns s k && decide (k < 8) && !(s.eng k).inF &&
    decide (10 * s.fld (KEEPER_CTRL k) KEEPER_CTRL_L_BUDGET ≤ (s.eng k).lUsed)

/-- Slots in 10-slot units, rounded up (log entry 15). -/
def slotUnits (n : Nat) : Nat := clampN 0 0xFFFF ((n + 9) / 10)

/-- L_LAST and L_MAX of Keeper `k` once its class L list has ended, or overrun, in this cycle (R275). -/
def recordLUse (k : Nat) (s : State) : State :=
  let u := slotUnits (s.eng k).lUsed
  let t := State.setFld (KEEPER_LUSE k) KEEPER_LUSE_L_LAST u s
  if t.fld (KEEPER_LUSE k) KEEPER_LUSE_L_MAX < u then State.setFld (KEEPER_LUSE k) KEEPER_LUSE_L_MAX u t else t

/-- Keeper `k` stalls once it has used L_BUDGET slots without reaching the end of its class L list (R260, R274). -/
def lOverrun (k : Nat) (s : State) : State :=
  if overBudget s k then stall k 7 (raiseEvData 113 k [k] (recordLUse k s)) else s

/-- Keeper `k` has used the B slots of its lock cycle, 300 for each µs of T, and waits for the strobe (R258). -/
def cycleSpent (s : State) (k : Nat) : Bool := decide (k < 8) && decide (3000 * s.kp.lockT ≤ (s.eng k).slots)

/-- A trap of engine `e` in the slot in which its instruction issues (R270, R292). -/
def trapIssued (e cause : Nat) (w : Word) (s : State) : State := trap e cause w (State.modEng e (fun g => g.spend 1) s)

/-- Engine `e` issues the instruction whose word is `w`: a Keeper has B slots in a lock cycle (R258), and one whose class L
budget is used up stalls (R260); a fetch outside the code range traps with BUSERR and no word (R281); where `bars` holds
the word is reserved here and traps with RESERVED_OP; otherwise `age` is what the issue does to the results in flight
(R286) and `f` gives the effect. An engine that does not run issues nothing. -/
def issueBy (age : Engine → Engine) (e : Nat) (w : Word) (bars : Engine → Bool) (f : State → State) (s : State) : State :=
  if !engRuns s e || cycleSpent s e then s
  else if overBudget s e then lOverrun e s
  else if codeTop e ≤ (s.eng e).ctx.pc.toNat then trapIssued e 2 0#32 s
  else if bars (s.eng e) then trapIssued e 1 w s
  else f (State.modEng e (fun g => (age g).spend 1) s)

/-- The issue of an instruction: it advances the result distances by one (R286). -/
def issueOn (e : Nat) (w : Word) (bars : Engine → Bool) (f : State → State) (s : State) : State :=
  issueBy Engine.issue e w bars f s

/-- The issue of CALLM or RETM, which advances no result distance (R286). -/
def issueStill (e : Nat) (w : Word) (bars : Engine → Bool) (f : State → State) (s : State) : State := issueBy id e w bars f s

/-- A register result from the operands of the running bank, then on to the next instruction. -/
def aluOn (e : Nat) (w : Word) (rd : Fin 32) (d : Nat) (f : Engine → Word) (s : State) : State :=
  issueOn e w (fun _ => false) (State.modEng e (fun g => (g.result rd (f g) d).advance)) s

/-- A compare-and-branch or jump with its target. -/
def branchOn (e : Nat) (w : Word) (cond : Engine → Bool) (target : Engine → Word) (s : State) : State :=
  issueOn e w (fun g => g.ctx.ds) (State.modEng e (fun g => g.branch (cond g) (target g))) s

/-- The target of an offset in words, counted from the branch's own address (R278, R282). -/
def relTarget (g : Engine) (off : Word) : Word := g.ctx.pc + off * 4#32

/-! ### Lists of the lock cycle (R259 to R262, R295) -/

/-- The class L list of Keeper `k` has ended: the class F list resumes where it stood, or the Keeper
waits (R259, R295, R315), or halts where the module enters a low-power state (R345); a class L flow may be sent (R423). -/
def endL (k : Nat) (s : State) : State :=
  let t := recordLUse k (State.modEng k Engine.landAll s)
  let t := { t with aq := { t.aq with listEnded := Tab.put t.aq.listEnded false k true } }
  let g := t.eng k
  if t.pow.stage != 0 then setKState k 0 t
  else if g.fDone || g.fentry == absentEntry then setKState k 3 (State.modEng k (fun g => { g with inF := true }) t)
  else
    let u := State.modEng k (fun g => { g with inF := true }) t
    setKState k (u.eng k).runState u

/-- The class F list of Keeper `k` has completed a pass (R262, R295). -/
def endF (k : Nat) (s : State) : State :=
  setKState k 3 (State.modEng k (fun g => { g.landAll with fDone := true, fCount := 0, fReported := false }) s)

/-- CODE_BANK selects the other bank (R486). -/
def flipCode (s : State) : State :=
  State.setFld UPD_CODE UPD_CODE_CODE_BANK (1 - s.fld UPD_CODE UPD_CODE_CODE_BANK) s

/-- Half a millisecond into the Warden's pause the code bank is switched and the new firmware starts; the hand-over area
holds where the old one stood (R487). -/
def firmwareSwitch (s : State) : State :=
  match s.upd.pause with
  | some t0 =>
    if s.upd.switched = false ∧ t0 + 500000 ≤ s.now then
      let t := State.modEng 8 (fun _ => { present := true }) (flipCode s)
      { t with upd := { t.upd with switched := true, oldEng := s.eng 8 } }
    else s
  | none => s

/-- The strobe is the swap strobe of a Chart hand-over, or a later one (R489, R490). -/
def swapNow (s : State) : Bool :=
  s.upd.swap && decide ((s.reg KEEPER_LCC - s.reg UPD_SWAP).toNat < 2 ^ 31)

/-- A class F rule that the strobe interrupts is suspended and counted (R261), but at a swap strobe, where it is
abandoned (R490). -/
def carryF (k : Nat) (s : State) : State :=
  let g := s.eng k
  if g.inF && engRuns s k && !swapNow s then
    raiseEvData 117 k [k] (State.incFld (KEEPER_STAT k) KEEPER_STAT_F_CARRY (State.modEng k Engine.landAll s))
  else s

/-- Keeper `k` is released after the strobe: the class L list from LENTRY, the class F list where it
stood or from FENTRY (R259, R315). -/
def release (k : Nat) (s : State) : State :=
  let t := carryF k s
  let t := State.modEng k (fun g =>
    let g := if g.fDone && g.fentry != absentEntry then { g with fDone := false, f := g.f.enter g.fentry } else g
    { g with slots := 0, lUsed := 0, inF := false, waiting := false,
             fCount := if g.fentry = absentEntry then 0 else g.fCount + 1, l := g.l.enter g.lentry }) t
  let t := if (t.eng k).restarted then
      raiseEvData 116 k [k] (State.modEng k (fun g => { g with restarted := false }) t)
    else t
  if (t.eng k).lentry = absentEntry then endL k t else setKState k 1 t

/-- LOCK_CYC in 10 µs units: 5 to 100, outside the nearer limit; it acts from the next strobe (R255). -/
def lockSetting (s : State) : Nat := clampN 5 100 (s.fld KEEPER_CFG KEEPER_CFG_LOCK_CYC)

/-- The strobe for Keeper `k`: one that waits, runs, or waits for its release after a reload is
released; a class L list still running goes on (log entry 22). -/
def strobeKeeper (k : Nat) (s : State) : State :=
  let g := s.eng k
  if !enabled s 11 || moduleLimp s || s.pow.stage != 0 then s
  else if g.waiting then release k s
  else if kState s k = 3 ∨ (engRuns s k ∧ g.inF) then release k s
  else if engRuns s k ∧ g.fentry ≠ absentEntry then State.modEng k (fun g => { g with fCount := g.fCount + 1 }) s
  else s

/-- Bytes of memory from key `k` read as no entry lists them. -/
def State.clearRange (k n : Nat) (s : State) : State :=
  { s with mem := s.mem.filter (fun c => decide (c.1 < k ∨ k + n ≤ c.1)) }

/-- `n` bytes copied from key `src` to key `dst`. -/
def State.copyBytes (src dst n : Nat) (s : State) : State :=
  match n with
  | 0 => s
  | m + 1 => State.copyBytes (src + 1) (dst + 1) m (State.setByte dst (s.byte src) s)

/-- The data SRAM of Keeper `k` takes its data image; the rest is 0 (R315). -/
def reloadData (k : Nat) (s : State) : State :=
  let base := (k + 1) * 0x100000000 + 0x10000000
  flashRead (s.eng k).data.1 (s.eng k).data.2
    (State.copyBytes (flashBase + (s.eng k).data.1) base (s.eng k).data.2 (State.clearRange base 0x8000 s))

/-- The instruction SRAM of Keeper `k` takes its code image (R315). -/
def reloadCode (k : Nat) (s : State) : State :=
  let base := (k + 1) * 0x100000000
  flashRead (s.eng k).code.1 (s.eng k).code.2
    (State.copyBytes (flashBase + (s.eng k).code.1) base (s.eng k).code.2 (State.clearRange base 0x10000 s))

/-- Keeper `k` is stopped and cleared, and waits for its release at the first strobe (R272); without a
program it stays HALTED (R315). -/
def clearKeeper (k : Nat) (s : State) : State :=
  setKState k 0 (State.modEng k (fun g => { g with
    l := {}, f := {}, inF := false, flight := [], slots := 0, lUsed := 0, fDone := true, fCount := 0,
    fReported := false, waiting := g.present, restarted := g.present }) s)

/-- RESTART of Keeper `k` (R272). -/
def restartKeeper (k : Nat) (keep : Bool) (s : State) : State :=
  let t := clearKeeper k s
  if keep then t else reloadData k t

/-- Every Keeper halts at once (R326, R345, R442). -/
def haltKeepers (s : State) : State :=
  (List.range 8).foldl (fun t k => setKState k 0 (State.modEng k (fun g => { g with
    waiting := false }) t)) s

/-- Keepers halt after their class L list (R345): at once where it does not run. -/
def haltAfterL (s : State) : State :=
  (List.range 8).foldl (fun t k =>
    let u := State.modEng k (fun g => { g with waiting := false }) t
    if engRuns s k && !(s.eng k).inF then u else setKState k 0 u) s

/-- Every Keeper with a program restarts as by RESTART with KEEP = 0 (R326, R442). -/
def restartKeepers (s : State) : State :=
  (List.range 8).foldl (fun t k => if (t.eng k).present then restartKeeper k false t else t) s

/-! ### The snapshot (R259, R263 to R265) -/

/-- The levels of the Lodge input image, as delivered by the Harbour, as one number (R242). -/
def levelWords (s : State) : Nat :=
  (List.range 128).foldl (fun n j => n + b2n (s.input j).ref * 2 ^ j) 0

/-- CAN objects that stored a frame since the previous snapshot (R361). -/
def canFreshList (s : State) : List Nat :=
  (List.range 8).flatMap (fun c => (s.can c).fresh.map (fun n => 128 * c + n))

/-- Class F flow entries of the plan with a staged write (R423). -/
def stagedFlows (s : State) : List Nat :=
  (List.range s.aq.plan.flows.length).filter (fun i =>
    (match s.aq.plan.flows[i]? with
      | some f => f.cls != 0
      | none => false) &&
    (s.aq.plan.vars.zipIdx).any (fun e => e.1.1 == i && (Tab.get s.aq.staged none e.2).isSome))

/-- The registers as they stood 2.1 µs ago at the latest: what the class 1 frames of the dies have brought to the STATUS
mirror by now (R20, R264). -/
def mirrorRegs (s : State) : Tab Word :=
  match s.kp.mirror.find? (fun e => decide (e.1 + 2100 ≤ s.now)) with
  | some e => e.2
  | none =>
    match s.kp.mirror.getLast? with
    | some e => e.2
    | none => s.regs

/-- The words of dies 0 to 4 in `m` for a snapshot; those of a die whose link is down stand as `old` has them (R264). -/
def dieWords (s : State) (m : Tab Word) (old : Tab (Tab Word)) : Tab (Tab Word) :=
  (List.range 5).foldl (fun (d : Tab (Tab Word)) i => if cvUp s i then Tab.put d [] i m else d) old

/-- A snapshot that begins now sees the variables of the barges that were complete more than 1 µs ago (R424). -/
def imageLands (s : State) : State :=
  let ripe := fun (e : Nat × Nat × Word × Nat) => decide (e.1 + 1000 < s.now)
  let t := (s.aq.landing.filter ripe).foldl (fun t e => { t with aq := { t.aq with
    image := Tab.put t.aq.image 0#32 e.2.1 e.2.2.1, stamp := Tab.put t.aq.stamp 0 e.2.1 e.2.2.2 } }) s
  { t with aq := { t.aq with landing := s.aq.landing.filter (fun e => !ripe e) } }

/-- The swap of the double-buffered image at the strobe (R259): COMMAND words as the strobe has just applied them (R263),
STATUS words from the mirror `stat` as it stood before (R264); `words` are the event words before the strobe, as what
occurs in the snapshot cycle counts in the following ones (R273). -/
def takeSnapshot (stat : Tab Word) (words : Tab Nat) (s : State) : State :=
  let s := imageLands s
  let snap : Snap := {
    regs := s.regs, dies := dieWords s s.regs s.kp.snap.dies, stats := dieWords s stat s.kp.snap.stats, levels := levelWords s, edges := s.kp.edgeAcc, wwt := s.wwt,
    band := s.fld SUPPLY_STAT SUPPLY_STAT_BAND, events := words,
    canFresh := canFreshList s, lin := s.bus.linFrames, image := s.aq.image, stamp := s.aq.stamp,
    sentVars := s.aq.sentVars, shared := s.kp.shared }
  let t := { s with kp := { s.kp with snap := snap, edgeAcc := 0 },
                    aq := { s.aq with listEnded := [], readyF := stagedFlows s } }
  let t := (List.range 8).foldl (fun t c => State.modCan c (fun x => { x with fresh := [] }) t) t
  { t with bus := { t.bus with linFrames :=
      t.bus.linFrames.filterMap (fun e =>
        let f : LinFrame := { e.2 with fresh := false }
        if f = {} then none else some (e.1, f)) } }

/-- LCC counts one (R256); passing from 0xFFFF_FFFF to 0 raises EV120 (R274). -/
def countLcc (s : State) : State :=
  let t := State.setReg KEEPER_LCC (s.reg KEEPER_LCC + 1#32) s
  if s.reg KEEPER_LCC = 0xFFFFFFFF#32 then raiseEv 120 0xFFFF t else t

/-! ### Lock-port reads (R263, R289) -/

/-- The variable that FABRIC index `v` names: its flow entry (R422). -/
def fabricVar (s : State) (v : Nat) : Option PlanFlow :=
  (s.aq.plan.vars[v]?).bind (fun x => s.aq.plan.flows[x.1]?)

/-- The module's own address (R404). -/
def aqAddr (s : State) : Nat := s.fld AQ_STAT AQ_STAT_ADDR

/-- This module publishes flow entry `f`. -/
def publishes (s : State) (f : PlanFlow) : Bool := f.src == aqAddr s

/-- Age of variable `v` in lock cycles at the snapshot, saturating (R422); one never accepted reads
0xFFFF (log entry 23). -/
def varAge (s : State) (v : Nat) : Nat :=
  match Tab.find s.kp.snap.stamp v with
  | none => 0xFFFF
  | some n =>
    let lcc := (Tab.get s.kp.snap.regs 0#32 KEEPER_LCC).toNat
    clampN 0 0xFFFF ((lcc + 2 ^ 32 - (n - 1) % 2 ^ 32) % 2 ^ 32)

/-- A register of a die as the snapshot took it: with `status` from the STATUS mirror (R264), else the word in force
(R263). -/
def snapReg (s : State) (status : Bool) (d a : Nat) : Word :=
  Tab.get (Tab.get (if status then s.kp.snap.stats else s.kp.snap.dies) [] d) (regReset a) a

/-- The leader of sink `k` as the snapshot mirrors the sinks (R203). -/
def snapLeader (s : State) (k fuel : Nat) : Nat :=
  match fuel with
  | 0 => k
  | n + 1 => if 0 < k ∧ fget LC_CFG_FOLLOW (snapReg s false 4 (LC_CFG k)) = 1 then snapLeader s (k - 1) n else k

/-- The status word of sink `k` in the mirror: a follower shows its leader's STATE and CODE (R203). -/
def snapSink (s : State) (k : Nat) : Word :=
  let w := snapReg s true 4 (LC_STAT k)
  let l := snapReg s true 4 (LC_STAT (snapLeader s k 7))
  fput LC_STAT_STATE (fget LC_STAT_STATE l) (fput LC_STAT_CODE (fget LC_STAT_CODE l) w)

/-- The COMMAND or STATUS word of index `i`: the odd channel of a pair reads as its even channel
(R95, R180), with its own temperature for a status, and the veto of either half holds both; a follower's status shows its
leader's state (R203). -/
def pairedWord (s : State) (status : Bool) (i a : Nat) : Word :=
  let d := commandDie i
  let own := snapReg s status d a
  let even := snapReg s status d (a - 4 * (i % 2))
  let odd := snapReg s status d (a - 4 * (i % 2) + 4)
  let isPair :=
    if i < 0x20 then fget PAV_CFG_PAIR (snapReg s false d (PAV_CFG (i / 2 * 2))) == 1
    else if 0x200 ≤ i ∧ i < 0x210 then fget BR_CFG_PAIR (snapReg s false d (BR_CFG ((i - 0x200) / 2 * 2))) == 1
    else false
  if status ∧ 0x300 ≤ i ∧ i < 0x330 then snapSink s (i - 0x300)
  else if !isPair then own
  else if !status then even
  else if i < 0x20 then
    fput PAV_STAT_VETO_T (Nat.max (fget PAV_STAT_VETO_T even) (fget PAV_STAT_VETO_T odd))
      (fput PAV_STAT_TJ (fget PAV_STAT_TJ own) even)
  else
    fput BR_STAT_VETO_T (Nat.max (fget BR_STAT_VETO_T even) (fget BR_STAT_VETO_T odd))
      (fput BR_STAT_TJ (fget BR_STAT_TJ own) even)

/-- Words that a CHR of the snapshot returns from CAN object words (R263, R361). -/
def chrCan (s : State) (i : Nat) : Option Word :=
  let c := i / 0x2000
  let n := i / 64 % 128
  let w := i % 64
  let at_ (a : Nat) : Word := Tab.get s.kp.snap.regs 0#32 a
  let word (k : Nat) : Word := at_ (canWord c n k)
  if w = 0 then
    let h := word 0
    some (BitVec.ofNat 32 (b2n (s.kp.snap.canFresh.contains (128 * c + n)) * 2 ^ 31 + fget OBJ_DIR h * 2 ^ 30 +
      fget OBJ_TXREQ h * 2 ^ 29 + fget OBJ_MSGLOST h * 2 ^ 28 + fget OBJ_LEN h))
  else if w = 1 then some (word 1)
  else if w < 18 then some (at_ (objData c n (word 0) (w - 2)))
  else none

/-- Words of a LIN frame (R370). -/
def chrLin (s : State) (i : Nat) : Option Word :=
  let ch := i / 0x1000
  let f : LinFrame := Tab.get s.kp.snap.lin {} (64 * ch + i / 64 % 64)
  if 12 ≤ ch then none
  else match i % 64 with
  | 0 => some (BitVec.ofNat 32 (b2n f.fresh * 2 ^ 31 + b2n (f.dir == 1) * 2 ^ 30 + b2n f.err * 2 ^ 29 + f.len))
  | 1 => some (BitVec.ofNat 32 f.data)
  | 2 => some (BitVec.ofNat 32 (f.data / 2 ^ 32))
  | _ => none

/-- Fabric variables and ages (R422). -/
def chrFabric (s : State) (i : Nat) : Option Word :=
  let v := i % 0x400
  match fabricVar s v with
  | none => none
  | some f =>
    if i < 0x400 then
      some (if publishes s f then Tab.get s.kp.snap.sentVars 0#32 v else Tab.get s.kp.snap.image 0#32 v)
    else if i < 0x800 then some (BitVec.ofNat 32 (varAge s v))
    else none

/-- System words of engine `e` (R263): the Keeper number and event words of the Warden are open. -/
def chrSystem (s : State) (e i : Nat) : Option Word :=
  match i with
  | 0 => some (Tab.get s.kp.snap.regs 0#32 KEEPER_LCC)
  | 1 => some (BitVec.ofNat 32 s.kp.snap.wwt)
  | 2 => some (BitVec.ofNat 32 (s.kp.snap.wwt / 2 ^ 32))
  | 3 => some (if e < 8 then BitVec.ofNat 32 e else s.free 32)
  | 4 => some (BitVec.ofNat 32 s.kp.snap.band)
  | _ =>
    if 8 ≤ i ∧ i < 16 then
      some (if e < 8 then BitVec.ofNat 32 (Tab.get s.kp.snap.events 0 e / 2 ^ (32 * (i - 8))) else s.free 32)
    else none

/-- The lock-port word that engine `e` reads in space `sp` at index `i`; none where the address names
nothing (R263). -/
def chrWord (s : State) (e sp i : Nat) : Option Word :=
  match sp with
  | 0 =>
    if i < 128 then some (BitVec.ofNat 32 (b2n (bitOf s.kp.snap.levels i)))
    else if i < 0x84 then some (BitVec.ofNat 32 (s.kp.snap.levels / 2 ^ (32 * (i - 0x80))))
    else if 0x90 ≤ i ∧ i < 0x94 then some (BitVec.ofNat 32 (s.kp.snap.edges / 2 ^ (32 * (i - 0x90))))
    else none
  | 1 => (commandAddr i).map (pairedWord s false i)
  | 2 => (statusAddr i).map (pairedWord s true i)
  | 3 => chrCan s i
  | 4 => chrLin s i
  | 5 => chrFabric s i
  | 6 => chrSystem s e i
  | 7 => if i < 256 then some (Tab.get s.kp.snap.shared 0#32 i) else none
  | _ => none

/-! ### Lock-port writes (R263, R267, R289, R361, R370, R422) -/

/-- What a CHW comes to. -/
inductive ChwKind where
  /-- an invalid address: LOCK_SPACE -/
  | invalid
  /-- a write of the lock set -/
  | set
  /-- a word of the shared space -/
  | shared
  /-- a published variable -/
  | fabric
  deriving DecidableEq, Repr

/-- The kind of a CHW of `v` to space `sp`, index `i`. -/
def chwKind (s : State) (sp i : Nat) (v : Word) : ChwKind :=
  match sp with
  | 1 => if (commandAddr i).isSome then .set else .invalid
  | 3 =>
    let h := objWord s (i / 0x2000) (i / 64 % 128)
    if fget OBJ_DIR h = 0 ∨ 18 ≤ i % 64 then .invalid
    else if i % 64 = 0 ∧ v &&& ~~~0x20000000#32 ≠ 0#32 then .invalid
    else .set
  | 4 =>
    if i / 0x1000 < 12 ∧ (i % 64 = 1 ∨ i % 64 = 2) ∧ (s.linFrame (i / 0x1000) (i / 64 % 64)).dir = 1 then .set
    else .invalid
  | 5 =>
    match fabricVar s i with
    | some f => if i < 0x400 ∧ publishes s f then .fabric else .invalid
    | none => .invalid
  | 7 => if i < 256 then .shared else .invalid
  | _ => .invalid

/-- Keeper `e` does not own the target (R267, R422). -/
def wrongOwner (s : State) (e sp i : Nat) : Bool :=
  decide (e < 8) &&
    (if sp = 1 then Tab.get s.kp.owners 0 i != 0 && Tab.get s.kp.owners 0 i != e + 1
     else if sp = 5 then (match fabricVar s i with
       | some f => f.owner != e
       | none => false)
     else false)

/-- The effect of a CHW of `v` by engine `e` to space `sp`, index `i`, beside the engine; the write is of the master class
of the engine (R46, R249). -/
def chwWrite (e sp i : Nat) (imm : Bool) (v : Word) (s : State) : State :=
  let tg := lockTarget sp i
  let m := if e < 8 then e + 1 else 0
  if sp = 1 ∧ imm then sendImmediate m i v s
  else match chwKind s sp i v with
  | .set => queueWrite { target := tg, word := v.toNat, master := m } s
  | .shared => { s with kp := { s.kp with shared := Tab.put s.kp.shared 0#32 i v } }
  | .fabric => { s with aq := { s.aq with staged := Tab.put s.aq.staged none i (some v) } }
  | .invalid => s

/-- CHW by engine `e` (R289): dropped in module limp (R442); else LOCK_SPACE, then the owner, then SET_FULL (R267),
then the write. -/
def chw (e : Nat) (w v : Word) (sp i : Nat) (imm : Bool) (s : State) : State :=
  if moduleLimp s then State.modEng e Engine.advance s
  else if chwKind s sp i v = .invalid then trap e 3 w s
  else if wrongOwner s e sp i then
    raiseEvData 119 e [e] (State.setFlag (KEEPER_STAT e) KEEPER_STAT_WRONG_OWN true
      (State.modEng e Engine.advance s))
  else if chwKind s sp i v = .set ∧ !(sp = 1 && imm) ∧ !setHas s.lock.openSet (lockTarget sp i) ∧
      512 ≤ setSize s.lock.openSet then
    raiseEvData 118 e [e] (trap e 4 w s)
  else chwWrite e sp i imm v (State.modEng e Engine.advance s)

end Sys2Proof.Machine
end

