-- ==== Sys2Proof/Machine/PowerOps.lean ====
section
/-! DEFINITION. Power states, wakes, network sleep and what a Lodge reset leaves (R338 to R353, R379 to
R393). -/

namespace Sys2Proof.Machine

/-! ### What a Lodge reset leaves -/

/-- Lodge registers that keep their words over every start: harness-health results, the Logbook's
positions, learned tokens and the staged update (R143, R461, R476, R493), and the fabric position that
a warm start compares (R416). MEAS_CFG stays because every power die holds it too (R147). -/
def keptBases : List Nat :=
  [MEAS_CFG, MEAS_HHBASE 0, MEAS_HHDAY 0, MEAS_HHSTAT 0, LOG_HEAD_LO, LOG_HEAD_HI, LOG_FOUND_LO, LOG_FOUND_HI,
   GATE_TOKID 0, UPD_STAT, UPD_ID, UPD_PIECES, UPD_BITMAP 0, FAULT_STICKY 0, KEEPER_LCC,
   AQ_STAT, AQ_TOPO, AQ_POS_LO, AQ_POS_HI, AQ_SYNC, AQ_ROUTE 0]

/-- Single fields of other Lodge registers that keep their value: over every start (R337, R461, R476), or
over a warm start (R33, R442); ERRN_LOW because the Harbour holds ERRN through a Lodge reset (R438);
CODE_BANK until firmware is loaded from flash (R486). -/
def keptFields : List (Nat × Fld) :=
  [(CHECK_START, CHECK_START_START_FAIL), (LOG_STAT, LOG_STAT_FOUND_FULL),
   (GATE_STAT, GATE_STAT_FAIL_CNT), (GATE_STAT, GATE_STAT_ENR_CNT), (GATE_STAT, GATE_STAT_KDER_SET),
   (GATE_TOK 0, GATE_TOK_VALID), (GATE_TOK 0, GATE_TOK_BAD_CNT),
   (SYS_LOCK_STAT, SYS_LOCK_STAT_SLIP_CNT), (FAULT_STAT, FAULT_STAT_MLIMP),
   (FAULT_STAT, FAULT_STAT_ERRN_LOW), (UPD_CODE, UPD_CODE_CODE_BANK)]

/-- A field of a Lodge register keeps its value over a Lodge reset; a WL field is returned to its reset
value by a cold start only (R43). -/
def fieldKept (r : RegRow) (f : FInfo) : Bool :=
  f.acc == .wl || keptBases.contains r.base || keptFields.contains (r.base, f.fld)

/-- What the word `v` at `a` becomes at a Lodge reset: registers of other dies stay (R9, R29). -/
def lodgeWord (a : Nat) (v : Word) : Word :=
  match regAt a with
  | none => 0#32
  | some (r, _) =>
    if r.home = .lodge then
      r.fields.foldl (fun w f => if fieldKept r f then fput f.fld (fget f.fld v) w else w) (regReset a)
    else v

/-- The dies that hold entry `i` of array `r`; none for the Lodge (R34). -/
def homeDies (r : RegRow) (i : Nat) : List Nat :=
  match r.home with
  | .lodge => []
  | .harbour => [5]
  | .arbour => [3]
  | .glasshouse => [4]
  | .pav16 => [dieOfPav (i / 16)]
  | .pav1 => [dieOfPav i]
  | .powerAll => if r.base = PAV_UV 0 then (match i with
    | 0 => [0, 1]
    | 1 => [2]
    | _ => [0, 1]) else [0, 1, 2]

/-- The register table with every word changed by `f`, in canonical form. -/
def regsMap (f : Nat → Word → Word) (t : Tab Word) : Tab Word :=
  t.filterMap (fun e => if f e.1 e.2 = regReset e.1 then none else some (e.1, f e.1 e.2))

/-- Harness-health state of a channel after a Lodge reset: the Lodge's accumulators stand as last flushed
to MRAM, batches on their way are lost, the die's sums stay (R143). -/
def MeasCh.lodgeReset (x : MeasCh) : MeasCh :=
  { x with sent := [], wsum := x.flushed.1, weight := x.flushed.2.1, batches := x.flushed.2.2 }

/-- A table with every entry changed by `f`, entries equal to the default `d` left out. -/
def Tab.map {α : Type} [DecidableEq α] (d : α) (f : α → α) (t : Tab α) : Tab α :=
  t.filterMap (fun e => if f e.2 = d then none else some (e.1, f e.2))

/-- The event block, the collector and the Logbook controller after a Lodge reset: waiting records and
notices are lost, slots and the head stay (R448). -/
def Report.lodgeReset (r : Report) : Report :=
  { slots := r.slots, head := r.head, ring := r.ring, found := r.found, written := r.written, clearMark := r.clearMark }

/-- The Lodge is held in reset (R73, R334, R440): LRST is asserted, and what lives on the Lodge is lost but
for what MRAM keeps. The dies go on (R29). -/
def lodgeReset (s : State) : State :=
  { s with
    regs := regsMap lodgeWord s.regs
    rep := s.rep.lodgeReset
    hosts := []
    cvs := []
    lock := { lstb := s.lock.lstb, lrst := true, lrstSince := s.now }
    bus := {}
    kp := {}
    aq := { claims := s.aq.claims, rootSerial := s.aq.rootSerial, flushed := s.aq.flushed,
            quarCause := s.aq.quarCause, lseq := s.aq.lseq, links := s.aq.links, tree := s.aq.tree,
            txSeq := s.aq.txSeq, rate := s.aq.rate,
            ports := List.map (fun e => (e.1, { hello := e.2.hello, delays := e.2.delays })) (s.aq.ports.filter (fun e => e.2.hello.isSome)) }
    meas := { s.meas with chans := Tab.map {} MeasCh.lodgeReset s.meas.chans }
    cus := []
    scrub := {}
    gate := { kDer := s.gate.kDer, kDerSet := s.gate.kDerSet, ctrStored := s.gate.ctrStored }
    upd := {}
    pow := { s.pow with stage := 0, domains := [], apply := [], ackWait := [] }
    start := { s.start with
      lodgeDown := true, disc := 0, auto := [], essential := [], claims := 0, checkQueue := [], askers := [],
      trigger := s.now, resDone := false } }

/-- The warm record that a reset by the fault collector leaves (R329, R331): ENABLE bits and digests before
the reset. -/
def writeWarmRecord (s : State) : State :=
  { s with start := { s.start with
      warmValid := true, warmEnable := s.fld CHECK_EN CHECK_EN_ENABLE, warmDigest := s.start.digest,
      warmTopo := s.reg AQ_TOPO } }

/-- A Lodge reset that the power dies ride through (R29): the next start is warm where MRAM holds a valid
warm record (R329), which the running Lodge keeps up to date. -/
def lodgeResetWarm (s : State) : State :=
  let running := s.fld CHECK_START CHECK_START_STATE == 0
  let t := lodgeReset (if running then writeWarmRecord s else s)
  { t with start := { t.start with warmNext := running } }

/-! ### Requests (R340 to R342) -/

/-- The present state code: 0 Run, 1 Idle, 2 Moored, 3 Berthed. -/
def powState (s : State) : Nat := s.fld POWER_STAT POWER_STAT_STATE

/-- A transition is in progress (R341). -/
def inTrans (s : State) : Bool := s.flag POWER_STAT POWER_STAT_TRANS

/-- The target of the transition in progress is Moored or Berthed. -/
def entering (s : State) : Bool := inTrans s && decide (2 ≤ s.fld POWER_STAT POWER_STAT_TARGET)

/-- An event that the Lodge reports at the next start while it is off or about to go off (R345, R352, R390, R392). -/
def lateEv (n index : Nat) (s : State) : State :=
  if lowPower s || s.start.lodgeDown || s.pow.stage == 2 then { s with pow := { s.pow with late := s.pow.late ++ [(n, index)] } }
  else raiseEv n index s

/-- A transition to `st` starts (R341). -/
def startTransition (st : Nat) (s : State) : State :=
  let t := State.setFlag POWER_STAT POWER_STAT_TRANS true (State.setFld POWER_STAT POWER_STAT_TARGET st s)
  { t with pow := { t.pow with stage := 0, began := s.now } }

/-- A request for state `st` is handled (R341): dropped for the present state, started, or held in the
queue of depth 1; each drop and each replacement raises EV249. -/
def requestState (st : Nat) (s : State) : State :=
  if inTrans s then
    let t := State.setFlag POWER_STAT POWER_STAT_PEND true (State.setFld POWER_STAT POWER_STAT_PEND_TGT st
      { s with net := { s.net with enfPend := false } })
    if s.flag POWER_STAT POWER_STAT_PEND then lateEv 249 st t else t
  else if st = powState s then lateEv 249 st s
  else startTransition st s

/-- The pending request is taken out of the queue (R341). -/
def takePending (s : State) : Option Nat × State :=
  if s.flag POWER_STAT POWER_STAT_PEND then
    (some (s.fld POWER_STAT POWER_STAT_PEND_TGT),
     State.setFlag POWER_STAT POWER_STAT_PEND false (State.setFld POWER_STAT POWER_STAT_PEND_TGT 0 s))
  else (none, s)

/-- A transition has ended in Run or Idle; the pending request is handled as though it had just arrived
(R341). -/
def endTransition (s : State) : State :=
  let p := takePending (State.setFlag POWER_STAT POWER_STAT_TRANS false
    { s with net := { s.net with enforced := s.net.enfPend, enfPend := false } })
  match p.1 with
  | some st => requestState st p.2
  | none => p.2

/-- The strobe ends a transition between Run and Idle (R342). -/
def strobePower (s : State) : State :=
  let st := s.fld POWER_STAT POWER_STAT_TARGET
  if inTrans s && decide (st < 2) then
    let t := raiseEv 247 st (State.setFld POWER_STAT POWER_STAT_STATE st s)
    endTransition (if st = 0 then { t with pow := { t.pow with runSince := s.now } } else t)
  else s

/-! ### Wakes (R344, R347, R385, R390, R392) -/

/-- STATE of transceiver `t` (R379). -/
def xcvState (s : State) (t : Nat) : Nat := s.fld (NETPM_XCV t) NETPM_XCV_STATE

/-- A wake of transceiver `t` counts for its regulator enable until the transceiver reaches Sleep (R381). -/
def setWoken (t : Nat) (b : Bool) (s : State) : State :=
  { s with net := { s.net with woken := if b then setBitN s.net.woken t else clrBitN s.net.woken t } }

/-- Transceiver `t` is put in state `x`; its detector is armed in Standby and Sleep with WAKE_EN (R379). -/
def setXcv (t x : Nat) (s : State) : State :=
  let u := State.setFld (NETPM_XCV t) NETPM_XCV_STATE x (if x = 0 then setWoken t false s else s)
  State.setFlag (NETPM_XCV t) NETPM_XCV_ARMED
    (decide (x < 2) && s.flag (NETPM_XCV t) NETPM_XCV_WAKE_EN) u

/-- A wake on transceiver `t` is latched in WKF (R385). -/
def latchWkf (t : Nat) (s : State) : State := State.setFlag (NETPM_XCV t) NETPM_XCV_WKF true (setWoken t true s)

/-- Bits set among the lowest `n` set bits of `m` act; the others act as 0 (R353). -/
def firstBits (m n : Nat) (c : Nat) : Bool :=
  bitOf m c && decide (((List.range c).filter (fun i => bitOf m i)).length < n)

/-- CAN channel `c` keeps its detectors in the present or coming low-power state `st` (R347, R384). -/
def pnOn (s : State) (st c : Nat) : Bool :=
  if st = 2 then firstBits (s.fld POWER_CFG POWER_CFG_PN_MOOR) 4 c
  else firstBits (s.fld POWER_CFG POWER_CFG_PN_BERTH) 2 c

/-- Selective wake is active on CAN channel `c` (R384); from the handshake of an entry on, as in its target state (R391). -/
def selectiveOn (s : State) (c : Nat) : Bool :=
  let st := if entering s && s.pow.stage != 0 then s.fld POWER_STAT POWER_STAT_TARGET else powState s
  s.flag (NETPM_PN_CFG c) NETPM_PN_CFG_PN_EN && (st < 2 || pnOn s st c)

/-- The hold-off window runs (R390). -/
def holdoffOn (s : State) : Bool := s.flag NETPM_STAT NETPM_STAT_HOLDOFF_ACT

/-- The hold-off window ends (R390). -/
def endHoldoff (s : State) : State :=
  if holdoffOn s then
    let t := State.setFlag NETPM_STAT NETPM_STAT_HOLDOFF_ACT false s
    lateEv 166 (lowestBit (s.fld NETPM_STAT NETPM_STAT_CULPRIT)) { t with net := { t.net with holdEnd := none } }
  else s

/-- The module leaves its low-power state (R347, R348): WAKE_SOURCE is recorded first, and the start that
follows is warm from Moored and cold from Berthed. -/
def doWake (kind index : Nat) (multi : Bool) (s : State) : State :=
  let w := fput WAKE_SOURCE_INDEX index (fput WAKE_SOURCE_MULTI (b2n multi) (fput WAKE_SOURCE_KIND kind 0#32))
  let t := endHoldoff { State.setReg WAKE_SOURCE w s with net := { s.net with
    holdOver := if holdoffOn s then some s.now else s.net.holdOver } }
  let moored := powState t == 2
  let p := takePending t
  let t := match p.1 with
    | some st => lateEv 249 st p.2
    | none => p.2
  let t := State.setFlag POWER_STAT POWER_STAT_TRANS false (State.setFld POWER_STAT POWER_STAT_STATE 0 t)
  { t with
    pow := { t.pow with
      stage := 0, latched := none, latchedMulti := false, runSince := s.now, late := t.pow.late ++ [(252, index)]
      wokeAt := some s.now, wokeFrom := powState s }
    net := { t.net with idDue := (if kind = 2 then some index else none), enforced := false, enfPend := false }
    inputs := Tab.map {} (Input.wake s.now) t.inputs
    start := { t.start with trigger := s.now, resDone := decide (40000 < s.sup.vres), lodgeDown := true, warmNext := moored && t.start.warmValid } }

/-- Keepers that an entry had halted are released at the next strobe (R344). -/
def releaseNext (s : State) : State :=
  (List.range 8).foldl (fun t k =>
    State.modEng k (fun g => { g with waiting := g.present, restarted := false, flight := [] }) t) s

/-- Every transceiver returns to the state that REQ selects (R379). -/
def xcvToReq (s : State) : State :=
  (List.range 18).foldl (fun t i => setXcv i (t.fld (NETPM_XCV i) NETPM_XCV_REQ) t) s

/-- An entry to a low-power state aborts before its commit point (R344, R391): ABORT_CNT and EV248, EV168
for a transceiver's wake; the Keepers are released at the next strobe. -/
def abortEntry (kind index : Nat) (s : State) : State :=
  let t := raiseEv 248 0xFFFF (State.incFld POWER_STAT POWER_STAT_ABORT_CNT s)
  let t := if kind = 2 ∨ kind = 3 then raiseEv 168 index t
    else if kind = 4 then raiseEv 168 (index + 6) t else t
  let t := if t.pow.stage = 1 then xcvToReq (releaseNext t) else t
  endTransition { t with pow := { t.pow with stage := 0 }, net := { t.net with enforced := false } }

/-- The transceivers have not reached Sleep since the commit point: 70 µs (R379, R391, R392). -/
def beforeSleep (s : State) : Bool := decide (s.now < s.pow.commitAt + 70000)

/-- The commit point falls in this very instant: its command waits behind the present one (R351). -/
def commitNext (s : State) : Bool := s.pow.stage == 1 && s.pending.contains .commitPoint

/-- The module was woken in this very instant (R347). -/
def wokenNow (s : State) : Bool := s.start.lodgeDown && s.pow.wokeAt == some s.now

/-- A wake after the commit point is latched (R344); of several in one instant the lowest KIND counts, with MULTI (R347). -/
def latchWake (kind index : Nat) (multi : Bool) (s : State) : State :=
  match s.pow.latched with
  | none => { s with pow := { s.pow with latched := some (kind, index), latchedAt := s.now, latchedMulti := multi } }
  | some (k, i) =>
    if s.pow.latchedAt ≠ s.now ∨ (k = kind ∧ i = index) then s
    else { s with pow := { s.pow with
      latched := some (if kind < k then (kind, index) else (k, i)), latchedMulti := true } }

/-- A further source in the instant in which the module was woken: MULTI, and the lowest KIND is recorded (R347). -/
def alsoWoken (kind index : Nat) (s : State) : State :=
  let k := s.fld WAKE_SOURCE WAKE_SOURCE_KIND
  let i := s.fld WAKE_SOURCE WAKE_SOURCE_INDEX
  if k = kind ∧ i = index then s
  else
    let t := State.setFlag WAKE_SOURCE WAKE_SOURCE_MULTI true s
    if k ≤ kind then t
    else
      let t := State.setFld WAKE_SOURCE WAKE_SOURCE_KIND kind (State.setFld WAKE_SOURCE WAKE_SOURCE_INDEX index t)
      { t with
        pow := { t.pow with late := t.pow.late.map (fun e => if e.1 == 252 then (252, index) else e) }
        net := { t.net with idDue := if kind = 2 then some index else none } }

/-- EV169 of a transceiver's wake between the commit point and Sleep (R392). -/
def beforeSleepEv (kind index : Nat) (s : State) : State :=
  if !beforeSleep s then s
  else if kind = 2 ∨ kind = 3 then { s with pow := { s.pow with late := s.pow.late ++ [(169, index)] } }
  else if kind = 4 then { s with pow := { s.pow with late := s.pow.late ++ [(169, index + 6)] } }
  else s

/-- A wake of `kind` with `index` (R344, R347, R351, R392): it wakes the module from a low-power state, aborts an entry
before its commit point, is latched from it on, joins a wake of the same instant, and does nothing here otherwise in
Run and Idle. -/
def wakeEvent (kind index : Nat) (multi : Bool) (s : State) : State :=
  if lowPower s then doWake kind index multi s
  else if entering s then
    if s.pow.stage < 2 ∧ commitNext s = false then abortEntry kind index s
    else latchWake kind index multi (beforeSleepEv kind index
      (if commitNext s then { s with pow := { s.pow with commitAt := s.now } } else s))
  else if wokenNow s then alsoWoken kind index s
  else s

/-- A CAN wake of channel `c` while the hold-off of R390 covers it, or in the instant in which another wake ends the
hold-off (R393). -/
def suppressed (s : State) (c : Nat) : Bool :=
  ((holdoffOn s && (match s.net.holdEnd with
    | some e => decide (s.now < e)
    | none => true)) || s.net.holdOver == some s.now) && bitOf (s.fld NETPM_STAT NETPM_STAT_CULPRIT) c

/-- A wake of a CAN channel, suppressed during the hold-off of its channel (R390). -/
def canWake (kind c : Nat) (multi : Bool) (s : State) : State :=
  if suppressed s c then lateEv 165 c (State.incFld NETPM_STAT NETPM_STAT_IGN_CNT s)
  else wakeEvent kind c multi s

/-- In Run and Idle, until the handshake of an entry, a wake on a transceiver in Standby or Sleep raises its event, which
the Harbour holds while the Lodge is silent, and may return it to Normal, but for a silent Lodge (R379, R385). -/
def runWake (t kind : Nat) (s : State) : State :=
  if powState s < 2 && s.pow.stage == 0 && !wokenNow s && xcvState s t < 2 then
    let u := dieEv 5 (158 + kind) t s
    if s.flag (NETPM_XCV t) NETPM_XCV_AUTO_NORMAL && !s.start.lodgeDown then setXcv t 3 u else u
  else s

/-! ### Bus errors of engines, and domains (R39, R349, R350) -/

/-- An event whose record the manual asks for whatever CLASS says (log entry 34). -/
def raiseEvRec (n index : Nat) (data : List Nat) (s : State) : State :=
  let t := raiseEvData n index data s
  if evOn s n && evLogs s n then t else logOther (mkRec s 1 n index data) t

/-- Master code of engine `e` (R46). -/
def engMaster (e : Nat) : Nat := if e < 8 then e + 1 else 0

/-- A bus error of `kind` by engine `e`, and its trap (R39, R270). -/
def busTrap (e a : Nat) (write : Bool) (kind : Nat) (w : Word) (s : State) : State :=
  trap e 2 w (busError (engMaster e) a write kind s)

/-- The instruction word at the program counter of engine `e`. -/
def instAt (s : State) (e : Nat) : Word := BitVec.ofNat 32 (s.bytesLE (engKey s e (s.eng e).ctx.pc.toNat) 4)

/-- An access that master `m` has open ends in a bus error of `kind`: an engine that made it takes its exception or trap
(R39, R349). -/
def engineBusError (m addr : Nat) (write : Bool) (kind : Nat) (s : State) : State :=
  let e := if m = 0 then 8 else m - 1
  if m < 9 ∧ engRuns s e then busTrap e addr write kind (instAt s e) s else busError m addr write kind s

/-- Code `d` names a domain. -/
def domExists (d : Nat) : Bool :=
  decide (d ≤ 0xD) || decide (0x10 ≤ d ∧ d ≤ 0x12) || decide (0x18 ≤ d ∧ d ≤ 0x1C)

/-- Domain `d` is to go down: at entry step 6, or by its POWER_DOMOFF bit. -/
def domGoing (s : State) (d : Nat) : Bool :=
  domExists d && (s.pow.stage == 2 || (decide (d < 14) && bitOf (s.fld POWER_DOMOFF POWER_DOMOFF_OFF) d))

/-- An enabled subsystem uses the unit of domain `d`, or the Chart holds a rule program for that Keeper
(R350). -/
def domUsed (s : State) (d : Nat) : Bool :=
  if d < 8 then (s.eng d).present
  else if d < 12 then enabled s 15 && s.flag (AQ_PCFG (d - 8)) AQ_PCFG_EN
  else if d = 12 then enabled s 16 && (List.range 2).any (fun p => s.flag (T1S_CFG p) T1S_CFG_ON)
  else enabled s 16 && (List.range 4).any (fun i => s.flag (SENT_CFG i) SENT_CFG_ON)

/-- The POWER_DOMOFF bit of domain `d` has gone from `old` to `new` (R349, R350). -/
def domBit (d : Nat) (old new : Bool) (s : State) : State :=
  if old == new then s
  else if new then
    State.modDom d (fun _ => { barred := true, start := s.now }) s
  else State.modDom d (fun x => { x with upAt := some (s.now + 100000), isolated := false }) s

/-- What a write of POWER_DOMOFF by master `m` at `full` does besides, `old` being the bits before it (R350):
bits it may not set stay 0, as a locked write. -/
def onDomoff (m full old : Nat) (v : Word) (s : State) : State :=
  let new := s.fld POWER_DOMOFF POWER_DOMOFF_OFF
  let bad := (List.range 14).filter (fun d => bitOf new d && !bitOf old d && domUsed s d)
  let kept := bad.foldl clrBitN new
  let t := State.setFld POWER_DOMOFF POWER_DOMOFF_OFF kept s
  let t := if bad = [] then t else lockViol m full v t
  (List.range 14).foldl (fun t d => domBit d (bitOf old d) (bitOf kept d) t) t

/-! ### Entering a low-power state (R345, R391) -/

/-- Transceiver `t` detects wakes in low-power state `st` (R347, R379, R391). -/
def xcvUsed (s : State) (st t : Nat) : Bool :=
  s.flag (NETPM_XCV t) NETPM_XCV_WAKE_EN &&
  (st == 2 || (decide (t < 6) && firstBits (s.fld POWER_CFG POWER_CFG_PN_BERTH) 2 t))

/-- Every transceiver goes to state `x`, armed where the target state `st` uses it (R391). -/
def xcvAll (x st : Nat) (s : State) : State :=
  (List.range 18).foldl (fun t i =>
    State.setFlag (NETPM_XCV i) NETPM_XCV_ARMED (xcvUsed s st i)
      (State.setFld (NETPM_XCV i) NETPM_XCV_STATE x (if x = 0 then setWoken i false t else t))) s

/-- In Berthed no bank is held: MOOR reads 0, the kept Pavilion channels turn off through their normal turn-off (R345,
R346), and MEAS_DIAG is lost with the bank's power (R145). -/
def turnKeptOff (s : State) : State :=
  let t := (List.range 96).foldl (fun t ch =>
    if govern t ch = ch ∧ pavState t ch ≠ pavOff then goOff ch t else t) s
  let t := (List.range 6).foldl (fun t p => State.modUv p (fun u => { u with queue := [], owing := false }) t) t
  (List.range 15).foldl (fun t b =>
    if b < 6 then dropDiag b (State.setFlag (PAV_BSTAT b) PAV_BSTAT_MOOR false t)
    else if b = 14 then State.setFlag LIGHT_BSTAT LIGHT_BSTAT_MOOR false t
    else t) t

/-- What every die does at the commit point: it accepts its moor frame (R31, R345), where its Culvert brings one (R17);
for Berthed MOOR_KEEP acts as 0,
so the sinks go dark as every sink without it does (R234, R346). -/
def moorAll (berthed : Bool) (s : State) : State :=
  let t := (List.range 5).foldl (fun t d =>
    if cvUp t d then dieMoor d (modLane d true (fun l => laneHears l t.now) (drainLane d t)) else t) s
  if berthed then
    turnKeptOff ((List.range 48).foldl (fun t k => if isColumn t k then t else ltDark k ltOff t) t)
  else t

/-- The kept sinks turn off through their normal turn-off, a fade down (R346). -/
def fadeKept (s : State) : State :=
  (List.range 48).foldl (fun t k =>
    if isDirect t k && (ltState t k == ltFadeIn || ltState t k == ltOn) then ltLeave k t t else t) s

/-- Output command registers. -/
def commandBases : List Nat := [PAV_CMD 0, SLU_CMD 0, BR_CMD 0, LC_CMD 0, BL_CMD 0, TR_CMD, FO_CMD 0]

/-- The power dies lose power in Berthed: no command outlives it, nor what the measurement units hold (R9, R147, R338,
R345). -/
def dropCommands (s : State) : State :=
  { s with
    regs := regsMap (fun a v => match regAt a with
      | some (r, _) => if commandBases.contains r.base || r.base == MEAS_IV 0 || r.base == MEAS_ARB 0 then regReset a else v
      | none => v) s.regs
    meas := { s.meas with arbs := [] } }

/-- SRAM that a low-power state does not retain loses its contents (R338, R339): bank by bank as POWER_RET
selects in Moored, all of it in Berthed. What such memory reads afterwards follows log entry 5. -/
def dropSram (keep : Nat → Bool) (s : State) : State :=
  let drop (b : Nat) (k n : Nat) (t : State) : State := if keep b then t else State.clearRange k n t
  let t := (List.range 8).foldl (fun t b => drop b (0x10000 * b) 0x10000 t) s
  let t := (List.range 4).foldl (fun t b => drop (8 + b) (0x10000000 + 0x10000 * b) 0x10000 t) t
  let t := (List.range 8).foldl (fun t k => drop (12 + k) ((k + 1) * 0x100000000) 0x10000 t) t
  let t := (List.range 8).foldl (fun t k =>
    drop (20 + k / 2) ((k + 1) * 0x100000000 + 0x10000000) 0x8000 t) t
  (List.range 16).foldl (fun t b => drop (24 + b) (0x20000000 + 0x10000 * b) 0x10000 t) t

/-- Bank `b` of the Lodge SRAM is retained in Moored (R339). -/
def retained (s : State) (b : Nat) : Bool :=
  if b < 32 then bitOf (s.fld POWER_RET_LO POWER_RET_LO_RET_LO) b
  else bitOf (s.fld POWER_RET_HI POWER_RET_HI_RET_HI) (b - 32)

/-! ### The maximum-awake timer (R388, R389) -/

/-- A session is open on some path. -/
def anySession (s : State) : Bool := s.hosts.any (fun e => sessionLevel s e.1 != 0)

/-- A local reason holds the module awake (R388). -/
def localReason (s : State) : Bool :=
  s.flag NETPM_AWAKE NETPM_AWAKE_HOLD || anySession s ||
  (List.range 4).any (fun g => (s.reg (NETPM_LOCAL g) &&& s.reg (IN_LVL g)) != 0#32)

/-- HOLDING: the channels that hold the network awake. -/
def holding (s : State) : Nat := s.fld NETPM_STAT NETPM_STAT_HOLDING

/-- The maximum-awake timer runs while no local reason holds and HOLDING is not 0, and is reset whenever
that ends; a local reason lost while HOLDING is not 0 raises EV167 (R389, R394). -/
def awakeEval (s : State) : State :=
  let loc := localReason s
  let run := !loc && holding s != 0 && enabled s 14 && s.fld NETPM_AWAKE NETPM_AWAKE_MAX_AWAKE != 0 &&
    powState s < 2
  let start := if run then (match s.net.awakeStart with | some t => some t | none => some s.now) else none
  let t := State.setFlag NETPM_STAT NETPM_STAT_TIMER run s
  let t := { t with net := { t.net with awakeStart := start, localHeld := loc } }
  if s.net.localHeld && !loc && holding s != 0 && powState s < 2 then
    raiseEv 167 (lowestBit (holding s)) t else t

/-- The low-power state that counts for a wake: the present one, the one left in this instant, or the target of an entry. -/
def wakeState (s : State) : Nat :=
  if lowPower s then powState s else if wokenNow s then s.pow.wokeFrom else s.fld POWER_STAT POWER_STAT_TARGET

/-- A request for Moored or Berthed is held while a hand-over runs (R491). -/
def heldByUpdate (s : State) (st : Nat) : Bool := s.fld UPD_STAT UPD_STAT_STATE == 4 && decide (2 ≤ st)

/-- A forwarded request is to be taken now: waterway time has reached its apply time. -/
def applies (s : State) (e : Nat × Nat) : Bool := decide (e.1 ≤ s.wwt) && !heldByUpdate s e.2

/-- Forwarded requests whose apply time waterway time has reached are taken in order of arrival (R343). -/
def applyDue (s : State) : State :=
  (s.pow.apply.filter (applies s)).foldl (fun t e => requestState e.2 t)
    { s with pow := { s.pow with apply := s.pow.apply.filter (fun e => !applies s e) } }

end Sys2Proof.Machine
end

