-- ==== Sys2Proof/Machine/LogOps.lean ====
section
/-! DEFINITION. The Logbook controller (R445 to R451). -/

namespace Sys2Proof.Machine

/-- Slots of the founding area. -/
abbrev foundSlots : Nat := 1024

/-- Slots of the running area. -/
abbrev runSlots : Nat := 31744

/-- The slot that takes the record written as number `n` since the last authorised clear, from 0 (R445). -/
def logSlot (n : Nat) : Nat := if n < foundSlots then n else foundSlots + (n - foundSlots) % runSlots

/-- The record as it stands in its slot, with its check fields (R446). -/
def recBytes (r : LogRec) : List Nat :=
  let d := (List.range 32).map (fun i => r.data.getD i 0 % 256)
  let l := leBytes 6 r.seq ++ leBytes 1 r.typ ++ leBytes 1 r.master ++ leBytes 8 r.time ++ leBytes 2 r.source ++
    leBytes 2 r.index ++ leBytes 4 r.lcc ++ d
  l ++ leBytes 4 (crcOf crcC l) ++ leBytes 4 (0xFFFFFFFF - r.seq % 2 ^ 32)

/-- The ring of MRAM words once head sequence `q` has been written into the next of them (R501). -/
def ringPut (s : State) (q : Nat) : Tab Nat := Tab.put s.rep.ring 0 (q % 1024) q

/-- A record takes the next SEQ and is written to its slot; a full founding area and a return to its first
running slot raise their events (R445, R447). -/
def logWrite (r : LogRec) (s : State) : State :=
  let n := s.rep.written
  let q := (s.rep.head + 1) % 2 ^ 48
  let t := { s with rep := { s.rep with
    head := q, ring := ringPut s q, written := n + 1, slots := Tab.put s.rep.slots {} (logSlot n) { r with seq := q } } }
  let t := if n + 1 = foundSlots then raiseEv 212 0xFFFF (State.setFlag LOG_STAT LOG_STAT_FOUND_FULL true t) else t
  if foundSlots < n ∧ logSlot n = foundSlots then raiseEv 211 0xFFFF t else t

/-- The OVERFLOW record goes into the queue as soon as it has space (R448). -/
def logOverflow (s : State) : State :=
  if s.rep.overflow = 0 ∨ 64 ≤ s.rep.queue.length then s
  else { s with rep := { s.rep with
    overflow := 0, queue := s.rep.queue ++ [mkRec s 6 0xFFFF 0xFFFF (leBytes 4 s.rep.overflow)] } }

/-- The first waiting record is written, no sooner than 500 µs after the write before it started (R448). -/
def logNext (s : State) : State :=
  match s.rep.queue with
  | [] => s
  | r :: rest =>
    if (match s.rep.lastWrite with
        | some b => decide (b + 500000 ≤ s.now)
        | none => true) then
      logWrite r (logOverflow { s with rep := { s.rep with queue := rest, lastWrite := some s.now } })
    else s

/-- The records present with SEQ at or above `start`, in SEQ order, at most `count` (R449). -/
def logRecords (s : State) (start count : Nat) : List LogRec :=
  let w := s.rep.written
  let first := s.rep.head + 1 - w
  let low := if w < foundSlots + runSlots then foundSlots else w - runSlots
  let ns := List.range (clampN 0 foundSlots w) ++ (List.range (w - low)).map (fun i => low + i)
  (ns.filterMap (fun n =>
    let r := Tab.get s.rep.slots {} (logSlot n)
    if start ≤ first + n ∧ r.seq = first + n then some r else none)).take count

/-- A clear begun from the old head is completed (R451): every slot is invalid but slot 0, which holds the
CLEAR record. -/
def logClearFrom (old : Nat) (s : State) : State :=
  let q := (old + 1) % 2 ^ 48
  let by' := match s.rep.clearAsk with
    | some (m, _) => m
    | none => 0xFF
  let r := { mkRec s 4 0xFFFF 0xFFFF (leBytes 6 old) with seq := q, master := by' }
  let t := State.setFlag LOG_STAT LOG_STAT_FOUND_FULL false s
  raiseEv 209 0xFFFF { t with rep := { t.rep with
    slots := Tab.put [] {} 0 r, head := q, ring := ringPut t q, found := q, written := 1, clearMark := none, clearAsk := none } }

/-- A clear begins (R451): it is marked with the old head, and every slot is invalidated. -/
def logClearBegins (m ref : Nat) (s : State) : State :=
  { s with rep := { s.rep with clearMark := some s.rep.head, clearAsk := some (m, ref), slots := [] } }

/-- At a start the highest word of the ring is the head (R501), and an interrupted clear is completed before any record is accepted (R451); a valid record with the next SEQ in
the slot after the head becomes the head, and a hole at the head is reported (R447). -/
def logStart (s : State) : State :=
  let s := { s with rep := { s.rep with head := highest (List.map Prod.snd (s.rep.ring : List (Nat × Nat))) } }
  match s.rep.clearMark with
  | some old => logClearFrom old s
  | none =>
    let n := s.rep.written
    if (Tab.get s.rep.slots {} (logSlot n)).seq = (s.rep.head + 1) % 2 ^ 48 then
      { s with rep := { s.rep with head := (s.rep.head + 1) % 2 ^ 48, written := n + 1 } }
    else if 0 < n ∧ (Tab.get s.rep.slots {} (logSlot (n - 1))).seq ≠ s.rep.head then raiseEv 213 0xFFFF s else s

/-- LOGBOOK_RECORD_DROP (R448): a record of a source meets the queue. -/
def logDrop (typ source index : Nat) (s : State) : State :=
  if s.rep.queue.length < 64 then s else logOther (mkRec s typ source index []) s

end Sys2Proof.Machine
end

