-- ==== Sys2Proof/Machine/Reaction.lean ====
section
/-! DEFINITION. How a command ends: the fault collector runs the reactions of what the command captured
(R440 to R444), the maximum-awake condition is evaluated (R389), and the frame of the command is fixed. -/

namespace Sys2Proof.Machine

/-- The bank that reaction 0b01 of source `n` acts on: the source's own, else the BANK field (R441). -/
def reactionBank (s : State) (n : Nat) : Nat :=
  if 8 ≤ n ∧ n < 14 then n - 8
  else if 14 ≤ n ∧ n < 18 then n - 8
  else if 18 ≤ n ∧ n < 22 then n - 8
  else if n = 22 ∨ n = 23 then 14
  else
    let b := s.fld (FAULT_CFG n) FAULT_CFG_BANK
    if b < 15 then b else 14

/-- Module limp is entered (R442): every bank applies its safe-state table at once, and every Keeper
halts; the other effects stand as long as MLIMP is 1. -/
def enterModuleLimp (s : State) : State :=
  if moduleLimp s then s
  else
    let t := (List.range 15).foldl (fun t b =>
      bankSafe b (State.setFlag (bstat b) PAV_BSTAT_SAFED true t)) s
    raiseEv 203 0xFFFF (State.setFlag FAULT_STAT FAULT_STAT_MLIMP true (haltKeepers t))

/-- The reaction of one capture (R443): safe states of the banks named, then module limp, then the Lodge
reset, which waits for the end of the window (R444). Raises while it runs fall inside the window; what is captured in one
cycle is one capture (R458). -/
def react (caps : List Nat) (s : State) : State :=
  let rs := caps.map (actingReact s)
  let ran := match sameCapture s with
    | some (_, x, _) => decide (1 ≤ x)
    | none => false
  let t := State.setFlag FAULT_STAT FAULT_STAT_REACTING true (showCapture caps (highest rs) s)
  let t := { t with rep := { t.rep with capture := [], windowEnd := s.now + 1280 } }
  let t := (caps.filter (fun n => actingReact s n == 1)).foldl (fun t n => reactBank n (reactionBank s n) t) t
  let t := if rs.contains 2 then enterModuleLimp t else t
  let t := if 1 ≤ highest rs ∧ ran = false then raiseEv 202 (lowest caps) t else t
  { t with rep := { t.rep with
      capture := [], windowEnd := s.now + 1290, resetDue := t.rep.resetDue || rs.contains 3 } }

/-- A Lodge reset whose window has reached its end tick is due (R444). -/
def resetOverdue (s : State) : Bool := s.rep.resetDue && decide (s.rep.windowEnd ≤ s.now)

/-- The Lodge reset that is overdue, where `due` says so. -/
def resetAfter (due : Bool) (s : State) : State :=
  if due then lodgeResetWarm { s with rep := { s.rep with resetDue := false } } else s

/-- The end of a command: the capture that stands runs its reaction, a Lodge reset due on the end tick of the window before
it follows, and the maximum-awake condition is evaluated. -/
def settle (s : State) : State :=
  let t := match s.rep.capture with
    | [] => s
    | c :: cs => resetAfter (resetOverdue s) (react (c :: cs) s)
  awakeEval t

/-- A command that stores to no memory ends: its effect `t` on `s`, settled; the queue, the clock and
memory stand as they were. -/
def finish (s t : State) : Host.Outcome State Fault Refusal :=
  .next { settle t with pending := s.pending, now := s.now, mem := s.mem, prev := s.regs }

/-- A command that may store to memory ends: its effect `t` on `s`, settled; the queue and the clock stand
as they were. -/
def finishMem (s t : State) : Host.Outcome State Fault Refusal :=
  .next { settle t with pending := s.pending, now := s.now, prev := s.regs }

end Sys2Proof.Machine
end

