-- ==== Sys2Proof/Machine/AqOps.lean ====
section
/-! DEFINITION. The Aqueduct: ports, barges, routing, flows and waterway time (R396 to R435). -/

namespace Sys2Proof.Machine

/-! ### Ports and the module's own identity -/

/-- Port `p` beside its registers. -/
def State.aqPort (s : State) (p : Nat) : AqPort := Tab.get s.aq.ports {} p

/-- The state with port `p` changed. -/
def State.modPort (p : Nat) (f : AqPort → AqPort) (s : State) : State :=
  { s with aq := { s.aq with ports := Tab.mod s.aq.ports {} p f } }

/-- LSTATE of port `p` (R397): 0 DOWN, 1 TRAINING, 2 HELLO, 3 UP, 4 RECOVERY, 5 VERSION. -/
def lstate (s : State) (p : Nat) : Nat := s.fld (AQ_PSTAT p) AQ_PSTAT_LSTATE

/-- LSTATE of port `p` becomes `x`. -/
def setLstate (p x : Nat) (s : State) : State := State.setFld (AQ_PSTAT p) AQ_PSTAT_LSTATE x s

/-- Port `p` carries traffic: UP, or returned to UP with tables not yet installed. -/
def portUp (s : State) (p : Nat) : Bool :=
  lstate s p == 3 || (lstate s p == 4 && (s.aqPort p).hello.isSome)

/-- Port `p` shows link: HELLO, UP or VERSION, or in recovery with a link (R397, R398). -/
def portLinked (s : State) (p : Nat) : Bool :=
  lstate s p == 2 || lstate s p == 3 || lstate s p == 5 ||
    (lstate s p == 4 && ((s.aqPort p).hello.isSome || (s.aqPort p).phy))

/-- Port `p` may send: it shows link, and not to a neighbour of another protocol (R398, R403). -/
def portSends (s : State) (p : Nat) : Bool := portLinked s p && lstate s p != 5

/-- The four ports. -/
def aqPorts : List Nat := [0, 1, 2, 3]

/-- STATE of AQ_STAT: 0 ALONE, 1 DISCOVERY, 2 RUNNING, 3 QUARANTINE. -/
def aqState (s : State) : Nat := s.fld AQ_STAT AQ_STAT_STATE

/-- The module belongs to a running waterway. -/
def aqRunning (s : State) : Bool := 2 ≤ aqState s

/-- The module's serial number as a number (R435). -/
def ownSerial : Nat := Config.serial.toNat

/-- The protocol major of the firmware in use (R399, R478). -/
def ownMajor (s : State) : Nat :=
  match Tab.get s.start.fwMajor 0 (s.fld CHECK_START CHECK_START_FSLOT) with
  | 0 => Config.aqMajor.toNat
  | n + 1 => n

/-- The lock cycle that acts, in 10 µs units (R255). -/
def lockUnits (s : State) : Nat := s.kp.lockT

/-- The lock cycle in ns. -/
def lockCycle (s : State) : Nat := lockUnits s * 10000

/-- POUND of this module. -/
def aqPound (s : State) : Nat := s.fld AQ_STAT AQ_STAT_POUND

/-! ### Topology and routes (R407, R417, R418) -/

/-- The end that module `a` names for its port `i`. -/
def endOf (t : Tab LinkState) (a i : Nat) : LinkEnd := (Tab.get t {} a).ports.getD i {}

/-- The end stands for a link in use. -/
def endUsed (e : LinkEnd) : Bool := e.naddr != 0 && (e.lstate == 3 || e.lstate == 4)

/-- Both ends name the link at port `i` of module `a` in use. -/
def linkUsed (t : Tab LinkState) (a i : Nat) : Bool :=
  let e := endOf t a i
  let o := endOf t e.naddr e.nport
  endUsed e && endUsed o && o.naddr == a && o.nport == i

/-- Links in use at module `a`: (port, neighbour). -/
def linksOf (t : Tab LinkState) (a : Nat) : List (Nat × Nat) :=
  (aqPorts.filter (fun i => linkUsed t a i)).map (fun i => (i, (endOf t a i).naddr))

/-- Modules of `l` not in `seen`, each once. -/
def newOnes (seen l : List Nat) : List Nat :=
  l.foldl (fun acc x => if seen.contains x || acc.contains x then acc else acc ++ [x]) []

/-- Hops from the modules of `front` to module `a`, searching outwards. -/
def hopSearch (t : Tab LinkState) (a fuel d : Nat) (front seen : List Nat) : Option Nat :=
  match fuel with
  | 0 => none
  | n + 1 =>
    if front.contains a then some d
    else
      let next := newOnes seen (front.flatMap (fun x => (linksOf t x).map (·.2)))
      hopSearch t a n (d + 1) next (seen ++ next)

/-- Hops between two modules. -/
def hops (t : Tab LinkState) (a b : Nat) : Option Nat := hopSearch t a 251 0 [b] [b]

/-- The better of two candidate routes: fewer hops, a tie to the lower port, which comes first. -/
def betterRoute (best : Option (Nat × Nat)) (r : Nat × Nat) : Option (Nat × Nat) :=
  match best with
  | none => some r
  | some b => if r.2 < b.2 then some r else best

/-- Egress port and hop count of the shortest route from module `a` to module `b` (R417). -/
def egress (t : Tab LinkState) (a b : Nat) : Option (Nat × Nat) :=
  if a = b then none
  else ((linksOf t a).filterMap (fun l => (hops t l.2 b).map (fun h => (l.1, h + 1)))).foldl betterRoute none

/-- What this module says of its own ports (R407). -/
def ownLinks (s : State) : LinkState :=
  { lseq := s.aq.lseq, serial := ownSerial,
    ports := aqPorts.map (fun p =>
      if (s.aqPort p).hello.isSome then
        { naddr := s.fld (AQ_PSTAT p) AQ_PSTAT_NADDR, nport := s.fld (AQ_PSTAT p) AQ_PSTAT_NPORT, lstate := lstate s p }
      else { lstate := lstate s p }) }

/-- The link states of the waterway, this module's own among them. -/
def topology (s : State) : Tab LinkState :=
  if aqAddr s = 0 then s.aq.links else Tab.put s.aq.links {} (aqAddr s) (ownLinks s)

/-- The module whose serial number is the root's. -/
def rootAddr (s : State) : Option Nat :=
  match s.aq.rootSerial with
  | none => none
  | some r => ((topology s).find? (fun e => e.2.serial == r)).map (·.1)

/-- AQ_ROUTE of address `a`: (egress port, hops) where valid. -/
def routeTo (s : State) (a : Nat) : Option (Nat × Nat) :=
  if a = 0 ∨ 250 < a then none
  else
    let w := s.reg (AQ_ROUTE (a - 1))
    if fget AQ_ROUTE_VALID w = 1 then some (fget AQ_ROUTE_PORT w, fget AQ_ROUTE_HOPS w) else none

/-- The barges that start at module `src` and go to more than one module leave module `a` by port `i`: the
neighbour's route to `src` comes back through it (R418). -/
def treeLeaves (t : Tab LinkState) (src a i : Nat) : Bool :=
  linkUsed t a i &&
  (match egress t (endOf t a i).naddr src with
    | some (q, _) => q == (endOf t a i).nport
    | none => false)

/-- The route from module `x` to module `dst`, as (module, egress port). -/
def routeWalk (t : Tab LinkState) (dst fuel x : Nat) : List (Nat × Nat) :=
  match fuel with
  | 0 => []
  | n + 1 =>
    match egress t x dst with
    | none => []
    | some (p, _) => (x, p) :: routeWalk t dst n (endOf t x p).naddr

/-- Flow `f` of the plan leaves module `a` by port `i` in topology `t`. -/
def flowLeaves (t : Tab LinkState) (f : PlanFlow) (a i : Nat) : Bool :=
  if f.dkind = 0 then (routeWalk t f.dst 32 f.src).contains (a, i)
  else (f.src == a || (egress t a f.src).isSome) && treeLeaves t f.src a i

/-- Class L load of port `i` of module `a`, in 10 ns units (R430). -/
def classLoad (t : Tab LinkState) (plan : FabricPlan) (a i : Nat) : Nat :=
  ((plan.flows.filter (fun f => f.cls == 0 && flowLeaves t f a i)).map (fun f => (40 + 4 * f.nv) * 8)).sum

/-- AQ_ROUTE of address `a` takes the shortest route of topology `t` (R417). -/
def installRoute (t : Tab LinkState) (a : Nat) (s : State) : State :=
  let e := if (Tab.find t a).isSome then egress t (aqAddr s) a else none
  match e with
  | none => State.setReg (AQ_ROUTE (a - 1)) 0#32 s
  | some (p, h) =>
    State.setReg (AQ_ROUTE (a - 1))
      (fput AQ_ROUTE_VALID 1 (fput AQ_ROUTE_PORT p (fput AQ_ROUTE_HOPS h 0#32))) s

/-- LLOAD of every port for the present routes (R430): what leaves through it (log entry 61). -/
def showLoads (s : State) : State :=
  let t := topology s
  aqPorts.foldl (fun u p =>
    State.setFld (AQ_PLOAD p) AQ_PLOAD_LLOAD (clampN 0 0xFFFF (classLoad t u.aq.plan (aqAddr u) p)) u) s

/-- The routing table is computed and installed; NMOD and LLOAD follow it (R417, R430). -/
def installRoutes (s : State) : State :=
  let t := topology s
  let u := (List.range 250).foldl (fun u a => installRoute t (a + 1) u) s
  let n := ((List.range 250).filter (fun a => (routeTo u (a + 1)).isSome)).length
  showLoads (State.setFld AQ_STAT AQ_STAT_NMOD (n + 1) u)

/-- The sorted link list of the topology, each link from its lower end. -/
def linkList (t : Tab LinkState) : List Nat :=
  t.flatMap (fun e => (linksOf t e.1).flatMap (fun l =>
    if e.1 < l.2 then [e.1, l.1, l.2, (endOf t e.1 l.1).nport] else []))

/-! ### Queues and sending (R399 to R402, R418, R420) -/

/-- A barge of this module. -/
def mkBarge (s : State) (cls dkind typ dst flow : Nat) (payload : List Nat) : Barge :=
  { ver := ownMajor s, cls := cls, dkind := dkind, typ := typ, dst := dst, src := aqAddr s, flow := flow,
    payload := payload }

/-- A link-local control barge (R404). -/
def localBarge (s : State) (typ flow : Nat) (payload : List Nat) : Barge :=
  { mkBarge s 1 0 typ 0 flow payload with hops := 1 }

/-- A control barge of class F (R401). -/
def Barge.control (b : Barge) : Bool := decide (0x10 ≤ b.typ ∧ b.typ ≤ 0x1B)

/-- A barge joins the queue of its class at port `p` (R402). -/
def queueBarge (p : Nat) (b : Barge) (s : State) : State :=
  let q := s.aqPort p
  match b.cls with
  | 0 =>
    if q.ql.any (fun x => x.src == b.src && x.flow == b.flow) then
      raiseEv 189 p (State.incFld (AQ_PCNT p) AQ_PCNT_LREPL (State.modPort p (fun x => { x with
        ql := x.ql.map (fun y => if y.src = b.src ∧ y.flow = b.flow then b else y) }) s))
    else State.modPort p (fun x => { x with ql := x.ql ++ [b] }) s
  | 1 =>
    if q.qf.length < 64 then State.modPort p (fun x => { x with qf := x.qf ++ [b] }) s
    else State.incFld (AQ_PCNT p) AQ_PCNT_QDROP s
  | _ =>
    if q.qt.length < 32 then State.modPort p (fun x => { x with qt := x.qt ++ [b] }) s
    else State.incFld (AQ_PCNT p) AQ_PCNT_QDROP s

/-- A barge without a route or without hops left is dropped (R420). -/
def dropBarge (b : Barge) (s : State) : State :=
  raiseEv 190 b.dst (State.incFld AQ_LCNT AQ_LCNT_DROP_NR s)

/-- A barge goes to one module by the routing table (R417, R420). -/
def routeBarge (b : Barge) (s : State) : State :=
  match routeTo s b.dst with
  | some (p, _) => queueBarge p b s
  | none => dropBarge b s

/-- A barge goes on along the tree of its source, not back out of port `skip` (R418). -/
def spreadBarge (b : Barge) (skip : Option Nat) (s : State) : State :=
  let t := topology s
  aqPorts.foldl (fun u p =>
    if portUp u p && some p != skip && treeLeaves t b.src (aqAddr u) p then queueBarge p b u else u) s

/-- A barge that has arrived on port `p` goes on from this module along the tree of its source (R418). -/
def spreads (s : State) (b : Barge) (p : Nat) : Bool :=
  aqPorts.any (fun q => portUp s q && q != p && treeLeaves (topology s) b.src (aqAddr s) q)

/-- A flooded control barge of module `src` leaves by port `q` (R404, R418): in a running waterway along the tree of its
source, and over a link that the tables do not hold yet; during discovery, before routes exist, on every UP port (log
entry 32). -/
def floodLeaves (s : State) (src q : Nat) : Bool :=
  portUp s q && (!(aqRunning s && (src == aqAddr s || (routeTo s src).isSome)) ||
    treeLeaves (topology s) src (aqAddr s) q || !linkUsed (topology s) (aqAddr s) q)

/-- A flooded control barge of module `src` is taken from port `p` (R418): in a running waterway only from the port of the
route to its source, where there is one (log entry 32). -/
def floodTakes (s : State) (src p : Nat) : Bool :=
  match routeTo s src with
  | some (q, _) => !aqRunning s || q == p
  | none => true

/-- A barge is flooded, not back out of port `skip` (R404, R412, R418). -/
def floodBarge (b : Barge) (skip : Option Nat) (s : State) : State :=
  aqPorts.foldl (fun u p => if floodLeaves s b.src p && some p != skip then queueBarge p b u else u) s

/-- A flooded barge that has arrived on port `p` goes on with one hop less; one whose HOPS reaches 0 is dropped
(R418, R420). -/
def reflood (b : Barge) (p : Nat) (s : State) : State :=
  if !aqPorts.any (fun q => floodLeaves s b.src q && q != p) then s
  else if b.hops ≤ 1 then dropBarge b s
  else floodBarge { b with hops := b.hops - 1 } (some p) s

/-- The next SEQ of a flow of this module (R421). -/
def withSeq (b : Barge) (s : State) : Barge × State :=
  let n := Tab.get s.aq.txSeq 0 b.flow
  ({ b with seq := n }, { s with aq := { s.aq with txSeq := Tab.put s.aq.txSeq 0 b.flow ((n + 1) % 65536) } })

/-- A barge of this module leaves for its destination, numbered in its flow; a quarantined module sends class T
only (R415, R421). -/
def sendBarge (b : Barge) (s : State) : State :=
  if aqState s = 3 ∧ b.cls ≠ 2 then s
  else
    let r := withSeq b s
    if b.dkind = 0 then routeBarge r.1 r.2 else spreadBarge r.1 none r.2

/-- Bytes of fragment `i` of a barge: 64 payload bytes, or the rest (R400). -/
def fragments (b : Barge) : Nat := (b.payload.length + 63) / 64

/-- A stamp of the wire has a resolution of 8 ns (R426); it shows the last full 8 ns (log entry 61). -/
def wireStamp (t : Nat) : Nat := t / 8 * 8

/-- What a port stamps into a barge as it leaves (R399, R408). -/
def stampBarge (s : State) (b : Barge) : Barge :=
  { b with
    stamp := s.wwt % 2 ^ 32
    payload := if b.typ = 0x1B then b.payload.take 12 ++ leBytes 8 (wireStamp s.wwt) else b.payload }

/-- `stampBarge` at port `p`: a FOLLOW, whose STAMP holds until then when it was queued, tells the time at which its SYNC
left, so that the time which that SYNC waited counts (R408, R426). -/
def stampOn (p : Nat) (s : State) (b : Barge) : Barge :=
  if b.typ = 0x19 then
    let waited := (s.aqPort p).syncAt - b.stamp
    stampBarge s { b with
      payload := b.payload.take 4 ++ leBytes 8 (wireStamp (leNat ((b.payload.drop 4).take 8) + waited)) }
  else stampBarge s b

/-- The first control barge of a class F queue, else its first barge, and the queue without it (R401). -/
def pickF (l : List Barge) : Option (Barge × List Barge) :=
  match l.find? (fun b => b.control) with
  | some b => some (b, l.erase b)
  | none =>
    match l with
    | [] => none
    | b :: rest => some (b, rest)

/-- Bytes that fragment `i` of barge `b` takes on the wire, preamble and idle bytes among them (R400). -/
def wireBytes (i : Nat) (b : Barge) : Nat :=
  (if i = 0 then 40 else 28) + clampN 0 64 (b.payload.length - 64 * i)

/-- Fragment `i` of barge `b` leaves port `p`, whose line it holds for 80 ns a byte (R400). -/
def emit (p i : Nat) (b : Barge) (s : State) : State :=
  State.send (.barge p i b) (State.modPort p (fun x => { x with lastTx := s.now + 80 * wireBytes i b }) s)

/-- Port `p` is at a fragment boundary, or its line is idle (R401). -/
def lineFree (s : State) (p : Nat) : Bool := decide ((s.aqPort p).lastTx ≤ s.now)

/-- Class F has something to send at port `p`. -/
def fWaits (q : AqPort) : Bool := q.txF.isSome || !q.qf.isEmpty

/-- Class T has something to send at port `p`. -/
def tWaits (q : AqPort) : Bool := q.txT.isSome || !q.qt.isEmpty

/-- The next fragment of class F (R400, R401), a control barge ahead of what is left of another; it counts while T barges
wait. -/
def sendF (p : Nat) (s : State) : State :=
  let q := s.aqPort p
  let count := fun (u : State) => State.modPort p (fun x => { x with waitT := if tWaits x then x.waitT + 1 else 0 }) u
  match (if q.qf.any (fun b => b.control) then none else q.txF) with
  | some (b, i) =>
    count (emit p i b (State.modPort p (fun x => { x with
      txF := if i + 1 < fragments b then some (b, i + 1) else none }) s))
  | none =>
    match pickF q.qf with
    | none => s
    | some (b, rest) =>
      let c := stampOn p s b
      count (emit p 0 c (State.modPort p (fun x => { x with
        syncAt := if b.typ = 0x18 then s.now else x.syncAt, qf := rest, txF := if 1 < fragments c then some (c, 1) else x.txF }) s))

/-- The next fragment of class T (R400, R401). -/
def sendT (p : Nat) (s : State) : State :=
  let q := s.aqPort p
  match q.txT with
  | some (b, i) =>
    emit p i b (State.modPort p (fun x => { x with
      waitT := 0, txT := if i + 1 < fragments b then some (b, i + 1) else none }) s)
  | none =>
    match q.qt with
    | [] => s
    | b :: rest =>
      let c := stampBarge s b
      emit p 0 c (State.modPort p (fun x => { x with
        waitT := 0, qt := rest, txT := if 1 < fragments c then some (c, 1) else none }) s)

/-- A fragment boundary or an idle line at port `p`: L, then F, then T, with T taking the 16th fragment
(R401). -/
def transmit (p : Nat) (s : State) : State :=
  let q := s.aqPort p
  match q.ql with
  | b :: rest => emit p 0 (stampBarge s b) (State.modPort p (fun x => { x with ql := rest }) s)
  | [] =>
    if tWaits q && (!fWaits q || decide (15 ≤ q.waitT)) then sendT p s
    else if fWaits q then sendF p s
    else s

/-! ### Link state and recovery (R407, R419) -/

/-- The payload of a LINKSTATE barge (R407). -/
def linkPayload (a : Nat) (x : LinkState) : List Nat :=
  [a, 0] ++ leBytes 2 x.lseq ++ leBytes 8 x.serial ++
  aqPorts.flatMap (fun i => let e := x.ports.getD i {}; [e.naddr, e.nport, e.lstate, 0])

/-- This module floods its link state with a rising number. -/
def floodLinks (s : State) : State :=
  let t := { s with aq := { s.aq with lseq := (s.aq.lseq + 1) % 65536 } }
  floodBarge (mkBarge t 1 2 0x13 0 0xF0 (linkPayload (aqAddr t) (ownLinks t))) none t

/-- Tables are being recomputed (R419); they are installed at once, and RECOV stands until the recovery
completes. -/
def recover (s : State) : State :=
  let t := State.setFlag AQ_STAT AQ_STAT_RECOV true s
  installRoutes { t with aq := { t.aq with recovEnd := s.now + 2000000 } }

/-- Port `p` has exchanged HELLO with a compatible neighbour and reaches UP (R397, R419). -/
def portRises (p : Nat) (s : State) : State :=
  let t := raiseEv 176 p s
  if aqRunning s then recover (floodLinks (setLstate p 4 t)) else setLstate p 3 t

/-- Where port `p` stands without link (R397). -/
def downState (s : State) (p : Nat) : Nat :=
  if !s.flag (AQ_PCFG p) AQ_PCFG_EN then 0 else if (s.aqPort p).phy then 2 else 1

/-- Where port `p` stands once it has been declared down: DOWN, until its PHY shows link again (R397). -/
def fallenState (s : State) (p : Nat) : Nat := if s.flag (AQ_PCFG p) AQ_PCFG_EN && (s.aqPort p).phy then 2 else 0

/-- Port `p` is declared down (R398, R419): what it was sending is lost. -/
def portFalls (p : Nat) (s : State) : State :=
  let t := State.modPort p (fun x => { x with hello := none, txF := none, txT := none, rxF := none, rxT := none }) s
  let t := State.setFlag (AQ_PSTAT p) AQ_PSTAT_DOWNSEEN true t
  let t := raiseFault (48 + p) (raiseEv 177 p t)
  if aqRunning s then recover (floodLinks (setLstate p 4 t)) else setLstate p (fallenState t p) t

/-- The window of port `p` since its last valid barge has reached its end tick (R398). -/
def windowOver (s : State) (p : Nat) : Bool := decide ((s.aqPort p).lastRx + 400000 ≤ s.now)

/-- Port `p` loses its PHY link, or reaches the end tick of its 400 µs window (R398). -/
def linkLost (p : Nat) (phyLost : Bool) (s : State) : State :=
  let t := if phyLost then State.modPort p (fun x => { x with phy := false }) s else s
  if portUp s p then
    if phyLost || windowOver s p then
      portFalls p (State.modPort p (fun x => { x with phy := false }) t)
    else t
  else if phyLost ∧ (lstate s p = 2 ∨ lstate s p = 5) then
    setLstate p (downState t p) (State.modPort p (fun x => { x with hello := none }) t)
  else t

/-- What a valid barge makes port `p` do, `act`; it opens the window of the port again, and one that comes on the end tick
or later finds the link declared down (R398, R433). -/
def portHears (p : Nat) (act : State → State) (s : State) : State :=
  if portUp s p && windowOver s p then linkLost p false s
  else act (State.modPort p (fun x => { x with lastRx := s.now }) s)

/-- Every module has installed its table (R419). -/
def recovered (s : State) : State :=
  let t := aqPorts.foldl (fun u p =>
    if lstate u p = 4 then setLstate p (if (u.aqPort p).hello.isSome then 3 else fallenState u p) u else u) s
  let t := State.setFlag AQ_STAT AQ_STAT_RECOV false t
  raiseEv 178 0xFFFF (State.incFld AQ_LCNT AQ_LCNT_RECOMP (installRoutes t))

/-- A LINKSTATE of module `a` is newer than the one known (R407, R419). -/
def linkNewer (s : State) (a : Nat) (x : LinkState) : Bool :=
  match Tab.find s.aq.links a with
  | none => true
  | some o => let d := (x.lseq + 65536 - o.lseq % 65536) % 65536; decide (1 ≤ d ∧ d ≤ 32767)

/-- A LINKSTATE barge arrives on port `p` (R419). -/
def linkArrives (p a : Nat) (x : LinkState) (hops : Nat) (s : State) : State :=
  if portUp s p = false ∨ a = 0 ∨ a = aqAddr s ∨ floodTakes s a p = false ∨ linkNewer s a x = false then s
  else
    let t := { s with aq := { s.aq with links := Tab.put s.aq.links {} a x } }
    let b := { mkBarge t 1 2 0x13 0 0xF0 (linkPayload a x) with src := a }
    let t := reflood { b with hops := hops } p t
    if aqRunning t then recover t else installRoutes t

/-! ### HELLO, TREE and ADDR (R405, R406, R412 to R414) -/

/-- Candidate (ROOT_EN, serial) ranks before another (R405). -/
def ranksBefore (en : Bool) (serial : Nat) (en' : Bool) (serial' : Nat) : Bool :=
  (en && !en') || (en == en' && decide (serial < serial'))

/-- The best root candidate that this module knows: (ROOT_EN, serial, hops), itself where it heard of none. -/
def candidate (s : State) : Bool × Nat × Nat :=
  match s.aq.rootSerial with
  | some r => (s.aq.rootEn, r, s.aq.rootHops)
  | none => (s.flag AQ_CFG AQ_CFG_ROOT_EN, ownSerial, 0)

/-- The module is the root (R413). -/
def isRoot (s : State) : Bool := (candidate s).2.1 == ownSerial

/-- The first UP port whose neighbour belongs to a running waterway (R405, R415). -/
def runningPort (s : State) : Option Nat :=
  aqPorts.find? (fun p => portUp s p && (match (s.aqPort p).hello with
    | some x => bitOf x.flags 1
    | none => false))

/-- What this module says of itself in a HELLO on port `p` (R405). -/
def ownHello (s : State) (p : Nat) : Hello :=
  let c := candidate s
  { serial := ownSerial
    flags := b2n (s.flag AQ_CFG AQ_CFG_ROOT_EN) + 2 * b2n (aqRunning s) + 4 * b2n c.1
    major := ownMajor s, lockCyc := lockUnits s, state := aqState s, port := p, addr := aqAddr s
    pound := if aqAddr s = 0 then 0xFF else aqPound s
    plan := s.aq.plan.digest, rootSerial := c.2.1, rootHops := c.2.2, topo := (s.reg AQ_TOPO).toNat
    chartVer := (s.reg CHECK_CHARTVER).toNat, fwVer := (s.reg CHECK_FWVER).toNat }

/-- The four bytes of a version: major, minor, patch (R305, R337). -/
def verBytes (w : Nat) : List Nat := [w / 2 ^ 24 % 256, w / 2 ^ 16 % 256] ++ leBytes 2 w

/-- The payload of a HELLO barge (R405). -/
def helloPayload (x : Hello) : List Nat :=
  leBytes 8 x.serial ++ [x.flags, x.major] ++ leBytes 2 x.lockCyc ++ [x.state, x.port, x.addr, x.pound] ++
  leBytes 8 x.plan ++ leBytes 8 x.rootSerial ++ [x.rootHops, 0, 0, 0] ++ leBytes 4 x.topo ++
  verBytes x.chartVer ++ verBytes x.fwVer

/-- The number in `n` bytes of a list from byte `i`. -/
def leAt (l : List Nat) (i n : Nat) : Nat := leNat ((l.drop i).take n)

/-- The version that four bytes of a list spell, in the layout of CHECK_CHARTVER. -/
def verIn (l : List Nat) (i : Nat) : Nat := leAt l i 1 * 2 ^ 24 + leAt l (i + 1) 1 * 2 ^ 16 + leAt l (i + 2) 2

/-- The HELLO that a payload spells. -/
def helloOf (l : List Nat) : Hello :=
  { serial := leAt l 0 8, flags := leAt l 8 1, major := leAt l 9 1, lockCyc := leAt l 10 2, state := leAt l 12 1,
    port := leAt l 13 1, addr := leAt l 14 1, pound := leAt l 15 1, plan := leAt l 16 8, rootSerial := leAt l 24 8,
    rootHops := leAt l 32 1, topo := leAt l 36 4, chartVer := verIn l 40, fwVer := verIn l 44 }

/-- A HELLO goes out on port `p`. -/
def sendHello (p : Nat) (s : State) : State :=
  queueBarge p (localBarge s 0x10 0xF0 (helloPayload (ownHello s p)))
    (State.modPort p (fun x => { x with nextHello := s.now + 1000000 }) s)

/-- A HELLO is due on port `p`: it shows link, 1 ms has passed since the last one, and none waits in its queue (R412). -/
def helloDue (s : State) (p : Nat) : Bool :=
  portSends s p && decide ((s.aqPort p).nextHello ≤ s.now) && !(s.aqPort p).qf.any (fun b => b.typ == 0x10)

/-- From link up a port sends a HELLO every 1 ms (R412), in which candidates go on and a neighbour's topology digest is
reported (R405, R416). -/
def hellosDue (s : State) : State := aqPorts.foldl (fun t p => if helloDue t p then sendHello p t else t) s

/-- A HELLO goes out on every port that shows link (R412). -/
def helloAll (s : State) : State :=
  aqPorts.foldl (fun t p => if portSends t p then sendHello p t else t) s

/-- The root candidate of a HELLO is adopted (R405); the module is the root no longer where it was (R412, R413). -/
def adopt (x : Hello) (s : State) : State :=
  let c := candidate s
  State.setFlag AQ_STAT AQ_STAT_ROOT (x.rootSerial == ownSerial) { s with aq := { s.aq with
    rootSerial := some x.rootSerial, rootEn := bitOf x.flags 2, rootHops := x.rootHops + 1
    candAt := if x.rootSerial = c.2.1 then s.aq.candAt else s.now } }

/-- A root candidate heard from a neighbour (R405): after discovery the root stands; beside a running waterway its root
counts, whatever its rank (R415); else a better one is adopted, or the same one over fewer hops. -/
def hearCandidate (x : Hello) (s : State) : State :=
  let c := candidate s
  let same := x.rootSerial = c.2.1 ∧ x.rootSerial ≠ ownSerial
  if aqRunning s then s
  else if bitOf x.flags 1 then (if same ∧ c.2.2 ≤ x.rootHops + 1 then s else adopt x s)
  else if (runningPort s).isSome then s
  else if ranksBefore (bitOf x.flags 2) x.rootSerial c.1 c.2.1 = false ∧ ¬ (same ∧ x.rootHops + 1 < c.2.2) then s
  else adopt x s

/-- The protocol majors of both ends allow traffic (R403). -/
def majorsMeet (s : State) (m : Nat) : Bool := decide (m ≤ ownMajor s + 1 ∧ ownMajor s ≤ m + 1)

/-- A HELLO of a neighbour arrives on port `p` (R397, R403, R405). -/
def helloArrives (p : Nat) (x : Hello) (s : State) : State :=
  if lstate s p < 2 ∨ (lstate s p = 4 ∧ (s.aqPort p).phy = false) then s
  else
    let t := State.setFld (AQ_PSTAT p) AQ_PSTAT_NADDR x.addr (State.setFld (AQ_PSTAT p) AQ_PSTAT_NPORT x.port s)
    if majorsMeet s x.major then
      let t := hearCandidate x (State.modPort p (fun q => { q with hello := some x }) t)
      let t := if bitOf x.flags 1 ∧ x.addr ≠ 0 ∧ aqRunning s = false then
          { t with aq := { t.aq with claims := Tab.put t.aq.claims 0 x.addr (x.serial + 1) } }
        else t
      if lstate s p = 2 ∨ lstate s p = 5 ∨ (s.aqPort p).hello.isNone then portRises p t else t
    else if lstate s p = 5 then t
    else
      let t := State.modPort p (fun q => { q with hello := none }) t
      raiseEv 183 p (State.setFlag (AQ_PSTAT p) AQ_PSTAT_VERSEEN true (setLstate p 5 t))

/-- Hop `k` of a path (R406). -/
def pathHop (path k : Nat) : Nat := path / 4 ^ k % 4

/-- Path `a` takes the lower port at the first hop where it differs from `b`. -/
def pathBefore (len a b : Nat) : Bool :=
  match (List.range len).find? (fun k => pathHop a k != pathHop b k) with
  | some k => decide (pathHop a k < pathHop b k)
  | none => false

/-- A TREE is better than the one kept: fewer hops, then the lower ports (R406). -/
def treeBetter (s : State) (len path : Nat) : Bool :=
  match s.aq.tree with
  | none => true
  | some (l, q) => decide (len < l) || (len == l && pathBefore len path q)

/-- The module's position shows in AQ_POS (R413). -/
def showPos (len path : Nat) (s : State) : State :=
  State.setReg AQ_POS_LO (BitVec.ofNat 32 path)
    (State.setReg AQ_POS_HI (fput AQ_POS_HI_LEN len (fput AQ_POS_HI_PATH_HI (path / 2 ^ 32) 0#32)) s)

/-- The payload of a TREE barge (R406). -/
def treePayload (root len path : Nat) : List Nat := leBytes 8 root ++ [len, 0, 0, 0] ++ leBytes 8 path

/-- The source whose tree a TREE of `root` follows: the root's address, or 0 before it has one (R418). -/
def treeSource (s : State) (root : Nat) : Nat := (((topology s).find? (fun e => e.2.serial == root)).map (·.1)).getD 0

/-- TREE goes on from a module `len` hops from the root, each port written into the path (R406): the root, whose own LEN is
0, writes the port as every module does, so that a path begins with the root's egress port (log entry 61). HOPS is 31 at
the root and one less at each further hop (R420). -/
def treeOn (root len path : Nat) (skip : Option Nat) (s : State) : State :=
  aqPorts.foldl (fun t q =>
    if floodLeaves s (treeSource s root) q && some q != skip then
      queueBarge q { mkBarge t 1 2 0x11 0 0xF0 (treePayload root (len + 1) (path + q * 4 ^ len)) with hops := 31 - len } t
    else t) s

/-- A TREE barge arrives on port `p` (R406, R413): LEN counts the hops to this module; beyond 29 hops it takes
no address. -/
def treeArrives (p root len path : Nat) (s : State) : State :=
  if 29 < len ∨ portUp s p = false ∨ (candidate s).2.1 ≠ root ∨ floodTakes s (treeSource s root) p = false ∨
      treeBetter s len path = false then s
  else
    let t := { s with aq := { s.aq with tree := some (len, path) } }
    treeOn root len path (some p) (showPos len path t)

/-- The path entry of the plan for a position (R414). -/
def planEntry (s : State) (len path : Nat) : Option PathEntry :=
  s.aq.plan.paths.find? (fun e => e.len == len && e.path % 4 ^ len == path % 4 ^ len)

/-- Address `a` is claimed by another module. -/
def heldByOther (s : State) (a : Nat) : Bool :=
  let c := Tab.get s.aq.claims 0 a
  c != 0 && c != ownSerial + 1

/-- Address `a` is claimed by a module of a lower serial number (R414). -/
def heldByLower (s : State) (a : Nat) : Bool :=
  let c := Tab.get s.aq.claims 0 a
  c != 0 && decide (c < ownSerial + 1)

/-- The lowest free spare address (R414). -/
def spareAddr (s : State) : Nat :=
  (((List.range 10).map (fun i => 241 + i)).find? (fun a => !heldByOther s a)).getD 0

/-- The module takes address `a` in pound `pd` and claims it. -/
def takeAddr (a pd : Nat) (s : State) : State :=
  let t := State.setFld AQ_STAT AQ_STAT_ADDR a (State.setFld AQ_STAT AQ_STAT_POUND pd s)
  { t with aq := { t.aq with claims := Tab.put t.aq.claims 0 a (ownSerial + 1) } }

/-- The module takes a spare address and pound 0xF. -/
def takeSpare (s : State) : State := takeAddr (spareAddr s) 0xF s

/-- The module takes the entry of the plan for its path, or a spare address, also where a module of a lower serial number
has claimed that entry (R414). -/
def takePlanned (s : State) : State :=
  match s.aq.tree with
  | none => s
  | some (len, path) =>
    match planEntry s len path with
    | some e => if heldByLower s e.addr then takeSpare (raiseEv 180 e.addr s) else takeAddr e.addr e.pound s
    | none => takeSpare s

/-- The payload of an ADDR barge (R406). -/
def addrPayload (serial a pd len flags path : Nat) : List Nat :=
  leBytes 8 serial ++ [a, pd, len, flags] ++ leBytes 8 path

/-- The module floods its address with its serial number (R412). -/
def floodAddr (s : State) : State :=
  let pos := s.aq.tree.getD (0, 0)
  let spare := decide (241 ≤ aqAddr s)
  floodBarge (mkBarge s 1 2 0x12 0 0xF0
    (addrPayload ownSerial (aqAddr s) (aqPound s) pos.1 (b2n (!spare) + 2 * b2n spare) pos.2)) none s

/-- At the root, a spare address claimed in a running waterway by a module that stands in quarantine (R415): EV181 where the
plan's address for its path is held by another, EV184 where that address is free, or a neighbour shows the module's plan
digest to differ; a module whose path has no entry is not quarantined (log entry 61). -/
def rootSees (serial a len flags path : Nat) (s : State) : State :=
  if s.flag AQ_STAT AQ_STAT_ROOT ∧ aqState s = 2 ∧ bitOf flags 1 then
    let differs := aqPorts.any (fun p => match (s.aqPort p).hello with
      | some x => x.serial == serial && x.plan != s.aq.plan.digest
      | none => false)
    match planEntry s len path with
    | some e =>
      let c := Tab.get s.aq.claims 0 e.addr
      raiseEv (if c ≠ 0 ∧ c ≠ serial + 1 then 181 else 184) a s
    | none => if differs then raiseEv 184 a s else s
  else s

/-- The module's address turns out to be held by a module that ran before it joined (R415, R433): quarantine. -/
def joinQuarantine (s : State) : State :=
  let t := State.setFld AQ_STAT AQ_STAT_STATE 3 (takeSpare { s with aq := { s.aq with quarCause := 1 } })
  floodAddr (raiseFault 52 (raiseEv 182 (aqAddr t) t))

/-- Another module claims this module's address (R414, R415, R433): at discovery the lower serial number keeps it and
floods its claim; in a running waterway the holder keeps it, and a joiner that is still starting yields. -/
def addrMeets (serial a : Nat) (s : State) : State :=
  let other : State := { s with aq := { s.aq with claims := Tab.put s.aq.claims 0 a (serial + 1) } }
  if aqRunning s then
    if s.fld CHECK_START CHECK_START_STATE ≠ 0 ∧ aqState s = 2 then joinQuarantine other else floodAddr s
  else
    let t := raiseEv 180 a s
    floodAddr (if serial < ownSerial then
      takeSpare { t with aq := { t.aq with claims := Tab.put t.aq.claims 0 a (serial + 1) } } else t)

/-- An ADDR barge arrives on port `p` (R414, R418): of two claims of one address the lower serial number keeps it. -/
def addrArrives (p serial a pd len flags path hops : Nat) (s : State) : State :=
  let known := Tab.get s.aq.claims 0 a
  if portUp s p = false ∨ serial = ownSerial ∨ known = serial + 1 ∨ floodTakes s a p = false then s
  else
    let b := { mkBarge s 1 2 0x12 0 0xF0 (addrPayload serial a pd len flags path) with src := a }
    let t := reflood { b with hops := hops } p s
    let t := rootSees serial a len flags path t
    if a = aqAddr s ∧ a ≠ 0 then addrMeets serial a t
    else if known = 0 ∨ serial + 1 < known then
      { t with aq := { t.aq with claims := Tab.put t.aq.claims 0 a (serial + 1) } }
    else t

/-! ### Waterway time (R426 to R429) -/

/-- LCC takes the number of the strobe that waterway time has reached (R429). -/
def setLccByTime (s : State) : State := State.setReg KEEPER_LCC (BitVec.ofNat 32 (s.wwt / lockCycle s)) s

/-- The port of the route to the root (R426). -/
def parentPort (s : State) : Option Nat :=
  match rootAddr s with
  | none => none
  | some a => (routeTo s a).map (·.1)

/-- The start has not reached RUN (R337). -/
def starting (s : State) : Bool := s.fld CHECK_START CHECK_START_STATE != 0

/-- Port `p` gives the time: the parent port; during a start any UP port whose neighbour runs (log entry 33). -/
def givesTime (s : State) (p : Nat) : Bool :=
  portUp s p && (parentPort s == some p || (starting s && parentPort s == none))

/-- SYNC and FOLLOW leave every UP port but one (R426, R408). -/
def syncOn (depth time : Nat) (skip : Option Nat) (s : State) : State :=
  let n := s.aq.sseq
  let t := { s with aq := { s.aq with sseq := (n + 1) % 65536 } }
  aqPorts.foldl (fun u p =>
    if portUp u p && some p != skip then
      queueBarge p { localBarge u 0x19 0xF1 (leBytes 2 n ++ [depth, 0] ++ leBytes 8 time) with stamp := s.now }
        (queueBarge p (localBarge u 0x18 0xF1 (leBytes 2 n ++ [depth, 0])) u)
    else u) t

/-- The rate correction after a SYNC that shows offset `off` (R426, R427): what the offset has moved since the last SYNC
beyond what was being slewed, in ppm, at most 500 either way. The manual gives no servo (DESIGN CHOICE, log entry 61). -/
def newRate (s : State) (off : Int) : Int :=
  match s.aq.syncTaken with
  | some t0 =>
    if s.now ≤ t0 then s.aq.rate
    else max (-500) (min 500 (s.aq.rate + (off - s.aq.slew) * 1000000 / ((s.now - t0 : Nat) : Int)))
  | none => s.aq.rate

/-- A SYNC with its FOLLOW arrives on port `p`, stamped locally at `stamp` (R426, R427): a module in RUN slews
towards the root's time, one that starts takes it. -/
def syncArrives (p depth time stamp residence : Nat) (s : State) : State :=
  if givesTime s p = false then s
  else
    let d := s.fld (AQ_PSTAT p) AQ_PSTAT_DELAY
    let off : Int := ((time + d : Nat) : Int) - (stamp : Int)
    let sat : Int := if off < -32767 then -32767 else if 32767 < off then 32767 else off
    let t := State.setReg AQ_SYNC (fput AQ_SYNC_OFFSET (twos 16 sat) (fput AQ_SYNC_DEPTH (depth + 1) 0#32)) s
    let t := if starting s then
        { t with wwt := (((s.wwt : Int) + off) % (2 ^ 64 : Nat)).toNat, aq := { t.aq with slew := 0, syncTaken := some s.now } }
      else { t with aq := { t.aq with slew := off, rate := newRate s off, syncTaken := some s.now } }
    syncOn (depth + 1) (time + d + residence) (some p) t

/-- A link-delay exchange of port `p` (R426): the average of the last eight; a negative one counts as 0. -/
def delayMeasured (p t1 t2 t3 t4 : Nat) (s : State) : State :=
  let m := (((t4 : Int) - t1 - ((t3 : Int) - t2)) / 2).toNat
  let l := (m :: (s.aqPort p).delays).take 8
  let q := (s.aqPort p).rseq
  let t := State.modPort p (fun x => { x with
    delays := l, rseq := (q + 1) % 65536, nextDelay := s.now + 125000000 }) s
  let t := State.setFld (AQ_PSTAT p) AQ_PSTAT_DELAY (clampN 0 0x3FFF (l.sum / l.length)) t
  queueBarge p (localBarge t 0x1A 0xF1 (leBytes 2 q ++ [0, 0])) t

/-- Waterway time at a start of a module that takes its time from no other: the value last flushed plus
600 s, or 0 where none was (R428). -/
def startTime (s : State) : Nat :=
  match s.aq.flushed with
  | some t => (t + 600000000000) % 2 ^ 64
  | none => 0

/-! ### Flows (R421 to R424) -/

/-- This module receives flow `f` of the plan (R317). -/
def receives (s : State) (f : PlanFlow) : Bool :=
  f.src != aqAddr s &&
  (match f.dkind with
    | 0 => f.dst == aqAddr s
    | 1 => f.dst == aqPound s
    | _ => true)

/-- The plan's receive flows, in its order (R435). -/
def rxFlows (s : State) : List PlanFlow := s.aq.plan.flows.filter (fun f => receives s f)

/-- The AQ_RXF entry of a receive flow. -/
def rxIndex (s : State) (src flow : Nat) : Option Nat :=
  let n := (rxFlows s).findIdx (fun f => f.src == src && f.flow == flow)
  if n < (rxFlows s).length ∧ n < 128 then some n else none

/-- The state with an AQ_RXF entry changed, where the flow has one. -/
def onRxf (src flow : Nat) (f : Nat → State → State) (s : State) : State :=
  match rxIndex s src flow with
  | some n => f n s
  | none => s

/-- A field of AQ_RXF grows by `k` and saturates. -/
def addFld (a : Nat) (f : Fld) (k : Nat) (s : State) : State :=
  State.setFld a f (clampN 0 (2 ^ f.w - 1) (s.fld a f + k)) s

/-- SEQ `q` becomes the reference of a flow. -/
def seqTakes (src flow q : Nat) (s : State) : State :=
  let t := { s with aq := { s.aq with rx := Tab.put s.aq.rx {} (256 * src + flow) { last := some q } } }
  onRxf src flow (fun n u => State.setFld (AQ_RXF n) AQ_RXF_LAST_SEQ q u) t

/-- A barge out of sequence is dropped (R421). -/
def seqDrops (src flow far : Nat) (s : State) : State :=
  let t := { s with aq := { s.aq with rx := Tab.mod s.aq.rx {} (256 * src + flow) (fun x => { x with far := far }) } }
  raiseEv 186 flow (onRxf src flow (fun n u => State.incFld (AQ_RXF n) AQ_RXF_STALE u) t)

/-- SEQWIN; 0 acts as 1. -/
def seqWin (s : State) : Nat := zeroAsOne (s.fld AQ_CFG AQ_CFG_SEQWIN)

/-- The sequence window of a flow (R421): accepted or not, and the state after. -/
def seqCheck (src flow q : Nat) (s : State) : Bool × State :=
  let x := Tab.get s.aq.rx {} (256 * src + flow)
  match x.last with
  | none => (true, seqTakes src flow q s)
  | some l =>
    let d := (q + 65536 - l % 65536) % 65536
    if d = 0 ∨ 32768 ≤ d then (false, seqDrops src flow 0 s)
    else if d ≤ seqWin s then
      let t := seqTakes src flow q s
      let t := onRxf src flow (fun n u => addFld (AQ_RXF n) AQ_RXF_GAP (d - 1) u) t
      (true, if 1 < d then raiseEv 185 flow t else t)
    else if 2 ≤ x.far then (true, seqTakes src flow q s)
    else (false, seqDrops src flow (x.far + 1) s)

/-- The variables of an accepted DATA barge enter the receive image as one value (R424). -/
def dataTakes (b : Barge) (s : State) : State :=
  let fi := s.aq.plan.flows.findIdx (fun f => f.src == b.src && f.flow == b.flow && receives s f)
  if fi < s.aq.plan.flows.length then
    (s.aq.plan.vars.zipIdx).foldl (fun t e =>
      if e.1.1 = fi ∧ 4 * e.1.2 + 4 ≤ b.payload.length then
        { t with aq := { t.aq with landing := t.aq.landing ++
          [(s.now, e.2, BitVec.ofNat 32 (leAt b.payload (4 * e.1.2) 4), (s.reg KEEPER_LCC).toNat + 1)] } }
      else t) s
  else s

/-- The words that flow entry `i` sends: staged values, else those last sent, and the state after (R422,
R423). -/
def flowWords (s : State) (i : Nat) : List (Nat × Nat × Word) :=
  (s.aq.plan.vars.zipIdx).filterMap (fun e =>
    if e.1.1 = i then
      some (e.1.2, e.2, (match Tab.get s.aq.staged none e.2 with
        | some w => w
        | none => Tab.get s.aq.sentVars 0#32 e.2))
    else none)

/-- Flow entry `i` has a staged write. -/
def flowStaged (s : State) (i : Nat) : Bool :=
  (flowWords s i).any (fun e => (Tab.get s.aq.staged none e.2.1).isSome)

/-- Flow entry `i` may be sent now (R423): once per lock cycle, with a staged write or 100 cycles after the
last time; a class L flow after its owner's list has ended, a class F flow after the strobe. -/
def flowDue (s : State) (i : Nat) (f : PlanFlow) : Bool :=
  let lcc := (s.reg KEEPER_LCC).toNat
  let at' := Tab.get s.aq.sentAt 0 i
  let since := (lcc + 2 ^ 32 + 1 - at') % 2 ^ 32
  publishes s f && enabled s 15 && aqState s == 2 &&
  (f.cls != 0 || Tab.get s.aq.listEnded false f.owner || decide (100 ≤ since)) &&
  (at' == 0 || since != 0) &&
  ((flowStaged s i && (f.cls == 0 || s.aq.readyF.contains i)) || at' == 0 || decide (100 ≤ since))

/-- Flow entry `i` is sent with all its variables (R410, R423). -/
def sendFlow (i : Nat) (f : PlanFlow) (s : State) : State :=
  let ws := flowWords s i
  let data := (List.range f.nv).flatMap (fun k =>
    leBytes 4 (match ws.find? (fun e => e.1 == k) with
      | some e => e.2.2.toNat
      | none => 0))
  let t := ws.foldl (fun t e => { t with aq := { t.aq with
    sentVars := Tab.put t.aq.sentVars 0#32 e.2.1 e.2.2,
    staged := Tab.put t.aq.staged none e.2.1 none } }) s
  let t := { t with aq := { t.aq with sentAt := Tab.put t.aq.sentAt 0 i ((s.reg KEEPER_LCC).toNat + 1) } }
  sendBarge (mkBarge t f.cls f.dkind 1 f.dst f.flow data) t

/-! ### Module services (R409, R411, R425) -/

/-- Frame bytes in segments of 254 (R425). -/
def segments (l : List Nat) : List (List Nat) :=
  (List.range ((l.length + 253) / 254)).map (fun i => (l.drop (254 * i)).take 254)

/-- A Towpath frame goes to module `dst` through the tunnel (R425). -/
def sendTunnel (dst : Nat) (bytes : List Nat) (s : State) : State :=
  if enabled s 15 ∧ aqState s = 2 then
    let segs := segments bytes
    (segs.zipIdx).foldl (fun t e =>
      let w := e.2 + (if e.2 + 1 = segs.length then 32768 else 0)
      sendBarge (mkBarge t 1 0 2 dst 0xFE (leBytes 2 w ++ e.1)) t) s
  else s

/-- TUN_TO in ns; 0 acts as 1 ms (R425). -/
def tunTo (s : State) : Nat := zeroAsOne (s.fld AQ_CFG AQ_CFG_TUN_TO) * 1000000

/-- The tunnel frame of module `src` in reassembly is discarded. -/
def dropTunnel (src : Nat) (s : State) : State :=
  { s with aq := { s.aq with tunnels := Tab.put s.aq.tunnels {} src {} } }

/-- A frame is discarded under R51: CRC_CNT counts it and EV245 is raised (R62, R68). -/
def discardFrame (s : State) : State :=
  raiseEv 245 0xFFFF (State.incFld HOST_STAT HOST_STAT_CRC_CNT s)

/-- A tunnel segment arrives (R425); one on the end tick or later finds the frame discarded and starts
nothing (R433). -/
def tunnelTakes (src : Nat) (payload : List Nat) (s : State) : State :=
  let x := Tab.get s.aq.tunnels {} src
  let w := leAt payload 0 2
  if x.parts ≠ [] ∧ x.start + tunTo s ≤ s.now then discardFrame (dropTunnel src s)
  else
    let y := { parts := Tab.put x.parts [] (w % 32768) (payload.drop 2)
               last := if 32768 ≤ w then some (w % 32768) else x.last
               start := if x.parts = [] then s.now else x.start }
    { s with aq := { s.aq with tunnels := Tab.put s.aq.tunnels {} src y } }

/-- The tunnel frame of module `src` is complete: its bytes in order. -/
def tunnelFrame (s : State) (src : Nat) : Option (List Nat) :=
  let x := Tab.get s.aq.tunnels {} src
  match x.last with
  | none => none
  | some n =>
    if (List.range (n + 1)).all (fun i => (Tab.find x.parts i).isSome) then
      some ((List.range (n + 1)).flatMap (fun i => Tab.get x.parts [] i))
    else none

/-- The payload of a POWER barge (R409). -/
def powerPayload (st reqId origin apply : Nat) : List Nat := [st, reqId, origin, 0] ++ leBytes 8 apply

/-- A POWER barge arrives (R343, R409): a request is acknowledged to its origin and waits for its apply time;
an acknowledgement of module `src` is noted. -/
def powerArrives (src st reqId origin apply : Nat) (s : State) : State :=
  if st = 0xFF then { s with pow := { s.pow with ackWait := s.pow.ackWait.filter (fun a => !(a.1 == src && a.2.1 == reqId)) } }
  else if 3 < st then s
  else
    let t := { s with pow := { s.pow with apply := s.pow.apply ++ [(apply, st)] } }
    sendBarge (mkBarge t 1 0 3 origin 0xF2 (powerPayload 0xFF reqId origin apply)) t

/-- A POWER command with scope 1 (R343, R409): one class F barge to every module, the sender's own share at
the same apply time. -/
def powerForward (st : Nat) (s : State) : State :=
  let ap := s.wwt + 10000000
  let q := s.aq.reqId
  let others := ((List.range 250).map (· + 1)).filter (fun a => (routeTo s a).isSome)
  let t := { s with
    aq := { s.aq with reqId := (q + 1) % 256 }
    pow := { s.pow with apply := s.pow.apply ++ [(ap, st)], ackWait := s.pow.ackWait ++ others.map (fun a => (a, q, s.now + 5000000)) } }
  sendBarge (mkBarge t 1 2 3 0 0xF2 (powerPayload st q (aqAddr t) ap)) t

/-- A part of an update piece arrives from module `src` (R411); parts 10 s old or more have been discarded. -/
def pieceTakes (src : Nat) (l : List Nat) (s : State) : State :=
  let u := leAt l 0 4
  let n := leAt l 4 2
  let k := leAt l 6 1
  if 16 < k then s
  else
    let x := Tab.get s.aq.pieces {} src
    let same := x.parts ≠ [] ∧ x.update = u ∧ x.piece = n ∧ s.now < x.start + 10000000000
    let y : PieceParts :=
      { update := u, piece := n, start := if same then x.start else s.now
        parts := Tab.put (if same then x.parts else []) [] k ((l.drop 8).take (if k < 16 then 248 else 128)) }
    { s with aq := { s.aq with pieces := Tab.put s.aq.pieces {} src y } }

/-- The piece of module `src` in assembly is discarded. -/
def dropPiece (src : Nat) (s : State) : State :=
  { s with aq := { s.aq with pieces := Tab.put s.aq.pieces {} src {} } }

/-- The piece of module `src` has its 17 parts. -/
def pieceWhole (s : State) (src : Nat) : Bool :=
  (List.range 17).all (fun k => (Tab.find (Tab.get s.aq.pieces {} src).parts k).isSome)

/-- Records in groups of three. -/
def threes (l : List LogRec) : List (List LogRec) :=
  (List.range ((l.length + 2) / 3)).map (fun i => (l.drop (3 * i)).take 3)

/-- A LOG request of module `src` is answered with LOG barges of up to three records, LAST in the final one; where no
record is found the one barge says COUNT 0, so that it is no request (R411; log entry 61). -/
def logAnswers (src first count : Nat) (s : State) : State :=
  let recs := logRecords s first (clampN 1 255 count)
  let groups := if recs = [] then [[]] else threes recs
  (groups.zipIdx).foldl (fun t e =>
    let q := match e.1 with
      | r :: _ => r.seq
      | [] => first
    let last := e.2 + 1 == groups.length
    sendBarge (mkBarge t 2 0 5 src 0xFC
      (leBytes 6 q ++ [e.1.length + 128 * b2n last, if e.1 = [] then 0 else count % 256] ++ e.1.flatMap recBytes)) t) s

/-! ### Receiving (R399, R400, R404, R417 to R420) -/

/-- The barge that header and payload bytes spell, and its LEN. -/
def bargeOf (l : List Nat) : Barge × Nat :=
  let h := leAt l 0 1
  ({ ver := h / 16, cls := h / 4 % 4, dkind := h % 4, typ := leAt l 1 1, dst := leAt l 2 1, src := leAt l 3 1,
     flow := leAt l 4 1, hops := leAt l 5 1, seq := leAt l 6 2, payload := l.drop 16, stamp := leAt l 12 4 },
   leAt l 8 2)

/-- TYPE is in the table of R399. -/
def knownType (t : Nat) : Bool :=
  decide (1 ≤ t ∧ t ≤ 5) || decide (0x10 ≤ t ∧ t ≤ 0x14) || decide (0x18 ≤ t ∧ t ≤ 0x1B)

/-- A barge that stays on one link (R404). -/
def linkLocal (t : Nat) : Bool := t == 0x10 || decide (0x14 ≤ t ∧ t ≤ 0x1B)

/-- FLOW is reserved (R404). -/
def reservedFlow (f : Nat) : Bool := decide (0xF3 ≤ f ∧ f ≤ 0xFA) || f == 0xFF

/-- A control barge arrives on port `p` (R404); the time barges take effect by their own commands, whose
stamps are taken on the wire (R426), but for a request, which is answered here (R408). -/
def controlTakes (p : Nat) (b : Barge) (s : State) : State :=
  let l := b.payload
  match b.typ with
  | 0x10 => helloArrives p (helloOf l) s
  | 0x11 => treeArrives p (leAt l 0 8) (leAt l 8 1) (leAt l 12 8) s
  | 0x12 => addrArrives p (leAt l 0 8) (leAt l 8 1) (leAt l 9 1) (leAt l 10 1) (leAt l 11 1) (leAt l 12 8) b.hops s
  | 0x13 => linkArrives p (leAt l 0 1)
      { lseq := leAt l 2 2, serial := leAt l 4 8
        ports := aqPorts.map (fun i =>
          { naddr := leAt l (12 + 4 * i) 1, nport := leAt l (13 + 4 * i) 1, lstate := leAt l (14 + 4 * i) 1 }) } b.hops s
  | 0x1A => queueBarge p (localBarge s 0x1B 0xF1 (l.take 2 ++ [0, 0] ++ leBytes 8 (wireStamp s.wwt) ++ leBytes 8 0)) s
  | _ => s

/-- A peer's update record `l` tells of a hand-over while this module has switched too (R491): which of the two is the
later, and rolls back, is a free bit (log entry 63). -/
def notePeer (l : List Nat) (s : State) : State :=
  if s.upd.switched && leAt l 9 1 == 4 then
    { s.drawn with upd := { s.upd with clash := s.upd.clash || bitOf (s.free 1).toNat 0 } }
  else s

/-- A barge for this module is delivered (R410, R411, R421, R424, R425); a quarantined module accepts class T
only (R415). -/
def deliverBarge (p : Nat) (b : Barge) (s : State) : State :=
  if aqState s = 3 ∧ b.cls ≠ 2 then s
  else
    let r := seqCheck b.src b.flow b.seq s
    if r.1 = false then r.2
    else
      let t := cuBarge p b.src b.flow b.payload r.2
      match b.typ with
      | 1 =>
        if b.flow = 0xFD then
          notePeer b.payload { t with aq := { t.aq with updRecs := Tab.put t.aq.updRecs (0, []) b.src (s.now + 1, b.payload.take 16) } }
        else if enabled t 15 then dataTakes b t else t
      | 2 => if enabled t 15 then tunnelTakes b.src b.payload t else t
      | 3 => powerArrives b.src (leAt b.payload 0 1) (leAt b.payload 1 1) (leAt b.payload 2 1) (leAt b.payload 4 8) t
      | 4 => pieceTakes b.src b.payload t
      | 5 =>
        if leAt b.payload 6 1 % 4 = 0 ∧ leAt b.payload 7 1 ≠ 0 then logAnswers b.src (leAt b.payload 0 6) (leAt b.payload 7 1) t else t
      | _ => t

/-- A barge for another module goes on (R417, R420). -/
def forwardBarge (b : Barge) (s : State) : State :=
  if b.hops ≤ 1 then dropBarge b s else routeBarge { b with hops := b.hops - 1 } s

/-- A whole barge has arrived on port `p` (R417, R418); the check units see what is delivered here or goes on (R456). -/
def bargeArrives (p : Nat) (b : Barge) (s : State) : State :=
  let seen := cuBarge p b.src b.flow b.payload
  if b.control then controlTakes p b (seen s)
  else if b.dkind = 0 then (if b.dst = aqAddr s then deliverBarge p b s else forwardBarge b (seen s))
  else
    match routeTo s b.src with
    | some (q, _) =>
      if q = p then
        let t := if b.dkind = 2 ∨ b.dst % 16 = aqPound s then deliverBarge p b s else seen s
        if !spreads t b p then t
        else if b.hops ≤ 1 then dropBarge b t
        else spreadBarge { b with hops := b.hops - 1 } (some p) t
      else s
    | none => s

/-- A barge or fragment of port `p` is discarded and counted (R399, R400); what its class had of a partial
barge goes with it. -/
def discardBarge (p cls : Nat) (s : State) : State :=
  State.incFld (AQ_PCNT p) AQ_PCNT_CRCERR (State.modPort p (fun x =>
    if cls = 1 then { x with rxF := none } else if cls = 2 then { x with rxT := none } else x) s)

/-- The partial barge of a class at port `p` becomes `x`. -/
def setPartial (p cls : Nat) (x : Option (Barge × Nat × Nat)) (s : State) : State :=
  State.modPort p (fun q => if cls = 1 then { q with rxF := x } else { q with rxT := x }) s

/-- A continuation fragment arrives (R400). -/
def contArrives (p cls index : Nat) (l : List Nat) (s : State) : State :=
  let q := s.aqPort p
  match (if cls = 1 then q.rxF else if cls = 2 then q.rxT else none) with
  | none => discardBarge p cls s
  | some (b, len, next) =>
    let c := { b with payload := b.payload ++ l }
    if index ≠ next ∨ len < c.payload.length then discardBarge p cls s
    else if c.payload.length = len then portHears p (bargeArrives p c) (setPartial p cls none s)
    else setPartial p cls (some (c, len, next + 1)) s

/-- A first fragment or a whole barge arrives (R399, R400); one of a reserved flow is discarded (R404). -/
def firstArrives (p : Nat) (l : List Nat) (s : State) : State :=
  let r := bargeOf l
  let b := r.1
  if b.cls = 3 ∨ knownType b.typ = false ∨ reservedFlow b.flow ∨ 256 < r.2 ∨ (b.cls = 0 ∧ 64 < r.2) ∨
      b.payload.length ≠ clampN 0 64 r.2 then discardBarge p b.cls s
  else if 64 < r.2 then setPartial p b.cls (some (b, r.2, 1)) s
  else portHears p (bargeArrives p b) s

/-- A barge or fragment arrives on port `p` with its CRC-32 (R400); a port without link, or in VERSION but for
HELLO, takes nothing (R397, R403). -/
def receiveBarge (p : Nat) (bytes : List Nat) (s : State) : State :=
  let n := bytes.length - 4
  let l := bytes.take n
  let cls := leAt l 0 1 / 4 % 4
  if portLinked s p = false ∨ (lstate s p = 5 ∧ leAt l 1 1 ≠ 0x10) then s
  else if bytes.length < 8 ∨ crcOf crcIeee l ≠ leAt bytes n 4 then discardBarge p cls s
  else if leAt l 0 1 % 4 = 3 then contArrives p cls (leAt l 1 1) (l.drop 4) s
  else firstArrives p l s

end Sys2Proof.Machine
end

