-- ==== Sys2Proof/Machine/Aq.lean ====
section
/-! DEFINITION. The commands of the Aqueduct (R396 to R435). -/

namespace Sys2Proof.Machine

/-- Port `p` is a PHY master: AQ0 and AQ2 are, but where MS inverts the role (R397). -/
def phyMaster (s : State) (p : Nat) : Bool := (p % 2 == 0) != s.flag (AQ_PCFG p) AQ_PCFG_MS

/-- The PHY of port `p` shows link to a neighbour whose role `peerMaster` names: two masters or two slaves never reach
link (R397, R412). A port in recovery shows the link once the tables are installed (R419). -/
def portLinks (p : Nat) (peerMaster : Bool) (s : State) : State :=
  if s.flag (AQ_PCFG p) AQ_PCFG_EN ∧ pinFirst s (189 + 2 * p) ∧ pinFirst s (190 + 2 * p) ∧ phyMaster s p ≠ peerMaster then
    let t := State.modPort p (fun x => { x with phy := true, lastRx := s.now }) s
    if lstate s p < 2 then sendHello p (setLstate p 2 t)
    else if lstate s p = 4 ∧ (s.aqPort p).hello = none then sendHello p t
    else s
  else s

/-- AQ_PORT_LINK_UP (R397). -/
def execAqPortLinkUp (p : PhyLink) (s : State) : Host.Outcome State Fault Refusal :=
  finish s (portLinks p.port p.peerMaster s)

/-- HELLO_RECEIVE (R403, R405). -/
def execHelloReceive (p : Fin 4) (x : Hello) (s : State) : Host.Outcome State Fault Refusal :=
  finish s (portHears p (helloArrives p x) s)

/-- KEEP_SEND (R398): a port with link that has sent nothing for 100 µs sends a KEEP barge. -/
def execKeepSend (p : Fin 4) (s : State) : Host.Outcome State Fault Refusal :=
  finish s (if portSends s p ∧ (s.aqPort p).lastTx + 100000 ≤ s.now then
      emit p 0 (stampBarge s (localBarge s 0x14 0xF0 [])) s
    else s)

/-- AQ_LINK_DOWN (R398). -/
def execAqLinkDown (p : Fin 4) (phyLost : Bool) (s : State) : Host.Outcome State Fault Refusal :=
  finish s (linkLost p phyLost s)

/-- BARGE_RECEIVE (R399, R400, R417, R418, R421). -/
def execBargeReceive (p : Fin 4) (bytes : List Nat) (s : State) : Host.Outcome State Fault Refusal :=
  finish s (receiveBarge p bytes s)

/-- BARGE_TRANSMIT (R401): a port without link sends nothing, one in VERSION no traffic (R403). -/
def execBargeTransmit (p : Fin 4) (s : State) : Host.Outcome State Fault Refusal :=
  finish s (if portSends s p ∧ lineFree s p then transmit p s else s)

/-- TREE_RECEIVE (R406, R413). -/
def execTreeReceive (p : Fin 4) (root len path : Nat) (s : State) : Host.Outcome State Fault Refusal :=
  finish s (portHears p (treeArrives p root len path) s)

/-- ADDR_RECEIVE (R412, R414). -/
def execAddrReceive (p : Fin 4) (serial addr pound len flags path hops : Nat) (s : State) :
    Host.Outcome State Fault Refusal :=
  finish s (portHears p (addrArrives p serial addr pound len flags path hops) s)

/-- LINKSTATE_RECEIVE (R407, R419). -/
def execLinkstateReceive (p : Fin 4) (addr : Nat) (x : LinkState) (hops : Nat) (s : State) :
    Host.Outcome State Fault Refusal :=
  finish s (portHears p (linkArrives p addr x hops) s)

/-- RECOVERY_COMPLETE (R419), 2 ms after the last change that the recovery answers. -/
def execRecoveryComplete (s : State) : Host.Outcome State Fault Refusal :=
  finish s (if s.flag AQ_STAT AQ_STAT_RECOV ∧ s.aq.recovEnd ≤ s.now then recovered s else s)

/-- FLOW_SEND of flow entry `i` of the plan (R423). -/
def execFlowSend (i : Nat) (s : State) : Host.Outcome State Fault Refusal :=
  finish s (match s.aq.plan.flows[i]? with
    | some f => if flowDue s i f then sendFlow i f s else s
    | none => s)

/-- TUNNEL_TIMEOUT (R425): the frame is discarded and counted under R51. -/
def execTunnelTimeout (src : Nat) (s : State) : Host.Outcome State Fault Refusal :=
  let x := Tab.get s.aq.tunnels {} src
  finish s (if x.parts ≠ [] ∧ x.start + tunTo s ≤ s.now then
      discardFrame (dropTunnel src s)
    else s)

/-- SYNC_SEND (R426): every 1 ms the root sends SYNC and FOLLOW on every UP port. -/
def execSyncSend (s : State) : Host.Outcome State Fault Refusal :=
  finish s (if s.flag AQ_STAT AQ_STAT_ROOT ∧ s.aq.nextSync ≤ s.now then
      syncOn 0 s.wwt none { s with aq := { s.aq with nextSync := s.now + 1000000 } }
    else s)

/-- SYNC_RECEIVE (R426, R427). -/
def execSyncReceive (p : Fin 4) (_sseq depth time stamp residence : Nat) (s : State) :
    Host.Outcome State Fault Refusal :=
  finish s (portHears p (syncArrives p depth time stamp residence) s)

/-- DELAY_MEASURE (R426), every 125 ms. -/
def execDelayMeasure (p : Fin 4) (t1 t2 t3 t4 : Nat) (s : State) : Host.Outcome State Fault Refusal :=
  finish s (if portUp s p ∧ (s.aqPort p).nextDelay ≤ s.now then delayMeasured p t1 t2 t3 t4 s else s)

/-- The module takes its time from another and has no route to the root (R427). -/
def rootLost (s : State) : Bool :=
  aqRunning s && !s.flag AQ_STAT AQ_STAT_ROOT && (parentPort s).isNone

/-- HOLDOVER_ENTRY (R427, R436): the last rate correction stays. -/
def execHoldoverEntry (s : State) : Host.Outcome State Fault Refusal :=
  finish s (if rootLost s ∧ s.flag AQ_STAT AQ_STAT_HOLDOVER = false then
      let t := State.setFlag AQ_STAT AQ_STAT_HOLDOVER true s
      raiseFault 53 (raiseEv 187 0xFFFF t)
    else s)

/-- HOLDOVER_EXIT (R427). -/
def execHoldoverExit (s : State) : Host.Outcome State Fault Refusal :=
  finish s (if s.flag AQ_STAT AQ_STAT_HOLDOVER ∧ (parentPort s).isSome then
      raiseEv 188 0xFFFF (State.setFlag AQ_STAT AQ_STAT_HOLDOVER false s)
    else s)

/-- WATERWAY_TIME_FLUSH (R428), every 10 minutes while the Lodge runs. -/
def execWaterwayTimeFlush (s : State) : Host.Outcome State Fault Refusal :=
  finish s (if s.start.lodgeDown = false ∧ s.aq.nextFlush ≤ s.now then
      { s with aq := { s.aq with flushed := some s.wwt, nextFlush := s.now + 600000000000 } }
    else s)

/-- PIECE_PARTS_TIMEOUT (R411). -/
def execPiecePartsTimeout (src : Nat) (s : State) : Host.Outcome State Fault Refusal :=
  let x := Tab.get s.aq.pieces {} src
  finish s (if x.parts ≠ [] ∧ x.start + 10000000000 ≤ s.now then dropPiece src s else s)

/-- LOG_BARGE_REQUEST (R411, R449). -/
def execLogBargeRequest (src first count : Nat) (s : State) : Host.Outcome State Fault Refusal :=
  finish s (logAnswers src first count s)

end Sys2Proof.Machine
end

