-- ==== Sys2Proof/Machine/Bridge.lean ====
section
/-! DEFINITION. The meanings of the motor-bridge commands (R179 to R199). -/

namespace Sys2Proof.Machine

/-- BR_CMD_WRITE (R180, R182, R184, R186): the Arbour applies word `w` to BR_CMD of the half-bridge from
master `m`. -/
def execBrCmdWrite (m : Sender) (h : Fin 16) (w : Word) (s : State) : Host.Outcome State Fault Refusal :=
  finish s (applyCommand m.same m.code (0x200 + h) w s)

/-- BR_CLR (R184, R187): a BR_CMD write that carries CLR with the present fields. -/
def execBrClr (m : Sender) (h : Fin 16) (s : State) : Host.Outcome State Fault Refusal :=
  finish s (applyCommand m.same m.code (0x200 + h) (fput BR_CMD_CLR 1 (s.reg (BR_CMD h))) s)

/-- A pending turn-on of motor `h` starts, or without one the motor enters `st`, OFF where its demand has
gone off meanwhile (R185, R186). -/
def brakeTo (h st : Nat) (s : State) : State :=
  let pend := s.flag (BR_STAT h) BR_STAT_PEND
  let t := State.setFlag (BR_STAT h) BR_STAT_PEND false s
  if brDemand s h then
    if pend then
      let rev := if s.flag (BR_CMD h) BR_CMD_GOTO then brDir s h else (s.motor h).pendRev
      brTurnOn h rev (setBrState h brOff t)
    else setBrState h st t
  else setBrState h brOff t

/-- The second brake of an anti-trap response (R193); a pending turn-on stays pending. -/
def trapBrake (h : Nat) (s : State) : State :=
  State.setFlag (BR_STAT h) BR_STAT_PEND (s.flag (BR_STAT h) BR_STAT_PEND) (brBrakeTo h .trapped s)

/-- The reversal of an anti-trap response begins: AT_REV in 4-ripple units against AT_DIR, at the DUTY of the run
(R193). -/
def startReversal (h : Nat) (s : State) : State :=
  let n := s.fld (BR_RIP h) BR_RIP_AT_REV * 4
  let t := State.modMotor h (fun x => { x with
    revLeft := n, rev := !s.flag (BR_AT h) BR_AT_AT_DIR, dutyAt := none, rampStart := s.now, rampFrom := x.duty, rampEnd := s.now,
    lastRipple := s.now })
    (setBrState h brReversing s)
  if n = 0 then trapBrake h t else t

/-- The brake of motor `h` has lasted BRK_T (R185, R186, R193). -/
def brakeEnds (h : Nat) (s : State) : State :=
  if brState s h = brBrake ∧ (s.motor h).brakeEnd ≤ s.now then
    match (s.motor h).brakeTo with
    | .off => brakeTo h brOff s
    | .stalled => brakeTo h brStalled s
    | .trapped => brakeTo h brTrapped s
    | .reverse => startReversal h s
  else s

/-- BRAKE_END (R185, R186, R193). -/
def execBrakeEnd (h : Fin 16) (s : State) : Host.Outcome State Fault Refusal :=
  finish s (brakeEnds (brGovern s h) s)

/-- OC_TH of motor `h` in mA (R187, R201). -/
def brOcTh (s : State) (h : Nat) : Nat := clampN 4 24 (s.fld (BR_PROT h) BR_PROT_OC_TH) * 500

/-- A latch of a switch of half-bridge `hb` (R179, R187): kind 0 over-current, 1 with the hard limit
engaged, 2 thermal, which latches a motor in every state. -/
def bridgeLatch (hb kind : Nat) (highSide : Bool) (ma dur : Nat) (tj : Int) (s : State) : State :=
  let h := brGovern s hb
  if kind < 2 then
    if (brMoving s h ∨ brHolds s h) ∧ brOcTh s h ≤ ma ∧ 2000 * 2 ^ s.fld (BR_PROT h) BR_PROT_OC_FILT ≤ dur then
      if kind = 0 then brLatch h highSide BR_STAT_OCL 64 s else brLatch h highSide BR_STAT_HLIM 65 s
    else s
  else
    let t := State.setFld (BR_STAT hb) BR_STAT_TJ (clampN 0 255 (tj + 55).toNat) s
    if 170 ≤ tj ∧ s.flag (BR_STAT hb) BR_STAT_VETO_T = false then
      brLatch h highSide BR_STAT_THERM 66 (State.setFlag (BR_STAT hb) BR_STAT_VETO_T true t)
    else t

/-- BRIDGE_LATCH (R187): `ma` mA for `dur` ns in the high or the low side, or a sensor at `tj` °C. -/
def execBridgeLatch (h : Fin 16) (kind : Fin 3) (highSide : Bool) (ma dur : Nat) (tj : Int) (s : State) :
    Host.Outcome State Fault Refusal :=
  finish s (bridgeLatch h kind highSide ma dur tj s)

/-- The sensor of half-bridge `hb` is below 145 °C (R106, R187). -/
def bridgeVetoClear (hb : Nat) (tj : Int) (s : State) : State :=
  let h := brGovern s hb
  let t := State.setFld (BR_STAT hb) BR_STAT_TJ (clampN 0 255 (tj + 55).toNat) s
  if tj < 145 ∧ s.flag (BR_STAT hb) BR_STAT_VETO_T then
    let t := State.setFlag (BR_STAT hb) BR_STAT_VETO_T false t
    if brState t h = brVetoed ∧ brVeto t h = false then
      if brDemand t h then brTurnOn h (brDir t h) t else setBrState h brOff t
    else t
  else t

/-- BRIDGE_VETO_CLEAR (R106, R187). -/
def execBridgeVetoClear (h : Fin 16) (tj : Int) (s : State) : Host.Outcome State Fault Refusal :=
  finish s (bridgeVetoClear h tj s)

/-- The start blank of a run ends at `ma` mA (R187, R188). -/
def startBlankEnd (h ma : Nat) (s : State) : State :=
  if brState s h = brRun ∧ (s.motor h).blankDone = false ∧ (s.motor h).blankEnd ≤ s.now then
    let c := s.fld (BR_STAT h) BR_STAT_CODE
    let t := State.modMotor h (fun x => { x with blankDone := true }) s
    let t := if c = 2 ∨ c = 3 then State.setFld (BR_STAT h) BR_STAT_CODE 0 t else t
    if ma < 200 then
      let n := (s.motor h).olCount + 1
      let t := State.modMotor h (fun x => { x with olCount := n }) t
      let need := s.fld (BR_RIP h) BR_RIP_OL_CNT + 1
      if need ≤ n ∧ (n = need ∨ t.fld (BR_STAT h) BR_STAT_CODE ≠ 1) then
        dieEv 3 74 h (State.setFlag (BR_STAT h) BR_STAT_OPEN true (State.setFld (BR_STAT h) BR_STAT_CODE 1 t))
      else t
    else State.modMotor h (fun x => { x with olCount := 0 }) (State.setFld (BR_STAT h) BR_STAT_CODE 0 t)
  else s

/-- START_BLANK_END (R187, R188). -/
def execStartBlankEnd (h : Fin 16) (ma : Nat) (s : State) : Host.Outcome State Fault Refusal :=
  finish s (startBlankEnd (brGovern s h) ma s)

/-- STALL_T in ns, 0 acting as 1 (R201). -/
def stallTime (s : State) (h : Nat) : Nat :=
  let x := s.fld (BR_PROT h) BR_PROT_STALL_T
  (if x = 0 then 1 else x) * 1000000

/-- The motor meets a stall criterion (R189): `ma` mA have stood for `dur` ns, or the ripples have ceased
for RIP_TO. -/
def stallSeen (s : State) (h ma dur : Nat) : Bool :=
  let th := s.fld (BR_PROT h) BR_PROT_STALL_TH
  let rto := s.fld (BR_RIP h) BR_RIP_RIP_TO
  (decide (th ≠ 0 ∧ th * 50 ≤ ma ∧ stallTime s h ≤ dur)) ||
  (s.flag (BR_RIP h) BR_RIP_RIP_EN && decide (rto ≠ 0 ∧ (s.motor h).lastRipple + rto * 100000 ≤ s.now))

/-- A stall of motor `h` (R189, R191, R193): inside the anti-trap zone it is handled as a trap; else the
motor brakes towards STALLED, and a stall in NORM_DIR normalises POS. -/
def motorStalls (h : Nat) (s : State) : State :=
  if inTrapZone s h then brTrap h s
  else
    let t := dieEv 3 68 h (State.setFlag (BR_STAT h) BR_STAT_STALL true (brBrakeTo h .stalled s))
    if s.flag (BR_RIP h) BR_RIP_NORM && (s.motor h).rev == s.flag (BR_RIP h) BR_RIP_NORM_DIR then
      dieEv 3 71 h (State.setFlag (BR_STAT h) BR_STAT_NORM_OK true (setPos h 0 t))
    else t

/-- A stall observation of motor `h`: it counts in RUN outside the start blank (R189). -/
def stallCheck (h ma dur : Nat) (s : State) : State :=
  if brState s h = brRun ∧ (s.motor h).blankEnd ≤ s.now ∧ stallSeen s h ma dur then motorStalls h s else s

/-- STALL (R189, R191, R193): the current has been `ma` mA for `dur` ns. -/
def execStall (h : Fin 16) (ma dur : Nat) (s : State) : Host.Outcome State Fault Refusal :=
  finish s (stallCheck (brGovern s h) ma dur s)

/-- Ripples of motor `h` are counted now (R190): with RIP_EN while it turns; through BRAKE and PARKING until RIP_TO
has passed without one. -/
def ripplesCount (s : State) (h : Nat) : Bool :=
  let rto := s.fld (BR_RIP h) BR_RIP_RIP_TO
  s.flag (BR_RIP h) BR_RIP_RIP_EN && brMoving s h &&
  !((brState s h == brBrake || brState s h == brParking) && decide (rto ≠ 0 ∧ (s.motor h).lastRipple + rto * 100000 ≤ s.now))

/-- RPER exceeds the anti-trap reference by more than AT_TH, 2 % units, 0 acting as 1 (R193). -/
def trapped (s : State) (h : Nat) : Bool :=
  let x := s.motor h
  let th := s.fld (BR_AT h) BR_AT_AT_TH
  let th := if th = 0 then 1 else th
  x.refCount == 16 &&
  decide (x.refSum * x.periods.length * (100 + 2 * th) < x.periods.foldl (· + ·) 0 * 16 * 100)

/-- POS, RPER and the anti-trap reference take in one ripple of `period` ns (R190, R193). -/
def takeRipple (h period : Nat) (s : State) : State :=
  let x := s.motor h
  let ps := (period :: x.periods).take 4
  let inRef := brState s h == brRun && decide (x.blankEnd ≤ s.now ∧ x.refCount < 16)
  let t := setPos h (brPos s h + (if x.rev then -1 else 1)) s
  let t := State.setFld (BR_POS h) BR_POS_RPER (clampN 0 0xFFFF (ps.foldl (· + ·) 0 / ps.length / 10000)) t
  State.modMotor h (fun x => { x with
    periods := ps, lastRipple := s.now,
    refSum := (if inRef then x.refSum + period else x.refSum),
    refCount := (if inRef then x.refCount + 1 else x.refCount) }) t

/-- A counted ripple of motor `h` (R190, R192, R193): trap handling wins over a target reached (R196). -/
def rippleCounted (h period : Nat) (s : State) : State :=
  if !ripplesCount s h then s
  else
    let full := (s.motor h).refCount == 16
    let t := takeRipple h period s
    if brState s h = brReversing then
      if (s.motor h).revLeft ≤ 1 then trapBrake h (State.modMotor h (fun x => { x with revLeft := 0 }) t)
      else State.modMotor h (fun x => { x with revLeft := x.revLeft - 1 }) t
    else if brState s h = brRun then
      if full && inTrapZone t h && trapped t h then brTrap h t
      else if t.flag (BR_CMD h) BR_CMD_GOTO && brPos t h == brTgt t h then dieEv 3 70 h (brBrakeTo h .off t)
      else t
    else t

/-- RIPPLE_COUNTED (R190, R192, R193): a commutation dip `period` ns after the one before. -/
def execRippleCounted (h : Fin 16) (period : Nat) (s : State) : Host.Outcome State Fault Refusal :=
  finish s (rippleCounted (brGovern s h) period s)

/-- Every PARKING motor whose park input is active now brakes (R194). -/
def parksReached (s : State) : State :=
  (List.range 16).foldl (fun t h =>
    if brState t h = brParking ∧ parkActive t h = some true then
      dieEv 3 72 h (State.modMotor h (fun x => { x with parkAt := some s.now }) (brBrakeTo h .off t))
    else t) s

/-- Park input `p` has stood at `level` for `dur` ns: its 2 ms debounce (R194). -/
def parkInput (p : Nat) (level : Bool) (dur : Nat) (s : State) : State :=
  if dur < 2000000 then s
  else if p = 0 then parksReached { s with bridges := { s.bridges with park0 := level } }
  else parksReached { s with bridges := { s.bridges with park1 := level } }

/-- PARK_REACHED (R194). -/
def execParkReached (p : Fin 2) (level : Bool) (dur : Nat) (s : State) : Host.Outcome State Fault Refusal :=
  finish s (parkInput p level dur s)

/-- PARK_TO has elapsed in PARKING (R194). -/
def parkTimeout (h : Nat) (s : State) : State :=
  match (s.motor h).parkEnd with
  | some e =>
    if brState s h = brParking ∧ e ≤ s.now then
      dieEv 3 73 h (State.setFlag (BR_STAT h) BR_STAT_PARKTO true (brBrakeTo h .off s))
    else s
  | none => s

/-- PARK_TIMEOUT (R194). -/
def execParkTimeout (h : Fin 16) (s : State) : Host.Outcome State Fault Refusal :=
  finish s (parkTimeout (brGovern s h) s)

/-- The restart slot of the next motor due after Over or Dropout (R195). -/
def bridgeReturnSlot (s : State) : State :=
  match s.bridges.queue with
  | [] => s
  | h :: rest =>
    if s.bridges.slotDue ≤ s.now ∧ brNoSupply s = false then
      brRestart h { s with bridges := { s.bridges with queue := rest, slotDue := s.bridges.slotDue + 50000 } }
    else s

/-- BRIDGE_SUPPLY_RETURN_SLOT (R195). -/
def execBridgeSupplyReturnSlot (s : State) : Host.Outcome State Fault Refusal :=
  finish s (bridgeReturnSlot s)

/-- LF driver `a` has carried `ma` mA for `dur` ns (R199): it latches and stays off for this session. -/
def lfLatch (a ma dur : Nat) (s : State) : State :=
  if s.flag (LF_STAT a) LF_STAT_ON ∧ 2500 ≤ ma ∧ 5000 ≤ dur then
    let t := State.setFlag (LF_STAT a) LF_STAT_ON false (State.setFlag (LF_STAT a) LF_STAT_LATCH true s)
    let t := State.setFld (LF_STAT a) LF_STAT_IPK (clampN 0 0xFFFF ma) t
    dieEv 3 75 a { t with gate := { t.gate with
      latched := setBitN t.gate.latched a, ipk := Tab.put t.gate.ipk 0 a 0 } }
  else s

/-- LF_DRIVER_LATCH (R199). -/
def execLfDriverLatch (a : Fin 6) (ma dur : Nat) (s : State) : Host.Outcome State Fault Refusal :=
  finish s (lfLatch a ma dur s)

end Sys2Proof.Machine
end

