-- ==== Sys2Proof/Machine/Can.lean ====
section
/-! DEFINITION. The CAN commands (R354 to R367). -/

namespace Sys2Proof.Machine

/-- The transceiver of controller `c` receives (R379, R380), and no handshake has stopped the controllers (R391). CAN6 and
CAN7 have external transceivers. -/
def canEar (s : State) (c : Nat) : Bool :=
  canOn s c && (decide (6 ≤ c) || decide (2 ≤ xcvState s c)) && s.pow.stage == 0

/-- Controller `c` can put a frame on its bus: besides, its transceiver drives; loopback needs none (R355). -/
def canDrives (s : State) (c : Nat) : Bool :=
  canSends s c && s.pow.stage == 0 && (canMode s c == 3 || decide (6 ≤ c) || xcvState s c == 3)

/-- Controller `c` is on its bus: it is enabled and hears it. -/
def canLive (s : State) (c : Nat) : Bool := enabled s 12 && canEar s c

/-- Controller `c` hears the frames of its bus: not in bus-off, not in loopback, and in rate detection only
at a candidate or at the rate it confirmed (R355, R363, R365). A frame that was on the bus when CAN was disabled is
completed (R326); `ago` ns have passed since its SOF. -/
def canHears (s : State) (c ago : Nat) : Bool :=
  canEar s c && (enabled s 12 || endsFrame s 12 ago) && !canBusOff s c && canMode s c != 3 &&
  (canMode s c != 2 || (s.can c).rdCand.isSome || s.flag (CAN_RDET c) CAN_RDET_FOUND)

/-- A frame as long as its format allows. -/
def trimFrame (f : CanFrame) : CanFrame :=
  { f with id := f.id % 2 ^ 29, fmt := f.fmt % 4,
           data := (f.data.take (if f.fmt = 0 then 8 else if f.fmt = 1 then 64 else 2048)).map (· % 256) }

/-- REC after an error-free frame received: one less, and from above 127 a value of 119 to 127 (ISO 11898-1
through R363; log entry 27). -/
def recDown (c : Nat) (s : State) : State :=
  let r := s.fld (CAN_ERR c) CAN_ERR_REC
  let t := s.fld (CAN_ERR c) CAN_ERR_TEC
  if 127 < r then setErrCounts c t (119 + (s.free 8).toNat % 9) (State.drawn s)
  else if 0 < r then setErrCounts c t (r - 1) s
  else s

/-- An identifier as NETPM_WAKEID and NETPM_CULPRIT show it: a standard one as its 11-bit number (log
entry 28). -/
def shownId (ide : Bool) (id : Nat) : Nat := if ide then id % 2 ^ 29 else id / 2 ^ 18 % 2 ^ 11

/-- The first frame a controller receives after the claim identifies a pattern wake (R386). -/
def noteWakeId (c : Nat) (f : CanFrame) (s : State) : State :=
  if s.net.idDue = some c ∧ s.start.lodgeDown = false ∧ s.fld CHECK_START CHECK_START_STATE = 0 then
    let t := State.setReg NETPM_WAKEID (fput NETPM_WAKEID_CH c (fput NETPM_WAKEID_ID (shownId f.ide f.id) 0#32)) s
    { t with net := { t.net with idDue := none } }
  else s

/-- A frame that some object of controller `c` accepts, or none. -/
def canAccepted (s : State) (c : Nat) (f : CanFrame) : Bool :=
  fmtAllowed s c f.fmt && ((List.range 128).any (fun n => objAccepts s c f n))

/-- Controller `c` acknowledges an error-free frame, whether or not an object accepts it (R357): in normal mode, through a
transceiver that drives. -/
def canAcks (c : Nat) (f : CanFrame) (s : State) : State :=
  if fmtAllowed s c f.fmt && canMode s c == 0 && (decide (6 ≤ c) || xcvState s c == 3) then State.send (.canAck c) s else s

/-- A frame of the bus is received error-free (R357, R363, R386, R456). -/
def canArrives (c : Nat) (f : CanFrame) (s : State) : State :=
  let t := canReceive c f (canAcks c f s)
  let t := if canAccepted s c f then cuCan c f.id f.data t else t
  if fmtAllowed s c f.fmt then noteWakeId c f (recDown c t) else t

/-- CAN_FRAME_RECEIVE (R357): an error-free frame of another node. -/
def execCanFrameReceive (c : Fin 8) (f : CanFrame) (s : State) : Host.Outcome State Fault Refusal :=
  finish s (if canHears s c f.sofAgo then canArrives c (trimFrame f) s else s)

/-- The chosen object is frozen at SOF and its frame begins; in loopback the transceiver sees recessive
(R355, R360). -/
def canSof (c : Nat) (s : State) : State :=
  match (s.can c).frozen, chosenObj s c with
  | none, some n =>
    let f := frameOf s c n
    let t := State.modCan c (fun x => { x with frozen := some (n, f), sof := s.wwt, cancel := false }) s
    if canMode s c = 3 then t else State.send (.can c f) t
  | _, _ => s

/-- CAN_TX_SOF (R360). -/
def execCanTxSof (c : Fin 8) (s : State) : Host.Outcome State Fault Refusal :=
  finish s (if canDrives s c then canSof c s else s)

/-- The frame of the frozen object has been sent: TXREQ clears, TXRES says whether a cancel came too late,
TS is stamped, TEC falls, the held words are written (R359 to R363). -/
def canSent (c : Nat) (s : State) : State :=
  match (s.can c).frozen with
  | none => s
  | some (n, f) =>
    let late := (s.can c).cancel
    let t := State.setReg (canWord c n 3) (usStamp (s.can c).sof) s
    let t := endFrame c n true (some (if late then 3 else 1)) (measureDelay c f t)
    let t := if late then raiseEv 134 c (State.setFlag (CAN_STAT c) CAN_STAT_LATE true t) else t
    let tec := s.fld (CAN_ERR c) CAN_ERR_TEC
    let t := if 0 < tec then setErrCounts c (tec - 1) (s.fld (CAN_ERR c) CAN_ERR_REC) t else t
    if canMode s c = 3 then canReceive c { f with sofAgo := s.wwt - (s.can c).sof } t else t

/-- CAN_TX_COMPLETE (R326, R359, R360, R362): a frame on the bus is completed although CAN has been disabled meanwhile. -/
def execCanTxComplete (c : Fin 8) (s : State) : Host.Outcome State Fault Refusal :=
  finish s (if canBusOff s c = false then canSent c s else s)

/-- An error of controller `c` as transmitter: a bit error in DLC, data or CRC of a frame whose arbitration
it won counts as a collision (R364); the frame is sent again unless cancelled or one-shot (R360, R362). -/
def canTxError (c lec kind : Nat) (inData : Bool) (s : State) : State :=
  let tec := s.fld (CAN_ERR c) CAN_ERR_TEC
  let rec' := s.fld (CAN_ERR c) CAN_ERR_REC
  let t := match (s.can c).frozen with
    | some (_, f) => if inData && (lec == 4 || lec == 5) then countColl c f.ide f.id s else s
    | none => s
  let t := if kind = 2 then t else setErrCounts c (tec + 8) rec' t
  frameFails c t

/-- An error of controller `c` as receiver. -/
def canRxError (c kind : Nat) (s : State) : State :=
  let tec := s.fld (CAN_ERR c) CAN_ERR_TEC
  let rec' := s.fld (CAN_ERR c) CAN_ERR_REC
  if kind = 2 then s else setErrCounts c tec (rec' + (if kind = 1 then 8 else 1)) s

/-- CAN_ERROR (R363, R364): `kind` 0 is an error that counts as ISO 11898-1 lays down for a transmitter
or a receiver, 1 a receiver's error that counts 8, 2 one that ISO 11898-1 exempts (log entry 27). -/
def execCanError (c : Fin 8) (tx : Bool) (lec : Fin 7) (kind : Fin 3) (inData : Bool) (s : State) :
    Host.Outcome State Fault Refusal :=
  finish s (if (canRuns s c ∨ (tx ∧ (s.can c).frozen.isSome)) ∧ canBusOff s c = false then
      let t := State.setFld (CAN_ERR c) CAN_ERR_LEC lec s
      if tx then canTxError c lec kind inData t else canRxError c kind t
    else s)

/-- CAN_CANCEL reaches the controller (R362): an object that is not frozen gives up its request at once; the
frozen one gives it up when its frame fails, or reports the cancel as late. -/
def canCancel (c n : Nat) (s : State) : State :=
  let a := canWord c n 0
  if fget OBJ_TXREQ (s.reg a) = 0 then s
  else if (s.can c).frozen.any (fun e => e.1 == n) then State.modCan c (fun x => { x with cancel := true }) s
  else State.setReg a (fput OBJ_TXRES 2 (fput OBJ_TXREQ 0 (s.reg a))) s

/-- ARBITRATION_LOST (R360, R362). -/
def execArbitrationLost (c : Fin 8) (s : State) : Host.Outcome State Fault Refusal :=
  finish s (frameFails c s)

/-- BO_REQ starts recovery in manual mode (R363). -/
def boStart (c : Nat) (s : State) : State :=
  if canBusOff s c && s.flag (CAN_CTRL c) CAN_CTRL_BO_MODE then
    State.modCan c (fun x => { x with recovering := true }) s
  else s

/-- BUS_OFF_RECOVERED (R363): 128 occurrences of 11 recessive bits. -/
def execBusOffRecovered (c : Fin 8) (s : State) : Host.Outcome State Fault Refusal :=
  finish s (if canRuns s c ∧ canBusOff s c ∧ (s.can c).recovering then
      let t := State.setFld (CAN_ERR c) CAN_ERR_TEC 0 (State.setFld (CAN_ERR c) CAN_ERR_REC 0 s)
      let t := State.incFld (CAN_ERR c) CAN_ERR_BO_CNT (State.setFld (CAN_ERR c) CAN_ERR_STATE 0 t)
      raiseEv 131 c (State.modCan c (fun x => { x with recovering := false }) t)
    else s)

/-- COLLISION_WINDOW_EXPIRY (R364). -/
def execCollisionWindowExpiry (c : Fin 8) (s : State) : Host.Outcome State Fault Refusal :=
  finish s (dropOldColl c s)

/-- RD_TO in ns; 0 for none (R365). -/
def rdLimit (s : State) (c : Nat) : Nat := s.fld (CAN_CTRL c) CAN_CTRL_RD_TO * 10000000

/-- Controller `c` stands in rate detection that has not ended, inside its window (R7, R365). -/
def rdRuns (s : State) (c : Nat) : Bool :=
  canLive s c && canMode s c == 2 && !s.flag (CAN_RDET c) CAN_RDET_DONE &&
    (rdLimit s c == 0 || decide (s.now < (s.can c).rdStart + rdLimit s c))

/-- One observation of rate detection (R365): 64 edges measured, an error-free frame at the candidate, or an
error first. -/
def rateStep (c kind minbit : Nat) (s : State) : State :=
  match kind, (s.can c).rdCand with
  | 0, none =>
    rdNext c (State.modCan c (fun x => { x with rdTried := [] })
      (State.setFld (CAN_RDET c) CAN_RDET_MINBIT minbit s))
  | 1, some i =>
    if 1 ≤ (s.can c).rdGood then rdFound c i s
    else State.modCan c (fun x => { x with rdGood := x.rdGood + 1 }) s
  | 2, some i => rdNext c (State.modCan c (fun x => { x with rdTried := x.rdTried ++ [i] }) s)
  | _, _ => s

/-- RATE_DETECTION (R365). -/
def execRateDetection (c : Fin 8) (kind : Fin 3) (minbit : Nat) (s : State) : Host.Outcome State Fault Refusal :=
  finish s (if rdRuns s c then rateStep c kind minbit s else s)

/-- RATE_DETECTION_TIMEOUT (R365). -/
def execRateDetectionTimeout (c : Fin 8) (s : State) : Host.Outcome State Fault Refusal :=
  finish s (
    let lim := rdLimit s c
    if canRuns s c ∧ canMode s c = 2 ∧ s.flag (CAN_RDET c) CAN_RDET_DONE = false ∧ 0 < lim ∧
        (s.can c).rdStart + lim ≤ s.now then
      let t := State.setFlag (CAN_RDET c) CAN_RDET_DONE true (State.setFlag (CAN_RDET c) CAN_RDET_FOUND false s)
      let t := State.modCan c (fun x => { x with rdCand := none, rdGood := 0 }) t
      raiseEv 137 c (State.setFlag (CAN_STAT c) CAN_STAT_RDFAIL true t)
    else s)

/-- The Warden serves the J1939 address claim of controller `c` (R366). -/
def jServes (s : State) (c : Nat) : Bool := canDrives s c && canMode s c == 0 && s.flag (CAN_J1939 c) CAN_J1939_EN

/-- J1939_CLAIM_START (R366). -/
def execJ1939ClaimStart (c : Fin 8) (s : State) : Host.Outcome State Fault Refusal :=
  finish s (if jServes s c ∧ jState s c = 0 then jClaim c (s.fld (CAN_J1939 c) CAN_J1939_PREF) s else s)

/-- The address that controller `c` claims or has claimed. -/
def jOwn (s : State) (c : Nat) : Nat :=
  if jState s c = 1 then (s.can c).jAddr else s.fld (CAN_J1939 c) CAN_J1939_ADDR

/-- The window of the last claim has passed without contention: the address is claimed (R366). -/
def jWindowEnd (c : Nat) (s : State) : State :=
  if jServes s c ∧ jState s c = 1 ∧ (s.can c).jEnd ≤ s.now then
    raiseEv 138 c (State.setFld (CAN_J1939 c) CAN_J1939_STATE 2
      (State.setFld (CAN_J1939 c) CAN_J1939_ADDR (s.can c).jAddr s))
  else s

/-- Another node claims address `sa` under `name` (R366): a lower NAME for this module's address makes it
choose again; against a higher one the Warden claims again. -/
def jContend (c name sa : Nat) (s : State) : State :=
  let st := jState s c
  if (st = 1 ∨ st = 2) ∧ sa = jOwn s c then
    if name < jName s c then
      let t := State.modCan c (fun x => { x with jTaken := x.jTaken ++ [sa] }) s
      let u := jChoose c t
      if st = 2 ∧ jState u c = 1 then raiseEv 139 c u else u
    else if st = 1 then jClaim c sa s
    else State.send (.can c (claimFrame (jName s c) sa)) s
  else if (s.can c).jTaken.contains sa then s
  else State.modCan c (fun x => { x with jTaken := x.jTaken ++ [sa] }) s

/-- The Warden pauses for a hand-over (R487, R488). -/
def pausing (s : State) : Bool := s.upd.pause.isSome

/-- A command waits for the end of the pause (R488). -/
def deferCmd (c : Instr) (s : State) : State := { s with upd := { s.upd with waiting := s.upd.waiting ++ [c] } }

/-- A contending claim, which the Warden meets after its pause (R366, R488); one at the end tick of the window finds the
address claimed (R7). -/
def j1939Contention (c : Fin 8) (name sa : Nat) (s : State) : State :=
  if pausing s then deferCmd (.j1939Contention c name sa) s
  else if jServes s c then jContend c name (sa % 256) (jWindowEnd c s) else s

/-- J1939_CONTENTION (R366). -/
def execJ1939Contention (c : Fin 8) (name sa : Nat) (s : State) : Host.Outcome State Fault Refusal :=
  finish s (j1939Contention c name sa s)

/-- J1939_CLAIM_WINDOW_END (R366): 250 ms without contention. -/
def execJ1939ClaimWindowEnd (c : Fin 8) (s : State) : Host.Outcome State Fault Refusal := finish s (jWindowEnd c s)

/-- A request for address claim, answered after the Warden's pause (R366, R488): the claimed address is claimed
again; a module that cannot claim says so, as SAE J1939-81 has it (log entry 8). -/
def j1939Request (c : Fin 8) (s : State) : State :=
  if pausing s then deferCmd (.j1939Request c) s
  else if jServes s c then
    let t := jWindowEnd c s
    match jState t c with
    | 2 => State.send (.can c (claimFrame (jName t c) (t.fld (CAN_J1939 c) CAN_J1939_ADDR))) t
    | 3 => State.send (.can c (claimFrame (jName t c) 254)) t
    | _ => t
  else s

/-- J1939_REQUEST (R366). -/
def execJ1939Request (c : Fin 8) (s : State) : Host.Outcome State Fault Refusal := finish s (j1939Request c s)

end Sys2Proof.Machine
end

