-- ==== Sys2Proof/Machine/FaultOps.lean ====
section
/-! DEFINITION. Leaving module limp, clearing faults and memory errors (R438, R442, R444, R452, R453). -/

namespace Sys2Proof.Machine

/-- Some source whose acting reaction is module limp has its sticky bit set (R442). -/
def limpHeld (s : State) : Bool := (List.range 96).any (fun n => sticky s n && actingReact s n == 2)

/-- MLIMP_CLR is written 1 by master `m` at `full` (R442): refused as a locked write while a source of that
reaction stands, else the Keepers restart and EV204 is raised. -/
def leaveModuleLimp (m full : Nat) (v : Word) (s : State) : State :=
  if moduleLimp s = false then s
  else if limpHeld s then lockViol m full v s
  else raiseEv 204 0xFFFF (restartKeepers (State.setFlag FAULT_STAT FAULT_STAT_MLIMP false s))

/-- No bit of FAULT_STICKY is 1. -/
def noSticky (s : State) : Bool := (List.range 3).all (fun w => s.reg (FAULT_STICKY w) == 0#32)

/-- The last sticky bit has been cleared: ERRN is released, but in harbour limp (R336, R438). -/
def releaseErrn (s : State) : State :=
  if noSticky s ∧ s.flag FAULT_STAT FAULT_STAT_ERRN_LOW ∧ s.fld CHECK_START CHECK_START_STATE ≠ 5 then
    raiseEv 205 0xFFFF (State.setFlag FAULT_STAT FAULT_STAT_ERRN_LOW false s)
  else s

/-- The reaction window ends; a reaction 0b11 asserts LRST (R440, R444). -/
def windowEnds (s : State) : State :=
  let t := State.setFlag FAULT_STAT FAULT_STAT_REACTING false s
  if s.rep.resetDue then lodgeResetWarm { t with rep := { t.rep with resetDue := false } } else t

/-- A single-bit error is corrected (R452). -/
def eccCorrect (mram : Bool) (s : State) : State :=
  if mram then raiseEv 198 0xFFFF (State.incFld CHECK_ECC CHECK_ECC_CE_MRAM s)
  else raiseEv 197 0xFFFF (State.incFld CHECK_ECC CHECK_ECC_CE_SRAM s)

/-- A double-bit error at `addr` is seen by `reader`: 0 to 7 a Keeper, 8 the Warden, 9 every other (R452). -/
def eccUncorrectable (reader : Nat) (mram : Bool) (addr : Word) (s : State) : State :=
  if reader < 9 ∧ engRuns s reader = false then s
  else
  let t := State.incFld CHECK_ECC CHECK_ECC_UE_CNT (State.setReg CHECK_ECCADDR addr s)
  let t := raiseEv 199 0xFFFF t
  if reader < 8 ∧ mram = false then stall reader 9 t
  else
    let t := raiseFault (if mram then 39 else 38) t
    if reader = 8 then trap 8 9 0#32 t else t

/-- Words of SRAM: 40 banks of 64 KiB (R339). -/
abbrev sramWords : Nat := 655360

/-- Words of MRAM. -/
abbrev mramWords : Nat := 1048576

/-- The address that SRAM word `n` has in the map of the engine or of the Warden that reads it (R296, R339;
log entry 36). -/
def sramAddr (n : Nat) : Word :=
  let b := n / 16384
  let o := n % 16384 * 4
  BitVec.ofNat 32 (if b < 8 then 0x10000 * b + o
    else if b < 12 then 0x10000000 + 0x10000 * (b - 8) + o
    else if b < 20 then o
    else if b < 24 then 0x10000000 + o % 0x8000
    else 0x20000000 + 0x10000 * (b - 24) + o)

/-- The scrubber reads the next word of a memory and corrects it (R453): `err` 0 none, 1 single, 2 double. -/
def scrubWord (mram : Bool) (err : Nat) (s : State) : State :=
  let n := if mram then s.scrub.mram else s.scrub.sram
  let a := if mram then BitVec.ofNat 32 (0x30000000 + 4 * n) else sramAddr n
  let t := { s with scrub := if mram then { s.scrub with mram := (n + 1) % mramWords }
    else { s.scrub with sram := (n + 1) % sramWords } }
  if err = 1 then eccCorrect mram t else if err = 2 then eccUncorrectable 9 mram a t else t

end Sys2Proof.Machine
end

