-- ==== Sys2Proof/Machine/Faults.lean ====
section
/-! DEFINITION. The commands of the fault collector, the Logbook controller, the memories and the check units
(R436 to R458). -/

namespace Sys2Proof.Machine

/-- REACTION_WINDOW_END (R444). -/
def execReactionWindowEnd (s : State) : Host.Outcome State Fault Refusal :=
  finish s (if s.flag FAULT_STAT FAULT_STAT_REACTING ∧ s.rep.windowEnd ≤ s.now then windowEnds s else s)

/-- LOGBOOK_RECORD_DROP (R448): a record of a source meets the full queue. -/
def execLogbookRecordDrop (typ : Fin 9) (source index : Nat) (s : State) : Host.Outcome State Fault Refusal :=
  finish s (logDrop typ source index s)

/-- ECC_READ_ERROR (R452). -/
def execEccReadError (reader : Fin 10) (mram double : Bool) (addr : Word) (s : State) :
    Host.Outcome State Fault Refusal :=
  finish s (if s.start.lodgeDown then s else if double then eccUncorrectable reader mram addr s else eccCorrect mram s)

/-- SCRUB (R453). -/
def execScrub (mram : Bool) (err : Fin 3) (s : State) : Host.Outcome State Fault Refusal :=
  finish s (if s.start.lodgeDown then s else scrubWord mram err s)

/-- CHECK_UNIT_RESULT (R456). -/
def execCheckUnitResult (u : Fin 4) (s : State) : Host.Outcome State Fault Refusal :=
  finish s (if cuDone s u then cuResult u s else s)

/-- WARDEN_WATCHDOG_EXPIRY (R436). -/
def execWardenWatchdogExpiry (s : State) : Host.Outcome State Fault Refusal :=
  finish s (if s.start.lodgeDown then s else raiseFault 37 s)

/-- PLL_LOSS_OF_LOCK (R436): a Lodge PLL loses lock, or a die oscillator is outside ±5 %; one row stands for both. -/
def execPllLossOfLock (s : State) : Host.Outcome State Fault Refusal :=
  finish s (if s.start.lodgeDown then s else raiseFault 62 s)

end Sys2Proof.Machine
end

