-- ==== Sys2Proof/Machine/Field.lean ====
section
/-! DEFINITION. The meanings of the input and field-output commands (R237 to R252). -/

namespace Sys2Proof.Machine

/-- A sample of input `j` with its pin at `mv` mV (R238, R240, R241); sampling stops in Moored and Berthed (R243). -/
def inputSample (j : Nat) (mv : Int) (s : State) : State :=
  if lowPower s then s else rawChange j (inReads s j (inBit s (IN_RAW 0) j) mv) s

/-- RAW_LEVEL_CHANGE (R238, R240, R241). -/
def execRawLevelChange (j : Fin 128) (mv : Int) (s : State) : Host.Outcome State Fault Refusal :=
  finish s (inputSample j mv s)

/-- The debounce window of input `j` has reached its end tick (R241). -/
def debounceEnd (j : Nat) (s : State) : State :=
  let x := s.input j
  match x.winEnd with
  | some e => if e ≤ s.now ∧ lowPower s = false then debounced j x.level s else s
  | none => s

/-- DEBOUNCE_WINDOW_END (R241, R242). -/
def execDebounceWindowEnd (j : Fin 128) (s : State) : Host.Outcome State Fault Refusal :=
  finish s (debounceEnd j s)

/-- The oldest waiting change of input `j` reaches the Lodge (R20, R242). -/
def inputDelivery (j : Nat) (s : State) : State :=
  match (s.input j).waiting with
  | [] => s
  | b :: rest =>
    if cvUp s 5 ∧ s.start.lodgeDown = false then
      imageTakes j b (State.modInput j (fun x => { x with waiting := rest }) (modLane 5 false (fun l => laneHears l s.now) s))
    else s

/-- INPUT_CHANGE_DELIVERY (R242). -/
def execInputChangeDelivery (j : Fin 128) (s : State) : Host.Outcome State Fault Refusal :=
  finish s (inputDelivery j s)

/-- A poll at `level` counts: it differs from the reference in the direction that WAKE accepts (R243). -/
def pollCounts (s : State) (j : Nat) (level : Bool) : Bool :=
  let w := s.fld (IN_CFG j) IN_CFG_WAKE
  level != (s.input j).ref && (if level then bitOf w 0 else bitOf w 1)

/-- A poll of input `j` is due (R243): its WAKE names a level, the module is in Moored or Berthed, and POLL_PER has
passed since the last one. -/
def pollDue (s : State) (j : Nat) : Bool :=
  lowPower s && s.fld (IN_CFG j) IN_CFG_WAKE != 0 && inputClaimed s j &&
  (match (s.input j).polledAt with
    | some b => decide (b + pollPer s ≤ s.now)
    | none => true)

/-- A poll of input `j` in Moored or Berthed finds its pin at `mv` mV (R243): WAKE_CNT + 1 counting polls in a row wake
the module, KIND 1. Between the thresholds the pin reads as the reference (log entry 70). -/
def inputPoll (j : Nat) (mv : Int) (s : State) : State :=
  if !pollDue s j then s
  else
    let n := if pollCounts s j (inReads s j (s.input j).ref mv) then (s.input j).polls + 1 else 0
    if s.fld IN_POLL IN_POLL_WAKE_CNT + 1 ≤ n then
      wakeEvent 1 j false (State.modInput j (fun x => { x with polls := 0, polledAt := some s.now }) s)
    else State.modInput j (fun x => { x with polls := n, polledAt := some s.now }) s

/-- INPUT_POLL (R243). -/
def execInputPoll (j : Fin 128) (mv : Int) (s : State) : Host.Outcome State Fault Refusal :=
  finish s (inputPoll j mv s)

/-- FO_CMD_WRITE (R245, R249, R250): the Arbour takes word `w` for FO_CMD of the output from master `m`. -/
def execFoCmdWrite (m : Sender) (o : Fin 16) (w : Word) (s : State) : Host.Outcome State Fault Refusal :=
  finish s (applyCommand m.same m.code (0x400 + o) w s)

/-- FO_CLR (R247): a FO_CMD write that carries CLR with the present ON. -/
def execFoClr (m : Sender) (o : Fin 16) (s : State) : Host.Outcome State Fault Refusal :=
  finish s (applyCommand m.same m.code (0x400 + o) (fput FO_CMD_CLR 1 (s.reg (FO_CMD o))) s)

/-- The veto of output `o` in THERMOFF is clear (R247): with AUTO it turns on again if its demand is still on, and EV099
tells where it did; without AUTO only a turn-on that waits goes on. -/
def foRelease (o : Nat) (s : State) : State :=
  let live := foDemand s o && foServing s o
  if s.flag (FO_CFG o) FO_CFG_AUTO then
    if live then
      let t := foTurnOn o s
      if foState t o = foOn then dieEv 3 99 o t else t
    else setFoState o foOff (State.setFlag (FO_STAT o) FO_STAT_PEND false s)
  else if s.flag (FO_STAT o) FO_STAT_PEND && live then foTurnOn o s
  else s

/-- The pin of output `o` stands above 0 V again (R245, R246): the clamp disarms, and the output goes where
the turn-off led or makes its pending turn-on. -/
def demagSafePoint (o : Nat) (s : State) : State :=
  let pend := s.flag (FO_STAT o) FO_STAT_PEND && foDemand s o && foServing s o
  match (s.fo o).cause with
  | .therm =>
    let t := setFoState o foTherm s
    if s.flag (FO_STAT o) FO_STAT_VETO_T then t else foRelease o t
  | .off => if pend then foTurnOn o s else setFoState o foOff (State.setFlag (FO_STAT o) FO_STAT_PEND false s)
  | .supply =>
    if inOver s then setFoState o foSupply (State.setFlag (FO_STAT o) FO_STAT_PEND false s)
    else if foDemand s o && foServing s o then foTurnOn o s
    else setFoState o foOff (State.setFlag (FO_STAT o) FO_STAT_PEND false s)

/-- DEMAG_SAFE_POINT (R246): the pin of the output stands at `pin` mV. -/
def execDemagSafePoint (o : Fin 16) (pin : Int) (s : State) : Host.Outcome State Fault Refusal :=
  finish s (if foState s o = foDemag ∧ 0 < pin then demagSafePoint o s else s)

/-- TJ of output `o` in the code of FO_STAT: degrees plus 55 (R254). -/
def putFoTj (o : Nat) (t : Int) (s : State) : State :=
  State.setFld (FO_STAT o) FO_STAT_TJ (clampN 0 255 (t + 55).toNat) s

/-- Output `o` has reached 160 °C (R247, R252). -/
def foThermal (o : Nat) (t : Int) (s : State) : State :=
  let u := putFoTj o t s
  if 160 ≤ t ∧ s.flag (FO_STAT o) FO_STAT_VETO_T = false then
    let u := State.setFlag (FO_STAT o) FO_STAT_VETO_T true u
    let hit := fun (u : State) => dieEv 3 98 o (State.setFlag (FO_STAT o) FO_STAT_THERM true u)
    if foState s o = foOn then foTurnOff o .therm (hit u)
    else if foState s o = foDemag then
      State.modFo o (fun x => { x with cause := .therm, hitAt := some s.now })
        (State.setFlag (FO_STAT o) FO_STAT_PEND false (hit u))
    else u
  else u

/-- FO_THERMAL_SHUTDOWN (R247): the sensor of the output reads `t` °C. -/
def execFoThermalShutdown (o : Fin 16) (t : Int) (s : State) : Host.Outcome State Fault Refusal :=
  finish s (foThermal o t s)

/-- Output `o` is below 140 °C (R247): the veto ends, and an output in THERMOFF goes on as `foRelease` says; one that
still demagnetises does so at its safe point. -/
def foVetoClear (o : Nat) (t : Int) (s : State) : State :=
  let u := putFoTj o t s
  if t < 140 ∧ s.flag (FO_STAT o) FO_STAT_VETO_T then
    let u := State.setFlag (FO_STAT o) FO_STAT_VETO_T false u
    if foState s o = foTherm then foRelease o u else u
  else u

/-- FO_AUTO_RESTART (R247): the sensor of the output reads `t` °C. -/
def execFoAutoRestart (o : Fin 16) (t : Int) (s : State) : Host.Outcome State Fault Refusal :=
  finish s (foVetoClear o t s)

/-- The analog limit of output `o` at `ua` µA (R244): it is engaged from 1.1 A at the latest and never below 0.7 A; between
them the part decides (log entry 17). -/
def foLimit (o ua : Nat) (s : State) : State :=
  if foState s o ≠ foOn then s
  else if ua < 700000 then State.setFlag (FO_STAT o) FO_STAT_LIM false s
  else if 1100000 ≤ ua then State.setFlag (FO_STAT o) FO_STAT_LIM true s
  else State.drawn (State.setFlag (FO_STAT o) FO_STAT_LIM ((s.free 1).toNat == 1) s)

/-- Output `o` has carried `ua` µA with its pin at `mv` mV for `dur` ns (R248). -/
def foDiagnosis (o ua mv dur : Nat) (s : State) : State :=
  if s.flag (FO_CFG o) FO_CFG_DIAG_EN = false ∨ (s.bank (6 + o / 4)).moored then s
  else if foState s o = foOn then
    if ua < 5000 ∧ 10000000 ≤ dur then
      if (s.fo o).openNow then s
      else dieEv 3 100 o (State.modFo o (fun x => { x with openNow := true })
        (State.setFlag (FO_STAT o) FO_STAT_OPEN true s))
    else State.modFo o (fun x => { x with openNow := false }) s
  else if foState s o = foOff then
    if 3000 < mv ∧ 10000000 ≤ dur then
      if (s.fo o).shortNow then s
      else dieEv 3 101 o (State.modFo o (fun x => { x with shortNow := true })
        (State.setFlag (FO_STAT o) FO_STAT_SHORT_BAT true s))
    else State.modFo o (fun x => { x with shortNow := false }) s
  else s

/-- FO_DIAGNOSIS (R244, R248). -/
def execFoDiagnosis (o : Fin 16) (ua mv dur : Nat) (s : State) : Host.Outcome State Fault Refusal :=
  finish s (foDiagnosis o ua mv dur (foLimit o ua s))

/-- OWNER_WINDOW_EXPIRY (R250): the window reaches its end tick without an owner write. -/
def execOwnerWindowExpiry (o : Fin 16) (s : State) : Host.Outcome State Fault Refusal :=
  finish s (match (s.fo o).ownEnd with
    | some e => if e ≤ s.now then foEnterLimp o s else s
    | none => s)

/-- OWNER_LIMP_EXPIRY (R250). -/
def execOwnerLimpExpiry (o : Fin 16) (s : State) : Host.Outcome State Fault Refusal :=
  finish s (match (s.fo o).limpEnd with
    | some e => if e ≤ s.now then foOwnerSafe o s else s
    | none => s)

/-- The restart slot of the next output due after Over (R251). -/
def foRestartSlot (s : State) : State :=
  match s.fieldBank.queue with
  | [] => s
  | o :: rest =>
    if s.fieldBank.slotDue ≤ s.now ∧ inOver s = false then
      let t := { s with fieldBank := { queue := rest, slotDue := s.fieldBank.slotDue + 50000 } }
      if foState t o = foSupply then
        if foDemand t o && foServing t o then foTurnOn o t else setFoState o foOff t
      else t
    else s

/-- FO_OVER_RESTART_SLOT (R251). -/
def execFoOverRestartSlot (s : State) : Host.Outcome State Fault Refusal := finish s (foRestartSlot s)

end Sys2Proof.Machine
end

