-- ==== Sys2Proof/Machine/GateOps.lean ====
section
/-! DEFINITION. The Gatehouse (R463 to R477). -/

namespace Sys2Proof.Machine

/-! ### The Chart in use and its Gatehouse policy (R318) -/

/-- The section of TYPE `typ` of the Chart in use: (offset from the flash start, length). -/
def sectionOf (s : State) (typ : Nat) : Option (Nat × Nat) :=
  (s.start.sections.find? (fun e => e.1 == typ)).map (fun e => e.2)

/-- `n` bytes at offset `o` of section `typ`, little-endian; 0 where the section is missing. -/
def sectionNat (s : State) (typ o n : Nat) : Nat :=
  match sectionOf s typ with
  | some (b, _) => s.bytesLE (flashBase + b + o) n
  | none => 0

/-- VID, 24 bits. -/
def polVid (s : State) : Nat := sectionNat s 9 0 3

/-- K_LEARN. -/
def kLearn (s : State) : Nat := sectionNat s 9 8 16

/-- K_REL. -/
def kRel (s : State) : Nat := sectionNat s 9 24 16

/-- K_LOGCLR. -/
def kLogClr (s : State) : Nat := sectionNat s 9 40 16

/-- SVC_KEY[i], 64 bytes. -/
def svcKey (s : State) (i : Nat) : Nat := sectionNat s 9 (56 + 64 * i) 64

/-! ### Modes and refusals -/

/-- The Gatehouse, its LF drivers and its UHF receiver are held off in this variant (R2). -/
def gateFused : Bool := Config.variant == .ae

/-- GMODE: 0 NORMAL, 1 START-UP, 2 TEST, 3 RECOVERY (R469); RECOVERY is over from its end tick on. -/
def gMode (s : State) : Nat :=
  let x := s.fld GATE_STAT GATE_STAT_GMODE
  match s.gate.modeEnd with
  | some e => if x = 3 ∧ e ≤ s.now then 0 else x
  | none => x

/-- Session level of host path `m`; 0 for a master that is no host. -/
def hostLevel (s : State) (m : Nat) : Nat := if 9 ≤ m then sessionLevel s m else 0

/-- K_DER has been written (R463). -/
def kderSet (s : State) : Bool := s.flag GATE_STAT GATE_STAT_KDER_SET

/-- A session runs. -/
def gateBusy (s : State) : Bool := s.gate.phase != 0

/-- The delay window runs (R470). -/
def gateDelayed (s : State) : Bool :=
  match s.gate.delayEnd with
  | some e => decide (s.now < e)
  | none => false

/-- A request is refused with REASON `r` (R463, R470, R471): EV230 for BUSY, DELAY, MODE and NOKEY, EV232 for an
enrolment. -/
def gateRefuse (r : Nat) (s : State) : State :=
  let t := State.setFld GATE_RES GATE_RES_REASON r (State.setFld GATE_STAT GATE_STAT_RESULT 4 s)
  raiseEvData (if r ≤ 4 then 230 else 232) 0xFFFF [r] t

/-- A fresh learn nonce is drawn (R469). -/
def drawNonce (s : State) : State :=
  let n := (s.free 64).toNat
  raiseEv 234 0xFFFF (State.setReg GATE_LNONCE_LO (BitVec.ofNat 32 n)
    (State.setReg GATE_LNONCE_HI (BitVec.ofNat 32 (n / 2 ^ 32)) s.drawn))

/-- Delay after FAIL_CNT `n`, in ns (R470). -/
def delayTime (n : Nat) : Nat := clampN 0 256 (2 ^ (n - 2)) * 1000000000

/-- The delay for the present FAIL_CNT starts (R470). -/
def startDelay (s : State) : State :=
  let n := s.fld GATE_STAT GATE_STAT_FAIL_CNT
  if n < 3 ∨ gateFused then s
  else raiseEv 229 0xFFFF { s with gate := { s.gate with delayEnd := some (s.now + delayTime n) } }

/-- A failed session counts (R470). -/
def gateFailed (s : State) : State := startDelay (State.incFld GATE_STAT GATE_STAT_FAIL_CNT s)

/-! ### Tokens -/

/-- Entry `n` of GATE_TOK is valid. -/
def tokValid (s : State) (n : Nat) : Bool := s.flag (GATE_TOK n) GATE_TOK_VALID

/-- The valid entry that holds a token's ID. -/
def tokEntry (s : State) (id : Nat) : Option Nat :=
  (List.range 16).find? (fun n => tokValid s n && (s.reg (GATE_TOKID n)).toNat == id)

/-- The lowest free entry. -/
def tokFree (s : State) : Option Nat := (List.range 16).find? (fun n => !tokValid s n)

/-- Bits of the valid entries. -/
def tokMask (s : State) : Nat := ((List.range 16).filter (fun n => tokValid s n)).foldl setBitN 0

/-- K_tok of a token (R463). -/
def kTok (s : State) (id : Nat) : Nat := (Config.aes s.gate.kDer id).toNat

/-- RESP that the token `id` owes in this session (R465). -/
def respOf (s : State) (id : Nat) : Nat :=
  let l := leBytes 8 s.gate.chal ++ leBytes 3 (polVid s) ++ [s.fld GATE_STAT GATE_STAT_SESS] ++ leBytes 4 id
  (Config.aes (kTok s id) (leNat l)).toNat % 2 ^ 64

/-- Entry `n` is freed (R468). -/
def freeToken (n : Nat) (s : State) : State :=
  if tokValid s n then raiseEv 233 n (State.setFlag (GATE_TOK n) GATE_TOK_VALID false s) else s

/-- REVOKE of entry `n` (R468, R471): at the end of a session that asks it. -/
def revokeToken (n : Nat) (s : State) : State :=
  if gateFused then s
  else if gateBusy s ∧ bitOf s.gate.mask n then { s with gate := { s.gate with revoke := s.gate.revoke ++ [n] } }
  else freeToken n s

/-! ### LF frames (R465) -/

/-- The bits of a field of `n` bits, most significant first. -/
def bitsOf (n x : Nat) : List Bool := ((List.range n).map (fun i => bitOf x i)).reverse

/-- A frame: PRE, the fields, and CRC-8 (SAE J1850) over the fields. -/
def lfFrame (fields : List (Nat × Nat)) : List Bool :=
  let body := fields.flatMap (fun f => bitsOf f.1 f.2)
  let crc := crcResult crcJ1850 (body.foldl (fun c b => crcBit 8 crcJ1850.poly c b) crcJ1850.init)
  bitsOf 8 0xAA ++ body ++ bitsOf 8 crc

/-- The CHALLENGE frame, or LEARN for an enrolment. -/
def challengeFrame (s : State) : List Bool :=
  lfFrame [(24, polVid s), (4, if s.gate.kind < 2 then 1 else 3), (8, s.fld GATE_STAT GATE_STAT_SESS),
    (64, s.gate.chal), (16, s.gate.mask)]

/-- The SELECT frame of a branch: `bits` are the first `n` ID bits (R467). -/
def selectFrame (s : State) (slot n bits : Nat) : List Bool :=
  lfFrame [(24, polVid s), (4, 2), (8, s.fld GATE_STAT GATE_STAT_SESS), (5, slot), (6, n),
    (32, bits * 2 ^ (32 - n))]

/-- The carrier of antenna `a` in 10 Hz units: FREQ, outside 12 000 to 13 000 the nearer limit (R477, log entry 72). -/
def lfFreq (s : State) (a : Nat) : Nat := clampN 12000 13000 (s.fld (LF_TRIM a) LF_TRIM_FREQ)

/-- The carriers of the antennas in `m`, in ascending order. -/
def lfFreqs (s : State) (m : Nat) : List Nat :=
  ((List.range 6).filter (fun a => bitOf m a)).map (fun a => lfFreq s a)

/-- Over, Dropout or Lodge silence keeps every carrier off (R199). -/
def lfHeldOff (s : State) : Bool := inOver s || inDropout s || (s.die 3).silent

/-- The carriers of the antennas in `m` run or stop; one that latched in this session stays off, as all do in Over, in
Dropout and in silence (R199). -/
def lfCarrier (m : Nat) (on : Bool) (s : State) : State :=
  (List.range 6).foldl (fun t a =>
    if bitOf m a && pinFirst t (242 + a) then
      (if !on then lfOff a t
       else if bitOf t.gate.latched a || lfHeldOff t then t
       else State.setFlag (LF_STAT a) LF_STAT_ON true t)
    else t) s

/-- `frame` goes out on the antennas in `m`, where a carrier may run (R199, R464). -/
def lfSend (m : Nat) (frame : List Bool) (s : State) : State :=
  if lfHeldOff s then s else State.send (.lf m (lfFreqs s m) frame) (lfCarrier m true s)

/-- The session moves into phase `p` now (R464). -/
def gatePhase (p : Nat) (s : State) : State := { s with gate := { s.gate with phase := p, phaseAt := s.now } }

/-- The antennas of mask `m` in the order of their carriers (R464). -/
def lfOrder (m : Nat) : List Nat := (List.range 6).filter (fun a => bitOf m a)

/-- The carrier of antenna `a` runs now (R464, R467): all at once during a frame, which begins 0.1 ms after
the trigger, one after the other for 1 ms each in
the carrier phase, and during the 23.75 ms of a SELECT. -/
def lfRuns (s : State) (a : Nat) : Bool :=
  s.flag (LF_STAT a) LF_STAT_ON &&
  (match s.gate.phase with
    | 1 => decide (s.gate.phaseAt + 100000 ≤ s.now)
    | 2 => (lfOrder s.gate.ant)[(s.now - s.gate.phaseAt) / 1000000]? == some a
    | 4 => decide (s.now < s.gate.phaseAt + 23750000)
    | _ => true)

/-! ### Sessions (R464 to R468, R471) -/

/-- SLOT_T in ns; 0 acts as 1 ms. -/
def slotTime (s : State) : Nat :=
  (if s.fld GATE_CFG GATE_CFG_SLOT_T = 0 then 1 else s.fld GATE_CFG GATE_CFG_SLOT_T) * 1000000

/-- KIND written; the reserved codes act as ENTRY. -/
def gateKind (s : State) : Nat :=
  if s.fld GATE_CMD GATE_CMD_KIND < 4 then s.fld GATE_CMD GATE_CMD_KIND else 0

/-- Why a GO by master `m` is refused, if it is (R463, R468 to R471). -/
def goRefusal (s : State) (m : Nat) : Option Nat :=
  let k := gateKind s
  let room := if 32 ≤ s.fld GATE_STAT GATE_STAT_ENR_CNT then some 5
    else if (tokFree s).isNone then some 6 else none
  if gateBusy s then some 1
  else if gateDelayed s then some 2
  else if k = 2 ∧ hostLevel s m = 0 then some 3
  else if k = 3 ∧ (hostLevel s m ≠ 2 ∨ gMode s = 0 ∨ s.gate.armed = false) then some 3
  else if kderSet s = false ∨ polVid s = 0 then some 4
  else if 2 ≤ k then room
  else none

/-- A session starts (R464). -/
def gateStart (s : State) : State :=
  let k := gateKind s
  let w := s.fld GATE_CMD GATE_CMD_MASK
  let mask := if 2 ≤ k ∨ w = 0 then tokMask s else w
  let slots := (List.range 16).filter (fun n => bitOf mask n) ++ (if 2 ≤ k then [16] else [])
  let ant := s.fld GATE_CMD GATE_CMD_ANT
  let t := { s.drawn with gate := { s.gate with
    phase := 1, kind := k, ant := ant, mask := mask, chal := (s.free 64).toNat, slots := slots, gridStart := 0,
    ended := 0, valid := [], newId := 0, bad := 0, collided := [], branches := [], seen := 0, rounds := 0,
    latched := 0, broken := false, ignOff := false, revoke := [], armed := s.gate.armed && k != 3, phaseAt := s.now } }
  let t := State.setFld GATE_STAT GATE_STAT_SESS (s.fld GATE_STAT GATE_STAT_SESS + 1) t
  let t := State.setFlag GATE_STAT GATE_STAT_BUSY true t
  lfSend ant (challengeFrame t) t

/-- GO is written 1 by master `m`; a Gatehouse that is not enabled takes no request (R2, R321). -/
def gateGo (m : Nat) (s : State) : State :=
  if enabled s 17 = false then s
  else match goRefusal s m with
    | some r => gateRefuse r s
    | none => gateStart s

/-- The session ends: entries revoked in it are freed. -/
def gateClose (s : State) : State :=
  let l := s.gate.revoke
  let t := { s with gate := { s.gate with phase := 0, revoke := [], branches := [], latched := 0 } }
  l.foldl (fun t n => freeToken n t) (State.setFlag GATE_STAT GATE_STAT_BUSY false t)

/-- The session is abandoned (R471). -/
def gateAbandon (s : State) : State :=
  if gateBusy s then
    raiseEv 238 0xFFFF (gateClose (lfCarrier s.gate.ant false (State.setFld GATE_STAT GATE_STAT_RESULT 3 s)))
  else s

/-- Something that abandons a session holds (R471). -/
def gateBroken (s : State) : Bool :=
  s.gate.broken || lfHeldOff s || s.start.lodgeDown ||
  (s.gate.ant != 0 && (List.range 6).all (fun a => !bitOf s.gate.ant a || bitOf s.gate.latched a))

/-- A step of the session, `act`, where nothing has broken it (R464, R471). -/
def gateStep (act : State → State) (s : State) : State :=
  if gateBusy s && gateBroken s then gateAbandon s else act s

/-- The highest RSSI of an answer: (antenna, value), the lowest antenna among equals (log entry 37). -/
def topRssi (frame : List Nat) : Nat × Nat :=
  (List.range 6).foldl (fun b a => if b.2 < frame.getD (7 + a) 0 then (a, frame.getD (7 + a) 0) else b) (0, 0)

/-- The zone of an answer is INSIDE (R466). -/
def isInside (s : State) (frame : List Nat) : Bool :=
  let r := topRssi frame
  bitOf (s.fld GATE_CFG GATE_CFG_INT_ANT) r.1 && decide (s.fld GATE_CFG GATE_CFG_IN_TH ≤ r.2)

/-- An invalid answer is recorded under its TOKEN_ID (R466). -/
def badAnswer (id : Nat) (s : State) : State :=
  let t := { s with gate := { s.gate with bad := s.gate.bad + 1 } }
  let t := match tokEntry s id with
    | some n => State.incFld (GATE_TOK n) GATE_TOK_BAD_CNT t
    | none => t
  raiseEvRec 226 0xFFFF (leBytes 4 id) t

/-- An answer with a good CRC in slot `slot` is classified (R466, R468). -/
def takeAnswer (slot : Nat) (frame : List Nat) (s : State) : State :=
  let id := leNat (frame.take 4)
  let right := frame.getD 4 0 == s.fld GATE_STAT GATE_STAT_SESS && leNat ((frame.drop 13).take 8) == respOf s id
  if slot = 16 ∧ 2 ≤ s.gate.kind ∧ right then { s with gate := { s.gate with newId := id + 1 } }
  else if right ∧ tokEntry s id = some slot then
    let t := State.setFld (GATE_TOK slot) GATE_TOK_LAST_RSSI (topRssi frame).2 s
    { t with gate := { t.gate with valid := t.gate.valid ++ [(slot, isInside s frame, (topRssi frame).2)] } }
  else badAnswer id s

/-- Ascending list with `n` put in once. -/
def insertOnce (n : Nat) (l : List Nat) : List Nat :=
  if l.contains n then l else l.filter (· < n) ++ [n] ++ l.filter (n < ·)

/-- A collision is heard in slot `slot` of the grid (R467). -/
def noteCollision (slot : Nat) (s : State) : State :=
  raiseEv 227 slot { s with gate := { s.gate with collided := insertOnce slot s.gate.collided } }

/-- The UHF receiver fails (R471, R473). -/
def uhfFails (s : State) : State :=
  gateAbandon (raiseFault 65 { s with gate := { s.gate with oversize := 0 } })

/-- The receiver's frame is stamped into its slot (R464, R467). -/
def uhfFrame (good carrier : Bool) (frame : List Nat) (s : State) : State :=
  if s.gate.phase = 3 ∧ s.gate.gridStart ≤ s.now then
    match s.gate.slots[(s.now - s.gate.gridStart) / slotTime s]? with
    | some slot => if good then takeAnswer slot frame s else if carrier then noteCollision slot s else s
    | none => s
  else if s.gate.phase = 4 then
    match s.gate.branches with
    | (slot, _, _) :: _ =>
      if s.now < s.gate.gridStart + 23750000 ∨ s.gate.gridStart + 23750000 + slotTime s ≤ s.now then s
      else if good then takeAnswer slot frame { s with gate := { s.gate with seen := if s.gate.seen = 2 then 2 else 1 } }
      else if carrier then { s with gate := { s.gate with seen := 2 } }
      else s
    | [] => s
  else s

/-- The module reads the UHF receiver: GATE is enabled and the receiver's pins are claimed (R3, R313, R473). -/
def uhfOn (s : State) : Bool := enabled s 17 && [211, 212, 213, 214, 215].all (fun p => pinFirst s p)

/-- UHF_IRQ (R473): three reads in a row with a length above 32 fail the receiver; the edge wakes the module from
Moored (R347). -/
def uhfIrq (good carrier : Bool) (len : Nat) (frame : List Nat) (s : State) : State :=
  if lowPower s || entering s then (if wakeState s = 2 ∧ pinFirst s 215 ∧ gateFused = false then wakeEvent 9 0 false s else s)
  else if !uhfOn s then s
  else if 32 < len then
    let n := s.gate.oversize + 1
    if 3 ≤ n then uhfFails s else { s with gate := { s.gate with oversize := n } }
  else uhfFrame good carrier frame { s with gate := { s.gate with oversize := 0 } }

/-- The SELECT frame of the first open branch goes out (R467). -/
def sendSelect (s : State) : State :=
  match s.gate.branches with
  | (slot, n, bits) :: _ =>
    lfSend s.gate.ant (selectFrame s slot n bits) (gatePhase 4 { s with gate := { s.gate with seen := 0, gridStart := s.now } })
  | [] => gatePhase 4 { s with gate := { s.gate with seen := 0 } }

/-- Branches still open when the rounds are used up are abandoned (R467). -/
def limitRounds (s : State) : State :=
  if s.gate.branches ≠ [] ∧ s.fld GATE_CFG GATE_CFG_ACOL_MAX ≤ s.gate.rounds then
    raiseEv 228 0xFFFF { s with gate := { s.gate with branches := [] } }
  else s

/-- A slot of the grid ends; after the last one the search of the collided slots begins (R467). -/
def slotEnds (s : State) : State :=
  let n := s.gate.ended + 1
  let t := { s with gate := { s.gate with ended := n } }
  if n = s.gate.slots.length ∧ s.gate.collided ≠ [] then
    let b := s.gate.collided.flatMap (fun c => [(c, 1, 0), (c, 1, 1)])
    sendSelect (limitRounds { t with gate := { t.gate with branches := b } })
  else t

/-- A round of the search ends (R467): a collision extends the prefix by one bit; at 32 bits it cannot be
separated. -/
def roundEnds (s : State) : State :=
  match s.gate.branches with
  | [] => s
  | (slot, n, bits) :: rest =>
    let t := { s with gate := { s.gate with rounds := s.gate.rounds + 1, branches := rest } }
    let t := if s.gate.seen = 2 then
        (if n < 32 then { t with gate := { t.gate with
            branches := (slot, n + 1, 2 * bits) :: (slot, n + 1, 2 * bits + 1) :: rest } }
          else raiseEv 228 0xFFFF t)
      else t
    sendSelect (limitRounds (lfCarrier s.gate.ant false t))

/-- The session has no slot and no branch left. -/
def gateOver (s : State) : Bool :=
  (s.gate.phase == 3 && s.gate.ended == s.gate.slots.length && s.gate.collided == []) ||
  (s.gate.phase == 4 && s.gate.branches == [])

/-- The lowest token index that answered validly, with its zone. -/
def firstValid (s : State) : Option (Nat × Bool) :=
  s.gate.valid.foldl (fun b e => match b with
    | none => some (e.1, e.2.1)
    | some (n, z) => if e.1 < n then some (e.1, e.2.1) else if e.1 = n then some (n, z || e.2.1) else some (n, z)) none

/-- Some valid answer came from inside. -/
def anyInside (s : State) : Bool := s.gate.valid.any (fun e => e.2.1)

/-- An enrolment is completed or refused (R468, R469): whether the token was enrolled, and the state after. -/
def enrol (s : State) : Bool × State :=
  if s.gate.newId = 0 ∨ (s.gate.kind = 2 ∧ s.gate.valid = []) then
    (false, raiseEv 232 0xFFFF (State.setFld GATE_RES GATE_RES_REASON 7 s))
  else if (tokEntry s (s.gate.newId - 1)).isSome then
    (false, raiseEv 232 0xFFFF (State.setFld GATE_RES GATE_RES_REASON 8 s))
  else match tokFree s with
    | none => (false, raiseEv 232 0xFFFF (State.setFld GATE_RES GATE_RES_REASON 6 s))
    | some n =>
      let t := State.setReg (GATE_TOKID n) (BitVec.ofNat 32 (s.gate.newId - 1))
        (State.setReg (GATE_TOK n) (fput GATE_TOK_VALID 1 0#32) s)
      let e := s.fld GATE_STAT GATE_STAT_ENR_CNT
      (true, raiseEv 231 n (State.setFld GATE_STAT GATE_STAT_ENR_CNT (if e < 32 then e + 1 else e) t))

/-- Success of a session (R466, R470). -/
def gateSucceeds (s : State) : State :=
  let t := State.setFld GATE_STAT GATE_STAT_FAIL_CNT 0 (State.setFld GATE_STAT GATE_STAT_RESULT 1 s)
  let t := { t with gate := { t.gate with delayEnd := none } }
  let t := match firstValid s with
    | some (n, z) => State.setFlag GATE_STAT GATE_STAT_ZONE (z || (s.gate.kind == 1 && anyInside s))
        (State.setFld GATE_RES GATE_RES_TOKEN n t)
    | none => t
  let t := raiseEv 224 0xFFFF t
  if s.gate.kind = 1 ∧ s.gate.ignOff = false then
    raiseEv 236 0xFFFF (State.setFlag GATE_STAT GATE_STAT_AUTH true t)
  else t

/-- The session ends with its result (R466, R468, R470); an enrolment that adds its token succeeds (log entry
37). -/
def gateEnds (s : State) : State :=
  let t := State.setFld GATE_RES GATE_RES_NBAD (clampN 0 255 s.gate.bad)
    (State.setFld GATE_RES GATE_RES_NCOLL s.gate.collided.length s)
  let r := if 2 ≤ s.gate.kind then enrol t else (false, t)
  let won := if s.gate.kind = 1 then anyInside s else s.gate.valid != [] || r.1
  let t := if won then gateSucceeds r.2
    else
      let u := raiseEv 225 0xFFFF (State.setFld GATE_STAT GATE_STAT_RESULT 2 r.2)
      if s.gate.valid = [] then gateFailed u else u
  gateClose t

/-! ### Modes and the service code (R469) -/

/-- GMODE becomes `x` at a request of host path `m`. -/
def enterMode (m x : Nat) (s : State) : State :=
  let t := State.setFld GATE_STAT GATE_STAT_GMODE x s
  drawNonce { t with gate := { t.gate with
    modePath := m, modeEnd := if x = 3 then some (s.now + 600000000000) else none } }

/-- TEST or RECOVERY is left. -/
def leaveMode (s : State) : State :=
  if 2 ≤ s.fld GATE_STAT GATE_STAT_GMODE then
    let t := State.setFld GATE_STAT GATE_STAT_GMODE 0 s
    { t with gate := { t.gate with modeEnd := none, armed := false } }
  else s

/-- MODE_REQ is written by master `m` (R469): TEST and RECOVERY need a service session, RECOVERY the ignition
input at 0; START-UP is left by EOL_DONE alone. -/
def onModeReq (m x : Nat) (s : State) : State :=
  if gateFused then s
  else if x = 0 then leaveMode s
  else if gMode s = 1 ∨ hostLevel s m ≠ 2 ∨ x = gMode s then s
  else if x = 2 ∨ (x = 3 ∧ inLevel s (s.fld GATE_CFG GATE_CFG_IGN_IN) = false) then enterMode m x s
  else s

/-- The session of path `m` ends: the mode entered in it is left (R469). -/
def onSessionEnd (m : Nat) (s : State) : State := if s.gate.modePath = m then leaveMode s else s

/-- The service secret code of the present nonce (R469). -/
def serviceCode (s : State) : Nat :=
  let l := leBytes 8 Config.serial.toNat ++ leBytes 4 (s.reg GATE_LNONCE_LO).toNat ++
    leBytes 4 (s.reg GATE_LNONCE_HI).toNat ++ [0x47, 0x48, 0x4C, 0x45, 0x41, 0x52, 0x4E]
  (Config.cmac (kLearn s) l).toNat % 2 ^ 64

/-- A service code is submitted by master `m` (R469, R470). -/
def submitCode (m hi : Nat) (s : State) : State :=
  if gateFused then s
  else if gateDelayed s then gateRefuse 2 s
  else if gMode s = 0 ∨ hostLevel s m ≠ 2 then gateRefuse 3 s
  else if kLearn s = 0 then gateRefuse 4 s
  else if s.gate.lcodeLo.toNat + 2 ^ 32 * hi = serviceCode s then
    drawNonce { s with gate := { s.gate with armed := true } }
  else drawNonce (gateFailed (raiseEv 235 0xFFFF s))

/-- EOL_DONE has been written 1 (R469). -/
def onEol (s : State) : State :=
  if s.flag GATE_EOL GATE_EOL_EOL_DONE ∧ gMode s = 1 ∧ gateFused = false then
    let t := State.setFld GATE_STAT GATE_STAT_GMODE 0 s
    { t with gate := { t.gate with armed := false } }
  else s

/-- A word of K_DER has been written (R463). -/
def onKder (w : Nat) (v : Word) (s : State) : State :=
  if bitOf s.gate.kDerSet w then s
  else
    let b := setBitN s.gate.kDerSet w
    let t := { s with gate := { s.gate with kDer := s.gate.kDer + v.toNat * 2 ^ (32 * w), kDerSet := b } }
    State.setReg (GATE_KDER w) 0#32 (State.setFlag GATE_STAT GATE_STAT_KDER_SET (b == 15) t)

/-! ### Release (R472) -/

/-- Release messages are asked for by the policy. -/
def relOn (s : State) : Bool := enabled s 17 && bitOf (sectionNat s 9 7 1) 0

/-- Ignition-on (R472): the release burst starts. -/
def ignitionOn (s : State) : State :=
  let s := { s with gate := { s.gate with ign := true } }
  if relOn s = false then s
  else if kRel s = 0 then gateRefuse 4 s
  else raiseEv 237 0xFFFF { s with gate := { s.gate with ignOn := some s.now, relCount := 0 } }

/-- Ignition-off (R471, R472). -/
def ignitionOff (s : State) : State :=
  let t := State.setFlag GATE_STAT GATE_STAT_AUTH false s
  { t with gate := { t.gate with ignOn := none, relCount := 0, ignOff := true, ign := false } }

/-- Time after ignition-on of release message `n`, in ns: every 100 ms for 2 s, then every 1 s (log entry
38). -/
def relTime (n : Nat) : Nat := if n < 20 then n * 100000000 else 1900000000 + (n - 19) * 1000000000

/-- The plaintext of a release message. -/
def relPlain (s : State) : List Nat :=
  [if s.flag GATE_STAT GATE_STAT_AUTH then 0x5A else 0, s.fld GATE_RES GATE_RES_TOKEN, s.fld GATE_STAT GATE_STAT_ZONE,
   s.fld GATE_STAT GATE_STAT_FAIL_CNT] ++ leBytes 4 (s.reg KEEPER_LCC).toNat ++ [0, 0, 0, 0]

/-- The message with counter `ctr` for CAN identifier `id`. -/
def relMessage (s : State) (ctr id : Nat) : List Nat :=
  let nonce := Config.serial.toNat + 2 ^ 64 * ctr
  let text := Config.gcmCrypt (kRel s) nonce (relPlain s)
  leBytes 4 ctr ++ (List.range 12).map (fun i => text.getD i 0) ++
    leBytes 16 (Config.gcmTag (kRel s) nonce (leBytes 4 id) text).toNat

/-- The number of the identifier of a transmit object, a standard one as its 11-bit number. -/
def objNumber (s : State) (c n : Nat) : Nat :=
  let id := fget OBJ_ID (s.reg (canWord c n 1))
  if fget OBJ_IDE (objWord s c n) = 1 then id else id / 2 ^ 18

/-- One release message goes into the policy's transmit object (R472). -/
def relSend (s : State) : State :=
  let ctr := (s.reg GATE_CTR).toNat
  if ctr = 0xFFFFFFFF then s
  else
    let c := sectionNat s 9 5 1 % 8
    let n := sectionNat s 9 6 1 % 128
    let l := relMessage s ctr (objNumber s c n)
    let t := if ctr % 256 = 0 then { s with gate := { s.gate with ctrStored := clampN 0 0xFFFFFFFF (ctr + 256) } } else s
    let t := State.setReg GATE_CTR (BitVec.ofNat 32 (ctr + 1)) t
    let t := (List.range 8).foldl (fun t i =>
      canStaged c n (2 + i) (BitVec.ofNat 32 (leNat ((l.drop (4 * i)).take 4))) t) t
    canStaged c n 0 (fput OBJ_TXREQ 1 0#32) { t with gate := { t.gate with relCount := t.gate.relCount + 1 } }

/-- The release message that is due goes out. -/
def relDue (s : State) : State :=
  match s.gate.ignOn with
  | some b => if b + relTime s.gate.relCount ≤ s.now ∧ relOn s then relSend s else s
  | none => s

/-- GATE ENABLE goes to 0 (R326). -/
def gateDisable (s : State) : State :=
  let t := lfStop (gateAbandon s)
  let t := State.setFlag GATE_STAT GATE_STAT_AUTH false t
  { t with gate := { t.gate with ignOn := none, relCount := 0 } }

end Sys2Proof.Machine
end

