-- ==== Sys2Proof/Machine/Gate.lean ====
section
/-! DEFINITION. The commands of the Gatehouse (R463 to R473). -/

namespace Sys2Proof.Machine

/-- LF_FRAME_SENT (R464): 33.1 ms after the trigger the carrier phase of each antenna follows. -/
def execLfFrameSent (s : State) : Host.Outcome State Fault Refusal :=
  finish s (gateStep (fun s => if s.gate.phase = 1 ∧ s.gate.phaseAt + 33100000 ≤ s.now then gatePhase 2 s else s) s)

/-- CARRIER_PHASE_END (R464): after 1 ms of carrier on each antenna the slot grid starts. -/
def execCarrierPhaseEnd (s : State) : Host.Outcome State Fault Refusal :=
  finish s (gateStep (fun s => if s.gate.phase = 2 ∧ s.gate.phaseAt + (lfOrder s.gate.ant).length * 1000000 ≤ s.now then
      lfCarrier s.gate.ant false (gatePhase 3 { s with gate := { s.gate with gridStart := s.now, ended := 0 } })
    else s) s)

/-- UHF_IRQ (R464 to R467, R473). -/
def execUhfIrq (good carrier : Bool) (len : Nat) (frame : List Nat) (s : State) :
    Host.Outcome State Fault Refusal :=
  finish s (gateStep (uhfIrq good carrier len frame) s)

/-- GATE_SLOT_END (R464, R467). -/
def execGateSlotEnd (s : State) : Host.Outcome State Fault Refusal :=
  finish s (gateStep (fun s => if s.gate.phase = 3 ∧ s.gate.ended < s.gate.slots.length ∧
      s.gate.gridStart + (s.gate.ended + 1) * slotTime s ≤ s.now then slotEnds s else s) s)

/-- ANTI_COLLISION_ROUND (R467): a SELECT frame of 23.75 ms and its window have passed. -/
def execAntiCollisionRound (s : State) : Host.Outcome State Fault Refusal :=
  finish s (gateStep (fun s => if s.gate.phase = 4 ∧ s.gate.gridStart + 23750000 + slotTime s ≤ s.now then roundEnds s else s) s)

/-- GATE_SESSION_END (R466, R468, R470). -/
def execGateSessionEnd (s : State) : Host.Outcome State Fault Refusal :=
  finish s (gateStep (fun s => if gateOver s then gateEnds s else s) s)

/-- GATE_DELAY_END (R470). -/
def execGateDelayEnd (s : State) : Host.Outcome State Fault Refusal :=
  finish s (match s.gate.delayEnd with
    | some e => if e ≤ s.now then { s with gate := { s.gate with delayEnd := none } } else s
    | none => s)

/-- GATE_SESSION_ABANDON (R471). -/
def execGateSessionAbandon (s : State) : Host.Outcome State Fault Refusal :=
  finish s (if gateBroken s then gateAbandon s else s)

/-- RECOVERY_MODE_TIMEOUT (R469). -/
def execRecoveryModeTimeout (s : State) : Host.Outcome State Fault Refusal :=
  finish s (match s.gate.modeEnd with
    | some e => if s.fld GATE_STAT GATE_STAT_GMODE = 3 ∧ e ≤ s.now then leaveMode s else s
    | none => s)

/-- IGNITION_ON (R472): a debounced rise of the ignition input since its last fall. -/
def execIgnitionOn (s : State) : Host.Outcome State Fault Refusal :=
  finish s (if inLevel s (s.fld GATE_CFG GATE_CFG_IGN_IN) ∧ s.gate.ign = false then ignitionOn s else s)

/-- RELEASE_MESSAGE (R472). -/
def execReleaseMessage (s : State) : Host.Outcome State Fault Refusal := finish s (relDue s)

/-- IGNITION_OFF (R471, R472): a debounced fall of the ignition input. -/
def execIgnitionOff (s : State) : Host.Outcome State Fault Refusal :=
  finish s (if inLevel s (s.fld GATE_CFG GATE_CFG_IGN_IN) then s else ignitionOff s)

/-- UHF_RECEIVER_FAIL (R473): IRQ has been low for `lowDur` ns. -/
def execUhfReceiverFail (lowDur : Nat) (s : State) : Host.Outcome State Fault Refusal :=
  finish s (if 10000000 ≤ lowDur ∧ uhfOn s then uhfFails s else s)

end Sys2Proof.Machine
end

