-- ==== Sys2Proof/Machine/Pav.lean ====
section
/-! DEFINITION. The meanings of the high-side channel commands (R96 to R122). -/

namespace Sys2Proof.Machine

/-- Channel `g` stands in its inrush window now: the end tick belongs to what follows (R7, R103). -/
def inInrush (s : State) (g : Nat) : Bool :=
  match if pavHitNow s g then (s.chan g).winEnd else (s.chan g).inrEnd with
  | some e => decide (s.now < e)
  | none => false

/-- OC_TH in percent (R102). -/
def ocPercent (s : State) (g : Nat) : Nat := clampN 10 200 (s.fld (PAV_PROT g) PAV_PROT_OC_TH)

/-- INR_TH in percent: a value below OC_TH acts as OC_TH (R102). -/
def inrPercent (s : State) (g : Nat) : Nat :=
  let x := clampN 100 250 (s.fld (PAV_PROT g) PAV_PROT_INR_TH)
  if x < ocPercent s g then ocPercent s g else x

/-- OC_FILT in ns: 2 µs times 2^n, 11 to 15 acting as 10 (R102). -/
def ocFilter (s : State) (g : Nat) : Nat := 2000 * 2 ^ clampN 0 10 (s.fld (PAV_PROT g) PAV_PROT_OC_FILT)

/-- A current of `ma` counts towards the over-current filter (R103, R104): inside the window against
INR_TH, disabled at 250 %, the hard limit not counting; outside against OC_TH, the hard limit always
counting. -/
def ocCounts (s : State) (g ma : Nat) (limit : Bool) : Bool :=
  if inInrush s g then
    !limit && inrPercent s g != 250 && decide (pavNominal s g * inrPercent s g < ma * 100)
  else limit || decide (pavNominal s g * ocPercent s g < ma * 100)

/-- A current of `ma` counts towards the filter inside an inrush window (R103, R104). -/
def windowCounts (s : State) (g ma : Nat) (limit : Bool) : Bool :=
  !limit && inrPercent s g != 250 && decide (pavNominal s g * inrPercent s g < ma * 100)

/-- The filter count of channel `g` for a current that has been `ma` for `dur` ns of on-time (R103): the count is cleared
at every turn-on, holds while a PWM period has the output off, and a current that did not count inside the window starts to
count at its end. -/
def ocCount (s : State) (g ma dur : Nat) (limit : Bool) : Nat :=
  let n := Nat.min dur (onTotal s g)
  if inInrush s g || windowCounts s g ma limit then n else Nat.min n (onAfter s g)

/-- The filter of channel `g` has run for `dur` ns (R102 to R104). -/
def ocLatch (g ma dur : Nat) (limit : Bool) (s : State) : State :=
  if ocCounts s g ma limit && decide (ocFilter s g ≤ ocCount s g ma dur limit) then
    latch g (if limit then .hlim else .ocl) s
  else s

/-- OC_LATCH (R102 to R104): the current of the channel, or of its pair, has been `ma` for `dur` ns of
on-time; `limit`: the hard limit is engaged. -/
def execOcLatch (ch : Fin 96) (ma dur : Nat) (limit : Bool) (s : State) : Host.Outcome State Fault Refusal :=
  finish s (ocLatch (govern s ch) ma dur limit s)

/-- The hard limit has been engaged for `dur` ns inside the inrush window (R104). -/
def hlimLatch (g dur : Nat) (s : State) : State :=
  if inInrush s g && decide (4000000 ≤ Nat.min dur (onTotal s g)) then latch g .hlim s else s

/-- HLIM_LATCH (R104). -/
def execHlimLatch (ch : Fin 96) (dur : Nat) (s : State) : Host.Outcome State Fault Refusal :=
  finish s (hlimLatch (govern s ch) dur s)

/-- The inrush window of channel `g` has ended (R101, R103). -/
def inrushEnd (g : Nat) (s : State) : State :=
  match (s.chan g).inrEnd with
  | none => s
  | some e =>
    if e ≤ s.now then
      let t := State.modChan g (fun c => { c with inrEnd := none }) s
      if pavState s g = pavInrush then setPavState g pavOn t else t
    else s

/-- INRUSH_WINDOW_END (R103). -/
def execInrushWindowEnd (ch : Fin 96) (s : State) : Host.Outcome State Fault Refusal :=
  finish s (inrushEnd (govern s ch) s)

/-- TJ of channel `ch` in the code of PAV_STAT: degrees plus 55 (R124). -/
def putTj (ch : Nat) (tj : Int) (s : State) : State :=
  State.setFld (PAV_STAT ch) PAV_STAT_TJ (clampN 0 255 (tj + 55).toNat) s

/-- TJ of channel `ch` has reached 170 °C (R105): the veto holds, and a channel that is on latches. -/
def thermalLatch (ch : Nat) (tj : Int) (s : State) : State :=
  let t := putTj ch tj s
  if 170 ≤ tj ∧ !s.flag (PAV_STAT ch) PAV_STAT_VETO_T then
    latch (govern s ch) .therm (State.setFlag (PAV_STAT ch) PAV_STAT_VETO_T true t)
  else t

/-- THERMAL_LATCH (R105): the sensor of the channel reads `tj` °C. -/
def execThermalLatch (ch : Fin 96) (tj : Int) (s : State) : Host.Outcome State Fault Refusal :=
  finish s (thermalLatch ch tj s)

/-- TJ of channel `ch` has fallen below 145 °C (R105, R106). -/
def vetoClear (ch : Nat) (tj : Int) (s : State) : State :=
  let t := putTj ch tj s
  if tj < 145 ∧ s.flag (PAV_STAT ch) PAV_STAT_VETO_T then
    vetoCleared (govern s ch) (State.setFlag (PAV_STAT ch) PAV_STAT_VETO_T false t)
  else t

/-- VETO_CLEAR (R105, R106). -/
def execVetoClear (ch : Fin 96) (tj : Int) (s : State) : Host.Outcome State Fault Refusal :=
  finish s (vetoClear ch tj s)

/-- The retry of channel `g` has come due (R107, R110): it is held in undervoltage, Over and Moored hold,
waits in VETOED while a veto holds, and else is performed. -/
def retryDue (g : Nat) (s : State) : State :=
  match (s.chan g).retryDue with
  | none => s
  | some d =>
    if d ≤ s.now ∧ pavState s g = pavLatched then
      let t := State.modChan g (fun c => { c with retryDue := none }) s
      if pavDemand s g && (pavUvNow s (g / 16) || (s.bank (g / 16)).moored) then
        State.modChan g (fun c => { c with retryHeld := true }) t
      else heldRetry g t
    else s

/-- RETRY_DUE (R107). -/
def execRetryDue (ch : Fin 96) (s : State) : Host.Outcome State Fault Refusal :=
  finish s (retryDue (govern s ch) s)

/-- PAV_CMD_WRITE (R97, R100, R101): the die applies word `w` to PAV_CMD of the channel from master `m`. -/
def execPavCmdWrite (m : Sender) (ch : Fin 96) (w : Word) (s : State) : Host.Outcome State Fault Refusal :=
  finish s (applyCommand m.same m.code ch w s)

/-- PAV_CLR (R109): a PAV_CMD write that carries CLR with the present ON and DUTY. -/
def execPavClr (m : Sender) (ch : Fin 96) (s : State) : Host.Outcome State Fault Refusal :=
  finish s (applyCommand m.same m.code ch (fput PAV_CMD_CLR 1 (s.reg (PAV_CMD ch))) s)

/-- Trip constant K of channel `g` in 10^-9 A²s (R111, R124). -/
def wireK (s : State) (g : Nat) : Nat := s.fld (PAV_WIRE g) PAV_WIRE_WIRE_K * 100000000

/-- The wire model runs on channel `g` (R111). -/
def wireRuns (s : State) (g : Nat) : Bool :=
  s.fld (PAV_WIRE g) PAV_WIRE_WIRE_K != 0 && s.fld (PAV_WIRE g) PAV_WIRE_WIRE_TAU != 0

/-- Θ after one millisecond at a mean squared current of `i2` mA² (R111). -/
def wireStep (theta i2 tau : Nat) : Nat := theta + i2 - theta / (1000 * tau)

/-- THETA: Θ/K in 0.5 % units, saturating (R111). -/
def thetaCode (theta k : Nat) : Nat := clampN 0 255 (theta * 200 / k)

/-- The trip of the wire model (R111): WIRE, the veto, EV019 and the fault source; a channel that is on
latches off. -/
def wireTrip (g : Nat) (s : State) : State :=
  let t := State.setFlag (PAV_STAT g) PAV_STAT_VETO_W true s
  if pavLatches s g || latchedNow s g then latch g .wire t
  else
    let d := dieOfPav (g / 16)
    dieFault d (8 + g / 16) (dieEv d 19 g (State.setFlag (PAV_STAT g) PAV_STAT_WIRE true t))

/-- One millisecond of the wire model of channel `g` (R111, R112): a Pavilion that is powered down keeps Θ
frozen. -/
def wireTick (g i2 : Nat) (s : State) : State :=
  if !wireRuns s g then
    if (s.chan g).frozen.isSome then s
    else vetoCleared g (State.modChan g (fun c => { c with theta := 0, warned := false })
      (State.setFlag (PAV_STAT g) PAV_STAT_VETO_W false (State.setFld (PAV_STAT g) PAV_STAT_THETA 0 s)))
  else if (s.bank (g / 16)).moored && !s.flag (PAV_BSTAT (g / 16)) PAV_BSTAT_MOOR then s
  else
    let k := wireK s g
    let c := s.chan g
    let th := wireStep c.theta i2 (s.fld (PAV_WIRE g) PAV_WIRE_WIRE_TAU)
    let warn := decide (8 * k ≤ 10 * th) && !c.warned
    let warned := if 10 * th < 7 * k then false else c.warned || warn
    let t := State.modChan g (fun c => { c with theta := th, warned := warned })
      (State.setFld (PAV_STAT g) PAV_STAT_THETA (thetaCode th k) s)
    let t := if warn then dieEv (dieOfPav (g / 16)) 20 g t else t
    if k ≤ th ∧ !s.flag (PAV_STAT g) PAV_STAT_VETO_W then wireTrip g t
    else if 2 * th < k ∧ s.flag (PAV_STAT g) PAV_STAT_VETO_W then
      vetoCleared g (State.setFlag (PAV_STAT g) PAV_STAT_VETO_W false t)
    else t

/-- WIRE_MODEL_TICK (R111): the mean squared current of the last millisecond was `i2` mA². -/
def execWireModelTick (ch : Fin 96) (i2 : Nat) (s : State) : Host.Outcome State Fault Refusal :=
  finish s (wireTick (govern s ch) i2 s)

/-- The halves of a pair have carried `ia` and `ib` mA for `dur` ns (R96). -/
def pairImbalance (g ia ib dur : Nat) (s : State) : State :=
  let diff := if ia < ib then ib - ia else ia - ib
  if paired s g ∧ pavLive s g ∧ 2000 < ia + ib ∧ 10 * diff > 6 * (ia + ib) ∧ 10000000 ≤ dur then
    dieEv (dieOfPav (g / 16)) 29 g s
  else s

/-- PAIR_IMBALANCE (R96). -/
def execPairImbalance (ch : Fin 96) (ia ib dur : Nat) (s : State) : Host.Outcome State Fault Refusal :=
  finish s (pairImbalance (govern s ch) ia ib dur s)

/-- The Pavilions of class `c` on power die `d` (R13, R113). -/
def pavsOf (d c : Nat) : List Nat := (List.range 6).filter (fun p => dieOfPav p == d && pavClass p == c)

/-- UV_TH of a class in mV (R113). -/
def uvTh (s : State) (c : Nat) : Nat := clampN 45 80 (s.fld (PAV_UV c) PAV_UV_UV_TH) * 100

/-- UV_HYST of a class in mV (R113, R124). -/
def uvHyst (s : State) (c : Nat) : Nat := clampN 2 15 (s.fld (PAV_UV c) PAV_UV_UV_HYST) * 100

/-- VBAT at die `d` has been `mv` for `dur` ns (R113): the class enters undervoltage below UV_TH; EV022 and UVSEEN
tell that a channel turned off (log entry 43). -/
def uvTurnOff (d c mv dur : Nat) (s : State) : State :=
  if mv < uvTh s c ∧ 10000 ≤ dur then
    (pavsOf d c).foldl (fun t p =>
      if (t.uv p).act then t
      else
        let hit := (pavChannels t p).any (fun g => pavLive t g || latchedNow t g)
        let u := uvOff p (State.modUv p (fun u => { u with
          act := true, seen := u.seen || hit, seenAt := if hit then some t.now else u.seenAt }) t)
        if hit then dieEv d 22 p (State.setFlag (PAV_UV c) PAV_UV_UVSEEN true u) else u) s
  else s

/-- UV_TURN_OFF (R113). -/
def execUvTurnOff (die cls : Fin 3) (mv dur : Nat) (s : State) : Host.Outcome State Fault Refusal :=
  finish s (uvTurnOff die cls mv dur s)

/-- VBAT at die `d` has been at or above UV_TH + UV_HYST for 1 ms (R113): the ordered restart begins; while
VBAT stands in Over it follows R114 instead. -/
def uvRestartWindow (d c mv dur : Nat) (s : State) : State :=
  if uvTh s c + uvHyst s c ≤ mv ∧ 1000000 ≤ dur then
    (pavsOf d c).foldl (fun t p =>
      if (t.uv p).act then
        let t := State.modUv p (fun u => { u with act := false }) t
        if inOver t then t else uvRestart p t
      else t) s
  else s

/-- UV_RESTART_WINDOW_END (R113). -/
def execUvRestartWindowEnd (die cls : Fin 3) (mv dur : Nat) (s : State) : Host.Outcome State Fault Refusal :=
  finish s (uvRestartWindow die cls mv dur s)

/-- The next restart slot of Pavilion `p` (R113). -/
def uvRestartSlot (p : Nat) (s : State) : State :=
  match (s.uv p).queue with
  | [] => s
  | g :: rest =>
    if (s.uv p).slotDue ≤ s.now then
      checkRestarted p (uvRestartOne g (State.modUv p (fun u => { u with
        queue := rest, slotDue := u.slotDue + 50000 }) s))
    else s

/-- UV_RESTART_SLOT (R113, R114). -/
def execUvRestartSlot (p : Fin 6) (s : State) : Host.Outcome State Fault Refusal :=
  finish s (uvRestartSlot p s)

/-- The ramp of channel `g` has reached DUTY (R101, R113). -/
def softComplete (g : Nat) (s : State) : State :=
  match (s.chan g).softEnd with
  | none => s
  | some e =>
    if e ≤ s.now ∧ pavState s g = pavSoft then
      let t := State.modChan g (fun c => { c with softEnd := none, duty := s.fld (PAV_CMD g) PAV_CMD_DUTY }) s
      checkRestarted (g / 16) (staticClamp g (setPavState g (if inInrush s g then pavInrush else pavOn) t))
    else s

/-- SOFT_START_COMPLETE (R113). -/
def execSoftStartComplete (ch : Fin 96) (s : State) : Host.Outcome State Fault Refusal :=
  finish s (softComplete (govern s ch) s)

/-- The counts of channel `g` on its die are added to MRAM (R121). -/
def flushCounts (g : Nat) (s : State) : State :=
  State.modChan g (fun c => { c with
    swMram := satAdd 40 c.swMram c.swDie, scMram := satAdd 32 c.scMram c.scDie, swDie := 0, scDie := 0 }) s

/-- The counts of every die that can send them are added to MRAM (R121). -/
def flushAllCounts (s : State) : State :=
  (List.range 96).foldl (fun t g => if dieReports t (dieOfPav (g / 16)) then flushCounts g t else t) s

/-- LIFETIME_COUNTER_FLUSH (R121). -/
def execLifetimeCounterFlush (s : State) : Host.Outcome State Fault Refusal := finish s (flushAllCounts s)

end Sys2Proof.Machine
end

