-- ==== Sys2Proof/Machine/Lock.lean ====
section
/-! DEFINITION. The meanings of the Culvert, lock-strobe, silence, claim and die-reset commands (R13 to R33,
R112, R116 to R120). -/

namespace Sys2Proof.Machine

/-! ### Culverts -/

/-- SEQ of a Culvert frame (R15). -/
def frameSeq (f : BitVec 80) : Nat := (f.extractLsb' 64 8).toNat

/-- ADDR of a Culvert frame (R15). -/
def frameAddr (f : BitVec 80) : Nat := (f.extractLsb' 48 16).toNat

/-- DATA of a Culvert frame (R15). -/
def frameData (f : BitVec 80) : Nat := (f.extractLsb' 16 32).toNat

/-- What a frame brings: the kind that its sender gave it, with ADDR and DATA as they arrive (R15). The manual gives no
codes of TYPE and no coding of ADDR and DATA: here ADDR names the bank of a claim in bits 3:0 and the COMMAND index of a
write, and DATA is the word of a write and the count of a set-complete frame (log entry 66). -/
def framePayload (f : BitVec 80) (p : Payload) : Payload :=
  match p with
  | .heartbeat => .heartbeat
  | .claim _ => .claim (frameAddr f % 16)
  | .moor => .moor
  | .immediate w => .immediate { w with target := lockTarget 1 (frameAddr f), word := frameData f }
  | .lockWrite w => .lockWrite { w with target := lockTarget 1 (frameAddr f), word := frameData f }
  | .setComplete _ => .setComplete (frameData f)

/-- The die of Culvert `cv` has what the frame names: the bank of a claim, the command register of a write (R13). A frame
that names nothing of the die does nothing (log entry 66). -/
def dieHas (cv : Nat) (p : Payload) : Bool :=
  match p with
  | .claim b => decide (b < 15) && dieOfBank b == cv
  | .immediate w | .lockWrite w =>
    (commandAddr (w.target % 0x10000)).isSome && commandDie (w.target % 0x10000) == cv
  | _ => true

/-- The CRC of a Culvert frame is good (R15). -/
def frameGood (f : BitVec 80) : Bool :=
  crcBits 16 0x1021 64 (f.extractLsb' 16 64).toNat 0xFFFF == (f.extractLsb' 0 16).toNat

/-- A bad frame draws a NAK (R17): the sender has spent one attempt with it and, while one is left of the
four, sends it again; the Lodge counts its retransmissions and the bad CRCs it receives (R32). -/
def frameBad (cv : Nat) (toDie crc : Bool) (s : State) : State :=
  let n := (laneOf s cv toDie).attempts + 1
  let t := modLane cv toDie (fun l => { l with attempts := n }) s
  let t := if toDie && decide (n < 4) then State.incFld (SYS_CV_STAT cv) SYS_CV_STAT_RETRANS t else t
  if !toDie && crc then State.incFld (SYS_CV_STAT cv) SYS_CV_STAT_CRCERR t else t

/-- A frame arrives over Culvert `cv` (R15 to R18): a good one in sequence is delivered, a duplicate of the
last one is dropped, any other draws a NAK. Nothing is sent while the link is down. -/
def culvertFrame (cv : Nat) (toDie : Bool) (f : BitVec 80) (s : State) : State :=
  if !cvUp s cv then s
  else
    let l := laneOf s cv toDie
    if !frameGood f then frameBad cv toDie true s
    else if frameSeq f = l.rxSeq then
      let t := modLane cv toDie (fun l => laneTakes l s.now) s
      match (if toDie then l.queue.head? else none) with
      | some p => if dieHas cv (framePayload f p) then takeDown cv (framePayload f p) t else t
      | none => t
    else if (frameSeq f + 1) % 256 = l.rxSeq then s
    else frameBad cv toDie false s

/-- CULVERT_FRAME_RECEIVE (R15 to R18). -/
def execCulvertFrameReceive (cv : Fin 6) (toDie : Bool) (frame : BitVec 80) (s : State) :
    Host.Outcome State Fault Refusal :=
  finish s (culvertFrame cv toDie frame s)

/-- CULVERT_LINK_DOWN (R17): four attempts with one frame have failed. -/
def execCulvertLinkDown (cv : Fin 6) (toDie : Bool) (s : State) : Host.Outcome State Fault Refusal :=
  finish s (if cvUp s cv ∧ 4 ≤ (laneOf s cv toDie).attempts then linkDown cv s else s)

/-- The Harbour sends the levels of all 128 inputs in place of the changes that wait; those that differ from the Lodge's
are changes (R17, R242). -/
def resendLevels (s : State) : State :=
  (List.range 128).foldl (fun t j =>
    let u := State.modInput j (fun x => { x with waiting := [] }) t
    if inLevel t j != (t.input j).ref then imageTakes j (inLevel t j) u else u) s

/-- Every bank of die `d` reads a claim frame of its own (R17, R30). -/
def claimDie (d : Nat) (s : State) : State :=
  (banksOf d).foldl (fun t b => claimBank b (modLane d true (fun l => laneHears l t.now) t)) s

/-- The Lodge runs past the claims of its start (R331, R334). -/
def lodgeRunning (s : State) : Bool := !s.start.lodgeDown && s.fld CHECK_START CHECK_START_STATE == 0

/-- Culvert `cv` trains (R17): UP shows, sequences begin anew, the die drops what it held for the open set,
and reports its states; a die that found a running Lodge silent is claimed. -/
def linkTrained (cv : Nat) (s : State) : State :=
  let t := State.setFlag (SYS_CV_STAT cv) SYS_CV_STAT_UP true s
  let t := State.modCv cv (fun c => { c with
    down := { lastFrame := s.now }, up := { lastFrame := s.now }, count := 0, acked := false, trainFails := 0, stale := 0 }) t
  let t := State.modDie cv (fun d => { d with shadow := [], received := 0, announced := none }) t
  if cv = 5 then deliverHeld 5 (resendLevels t)
  else if (t.die cv).silent then (if lodgeRunning t then claimDie cv t else t)
  else deliverHeld cv t

/-- CULVERT_LINK_TRAINED (R17): only while both ends run and the link is not up. -/
def execCulvertLinkTrained (cv : Fin 6) (s : State) : Host.Outcome State Fault Refusal :=
  finish s (if cvUp s cv ∨ s.start.lodgeDown then s else linkTrained cv s)

/-- CULVERT_TRAINING_ATTEMPT_FAIL (R17): the attempt is repeated; LOST stays set. -/
def execCulvertTrainingAttemptFail (cv : Fin 6) (s : State) : Host.Outcome State Fault Refusal :=
  finish s (if cvUp s cv then s
    else State.modCv cv (fun c => { c with trainFails := c.trainFails + 1 }) s)

/-- A lane has been idle for 8 µs (R18). -/
def laneIdle (s : State) (cv : Nat) (toDie : Bool) : Bool :=
  (laneOf s cv toDie).queue.isEmpty && decide ((laneOf s cv toDie).lastFrame + 8000 ≤ s.now)

/-- HEARTBEAT (R18): after 8 µs without a frame a heartbeat is sent; it arrives intact and opens the silence window
again. -/
def execHeartbeat (cv : Fin 6) (toDie : Bool) (s : State) : Host.Outcome State Fault Refusal :=
  finish s (if cvUp s cv ∧ laneIdle s cv toDie then modLane cv toDie (fun l => laneHears l s.now) s else s)

/-! ### Silence, limp, claim and moor -/

/-- LRST_ASSERTED (R18, R22): every die that takes commands finds the Lodge silent. -/
def execLrstAsserted (s : State) : Host.Outcome State Fault Refusal :=
  finish s (if s.lock.lrst then commandCvs.foldl (fun t d => dieSilent d t) s else s)

/-- Die `d` finds the Lodge silent now: 64 µs without a valid frame, or LRST (R18). -/
def silenceDue (s : State) (d : Nat) : Bool :=
  s.lock.lrst || decide ((s.cv d).down.lastFrame + 64000 ≤ s.now)

/-- LODGE_SILENCE_DETECTED (R18, R29). -/
def execLodgeSilenceDetected (die : Fin 5) (s : State) : Host.Outcome State Fault Refusal :=
  finish s (if silenceDue s die then dieSilent die s else s)

/-- LIMP_EXPIRY (R30, R116, R118): the timer of the bank has reached its expiry tick. -/
def execLimpExpiry (bank : Fin 15) (s : State) : Host.Outcome State Fault Refusal :=
  finish s (if limpDue s bank then limpExpires bank s else s)

/-- MOOR_FRAME (R31). -/
def execMoorFrame (die : Fin 5) (s : State) : Host.Outcome State Fault Refusal :=
  finish s (if cvUp s die then downFrame die .moor (fun t => dieMoor die t) s else s)

/-! ### The lock strobe -/

/-- LOCK_SET_CLOSE (R23, R24). -/
def execLockSetClose (s : State) : Host.Outcome State Fault Refusal := finish s (closeSet s)

/-- SET_COMPLETE_ACK (R24). -/
def execSetCompleteAck (cv : Fin 5) (s : State) : Host.Outcome State Fault Refusal := finish s (ackSet cv s)

/-- LARM_RAISE (R24). -/
def execLarmRaise (s : State) : Host.Outcome State Fault Refusal := finish s (raiseArm s)

/-- At the first strobe in Run after a wake the WAKE notice is owed and EV252 is raised (R59, R352). -/
def tellWake (s : State) : State :=
  if powState s = 0 ∧ inTrans s = false ∧ s.fld CHECK_START CHECK_START_STATE = 0 then
    (s.pow.late.filter (fun e => e.1 == 252)).foldl (fun t e =>
      let t := { t with rep := { t.rep with wakeNote := some ((t.reg WAKE_SOURCE).toNat, t.wwt) } }
      raiseEv 252 e.2 t) { s with pow := { s.pow with late := s.pow.late.filter (fun e => e.1 != 252) } }
  else s

/-- The lock strobe (R22, R25, R256, R259): LSTB toggles; with LARM high every die applies its set, else the
strobe slips; LCC counts, the snapshot is taken, a transition between Run and Idle ends, and the Keepers
are released. -/
def lockStrobe (s : State) : State :=
  let t := { s with
    lock := { s.lock with lstb := !s.lock.lstb, strobeAt := some s.now }
    rep := { s.rep with keeperWords := [] } }
  let t := if s.lock.larm then strobeApplies t else strobeSlips t
  let t := tellWake (strobePower (takeSnapshot (mirrorRegs s) s.rep.keeperWords (countLcc t)))
  let t := { t with kp := { t.kp with lockT := lockSetting t } }
  (List.range 8).foldl (fun t k => strobeKeeper k t) t

/-- LOCK_STROBE (R22, R25): at the end of the present cycle. -/
def execLockStrobe (s : State) : Host.Outcome State Fault Refusal :=
  finish s (if s.start.lodgeDown || !cycleAt s 0 then s else lockStrobe s)

/-- LARM may fall: 0.2 µs after the strobe that it was raised for (R22). -/
def larmHeld (s : State) : Bool :=
  s.lock.closed || (match s.lock.strobeAt with
    | some t => decide (s.now < t + 200)
    | none => false)

/-- LARM_DROP (R22): LARM is held until 0.2 µs after the strobe that it was raised for. -/
def execLarmDrop (s : State) : Host.Outcome State Fault Refusal :=
  finish s (if larmHeld s then s else { s with lock := { s.lock with larm := false } })

/-- IMMEDIATE_COMMAND_APPLY (R16, R26): the class 1 frame reaches its die once no frame is before it on the lane. -/
def execImmediateCommandApply (cv : Fin 5) (s : State) : Host.Outcome State Fault Refusal :=
  finish s (match (s.cv cv).down.queue with
    | .immediate w :: _ =>
      if cvUp s cv then applyImmediate cv w (modLane cv true (fun l => laneTakes l s.now) s) else s
    | _ => s)

/-! ### A die that resets -/

/-- What a register word of a die becomes when the die resets (log entry 26): configuration that the Chart
loads stays until the cold start loads it again; commands, states and counters return to the Reset
column. -/
def dieWord (d a : Nat) (v : Word) : Word :=
  match regAt a with
  | none => v
  | some (r, i) =>
    if (homeDies r i).contains d then
      r.fields.foldl (fun w f =>
        if f.acc == .wl || (f.acc == .rw && f.pr) then fput f.fld (fget f.fld v) w else w) (regReset a)
    else v

/-- A channel after the reset of its die: Θ at 50 % of K, the counts in MRAM kept (R112, R121). -/
def chanReset (s : State) (g : Nat) (c : Chan) : Chan :=
  { theta := (if wireRuns s g then wireK s g / 2 else 0), swMram := c.swMram, scMram := c.scMram,
    endured := c.endured }

/-- The hidden state of the channels of power die `d` after its reset. -/
def pavDieReset (d : Nat) (s : State) : State :=
  let t := (List.range 96).foldl (fun t g =>
    if dieOfPav (g / 16) = d then
      State.modMch g (fun x => { x with
        testEnd := none, burstDue := 0, openBursts := 0, offKind := 0, offCount := 0, good := 0, codeBy := 0, stretchLeft := 0,
        sumVI := 0, sumII := 0, count := 0 })
        (State.modChan g (fun c => chanReset s g c) t)
    else t) s
  (List.range 6).foldl (fun t p =>
    if dieOfPav p = d then State.modArb p (fun _ => {}) (State.modUv p (fun _ => {}) t) else t) t

/-- THETA of the channels of power die `d`, as their wire models restart (R111, R112). -/
def showThetas (d : Nat) (s : State) : State :=
  (List.range 96).foldl (fun t g =>
    if dieOfPav (g / 16) = d ∧ wireRuns t g then
      State.setFld (PAV_STAT g) PAV_STAT_THETA (thetaCode (t.chan g).theta (wireK t g)) t
    else t) s

/-- Die `d` resets after loss of its supply (R112, R191, R330): its outputs are off until it is claimed, its
link trains anew, and the start that follows is cold (R329). -/
def dieReset (d : Nat) (s : State) : State :=
  let t := { s with regs := regsMap (dieWord d) s.regs }
  let t := if d < 3 then pavDieReset d t
    else if d = 3 then
      { t with
        valves := [], fieldOuts := [], fieldBank := {}, bridges := {},
        motors := Tab.map {} (fun x => { savedPos := x.savedPos, savedNorm := x.savedNorm, saved := x.saved }) t.motors }
    else
      { t with
        elems := [], sources := [], trellis := { savedGains := t.trellis.savedGains },
        sup := { t.sup with rails := [], blShed := [] } }
  let t := (banksOf d).foldl (fun t b => State.modBank b (fun _ => {}) t) t
  let t := State.modDie d (fun _ => { silent := true }) t
  let t := State.setFlag (SYS_CV_STAT d) SYS_CV_STAT_UP false
    (State.modCv d (fun _ => { downSinceOpen := true }) t)
  let t := { t with start := { t.start with warmNext := false, warmValid := false } }
  if d < 3 then showThetas d t else t

/-- DIE_RESET (R112, R329, R330). -/
def execDieReset (die : Fin 5) (s : State) : Host.Outcome State Fault Refusal := finish s (dieReset die s)

end Sys2Proof.Machine
end

