-- ==== Sys2Proof/Machine/Lin.lean ====
section
/-! DEFINITION. The LIN, 10BASE-T1S and SENT commands (R368 to R374). -/

namespace Sys2Proof.Machine

/-- Channel `ch` hears its bus: it runs, its transceiver receives, and no handshake has stopped it (R379,
R391). -/
def linLive (s : State) (ch : Nat) : Bool :=
  linRuns s ch && decide (2 ≤ xcvState s (6 + ch)) && s.pow.stage == 0

/-- A frame of channel `ch` ends: the channel hears its bus, or completes a frame begun before LIN was disabled (R326). -/
def linHears (s : State) (ch : Nat) : Bool :=
  linLive s ch || (linEnds s ch && decide (2 ≤ xcvState s (6 + ch)) && s.pow.stage == 0)

/-- LIN_SCHEDULE_SLOT (R369): the present slot has ended; a switch of tables takes effect first. -/
def execLinScheduleSlot (ch : Fin 12) (s : State) : Host.Outcome State Fault Refusal :=
  finish s (if linRuns s ch ∧ linCommander s ch ∧ s.pow.stage = 0 ∧ (s.lin ch).slotEnd ≤ s.now then
      linNextSlot ch (xcvState s (6 + ch) == 3) (linSwitch ch s)
    else s)

/-- A LIN frame completes (R369, R370). -/
def linArrives (ch id d : Nat) (s : State) : State :=
  let t := State.modLin ch (fun x => { x with lastActive := s.now, header := none }) s
  linStore ch id d (if id = 0x3C ∧ d % 256 = 0 then linSleepCmd ch t else t)

/-- LIN_FRAME_RECEIVE (R369). -/
def execLinFrameReceive (ch : Fin 12) (id : Fin 64) (data : BitVec 64) (s : State) :
    Host.Outcome State Fault Refusal :=
  finish s (if linHears s ch then linArrives ch id data.toNat s else s)

/-- LIN_ERROR (R371): kinds as in `linError`; a bus short has lasted `dur` of at least 100 ms, and a response is missing
`dur` after the start of the break, past the time of R368. -/
def execLinError (ch : Fin 12) (id : Fin 64) (kind : Fin 4) (dur : Nat) (s : State) :
    Host.Outcome State Fault Refusal :=
  finish s (if linHears s ch ∧ (kind = 3 → 100000000 ≤ dur) ∧
      (kind = 1 → linFrameTime s ch (s.linFrame ch id).len ≤ dur) then
      linError ch id kind (State.modLin ch (fun x => { x with lastActive := s.now, header := none }) s)
    else s)

/-- A responder takes a header: a break of 11 bits or more and, with AUTOBAUD, a rate within ±15 % of RATE
(R368). -/
def linTakes (s : State) (ch breakBits rate : Nat) : Bool :=
  decide (11 ≤ breakBits) &&
  (!s.flag (LIN_CFG ch) LIN_CFG_AUTOBAUD ||
    decide (85 * linRate s ch ≤ 100 * rate ∧ 100 * rate ≤ 115 * linRate s ch))

/-- A responder answers an identifier it publishes (R369). -/
def linAnswer (ch id : Nat) (s : State) : State :=
  let f := s.linFrame ch id
  let t := State.modLin ch (fun x => { x with lastActive := s.now, header := some s.now }) s
  if f.dir = 1 ∧ xcvState s (6 + ch) = 3 then State.send (.linData ch id (linEnhanced f id) (linBytes f)) t else t

/-- LIN_HEADER (R368, R369). -/
def execLinHeader (ch : Fin 12) (id : Fin 64) (breakBits rate : Nat) (s : State) :
    Host.Outcome State Fault Refusal :=
  finish s (
    let t := if linLive s ch then State.modLin ch (fun x => { x with lastActive := s.now }) s else s
    if linLive s ch ∧ linCommander s ch = false ∧ linTakes s ch breakBits rate then linAnswer ch id t else t)

/-- A frame with an error without working PLCA may have met a collision, which COLL counts; whether it did is a free
value (R372, R378; log entry 29). -/
def t1sCollides (p : Nat) (s : State) : State :=
  if s.flag (T1S_CFG p) T1S_CFG_PLCA_EN && s.flag (T1S_STAT p) T1S_STAT_PLCA_OK then s
  else
    let t := s.drawn
    if bitOf (s.free 1).toNat 0 then State.incFld (T1S_STAT p) T1S_STAT_COLL t else t

/-- A frame of a 10BASE-T1S segment (R372): a bad one is an error; a good one that the filter passes goes to
the Warden. A frame under PLCA shows that beacons arrive (log entry 29). -/
def t1sArrives (p dest : Nat) (bytes : List Nat) (bad : Bool) (s : State) : State :=
  if bad then raiseEv 151 p (State.setFlag (T1S_STAT p) T1S_STAT_RXERR true (t1sCollides p s))
  else
    let t := if s.flag (T1S_CFG p) T1S_CFG_PLCA_EN then State.setFlag (T1S_STAT p) T1S_STAT_PLCA_OK true s else s
    if t1sPasses s p dest ∧ bytes.length ≤ 1522 then
      { t with bus := { t.bus with t1sRx := t.bus.t1sRx ++ [(p, bytes)] } }
    else t

/-- T1S_FRAME_RECEIVE (R372). -/
def execT1sFrameReceive (p : Fin 2) (dest : Nat) (bytes : List Nat) (bad : Bool) (s : State) :
    Host.Outcome State Fault Refusal :=
  finish s (if t1sRuns s p (t1sTime bytes.length) then t1sArrives p dest bytes bad s else s)

/-- PLCA_BEACON_LOST (R372). -/
def execPlcaBeaconLost (p : Fin 2) (s : State) : Host.Outcome State Fault Refusal :=
  finish s (if t1sRuns s p 0 ∧ s.flag (T1S_STAT p) T1S_STAT_PLCA_OK then
      let t := State.setFlag (T1S_STAT p) T1S_STAT_LOST true (State.setFlag (T1S_STAT p) T1S_STAT_PLCA_OK false s)
      raiseFault (84 + p) (raiseEv 150 p t)
    else s)

/-- A SENT fast frame whose calibration pulse began `ago` ns ago (R359, R373, R374): calibration first, then CRC; a valid
one is written as one value. -/
def sentFast (i cal status data : Nat) (crcOk : Bool) (ago : Nat) (s : State) : State :=
  let t := State.modSent i (fun x => { x with lastCal := cal }) s
  if !sentCalOk s i cal then sentError i SENT_STAT_CALERR 153 t
  else if !crcOk then sentError i SENT_STAT_CRCERR 152 t
  else
    let n := clampN 1 6 (s.fld (SENT_CFG i) SENT_CFG_NIBBLES)
    let t := State.setReg (SENT_FAST i)
      (fput SENT_FAST_FRESH 1 (fput SENT_FAST_STATUS status (fput SENT_FAST_DATA (data % 16 ^ n) 0#32))) t
    let t := State.setReg (SENT_TS i) (usStamp (s.wwt - ago)) t
    State.modSent i (fun x => { x with lastValid := s.now, timedOut := false }) t

/-- SENT_FAST_FRAME (R374). -/
def execSentFastFrame (i : Fin 4) (cal status data : Nat) (crcOk : Bool) (ago : Nat) (s : State) :
    Host.Outcome State Fault Refusal :=
  finish s (if sentRuns s i then sentFast i cal status data crcOk ago s else s)

/-- SLOW asks for a slow message of `kind`: 1 short, 2 and 3 enhanced (R373). -/
def sentTakesSlow (s : State) (i kind : Nat) : Bool :=
  let m := s.fld (SENT_CFG i) SENT_CFG_SLOW
  (m == 1 && kind == 1) || (m == 2 && (kind == 2 || kind == 3))

/-- SENT_SLOW_MESSAGE (R374). -/
def execSentSlowMessage (i : Fin 4) (kind id data : Nat) (s : State) : Host.Outcome State Fault Refusal :=
  finish s (if sentRuns s i ∧ sentTakesSlow s i kind then
      raiseEv 154 i (State.setReg (SENT_SLOW i)
        (fput SENT_SLOW_FRESH 1 (fput SENT_SLOW_KIND kind (fput SENT_SLOW_ID id (fput SENT_SLOW_SDATA data 0#32)))) s)
    else s)

/-- SENT_TIMEOUT (R374): reported once for each last valid frame. -/
def execSentTimeout (i : Fin 4) (s : State) : Host.Outcome State Fault Refusal :=
  finish s (
    let lim := s.fld (SENT_CFG i) SENT_CFG_SENT_TO * 1000000
    if sentRuns s i ∧ 0 < lim ∧ (s.sent i).timedOut = false ∧ (s.sent i).lastValid + lim ≤ s.now then
      let t := State.modSent i (fun x => { x with timedOut := true }) s
      raiseFault (80 + i) (raiseEv 155 i (State.setFlag (SENT_STAT i) SENT_STAT_TIMEOUT true t))
    else s)

end Sys2Proof.Machine
end

