-- ==== Sys2Proof/Machine/Netpm.lean ====
section
/-! DEFINITION. Transceiver wakes, keep-awake frames and the maximum-awake time (R379 to R394). -/

namespace Sys2Proof.Machine

/-- A source of `kind` with `index` wakes from the low-power state that counts (R347). -/
def wakeListed (s : State) (kind index : Nat) : Bool :=
  let st := wakeState s
  match kind with
  | 1 => true
  | 2 => st == 2 || firstBits (s.fld POWER_CFG POWER_CFG_PN_BERTH) 2 index
  | 3 => pnOn s st index
  | 4 => st == 2
  | 5 => s.flag POWER_CFG POWER_CFG_AQ_WAKE
  | 6 => s.flag POWER_CFG POWER_CFG_TP_WAKE
  | 7 => s.fld POWER_CFG POWER_CFG_WAKE_TMR != 0
  | 8 => true
  | 9 => st == 2
  | 10 => true
  | _ => false

/-- The module stands in a low-power state, on its way there, or was woken in this instant (R344, R347). -/
def canBeWoken (s : State) : Bool := lowPower s || entering s || wokenNow s

/-- A wake of transceiver `t` is detected (R385): WKF is set; in Run and Idle it raises its event, and it counts as a
wake where R347 lists it. -/
def xcvWakeIn (t kind : Nat) (multi : Bool) (s : State) : State :=
  let u := runWake t kind (latchWkf t s)
  let i := if t < 6 then t else t - 6
  if !canBeWoken s || !wakeListed s kind i then u
  else if t < 6 then canWake kind i multi u
  else wakeEvent kind i multi u

/-- `xcvWakeIn` for one source. -/
def xcvWake (t kind : Nat) (s : State) : State := xcvWakeIn t kind false s

/-- The detector of transceiver `t` is armed (R379). -/
def xcvArmed (s : State) (t : Nat) : Bool :=
  s.flag (NETPM_XCV t) NETPM_XCV_ARMED && (if t < 6 then canPins s t else pinFirst s (171 + t))

/-- WUF of CAN transceiver `c`, in ns (R382, R395). -/
def wuf (s : State) (c : Nat) : Nat := clampN 5 50 (s.fld (NETPM_XCV c) NETPM_XCV_WUF) * 100

/-- WUP_TO of CAN transceiver `c`, in ns. -/
def wupTo (s : State) (c : Nat) : Nat := clampN 1 10 (s.fld (NETPM_XCV c) NETPM_XCV_WUP_TO) * 500000

/-- LWAKE of LIN transceiver `t`, in ns (R383). -/
def lwake (s : State) (t : Nat) : Nat := clampN 3 15 (s.fld (NETPM_XCV t) NETPM_XCV_WUF) * 10000

/-- CAN_WAKE_PATTERN (R382): the three phases, and the time from the start of the first to the count of the
third, in ns. -/
def execCanWakePattern (c : Fin 6) (p1 p2 p3 total : Nat) (s : State) : Host.Outcome State Fault Refusal :=
  finish s (
    let w := wuf s c
    if xcvArmed s c ∧ selectiveOn s c = false ∧ w ≤ p1 ∧ w ≤ p2 ∧ w ≤ p3 ∧ total < wupTo s c then xcvWake c 2 s
    else s)

/-- LIN_WAKE (R383): a dominant pulse of `dur` ns has returned to recessive. -/
def execLinWake (ch : Fin 12) (dur : Nat) (s : State) : Host.Outcome State Fault Refusal :=
  finish s (
    let t := State.modLin ch (fun x => { x with lastActive := s.now }) s
    if xcvArmed s (6 + ch) ∧ lwake s (6 + ch) ≤ dur then xcvWake (6 + ch) 4 t else t)

/-- Frame `f` matches the selective-wake filter of channel `c` (R384). -/
def pnMatches (s : State) (c : Nat) (f : CanFrame) (remote : Bool) : Bool :=
  let dlc := s.fld (NETPM_PN_CFG c) NETPM_PN_CFG_PN_DLC
  let mask := (s.reg (NETPM_PN_DLO c)).toNat + 2 ^ 32 * (s.reg (NETPM_PN_DHI c)).toNat
  !remote && f.ide == s.flag (NETPM_PN_CFG c) NETPM_PN_CFG_IDE &&
  ((BitVec.ofNat 32 f.id ^^^ s.reg (NETPM_PN_ID c)) &&& s.reg (NETPM_PN_MASK c) &&& 0x1FFFFFFF#32) == 0#32 &&
  f.data.length == dlc && (dlc == 0 || (leNat (f.data.take 8) &&& mask) != 0)

/-- NETPM_WAKEID takes the identifier of a selective wake of the module (R386). -/
def selectiveId (c : Nat) (f : CanFrame) (s : State) : State :=
  if canBeWoken s ∧ wakeListed s 3 c ∧ suppressed s c = false then
    State.setReg NETPM_WAKEID (fput NETPM_WAKEID_CH c (fput NETPM_WAKEID_ID (shownId f.ide f.id) 0#32)) s
  else s

/-- A frame that the selective-wake decoder of channel `c` sees (R384). -/
def pnFrame (c : Nat) (f : CanFrame) (remote err : Bool) (s : State) : State :=
  let fec := s.fld (NETPM_PN_CFG c) NETPM_PN_CFG_FEC
  if err then
    let t := State.incFld (NETPM_PN_CFG c) NETPM_PN_CFG_FEC s
    if fec = 31 then
      xcvWake c 3 (lateEv 163 c (State.setFlag (NETPM_PN_CFG c) NETPM_PN_CFG_FECW true t))
    else t
  else
    let t := if 0 < fec then State.setFld (NETPM_PN_CFG c) NETPM_PN_CFG_FEC (fec - 1) s else s
    if pnMatches s c f remote then xcvWake c 3 (selectiveId c f t) else t

/-- SELECTIVE_WAKE_FRAME (R384, R386): FD frames are ignored with FD_PASSIVE, and a frame sent at another rate than
RATE shows as one with an error. -/
def execSelectiveWakeFrame (c : Fin 6) (f : CanFrame) (remote : Bool) (err : FrameSeen) (s : State) :
    Host.Outcome State Fault Refusal :=
  finish s (if xcvArmed s c ∧ selectiveOn s c ∧
      (f.fmt = 0 ∨ s.flag (NETPM_PN_CFG c) NETPM_PN_CFG_FD_PASSIVE = false) then
      pnFrame c f remote (err.bad || err.rate.val != s.fld (NETPM_PN_CFG c) NETPM_PN_CFG_RATE) s
    else s)

/-- RUN_TRANSCEIVER_WAKE (R385): a wake detected while the module runs. -/
def execRunTransceiverWake (t : Fin 18) (s : State) : Host.Outcome State Fault Refusal :=
  finish s (if xcvArmed s t ∧ canBeWoken s = false then
      xcvWake t (if 6 ≤ t.val then 4 else if selectiveOn s t then 3 else 2) s
    else s)

/-- Responder channel `ch` follows its bus to sleep now (R387): SLEEPCMD, or 4 s without an edge, which the Lodge counts
from its start on where it has seen none since. -/
def linFollows (s : State) (ch : Nat) : Bool :=
  linRuns s ch && !linCommander s ch && s.flag (NETPM_XCV (6 + ch)) NETPM_XCV_SLP_FOLLOW &&
  xcvState s (6 + ch) != 0 && powState s < 2 &&
  (s.flag (LIN_STAT ch) LIN_STAT_SLEEPCMD || decide (max (s.lin ch).lastActive s.start.trigger + 4000000000 ≤ s.now))

/-- LIN_SLEEP_FOLLOW (R387). -/
def execLinSleepFollow (ch : Fin 12) (s : State) : Host.Outcome State Fault Refusal :=
  finish s (if linFollows s ch then raiseEv 171 ch (setXcv (6 + ch) 0 s) else s)

/-- An identifier matches the keep-awake filter of channel `c` (R388). -/
def keepMatches (s : State) (c : Nat) (ide : Bool) (id : Nat) : Bool :=
  let mask := s.reg (NETPM_KMSK c) &&& 0x1FFFFFFF#32
  mask != 0#32 && ide == s.flag (NETPM_KID c) NETPM_KID_KIE &&
  ((BitVec.ofNat 32 id ^^^ s.reg (NETPM_KID c)) &&& mask) == 0#32

/-- HOLDING of channel `c` (R388). -/
def setHolding (c : Nat) (b : Bool) (s : State) : State :=
  State.setFld NETPM_STAT NETPM_STAT_HOLDING
    (if b then setBitN (holding s) c else clrBitN (holding s) c) s

/-- KEEP_AWAKE_FRAME (R388): an error-free frame that the controller receives. -/
def execKeepAwakeFrame (c : Fin 6) (ide : Bool) (id : Nat) (s : State) : Host.Outcome State Fault Refusal :=
  finish s (if canHears s c 0 ∧ enabled s 14 ∧ keepMatches s c ide id then
      setHolding c true { s with net := { s.net with
        keep := Tab.put s.net.keep (0, 0) c (s.now + 1, shownId ide id) } }
    else s)

/-- NM_TO in ns; 0 acts as 1 s (R388, R395). -/
def nmTo (s : State) : Nat := zeroAsOne (s.fld NETPM_AWAKE NETPM_AWAKE_NM_TO) * 1000000000

/-- KEEP_AWAKE_TIMEOUT (R388). -/
def execKeepAwakeTimeout (c : Fin 6) (s : State) : Host.Outcome State Fault Refusal :=
  finish s (
    let last := (Tab.get s.net.keep (0, 0) c).1
    if bitOf (holding s) c ∧ last + nmTo s ≤ s.now + 1 then setHolding c false s else s)

/-- MAX_AWAKE in ns (R389). -/
def maxAwake (s : State) : Nat := clampN 1 1440 (s.fld NETPM_AWAKE NETPM_AWAKE_MAX_AWAKE) * 60000000000

/-- The maximum-awake time is enforced (R389): the culprits are recorded and Berthed is requested. -/
def enforceSleep (s : State) : State :=
  let h := holding s
  let c := lowestBit h
  let id := (Tab.get s.net.keep (0, 0) c).2
  let t := State.setFld NETPM_STAT NETPM_STAT_CULPRIT h s
  let t := State.setReg NETPM_CULPRIT (fput NETPM_CULPRIT_CH c (fput NETPM_CULPRIT_ID id 0#32)) t
  let t := raiseEv 164 c (State.incFld NETPM_STAT NETPM_STAT_ENF_CNT t)
  let u := requestState 3 { t with net := { t.net with awakeStart := some s.now } }
  if inTrans s then { u with net := { u.net with enfPend := true } } else { u with net := { u.net with enforced := true } }

/-- MAX_AWAKE_EXPIRY (R389): at the end tick, while no local reason holds (R393). -/
def execMaxAwakeExpiry (s : State) : Host.Outcome State Fault Refusal :=
  finish s (match s.net.awakeStart with
    | some b =>
      if b + maxAwake s ≤ s.now ∧ localReason s = false ∧ holding s ≠ 0 ∧
          s.fld NETPM_AWAKE NETPM_AWAKE_MAX_AWAKE ≠ 0 then enforceSleep s
      else s
    | none => s)

/-- HOLDOFF_EXPIRY (R390). -/
def execHoldoffExpiry (s : State) : Host.Outcome State Fault Refusal :=
  finish s (match s.net.holdEnd with
    | some e => if e ≤ s.now then endHoldoff s else s
    | none => s)

/-- A write of NETPM_XCV reaches the Harbour (R379, R383): in Run and Idle a write of REQ selects the state, and WKSEND
makes a LIN transceiver in Normal drive a wake pulse. -/
def onXcvWrite (t : Nat) (send req : Bool) (s : State) : State :=
  let u := if send ∧ 6 ≤ t ∧ xcvState s t = 3 then
      State.send (.linWake (t - 6)) (State.modLin (t - 6) (fun x => { x with lastActive := s.now }) s) else s
  if req ∧ powState u < 2 ∧ u.pow.stage = 0 then setXcv t (u.fld (NETPM_XCV t) NETPM_XCV_REQ) u else u

/-- HEN_STATE (R381): an output is high while a transceiver tied to it is not in Sleep or has detected a
wake, or by HEN_FORCE, which acts as 0 in Berthed. -/
def henState (s : State) : Nat :=
  let force := if powState s = 3 then 0 else s.fld NETPM_HEN NETPM_HEN_HEN_FORCE
  (List.range 4).foldl (fun m n =>
    let tied := (List.range 18).any (fun t =>
      s.fld (NETPM_XCV t) NETPM_XCV_HSEL == n &&
      (xcvState s t != 0 || bitOf s.net.woken t))
    if (tied || bitOf force n) && pinFirst s (233 + n) then setBitN m n else m) 0

end Sys2Proof.Machine
end

