-- ==== Sys2Proof/Machine/Bus.lean ====
section
/-! DEFINITION. The register bus: what an access finds at an address, what a read returns, and what a
write makes the hardware do besides storing the word (R34 to R48). -/

namespace Sys2Proof.Machine

/-! ### Host commands that are not answered yet (R52) -/

/-- The path that a waiting command came by. -/
def cmdPath (c : Instr) : Option Nat :=
  match c with
  | .read h _ | .write h _ _ | .blockRead h _ _ | .sessionOpen h _ _ _ _ _ | .power h _ _ | .piece h _ _ _ _
  | .logRead h _ _ | .logClear h _ | .enable h _ _ | .unknownType h _ | .dieAccessTimeout _ _ _ h => some (9 + h.path.val)
  | _ => none

/-- Commands of path `m` that are not answered yet: those that wait, those that ask for a check, and a LOG CLEAR in
progress (R52). -/
def outstanding (s : State) (m : Nat) : Nat :=
  s.upd.waiting.countP (fun c => cmdPath c == some m) + s.start.askers.countP (fun a => a.2.1 == m) +
    b2n (match s.rep.clearAsk with
      | some a => a.1 == m
      | none => false)

/-! ### Derived words -/

/-- Bits of the 32 objects of group `j` of controller `c` whose flag `f` is 1 (R376). -/
def objBits (s : State) (c j : Nat) (f : Fld) : Word :=
  BitVec.ofNat 32 (((List.range 32).filter (fun b => fget f (objWord s c (32 * j + b)) == 1)).foldl setBitN 0)

/-- SYS_VARIANT of the part (R5). -/
def variantWord : Word :=
  match Config.variant with
  | .a => 0#32
  | .h => 0x10#32
  | .ae => 1#32

/-- Whole milliseconds left of the Gatehouse delay, a part counting as one (R470). -/
def delayLeft (s : State) : Nat :=
  match s.gate.delayEnd with
  | some e => (e - s.now + 999999) / 1000000
  | none => 0

/-- Bitmap bits set (R493). -/
def piecesHeld (s : State) : Nat :=
  ((List.range 128).map (fun w => ((List.range 32).filter (fun b => bitOf (s.reg (UPD_BITMAP w)).toNat b)).length)).foldl
    (· + ·) 0

/-- LC_STAT of sink `k`: a follower shows its leader's STATE and CODE (R203). -/
def lcWord (s : State) (k : Nat) : Word :=
  let w := s.reg (LC_STAT k)
  if isFollower s k then
    let l := s.reg (LC_STAT (leaderOf s k 7))
    fput LC_STAT_STATE (fget LC_STAT_STATE l) (fput LC_STAT_CODE (fget LC_STAT_CODE l) w)
  else w

/-- The measured value `k` of die `d` at its last update, of `w` bits (R507, log entry 17): 0 before the first one. -/
def measuredAt (s : State) (d k w : Nat) : Nat :=
  match (s.die d).seen with
  | 0 => 0
  | n + 1 => freeAt w (n + k)

/-- The word of row `r`, entry `i`, with the fields that the dies measure at an interval of their own (R507): SLU_MEAS,
IBANK, BR_MEAS, BL_MEAS and the IOUT of a rail that is on. -/
def measuredWord (s : State) (r : RegRow) (i : Nat) (w : Word) : Word :=
  if r.base = SLU_MEAS 0 then
    fput SLU_MEAS_I (measuredAt s 3 i 16) (fput SLU_MEAS_DUTY (measuredAt s 3 (24 + i) 8) w)
  else if r.base = SLU_BSTAT 0 then fput SLU_BSTAT_IBANK (measuredAt s 3 (48 + i) 8) w
  else if r.base = BR_MEAS 0 then fput BR_MEAS_I (measuredAt s 3 (52 + i) 16) w
  else if r.base = BL_MEAS 0 then fput BL_MEAS_IOUT (measuredAt s 4 i 16) w
  else if r.base = CR_STAT 0 then
    if fget CR_STAT_ON w = 1 ∧ (s.die 4).seen ≠ 0 then fput CR_STAT_IOUT (measuredAt s 4 (4 + i) 16) w else w
  else w

/-- LF_STAT of antenna `a`: ON while its carrier runs, IPK the peak of its last carrier (R464, R477). -/
def lfWord (s : State) (a : Nat) : Word :=
  let w := fput LF_STAT_ON (b2n (lfRuns s a)) (s.reg (LF_STAT a))
  match Tab.get s.gate.ipk 0 a with
  | 0 => w
  | n + 1 => fput LF_STAT_IPK (freeAt 16 n) w

/-- CAN_TDC of controller `c`: TDCV the delay last measured (R355). -/
def tdcWord (s : State) (c : Nat) : Word :=
  match (s.can c).tdc with
  | 0 => s.reg (CAN_TDC c)
  | n + 1 => fput CAN_TDC_TDCV (freeAt 8 n) (s.reg (CAN_TDC c))

/-- PAV_UV of class `c`: UVACT and UVSEEN are the OR over the dies of the class (R124). -/
def uvWord (s : State) (c : Nat) : Word :=
  fput PAV_UV_UVACT (b2n ((s.uv (2 * c)).act || (s.uv (2 * c + 1)).act))
    (fput PAV_UV_UVSEEN (b2n ((s.uv (2 * c)).seen || (s.uv (2 * c + 1)).seen)) (s.reg (PAV_UV c)))

/-- The word that entry `i` of row `r` reads as, for master `m`: the stored word, or what the manual derives
from other state. -/
def readWord (s : State) (m : Nat) (r : RegRow) (i : Nat) : Word :=
  let w := s.reg (r.addrOf i)
  if r.base = PAV_CMD 0 then s.reg (PAV_CMD (govern s i))
  else if r.base = PAV_STAT 0 then
    let g := govern s i
    fput PAV_STAT_VETO_T (b2n (s.flag (PAV_STAT g) PAV_STAT_VETO_T || (paired s g && s.flag (PAV_STAT (g + 1)) PAV_STAT_VETO_T)))
      (fput PAV_STAT_TJ (fget PAV_STAT_TJ w) (s.reg (PAV_STAT g)))
  else if r.base = PAV_UV 0 then uvWord s i
  else if r.base = PAV_SWCNT_LO 0 then BitVec.ofNat 32 (satAdd 40 (s.chan i).swMram (s.chan i).swDie)
  else if r.base = PAV_SWCNT_HI 0 then BitVec.ofNat 32 (satAdd 40 (s.chan i).swMram (s.chan i).swDie / 2 ^ 32)
  else if r.base = PAV_SCCNT 0 then BitVec.ofNat 32 (satAdd 32 (s.chan i).scMram (s.chan i).scDie)
  else if r.base = BR_CMD 0 then s.reg (BR_CMD (brGovern s i))
  else if r.base = BR_STAT 0 then
    fput BR_STAT_VETO_T (b2n (brVeto s (brGovern s i)))
      (fput BR_STAT_TJ (fget BR_STAT_TJ w) (s.reg (BR_STAT (brGovern s i))))
  else if r.base = LC_STAT 0 then lcWord s i
  else if r.base = MEAS_ARB 0 then
    fput MEAS_ARB_FG_SHARE (fgShare s i) (fput MEAS_ARB_BG_SHARE (bgShare s i) w)
  else if r.base = CAN_TXREQ 0 0 then objBits s (i / 4) (i % 4) OBJ_TXREQ
  else if r.base = CAN_NEWDAT 0 0 then objBits s (i / 4) (i % 4) OBJ_NEWDAT
  else if r.base = NETPM_HEN then fput NETPM_HEN_HEN_STATE (henState s) w
  else if r.base = SYS_VARIANT then variantWord
  else if r.base = AQ_SERIAL_LO then Config.serial.setWidth 32
  else if r.base = AQ_SERIAL_HI then (Config.serial >>> 32).setWidth 32
  else if r.base = AQ_TIME_LO then BitVec.ofNat 32 s.wwt
  else if r.base = HOST_STAT then
    fput HOST_STAT_LEVEL (sessionLevel s 9) (fput HOST_STAT_OUTST (outstanding s 9 + b2n (m == 9)) w)
  else if r.base = AQ_RXF 0 then (if i < (rxFlows s).length then w else 0#32)
  else if r.base = LOG_HEAD_LO then BitVec.ofNat 32 s.rep.head
  else if r.base = LOG_FOUND_LO then BitVec.ofNat 32 s.rep.found
  else if r.base = LOG_STAT then
    fput LOG_STAT_QUEUE s.rep.queue.length (fput LOG_STAT_CLEARING (b2n s.rep.clearMark.isSome) w)
  else if r.base = CHECK_STAT then
    match s.start.checkQueue with
    | [] => 0#32
    | c :: rest => fput CHECK_STAT_BUSY 1 (fput CHECK_STAT_CUR c (fput CHECK_STAT_QUEUE (rest.foldl setBitN 0) 0#32))
  else if r.base = GATE_DELAY then BitVec.ofNat 20 (delayLeft s) |>.setWidth 32
  else if r.base = GATE_IDPUB 0 then (Config.identityPublic >>> (32 * i)).setWidth 32
  else if r.base = UPD_PIECES then fput UPD_PIECES_HELD (piecesHeld s) w
  else if r.base = LF_STAT 0 then lfWord s i
  else if r.base = FAULT_STAT then fput FAULT_STAT_REACTING (b2n (inWindow s)) w
  else if r.base = CAN_TDC 0 then tdcWord s i
  else measuredWord s r i w

/-! ### What an access finds (R35, R39, R349) -/

/-- The power domain of a register on the Lodge (R349): that of the port or Keeper whose it is, of the CAN controllers, and
the Lodge peripheral domain of every other one (log entry 54). -/
def lodgeDomain (a : Nat) : Nat :=
  if 0x400C0100 ≤ a ∧ a < 0x400C0180 then 8 + (a - 0x400C0100) / 0x20
  else if 0x40140000 ≤ a ∧ a < 0x40140100 then 0xC
  else if 0x40140100 ≤ a ∧ a < 0x40141000 then 0xD
  else if a / 0x10000 = 0x4009 then 0x12
  else if 0x40080100 ≤ a ∧ a < 0x400801A0 then (a - 0x40080100) / 4 % 8
  else 0x11

/-- Why an access of register `a` cannot be performed, given the dies that hold it: the kind of R39, 0 where it
can. -/
def pathError (s : State) (a : Nat) (dies : List Nat) : Nat :=
  if dies = [] then (if domOff s (lodgeDomain a) || domOff s 0x11 then 3 else 0)
  else if dies.any (fun d => decide (d < 5) && domOff s (0x18 + d)) then 3
  else if dies.any (fun d => !cvUp s d) then 5
  else 0

/-- The window of the CAN message memory that address `a` lies in: (controller, offset). -/
def canWindow (a : Nat) : Option (Nat × Nat) :=
  if 0x50000000 ≤ a ∧ a < 0x50080000 then some ((a - 0x50000000) / 0x10000, a % 0x10000) else none

/-- What an aligned or misaligned word access of full address `full` finds: the kind of bus error, 0 where it can
be performed (R35, R39). A misaligned address counts before a reserved one (log entry 39). -/
def accessError (s : State) (full : Nat) : Nat :=
  if full % 4 ≠ 0 then 2
  else match canWindow full with
    | some (c, off) => if !canDefined c off then 1 else if domOff s 0x12 || domOff s 0x11 then 3 else 0
    | none =>
      match regAt (normalOf full) with
      | none => 1
      | some (r, i) => pathError s (normalOf full) (homeDies r i)

/-- `accessError` for master `m`: a Keeper does not reach the CAN message memory, which its map does not hold (R281). -/
def masterError (m : Nat) (s : State) (full : Nat) : Nat :=
  if full % 4 = 0 ∧ 1 ≤ m ∧ m ≤ 8 ∧ (canWindow full).isSome then 1 else accessError s full

/-! ### Reads (R36, R41, R42) -/

/-- What a bus access answers. -/
structure BusAns where
  /-- kind of the bus error, 0 for none -/
  err : Nat
  /-- data of a read; 0 after an error -/
  word : Word
  /-- the state after it -/
  st : State

/-- What master `m` sees of word `w`: a PR field reads as 0 for a master that is not privileged. -/
def visible (s : State) (m : Nat) (fs : List FInfo) (w : Word) : Word :=
  fs.foldl (fun w f => if f.pr && !privileged s m then fput f.fld 0 w else w) w

/-- The word after the RC bits returned as 1 have been cleared by a normal-view read. -/
def readCleared (s : State) (m : Nat) (fs : List FInfo) (w : Word) : Word :=
  fs.foldl (fun w f => if f.acc == .rc && (!f.pr || privileged s m) then fput f.fld 0 w else w) w

/-- Side effects of a read of row `r` entry `i` beside RC: the upper half of a pair is copied (R435,
R461). -/
def readLatch (r : RegRow) (s : State) : State :=
  if r.base = AQ_TIME_LO then State.setReg AQ_TIME_HI (BitVec.ofNat 32 (s.wwt / 2 ^ 32)) s
  else if r.base = LOG_HEAD_LO then State.setFld LOG_HEAD_HI LOG_HEAD_HI_SEQ_HI (s.rep.head / 2 ^ 32) s
  else if r.base = LOG_FOUND_LO then State.setFld LOG_FOUND_HI LOG_FOUND_HI_SEQ_HI (s.rep.found / 2 ^ 32) s
  else s

/-- Every field of a register is PR (R42). -/
def allPr (fs : List FInfo) : Bool := fs.all (fun f => f.pr)

/-- A read of a register that can be performed. -/
def readRow (m full : Nat) (r : RegRow) (i : Nat) (s : State) : Word × State :=
  let v := visible s m r.fields (readWord s m r i)
  let t := readLatch r s
  let t := if viewOf full = 0 then
      State.setReg (r.addrOf i) (readCleared s m r.fields (t.reg (r.addrOf i))) t
    else t
  (v, if allPr r.fields && !privileged s m then privViol m full t else t)

/-- The frames of an access of a die register reach both ends of its Culvert (R16, R18, R38). -/
def dieHeard (dies : List Nat) (s : State) : State :=
  dies.foldl (fun t d => State.modCv d (fun c => { c with
    down := laneHears c.down t.now, up := laneHears c.up t.now }) t) s

/-- The frames that wait for the dies of an access arrive before it (R16, R21). -/
def framesFirst (dies : List Nat) (s : State) : State := dies.foldl (fun t d => drainLane d t) s

/-! ### Accesses in the cycle of a hardware update (R45) -/

/-- The bits of the register at `a` that the row before has set. -/
def risenBits (s : State) (a : Nat) : Word := s.reg a &&& ~~~ Tab.get s.prev (regReset a) a

/-- The bits of the fields of the access code `acc`. -/
def accBits (fs : List FInfo) (acc : Acc) : Word :=
  fs.foldl (fun w f => if f.acc == acc then w ||| fmask f.fld else w) 0#32

/-- The sources of FAULT_STICKY word `w` that have been raised again in this cycle (R437). -/
def againBits (s : State) (w : Nat) : Word :=
  (List.range 32).foldl (fun x b =>
    if Tab.get s.rep.reraised 0 (32 * w + b) = s.now + 1 then x ||| BitVec.ofNat 32 (2 ^ b) else x) 0#32

/-- A software write in the cycle in which hardware sets status bits does not clear those bits (R45); UVSEEN is judged
die by die. -/
def lostClears (s : State) (r : RegRow) (i : Nat) (v : Word) : Word :=
  if r.base = PAV_UV 0 then v
  else if r.base = FAULT_STICKY 0 then v &&& ~~~ (risenBits s (r.addrOf i) ||| againBits s i)
  else v &&& ~~~ (risenBits s (r.addrOf i) &&& (accBits r.fields .w1c ||| accBits r.fields .rc))

/-- A read in the cycle in which hardware sets read-cleared bits leaves them 1 (R45). -/
def keepRisen (s : State) (r : RegRow) (i : Nat) (t : State) : State :=
  State.setReg (r.addrOf i) (t.reg (r.addrOf i) ||| (risenBits s (r.addrOf i) &&& accBits r.fields .rc)) t

/-- Counter fields that software may write, by the register's base and the lowest bit; true: it wraps (R45). -/
def counterFields : List (Nat × Nat × Bool) :=
  [(SYS_CV_STAT 0, 8, false), (SYS_CV_STAT 0, 0, false), (SYS_LOCK_STAT, 16, false), (SYS_ACCESS_STAT, 8, false),
   (SYS_ACCESS_STAT, 0, false), (SYS_BUSERR_STAT, 0, false), (HOST_EVCNT 0, 0, false), (HOST_STAT, 8, false),
   (HOST_STAT, 0, false), (SUPPLY_RIDE_CNT, 16, false), (MEAS_SCNT 0, 0, true), (SLU_BSTAT 0, 8, false)] ++
  [(SLU_REC 0, 0, false), (BR_POS 0, 0, true), (KEEPER_LSET, 0, false), (KEEPER_STAT 0, 16, false),
   (KEEPER_STAT 0, 0, false), (POWER_STAT, 0, false), (POWER_CNT, 16, false), (POWER_CNT, 0, false),
   (POWER_ISO, 0, false), (CAN_ERR 0, 0, false), (CAN_STAT 0, 0, false), (LIN_STAT 0, 0, false)] ++
  [(T1S_STAT 0, 0, false), (SENT_STAT 0, 0, false), (NETPM_STAT, 8, false), (NETPM_STAT, 0, false),
   (AQ_LCNT, 16, false), (AQ_LCNT, 0, false), (AQ_PCNT 0, 16, false), (AQ_PCNT 0, 8, false),
   (AQ_PCNT 0, 0, false), (AQ_RXF 0, 8, false), (AQ_RXF 0, 0, false), (FAULT_STAT, 0, false)] ++
  [(LOG_STAT, 0, false), (CU_STAT 0, 0, false), (CHECK_ECC, 24, false), (CHECK_ECC, 12, false),
   (CHECK_ECC, 0, false), (GATE_TOK 0, 8, false), (UPD_HO, 24, false), (UPD_HO, 16, false)]

/-- What a counter of `w` bits holds after a write of `x` in the cycle in which it went from `old` to `now`: the written
value with the increment added (R45). -/
def countOn (wraps : Bool) (w x old now : Nat) : Nat :=
  if wraps then (x + now + (2 ^ w - old)) % 2 ^ w else clampN 0 (2 ^ w - 1) (x + (now - old))

/-- The counter fields of a register after a software write `v` in the cycle of their increment (R45); `t` is the
state after the write alone. -/
def countCoincident (full : Nat) (r : RegRow) (i : Nat) (v : Word) (s t : State) : State :=
  let a := r.addrOf i
  r.fields.foldl (fun t f =>
    match counterFields.find? (fun c => c.1 == r.base && c.2.1 == f.fld.lo) with
    | none => t
    | some c =>
      let old := fget f.fld (Tab.get s.prev (regReset a) a)
      let x := viewBits .rw (viewOf full) old (fget f.fld v)
      if viewOf full == 0 || fget f.fld v != 0 then
        State.setFld a f.fld (countOn c.2.2 f.fld.w x old (s.fld a f.fld)) t
      else t) t

/-- A word read by master `m` at full address `full`, with `same` in the cycle of the hardware update that the row before
made (R45). -/
def busReadIn (same : Bool) (m full : Nat) (s : State) : BusAns :=
  let e := masterError m s full
  if e ≠ 0 then ⟨e, 0#32, busError m full false e s⟩
  else match canWindow full with
    | some _ => let v := s.reg full; ⟨0, v, cuBus false full v s⟩
    | none =>
      match regAt (normalOf full) with
      | none => ⟨1, 0#32, busError m full false 1 s⟩
      | some (r, i) =>
        let a := readRow m full r i (framesFirst (homeDies r i) s)
        let t := if same then keepRisen s r i a.2 else a.2
        ⟨0, a.1, cuBus false full a.1 (dieHeard (homeDies r i) t)⟩

/-- A word read by master `m` at full address `full`. -/
def busRead (m full : Nat) (s : State) : BusAns := busReadIn false m full s

/-! ### Writes -/

/-- The write carries a 1 that acts in the write-only field `f` (R36). -/
def woSet (full : Nat) (v : Word) (f : Fld) : Bool := decide (viewOf full < 2) && fget f v == 1

/-- The write counts as a write to field `f` (R37). -/
def counts (full : Nat) (v : Word) (f : Fld) : Bool := viewOf full == 0 || fget f v != 0

/-- COMMAND index of entry `i` of an output command register array (R263). -/
def commandIndex (base i : Nat) : Option Nat :=
  if base = PAV_CMD 0 then some i
  else if base = SLU_CMD 0 then some (0x100 + i)
  else if base = BR_CMD 0 then some (0x200 + i)
  else if base = LC_CMD 0 then some (0x300 + i)
  else if base = BL_CMD 0 then some (0x340 + i)
  else if base = TR_CMD then some 0x380
  else if base = FO_CMD 0 then some (0x400 + i)
  else none

/-- The word that a write of `v` to a command register brings to the die: each RW field as the view makes it, a
write-only 1 as written (R36, R97). -/
def commandWord (full : Nat) (fs : List FInfo) (old v : Word) : Word :=
  fs.foldl (fun w f =>
    if f.acc == .wo then (if woSet full v f.fld then fput f.fld 1 w else w)
    else fput f.fld (viewBits f.acc (viewOf full) (fget f.fld old) (fget f.fld v)) w) 0#32

/-- The wire constants of channel `g` have been written (R112): a change sets Θ to 50 % of the new K. The Chart of a cold
start that loads what stood before it leaves Θ as it is. -/
def onWire (g : Nat) (old : Word) (s : State) : State :=
  let t := State.modChan g (fun c => { c with frozen := none }) s
  if s.reg (PAV_WIRE g) = (s.chan g).frozen.getD old then t
  else if wireRuns s g then
    State.modChan g (fun c => { c with theta := wireK s g / 2, warned := false })
      (State.setFld (PAV_STAT g) PAV_STAT_THETA 100 t)
  else wireTick g 0 t

/-- BCLR of bank `b` (R150): a latched bank switch is released with its veto clear, and its valves restart. -/
def onBclr (b : Nat) (s : State) : State :=
  if bswLatched s b && !s.flag (SLU_BSTAT b) SLU_BSTAT_BSW_VETO then
    supplyRestart b (State.setFlag (SLU_BSTAT b) SLU_BSTAT_BSW_LATCH false s)
  else s

/-- EN, VSET of camera rail `n` have been written (R84, R86). -/
def onRailCfg (n now : Nat) (old : Word) (s : State) : State :=
  let w := s.reg (CR_CFG n)
  let t := if fget CR_CFG_VSET w = fget CR_CFG_VSET old then s else onRailVset n now s
  onRailEn n (fget CR_CFG_EN old == 1) (fget CR_CFG_EN w == 1) t

/-- HH_EN of channel `g` has been written (R141): a channel without a baseline, and not learning one, starts to
learn when it goes to 1 (log entry 40). -/
def onHhcfg (g : Nat) (old : Word) (s : State) : State :=
  copyHh g <| if fget MEAS_HHCFG_HH_EN old = 0 ∧ s.flag (MEAS_HHCFG g) MEAS_HHCFG_HH_EN ∧
      s.flag (MEAS_HHBASE g) MEAS_HHBASE_LEARNED = false ∧ s.fld (MEAS_HHBASE g) MEAS_HHBASE_LEFT = 0 then
    startLearn g s
  else s

/-- MEAS_HHCMD has been written (R140, R141, R144): the close first, one due now too, then the relearning. -/
def onHhcmd (full : Nat) (v : Word) (s : State) : State :=
  let c := s.fld MEAS_HHCMD MEAS_HHCMD_CH
  let t := if woSet full v MEAS_HHCMD_CLOSE_DAY then closeDay s else s
  if woSet full v MEAS_HHCMD_RELEARN then
    startLearn (if c < 96 then c else c - 32) (if dayOver t then closeDay t else t)
  else t

/-- CAN_CTRL of controller `c` has been written (R355, R363, R365). -/
def onCanCtrl (full c : Nat) (v old : Word) (s : State) : State :=
  let t := if canMode s c = 2 ∧ fget CAN_CTRL_MODE old ≠ 2 then rdEnter c s else s
  if woSet full v CAN_CTRL_BO_REQ then boStart c t else t

/-- Bits of HOST_EVPEND group `g` that a write cleared withdraw their notices (R66). -/
def onEvpend (g : Nat) (old : Word) (s : State) : State :=
  (List.range 16).foldl (fun t b =>
    if bitOf old.toNat b && !bitOf (s.reg (HOST_EVPEND g)).toNat b then
      { t with rep := { t.rep with ev := Tab.mod t.rep.ev {} (16 * g + b) (fun x => { x with count := 0 }) } }
    else t) s

/-- UVSEEN of class `c` has been written (R124): a die on which it was set in this cycle keeps it (R45). -/
def onUvseen (same : Bool) (full c : Nat) (v : Word) (s : State) : State :=
  let clear (u : Uv) : Uv := if same && u.seenAt == some s.now then u else { u with seen := false }
  if (viewOf full = 0 ∨ viewOf full = 2) ∧ fget PAV_UV_UVSEEN v = 1 then State.modUv (2 * c) clear (State.modUv (2 * c + 1) clear s)
  else s

/-- TBASE_MAX has been written for the first time since the last cold start (R90). -/
def onTbase (was : Bool) (s : State) : State :=
  if !was && Tab.get s.wlSet false (32 * SUPPLY_TBASE) then { s with sup := { s.sup with tbaseArmed := true } } else s

/-- GATE_MODE has been written by master `m` (R468, R469). -/
def onGateMode (m full : Nat) (v : Word) (s : State) : State :=
  if !privileged s m then s
  else
    let t := if counts full v GATE_MODE_MODE_REQ then onModeReq m (s.fld GATE_MODE GATE_MODE_MODE_REQ) s else s
    if woSet full v GATE_MODE_REVOKE then revokeToken (t.fld GATE_MODE GATE_MODE_RIDX) t else t

/-- EN of port `p` is written, having been `was`: a port enabled trains where the ports have, one disabled loses its link
(R397, R398). -/
def onPortEn (p : Nat) (was : Bool) (s : State) : State :=
  let en := s.flag (AQ_PCFG p) AQ_PCFG_EN
  if en = was then s
  else if en then (if lstate s p = 0 then setLstate p 1 s else s)
  else if lstate s p = 1 then setLstate p 0 s
  else linkLost p true s

/-- What the write of a register on the Lodge makes the hardware do, `old` being the word before it. -/
def lodgeHook (m full base i : Nat) (v old : Word) (s : State) : State :=
  let priv := privileged s m
  if base = KEEPER_CTRL 0 then
    (if priv && woSet full v KEEPER_CTRL_RESTART then restartKeeper i (s.flag (KEEPER_CTRL i) KEEPER_CTRL_KEEP) s else s)
  else if base = CAN_CTRL 0 then onCanCtrl full i v old s
  else if base = CAN_CANCEL 0 then
    (if woSet full v CAN_CANCEL_GO then canCancel i (s.fld (CAN_CANCEL i) CAN_CANCEL_OBJ) s else s)
  else if base = LIN_CFG 0 then onLinSched i (fget LIN_CFG_SCHED old) (s.fld (LIN_CFG i) LIN_CFG_SCHED) s
  else if base = AQ_PCFG 0 then onPortEn i (old.getLsbD 31) s
  else if base = MEAS_HHCMD then onHhcmd full v s
  else if base = MEAS_HHCFG 0 then onHhcfg i old s
  else if base = HOST_EVPEND 0 then onEvpend i old s
  else if base = FAULT_STICKY 0 then releaseErrn s
  else if base = FAULT_CTRL then
    (if priv && woSet full v FAULT_CTRL_MLIMP_CLR then leaveModuleLimp m full v s else s)
  else if base = CU_CFG 0 then
    (if woSet full v CU_CFG_GO then cuArm i (if cuDone s i then cuResult i s else s) else s)
  else if base = GATE_CMD then (if woSet full v GATE_CMD_GO then gateGo m s else s)
  else if base = GATE_MODE then onGateMode m full v s
  else if base = GATE_LCODE_LO then (if priv && viewOf full < 2 then { s with gate := { s.gate with lcodeLo := v } } else s)
  else if base = GATE_LCODE_HI then (if priv && viewOf full < 2 then submitCode m v.toNat s else s)
  else if base = GATE_EOL then onEol s
  else if base = POWER_DOMOFF then onDomoff m full old.toNat v s
  else s

/-- What the write of a register on another die makes the hardware do, `now` being the output of the camera rail
before it. -/
def dieHook (same : Bool) (full base i now : Nat) (v old : Word) (was : Bool) (s : State) : State :=
  if base = SUPPLY_RES_CFG then onBoostEn (s.flag SUPPLY_RES_CFG SUPPLY_RES_CFG_BOOST_EN) s
  else if base = CR_CFG 0 then onRailCfg i now old s
  else if base = SUPPLY_TBASE then onTbase was s
  else if base = PAV_WIRE 0 then onWire i old s
  else if base = PAV_UV 0 then onUvseen same full i v s
  else if base = SLU_BANK 0 then (if woSet full v SLU_BANK_BCLR then onBclr i s else s)
  else if base = BR_POS 0 then
    (if counts full v BR_POS_POS then posWritten i s else s)
  else if base = NETPM_XCV 0 then onXcvWrite i (woSet full v NETPM_XCV_WKSEND) (counts full v NETPM_XCV_REQ) s
  else s

/-- The entry that a write of entry `i` reaches: the causes of a pair are held by its even half (R95, R180). -/
def writeEntry (s : State) (base i : Nat) : Nat :=
  if base = PAV_STAT 0 then govern s i else if base = BR_STAT 0 then brGovern s i else i

/-- Word `w` of K_DER, which GATE_KDER never shows (R463). -/
def kderWord (s : State) (w : Nat) : Word := BitVec.ofNat 32 (s.gate.kDer / 2 ^ (32 * w))

/-- A write of K_DER word `i` by master `m` (R43, R463). -/
def storeKder (m full : Nat) (r : RegRow) (i : Nat) (v : Word) (s : State) : State :=
  let a := r.addrOf i
  let t := writeRow m full r i v (State.setReg a (kderWord s i) s)
  let new := t.reg a
  let t := State.setReg a 0#32 t
  if Tab.get t.wlSet false (32 * a) then onKder i new t else t

/-- A write of `v` to entry `i` of row `r` that can be performed, with all that it makes the hardware do but for
the check, start and update registers. -/
def storeRow (same : Bool) (m full : Nat) (r : RegRow) (i : Nat) (v : Word) (s : State) : State :=
  match commandIndex r.base i with
  | some c => applyCommand same m c (commandWord full r.fields (readWord s m r i) v) s
  | none =>
    if r.base = GATE_KDER 0 then storeKder m full r i v s
    else
      let j := writeEntry s r.base i
      let old := s.reg (r.addrOf j)
      let was := Tab.get s.wlSet false (32 * r.addrOf j)
      let now := if r.base = CR_CFG 0 then railNow s i else 0
      let t := writeRow m full r j v s
      if r.home = .lodge then lodgeHook m full r.base j v old t else dieHook same full r.base j now v old was t

/-- What a write of `v` in the cycle of the row before leaves to clear in header word at `full` of a message object: a
NEWDAT or MSGLOST that rose with the store stays 1 (R45, R358, R367). -/
def canSameWord (full off : Nat) (v : Word) (s : State) : Word :=
  if off < 0x4000 ∧ off % 0x80 = 0 then v &&& ~~~ (risenBits s full &&& 0x18000000#32) else v

/-- A write of a word of the CAN message memory, of controller `c` at offset `off` (R356). -/
def storeCan (m full off : Nat) (v : Word) (s : State) : State :=
  let w := (canFieldsAt off).foldl (fun w f => writeField s m full 0 false v w f) ⟨s.reg full, false, false, []⟩
  State.setReg full w.word s

end Sys2Proof.Machine
end

