-- ==== Sys2Proof/Machine/ChartOps.lean ====
section
/-! DEFINITION. The Chart image in flash: header, directory, verification, section layouts and load records
(R302 to R320). -/

namespace Sys2Proof.Machine

/-! ### Flash -/

/-- `n` bytes at flash address `o`, little-endian. -/
def fl (s : State) (o n : Nat) : Nat := s.bytesLE (flashBase + o) n

/-- The `n` bytes at flash address `o`. -/
def flBytes (s : State) (o n : Nat) : List Nat := (List.range n).map (fun i => (s.byte (flashBase + o + i)).toNat)

/-- Flash address of Chart slot A or B (R303). -/
def chartBase (slotB : Bool) : Nat := if slotB then 0x800000 else 0x400000

/-- Size of a Chart slot. -/
abbrev chartSlotSize : Nat := 0x400000

/-! ### The boot record (R303, R304) -/

/-- Copy `k` of the boot record, 4 KiB from the other: its sequence number, the active Chart slot and the active firmware
slot, true for B; none where its CRC-32C fails. The manual lays out no field of it (DESIGN CHOICE, log entry 80). -/
def bootCopy (s : State) (k : Nat) : Option (Nat × Bool × Bool) :=
  let o := 0x1000 * k
  if crcOf crcC (flBytes s o 8) = fl s (o + 8) 4 then
    some (fl s o 4, bitOf (fl s (o + 4) 1) 0, bitOf (fl s (o + 5) 1) 0)
  else none

/-- The later valid copy counts: its number and what it holds. -/
def bootRecord (s : State) : Option (Nat × Nat × Bool × Bool) :=
  match bootCopy s 0, bootCopy s 1 with
  | some x, some y => if x.1 < y.1 then some (1, y) else some (0, x)
  | some x, none => some (0, x)
  | none, some y => some (1, y)
  | none, none => none

/-- The boot ROM reads the boot record; without a valid copy the slots that were active before stay so (log entry 80). -/
def readBoot (s : State) : State :=
  match bootRecord s with
  | some (_, _, c, f) => { s with start := { s.start with chartSlot := c, fwSlot := f } }
  | none => s

/-- The boot record is rewritten with the active slots, in the copy that does not count, as the later one. -/
def writeBoot (s : State) : State :=
  let next := match bootRecord s with
    | some (k, seq, _) => (1 - k, seq + 1)
    | none => (0, 1)
  let o := flashBase + 0x1000 * next.1
  let t := State.setBytesLE (o + 4) 4 (b2n s.start.chartSlot + 256 * b2n s.start.fwSlot) (State.setBytesLE o 4 next.2 s)
  State.setBytesLE (o + 8) 4 (crcOf crcC (flBytes t (0x1000 * next.1) 8)) t

/-- A version of bytes major, minor, patch (R305) in the layout of CHECK_CHARTVER (R337). -/
def verAt (s : State) (o : Nat) : Nat := fl s o 1 * 2 ^ 24 + fl s (o + 1) 1 * 2 ^ 16 + fl s (o + 2) 2

/-! ### Header and directory (R305) -/

/-- SECTIONS. -/
def chSections (s : State) (b : Nat) : Nat := fl s (b + 6) 2

/-- LENGTH. -/
def chLength (s : State) (b : Nat) : Nat := fl s (b + 8) 4

/-- One directory entry. -/
structure DirEntry where
  /-- TYPE -/
  typ : Nat
  /-- OFFSET -/
  off : Nat
  /-- LENGTH -/
  len : Nat
  /-- CRC -/
  crc : Nat
  /-- address of the CRC field in the image -/
  crcAt : Nat
  deriving DecidableEq, Repr

/-- The directory of the image at flash address `b`. -/
def directory (s : State) (b : Nat) : List DirEntry :=
  (List.range (clampN 0 32 (chSections s b))).map (fun i =>
    let e := 256 + 16 * i
    ⟨fl s (b + e) 2, fl s (b + e + 4) 4, fl s (b + e + 8) 4, fl s (b + e + 12) 4, e + 12⟩)

/-- The bytes that the digest covers: SIGNATURE and every directory CRC field taken as zero (R307). -/
def digestBytes (s : State) (b : Nat) : List Nat :=
  let crcs := (directory s b).map (fun e => e.crcAt)
  (List.range (clampN 0 chartSlotSize (chLength s b))).map (fun i =>
    if (64 ≤ i ∧ i < 128) ∨ crcs.any (fun c => decide (c ≤ i ∧ i < c + 4)) then 0
    else (s.byte (flashBase + b + i)).toNat)

/-- The Chart digest (R307). -/
def chDigest (s : State) (b : Nat) : Nat := (Config.sha256 (digestBytes s b)).toNat

/-- The Chart-signing key of entry `k`, 64 bytes (R479). -/
def signingKey (s : State) (k : Nat) : List Nat :=
  (List.range 16).flatMap (fun w => leBytes 4 (s.reg (UPD_KEY k w)).toNat)

/-- Entry `k` of the Chart-signing keys is empty (R479, R493). -/
def keyEmpty (s : State) (k : Nat) : Bool := decide (4 ≤ k) || (signingKey s k).all (fun x => x == 0)

/-! ### Verification (R308, R309) -/

/-- PART matches SYS_ID; STEPPING 0 accepts any stepping (R305). -/
def partMatches (s : State) (part : Word) : Bool :=
  let id := s.reg SYS_ID
  part == id || (fget SYS_ID_STEPPING part == 0 && part == fput SYS_ID_STEPPING 0 id)

/-- The section bytes of entry `e` match its CRC. -/
def crcHolds (s : State) (b : Nat) (e : DirEntry) : Bool := crcOf crcC (flBytes s (b + e.off) e.len) == e.crc

/-- The second-copy decision for section `e` of the image at `b`, the other slot being at `o` (R455). -/
def rescued (s : State) (b o : Nat) (e : DirEntry) : Bool :=
  match (directory s o).find? (fun x => x.typ == e.typ) with
  | some x => decide (x.off + x.len ≤ chartSlotSize) && crcHolds s o x && x.len == e.len &&
      flBytes s (o + x.off) x.len == flBytes s (b + e.off) e.len
  | none => false

/-- What a rescue leaves: FLT43, EV200, a CHECK_FIELD record, and the field queued for rewriting (R455). -/
def noteRescue (slotB : Bool) (typ : Nat) (s : State) : State :=
  let t := raiseEv 200 typ (raiseFault 43 s)
  let t := logOther (mkRec t 8 0xFFFF typ (leBytes 2 typ)) t
  { t with start := { t.start with rewrites := t.start.rewrites ++ [typ + (if slotB then 0x10000 else 0)] } }

/-- The section CRCs in directory order: the TYPE of the first section that is not rescued, and the state with
what the rescues left (R308). -/
def checkSections (slotB : Bool) (es : List DirEntry) (s : State) : Option Nat × State :=
  match es with
  | [] => (none, s)
  | e :: rest =>
    if crcHolds s (chartBase slotB) e then checkSections slotB rest s
    else if rescued s (chartBase slotB) (chartBase !slotB) e then checkSections slotB rest (noteRescue slotB e.typ s)
    else (some e.typ, s)

/-- Steps 1 to 4 of R309 for the image at `b` under firmware `fw`: the code and detail of the first failure. -/
def headerFault (s : State) (b fw : Nat) : Option (Nat × Nat) :=
  let n := chSections s b
  let len := chLength s b
  let k := fl s (b + 32) 1
  if fl s b 4 ≠ 0x54484359 ∨ fl s (b + 4) 2 ≠ 1 then some (1, 0)
  else if n = 0 ∨ 32 < n ∨ chartSlotSize < len ∨ len < 256 + 16 * n then some (5, 0)
  else match (directory s b).find? (fun e => decide (len < e.off + e.len)) with
    | some e => some (5, e.typ)
    | none =>
      if !partMatches s (BitVec.ofNat 32 (fl s (b + 12) 4)) then some (7, 0)
      else if fw < verAt s (b + 20) ∨ verAt s (b + 24) < fw then some (9, 0)
      else if keyEmpty s k then some (4, k)
      else if !Config.ecdsaVerify (signingKey s k) (leBytes 32 (chDigest s b)) (flBytes s (b + 64) 64) then some (3, 0)
      else none

/-- Step 6 of R309: TILLER_MIN above the VERSION of TILLER_VER, which is 1 (R291), without an EVEC handler. -/
def tillerFault (s : State) (b : Nat) : Option (Nat × Nat) :=
  let m := fl s (b + 28) 2
  if 1 < m ∧ bitOf (fl s (b + 30) 2) 0 = false then some (8, m) else none

/-- The Chart of a slot is verified (R309); `signed` is false where a warm start finds the digest unchanged and
skips the signature (R331). -/
def verifyChart (slotB : Bool) (fw : Nat) (signed : Bool) (s : State) : Option (Nat × Nat) × State :=
  let b := chartBase slotB
  match headerFault s b fw with
  | some (c, d) =>
    if (c = 3 ∨ c = 4) ∧ signed = false then
      (match checkSections slotB (directory s b) s with
        | (some typ, t) => (some (2, typ), t)
        | (none, t) => (tillerFault t b, t))
    else (some (c, d), s)
  | none =>
    match checkSections slotB (directory s b) s with
    | (some typ, t) => (some (2, typ), t)
    | (none, t) => (tillerFault t b, t)

/-! ### Load records (R310 to R312) -/

/-- The loop and calibration registers of LIGHT that section 0x0008 alone may write. -/
def lightCal (base : Nat) : Bool :=
  base == LOOP_CFG 0 || base == LOOP_TGT 0 0 || base == LOOP_MAT 0 0 || base == SNS_CFG 0 ||
    base == TR_BUF_A 0 || base == TR_BUF_B 0

/-- The bits of the safe-state fields of a register (R312). -/
def safeBits (base : Nat) : Word :=
  if base = PAV_CFG 0 then fmask PAV_CFG_SAFE ||| fmask PAV_CFG_SAFE_DUTY
  else if base = SLU_CFG 0 then fmask SLU_CFG_SAFE
  else if base = BR_CFG 0 then fmask BR_CFG_SAFE
  else if base = LC_CFG 0 then fmask LC_CFG_SAFE
  else if base = LC_DCFG 0 then fmask LC_DCFG_SAFE_LVL
  else if base = BL_CFG 0 then fmask BL_CFG_SAFE
  else if base = TR_CFG2 then fmask TR_CFG2_SAFE ||| fmask TR_CFG2_SAFE_LVL
  else if base = FO_CFG 0 then fmask FO_CFG_SAFE
  else 0#32

/-- A record of section `typ` may write the register of base `base` at address `a` in its bits `mask` (R312);
`run` marks a RUN record. -/
def inScope (typ base a : Nat) (run : Bool) (mask : Word) : Bool :=
  let blk := a / 0x10000
  match typ with
  | 2 => blk == 0x4002 || blk == 0x4003 || blk == 0x4004 || blk == 0x4005 || blk == 0x4007 ||
      (blk == 0x4006 && !lightCal base)
  | 3 => !run && safeBits base != 0#32 && (mask &&& ~~~ safeBits base) == 0#32
  | 4 => blk == 0x4008
  | 5 => blk == 0x4009
  | 6 => blk == 0x400A
  | 7 => base == AQ_CFG || base == AQ_PCFG 0
  | 8 => lightCal base
  | 9 => base == GATE_CFG || base == LF_TRIM 0
  | 10 => blk == 0x4001 || blk == 0x4013
  | 12 => base == HOST_CFG || base == HOST_EVCFG 0 || base == FAULT_CFG 0
  | 13 => blk == 0x400B || (blk == 0x4014 && decide (a < 0x40141000))
  | _ => false

/-- Words of a message object that section 0x0005 may write: 0 to 2, 20 and 21 (R312). -/
def canScope (off : Nat) : Bool :=
  decide (off < 0x4000) && (decide (off % 0x80 / 4 < 3) || off % 0x80 / 4 == 20 || off % 0x80 / 4 == 21)

/-- One word of a load record is written by the Warden (R310, R311): false where it ends the Chart with CC-44; a write
that ends in a bus error is captured (R39). On a warm start only registers of the Lodge are loaded, and FAULT_CFG is not
(R312, R331). -/
def loadWord (typ : Nat) (warm run : Bool) (a : Nat) (mask v : Word) (s : State) : Bool × State :=
  let e := accessError s a
  let merged (old : Word) : Word := (old &&& ~~~ mask) ||| (v &&& mask)
  match canWindow a with
  | some (_, off) =>
    if typ ≠ 5 ∨ canScope off = false then (false, s)
    else if e ≠ 0 then (false, busError 0 a true e s)
    else (true, storeCan 0 a off (merged (s.reg a)) s)
  | none =>
    match regAt a with
    | none => (false, s)
    | some (r, i) =>
      if viewOf a ≠ 0 ∨ !inScope typ r.base a run mask then (false, s)
      else if warm && (r.home != .lodge || r.base == FAULT_CFG 0) then (true, s)
      else if e ≠ 0 then (false, busError 0 a true e s)
      else (true, storeRow false 0 a r i (merged (s.reg (r.addrOf i))) s)

/-- The body of a RUN or FIELD record: `n` registers from `a`, the words from flash address `p`. -/
def loadBody (typ : Nat) (warm run : Bool) (n a p : Nat) (s : State) : Bool × State :=
  match n with
  | 0 => (true, s)
  | m + 1 =>
    let w (o : Nat) : Word := BitVec.ofNat 32 (fl s o 4)
    match (if run then loadWord typ warm true a (BitVec.allOnes 32) (w p) s
      else loadWord typ warm false a (w p) (w (p + 4)) s) with
    | (false, t) => (false, t)
    | (true, t) => loadBody typ warm run m (a + 4) (p + (if run then 4 else 8)) t

/-- The record area at flash address `p`, `left` bytes long (R310): true where it is well formed. -/
def loadRecords (typ : Nat) (warm : Bool) (fuel p left : Nat) (s : State) : Bool × State :=
  match fuel with
  | 0 => (false, s)
  | fuel + 1 =>
    if left < 8 then (false, s)
    else
      let kind := fl s p 1
      let n := fl s (p + 2) 2
      let a := fl s (p + 4) 4
      let size := if kind = 1 then 4 * n else 8 * n
      if kind = 3 then (true, s)
      else if (kind ≠ 1 ∧ kind ≠ 2) ∨ n = 0 ∨ 1024 < n ∨ left < 8 + size then (false, s)
      else match loadBody typ warm (kind = 1) n a (p + 8) s with
        | (false, t) => (false, t)
        | (true, t) => loadRecords typ warm fuel (p + 8 + size) (left - 8 - size) t

/-! ### Section layouts (R313 to R320) -/

/-- Bytes of the layout before the record area of section `typ` at flash address `p` (R312). -/
def layoutSize (s : State) (typ p : Nat) : Nat :=
  match typ with
  | 1 => 1376
  | 4 => 388 + 4 * fl s p 2
  | 6 => 1540 + (List.range (fl s (p + 1536) 2)).foldl (fun n _ => n + 4 + 4 * fl s (p + 1540 + n + 2) 1) 0
  | 7 => 8 + 16 * fl s (p + 2) 2 + 8 * fl s (p + 4) 2 + 4 * fl s (p + 6) 2
  | 9 => 312
  | 10 => 8 + 8 * fl s p 2
  | 13 => 144
  | _ => 0

/-- A section without a record area. -/
def noRecords (typ : Nat) : Bool := typ == 1 || typ == 11 || decide (13 < typ) || typ == 0

/-- Outputs whose pin has lost its claim go off and stay off (R313, R503). -/
def dropUnclaimed (s : State) : State :=
  let t := (List.range 96).foldl (fun t g => if !pinFirst t (pinOfPav g) && pavLive t g then goOff g t else t) s
  let t := (List.range 24).foldl (fun t v => if !pinFirst t (129 + v) && sluLive t v then startDecay v .off t else t) t
  let t := (List.range 16).foldl (fun t h => if !pinFirst t (297 + h) && brMoving t h then brBrakeTo h .off t else t) t
  let t := (List.range 52).foldl (fun t k => if !pinFirst t (pinOfLight k) then ltDark k ltOff t else t) t
  let t := (List.range 16).foldl (fun t o =>
    if !pinFirst t (113 + o) && foState t o == foOn then foTurnOff o .off t else t) t
  let t := (List.range 6).foldl (fun t n => if !pinFirst t (153 + n) then railOff n t else t) t
  (List.range 128).foldl (fun t j =>
    if inputClaimed t j then t else setInBit (IN_LVL 0) j false (setInBit (IN_RAW 0) j false t)) t

/-- The pin map is taken over (R313). -/
def loadPins (p : Nat) (s : State) : State :=
  let pins := (List.range 344).foldl (fun (m : Tab (Nat × Nat)) i =>
    Tab.put m (0, 0) (i + 1) (fl s (p + 4 * i) 1, fl s (p + 4 * i + 1) 1)) []
  dropUnclaimed { s with start := { s.start with pins := pins } }

/-- Word `o` of descriptor `k` of the rule programs at `p` (R315). -/
def descWord (s : State) (p k o : Nat) : Nat := fl s (p + 4 + 48 * k + o) 4

/-- The rule program of Keeper `k` is taken over; without one the Keeper stays HALTED (R315). -/
def loadProgram (p k : Nat) (s : State) : State :=
  let w (o : Nat) : Word := BitVec.ofNat 32 (descWord s p k o)
  State.modEng k (fun g => { g with
    present := bitOf (descWord s p k 36) 0
    code := (p + descWord s p k 0, clampN 0 0x10000 (descWord s p k 4))
    data := (p + descWord s p k 8, clampN 0 0x8000 (descWord s p k 12))
    lentry := w 16, fentry := w 20, evec := w 24, tvec := w 28, lDecl := descWord s p k 32 }) s

/-- The owner table (R267, R315). -/
def loadOwners (p : Nat) (s : State) : State :=
  (List.range (fl s p 2)).foldl (fun t i =>
    let e := fl t (p + 388 + 4 * i) 2
    let twice := (Tab.find t.kp.owners e).isSome
    { t with kp := { t.kp with
      owners := Tab.put t.kp.owners 0 e (fl t (p + 390 + 4 * i) 1 + 1)
      ownTwice := if twice then t.kp.ownTwice ++ [e] else t.kp.ownTwice } })
    { s with kp := { s.kp with owners := [], ownTwice := [] } }

/-- Descriptors and owner table of the rule programs at `p`. -/
def loadPrograms (p : Nat) (s : State) : State := (List.range 8).foldl (fun t k => loadProgram p k t) (loadOwners p s)

/-- The slots of one schedule table, the first at flash address `p` (R316). -/
def linSlots (s : State) (p n : Nat) : List LinSlot :=
  (List.range n).map (fun i => ⟨fl s (p + 4 * i) 1 % 64, fl s (p + 4 * i + 1) 1, fl s (p + 4 * i + 2) 2⟩)

/-- `n` schedule tables from flash address `p`. -/
def loadSchedules (n p : Nat) (s : State) : State :=
  match n with
  | 0 => s
  | m + 1 =>
    let k := fl s (p + 2) 1
    let i := 4 * fl s p 1 + fl s (p + 1) 1
    loadSchedules m (p + 4 + 4 * k)
      { s with bus := { s.bus with linSched := Tab.put s.bus.linSched [] i (linSlots s (p + 4) k) } }

/-- The LIN frame and schedule tables (R316). -/
def loadLin (p : Nat) (s : State) : State :=
  let t := (List.range 768).foldl (fun t i =>
    let b := fl t (p + 2 * i) 1
    State.modLinFrame (i / 64) (i % 64) (fun _ =>
      { dir := b % 4, enhanced := bitOf b 2, len := fl t (p + 2 * i + 1) 1 }) t)
    { s with bus := { s.bus with linFrames := [], linSched := [] } }
  loadSchedules (fl s (p + 1536) 2) (p + 1540) t

/-- The fabric plan at `p`, `len` bytes long (R317). -/
def planOf (s : State) (p len : Nat) : FabricPlan :=
  let np := fl s (p + 2) 2
  let nf := fl s (p + 4) 2
  let nv := fl s (p + 6) 2
  let fo := p + 8 + 16 * np
  let vo := fo + 8 * nf
  { wlock := fl s p 2
    paths := (List.range np).map (fun i =>
      let a := p + 8 + 16 * i
      ⟨fl s a 1, fl s (a + 1) 1, fl s (a + 2) 1, fl s (a + 8) 8⟩)
    flows := (List.range nf).map (fun i =>
      let a := fo + 8 * i
      ⟨fl s a 1, fl s (a + 1) 1, fl s (a + 2) 1, fl s (a + 3) 1, fl s (a + 4) 1, fl s (a + 5) 1, fl s (a + 6) 1⟩)
    vars := (List.range nv).map (fun i => (fl s (vo + 4 * i) 2, fl s (vo + 4 * i + 2) 1))
    digest := (Config.sha256 (flBytes s p len)).toNat % 2 ^ 64 }

/-- The address filters of the 10BASE-T1S ports (R320). -/
def loadFilters (p : Nat) (s : State) : State :=
  (List.range 2).foldl (fun t i =>
    let a := p + 72 * i
    let t := { t with bus := { t.bus with t1sUni := Tab.put t.bus.t1sUni 0 i (fl t a 6) } }
    (List.range 8).foldl (fun t j =>
      { t with bus := { t.bus with t1sMulti := Tab.put t.bus.t1sMulti 0 (8 * i + j) (fl t (a + 8 + 8 * j) 6) } }) t) s

/-- The layout of section `typ` at `p` is taken over. -/
def loadLayout (typ p len : Nat) (s : State) : State :=
  match typ with
  | 1 => loadPins p s
  | 4 => loadPrograms p s
  | 6 => loadLin p s
  | 7 => { s with aq := { s.aq with plan := planOf s p len } }
  | 13 => loadFilters p s
  | _ => s

/-- One section is loaded (R310 to R312): false where it is malformed. -/
def loadSection (warm : Bool) (e : Nat × Nat × Nat) (s : State) : Bool × State :=
  let size := layoutSize s e.1 e.2.1
  if e.1 = 11 ∨ e.1 = 0 ∨ 13 < e.1 then (true, s)
  else if e.2.2 < size then (false, s)
  else
    let t := loadLayout e.1 e.2.1 e.2.2 s
    if noRecords e.1 then (true, t) else loadRecords e.1 warm 0x100000 (e.2.1 + size) (e.2.2 - size) t

/-- The sections of a list in order: the TYPE of the first malformed one (R311). -/
def loadSections (warm : Bool) (es : List (Nat × Nat × Nat)) (s : State) : Option Nat × State :=
  match es with
  | [] => (none, s)
  | e :: rest =>
    match loadSection warm e s with
    | (true, t) => loadSections warm rest t
    | (false, t) => (some e.1, t)

/-- The sections of the image at flash address `b`, in ascending TYPE, with flash addresses. -/
def sectionsOf (s : State) (b : Nat) : List (Nat × Nat × Nat) :=
  (List.range 14).filterMap (fun typ =>
    ((directory s b).find? (fun e => e.typ == typ)).map (fun e => (typ, b + e.off, e.len)))

/-- The Keeper SRAMs take their images (R315, R331). -/
def loadKeepers (keep : Nat → Bool) (s : State) : State :=
  (List.range 8).foldl (fun t k =>
    let t := if keep (12 + k) then t else reloadCode k t
    if keep (20 + k / 2) then t else reloadData k t) s

end Sys2Proof.Machine
end

