-- ==== Sys2Proof/Machine/HostLink.lean ====
section
/-! DEFINITION. The host link: paths, sessions, frames and notices (R49 to R60). -/

namespace Sys2Proof.Machine

/-- The host path of master code `m`. -/
def State.host (s : State) (m : Nat) : HostPath := Tab.get s.hosts {} m

/-- The state with that path changed. -/
def State.modHost (m : Nat) (f : HostPath → HostPath) (s : State) : State :=
  { s with hosts := Tab.mod s.hosts {} m f }

/-- The address that responses and notices carry: 0 without a waterway (R50). -/
def originAddr (s : State) : Nat := if aqRunning s then aqAddr s else 0

/-- The master code of a path operand (R46). -/
def pathCode (p : Fin 3) : Nat := 9 + p.val

/-! ### Frames going out -/

/-- The six header bytes of a frame (R50). -/
def headBytes (typ ref flags addr len : Nat) : List Nat := [typ % 256, ref % 256, flags, addr % 256] ++ leBytes 2 len

/-- The nonce of a frame: salt, then SEQ (R54). -/
def nonceOf (salt seq : Nat) : Nat := leNat (leBytes 4 salt ++ leBytes 8 seq)

/-- A frame of header and payload bytes with its CRC-32C (R50). -/
def withCrc (l : List Nat) : List Nat := l ++ leBytes 4 (crcOf crcC l)

/-- What a payload becomes on path `m`: encrypted while a session is open (R54, R55). -/
def sealed (m typ ref : Nat) (payload : List Nat) (s : State) : Bool × List Nat :=
  let x := s.host m
  if sessionLevel s m = 0 then (false, payload)
  else
    let n := nonceOf x.saltOut x.txSeq
    let text := Config.gcmCrypt x.keyOut n payload
    let head := headBytes typ ref 0x80 (originAddr s) (24 + payload.length)
    (true, leBytes 8 x.txSeq ++ text ++ leBytes 16 (Config.gcmTag x.keyOut n head text).toNat)

/-- A frame leaves on path `m`; on the tunnel path it goes to module `dst` (R50, R425). -/
def sendFrame (m dst typ ref : Nat) (payload : List Nat) (s : State) : State :=
  let p := sealed m typ ref payload s
  let t := if p.1 then s.modHost m (fun x => { x with txSeq := x.txSeq + 1 }) else s
  if m = 10 then
    sendTunnel dst (withCrc (headBytes typ ref (if p.1 then 0x80 else 0) (originAddr s) p.2.length ++ p.2)) t
  else State.send (.frame m typ ref (originAddr s) p.1 p.2) t

/-- The response to command code `code` with reference `ref` on path `m` (R57). -/
def respond (m code ref : Nat) (payload : List Nat) (s : State) : State :=
  sendFrame m s.aq.tunHost (code + 0x80) ref payload s

/-- A NAK with its reason and detail (R57, R58, R68). -/
def nak (m ref reason detail : Nat) (s : State) : State :=
  sendFrame m s.aq.tunHost 0x7F ref (reason :: leBytes 3 detail) (State.incFld HOST_STAT HOST_STAT_NAK_CNT s)

/-! ### Sessions (R53 to R56) -/

/-- A session ends on path `m`: EV243, and a Gatehouse mode that it entered ends (R56, R469). The hold of a
failed opening stands. -/
def endSession (m : Nat) (s : State) : State :=
  if (s.host m).level = 0 then s
  else onSessionEnd m (raiseEv 243 0xFFFF (s.modHost m (fun x => { holdEnd := x.holdEnd })))

/-- The session of path `m` has had no accepted command for 60 s (R56). -/
def sessionOver (s : State) (m : Nat) : Bool :=
  (s.host m).level != 0 && decide ((s.host m).lastCommand + 60000000000 ≤ s.now)

/-- What the session layer refuses a command for (R55); an encrypted command on a path without a session cannot
be verified, and gets DECRYPT as well. SESSION OPEN is always accepted. -/
def sessionRefuses (s : State) (h : HostHdr) (isOpen : Bool) : Option Nat :=
  let x := s.host (pathCode h.path)
  if isOpen then none
  else if x.level = 0 then (if h.enc then some 9 else none)
  else if !h.enc then some 0xA
  else if h.seq ≤ x.lastSeq then some 8
  else if h.tag ≠ (Config.gcmTag x.keyIn (nonceOf x.saltIn h.seq) (h.covered.take 6) (h.covered.drop 6)).toNat then some 9
  else none

/-- A command is accepted on path `m` (R55, R56). -/
def acceptCommand (m : Nat) (h : HostHdr) (s : State) : State :=
  if (s.host m).level = 0 then s
  else s.modHost m (fun x => { x with lastSeq := (if h.enc then h.seq else x.lastSeq), lastCommand := s.now })

/-! ### Notices (R59, R60) -/

/-- The path that notices take, where it has a link (R60, R67). -/
def notePath (s : State) : Option Nat :=
  match s.fld HOST_CFG HOST_CFG_NOTE_PORT with
  | 0 => if s.flag HOST_CFG HOST_CFG_TP_EN && s.flag HOST_STAT HOST_STAT_LINK then some 9 else none
  | 1 => some 11
  | 2 => if enabled s 15 && (routeTo s (s.fld HOST_CFG HOST_CFG_TUN_ADDR)).isSome then some 10 else none
  | _ => none

/-- A notice frame starts (R50, R59). -/
def sendNotice (m typ : Nat) (payload : List Nat) (s : State) : State :=
  let t := sendFrame m (s.fld HOST_CFG HOST_CFG_TUN_ADDR) typ s.rep.noteRef payload s
  { t with rep := { t.rep with noteRef := (s.rep.noteRef + 1) % 256 } }

/-- Notice of source `n` is pending and outside its hold (R60, R63). -/
def eventReady (s : State) (n : Nat) : Bool :=
  bitOf (s.reg (HOST_EVPEND (n / 16))).toNat (n % 16) && decide ((Tab.get s.rep.ev {} n).holdEnd ≤ s.now)

/-- The event source whose notice is next: round robin after the one last sent (R60). -/
def nextEvent (s : State) : Option Nat :=
  ((List.range 256).map (fun i => (s.rep.evLast + 1 + i) % 256)).find? (fun n => eventReady s n)

/-- HOLD of source `n` in ns (R64). -/
def holdTime (s : State) (n : Nat) : Nat :=
  let h := s.fld (HOST_EVCFG n) HOST_EVCFG_HOLD
  if h = 0 then 0 else 2 ^ (h - 1) * 1000000

/-- The pending FAULT notice of the lowest number. -/
def firstFault (l : List FaultNote) : Option FaultNote :=
  l.foldl (fun b x => match b with
    | none => some x
    | some y => if x.flt < y.flt then some x else b) none

/-- EVENT notice of source `n` is sent on path `m`, and its pending state clears. -/
def noticeEvent (m n : Nat) (s : State) : State :=
  let x := Tab.get s.rep.ev {} n
  let t := sendNotice m 0xC1 ([n] ++ leBytes 2 x.count ++ leBytes 8 x.first ++ leBytes 8 x.last) s
  let a := HOST_EVPEND (n / 16)
  let t := State.setReg a (BitVec.ofNat 32 (clrBitN (t.reg a).toNat (n % 16))) t
  { t with rep := { t.rep with
      evLast := n
      ev := Tab.mod t.rep.ev {} n (fun y => { y with count := 0, holdEnd := s.now + holdTime s n }) } }

/-- The pending item of the highest rank is sent on path `m` (R59, R60). -/
def noticeNext (m : Nat) (s : State) : State :=
  match firstFault s.rep.faultNotes with
  | some f =>
    sendNotice m 0xC2 ([f.flt, f.react] ++ leBytes 8 f.time)
      { s with rep := { s.rep with faultNotes := s.rep.faultNotes.filter (fun x => x.flt != f.flt) } }
  | none =>
    match s.rep.wakeNote with
    | some w => sendNotice m 0xC3 (leBytes 4 w.1 ++ leBytes 8 w.2) { s with rep := { s.rep with wakeNote := none } }
    | none =>
      match s.rep.checkNotes with
      | (n, r) :: rest => sendNotice m 0xC4 [n, r.1, r.2] { s with rep := { s.rep with checkNotes := rest } }
      | [] =>
        match s.rep.updateNote with
        | some u => sendNotice m 0xC5 (leBytes 4 u.1 ++ [u.2.1, u.2.2]) { s with rep := { s.rep with updateNote := none } }
        | none =>
          match nextEvent s with
          | some n => noticeEvent m n s
          | none => s

/-- The notice link is free (R60); notices stay pending during the Warden's pause (R488) and while the Lodge is
off. -/
def noticeSend (s : State) : State :=
  if s.start.lodgeDown || lowPower s || s.upd.pause.isSome then s
  else match notePath s with
    | some m => noticeNext m s
    | none => s

end Sys2Proof.Machine
end

