-- ==== Sys2Proof/Machine/CheckOps.lean ====
section
/-! DEFINITION. The consistency checks: what each refuses, in ascending order of its code, with the lowest
offending item as DETAIL (R306, R313 to R320, R323, R328), and what enabling and disabling do (R322 to R327). -/

namespace Sys2Proof.Machine

/-! ### Pins (R502) -/

/-- Subsystem of the first function of pin `p`; 0x1F for the module as a whole (R313, R502). Pins that the
manual names under no subsystem take the one that runs their unit. -/
def pinSub (p : Nat) : Nat :=
  if p ≤ 64 then (p + 31) / 16 + 1
  else if p ≤ 112 then 9
  else if p ≤ 128 then 10
  else if p ≤ 152 then 7
  else if p ≤ 158 then 0
  else if p ≤ 176 then 12
  else if p ≤ 188 then 13
  else if p ≤ 196 then 15
  else if p ≤ 204 then 16
  else if p ≤ 210 then 0x1F
  else if p ≤ 215 then 17
  else if p ≤ 219 then 9
  else if p ≤ 232 then 0x1F
  else if p ≤ 236 then 14
  else if p ≤ 239 then 0
  else if p ≤ 241 then 8
  else if p ≤ 248 then 17
  else if p ≤ 253 then 9
  else if p ≤ 264 then 0x1F
  else if p ≤ 296 then (p - 265) / 16 + 1
  else if p ≤ 312 then 8
  else if p ≤ 316 then 7
  else if p ≤ 336 then 9
  else if p ≤ 338 then 0
  else 0x1F

/-- Every pin. -/
def allPins : List Nat := (List.range 344).map (· + 1)

/-- SUBSYS of pin `p`. -/
def pinNamed (s : State) (p : Nat) : Nat := (Tab.get s.start.pins (0, 0) p).2

/-- Pin `p` concerns the check of subsystem `n`: one of its functions, or the subsystem named for it. -/
def pinConcerns (s : State) (n p : Nat) : Bool :=
  pinSub p == n || (decide (p ≤ 128) && n == 10) || ((pinFirst s p || pinSecond s p) && pinNamed s p == n)

/-- Pins absent in the variant (R2, R3). -/
def pinAbsent (p : Nat) : Bool :=
  match Config.variant with
  | .ae => decide (211 ≤ p ∧ p ≤ 215) || decide (242 ≤ p ∧ p ≤ 248)
  | _ => false

/-- The first item of a list that a check refuses. -/
def firstOf (l : List Nat) (bad : Nat → Bool) : Option Nat := l.find? bad

/-! ### Each code -/

/-- Sections that subsystem `n` requires (R306). -/
def needs (n : Nat) : List Nat :=
  [1] ++ (if 1 ≤ n ∧ n ≤ 10 then [2, 3] else []) ++ (if n = 11 then [4] else []) ++ (if n = 12 then [5] else []) ++
    (if n = 13 then [6] else []) ++ (if n = 15 ∨ n = 11 then [7] else []) ++ (if n = 9 then [8] else []) ++
    (if n = 17 then [9] else []) ++ (if n = 0 then [10] else []) ++ (if n = 14 ∨ n = 16 then [13] else [])

/-- CC-06. -/
def cc06 (s : State) (n : Nat) : Option Nat := firstOf (needs n) (fun typ => (sectionOf s typ).isNone)

/-- CC-10: both functions of one pin are claimed. -/
def cc10 (s : State) (n : Nat) : Option Nat :=
  firstOf allPins (fun p => pinConcerns s n p && pinFirst s p && pinSecond s p)

/-- CC-11. -/
def cc11 (s : State) (_ : Nat) : Option Nat :=
  firstOf allPins (fun p => (pinFirst s p || pinSecond s p) && pinAbsent p)

/-- The channels of Pavilion subsystem `n`. -/
def pavOf (n : Nat) : List Nat := (List.range 16).map (fun k => 16 * (n - 1) + k)

/-- Subsystem `n` is a Pavilion. -/
def isPav (n : Nat) : Bool := decide (1 ≤ n ∧ n ≤ 6)

/-- CC-12 (R94, R180). -/
def cc12 (s : State) (n : Nat) : Option Nat :=
  if isPav n then firstOf (pavOf n) (fun g => s.flag (PAV_CFG g) PAV_CFG_PAIR && (g % 2 == 1 || decide (3 ≤ n)))
  else if n = 8 then firstOf (List.range 16) (fun h => s.flag (BR_CFG h) BR_CFG_PAIR && h % 2 == 1)
  else none

/-- CC-13 (R98, R183, R205). -/
def cc13 (s : State) (n : Nat) : Option Nat :=
  if isPav n then firstOf (pavOf n) (fun g => decide (6 ≤ s.fld (PAV_CFG g) PAV_CFG_PWMF))
  else if n = 8 then firstOf (List.range 16) (fun h => decide (6 ≤ s.fld (BR_CFG h) BR_CFG_PWMF))
  else if n = 9 then firstOf (List.range 48) (fun k => decide (6 ≤ s.fld (LC_CFG k) LC_CFG_PWMF))
  else none

/-- CC-14 (R98). -/
def cc14 (s : State) (n : Nat) : Option Nat :=
  if n = 1 ∨ n = 2 then
    firstOf (pavOf n) (fun g => s.fld (PAV_CFG g) PAV_CFG_PWMF == 4 || s.fld (PAV_CFG g) PAV_CFG_PWMF == 5)
  else none

/-- CC-15 (R137). -/
def cc15 (s : State) (n : Nat) : Option Nat :=
  if isPav n then
    firstOf (pavOf n) (fun g =>
      let typ := s.fld (MEAS_DCFG g) MEAS_DCFG_LOADTYPE
      (s.flag (MEAS_DCFG g) MEAS_DCFG_OFF_EN && (typ == 4 || typ == 5)) ||
        (s.flag (MEAS_HHCFG g) MEAS_HHCFG_HH_EN && (typ == 0 || (decide (4 ≤ typ) && typ != 7))))
  else none

/-- CC-16 (R137). -/
def cc16 (s : State) (n : Nat) : Option Nat :=
  if isPav n then firstOf (pavOf n) (fun g => s.fld (MEAS_DCFG g) MEAS_DCFG_LOADTYPE == 7) else none

/-- CC-17 (R161): the claimed peak-and-hold valves of a bank without a defer time. -/
def cc17 (s : State) (n : Nat) : Option Nat :=
  if n = 7 then
    firstOf (List.range 4) (fun b => decide (1 < ((valvesOf b).filter (fun v =>
      pinFirst s (129 + v) && !s.flag (SLU_CFG v) SLU_CFG_MODE && s.fld (SLU_DITH v) SLU_DITH_DEFER_T == 0)).length))
  else none

/-- CC-18 (R190). -/
def cc18 (s : State) (n : Nat) : Option Nat :=
  if n = 8 then
    firstOf (List.range 16) (fun h => s.flag (BR_RIP h) BR_RIP_RIP_EN &&
      (s.fld (BR_CFG h) BR_CFG_PWMF == 1 || s.fld (BR_CFG h) BR_CFG_PWMF == 2))
  else none

/-- FOLLOW of sink `k`. -/
def follows (s : State) (k : Nat) : Bool := s.flag (LC_CFG k) LC_CFG_FOLLOW

/-- CC-19 (R203). -/
def cc19 (s : State) (n : Nat) : Option Nat :=
  if n = 9 then
    firstOf (List.range 48) (fun k =>
      (follows s k && (k == 0 || isColumn s k || isColumn s (k - 1) ||
        (decide (8 ≤ k) && (List.range 8).all (fun i => follows s (k - i))))) ||
      (s.flag (LC_CFG k) LC_CFG_MOOR_KEEP && (isColumn s k || follows s k)))
  else none

/-- CC-20 (R223): loop `l`, enabled or not, after the loops before it. -/
def cc20 (s : State) (n : Nat) : Option Nat :=
  if n = 9 then
    firstOf (List.range 8) (fun l =>
      ((s.flag (LOOP_CFG l) LOOP_CFG_RGB && decide (s.fld (LOOP_CFG l) LOOP_CFG_SRC < 4)) ||
        (loopMembers s l).any (fun c =>
          (decide (c < 48) && (isColumn s c || follows s c)) ||
            ((memberElem c).isSome && (List.range l).any (fun k => (loopMembers s k).contains c)))))
  else none

/-- CC-21 (R224): T_line < BLANK + 2 µs. -/
def cc21 (s : State) (n : Nat) : Option Nat :=
  let hz := clampN 120 480 (s.fld TR_CFG TR_CFG_FRAME_HZ)
  let gap := clampN 2 16 (s.fld TR_CFG TR_CFG_BLANK) + 2
  if n = 9 ∧ 1000000 < gap * hz * trLines s * (s.fld TR_CFG TR_CFG_NSUB + 1) then some 0 else none

/-- CC-22 (R224): the columns sink more than 2.0 A, 8000 units of 0.25 mA. -/
def cc22 (s : State) (n : Nat) : Option Nat :=
  if n = 9 ∧ 8000 < ((trColumns s).map (fun k => clampN 0 600 (s.fld (LC_CFG k) LC_CFG_ISET))).sum then some 0
  else none

/-- CC-23 (R224): VSH_TH at or above PRE_VF. -/
def cc23 (s : State) (n : Nat) : Option Nat :=
  if n = 9 ∧ clampN 5 30 (s.fld TR_CFG2 TR_CFG2_PRE_VF) ≤ clampN 5 30 (s.fld TR_CFG2 TR_CFG2_VSH_TH) then
    some 0
  else none

/-! ### The power plan (R319) -/

/-- An entry of the load table. -/
structure Load where
  /-- PIN -/
  pin : Nat
  /-- DIE -/
  die : Nat
  /-- GROUP -/
  group : Nat
  /-- P_DISS, 10 mW -/
  diss : Nat
  /-- I_CONT, 10 mA -/
  amps : Nat
  deriving DecidableEq, Repr

/-- The load table of the Chart in use. -/
def loadTable (s : State) : List Load :=
  match sectionOf s 10 with
  | none => []
  | some (o, _) => (List.range (fl s o 2)).map (fun i =>
      let e := o + 8 + 8 * i
      ⟨fl s e 2, fl s (e + 2) 1, fl s (e + 3) 1, fl s (e + 4) 2, fl s (e + 6) 2⟩)

/-- Subsystem `k` counts in the check of `n`: it is enabled or under check (R323). -/
def countsFor (s : State) (n k : Nat) : Bool := enabled s k || k == n

/-- The loads that count in the check of `n`, by the subsystem of their pins (R319, R323); one on a pin whose SUBSYS is
0x1F belongs to none and counts in no check (log entry 73). -/
def loadsFor (s : State) (n : Nat) : List Load := (loadTable s).filter (fun l => countsFor s n (pinNamed s l.pin))

/-- TBASE_MAX in °C. -/
def tbaseMax (s : State) : Int := signed 8 (s.fld SUPPLY_TBASE SUPPLY_TBASE_TBASE_MAX)

/-- Module budget in 10 mW at TBASE_MAX (R89). -/
def moduleBudget (s : State) : Nat :=
  let t := (tbaseMax s).toNat
  if t ≤ 85 then 5500
  else if t ≤ 105 then 5500 - 125 * (t - 85)
  else 3000 - 90 * (t - 105)

/-- Budget of die `d` up to 85 °C in 10 mW (R89). -/
def dieBudget (d : Nat) : Nat := [1200, 1200, 1200, 800, 600, 300, 200].getD d 0

/-- Wetting dissipation of the claimed switch inputs in 0.1 mW (R239). -/
def wetting (s : State) (n : Nat) : Nat :=
  let vin := match sectionOf s 10 with
    | some (o, _) => fl s (o + 6) 2
    | none => 0
  if countsFor s n 10 then
    vin * ((List.range 96).filter (fun j => inputClaimed s j)).foldl (fun a j =>
      a + (if s.flag (IN_CFG j) IN_CFG_CLEAN then 1
        else [0, 1, 5, 10].getD (s.fld (IN_CFG j) IN_CFG_WET) 0)) 0
  else 0

/-- A power subsystem (R328). -/
def isPower (n : Nat) : Bool := decide (n ≤ 10)

/-- CC-24 (R89, R239, R319): the module first, then die by die. -/
def cc24 (s : State) (n : Nat) : Option Nat :=
  if isPower n then
    let l := loadsFor s n
    if moduleBudget s * 100 < (l.map Load.diss).sum * 100 + wetting s n then some 0
    else (firstOf (List.range 7) (fun d => decide (dieBudget d * moduleBudget s <
      ((l.filter (fun x => x.die == d)).map Load.diss).sum * 5500))).map (· + 1)
  else none

/-- CC-25 (R319): camera-rail entries declare an output current, and do not count. DETAIL 0xFF for the module. -/
def cc25 (s : State) (n : Nat) : Option Nat :=
  if isPower n then
    let l := (loadsFor s n).filter (fun x => !decide (153 ≤ x.pin ∧ x.pin ≤ 158))
    match firstOf (List.range 8) (fun g => decide (2500 < ((l.filter (fun x => x.group == g)).map Load.amps).sum)) with
    | some g => some g
    | none => if 16000 < (l.map Load.amps).sum then some 0xFF else none
  else none

/-- CC-26 (R87, R319): the sum of VSET × I_CONT above 48 W. -/
def cc26 (s : State) (n : Nat) : Option Nat :=
  if n = 0 ∧ 4800000 < (((loadTable s).filter (fun l => decide (153 ≤ l.pin ∧ l.pin ≤ 158))).map
      (fun l => railVset s (l.pin - 153) * l.amps)).sum then some 0
  else none

/-- CC-27 (R321). -/
def cc27 (s : State) (n : Nat) : Option Nat := if 1 ≤ n ∧ n ≤ 10 ∧ enabled s 0 = false then some 0 else none

/-- CC-28 (R1). -/
def cc28 (s : State) (n : Nat) : Option Nat :=
  let top : Int := match Config.variant with
    | .h => 125
    | _ => 105
  if n = 0 ∧ (tbaseMax s < -40 ∨ top < tbaseMax s) then some 0 else none

/-- CC-29 (R79, R319). -/
def cc29 (s : State) (n : Nat) : Option Nat :=
  let tgt := vresTarget s / 1000
  let low := vFloor s / 1000
  match sectionOf s 10 with
  | some (o, _) =>
    if n = 0 ∧ s.fld SUPPLY_RES_CFG2 SUPPLY_RES_CFG2_DECL_CAP * 85 * (tgt * tgt - low * low) <
        200 * fl s (o + 4) 2 * fl s (o + 2) 2 then some 0
    else none
  | none => none

/-! ### Keepers (R255, R260, R267, R315, R317) -/

/-- CC-30: LOCK_CYC differs from the plan's WLOCK, or from that of a neighbour in a running waterway. -/
def cc30 (s : State) (n : Nat) : Option Nat :=
  if n = 11 ∧ (s.aq.plan.wlock ≠ lockSetting s ∨ (List.range 4).any (fun p =>
      match (s.aqPort p).hello with
      | some x => decide (2 ≤ x.state) && x.lockCyc != lockSetting s
      | none => false)) then some (s.fld KEEPER_CFG KEEPER_CFG_LOCK_CYC)
  else none

/-- CC-31. -/
def cc31 (s : State) (n : Nat) : Option Nat :=
  if n = 11 then
    firstOf (List.range 8) (fun k =>
      let b := 10 * s.fld (KEEPER_CTRL k) KEEPER_CTRL_L_BUDGET
      ((s.eng k).present && decide (b < (s.eng k).lDecl)) || decide (1200 * lockSetting s < b))
  else none

/-- CC-32: the lowest index that the owner table lists twice. -/
def cc32 (s : State) (n : Nat) : Option Nat :=
  if n = 11 then
    s.kp.ownTwice.foldl (fun b i => match b with
      | none => some i
      | some j => some (if i < j then i else j)) none
  else none

/-- CC-33. -/
def cc33 (s : State) (n : Nat) : Option Nat :=
  match sectionOf s 4 with
  | some (o, _) =>
    if n = 11 then firstOf (List.range 8) (fun k => decide (0x10000 < descWord s o k 4) || decide (0x8000 < descWord s o k 12))
    else none
  | none => none

/-- CC-34 (R63). -/
def cc34 (s : State) (n : Nat) : Option Nat :=
  if n = 11 then
    firstOf (List.range 256) (fun e => evOn s e && decide (8 ≤ s.fld (HOST_EVCFG e) HOST_EVCFG_KROUTE) &&
      !(s.eng (s.fld (HOST_EVCFG e) HOST_EVCFG_KROUTE - 8)).present)
  else none

/-! ### The fabric (R414, R430) -/

/-- Link states without the link at port `i` of module `a`. -/
def cutLink (t : Tab LinkState) (a i : Nat) : Tab LinkState :=
  List.map (fun e =>
    if e.1 = a then
      (e.1, { e.2 with ports := e.2.ports.zipIdx.map (fun x => if x.2 = i then ({} : LinkEnd) else x.1) })
    else e) t

/-- The intact topology and each one with one link lost. -/
def topologies (s : State) : List (Tab LinkState) :=
  let t := topology s
  t :: t.flatMap (fun e => ((List.range 4).filter (fun i => linkUsed t e.1 i && decide (e.1 < (endOf t e.1 i).naddr))).map
    (fun i => cutLink t e.1 i))

/-- CC-35: more than 20 µs on a port, in either direction (R430). -/
def cc35 (s : State) (n : Nat) : Option Nat :=
  if n = 15 then
    firstOf (List.range 4) (fun p => (topologies s).any (fun t => decide (2000 < classLoad t s.aq.plan (aqAddr s) p) ||
      (linkUsed t (aqAddr s) p && decide (2000 < classLoad t s.aq.plan (endOf t (aqAddr s) p).naddr (endOf t (aqAddr s) p).nport))))
  else none

/-- Module addresses that the plan names. -/
def plannedAddrs (s : State) : List Nat :=
  s.aq.plan.paths.map PathEntry.addr ++ s.aq.plan.flows.map PlanFlow.src ++
    (s.aq.plan.flows.filter (fun f => f.dkind == 0)).map PlanFlow.dst

/-- CC-36: the module stands on a spare address, or the plan names a module that discovery did not find. -/
def cc36 (s : State) (n : Nat) : Option Nat :=
  if n = 15 then
    (if 241 ≤ aqAddr s ∧ aqAddr s ≤ 250 then some (aqAddr s)
     else firstOf (List.range 256) (fun a => (plannedAddrs s).contains a && (Tab.find (topology s) a).isNone))
  else none

/-! ### Vehicle buses (R355, R366, R368, R373) -/

/-- CC-37. -/
def cc37 (s : State) (n : Nat) : Option Nat :=
  if n = 12 then
    firstOf (List.range 8) (fun c =>
      (decide (c < 6) && (s.flag (CAN_CTRL c) CAN_CTRL_XL_EN ||
        (List.range 128).any (fun k => fget OBJ_EN (objWord s c k) == 1 && fget OBJ_FMT (objWord s c k) == 2))) ||
      (s.flag (CAN_J1939 c) CAN_J1939_EN &&
        (fget OBJ_EN (objWord s c 126) == 1 || fget OBJ_EN (objWord s c 127) == 1)))
  else none

/-- A rate candidate whose resynchronisation jump exceeds its second segment is invalid. -/
def badCandidate (w : Word) : Bool := w != 0#32 && decide (fget CAN_RCAND_TSEG2 w < fget CAN_RCAND_SJW w)

/-- CC-38. -/
def cc38 (s : State) (n : Nat) : Option Nat :=
  if n = 12 then firstOf (List.range 8) (fun c => (List.range 8).any (fun j => badCandidate (s.reg (CAN_RCAND c j)))) else none

/-- A slot of channel `ch` is shorter than its frame. -/
def slotShort (s : State) (ch : Nat) (x : LinSlot) : Bool :=
  match x.kind with
  | 0 => decide (x.time * 100000 < linFrameTime s ch (s.linFrame ch x.id).len)
  | 1 => decide (x.time * 100000 < linFrameTime s ch 8)
  | _ => false

/-- CC-39 (R369). -/
def cc39 (s : State) (n : Nat) : Option Nat :=
  if n = 13 then firstOf (List.range 12) (fun ch => (List.range 4).any (fun i => (linTable s ch i).any (slotShort s ch)))
  else none

/-- CC-40 (R372, R373): SENT input `i` is item `i`. -/
def cc40 (s : State) (n : Nat) : Option Nat :=
  let plca (p : Nat) : Bool := s.flag (T1S_CFG p) T1S_CFG_ON && s.flag (T1S_CFG p) T1S_CFG_PLCA_EN
  if n = 16 then
    (if plca 0 && plca 1 && s.fld (T1S_CFG 0) T1S_CFG_NODE_ID == s.fld (T1S_CFG 1) T1S_CFG_NODE_ID then some 0
     else firstOf (List.range 4) (fun i =>
       let tick := s.fld (SENT_CFG i) SENT_CFG_TICK
       let nib := s.fld (SENT_CFG i) SENT_CFG_NIBBLES
       decide (tick < 300) || decide (9000 < tick) || nib == 0 || nib == 7))
  else none

/-- CC-41 (R381). -/
def cc41 (s : State) (n : Nat) : Option Nat :=
  if n = 14 then
    firstOf (List.range 18) (fun t => s.flag (NETPM_XCV t) NETPM_XCV_WAKE_EN && decide (4 ≤ s.fld (NETPM_XCV t) NETPM_XCV_HSEL))
  else none

/-- CC-42 (R318): entry 0 is MAXTOK, 1 K_LEARN, 2 K_REL. -/
def cc42 (s : State) (n : Nat) : Option Nat :=
  if n = 17 then
    (if sectionNat s 9 4 1 = 0 ∨ 16 < sectionNat s 9 4 1 then some 0
     else if kLearn s = 0 then some 1
     else if kRel s = 0 ∧ bitOf (sectionNat s 9 7 1) 0 then some 2
     else none)
  else none

/-! ### Safe-state entries (R314) and the pin map (R313) -/

/-- (address, MASK) of every pair of the FIELD records at flash address `p`, `left` bytes long. -/
def fieldMasks (s : State) (fuel p left : Nat) : List (Nat × Word) :=
  match fuel with
  | 0 => []
  | fuel + 1 =>
    if left < 8 ∨ fl s p 1 ≠ 2 then []
    else
      let n := fl s (p + 2) 2
      let a := fl s (p + 4) 4
      (List.range n).map (fun i => (a + 4 * i, BitVec.ofNat 32 (fl s (p + 8 + 8 * i) 4))) ++
        fieldMasks s fuel (p + 8 + 8 * n) (left - 8 - 8 * n)

/-- The safe-state section covers field `f` of the register at `a`. -/
def safeCovers (masks : List (Nat × Word)) (a : Nat) (f : Fld) : Bool :=
  ((masks.filter (fun e => e.1 == a)).foldl (fun m e => m ||| e.2) 0#32) &&& fmask f == fmask f

/-- CC-43. -/
def cc43 (s : State) (n : Nat) : Option Nat :=
  let m := match sectionOf s 3 with
    | some (o, len) => fieldMasks s 0x10000 o len
    | none => []
  if isPav n then
    firstOf (pavOf n) (fun g => pinFirst s (pinOfPav g) && !(safeCovers m (PAV_CFG g) PAV_CFG_SAFE &&
      (s.fld (PAV_CFG g) PAV_CFG_SAFE != 3 || safeCovers m (PAV_CFG g) PAV_CFG_SAFE_DUTY)))
  else match n with
  | 7 => firstOf (List.range 24) (fun v => pinFirst s (129 + v) && !safeCovers m (SLU_CFG v) SLU_CFG_SAFE)
  | 8 => firstOf (List.range 16) (fun h => pinFirst s (297 + h) && !safeCovers m (BR_CFG h) BR_CFG_SAFE)
  | 9 =>
    match firstOf (List.range 48) (fun k => pinFirst s (pinOfLight k) && !(safeCovers m (LC_CFG k) LC_CFG_SAFE &&
        (s.fld (LC_CFG k) LC_CFG_SAFE != 1 || safeCovers m (LC_DCFG k) LC_DCFG_SAFE_LVL))) with
    | some k => some k
    | none =>
      match firstOf (List.range 4) (fun k => pinFirst s (pinOfLight (48 + k)) && !safeCovers m (BL_CFG k) BL_CFG_SAFE) with
      | some k => some (48 + k)
      | none =>
        if (List.range 16).any (fun l => pinFirst s (317 + l)) && !(safeCovers m TR_CFG2 TR_CFG2_SAFE &&
            (s.fld TR_CFG2 TR_CFG2_SAFE != 1 || safeCovers m TR_CFG2 TR_CFG2_SAFE_LVL)) then some 52
        else none
  | 10 => firstOf (List.range 16) (fun o => pinFirst s (113 + o) && !safeCovers m (FO_CFG o) FO_CFG_SAFE)
  | _ => none

/-- CC-44: an entry of the pin map that does not fit its pin. -/
def cc44 (s : State) (n : Nat) : Option Nat :=
  firstOf allPins (fun p => pinConcerns s n p &&
    ((pinSecond s p && decide (128 < p)) || (pinFirst s p && pinNamed s p != pinSub p) ||
      (pinSecond s p && decide (p ≤ 128) && pinNamed s p != 10)))

/-- Every code of R328 that a check gives, in ascending order. -/
def checkCodes : List (Nat × (State → Nat → Option Nat)) :=
  [(6, cc06), (10, cc10), (11, cc11), (12, cc12), (13, cc13), (14, cc14), (15, cc15), (16, cc16), (17, cc17)] ++
  [(18, cc18), (19, cc19), (20, cc20), (21, cc21), (22, cc22), (23, cc23), (24, cc24), (25, cc25), (26, cc26)] ++
  [(27, cc27), (28, cc28), (29, cc29), (30, cc30), (31, cc31), (32, cc32), (33, cc33), (34, cc34), (35, cc35)] ++
  [(36, cc36), (37, cc37), (38, cc38), (39, cc39), (40, cc40), (41, cc41), (42, cc42), (43, cc43), (44, cc44)]

/-- The first refusal of a list of codes. -/
def firstRefusal (l : List (Nat × (State → Nat → Option Nat))) (s : State) (n : Nat) : Option (Nat × Nat) :=
  match l with
  | [] => none
  | e :: rest =>
    match e.2 s n with
    | some d => some (e.1, d)
    | none => firstRefusal rest s n

/-- The code and DETAIL with which the check of subsystem `n` refuses, if it does (R323, R328). -/
def checkRefuses (s : State) (n : Nat) : Option (Nat × Nat) := firstRefusal checkCodes s n

/-! ### Requests and results (R322 to R325) -/

/-- The ENABLE commands that wait for subsystem `n` are answered (R57, R324). -/
def answerAskers (n result code : Nat) (s : State) : State :=
  (s.start.askers.filter (fun a => a.1 == n)).foldl (fun t a => respond a.2.1 9 a.2.2 [result, code] t)
    { s with start := { s.start with askers := s.start.askers.filter (fun a => a.1 != n) } }

/-- The result of a check: CHECK_LAST, CHECK_REASON of a refusal, the CHECK notice and the answers (R322). -/
def checkResult (n result code detail : Nat) (s : State) : State :=
  let w := fput CHECK_LAST_RESULT result (fput CHECK_LAST_CODE code (fput CHECK_LAST_DETAIL detail 0#32))
  let t := State.setReg (CHECK_LAST n) w s
  let t := if result = 2 then
      State.setReg CHECK_REASON (fput CHECK_REASON_SUBSYS n (fput CHECK_REASON_CODE code
        (fput CHECK_REASON_DETAIL detail 0#32))) t
    else t
  answerAskers n result code
    { t with rep := { t.rep with checkNotes := Tab.put t.rep.checkNotes (0, 0) n (result, code) } }

/-- Subsystem `n` leaves the queue of checks. -/
def dropCheck (n : Nat) (s : State) : State :=
  { s with start := { s.start with checkQueue := s.start.checkQueue.filter (fun c => c != n) } }

/-- A check of subsystem `n` is requested (R322, R324): one that is enabled, queued or under check is not asked
for again. -/
def requestCheck (n : Nat) (s : State) : State :=
  if enabled s n ∨ s.start.checkQueue.contains n then s
  else { s with start := { s.start with checkQueue := s.start.checkQueue ++ [n] } }

/-- ENABLE bit of subsystem `n`, on the Lodge and on the dies (R326). -/
def setEnable (n : Nat) (b : Bool) (s : State) : State :=
  let e := s.fld CHECK_EN CHECK_EN_ENABLE
  syncEnable n (State.setFld CHECK_EN CHECK_EN_ENABLE (if b then setBitN e n else clrBitN e n) s)

/-! ### Enabling and disabling (R326) -/

/-- Subsystem `n` goes into service. -/
def enableEffect (n : Nat) (s : State) : State :=
  match n with
  | 0 => railsOn s
  | 7 => (List.range 4).foldl (fun t b => if serving t (6 + b) then sluAllOn b true t else t) s
  | 8 => if (List.range 4).all (fun g => serving s (10 + g)) then brAllOn s else s
  | 9 => if serving s 14 then lightAllOn s else s
  | 10 => if foServing s 0 then foAllOn s else s
  | 11 => if s.fld CHECK_START CHECK_START_STATE = 0 then restartKeepers s else s
  | 12 => (List.range 8).foldl (fun t c => if canMode t c = 2 then rdEnter c t else t) s
  | 13 => (List.range 12).foldl (fun t ch => State.modLin ch (fun x => { x with
      table := t.fld (LIN_CFG ch) LIN_CFG_SCHED, switching := false, next := 0, slotEnd := t.now }) t) s
  | 16 => (List.range 4).foldl (fun t i => State.modSent i (fun x => { x with lastValid := t.now, timedOut := false }) t) s
  | _ => if isPav n && serving s (n - 1) then pavEnable (n - 1) s else s

/-- Subsystem `n` leaves service; what this table does not name follows from ENABLE itself (R326). -/
def disableEffect (n : Nat) (s : State) : State :=
  match n with
  | 0 => railsOff s
  | 7 => (List.range 4).foldl (fun t b => sluAllOff b t) s
  | 8 => brAllOff s
  | 9 => lightDisable s
  | 10 => foAllOff s
  | 11 => haltKeepers s
  | 12 => noteOff 12 s
  | 13 => noteOff 13 s
  | 16 => noteOff 16 s
  | 17 => gateDisable s
  | _ => if isPav n then pavDisable (n - 1) s else s

/-- The check of subsystem `n` accepts. -/
def acceptCheck (n : Nat) (s : State) : State :=
  checkResult n 1 0 0 (enableEffect n (setEnable n true (dropCheck n s)))

/-- A write of 0 to the ENABLE bit of subsystem `n` (R325, R326): false where it is a locked write. -/
def writeZero (n : Nat) (s : State) : Bool × State :=
  if enabled s n then
    (if n = 0 ∧ (List.range 10).any (fun k => enabled s (k + 1)) then (false, s)
     else (true, disableEffect n (setEnable n false s)))
  else if s.start.checkQueue.contains n then (true, checkResult n 3 0 0 (dropCheck n s))
  else (true, s)

/-- What a write of view `view` asks of a bit that reads `old` where it carries `x`: nothing, 0 or 1 (R36, R37). -/
def asks (view : Nat) (old x : Bool) : Option Bool :=
  match view with
  | 0 => some x
  | 1 => if x then some true else none
  | 2 => if x then some false else none
  | _ => if x then some (!old) else none

/-- The row before has set the ENABLE bit of subsystem `n`. -/
def acceptedNow (s : State) (n : Nat) : Bool :=
  enabled s n && !bitOf (fget CHECK_EN_ENABLE (Tab.get s.prev (regReset CHECK_EN) CHECK_EN)) n

/-- A write of 0 in the cycle in which the check accepts wins: ENABLE is 0 and the result reads CANCELLED (R327). -/
def cancelAccepted (n : Nat) (s : State) : State := checkResult n 3 0 0 (disableEffect n (setEnable n false s))

/-- The bits of a write of CHECK_EN, in order; the count of locked writes met. -/
def enableBits (same : Bool) (full : Nat) (v : Word) (ns : List Nat) (s : State) : Nat × State :=
  match ns with
  | [] => (0, s)
  | n :: rest =>
    let r : Nat × State := match asks (viewOf full) (enabled s n) (bitOf v.toNat n) with
      | none => (0, s)
      | some true => if n = 17 ∧ gateFused then (1, s) else (0, requestCheck n s)
      | some false =>
        let z := if same && acceptedNow s n then (true, cancelAccepted n s) else writeZero n s
        (if z.1 then 0 else 1, z.2)
    let q := enableBits same full v rest r.2
    (r.1 + q.1, q.2)

/-- A write of CHECK_EN by master `m`, with `same` in the cycle of the row before (R2, R42, R43, R322, R325, R327). -/
def writeEnable (same : Bool) (m full : Nat) (v : Word) (s : State) : State :=
  if !privileged s m then (if v &&& 0x3FFFF#32 = 0#32 then s else privViol m full s)
  else
    let r := enableBits same full v (List.range 18) s
    if r.1 = 0 then r.2 else lockViol m full v r.2

/-- The check of the head of the queue completes (R322, R324): `flash` is 0, or it could not be completed for a flash read
error, 1, which raises FLT42 (R436), or for a timeout, 2. Checks wait during the Warden's pause (R488). -/
def checkCompletes (flash : Nat) (s : State) : State :=
  if s.upd.pause.isSome ∨ s.start.lodgeDown then s
  else match s.start.checkQueue with
  | [] => s
  | n :: _ =>
    if flash ≠ 0 then checkResult n 2 64 0 (dropCheck n (if flash = 1 then raiseFault 42 s else s))
    else match checkRefuses s n with
      | some (code, detail) => checkResult n 2 code detail (dropCheck n s)
      | none => acceptCheck n s

end Sys2Proof.Machine
end

