-- ==== Sys2Proof/Machine/UpdOps.lean ====
section
/-! DEFINITION. Field update: pieces, the manifest, compatibility, and what a hand-over changes (R478 to
R493). -/

namespace Sys2Proof.Machine

/-! ### The Basin and its manifest (R478) -/

/-- Flash address of the Basin (R303). -/
abbrev basin : Nat := 0xC00000

/-- Number of the `n` bytes at offset `o` of the manifest. -/
def mf (s : State) (o n : Nat) : Nat := fl s (basin + o) n

/-- M and N. -/
def mPieces (s : State) : Nat := mf s 6 1

/-- N, the data pieces. -/
def nPieces (s : State) : Nat := mf s 7 2

/-- Pieces that the Basin holds: 1024 on a 16 MiB flash, at most 4096 (R303, R478). -/
def basinTop : Nat := clampN 1024 4096 Config.basinPieces

/-- A component of the update. -/
structure Comp where
  /-- TYPE: 1 Chart, 2 Warden firmware -/
  typ : Nat
  /-- first data piece -/
  first : Nat
  /-- length in bytes -/
  len : Nat
  /-- new version -/
  ver : Nat
  /-- FROM_MIN -/
  fromMin : Nat
  /-- FROM_MAX -/
  fromMax : Nat
  deriving DecidableEq, Repr

/-- COMP[i]. -/
def compAt (s : State) (i : Nat) : Comp :=
  let o := 20 + 24 * i
  ⟨mf s o 4, mf s (o + 4) 4, mf s (o + 8) 4, verAt s (basin + o + 12), verAt s (basin + o + 16), verAt s (basin + o + 20)⟩

/-- The components of the update: those of TYPE Chart or Warden firmware. -/
def comps (s : State) : List Comp := [compAt s 0, compAt s 1].filter (fun c => c.typ == 1 || c.typ == 2)

/-- The component of a TYPE. -/
def compOf (s : State) (typ : Nat) : Option Comp := (comps s).find? (fun c => c.typ == typ)

/-! ### State (R493) -/

/-- STATE of the update. -/
def updState (s : State) : Nat := s.fld UPD_STAT UPD_STAT_STATE

/-- Piece `p` is held. -/
def pieceHeld (s : State) (p : Nat) : Bool := bitOf (s.reg (UPD_BITMAP (p / 32))).toNat (p % 32)

/-- The bitmap bit of piece `p` becomes `b`. -/
def setHeld (p : Nat) (b : Bool) (s : State) : State :=
  let w := (s.reg (UPD_BITMAP (p / 32))).toNat
  State.setReg (UPD_BITMAP (p / 32)) (BitVec.ofNat 32 (if b then setBitN w (p % 32) else clrBitN w (p % 32))) s

/-- The bytes of the update record (R410, R484). -/
def updRecord (s : State) : List Nat :=
  verBytes (s.reg CHECK_CHARTVER).toNat ++ verBytes (s.reg CHECK_FWVER).toNat ++ [ownMajor s, updState s, 0, 0] ++
    leBytes 4 (s.reg UPD_ID).toNat

/-- The update record goes to all modules while AQ is enabled (R484). -/
def sendRecord (s : State) : State :=
  if enabled s 15 ∧ aqState s = 2 then sendBarge (mkBarge s 1 2 1 0 0xFD (updRecord s)) s else s

/-- The update enters state `st` with `reason` and DETAIL: the UPDATE notice, and the record at once (R59, R484). -/
def updTo (st reason detail : Nat) (s : State) : State :=
  let w := fput UPD_STAT_STATE st (fput UPD_STAT_REASON reason (fput UPD_STAT_DETAIL detail (s.reg UPD_STAT)))
  let t := State.setReg UPD_STAT w s
  sendRecord { t with rep := { t.rep with updateNote := some ((s.reg UPD_ID).toNat, st, reason) } }

/-- A refusal that leaves the update in state `st` (R483): EV220 and FLT66. -/
def updRefuse (st reason detail peer : Nat) (s : State) : State :=
  raiseFault 66 (raiseEv 220 0xFFFF (updTo st reason detail (State.setFld UPD_CTRL UPD_CTRL_UPD_PEER peer s)))

/-! ### Pieces (R480 to R482) -/

/-- The bytes of piece `p` in the Basin. -/
def pieceBytes (s : State) (p : Nat) : List Nat := flBytes s (basin + 4096 * p) 4096

/-- SHA-256 of a piece, as a number of 32 bytes in output order. -/
def pieceHash (l : List Nat) : Nat := (Config.sha256 l).toNat

/-- A piece as it stands in the Basin: 4096 bytes, padded with 0xFF (R478). -/
def padPiece (l : List Nat) : List Nat := l.take 4096 ++ List.replicate (4096 - l.length) 0xFF

/-- Data piece `p` has the bytes that the hash table names. -/
def hashMatches (s : State) (p : Nat) (l : List Nat) : Bool := pieceHash (padPiece l) == mf s (360 + 32 * (p - mPieces s)) 32

/-- What the manifest signature covers: pieces 0 to M − 1 with SIGNATURE as zero. -/
def manifestBytes (s : State) : List Nat :=
  (flBytes s basin (4096 * mPieces s)).zipIdx.map (fun e => if 296 ≤ e.2 ∧ e.2 < 360 then 0 else e.1)

/-- Why the manifest is refused: the reason of R483; none where it verifies (R478, R482). -/
def manifestFault (s : State) : Option Nat :=
  let m := mPieces s
  if mf s 0 4 ≠ 0x44505559 ∨ mf s 4 2 ≠ 1 ∨ mf s 12 4 = 0 ∨ m = 0 ∨ 33 < m ∨ 4096 < m + nPieces s ∨ basinTop < m + nPieces s then some 1
  else if keyEmpty s (mf s 9 1) then some 2
  else if !Config.ecdsaVerify (signingKey s (mf s 9 1)) (leBytes 32 (pieceHash (manifestBytes s)))
      (flBytes s (basin + 296) 64) then some 1
  else none

/-- The manifest has verified: TOTAL is not 0 (R493). -/
def manifestGood (s : State) : Bool := s.fld UPD_PIECES UPD_PIECES_TOTAL != 0

/-- All manifest pieces are held. -/
def manifestHeld (s : State) : Bool :=
  pieceHeld s 0 && (List.range (mPieces s)).all (fun p => pieceHeld s p)

/-- Pieces held from before the manifest are checked against its hash table (R482). -/
def recheckPieces (s : State) : State :=
  ((List.range (nPieces s)).map (fun n => mPieces s + n)).foldl (fun t p =>
    if pieceHeld t p then
      let u := flashRead (basin + 4096 * p) 4096 t
      if !hashMatches u p (pieceBytes u p) then raiseEv 217 p (setHeld p false u) else u
    else t) s

/-- All M + N pieces are held: COMPLETE and EV218 (R482). -/
def noteComplete (s : State) : State :=
  let n := s.fld UPD_PIECES UPD_PIECES_TOTAL
  if manifestGood s && updState s == 1 && (List.range n).all (fun p => pieceHeld s p) then
    raiseEv 218 0xFFFF (updTo 2 0 0 s)
  else s

/-- A first piece of update `id` starts it (R481). -/
def updBegin (id : Nat) (s : State) : State :=
  let t := State.clearRange (flashBase + basin) (4096 * basinTop) s
  let t := (List.range 128).foldl (fun t w => State.setReg (UPD_BITMAP w) 0#32 t) t
  let t := State.setReg UPD_PIECES 0#32 (State.setReg UPD_ID (BitVec.ofNat 32 id) t)
  let t := State.setFlag UPD_STAT UPD_STAT_COLD false t
  raiseEv 216 0xFFFF (updTo 1 0 0 t)

/-- The bytes of a piece are programmed into the Basin. -/
def programPiece (p : Nat) (l : List Nat) (s : State) : State :=
  (l.take 4096).zipIdx.foldl (fun t e => State.setByte (flashBase + basin + 4096 * p + e.2) (BitVec.ofNat 8 e.1) t)
    (State.clearRange (flashBase + basin + 4096 * p) 4096 s)

/-- Piece `p` is stored; `ok` is false where programming or the read-back fails (R480 to R482). -/
def storePiece (p : Nat) (l : List Nat) (ok : Bool) (s : State) : Nat × State :=
  if !ok then (6, raiseFault 42 s)
  else
    let t := setHeld p true (flashRead (basin + 4096 * p) 4096 (programPiece p l s))
    if manifestGood s then (0, noteComplete t)
    else if manifestHeld t then
      let t := flashRead basin (4096 * mPieces t) t
      match manifestFault t with
      | some r => (7, updRefuse 6 r 0 0 t)
      | none =>
        let t := State.setFld UPD_PIECES UPD_PIECES_TOTAL (mPieces t + nPieces t) t
        (0, noteComplete (recheckPieces t))
    else (5, t)

/-- A piece of update `id` arrives: its status and the state after (R480, R481, R491). -/
def takePiece (id p : Nat) (l : List Nat) (ok : Bool) (s : State) : Nat × State :=
  let st := updState s
  let idle := st == 0 || 5 ≤ st
  let same := (s.reg UPD_ID).toNat == id && st != 0
  if !same && !idle then (4, s)
  else if 4096 ≤ p ∨ basinTop ≤ p then (3, s)
  else
    let t := if same then s else updBegin id s
    if manifestGood t ∧ t.fld UPD_PIECES UPD_PIECES_TOTAL ≤ p then (3, t)
    else if st = 6 ∧ same ∧ !manifestGood t then (7, t)
    else if pieceHeld t p then (1, t)
    else if manifestGood t && decide (mPieces t ≤ p) && !hashMatches t p l then (2, raiseEv 217 p t)
    else storePiece p l ok t

/-! ### Compatibility (R483, R484) -/

/-- The inactive slot of a component, as a flash address (R303, R304). -/
def idleSlot (s : State) (typ : Nat) : Nat :=
  if typ = 1 then chartBase (!s.start.chartSlot) else if s.start.fwSlot then 0x100000 else 0x200000

/-- The present version of a component. -/
def presentVer (s : State) (typ : Nat) : Nat := if typ = 1 then (s.reg CHECK_CHARTVER).toNat else (s.reg CHECK_FWVER).toNat

/-- The other modules of the waterway. -/
def peers (s : State) : List Nat :=
  if aqRunning s then (List.map (fun e => e.1) (topology s)).filter (fun a => a != aqAddr s) else []

/-- The update record of peer `a`, received in the window [now − 3 s, now) (R484). -/
def peerRecord (s : State) (a : Nat) : Option (List Nat) :=
  match Tab.find s.aq.updRecs a with
  | some (at', l) => if at' ≤ s.now ∧ s.now < at' + 3000000000 then some l else none
  | none => none

/-- Peer `a` meets the rows of the matrix. -/
def meetsMatrix (s : State) (a : Nat) : Bool :=
  (List.range (clampN 0 16 (mf s 68 1))).all (fun i =>
    let o := 72 + 12 * i
    let typ := mf s o 1
    match peerRecord s a with
    | none => false
    | some l =>
      let v := verIn l (if typ = 1 then 0 else 4)
      decide (verAt s (basin + o + 4) ≤ v ∧ v ≤ verAt s (basin + o + 8)))

/-- AQ_MAJOR differs by more than 1 from the major that peer `a` reports. -/
def majorFar (s : State) (a : Nat) : Bool :=
  match peerRecord s a with
  | none => false
  | some l => let m := leAt l 8 1; let x := mf s 10 1; decide (m + 1 < x ∨ x + 1 < m)

/-- The firmware version that will run. -/
def comingFw (s : State) : Nat :=
  match compOf s 2 with
  | some c => c.ver
  | none => (s.reg CHECK_FWVER).toNat

/-- The first condition of R483 that the staged update does not meet: (reason, DETAIL, peer). -/
def updIncompatible (s : State) : Option (Nat × Nat × Nat) :=
  if !partMatches s (BitVec.ofNat 32 (mf s 16 4)) then some (3, 0, 0)
  else if (comps s).any (fun c => decide (presentVer s c.typ < c.fromMin ∨ c.fromMax < presentVer s c.typ)) then some (4, 0, 0)
  else match (peers s).find? (fun a => !meetsMatrix s a) with
    | some a => some (5, 0, a)
    | none =>
      match (peers s).find? (fun a => majorFar s a) with
      | some a => some (6, 0, a)
      | none =>
        match compOf s 1 with
        | some _ =>
          let b := idleSlot s 1
          if comingFw s < verAt s (b + 20) ∨ verAt s (b + 24) < comingFw s then some (9, 9, 0) else none
        | none => none

/-- A component is copied from the Basin into its inactive slot (R482). -/
def copyComp (c : Comp) (s : State) : State :=
  let size := if c.typ = 1 then chartSlotSize else 0x100000
  let dst := flashBase + idleSlot s c.typ
  let t := flashRead (basin + 4096 * (mPieces s + c.first)) (clampN 0 size c.len)
    (State.copyBytes (flashBase + basin + 4096 * (mPieces s + c.first)) dst (clampN 0 size c.len)
      (State.clearRange dst size s))
  if c.typ = 2 then
    { t with start := { t.start with
        fwMajor := Tab.put t.start.fwMajor 0 (b2n (!t.start.fwSlot)) (mf s 10 1 + 1) } }
  else t

/-- Every component is copied into its inactive slot. -/
def copyComps (s : State) : State := (comps s).foldl (fun t c => copyComp c t) s

/-- The components are copied and the compatibility checked: READY or REFUSED (R482, R483). -/
def updComplete (s : State) : State :=
  let t := copyComps s
  match updIncompatible t with
  | some (r, d, p) => updRefuse 6 r d p t
  | none => raiseEv 219 0xFFFF (updTo 3 0 0 t)

/-! ### Arming (R485 to R489) -/

/-- Section CRCs of a Chart slot but for those that a hot hand-over may change (R485). -/
def fixedCrcs (s : State) (b : Nat) : List (Nat × Nat) :=
  ((directory s b).filter (fun e => e.typ != 4 && e.typ != 8 && e.typ != 12)).map (fun e => (e.typ, e.crc))

/-- Component `c` is handed over HOT (R485). -/
def isHot (s : State) (c : Comp) : Bool :=
  if c.typ = 2 then decide (c.len ≤ 0x40000)
  else
    let a := fixedCrcs s (chartBase s.start.chartSlot)
    let b := fixedCrcs s (idleSlot s 1)
    a.all (fun e => b.contains e) && b.all (fun e => a.contains e)

/-- The sections that a hot Chart changes are loaded; locked fields take their new values (R489, R490). FAULT_CFG
and HOST_CFG keep theirs. -/
def loadHot (es : List (Nat × Nat × Nat)) (s : State) : Option Nat × State :=
  let en := s.fld CHECK_EN CHECK_EN_ENABLE
  let open' := State.setFld CHECK_EN CHECK_EN_ENABLE (clrBitN (clrBitN en 9) 11) s
  let a := loadSections false (es.filter (fun e => e.1 == 8)) open'
  let b := loadSections true (es.filter (fun e => e.1 == 4 || e.1 == 12)) a.2
  (match a.1 with
    | some x => some x
    | none => b.1, State.setReg HOST_CFG (s.reg HOST_CFG) (State.setFld CHECK_EN CHECK_EN_ENABLE en b.2))

/-- The code with which the KEEPER, LIGHT and event rules refuse a hot Chart, as though it were enabling them. -/
def hotRefuses (s : State) : Option Nat :=
  let es := sectionsOf s (idleSlot s 1)
  let r := loadHot es { s with start := { s.start with sections := es } }
  match r.1 with
  | some _ => some 44
  | none =>
    match checkRefuses r.2 11 with
    | some (c, _) => some c
    | none =>
      match checkRefuses r.2 9 with
      | some (c, _) => some c
      | none => none

/-- The check at ARM: (reason, DETAIL, peer) (R483, R484, R486, R489, R491). -/
def armRefuses (s : State) : Option (Nat × Nat × Nat) :=
  if moduleLimp s ∨ s.fld CHECK_START CHECK_START_STATE ≠ 0 then some (0xC, 0, 0)
  else match updIncompatible s with
    | some r => some r
    | none =>
      match (peers s).find? (fun a => match peerRecord s a with
          | some l => leAt l 9 1 == 4
          | none => false) with
      | some a => some (7, 0, a)
      | none =>
        if s.flag AQ_STAT AQ_STAT_RECOV then some (8, 0, 0)
        else if (match compOf s 1 with
            | some c => isHot s c && (hotRefuses s).isSome
            | none => false) then some (9, (hotRefuses s).getD 0, 0)
        else match compOf s 2 with
          | some c =>
            if !Config.svetocVerify (Config.sha256 (flBytes s (idleSlot s 2) c.len)) then some (0xD, 0, 0) else none
          | none => none

/-- The slot of a component becomes the active one: the boot record is rewritten (R304, R485). -/
def activate (typ : Nat) (s : State) : State :=
  writeBoot (if typ = 1 then { s with start := { s.start with chartSlot := !s.start.chartSlot } }
    else { s with start := { s.start with fwSlot := !s.start.fwSlot } })

/-- The hand-over has no component left. -/
def handoverDone (s : State) : State :=
  if s.upd.todo = [] then updTo 5 0 0 { s with upd := { s.upd with armed := none } } else s

/-- ARM in state READY (R485): what is COLD is made active, what is HOT waits for a quiet point, firmware first. -/
def arm (s : State) : State :=
  if updState s ≠ 3 then s
  else match armRefuses s with
    | some (r, d, p) => updRefuse 3 r d p s
    | none =>
      let cs := comps s
      let cold := cs.filter (fun c => !isHot s c)
      let hot := (cs.filter (fun c => isHot s c && c.typ == 2)) ++ (cs.filter (fun c => isHot s c && c.typ == 1))
      let t := cold.foldl (fun t c => State.setFlag UPD_STAT UPD_STAT_COLD true (activate c.typ t)) s
      handoverDone { t with upd := { t.upd with armed := some s.now, todo := hot.map (fun c => (c.typ, true)) } }

/-- ABORT outside HANDOVER (R480, R491). -/
def abortUpdate (s : State) : State :=
  if updState s = 0 ∨ updState s = 4 then s
  else
    let t := (List.range 128).foldl (fun t w => State.setReg (UPD_BITMAP w) 0#32 t) s
    let t := State.setReg UPD_PIECES 0#32 (State.setReg UPD_ID 0#32 t)
    raiseEv 223 0xFFFF (updTo 0 0 0 { t with upd := { t.upd with armed := none, todo := [] } })

/-- A write of UPD_CTRL by master `m` (R485, R491). -/
def onUpdCtrl (m full : Nat) (v : Word) (s : State) : State :=
  if !privileged s m then s
  else
    let t := if woSet full v UPD_CTRL_ABORT then abortUpdate s else s
    if woSet full v UPD_CTRL_ARM then arm t else t

/-! ### The hand-over (R486 to R490) -/

/-- A quiet point: no check, no Gatehouse session, no Logbook clear, no recovery, no power transition (R487). -/
def quiet (s : State) : Bool :=
  s.start.checkQueue.isEmpty && !gateBusy s && s.rep.clearMark.isNone && !s.flag AQ_STAT AQ_STAT_RECOV && !inTrans s

/-- QUIET_TO in ns: 0 acts as 1 s. -/
def quietTo (s : State) : Nat := zeroAsOne (s.fld UPD_CTRL UPD_CTRL_QUIET_TO) * 1000000000

/-- The new firmware image stands in the code bank that is not selected (R486). -/
def stageFirmware (s : State) : State :=
  let dst := if s.fld UPD_CODE UPD_CODE_CODE_BANK = 0 then 0x40000 else 0
  let len := match compOf s 2 with
    | some c => clampN 0 0x40000 c.len
    | none => 0
  flashRead (idleSlot s 2) len (State.copyBytes (flashBase + idleSlot s 2) dst len (State.clearRange dst 0x40000 s))

/-- The Keeper programs of the new Chart wait for a strobe two lock cycles ahead (R489). -/
def stageChart (s : State) : State :=
  let t := State.setReg UPD_SWAP (s.reg KEEPER_LCC + 2#32) s
  { t with upd := { t.upd with swap := true, newSections := sectionsOf s (idleSlot s 1) } }

/-- The next component of the hand-over starts. -/
def nextComponent (s : State) : State :=
  match s.upd.todo with
  | (2, _) :: _ => let t := stageFirmware s; { t with upd := { t.upd with pause := some s.now } }
  | _ :: _ => stageChart s
  | [] => handoverDone s

/-- The quiet point of an armed hand-over (R487). -/
def quietPoint (s : State) : State := nextComponent (updTo 4 0 0 { s with upd := { s.upd with armed := none } })

/-- A component has been handed over (R487, R490, R492). -/
def componentDone (typ : Nat) (s : State) : State :=
  let t := activate typ s
  let t := raiseEv 221 0xFFFF (State.incFld UPD_HO UPD_HO_HO_CNT t)
  { t with upd := { t.upd with todo := t.upd.todo.drop 1 } }

/-- The Warden's pause ends and its length, which never exceeds 2 ms, is recorded (R487). -/
def endPause (s : State) : State :=
  match s.upd.pause with
  | some t0 =>
    let t := State.setFld UPD_HO UPD_HO_PAUSE_US (clampN 0 2000 ((s.now - t0) / 1000)) s
    { t with upd := { t.upd with pause := none, switched := false, clash := false, oldEng := {} } }
  | none => s

/-- The digest of the firmware image in slot `slotB` (R331): SHA-256 over the largest image that a slot takes (log entry
80). -/
def imageDigest (s : State) (slotB : Bool) : Nat :=
  (Config.sha256 (flBytes s (if slotB then 0x200000 else 0x100000) 0x80000)).toNat

/-- The new firmware has resumed (R487): its slot is named in the boot record. -/
def firmwareRuns (s : State) : State :=
  let ver := comingFw s
  let t := componentDone 2 (endPause s)
  let t := { t with start := { t.start with codeSlot := t.start.fwSlot, fwDigest := imageDigest t t.start.fwSlot } }
  let t := State.setReg CHECK_FWVER (BitVec.ofNat 32 ver) (State.setFlag CHECK_START CHECK_START_FSLOT t.start.fwSlot t)
  nextComponent t

/-- The new firmware has not resumed: the code bank is switched back, and the old one goes on from the hand-over area
(R487). -/
def rollBack (s : State) : State :=
  let t := if s.upd.switched then State.modEng 8 (fun _ => s.upd.oldEng) (flipCode s) else s
  let t := State.incFld UPD_HO UPD_HO_RB_CNT (endPause t)
  raiseFault 66 (raiseEv 222 0xFFFF (updTo 7 0xB 0 { t with upd := { t.upd with todo := [], armed := none } }))

/-! ### The Keeper program swap (R490) -/

/-- The state map of Keeper `k`: (live data offset, shadow data offset, words). STATEMAP gives each Keeper 4 bytes: the
offset in the first two and the count of entries in the last two (R478, log entry 82). -/
def stateMap (s : State) (k : Nat) : List (Nat × Nat × Nat) :=
  let o := mf s (264 + 4 * k) 2
  (List.range (mf s (266 + 4 * k) 2)).map (fun i =>
    let a := o + 12 * i
    (mf s a 4, mf s (a + 4) 4, mf s (a + 8) 4))

/-- The words that the state map of Keeper `k` takes over: (shadow offset, word), at most 1024. -/
def carriedWords (s : State) (k : Nat) : List (Nat × Nat) :=
  ((stateMap s k).flatMap (fun e => (List.range (clampN 0 1024 e.2.2)).map (fun i =>
    (e.2.1 + 4 * i, s.bytesLE ((k + 1) * 0x100000000 + 0x10000000 + e.1 + 4 * i) 4)))).take 1024

/-- Keeper `k` exchanges its banks, the words `ws` carried over, and is released, with a slot less for each core cycle
that a word took (R490). -/
def swapKeeper (k : Nat) (ws : List (Nat × Nat)) (s : State) : State :=
  let t := reloadData k (reloadCode k s)
  let t := ws.foldl (fun t w =>
    if w.1 + 4 ≤ 0x8000 then State.setBytesLE ((k + 1) * 0x100000000 + 0x10000000 + w.1) 4 w.2 t else t) t
  let t := State.modEng k (fun g => { g with
    l := { g.l with regs := [], trap := { g.l.trap with cause := 0 } }
    f := { g.f with regs := [], trap := { g.f.trap with cause := 0 } }
    inF := false, flight := [], fDone := true, fCount := 0, fReported := false, waiting := false }) t
  if (t.eng k).present && enabled t 11 && !moduleLimp t then
    State.modEng k (fun g => { g with slots := g.slots + ws.length }) (release k t)
  else setKState k 0 t

/-- The check field of a queued section is rewritten in the slot that is not in use (R455, R490). -/
def rewriteCrc (slotB : Bool) (typ : Nat) (s : State) : State :=
  let b := chartBase slotB
  match (directory s b).find? (fun e => e.typ == typ) with
  | some e => State.setBytesLE (flashBase + b + e.crcAt) 4 (crcOf crcC (flBytes s (b + e.off) e.len)) s
  | none => s

/-- Rewrites queued for the slot that has become inactive are made. -/
def doRewrites (s : State) : State :=
  let slotB := !s.start.chartSlot
  let mine (x : Nat) : Bool := decide (0x10000 ≤ x) == slotB
  let t := (s.start.rewrites.filter mine).foldl (fun t x => rewriteCrc slotB (x % 0x10000) t) s
  { t with start := { t.start with rewrites := t.start.rewrites.filter (fun x => !mine x) } }

/-- What the registers and the start hold of the Chart in slot `slotB` once it is in use (R337). -/
def showChart (slotB : Bool) (s : State) : State :=
  let b := chartBase slotB
  let d := chDigest s b
  let t := State.setReg CHECK_CHARTVER (BitVec.ofNat 32 (verAt s (b + 16))) s
  let t := State.setReg CHECK_DIGEST (BitVec.ofNat 32 d) (State.setFlag CHECK_START CHECK_START_CSLOT slotB t)
  { t with start := { t.start with sections := sectionsOf s b, digest := d } }

/-- The swap strobe (R490). -/
def keeperSwap (s : State) : State :=
  let words := (List.range 8).map (fun k => carriedWords s k)
  let t := (loadHot s.upd.newSections (componentDone 1 s)).2
  let t := words.zipIdx.foldl (fun t e => swapKeeper e.2 e.1 t) t
  let t := showChart t.start.chartSlot t
  handoverDone (doRewrites { t with upd := { t.upd with swap := false, newSections := [] } })

end Sys2Proof.Machine
end

