-- ==== Sys2Proof/Machine/StartOps.lean ====
section
/-! DEFINITION. Starting: cold and warm starts up to the claim, and failed starts (R329 to R336). -/

namespace Sys2Proof.Machine

/-- START STATE (R337). -/
def startState (s : State) : Nat := s.fld CHECK_START CHECK_START_STATE

/-- START STATE becomes `x`. -/
def setStart (x : Nat) (s : State) : State := State.setFld CHECK_START CHECK_START_STATE x s

/-- START_FAIL (R334). -/
def startFail (s : State) : Nat := s.fld CHECK_START CHECK_START_START_FAIL

/-! ### Failed starts (R334) -/

/-- The start fails: LRST is asserted and the failure recorded; the next start is cold. -/
def failStart (s : State) : State :=
  let t := lodgeReset s
  { t with start := { t.start with failures := s.start.failures + 1, warmNext := false, warmValid := false } }

/-! ### What a cold start clears (R9) -/

/-- Lodge registers that no start clears (R43, R143, R461, R476, R493). -/
def everBases : List Nat :=
  [MEAS_HHBASE 0, MEAS_HHDAY 0, MEAS_HHSTAT 0, LOG_HEAD_LO, LOG_HEAD_HI, LOG_FOUND_LO, LOG_FOUND_HI, GATE_TOKID 0,
   UPD_STAT, UPD_ID, UPD_PIECES, UPD_BITMAP 0, GATE_EOL, GATE_KDER 0, UPD_KEY 0 0]

/-- Single fields of other Lodge registers that no start clears (R337, R461, R476); ERRN_LOW follows R438. -/
def everFields : List (Nat × Fld) :=
  [(CHECK_START, CHECK_START_START_FAIL), (LOG_STAT, LOG_STAT_FOUND_FULL), (GATE_STAT, GATE_STAT_FAIL_CNT),
   (GATE_STAT, GATE_STAT_ENR_CNT), (GATE_STAT, GATE_STAT_KDER_SET), (GATE_TOK 0, GATE_TOK_VALID),
   (GATE_TOK 0, GATE_TOK_BAD_CNT), (FAULT_STAT, FAULT_STAT_ERRN_LOW)]

/-- The word at `a` after a cold start begins: a Lodge register at its Reset column but for what no start clears,
and every WL field of the other dies open again (R9, R43). -/
def coldWord (a : Nat) (v : Word) : Word :=
  match regAt a with
  | none => 0#32
  | some (r, _) =>
    if r.home = .lodge then
      r.fields.foldl (fun w f =>
        if everBases.contains r.base || everFields.contains (r.base, f.fld) then fput f.fld (fget f.fld v) w else w)
        (regReset a)
    else r.fields.foldl (fun w f => if f.acc == .wl then fput f.fld (fget f.fld (regReset a)) w else w) v

/-- Registers of other dies that a cold start finds as they are: the status registers and Trellis buffers that any Lodge
reset leaves unchanged (R124, R147, R178, R201, R236, R254), the Harbour's that every start keeps (R353, R390), and
the fields of a stated interval, which hold their last update (R507). -/
def dieKeptBases : List Nat :=
  [PAV_STAT 0, PAV_BSTAT 0, MEAS_DIAG 0, SLU_STAT 0, SLU_MOVE 0, SLU_BSTAT 0, BR_STAT 0, BR_POS 0, BR_GSTAT 0] ++
  [LC_STAT 0, BL_STAT 0, LOOP_STAT 0 0, TR_STAT, TR_COLF_LO, TR_COLF_HI, LIGHT_BSTAT, TR_OPEN 0, TR_SHORT 0,
   TR_BUF_A 0, TR_BUF_B 0, PD_VAL 0] ++
  [IN_LVL 0, IN_RAW 0, IN_EDGE 0, IN_CHAT 0, FO_STAT 0, POWER_CFG, POWER_RET_LO, POWER_RET_HI, WAKE_SOURCE, POWER_CNT,
   NETPM_STAT, NETPM_CULPRIT, NETPM_WAKEID] ++
  [SUPPLY_VOLT, SUPPLY_TEMP 0, SUPPLY_CR_SUM, MEAS_IV 0, MEAS_ARB 0, SLU_MEAS 0, BR_MEAS 0, BL_MEAS 0]

/-- Single fields of other registers of the dies that show a present condition or what happened (R236, R379, R385). -/
def dieLiveFields : List (Nat × Fld) :=
  [(SUPPLY_STAT, SUPPLY_STAT_RVACT), (SUPPLY_STAT, SUPPLY_STAT_BAND), (SUPPLY_STAT, SUPPLY_STAT_LODGE_SRC),
   (SUPPLY_RES_STAT, SUPPLY_RES_STAT_STATE), (PAV_UV 0, PAV_UV_UVACT), (LOOP_CFG 0, LOOP_CFG_SNSF),
   (LIGHT_THERM, LIGHT_THERM_FOLD), (LIGHT_THERM, LIGHT_THERM_TSD), (LIGHT_THERM, LIGHT_THERM_TSDSEEN),
   (LIGHT_THERM, LIGHT_THERM_FACT), (NETPM_XCV 0, NETPM_XCV_STATE), (NETPM_XCV 0, NETPM_XCV_ARMED),
   (NETPM_XCV 0, NETPM_XCV_WKF)]

/-- The word at `a` of another die as a cold start begins (R9, log entry 25): the Reset column, but for what any Lodge
reset leaves unchanged, for present conditions, and for the commands of outputs that a die holds (R29, R30). -/
def dieColdWord (a : Nat) (v : Word) : Word :=
  match regAt a with
  | none => v
  | some (r, _) =>
    if r.home = .lodge ∨ commandBases.contains r.base ∨ dieKeptBases.contains r.base then v
    else r.fields.foldl (fun w f =>
      if dieLiveFields.contains (r.base, f.fld) then w else fput f.fld (fget f.fld (regReset a)) w) v

/-- The dies' registers as a cold start begins (R9, R88, R92, R223): gains 1.0, and the camera rails off, whose EN goes to
its Reset column (log entry 25). -/
def dieCold (s : State) : State :=
  let t := (List.range 96).foldl (fun t g =>
    if wireRuns t g then State.modChan g (fun c => { c with frozen := some (t.reg (PAV_WIRE g)) }) t else t) (railsOff s)
  let t := { t with regs := regsMap dieColdWord t.regs, trellis := { t.trellis with savedGains := [] } }
  (List.range 24).foldl (fun t i => State.setFld (LOOP_STAT (i / 3) (i % 3)) LOOP_STAT_GAIN 0x4000 t) t

/-- A wire model that the Chart of a cold start has not loaded again is disabled (R111). -/
def thawWires (s : State) : State :=
  (List.range 96).foldl (fun t g =>
    if (t.chan g).frozen.isSome then wireTick g 0 (State.modChan g (fun c => { c with frozen := none }) t) else t) s

/-- The WL fields that stay written over a cold start. -/
def wlEver (key : Nat) : Bool :=
  match regAt (key / 32) with
  | some (r, _) => everBases.contains r.base
  | none => false

/-- What the Lodge and MRAM hold when a cold start begins (R9, R428, R439, R442). -/
def coldClear (s : State) : State :=
  dropSram (fun _ => false)
    { s with
      regs := regsMap coldWord s.regs
      wlSet := s.wlSet.filter (fun e => wlEver e.1)
      hosts := []
      aq := { flushed := s.aq.flushed }
      kp := {}
      upd := {} }

/-! ### The boot ROM -/

/-- The Lodge leaves reset: the boot record is read (R304), LRST, which every die has seen by then (R18, R22), is released, every Culvert trains within
20 µs (R17), the Logbook's head is checked and an interrupted clear completed (R447, R451), the next time flush is due
in 10 minutes (R428), and recorded failures are added to START_FAIL (R334). -/
def leaveReset (s : State) : State :=
  let n := s.start.failures
  let t := readBoot (releaseLrst s)
  let t := { t with
    start := { t.start with lodgeDown := false, failures := 0 }
    aq := { t.aq with nextFlush := s.now + 600000000000 } }
  let t := [0, 1, 2, 3, 4, 5].foldl (fun t cv => if cvUp t cv then t else linkTrained cv t) t
  let t := State.setFld CHECK_START CHECK_START_START_FAIL (clampN 0 0xFF (startFail t + n)) t
  let t := logStart t
  let t := if updState t = 4 then updTo 3 0 0 t else t
  if n = 0 then t else raiseFault 41 t

/-- LRST has been asserted for 1 µs at least (R22), or is not asserted. -/
def lrstHeld (s : State) : Bool := !s.lock.lrst || decide (s.lock.lrstSince + 1000 ≤ s.now)

/-- After a wake the Lodge leaves reset 0.5 ms after the wake event from Moored and 2 ms after it from Berthed (R348). -/
def wakeDone (s : State) : Bool :=
  !s.pow.late.any (fun e => e.1 == 252) || !s.start.lodgeDown ||
    decide (s.start.trigger + (if s.start.warmNext then 500000 else 2000000) ≤ s.now)

/-- The Lodge may leave reset: not in a low-power state, LRST held long enough (R22), LV back after an undervoltage
(R73), the run oscillator started after a wake (R348). -/
def mayStart (s : State) : Bool := !lowPower s && lrstHeld s && !s.sup.lvLow && wakeDone s

/-- A woken module drives line energy on every Aqueduct port (R348). -/
def forwardWake (s : State) : State :=
  if s.flag POWER_CFG POWER_CFG_WAKE_FWD && s.pow.late.any (fun e => e.1 == 252) then
    [0, 1, 2, 3].foldl (fun t p => State.send (.lineEnergy p) t) s
  else s

/-- The reservoir leaves HELD as the Lodge leaves reset (R74, R348). -/
def leaveHeld (s : State) : State :=
  if resState s = resHeld then
    resTo (if s.flag SUPPLY_RES_CFG SUPPLY_RES_CFG_BOOST_EN then resPlace s else resOff) s
  else s

/-- A cold start runs the reservoir with reset values (R74, R330). -/
def coldReservoir (s : State) : State :=
  let t := resTo resOff (State.setReg SUPPLY_RES_CFG (regReset SUPPLY_RES_CFG) s)
  let t := { t with start := { t.start with resDone := decide (40000 ≤ t.sup.vres) } }
  onBoostEn true (State.setFlag SUPPLY_RES_CFG SUPPLY_RES_CFG_BOOST_EN true t)

/-- The Gatehouse at a start (R469, R472): START-UP until EOL_DONE, and the release counter as MRAM holds it. -/
def gateStarts (s : State) : State :=
  let t := State.setReg GATE_CTR (BitVec.ofNat 32 s.gate.ctrStored) s
  if t.flag GATE_EOL GATE_EOL_EOL_DONE then State.setFld GATE_STAT GATE_STAT_GMODE 0 t
  else drawNonce (State.setFld GATE_STAT GATE_STAT_GMODE 1 t)

/-- The firmware slot that a start uses and its version (R304, R335): the active one, or the other where the active
one fails its verification. -/
def pickFirmware (s : State) (fw : FwSeen) : Option (Bool × Nat) :=
  let at' (b : Bool) : Option (Bool × Nat) := (if b then fw.b else fw.a).map (fun v => (b, v.toNat))
  match at' s.start.fwSlot with
  | some x => some x
  | none => at' (!s.start.fwSlot)

/-- The firmware of slot `slotB` is loaded into the code SRAM (R303, R330, R486). -/
def loadFirmware (slotB : Bool) (s : State) : State :=
  let src := flashBase + (if slotB then 0x200000 else 0x100000)
  let t := State.copyBytes src 0 0x80000 (State.clearRange 0 0x80000 s)
  State.setFld UPD_CODE UPD_CODE_CODE_BANK 0 { t with start := { t.start with
    codeSlot := slotB, fwDigest := imageDigest t slotB } }

/-- The Warden runs (R330): its slot and version show, no component waits for a start any more (R485), and the
start goes on to the Chart. -/
def firmwareStarts (x : Bool × Nat) (s : State) : State :=
  let t := State.setReg CHECK_FWVER (BitVec.ofNat 32 x.2) (State.setFlag CHECK_START CHECK_START_FSLOT x.1 s)
  let t := State.setFlag UPD_STAT UPD_STAT_COLD false (State.modEng 8 (fun _ => { present := true }) t)
  setStart 2 (if gateFused then t else gateStarts t)

/-! ### The Chart (R309, R311, R335) -/

/-- A Chart of the slot `slotB` has failed (R309, R328). -/
def chartFails (e : Nat × Nat) (s : State) : State :=
  raiseFault 40 (State.setReg CHECK_REASON (fput CHECK_REASON_SUBSYS 0x1F (fput CHECK_REASON_CODE e.1
    (fput CHECK_REASON_DETAIL e.2 0#32))) s)

/-- The Chart slots that a start tries, in order (R304, R309, R335). -/
def chartSlots (s : State) : List Bool :=
  if startFail s = 3 ∨ startFail s = 4 then [!s.start.chartSlot] else [s.start.chartSlot, !s.start.chartSlot]

/-- The Chart of one slot is verified and loaded as a cold start does (R309 to R311). -/
def chartCold (slotB : Bool) (fw : Nat) (keep : Nat → Bool) (s : State) : Option (Nat × Nat) × State :=
  match verifyChart slotB fw true s with
  | (some e, t) => (some e, t)
  | (none, t) =>
    let t := showChart slotB t
    match loadSections false t.start.sections t with
    | (some typ, u) => (some (44, typ), u)
    | (none, u) => (none, loadKeepers keep u)

/-- The slots are tried in order: true where one loads. -/
def chartsCold (slots : List Bool) (fw : Nat) (keep : Nat → Bool) (s : State) : Bool × State :=
  match slots with
  | [] => (false, s)
  | b :: rest =>
    match chartCold b fw keep s with
    | (none, t) => (true, t)
    | (some e, t) => chartsCold rest fw keep (chartFails e t)

/-- The auto-enable list of the Chart in use (R332). -/
def autoList (s : State) : List (Nat × Bool) :=
  match s.start.sections.find? (fun e => e.1 == 11) with
  | some (_, p, len) => (List.range (len / 2)).map (fun i => (fl s (p + 2 * i) 1, bitOf (fl s (p + 2 * i + 1) 1) 0))
  | none => []

/-- The entries of a list that count: a second one for the same subsystem is ignored (R332). -/
def firstEntries (l : List (Nat × Bool)) (seen : List Nat) : List (Nat × Bool) :=
  match l with
  | [] => []
  | e :: rest => if seen.contains e.1 then firstEntries rest seen else e :: firstEntries rest (e.1 :: seen)

/-- One entry of the list is written (R2, R332). -/
def autoEntry (e : Nat × Bool) (s : State) : State :=
  if 18 ≤ e.1 then s
  else if e.1 = 17 ∧ gateFused then checkResult 17 2 11 0 (lockViol 0 CHECK_EN (BitVec.ofNat 32 (2 ^ 17)) s)
  else
    let fresh := !enabled s e.1 && !s.start.checkQueue.contains e.1
    let t := requestCheck e.1 s
    if fresh && e.2 then { t with start := { t.start with essential := t.start.essential ++ [e.1] } } else t

/-- START STATE reaches CHECKS; the entries are written in list order (R332). -/
def autoEnable (s : State) : State :=
  let l := firstEntries s.start.auto []
  l.foldl (fun t e => autoEntry e t) (setStart 4 { s with start := { s.start with auto := [] } })

/-! ### The two starts -/

/-- Every enabled Aqueduct port trains (R397, R412). -/
def trainPorts (s : State) : State :=
  let t := { s with aq := { s.aq with ports := [] } }
  aqPorts.foldl (fun t p => setLstate p (if t.flag (AQ_PCFG p) AQ_PCFG_EN then 1 else 0) t) t

/-- Start step 7 begins: discovery runs before the auto-enable list (R330, R412). -/
def startDiscovery (s : State) : State :=
  let t := trainPorts s
  setStart 3 (State.setFld AQ_STAT AQ_STAT_STATE 1 { t with
    start := { t.start with disc := 0, discAt := t.now }, aq := { t.aq with candAt := t.now } })

/-- A cold start to step 7 (R330); with START_FAIL at 5 it ends in harbour limp (R336), where the boot ROM keeps the
service keys of the active Chart at hand (log entry 42), and without firmware that verifies it goes no further. -/
def coldStart (fw : FwSeen) (s : State) : State :=
  let trig := if s.start.lodgeDown then s.now else s.start.trigger
  let t := leaveReset (coldClear { s with
    wwt := startTime s
    start := { s.start with trigger := trig, warmNext := false, warmValid := false, sections := [], digest := 0 } })
  let t := if 5 ≤ startFail t then t else dieCold t
  let t := forwardWake (coldReservoir (setStart 1 t))
  if 5 ≤ startFail t then
    let keys := (sectionsOf t (chartBase t.start.chartSlot)).filter (fun e => e.1 == 9)
    State.setFlag FAULT_STAT FAULT_STAT_ERRN_LOW true (setStart 5 { t with start := { t.start with sections := keys } })
  else
    let t := releaseErrn t
    match pickFirmware t fw with
    | none => t
    | some x =>
      let t := firmwareStarts x (loadFirmware x.1 t)
      match chartsCold (chartSlots t) x.2 (fun _ => false) t with
      | (false, u) => failStart u
      | (true, u) => startDiscovery (thawWires { u with start := { u.start with auto := autoList u } })

/-- The code SRAM banks are retained, and the digest of the firmware in slot `slotB` equals the retained one (R331, R486);
`pickFirmware` has left out an image whose check fails. -/
def codeKept (s : State) (slotB : Bool) : Bool :=
  (List.range 8).all (fun b => retained s b) && imageDigest s slotB == s.start.fwDigest

/-- Steps 6 and 8 of a warm start (R331): the Lodge's sections and the Keeper SRAM that was not retained are loaded, the
registers of the other dies are kept; what was enabled is enabled again without checks where the digest is unchanged
(`same`), and the auto-enable list is due otherwise. -/
def warmLoad (slotB same : Bool) (s : State) : Option (Nat × Nat) × State :=
  let t := showChart slotB s
  match loadSections true t.start.sections t with
  | (some typ, u) => (some (44, typ), u)
  | (none, u) =>
    let u := loadKeepers (fun b => retained u b) u
    if same then
      let u := State.setFld CHECK_EN CHECK_EN_ENABLE u.start.warmEnable { u with dieEn := u.start.warmEnable }
      (none, ([12, 13, 16].filter (fun n => enabled u n)).foldl (fun v n => enableEffect n v) u)
    else (none, { u with start := { u.start with auto := autoList u } })

/-- The Chart at a warm start (R329, R331): the signature is verified only where the digest differs from the retained
one, and every other step is a warm one. -/
def chartWarm (slotB : Bool) (fw : Nat) (s : State) : Option (Nat × Nat) × State :=
  let same := decide (fl s (chartBase slotB) 4 = 0x54484359) && chDigest s (chartBase slotB) == s.start.warmDigest
  match verifyChart slotB fw (!same) s with
  | (some e, t) => (some e, t)
  | (none, t) => warmLoad slotB same t

/-- The slots are tried in order at a warm start. -/
def chartsWarm (slots : List Bool) (fw : Nat) (s : State) : Bool × State :=
  match slots with
  | [] => (false, s)
  | b :: rest =>
    match chartWarm b fw s with
    | (none, t) => (true, t)
    | (some e, t) => chartsWarm rest fw (chartFails e t)

/-- What the module held of a waterway is forgotten: no address, no position, no tables. -/
def aqForget (s : State) : State :=
  let t := [AQ_STAT, AQ_TOPO, AQ_POS_LO, AQ_POS_HI, AQ_SYNC].foldl (fun t a => State.setReg a 0#32 t) s
  let t := (List.range 250).foldl (fun t a => State.setReg (AQ_ROUTE a) 0#32 t) t
  { t with aq := { t.aq with
    links := [], claims := [], tree := none, rx := [], rootSerial := none, rootEn := false, rootHops := 0, quarCause := 0 } }

/-- The module finds no running waterway on any port (R428): STATE ALONE, no address, and the time that the start took up. -/
def aqAlone (s : State) : State := aqForget s

/-- The time of a module that takes it from no other starts anew (R428). -/
def ownTime (s : State) : State := { s with wwt := startTime s }

/-- The ports over which neighbours were known are UP again, with what they showed of the neighbour (R416, R435). -/
def portsBack (s : State) : State :=
  showLoads (aqPorts.foldl (fun t p =>
    match (t.aqPort p).hello with
    | some x =>
      if t.flag (AQ_PCFG p) AQ_PCFG_EN then
        let l := (t.aqPort p).delays
        let t := State.setFld (AQ_PSTAT p) AQ_PSTAT_NADDR x.addr (State.setFld (AQ_PSTAT p) AQ_PSTAT_NPORT x.port t)
        let t := State.setFld (AQ_PSTAT p) AQ_PSTAT_DELAY (clampN 0 0x3FFF (l.sum / l.length)) t
        setLstate p 3 (State.modPort p (fun x => { x with phy := true, lastRx := t.now }) t)
      else setLstate p 0 t
    | none => setLstate p (if t.flag (AQ_PCFG p) AQ_PCFG_EN then 1 else 0) t) s)

/-- The Aqueduct at a warm start (R416, R428): every neighbour's digest equals the retained one, the module joins,
or no neighbour runs. A module that goes on to discovery keeps nothing, and its own time until another gives it one. -/
def aqWarm (topo : Option Word) (s : State) : State :=
  match topo with
  | none => autoEnable (ownTime (aqAlone (trainPorts s)))
  | some d =>
    if d = s.start.warmTopo ∧ aqRunning s then autoEnable (setLccByTime (portsBack s))
    else startDiscovery (ownTime (aqForget s))

/-- A warm start to step 8 (R331). -/
def warmStart (fw : FwSeen) (topo : Option Word) (s : State) : State :=
  let woken := s.pow.late.any (fun e => e.1 == 252)
  let trig := if s.lock.lrst && !woken then s.now else s.start.trigger
  let t := dropSram (fun b => retained s b) { s with start := { s.start with
    trigger := trig, warmNext := false, warmValid := false,
    resDone := s.start.resDone || (!woken && decide (40000 < s.sup.vres)) } }
  let t := State.setFlag CHECK_START CHECK_START_KIND true (setStart 1 (leaveReset t))
  let t := forwardWake (leaveHeld t)
  match pickFirmware t fw with
  | none => t
  | some x =>
    let t := firmwareStarts x (if codeKept t x.1 then t else loadFirmware x.1 t)
    match chartsWarm (chartSlots t) x.2 t with
    | (false, u) => failStart u
    | (true, u) => aqWarm topo u

/-! ### The claim (R330, R333) -/

/-- Every transceiver whose controller has ON = 1 goes to Normal, every other one to Standby (R380). -/
def claimXcv (s : State) : State :=
  let on (i : Nat) : Bool :=
    if i < 6 then s.flag (CAN_CTRL i) CAN_CTRL_ON else s.flag (LIN_CFG (i - 6)) LIN_CFG_ON
  (List.range 18).foldl (fun t i =>
    let x := if on i then 3 else 1
    setXcv i x (State.setFld (NETPM_XCV i) NETPM_XCV_REQ x t)) s

/-- The start is successful (R333): START_FAIL is 0, what happened while the Lodge was off is reported, the trend day
opens (R140), the Gatehouse delay runs again (R470), and the Keepers are released at the next strobe. -/
def startSucceeds (s : State) : State :=
  let ms := clampN 0 0xFFFF ((s.now - s.start.trigger) / 1000000)
  let t := State.setFld CHECK_START CHECK_START_START_FAIL 0 (State.setFld CHECK_START CHECK_START_CLAIM_MS ms s)
  let t := claimXcv (setStart 0 t)
  let t := if aqRunning t then setLccByTime t else t
  let late := t.pow.late
  let t := { t with pow := { t.pow with late := late.filter (fun e => e.1 == 252) } }
  let t := (late.filter (fun e => e.1 != 252)).foldl (fun t e => raiseEv e.1 e.2 t) t
  let t := if t.flag CHECK_START CHECK_START_KIND && !late.any (fun e => e.1 == 252) then t
    else { t with meas := { t.meas with dayOpen := t.wwt } }
  let t := startDelay t
  if enabled t 11 && !moduleLimp t then releaseNext t else t

/-- The claim frames may be sent: the checks are over, the precharge step has ended or the reservoir does not run, and
the 2 s of R334 have not run out (R7, R75, R330). -/
def claimReady (s : State) : Bool :=
  startState s == 4 && s.start.checkQueue.isEmpty && !s.start.lodgeDown && (!resRuns s || s.start.resDone) &&
    decide (s.now < s.start.trigger + 2000000000)

/-- The start succeeds once every bank has accepted its claim frame (R333). -/
def claimsMade (s : State) : State :=
  if claimReady s && s.start.claims == 2 ^ 15 - 1 then startSucceeds s else s

/-- The Lodge claims bank `b` with a class 1 frame over its Culvert (R16, R30). -/
def claimOne (b : Nat) (s : State) : State :=
  if cvUp s (dieOfBank b) ∧ s.start.lodgeDown = false then
    downFrame (dieOfBank b) (.claim b) (fun t => claimTaken b t) s
  else s

/-- The claim frames of the start (R330). -/
def claimAll (s : State) : State :=
  if claimReady s then claimsMade (((List.range 15).filter (fun b => !bitOf s.start.claims b)).foldl (fun t b => claimOne b t) s) else s

/-- The time of a start has run out (R334). -/
def startExpired (s : State) : State :=
  if !s.start.lodgeDown ∧ startState s ≠ 0 ∧ startState s ≠ 5 ∧ s.start.trigger + 2000000000 ≤ s.now then failStart s
  else s

/-- The check of the head of the queue completes; an ESSENTIAL refusal ends the start (R332, R334). -/
def checkAtStart (flash : Nat) (s : State) : State :=
  let t := checkCompletes flash s
  match s.start.checkQueue with
  | n :: _ =>
    if startState s = 4 ∧ s.start.essential.contains n ∧ t.fld (CHECK_LAST n) CHECK_LAST_RESULT = 2 then failStart t else t
  | [] => t

/-- LIMP_CLR (R336, R491): harbour limp ends, every staged component is made active, and a cold start follows. -/
def leaveHarbourLimp (s : State) : State :=
  if startState s ≠ 5 then s
  else
    let t := if updState s = 2 then copyComps s else s
    let t := if updState s = 2 ∨ updState s = 3 then updTo 5 0 0 ((comps t).foldl (fun t c => activate c.typ t) t) else t
    let t := lodgeReset (State.setFld CHECK_START CHECK_START_START_FAIL 0 t)
    { t with start := { t.start with warmNext := false, warmValid := false } }

/-! ### Discovery (R412 to R415) -/

/-- Step `n` of a cold discovery (R412). -/
def discoveryStep (n : Nat) (s : State) : State :=
  match n with
  | 1 => helloAll s
  | 2 => helloAll s
  | 3 =>
    let c := candidate s
    helloAll (State.setFlag AQ_STAT AQ_STAT_ROOT (isRoot s && decide (s.aq.candAt + 10000000 ≤ s.now))
      { s with aq := { s.aq with rootSerial := some c.2.1, rootEn := c.1, rootHops := c.2.2 } })
  | 4 =>
    let s := State.setFlag AQ_STAT AQ_STAT_ROOT (isRoot s) s
    let t := if isRoot s then
        treeOn ownSerial 0 0 none (showPos 0 0 { s with aq := { s.aq with tree := some (0, 0) } })
      else s
    takePlanned t
  | 5 => floodAddr s
  | 6 => installRoutes (floodLinks s)
  | _ =>
    let t := State.setReg AQ_TOPO (Config.topoDigest (linkList (topology s))) (setLccByTime s)
    let t := State.setFld AQ_STAT AQ_STAT_STATE 2 { t with aq := { t.aq with rx := [] } }
    autoEnable (raiseEv 179 0xFFFF (installRoutes t))

/-- Time from the trigger at which step `n` of discovery begins, in ns (R412). -/
def discTime (n : Nat) : Nat := 1000000 * [0, 0, 0, 20, 35, 45, 50, 55].getD n 55

/-- Step `n` of discovery is due (R412): TREE follows once the candidate has stood unchanged for 10 ms. -/
def discDue (s : State) (n : Nat) : Bool :=
  decide (s.start.discAt + discTime n ≤ s.now) && (n != 4 || decide (s.aq.candAt + 10000000 ≤ s.now))

/-- The next step of the discovery of a start (R412): with no neighbour the module is alone, beside a running
waterway it waits to join. -/
def discover (s : State) : State :=
  if startState s ≠ 3 ∨ s.start.lodgeDown ∨ discDue s (s.start.disc + 1) = false then s
  else
    let n := s.start.disc + 1
    let t := { s with start := { s.start with disc := n } }
    if 3 ≤ n ∧ (runningPort s).isSome then s
    else if n = 3 ∧ aqPorts.all (fun p => !portUp s p) then autoEnable (aqAlone t)
    else discoveryStep n t

/-- The module joins a running waterway, or is quarantined there (R415). -/
def joinWaterway (s : State) : State :=
  if startState s ≠ 3 ∨ s.start.lodgeDown then s
  else match runningPort s, s.aq.tree with
  | some p, some (len, path) =>
    let differs := match (s.aqPort p).hello with
      | some x => x.plan != s.aq.plan.digest
      | none => false
    let held := match planEntry s len path with
      | some e => heldByOther s e.addr
      | none => false
    let cause := if held then 1 else if differs then 2 else 0
    let t := { s with aq := { s.aq with rx := [], quarCause := cause } }
    let t := if cause = 0 then State.setFld AQ_STAT AQ_STAT_STATE 2 (takePlanned t)
      else
        let t := State.setFld AQ_STAT AQ_STAT_STATE 3 (takeSpare t)
        raiseFault 52 (raiseEv 182 (aqAddr t) t)
    let t := recover (floodLinks (floodAddr t))
    autoEnable (setLccByTime (State.setReg AQ_TOPO (Config.topoDigest (linkList (topology t))) t))
  | _, _ => s

end Sys2Proof.Machine
end

