-- ==== Sys2Proof/Machine/BusTop.lean ====
section
/-! DEFINITION. A register write with everything it makes the module do, and the writes that the write commands
make (R34 to R48). -/

namespace Sys2Proof.Machine

/-- Master `m` can make an access: the Lodge runs, and in harbour limp only a host is served (R336). -/
def masterUp (s : State) (m : Nat) : Bool :=
  !s.start.lodgeDown && !lowPower s && (decide (9 ≤ m) || startState s != 5)

/-- A write of `v` to entry `i` of row `r` that can be performed; with `same` in the cycle of the row before. -/
def topStore (same : Bool) (m full : Nat) (r : RegRow) (i : Nat) (v : Word) (s : State) : State :=
  if r.base = CHECK_EN then writeEnable same m full v s
  else
    let t := storeRow same m full r i v s
    if r.base = CHECK_STARTCTL then
      (if privileged s m && woSet full v CHECK_STARTCTL_LIMP_CLR then leaveHarbourLimp t else t)
    else if r.base = UPD_CTRL then onUpdCtrl m full v t
    else t

/-- The write of `v` to entry `i` of row `r` in the cycle of the hardware update that the row before made (R45). -/
def storeSame (m full : Nat) (r : RegRow) (i : Nat) (v : Word) (s : State) : State :=
  let j := writeEntry s r.base i
  countCoincident full r j v s (topStore true m full r i (lostClears s r j v) s)

/-- A word written by master `m` at full address `full`, with `same` in the cycle of the hardware update that the row
before made (R45). -/
def busWriteIn (same : Bool) (m full : Nat) (v : Word) (s : State) : BusAns :=
  let e := masterError m s full
  if e ≠ 0 then ⟨e, 0#32, busError m full true e s⟩
  else match canWindow full with
    | some (_, off) => ⟨0, 0#32, cuBus true full v (storeCan m full off (if same then canSameWord full off v s else v) s)⟩
    | none =>
      match regAt (normalOf full) with
      | none => ⟨1, 0#32, busError m full true 1 s⟩
      | some (r, i) =>
        let s := framesFirst (homeDies r i) s
        let t := if same then storeSame m full r i v s else topStore false m full r i v s
        ⟨0, 0#32, cuBus true full v (dieHeard (homeDies r i) t)⟩

/-- A word written by master `m` at full address `full`. -/
def busWrite (m full : Nat) (v : Word) (s : State) : BusAns := busWriteIn false m full v s

/-- What a write of master `m` leaves, with `same` in the cycle of the row before; nothing where the master cannot make
it. -/
def wroteIn (same : Bool) (m full : Nat) (v : Word) (s : State) : State :=
  if masterUp s m then (busWriteIn same m full v s).st else s

/-- What a write of master `m` leaves; nothing where the master cannot make it. -/
def wrote (m full : Nat) (v : Word) (s : State) : State := wroteIn false m full v s

/-- Offsets of the alias views (R36). -/
abbrev setView : Nat := 0x4000
/-- Offset of the clear view. -/
abbrev clearView : Nat := 0x8000
/-- Offset of the toggle view. -/
abbrev toggleView : Nat := 0xC000

/-- The bits of field `f` are set through the set view. -/
def setBits (m a : Nat) (f : Fld) (s : State) : State := wrote m (a + setView) (fmask f) s

/-- The bits of field `f` are cleared through the clear view. -/
def clearBits (m a : Nat) (f : Fld) (s : State) : State := wrote m (a + clearView) (fmask f) s

/-- Field `f` of the register at `a` takes `x` through the toggle view, no other field being written. -/
def flipTo (m a : Nat) (f : Fld) (x : Nat) (s : State) : State :=
  wrote m (a + toggleView) ((fput f x (s.reg a) ^^^ s.reg a) &&& fmask f) s

/-- REVOKE with RIDX in one write (R468); a write that is not privileged carries REVOKE alone. -/
def revokeWrite (m ridx : Nat) (s : State) : State :=
  setBits m GATE_MODE GATE_MODE_REVOKE
    (if masterUp s m ∧ privileged s m ∧ accessError s GATE_MODE = 0 then State.setFld GATE_MODE GATE_MODE_RIDX ridx s else s)

end Sys2Proof.Machine
end

