-- ==== Sys2Proof/Machine/HostOps.lean ====
section
/-! DEFINITION. What the host commands do (R49 to R58, R449, R451, R479, R480). -/

namespace Sys2Proof.Machine

/-! ### Frames that come in -/

/-- A command frame on the wire again, with its CRC (R50, R54). -/
def rawFrame (h : HostHdr) : List Nat :=
  withCrc (if h.enc then h.covered.take 6 ++ leBytes 8 h.seq ++ h.covered.drop 6 ++ leBytes 16 h.tag else h.covered)

/-- The path does not take frames: the Lodge is off, or TP_EN is 0 (R67). -/
def pathOff (s : State) (h : HostHdr) : Bool :=
  s.start.lodgeDown || lowPower s || (h.path == 0 && !s.flag HOST_CFG HOST_CFG_TP_EN)

/-- A frame for another module goes on by the tunnel, or is UNREACHABLE (R50, R58, R425). -/
def forwardFrame (m : Nat) (h : HostHdr) (s : State) : State :=
  if enabled s 15 && aqState s == 2 && (routeTo s h.dest).isSome then
    sendTunnel h.dest (rawFrame h) { s with aq := { s.aq with fwdPath := m } }
  else nak m h.ref 0xD h.dest s

/-- What a command is to the checks before it runs. -/
structure CmdKind where
  /-- SESSION OPEN, which is always accepted (R55) -/
  isOpen : Bool := false
  /-- served in harbour limp (R336) -/
  limp : Bool := false
  /-- allowed in a session opened with the provisioning key (R479) -/
  prov : Bool := false
  /-- session level needed (R57) -/
  level : Nat := 0

/-- A command that its path and session let through: length, start state, level (R57, R58, R336, R479). Where several
reasons of a NAK hold, the session's come first, then BAD_LENGTH, STATE and NEED_SESSION (log entry 67). -/
def admitted (m : Nat) (k : CmdKind) (h : HostHdr) (run : State → State) (s : State) : State :=
  if !h.fits then nak m h.ref 2 h.len s
  else if startState s = 5 ∧ !k.limp then nak m h.ref 0xC 5 s
  else if (s.host m).prov ∧ !k.isOpen ∧ !k.prov then nak m h.ref 5 2 s
  else if (s.host m).level < k.level then nak m h.ref 5 k.level s
  else run s

/-- A command frame in its turn (R50 to R58): it goes on to another module, is refused, or is admitted. A command that
the session lets through counts as accepted, also where it is then refused (log entry 67). -/
def served (k : CmdKind) (h : HostHdr) (run : State → State) (s : State) : State :=
  let m := pathCode h.path
  if h.dest ≠ 0 ∧ h.dest ≠ aqAddr s then forwardFrame m h s
  else
    let t := if sessionOver s m then endSession m s else s
    match sessionRefuses t h k.isOpen with
    | some r => nak m h.ref r 0 t
    | none => admitted m k h run (acceptCommand m h t)

/-- A command frame `c` arrives (R50, R52): a fifth outstanding one is BUSY; behind one that is not answered yet, and
during the Warden's pause (R488), it waits for its turn; else it is served at once by `run`. -/
def arrives (c : Instr) (h : HostHdr) (run : State → State) (s : State) : State :=
  let m := pathCode h.path
  if pathOff s h then s
  else if 4 ≤ outstanding s m then nak m h.ref 0xB 0 s
  else if pausing s ∨ 0 < outstanding s m then deferCmd c s
  else run s

/-! ### READ, WRITE, BLOCK READ -/

/-- DETAIL of BUSERR: the kind in its first byte, the word index in the other two (R58; log entry 67). -/
def busDetail (kind index : Nat) : Nat := kind + 256 * index

/-- READ (R57). The command in its turn. -/
def hostReadNow (h : HostHdr) (addr : Word) (s : State) : State :=
  served { limp := true } h (fun t =>
    let m := pathCode h.path
    let a := busReadIn h.same m addr.toNat t
    if a.err ≠ 0 then nak m h.ref 4 (busDetail a.err 0) a.st else respond m 1 h.ref (leBytes 4 a.word.toNat) a.st) s

/-- READ (R57). -/
def hostRead (h : HostHdr) (addr : Word) (s : State) : State :=
  arrives (.read h addr) h (hostReadNow h addr) s

/-- The address is a word of UPD_KEY, in any view (R479). -/
def isUpdKey (addr : Word) : Bool :=
  match regAt (normalOf addr.toNat) with
  | some (r, _) => r.base == UPD_KEY 0 0
  | none => false

/-- WRITE (R52, R57); one that ends in a Lodge reset is not answered. The command in its turn. -/
def hostWriteNow (h : HostHdr) (addr data : Word) (s : State) : State :=
  served { limp := true, prov := isUpdKey addr } h (fun t =>
    let m := pathCode h.path
    let a := busWriteIn h.same m addr.toNat data t
    if a.err ≠ 0 then nak m h.ref 4 (busDetail a.err 0) a.st
    else if a.st.start.lodgeDown then a.st
    else respond m 2 h.ref [] a.st) s

/-- WRITE (R52, R57); one that ends in a Lodge reset is not answered. -/
def hostWrite (h : HostHdr) (addr data : Word) (s : State) : State :=
  arrives (.write h addr data) h (hostWriteNow h addr data) s

/-- `n` words from `a` on, the first being word `i` of the read: the bytes, or the kind and index of the bus error
that ends it (R57). -/
def readWords (m n a i : Nat) (s : State) : Option (Nat × Nat) × List Nat × State :=
  match n with
  | 0 => (none, [], s)
  | k + 1 =>
    let x := busRead m a s
    if x.err ≠ 0 then (some (x.err, i), [], x.st)
    else
      let r := readWords m k (a + 4) (i + 1) x.st
      (r.1, leBytes 4 x.word.toNat ++ r.2.1, r.2.2)

/-- BLOCK READ (R57). The command in its turn. -/
def hostBlockNow (h : HostHdr) (addr : Word) (count : Nat) (s : State) : State :=
  served { limp := true } h (fun t =>
    let m := pathCode h.path
    if count = 0 ∨ 256 < count then nak m h.ref 3 4 t
    else
      let r := readWords m count addr.toNat 0 t
      match r.1 with
      | some e => nak m h.ref 4 (busDetail e.1 e.2) r.2.2
      | none => respond m 3 h.ref r.2.1 r.2.2) s

/-- BLOCK READ (R57). -/
def hostBlock (h : HostHdr) (addr : Word) (count : Nat) (s : State) : State :=
  arrives (.blockRead h addr count) h (hostBlockNow h addr count) s

/-! ### SESSION OPEN (R53, R54, R56, R479) -/

/-- All four Chart-signing keys are empty. -/
def noKeys (s : State) : Bool := (List.range 4).all (fun k => keyEmpty s k)

/-- The public key that verifies a service session, where KEY_INDEX names one. -/
def sessionKey (s : State) (keyIndex : Nat) : Option (List Nat) :=
  if keyIndex = 0x80 ∧ noKeys s then some Config.provisioningKey
  else if keyIndex < 4 ∧ (sectionOf s 9).isSome then some (leBytes 64 (svcKey s keyIndex))
  else none

/-- The bytes of SHA-256 of a list, in output order. -/
def digestOf (l : List Nat) : List Nat := leBytes 32 (Config.sha256 l).toNat

/-- The host has proved a service key (R53). -/
def hostProved (s : State) (level keyIndex nonce pub sig : Nat) : Bool :=
  match sessionKey s keyIndex with
  | none => false
  | some k =>
    Config.ecdsaVerify k (digestOf (leBytes 8 ownSerial ++ [level] ++ leBytes 16 nonce ++ leBytes 64 pub)) (leBytes 64 sig)

/-- "TOWPATH-v1" in ASCII. -/
def sessionInfo : List Nat := [0x54, 0x4F, 0x57, 0x50, 0x41, 0x54, 0x48, 0x2D, 0x76, 0x31]

/-- A session opens on path `m` (R53, R54): the module's nonce and ephemeral key are free values; EV242. -/
def openSession (m ref level keyIndex nonce pub sig : Nat) (s : State) : State :=
  let own := (s.free 128).toNat
  let priv := (s.drawn.free 256).toNat
  let t := s.drawn.drawn
  let ownPub := (Config.p256Public priv).toNat
  let fields := [level, keyIndex] ++ leBytes 16 nonce ++ leBytes 64 pub ++ (if level = 2 then leBytes 64 sig else [])
  let proof := (Config.identitySign (digestOf (fields ++ leBytes 16 own ++ leBytes 64 ownPub))).toNat
  let d := Config.hkdf (leBytes 32 (Config.ecdhX priv pub).toNat) (leBytes 16 nonce ++ leBytes 16 own) sessionInfo 40
  let t := respond m 4 ref (leBytes 16 own ++ leBytes 64 ownPub ++ leBytes 64 proof) t
  let t := t.modHost m (fun _ => {
    level := level, prov := level == 2 && keyIndex == 0x80, lastCommand := s.now, holdEnd := (s.host m).holdEnd
    keyIn := d % 2 ^ 128, keyOut := d / 2 ^ 128 % 2 ^ 128
    saltIn := d / 2 ^ 256 % 2 ^ 32, saltOut := d / 2 ^ 288 % 2 ^ 32 })
  raiseEv 242 0xFFFF t

/-- SESSION OPEN on path `m` (R53, R55, R56). One with a level above 2 is refused and leaves an open session as it is,
and so does one that is answered AUTH_HOLD, which is not evaluated (log entry 67); the hold of a failed opening stands until its end. -/
def sessionOpen (m : Nat) (h : HostHdr) (level keyIndex nonce pub sig : Nat) (s : State) : State :=
  let hold := (s.host m).holdEnd
  if 2 < level then nak m h.ref 3 0 s
  else if level = 0 then respond m 4 h.ref [] (endSession m s)
  else if level = 2 ∧ s.now < hold then nak m h.ref 7 ((hold - s.now + 999999) / 1000000) s
  else
    let t := endSession m s
    if level = 2 ∧ hostProved t level keyIndex nonce pub sig = false then
      nak m h.ref 6 0 (raiseEv 244 0xFFFF (t.modHost m (fun x => { x with holdEnd := s.now + 1000000000 })))
    else openSession m h.ref level keyIndex nonce pub sig t

/-- SESSION OPEN as a command frame. The command in its turn. -/
def hostOpenNow (h : HostHdr) (level keyIndex nonce pub sig : Nat) (s : State) : State :=
  served { isOpen := true, limp := true } h
    (sessionOpen (pathCode h.path) h level keyIndex nonce pub sig) s

/-- SESSION OPEN as a command frame. -/
def hostOpen (h : HostHdr) (level keyIndex nonce pub sig : Nat) (s : State) : State :=
  arrives (.sessionOpen h level keyIndex nonce pub sig) h (hostOpenNow h level keyIndex nonce pub sig) s

/-! ### POWER, PIECE, LOG READ, LOG CLEAR, ENABLE -/

/-- A state request of this module alone (R341); one for Moored or Berthed waits for the end of a hand-over
(R491). -/
def requestOrHold (st : Nat) (s : State) : State :=
  if heldByUpdate s st then { s with pow := { s.pow with apply := s.pow.apply ++ [(s.wwt, st)] } } else requestState st s

/-- A POWER command in the cycle of the row before: its master code. -/
def samePower (c : Instr) : Option Nat :=
  match c with
  | .power h _ _ => if h.same then some (pathCode h.path) else none
  | _ => none

/-- The master codes of the POWER commands that wait behind the present one in its cycle. -/
def powersBehind (s : State) : List Nat := (s.pending.map samePower).takeWhile (fun x => x.isSome) |>.filterMap id

/-- A request of a POWER command: forwarded, or this module's own (R57, R343). -/
def powerTaken (target scope : Nat) (s : State) : State :=
  if scope = 1 then powerForward target s else requestOrHold target (applyDue s)

/-- The requests of one cycle that waited for one of a lower master code, taken in the order of the codes (R351). -/
def takeWaiting (s : State) : State :=
  (((List.range 12).flatMap (fun m => s.pow.sameCycle.filter (fun e => e.1 == m)))).foldl
    (fun t e => powerTaken e.2.1 e.2.2 t) { s with pow := { s.pow with sameCycle := [] } }

/-- A POWER command of master `m`: of two in one cycle the one of the lower master code goes first (R351). -/
def powerInTurn (m target scope : Nat) (s : State) : State :=
  if (powersBehind s).any (fun x => decide (x < m)) then
    { s with pow := { s.pow with sameCycle := s.pow.sameCycle ++ [(m, target, scope)] } }
  else powerTaken target scope s

/-- POWER (R57, R340, R343). The command in its turn. -/
def hostPowerNow (h : HostHdr) (target scope : Nat) (s : State) : State :=
  let level := b2n (s.flag POWER_CFG POWER_CFG_NEEDS_SESSION)
  served { level := level } h (fun t =>
    let m := pathCode h.path
    if startState t ≠ 0 then nak m h.ref 0xC (startState t) t
    else if 3 < target then nak m h.ref 3 0 t
    else if 1 < scope then nak m h.ref 3 1 t
    else respond m 5 h.ref [] (powerInTurn m target scope t)) s

/-- POWER (R57, R340, R343). -/
def hostPower (h : HostHdr) (target scope : Nat) (s : State) : State :=
  let t := arrives (.power h target scope) h (hostPowerNow h target scope) s
  if powersBehind s = [] then takeWaiting t else t

/-- PIECE (R480, R491): deferred while a hand-over runs. The command in its turn. -/
def hostPieceNow (h : HostHdr) (id piece : Nat) (data : List Nat) (flashOk : Bool) (s : State) : State :=
  if updState s = 4 ∧ (h.dest = 0 ∨ h.dest = aqAddr s) then deferCmd (.piece h id piece data flashOk) s
  else served { limp := true } h (fun t =>
    let m := pathCode h.path
    if id = 0 then nak m h.ref 3 0 t
    else
      let r := takePiece id piece data flashOk t
      respond m 6 h.ref [r.1] r.2) s

/-- PIECE (R480, R491): deferred while a hand-over runs. -/
def hostPiece (h : HostHdr) (id piece : Nat) (data : List Nat) (flashOk : Bool) (s : State) : State :=
  arrives (.piece h id piece data flashOk) h (hostPieceNow h id piece data flashOk) s

/-- LOG READ (R57, R449). The command in its turn. -/
def hostLogReadNow (h : HostHdr) (start count : Nat) (s : State) : State :=
  served { limp := true } h (fun t =>
    let m := pathCode h.path
    if count = 0 ∨ 64 < count then nak m h.ref 3 6 t
    else
      let head := leBytes 6 t.rep.head
      respond m 7 h.ref (head ++ (logRecords t start count).flatMap recBytes ++ head) t) s

/-- LOG READ (R57, R449). -/
def hostLogRead (h : HostHdr) (start count : Nat) (s : State) : State :=
  arrives (.logRead h start count) h (hostLogReadNow h start count) s

/-- "LOGCLR" in ASCII. -/
def clearInfo : List Nat := [0x4C, 0x4F, 0x47, 0x43, 0x4C, 0x52]

/-- The clear authorisation code for the present head (R451). -/
def clearCode (s : State) : Nat :=
  (Config.cmac (kLogClr s) (leBytes 8 ownSerial ++ leBytes 6 s.rep.head ++ clearInfo)).toNat

/-- The clear in progress is completed and answered (R451). -/
def logClearEnds (s : State) : State :=
  match s.rep.clearMark with
  | none => s
  | some old =>
    let u := logClearFrom old s
    match s.rep.clearAsk with
    | some (m, ref) => respond m 8 ref (leBytes 6 u.rep.found) u
    | none => u

/-- What the Logbook controller does next (R448, R451): it completes a clear in progress, else it writes the first
waiting record. -/
def logControl (s : State) : State := if s.rep.clearMark.isSome then logClearEnds s else logNext s

/-- LOG CLEAR (R451). The command in its turn; with `c.whole` the clear is completed with it, else it goes on until the
controller completes it or a Lodge reset interrupts it. -/
def hostLogClearNow (h : HostHdr) (c : ClearCode) (s : State) : State :=
  served { level := 2 } h (fun t =>
    let m := pathCode h.path
    let t := logClearEnds t
    if c.code = clearCode t ∧ (sectionOf t 9).isSome then
      let u := logClearBegins m h.ref t
      if c.whole then logClearEnds u else u
    else
      nak m h.ref 6 0 (raiseEv 210 0xFFFF (logOther { mkRec t 5 0xFFFF 0xFFFF [] with master := m } t))) s

/-- LOG CLEAR (R451). -/
def hostLogClear (h : HostHdr) (c : ClearCode) (s : State) : State :=
  arrives (.logClear h c) h (hostLogClearNow h c) s

/-- ENABLE for subsystem `sub` with value 1 on path `m` (R2, R324): answered when its check completes. -/
def enableOne (m ref sub : Nat) (s : State) : State :=
  if sub = 17 ∧ gateFused then
    respond m 9 ref [2, 11] (lockViol m (CHECK_EN + setView) (BitVec.ofNat 32 (2 ^ 17)) s)
  else if enabled s sub then respond m 9 ref [1, 0] s
  else
    let t := requestCheck sub s
    { t with start := { t.start with askers := t.start.askers ++ [(sub, m, ref)] } }

/-- ENABLE for subsystem `sub` with value 0 on path `m` (R325, R326). -/
def enableZero (m ref sub : Nat) (s : State) : State :=
  let queued := s.start.checkQueue.contains sub
  let z := writeZero sub s
  if !z.1 then respond m 9 ref [2, 0] (lockViol m (CHECK_EN + clearView) (BitVec.ofNat 32 (2 ^ sub)) z.2)
  else respond m 9 ref [if queued then 3 else 1, 0] z.2

/-- ENABLE (R57, R324, R327). The command in its turn. -/
def hostEnableNow (h : HostHdr) (sub val : Nat) (s : State) : State :=
  served { level := 2 } h (fun t =>
    let m := pathCode h.path
    if startState t ≠ 0 then nak m h.ref 0xC (startState t) t
    else if 17 < sub then nak m h.ref 3 0 t
    else if 1 < val then nak m h.ref 3 1 t
    else if val = 1 then enableOne m h.ref sub t else enableZero m h.ref sub t) s

/-- ENABLE (R57, R324, R327). -/
def hostEnable (h : HostHdr) (sub val : Nat) (s : State) : State :=
  arrives (.enable h sub val) h (hostEnableNow h sub val) s

/-- A well-formed frame of a TYPE that R57 does not list (R51, R58). The command in its turn. -/
def hostUnknownNow (h : HostHdr) (typ : Nat) (s : State) : State :=
  let h := { h with fits := true }
  served {} h (nak (pathCode h.path) h.ref 1 typ) s

/-- A well-formed frame of a TYPE that R57 does not list (R51, R58). -/
def hostUnknown (h : HostHdr) (typ : Nat) (s : State) : State :=
  arrives (.unknownType h typ) h (hostUnknownNow h typ) s

/-- A host's access ends in a bus error of `kind` on its way, TIMEOUT or ABORTED, at word `index` of a BLOCK READ, whose
earlier words have been read (R39, R57, R58, R349). The command in its turn. -/
def hostCutNow (kind : Nat) (m : Fin 12) (h : HostHdr) (addr : Word) (write : Bool) (index : Nat) (s : State) : State :=
  served { limp := true } h (fun t =>
    let r := if write then (none, [], t) else readWords m index (addr.toNat - 4 * index) 0 t
    match r.1 with
    | some e => nak (pathCode h.path) h.ref 4 (busDetail e.1 e.2) r.2.2
    | none => nak (pathCode h.path) h.ref 4 (busDetail kind index) (busError m addr.toNat write kind r.2.2)) s

/-- A host's access of a die register has not completed within 500 µs (R39, R57, R58). -/
def hostTimeout (m : Fin 12) (h : HostHdr) (addr : Word) (w : CutWord) (s : State) : State :=
  arrives (.dieAccessTimeout m addr w h) h (hostCutNow 6 m h addr w.write w.index) s

/-- The header of a command of master `m`, which names its path. -/
def hdrOf (m : Fin 12) (h : HostHdr) : HostHdr := { h with path := ⟨(m.val - 9) % 3, Nat.mod_lt _ (by decide)⟩ }

/-! ### Frames that come through the tunnel (R425) -/

/-- Payload bytes that a command of TYPE `typ` has, `first` being its first payload byte; none for an unknown
TYPE. -/
def cmdLength (typ first : Nat) : Option Nat :=
  match typ with
  | 1 => some 4
  | 2 => some 8
  | 3 => some 6
  | 4 => some (if first = 2 then 146 else 82)
  | 5 => some 2
  | 6 => some 4104
  | 7 => some 7
  | 8 => some 16
  | 9 => some 2
  | _ => none

/-- A command of TYPE `typ` with plain payload `l` runs as though it had arrived on the tunnel path. -/
def tunnelCommand (typ : Nat) (h : HostHdr) (l : List Nat) (flashOk : Bool) (s : State) : State :=
  let w (i : Nat) : Word := BitVec.ofNat 32 (leAt l i 4)
  let h := { h with fits := decide (cmdLength typ (l.headD 0) = some l.length) }
  match typ with
  | 1 => hostRead h (w 0) s
  | 2 => hostWrite h (w 0) (w 4) s
  | 3 => hostBlock h (w 0) (leAt l 4 2) s
  | 4 => hostOpen h (leAt l 0 1) (leAt l 1 1) (leAt l 2 16) (leAt l 18 64) (leAt l 82 64) s
  | 5 => hostPower h (leAt l 0 1) (leAt l 1 1) s
  | 6 => hostPiece h (leAt l 0 4) (leAt l 4 4) (l.drop 8) flashOk s
  | 7 => hostLogRead h (leAt l 0 6) (leAt l 6 1) s
  | 8 => hostLogClear h ⟨leAt l 0 16, true⟩ s
  | 9 => hostEnable h (leAt l 0 1) (leAt l 1 1) s
  | _ => hostUnknown h typ s

/-- A complete frame `f` from module `src` (R50, R51, R54, R425): a response or notice goes out on the host path, a
command runs here. -/
def tunnelRuns (src : Nat) (f : List Nat) (flashOk : Bool) (s : State) : State :=
  let len := leAt f 4 2
  let body := (f.drop 6).take len
  if f.length ≠ len + 10 ∨ 4160 < len ∨ leAt f (6 + len) 4 ≠ crcOf crcC (f.take (6 + len)) then discardFrame s
  else
    let typ := leAt f 0 1
    let enc := bitOf (leAt f 2 1) 7
    if 0x7F ≤ typ then State.send (.frame s.aq.fwdPath typ (leAt f 1 1) (leAt f 3 1) enc body) s
    else
      let seq := leAt body 0 8
      let text := (body.drop 8).take (len - 24)
      let x := s.host 10
      let h : HostHdr := {
        path := 1, ref := leAt f 1 1, enc := enc, len := len, seq := if enc then seq else 0
        tag := if enc then leAt body (len - 16) 16 else 0
        covered := f.take 6 ++ (if enc then text else body) }
      tunnelCommand typ h (if enc then Config.gcmCrypt x.keyIn (nonceOf x.saltIn seq) text else body) flashOk
        { s with aq := { s.aq with tunHost := src } }

/-- TUNNEL_FRAME_COMPLETE: it waits during the Warden's pause (R488). -/
def tunnelComplete (src : Nat) (flashOk : Bool) (s : State) : State :=
  if s.start.lodgeDown then s
  else match tunnelFrame s src with
    | none => s
    | some f =>
      if pausing s then deferCmd (.tunnelFrameComplete src flashOk) s
      else tunnelRuns src f flashOk (dropTunnel src s)

/-- The bytes of the piece of module `src` in assembly. -/
def assembledPiece (s : State) (src : Nat) : List Nat :=
  (List.range 17).flatMap (fun k => Tab.get (Tab.get s.aq.pieces {} src).parts [] k)

/-- PIECE_BARGE_ASSEMBLY (R411, R480): the piece is handled and its status returned; it waits while a hand-over runs
(R488, R491). -/
def pieceAssembled (src : Nat) (flashOk : Bool) (s : State) : State :=
  if s.start.lodgeDown ∨ pieceWhole s src = false then s
  else if pausing s ∨ updState s = 4 then deferCmd (.pieceBargeAssembly src flashOk) s
  else
    let x := Tab.get s.aq.pieces {} src
    let r := takePiece x.update x.piece (assembledPiece s src) flashOk (dropPiece src s)
    sendBarge (mkBarge r.2 2 0 4 src 0xFB (leBytes 4 x.update ++ leBytes 2 x.piece ++ [0xFF, r.1])) r.2

/-! ### The end of a hand-over (R488) -/

/-- A command that waited is served. -/
def runWaiting (c : Instr) (s : State) : State :=
  match c with
  | .read h a => hostReadNow h a s
  | .write h a d => hostWriteNow h a d s
  | .blockRead h a n => hostBlockNow h a n s
  | .sessionOpen h l k n p g => hostOpenNow h l k n p g s
  | .power h t c => hostPowerNow h t c s
  | .piece h i p d ok => hostPieceNow h i p d ok s
  | .logRead h a n => hostLogReadNow h a n s
  | .logClear h c => hostLogClearNow h c s
  | .enable h n v => hostEnableNow h n v s
  | .unknownType h t => hostUnknownNow h t s
  | .dieAccessTimeout m a w h => hostCutNow 6 m h a w.write w.index s
  | .tunnelFrameComplete src ok => tunnelComplete src ok s
  | .pieceBargeAssembly src ok => pieceAssembled src ok s
  | .j1939Contention c n a => j1939Contention c n a s
  | .j1939Request c => j1939Request c s
  | _ => s

/-- A command must still wait: the Warden pauses (R488), or one of its path that came before it, among `kept` or asking
for a check, is not answered (R52). -/
def waitsOn (kept : List Instr) (s : State) (c : Instr) : Bool :=
  pausing s || (match cmdPath c with
    | some m => kept.any (fun d => cmdPath d == some m) || s.start.askers.any (fun a => a.2.1 == m)
    | none => false)

/-- The commands of `rest` are served oldest first, each in its turn; those of `kept` go on waiting. A Lodge reset loses
what waits. -/
def serveAll (kept rest : List Instr) (s : State) : State :=
  match rest with
  | [] => { s with upd := { s.upd with waiting := kept } }
  | c :: more =>
    if waitsOn kept s c then serveAll (kept ++ [c]) more s
    else
      let t := runWaiting c { s with upd := { s.upd with waiting := kept ++ more } }
      if t.start.lodgeDown then t
      else serveAll (kept ++ t.upd.waiting.drop (kept.length + more.length)) more t

/-- The commands that waited are served where their turn has come (R52, R488). -/
def replay (s : State) : State :=
  if pausing s ∨ s.upd.waiting = [] then s else serveAll [] s.upd.waiting s

/-- A command that may answer others ends: what waited for the answer is served (R52). -/
def finishHost (s t : State) : Host.Outcome State Fault Refusal := finishMem s (replay t)

end Sys2Proof.Machine
end

