-- ==== Sys2Proof/Machine/Host.lean ====
section
/-! DEFINITION. The commands of the host link (R49 to R60), and of the update pieces and tunnel frames that come over
the waterway (R411, R425). -/

namespace Sys2Proof.Machine

/-- READ (R57). -/
def execRead (h : HostHdr) (addr : Word) (s : State) : Host.Outcome State Fault Refusal := finishHost s (hostRead h addr s)

/-- WRITE (R52, R57). -/
def execWrite (h : HostHdr) (addr data : Word) (s : State) : Host.Outcome State Fault Refusal :=
  finishHost s (hostWrite h addr data s)

/-- BLOCK READ (R57). -/
def execBlockRead (h : HostHdr) (addr : Word) (count : Nat) (s : State) : Host.Outcome State Fault Refusal :=
  finishHost s (hostBlock h addr count s)

/-- SESSION OPEN (R53 to R56). -/
def execSessionOpen (h : HostHdr) (level keyIndex nonce pub sig : Nat) (s : State) :
    Host.Outcome State Fault Refusal :=
  finishHost s (hostOpen h level keyIndex nonce pub sig s)

/-- AUTH_FAIL_HOLD_EXPIRY (R56): the hold of path `p` has ended. -/
def execAuthFailHoldExpiry (p : Fin 3) (s : State) : Host.Outcome State Fault Refusal :=
  finish s (if (s.host (pathCode p)).holdEnd ≤ s.now then s.modHost (pathCode p) (fun x => { x with holdEnd := 0 }) else s)

/-- SESSION_TIMEOUT (R56): 60 s without an accepted command. -/
def execSessionTimeout (p : Fin 3) (s : State) : Host.Outcome State Fault Refusal :=
  finish s (if sessionOver s (pathCode p) then endSession (pathCode p) s else s)

/-- POWER (R57, R340 to R343). -/
def execPower (h : HostHdr) (target scope : Nat) (s : State) : Host.Outcome State Fault Refusal :=
  finishHost s (hostPower h target scope s)

/-- PIECE (R480 to R482). -/
def execPiece (h : HostHdr) (id piece : Nat) (data : List Nat) (flashOk : Bool) (s : State) :
    Host.Outcome State Fault Refusal :=
  finishHost s (hostPiece h id piece data flashOk s)

/-- LOG READ (R449). -/
def execLogRead (h : HostHdr) (start count : Nat) (s : State) : Host.Outcome State Fault Refusal :=
  finishHost s (hostLogRead h start count s)

/-- LOG CLEAR (R451). -/
def execLogClear (h : HostHdr) (code : ClearCode) (s : State) : Host.Outcome State Fault Refusal :=
  finishHost s (hostLogClear h code s)

/-- LOGBOOK_RECORD_WRITE (R445, R447, R448, R451): the Logbook controller's next write. -/
def execLogbookRecordWrite (s : State) : Host.Outcome State Fault Refusal :=
  finishHost s (if s.start.lodgeDown then s else logControl s)

/-- ENABLE (R57, R324). -/
def execEnable (h : HostHdr) (sub val : Nat) (s : State) : Host.Outcome State Fault Refusal :=
  finishHost s (hostEnable h sub val s)

/-- UNKNOWN_TYPE (R58). -/
def execUnknownType (h : HostHdr) (typ : Nat) (s : State) : Host.Outcome State Fault Refusal :=
  finishHost s (hostUnknown h typ s)

/-- TOWPATH_FRAME_DISCARD (R51) on path `p`; the Towpath takes no frames with TP_EN = 0 (R67). -/
def execTowpathFrameDiscard (p : Fin 3) (s : State) : Host.Outcome State Fault Refusal :=
  finish s (if pathOff s { path := p } then s else discardFrame s)

/-- The Towpath receiver locks or loses lock (R62, R68). -/
def linkChange (up : Bool) (s : State) : State :=
  if s.start.lodgeDown || lowPower s || s.flag HOST_STAT HOST_STAT_LINK == up then s
  else raiseEv 240 0xFFFF (State.setFlag HOST_STAT HOST_STAT_LINK up s)

/-- TOWPATH_LINK_CHANGE (R62, R68). -/
def execTowpathLinkChange (up : Bool) (s : State) : Host.Outcome State Fault Refusal := finish s (linkChange up s)

/-- NOTICE_SEND (R59, R60). -/
def execNoticeSend (s : State) : Host.Outcome State Fault Refusal := finish s (noticeSend s)

/-- EVENT_HOLD_EXPIRY (R63): the hold of source `n` has ended; a notice that is pending is sent. -/
def holdExpires (n : Nat) (s : State) : State :=
  let x := Tab.get s.rep.ev {} n
  if x.holdEnd ≤ s.now then
    noticeSend { s with rep := { s.rep with ev := Tab.mod s.rep.ev {} n (fun y => { y with holdEnd := 0 }) } }
  else s

/-- EVENT_HOLD_EXPIRY (R63). -/
def execEventHoldExpiry (n : Fin 256) (s : State) : Host.Outcome State Fault Refusal := finish s (holdExpires n s)

/-- A die register access by master `m` has not completed within 500 µs (R39): a host's command gets NAK BUSERR; the
Warden takes its bus-error exception. -/
def accessTimeout (m : Fin 12) (addr : Word) (w : CutWord) (h : HostHdr) (s : State) : State :=
  if 9 ≤ m.val then
    hostTimeout m (hdrOf m h) addr w s
  else if masterUp s m then engineBusError m addr.toNat w.write 6 s
  else s

/-- DIE_ACCESS_TIMEOUT (R39). -/
def execDieAccessTimeout (m : Fin 12) (addr : Word) (w : CutWord) (h : HostHdr) (s : State) :
    Host.Outcome State Fault Refusal :=
  finishHost s (accessTimeout m addr w h s)

/-- A write cut by forced isolation may have taken effect or not (R39), as `took` says. -/
def cutWrite (x : OpenAccess) (s : State) : State :=
  if x.write && x.took then
    match regAt (normalOf x.addr.toNat) with
    | none => s
    | some (r, i) => topStore false x.m x.addr.toNat r i x.data s
  else s

/-- A transfer still open ends in ABORTED (R39, R349): a host's command is answered with NAK BUSERR, an engine takes its
exception or trap. -/
def abortAccess (x : OpenAccess) (s : State) : State :=
  let s := cutWrite x s
  if 9 ≤ x.m.val then hostCutNow 4 x.m (hdrOf x.m x.h) x.addr x.write x.index s
  else engineBusError x.m x.addr.toNat x.write 4 s

/-- Domain `d` is isolated by force (R349): every transfer of `cut`, still open, ends in ABORTED. -/
def forceIsolate (d : Nat) (cut : List OpenAccess) (s : State) : State :=
  let t := State.modDom d (fun x => { x with inFlight := 0, isolated := true }) s
  let t := cut.foldl (fun t x => abortAccess x t) t
  let t := State.setFld POWER_ISO POWER_ISO_LAST_DOM d (State.incFld POWER_ISO POWER_ISO_FORCE_CNT t)
  raiseEvRec 250 d (d :: leBytes 4 cut.length) t

/-- FORCED_ISOLATION (R349): the transfers still open are those of the engines, the single accesses of hosts, and their
block reads. -/
def execForcedIsolation (dom : Fin 32) (engines hosts blocks : List OpenAccess) (s : State) :
    Host.Outcome State Fault Refusal :=
  let x := s.dom dom
  finish s (if x.barred ∧ x.isolated = false ∧ x.upAt = none ∧ x.start + 50000 ≤ s.now then
      forceIsolate dom (engines ++ hosts ++ blocks) s
    else s)

/-- TUNNEL_FRAME_COMPLETE (R425). -/
def execTunnelFrameComplete (src : Nat) (flashOk : Bool) (s : State) : Host.Outcome State Fault Refusal :=
  finishHost s (tunnelComplete src flashOk s)

/-- PIECE_BARGE_ASSEMBLY (R411, R480). -/
def execPieceBargeAssembly (src : Nat) (flashOk : Bool) (s : State) : Host.Outcome State Fault Refusal :=
  finishHost s (pieceAssembled src flashOk s)

end Sys2Proof.Machine
end

