-- ==== Sys2Proof/Machine/Light.lean ====
section
/-! DEFINITION. The meanings of the lighting and Trellis commands (R202 to R234). -/

namespace Sys2Proof.Machine

/-- COMMAND index of element `k` (R263). -/
def ltIndex (k : Nat) : Nat := if k < 48 then 0x300 + k else 0x340 + (k - 48)

/-- LIGHT_CMD_WRITE (R203, R204, R206 to R208): the Glasshouse applies word `w` to LC_CMD of a sink or
BL_CMD of a backlight from master `m`. -/
def execLightCmdWrite (m : Sender) (k : Fin 52) (w : Word) (s : State) : Host.Outcome State Fault Refusal :=
  finish s (applyCommand m.same m.code (ltIndex k) w s)

/-- LIGHT_CLR (R208, R210): the same write with CLR and the present ON and LVL. -/
def execLightClr (m : Sender) (k : Fin 52) (s : State) : Host.Outcome State Fault Refusal :=
  finish s (applyCommand m.same m.code (ltIndex k) (fput LC_CMD_CLR 1 (s.reg (ltCmd k))) s)

/-- 100 µs updates of a ramp of element `k`: FADE_T, 1 ms where FADE_T is 0 (R207, R217). -/
def fadeSteps (s : State) (k : Nat) : Nat := if ltFade s k = 0 then 10 else ltFade s k

/-- The ramp stands at its `i`-th of `n` updates towards `top` 1/65536 units. -/
def fadeIndex (level top n : Nat) : Nat := if top = 0 then 0 else (2 * level * n + top) / (2 * top)

/-- A ramping level takes effect: at once in the analog region, else at the next period start (R205). -/
def putLevel (k level : Nat) (s : State) : State :=
  State.modElem k (fun e => { e with
    level := level, active := (if ltAnalog k ≤ e.active then level / 65536 else e.active) }) s

/-- The level of a FADE_IN one update on, in 1/65536 units (R207): up at A over the `n` updates of the ramp; down to an A
that LVL has put below the present level, at full level over them (log entry 70). -/
def fadeInNext (level top n : Nat) : Nat :=
  if level ≤ top then Nat.min top (top * (fadeIndex level top n + 1) / n)
  else Nat.max top (level - 65535 * 65536 / n)

/-- One 100 µs update of a fade of element `k` (R207, R208): the ramp is linear between 0 and A; at level 0
a pending turn-on starts FADE_IN from 0. -/
def fadeUpdate (k : Nat) (s : State) : State :=
  let e := s.elem k
  let n := fadeSteps s k
  if ltState s k = ltFadeIn then
    let top := ltApplied s k * 65536
    let next := fadeInNext e.level top n
    if next = top then
      State.modElem k (fun e => { e with soft := false }) (putLevel k top (setLtState k ltOn s))
    else putLevel k next s
  else if ltState s k = ltFadeOut then
    let top := e.top * 65536
    let i := fadeIndex e.level top n
    if i ≤ 1 then
      if s.flag (ltStat k) (ltPend k) && ltDemand s k && serving s 14 then ltTurnOn k (ltDark k ltOff s)
      else ltDark k ltOff s
    else putLevel k (top * (i - 1) / n) s
  else s

/-- FADE_UPDATE (R207, R208). -/
def execFadeUpdate (k : Fin 52) (s : State) : Host.Outcome State Fault Refusal := finish s (fadeUpdate k s)

/-- The output of element `k` is lit. -/
def ltLit (s : State) (k : Nat) : Bool :=
  let st := ltState s k
  st == ltFadeIn || st == ltOn || st == ltFadeOut

/-- A confirmed result of member `k` sets the CODE of its leader `l` and latches the run where SHORT_OFF asks
for it (R209, R210). -/
def sinkConfirm (l k kind : Nat) (s : State) : State :=
  let t := State.setFld (LC_STAT l) LC_STAT_CODE kind s
  if kind = 1 then dieEv 4 80 k (State.setFlag (LC_STAT l) LC_STAT_OPEN true t)
  else
    let t := dieEv 4 81 k (State.setFlag (LC_STAT l) LC_STAT_SHORT true t)
    if s.flag (LC_CFG l) LC_CFG_SHORT_OFF then ltLatch l 2 LC_STAT_SHORT 82 t else t

/-- A good observation of member `k` (R209): CODE returns to OK when every member of the run has had
OL_CNT + 1 of them in a row. -/
def sinkGood (l k : Nat) (s : State) : State :=
  let t := State.modElem k (fun e => { e.clearObs with goodCount := satInc 16 e.goodCount }) s
  if (runOf t l).all (fun j => decide (t.fld (LC_DCFG j) LC_DCFG_OL_CNT + 1 ≤ (t.elem j).goodCount)) then
    State.setFld (LC_STAT l) LC_STAT_CODE 0 t
  else t

/-- Short threshold of sink `k` in mV (R209, R236). -/
def shortTh (s : State) (k : Nat) : Nat := clampN 10 150 (s.fld (LC_DCFG k) LC_DCFG_VSH_TH) * 200

/-- An observation of sink `k` falls due in this period (R209, R211). -/
def sinkObserved (s : State) (l : Nat) : Bool :=
  s.flag (LC_DCFG l) LC_DCFG_DIAG_EN && ltLit s l &&
  (decide (ltAnalog l ≤ (s.elem l).active) || decide (40000 ≤ (s.elem l).pulse) || (s.elem l).stretched)

/-- The comparators of sink `k` read `vsink` mV at `ua` µA (R209, R210): a result is confirmed once in each run of
consecutive observations that has grown to OL_CNT + 1, and again where another result has taken CODE since. -/
def sinkObservation (k vsink ua : Nat) (s : State) : State :=
  let l := leaderOf s k 7
  if isColumn s k || !sinkObserved s l then s
  else
    let t := State.setFld (LC_STAT k) LC_STAT_VSINK (clampN 0 0xFFF (vsink / 16)) s
    let kind := if vsink < 300 ∧ 2 * ua < ltAmp s k then 1 else if shortTh s k < vsink then 2 else 0
    if kind = 0 then sinkGood l k t
    else
      let e := if (s.elem k).obsKind = kind then s.elem k else (s.elem k).clearObs
      let n := e.obsCount + 1
      let long := decide (s.fld (LC_DCFG k) LC_DCFG_OL_CNT + 1 ≤ n)
      let t := State.modElem k (fun x => { x with
        obsKind := kind, obsCount := n, obsDone := long, goodCount := 0 }) t
      if long && (!e.obsDone || s.fld (LC_STAT l) LC_STAT_CODE != kind) then sinkConfirm l k kind t else t

/-- SINK_OBSERVATION (R209, R210). -/
def execSinkObservation (k : Fin 48) (vsink ua : Nat) (s : State) : Host.Outcome State Fault Refusal :=
  finish s (sinkObservation k vsink ua s)

/-- FOLD of every direct and column sink (R212). -/
def setFolds (b : Bool) (s : State) : State :=
  (List.range 48).foldl (fun t k =>
    if isFollower t k then t else State.setFlag (LC_STAT k) LC_STAT_FOLD b t) s

/-- The Glasshouse reads TS5 at `t` in 0.1 °C (R212): foldback, thermal shutdown at 165 °C with FLT22
(R436), and the return below 145 °C. FACT shows f without its rest below 1/128 (log entry 70). -/
def foldbackRead (t : Int) (s : State) : State :=
  let f := foldFactor (s.fld LIGHT_THERM LIGHT_THERM_TFOLD) t
  let was := s.flag LIGHT_THERM LIGHT_THERM_FOLD
  let u := { s with trellis := { s.trellis with fold := f } }
  let u := State.setFld LIGHT_THERM LIGHT_THERM_FACT (f * 128 / 400)
    (State.setFlag LIGHT_THERM LIGHT_THERM_FOLD (f < 400) u)
  let u := setFolds (f < 400) u
  let u := if f < 400 ∧ was = false then dieEv 4 83 0xFFFF u else u
  if 1650 ≤ t ∧ lightTsd s = false then
    let u := State.setFlag LIGHT_THERM LIGHT_THERM_TSDSEEN true (State.setFlag LIGHT_THERM LIGHT_THERM_TSD true u)
    dieFault 4 22 (dieEv 4 93 0xFFFF (lightSupplyOff u))
  else if t < 1450 ∧ lightTsd s then lightSupplyOn (State.setFlag LIGHT_THERM LIGHT_THERM_TSD false u)
  else u

/-- FOLDBACK_READ (R212). -/
def execFoldbackRead (t : Int) (s : State) : Host.Outcome State Fault Refusal := finish s (foldbackRead t s)

/-- The mean current that backlight `n` regulates to now, in mA / 65 536 (R214, R215). -/
def blTarget (s : State) (n : Nat) : Nat :=
  clampN 0 300 (s.fld (BL_CFG n) BL_CFG_ISET) * 5 * ((s.elem (48 + n)).level / 65536)

/-- A protection of backlight `n` (R216): condition 0 open string, 1 short, which counts from 1 ms after the turn-on, 2
over-current. A shed in the same cycle acts first, and no latch is recorded (R232). -/
def backlightLatch (n cond vout ma dur vres : Nat) (s : State) : State :=
  let k := 48 + n
  let t := loadShed (6 + n) vres (State.setFld (BL_STAT n) BL_STAT_VOUT (clampN 0 0xFFF (vout / 16)) s)
  if !ltLit t k then t
  else match cond with
    | 0 =>
      if clampN 10 60 (s.fld (BL_CFG n) BL_CFG_VOMAX) * 1000 ≤ vout ∧ ma * 2 * 65536 < blTarget s n ∧ 1000000 ≤ dur then
        ltLatch k 1 BL_STAT_OPEN 84 t
      else t
    | 1 =>
      if vout < 3000 ∧ 1000000 ≤ dur ∧ (s.elem k).onTime + 2000000 ≤ s.now then ltLatch k 2 BL_STAT_SHORT 85 t
      else t
    | _ => if 2200 ≤ ma ∧ 2000 ≤ dur then ltLatch k 3 BL_STAT_OCL 85 t else t

/-- BACKLIGHT_LATCH (R216, R232): the string current (over-current: the inductor current) stands at `ma` mA for `dur` ns,
and the output and VRES at `v`. -/
def execBacklightLatch (n : Fin 4) (cond : Fin 3) (v : BlVolts) (ma dur : Nat) (s : State) :
    Host.Outcome State Fault Refusal :=
  finish s (backlightLatch n cond v.vout ma dur v.vres s)

/-- The current of backlight `n` has been `ma` mA for `dur` ns (R216). -/
def backlightSat (n ma dur : Nat) (s : State) : State :=
  if ltLit s (48 + n) && decide (ma * 10 * 65536 < blTarget s n * 9) then
    if 5000000 ≤ dur ∧ s.flag (BL_STAT n) BL_STAT_SAT = false then
      dieEv 4 86 n (State.setFlag (BL_STAT n) BL_STAT_SAT true s)
    else s
  else State.setFlag (BL_STAT n) BL_STAT_SAT false s

/-- BACKLIGHT_SATURATION (R216). -/
def execBacklightSaturation (n : Fin 4) (ma dur : Nat) (s : State) : Host.Outcome State Fault Refusal :=
  finish s (backlightSat n ma dur s)

/-- The range of a photodiode reading of `val` 0.1 nA: full scales 1 µA, 10 µA, 100 µA, 1 mA (R218). -/
def pdRange (val : Nat) : Nat :=
  if val < 10000 then 0 else if val < 100000 then 1 else if val < 1000000 then 2 else 3

/-- Photodiode `p` has integrated `val` 0.1 nA over 10 ms (R218): a full-scale reading sets OVR. -/
def photodiode (p val : Nat) (s : State) : State :=
  let t := State.setFld (PD_VAL p) PD_VAL_VAL (clampN 0 0xFFFFFF val)
    (State.setFld (PD_VAL p) PD_VAL_RANGE (pdRange val) (State.setFlag (PD_VAL p) PD_VAL_OVR (10000000 ≤ val) s))
  State.modSource p (fun x => { x with reading := some (val, 0, 0) }) t

/-- PHOTODIODE_INTEGRATION (R218). -/
def execPhotodiodeIntegration (p : Fin 4) (val : Nat) (s : State) : Host.Outcome State Fault Refusal :=
  finish s (photodiode p val s)

/-- Count `i` of a sensor's six bytes, byte 0 in the low bits: low byte first, or high byte first with BE
(R219). -/
def sensorCount (data : BitVec 48) (be : Bool) (i : Nat) : Nat :=
  let lo := data.toNat / 256 ^ (2 * i) % 256
  let hi := data.toNat / 256 ^ (2 * i + 1) % 256
  if be then 256 * lo + hi else lo + 256 * hi

/-- The Lodge reads slot `n` (R219): it is enabled, and the Lodge runs. -/
def sensorRuns (s : State) (n : Nat) : Bool := s.flag (SNS_CFG n) SNS_CFG_EN && !s.lock.lrst

/-- The transaction of slot `n` on its bus (R219). -/
def sensorSend (n : Nat) (s : State) : State :=
  State.send (.i2c (s.fld (SNS_CFG n) SNS_CFG_BUS) (s.fld (SNS_CFG n) SNS_CFG_ADDR) (s.fld (SNS_CFG n) SNS_CFG_REG)) s

/-- A sensor transaction of slot `n` ends (R219, R220): a reading counts only where every byte was
acknowledged and all three counts of its tag reach the Glasshouse before the tick. -/
def sensorRead (n : Nat) (data : BitVec 48) (ack arrived : Bool) (b : State) : State :=
  if !sensorRuns b n then b
  else
    let s := sensorSend n b
    let be := s.flag (SNS_CFG n) SNS_CFG_BE
    let ok := ack && arrived && cvUp s 4 && !(s.die 4).silent
    State.modSource (4 + n) (fun x => { x with
      tag := (x.tag + 1) % 256,
      reading := (if ok then some (sensorCount data be 0, sensorCount data be 1, sensorCount data be 2)
        else none) }) s

/-- SENSOR_READ (R219, R220). -/
def execSensorRead (n : Fin 4) (data : BitVec 48) (ack arrived : Bool) (s : State) :
    Host.Outcome State Fault Refusal :=
  finish s (sensorRead n data ack arrived s)

/-- The transaction of slot `n` is not complete 2 ms after its start (R220). -/
def sensorTimeout (n : Nat) (s : State) : State :=
  if sensorRuns s n then State.modSource (4 + n) (fun x => { x with reading := none }) (sensorSend n s) else s

/-- SENSOR_TRANSACTION_TIMEOUT (R220): a transaction not complete 2 ms after its start gives no reading. -/
def execSensorTransactionTimeout (n : Fin 4) (s : State) : Host.Outcome State Fault Refusal :=
  finish s (sensorTimeout n s)

/-- A 10 ms tick of the Glasshouse timebase (R220 to R222): every source is judged, every enabled loop
updates, and the readings are used up. Loops stand still while LIGHT is disabled and under Moored hold
(R234, R326). -/
def tickLoops (s : State) : State :=
  if !serving s 14 || (s.bank 14).moored then s
  else
    let t := (List.range 8).foldl (fun t i => sourceTick i t) (noteLoops s)
    let t := (List.range 8).foldl (fun t l => if t.flag (LOOP_CFG l) LOOP_CFG_EN then loopTick l t else t) t
    (List.range 8).foldl (fun t i => State.modSource i (fun x => { x with reading := none }) t) t

/-- LOOP_TICK (R220 to R222). -/
def execLoopTick (s : State) : Host.Outcome State Fault Refusal := finish s (tickLoops s)

/-- TRELLIS_FRAME_START (R225 to R227): TRSUP stands at `vtrsup` mV. -/
def execTrellisFrameStart (vtrsup : Nat) (s : State) : Host.Outcome State Fault Refusal :=
  finish s (trFrameStart vtrsup s)

/-- One line visit of a running Trellis; a frame holds NSUB + 1 sub-scans (R224, R225). -/
def trellisVisit (reads : List ColRead) (s : State) : State :=
  if s.fld TR_STAT TR_STAT_STATE = 1 ∧ s.trellis.sub ≤ s.fld TR_CFG TR_CFG_NSUB then lineVisit reads s
  else s

/-- What the comparators of the columns read in a line visit; the three lists name the columns in order, and a column
that one of them does not reach is not read. -/
def colReads (levels currents pres : List Nat) : List ColRead :=
  ((levels.zip currents).zip pres).map (fun e => ⟨e.1.1, e.1.2, e.2⟩)

/-- TRELLIS_LINE_VISIT (R225, R228 to R230): entry c of each list is what the comparators of column c read, the voltage
and the current in step 5 and the voltage after the pre-charge. -/
def execTrellisLineVisit (levels currents pres : List Nat) (s : State) : Host.Outcome State Fault Refusal :=
  finish s (trellisVisit (colReads levels currents pres) s)

/-- A latch of line switch `l` ends its visit; the debt of a stretched LED of it is cleared (R232). -/
def clearLineDebts (l : Nat) (s : State) : State :=
  if s.trellis.line = l then
    (trColumns s).foldl (fun t c =>
      if ledStretch s (48 * l + c) then
        { t with trellis := { t.trellis with debts := Tab.put t.trellis.debts 0 (48 * l + c) 0 } }
      else t) s
  else s

/-- Line switch `l` latches: LLATCH, LSEEN, EV092, FLT22 (R231, R436). -/
def lineLatch (l : Nat) (s : State) : State :=
  let t := State.setFlag TR_STAT TR_STAT_LSEEN true
    (State.setFld TR_STAT TR_STAT_LLATCH (setBitN (s.fld TR_STAT TR_STAT_LLATCH) l) (clearLineDebts l s))
  dieFault 4 22 (dieEv 4 92 l t)

/-- Line switch `l` has carried `ma` mA for `dur` ns, or stands at `t` °C (R231); a column fault that stops the scan in
the same cycle does not hide the latch (R232). -/
def lineSwitchLatch (l : Nat) (therm : Bool) (ma dur : Nat) (t : Int) (s : State) : State :=
  if therm then
    if t < 145 then { s with trellis := { s.trellis with veto := clrBitN s.trellis.veto l } }
    else if 170 ≤ t ∧ bitOf s.trellis.veto l = false then
      lineLatch l { s with trellis := { s.trellis with veto := setBitN s.trellis.veto l } }
    else s
  else if (s.fld TR_STAT TR_STAT_STATE = 1 ∨ (s.fld TR_STAT TR_STAT_STATE = 2 ∧ s.trellis.hitAt = some s.now)) ∧
      3000 ≤ ma ∧ 5000 ≤ dur then lineLatch l s
  else s

/-- LINE_SWITCH_LATCH (R231). -/
def execLineSwitchLatch (l : Fin 16) (therm : Bool) (ma dur : Nat) (t : Int) (s : State) :
    Host.Outcome State Fault Refusal :=
  finish s (lineSwitchLatch l therm ma dur t s)

/-- TR_CMD_WRITE (R206, R226, R227): the Glasshouse applies word `w` to TR_CMD from master `m`. -/
def execTrCmdWrite (m : Sender) (w : Word) (s : State) : Host.Outcome State Fault Refusal :=
  finish s (applyCommand m.same m.code 0x380 w s)

/-- LCLR (R230, R231): a TR_CMD write that carries LCLR with the present RUN and SHOW. -/
def execLclr (m : Sender) (s : State) : Host.Outcome State Fault Refusal :=
  finish s (applyCommand m.same m.code 0x380 (fput TR_CMD_LCLR 1 (s.reg TR_CMD)) s)

/-- PWM frequency of element `k` in Hz (R205, R215): the reserved codes of a sink, which the check refuses,
act as the highest. -/
def ltHz (s : State) (k : Nat) : Nat :=
  if k < 48 then
    match s.fld (LC_CFG k) LC_CFG_PWMF with
    | 0 => 400 | 1 => 1000 | 2 => 2000 | 3 => 5000 | 4 => 10000 | _ => 20000
  else
    match s.fld (BL_CFG (k - 48)) BL_CFG_PWMF with
    | 0 => 100 | 1 => 200 | 2 => 500 | 3 => 1000 | 4 => 2000 | 5 => 5000 | 6 => 10000 | _ => 20000

/-- On-time of a PWM period of element `k` at level `a` in ns, rounded to the nearest 25 ns (R205, R215). -/
def ltOnTime (s : State) (k a : Nat) : Nat :=
  let duty := if k < 48 then 10 * a else 8 * a
  (40000000 * duty * 2 / (ltHz s k * 65536) + 1) / 2 * 25

/-- N of the stretch of sinks (R211). -/
def ltStretchN (s : State) : Nat := 2 ^ clampN 4 12 (s.fld LIGHT_BANK LIGHT_BANK_STRETCH_N)

/-- This period of sink `k` with on-time `on` is stretched to 40 µs (R211). -/
def ltStretchDue (s : State) (k on : Nat) : Bool :=
  decide (k < 48) && s.flag (LC_DCFG k) LC_DCFG_STRETCH && ltState s k == ltOn && decide (0 < on ∧ on < 40000) &&
  ((s.elem k).periods + 1) % ltStretchN s == 0 && decide (40000 + 500 ≤ 1000000000 / ltHz s k)

/-- A PWM period of element `k` starts (R205, R211, R214): the level takes effect; a pulse below the least
on-time is carried into the next period. -/
def ltPeriodStart (k : Nat) (s : State) : State :=
  if !isDirect s k || !ltLit s k then s
  else
    let e := s.elem k
    let a := e.level / 65536
    let min := if k < 48 then 500 else 400
    if ltAnalog k ≤ a then
      let t := State.modElem k (fun e => { e with
        active := a, carry := 0, debt := 0, pulse := 0, stretched := false }) s
      if k < 48 then State.setFlag (LC_STAT k) LC_STAT_STRETCHED false t else t
    else
      let on := ltOnTime s k a
      if ltStretchDue s k on then
        State.modElem k (fun e => { e with
          active := a, periods := e.periods + 1, pulse := 40000, stretched := true,
          debt := e.debt + (40000 - on) }) (State.setFlag (LC_STAT k) LC_STAT_STRETCHED true s)
      else
        let total := on + e.carry
        let r := if total < min then (0, e.debt) else repay e.debt total min
        let t := State.modElem k (fun e => { e with
          active := a, periods := e.periods + 1, stretched := false,
          carry := (if total < min then total else 0), pulse := r.1, debt := r.2 }) s
        if k < 48 ∧ 40000 ≤ on then State.setFlag (LC_STAT k) LC_STAT_STRETCHED false t else t

/-- A PWM period of an element starts (R99, R100, R205): elements 0 to 95 are the high-side channels, 96 to 143 the
sinks, 144 to 147 the backlights. -/
def periodStart (e : Nat) (s : State) : State :=
  if e < 96 then pavPeriodStart (govern s e) s else ltPeriodStart (e - 96) s

/-- PWM_PERIOD_START (R99, R100, R205). -/
def execPwmPeriodStart (element : Fin 148) (s : State) : Host.Outcome State Fault Refusal :=
  finish s (periodStart element s)

end Sys2Proof.Machine
end

