-- ==== Sys2Proof/Machine/Meas.lean ====
section
/-! DEFINITION. The meanings of the measurement and harness-health commands (R125 to R144). -/

namespace Sys2Proof.Machine

/-- An on-state burst of channel `g` completes (R128, R129), in an on-time that holds it and in slots of its own (R127). -/
def onstateBurst (g i v : Nat) (s : State) : State :=
  let k := burstSpan s (g / 16) (slotNow s)
  if s.flag (MEAS_DCFG g) MEAS_DCFG_DIAG_EN && pavLive s g && measRuns s g && burstFits s g k && slotsOwn s (g / 16) k then
    burst g i v s
  else s

/-- ONSTATE_BURST_COMPLETE (R129, R130, R134): means `i` and `v` in LSB. -/
def execOnstateBurstComplete (ch : Fin 96) (i v : Nat) (s : State) : Host.Outcome State Fault Refusal :=
  finish s (onstateBurst (govern s ch) i v s)

/-- An off-state test of channel `g` ends (R131, R132): in OFF, or in a PWM off-time that holds it. -/
def offstateTest (g va vb : Nat) (s : State) : State :=
  if s.flag (MEAS_DCFG g) MEAS_DCFG_OFF_EN && offAllowed s g && measRuns s g &&
      (offLong s g || offTimeFits s g) then offTest g va vb s
  else s

/-- OFFSTATE_TEST_COMPLETE (R131): the output stood at `va` mV after phase A and `vb` mV after phase B. -/
def execOffstateTestComplete (ch : Fin 96) (va vb : Nat) (s : State) : Host.Outcome State Fault Refusal :=
  finish s (offstateTest (govern s ch) va vb s)

/-- The output voltage after an OCL or HLIM latch of channel `g` (R133). -/
def latchCapture (g v : Nat) (s : State) : State :=
  if (s.chan g).capture && measRuns s g then latchSample g v s else s

/-- LATCH_CAPTURE (R133): the output stood at `v` in 16 mV units. -/
def execLatchCapture (ch : Fin 96) (v : Nat) (s : State) : Host.Outcome State Fault Refusal :=
  finish s (latchCapture (govern s ch) v s)

/-- DIAG_STRETCH (R135, R136): a stretched period kept the output on for `ns`. -/
def execDiagStretch (ch : Fin 96) (ns : Nat) (s : State) : Host.Outcome State Fault Refusal :=
  finish s (stretch (govern s ch) ns s)

/-- A background slot of Pavilion `b` samples channel `k` (R127, R138): a slot that goes to background, and the next
eligible channel in round-robin order; BG_PTR moves on when the sample completes. -/
def backgroundSample (b k i v ready : Nat) (s : State) : State :=
  let g := 16 * b + k
  if bgMay s b && measRuns s g && hhNext s b ready == some k && hhEligible s g i then
    let t := takeBg b (State.setFld (MEAS_ARB b) MEAS_ARB_BG_PTR ((k + 1) % 16) s)
    State.modMch g (fun x => { x with
      sumVI := x.sumVI + v * i, sumII := x.sumII + i * i, count := x.count + 1 }) t
  else s

/-- BACKGROUND_SAMPLE (R138): the sample pair `i` and `v` in LSB; `ready`: the channels whose output has been at 90 % of
its swing for 31 µs with a current at or above HH_IMIN. -/
def execBackgroundSample (b : Fin 6) (k : Fin 16) (i v : Nat) (ready : BitVec 16) (s : State) :
    Host.Outcome State Fault Refusal :=
  finish s (backgroundSample b k i v ready.toNat s)

/-- A die sends the sums of its two Pavilions (R138); while it finds the Lodge silent it goes on adding
(R143). -/
def hhBatchSend (d : Nat) (s : State) : State :=
  if dieReports s d then
    (List.range 96).foldl (fun t g => if dieOfPav (g / 16) = d then sendBatch g t else t) s
  else s

/-- HH_BATCH_SEND (R138). -/
def execHhBatchSend (die : Fin 3) (s : State) : Host.Outcome State Fault Refusal :=
  finish s (hhBatchSend die s)

/-- HH_BATCH_ARRIVAL (R139): the oldest batch of the channel on its way arrives. -/
def execHhBatchArrival (ch : Fin 96) (s : State) : Host.Outcome State Fault Refusal :=
  finish s (batchArrives (govern s ch) s)

/-- TREND_DAY_CLOSE (R140 to R142): 24 h of waterway time after the day opened. -/
def execTrendDayClose (s : State) : Host.Outcome State Fault Refusal :=
  finish s (if dayOver s then closeDay s else s)

/-- TREND_FLUSH (R143). -/
def execTrendFlush (s : State) : Host.Outcome State Fault Refusal := finish s (flushTrend s)

end Sys2Proof.Machine
end

