-- ==== Sys2Proof/Machine/Power.lean ====
section
/-! DEFINITION. The commands of the power states (R338 to R353). -/

namespace Sys2Proof.Machine

/-- The target of the transition in progress. -/
def powTarget (s : State) : Nat := s.fld POWER_STAT POWER_STAT_TARGET

/-- A CAN frame still on the bus at the handshake ends with an error flag, counted and not sent again
(R391). -/
def endCanFrame (c : Nat) (s : State) : State :=
  match (s.can c).frozen with
  | some (n, _) =>
    raiseEv 170 c (endFrame c n true none
      (setErrCounts c (s.fld (CAN_ERR c) CAN_ERR_TEC + 8) (s.fld (CAN_ERR c) CAN_ERR_REC) s))
  | none => s

/-- Steps 1 to 4 of an entry (R345, R391): the trend day closes, Keepers halt, what the low-power state would
lose is saved, and the transceivers stand by. -/
def lowPowerEntry (s : State) : State :=
  let t := haltAfterL (closeDay s)
  let t := flushTrend (flushAllCounts (saveGains (savePositions t)))
  let t := if powTarget s = 2 then writeWarmRecord t
    else { t with start := { t.start with warmValid := false } }
  let t := (List.range 8).foldl (fun t c => endCanFrame c t) t
  let t := xcvAll 1 (powTarget s) t
  { t with pow := { t.pow with stage := 1 } }

/-- LOW_POWER_ENTRY (R345, R391). -/
def execLowPowerEntry (s : State) : Host.Outcome State Fault Refusal :=
  finish s (if entering s ∧ s.pow.stage = 0 then lowPowerEntry s else s)

/-- HOLDOFF in ns (R390). -/
def holdoffTime (s : State) : Nat := clampN 0 1440 (s.fld NETPM_AWAKE NETPM_AWAKE_HOLDOFF) * 60000000000

/-- The hold-off window opens at the commit point of an enforced entry (R390). -/
def openHoldoff (s : State) : State :=
  if s.net.enforced ∧ powTarget s = 3 ∧ holdoffTime s ≠ 0 then
    let t := State.setFlag NETPM_STAT NETPM_STAT_HOLDOFF_ACT true s
    { t with net := { t.net with holdEnd := some (s.now + holdoffTime s) } }
  else s

/-- The Harbour reads the first moor frame (R344, R345, R392): every die accepts its moor frame, and the
transceivers go to Sleep. -/
def commitPoint (s : State) : State :=
  let t := openHoldoff (moorAll (decide (powTarget s = 3)) s)
  let t := xcvAll 0 (powTarget s) t
  { t with pow := { t.pow with stage := 2, commitAt := s.now } }

/-- COMMIT_POINT (R344). -/
def execCommitPoint (s : State) : Host.Outcome State Fault Refusal :=
  finish s (if entering s ∧ s.pow.stage = 1 then commitPoint s else s)

/-- Berthed is reached (R345, R346). -/
def reachBerthed (s : State) : State :=
  let t := State.setFld POWER_STAT POWER_STAT_STATE 3 (State.incFld POWER_CNT POWER_CNT_BERTH_CNT (dropCommands s))
  lateEv 247 3 { t with
    pow := { t.pow with entered := s.now },
    inputs := if lowPower s then t.inputs else Tab.map {} (Input.sleep s.now) t.inputs }

/-- Moored is reached (R345). -/
def reachMoored (s : State) : State :=
  let t := State.setFld POWER_STAT POWER_STAT_STATE 2 (State.incFld POWER_CNT POWER_CNT_MOOR_CNT s)
  lateEv 247 2 { t with
    pow := { t.pow with entered := s.now }, inputs := Tab.map {} (Input.sleep s.now) t.inputs }

/-- What the Harbour finds when the low-power state is reached (R341, R344, R351): a latched wake wins; a
pending request for Run or Idle wakes the module; one for Berthed in Moored stays for its own step; another
is dropped. -/
def reached (pend : Option Nat) (s : State) : State :=
  match s.pow.latched, pend with
  | some (k, i), some _ => doWake k i s.pow.latchedMulti (lateEv 249 0xFFFF s)
  | some (k, i), none => doWake k i s.pow.latchedMulti s
  | none, none => s
  | none, some st =>
    if st < 2 then doWake 8 st false s
    else if st = 3 ∧ powState s = 2 then
      State.setFlag POWER_STAT POWER_STAT_PEND true (State.setFld POWER_STAT POWER_STAT_PEND_TGT 3 s)
    else lateEv 249 st s

/-- Steps 6 and 7 of an entry (R74, R339, R345): the Lodge goes off and the reservoir is HELD, one in FAULT too, which
runs again at the wake (log entry 68). -/
def lodgePowerDown (s : State) : State :=
  let target := powTarget s
  let p := takePending s
  let t := dropSram (fun b => decide (target = 2) && retained s b) (lodgeReset p.2)
  let t := resTo resHeld t
  reached p.1 (if target = 2 then reachMoored t else reachBerthed t)

/-- LODGE_POWER_DOWN (R345). -/
def execLodgePowerDown (s : State) : Host.Outcome State Fault Refusal :=
  finishMem s (if entering s ∧ s.pow.stage = 2 then lodgePowerDown s else s)

/-- From Moored to Berthed on the Harbour alone (R341, R346): kept channels turn off, the decoders of channels
that PN_BERTH does not name are released. -/
def mooredToBerthed (s : State) : State :=
  let t := xcvAll 0 3 (fadeKept (turnKeptOff (takePending s).2))
  reachBerthed (dropSram (fun _ => false) { t with start := { t.start with warmValid := false } })

/-- MOORED_TO_BERTHED (R341, R346). -/
def execMooredToBerthed (s : State) : Host.Outcome State Fault Refusal :=
  finishMem s (if powState s = 2 ∧ (takePending s).1 = some 3 then mooredToBerthed s else s)

/-- The transceiver whose wake a source of `kind` with `index` is (R347). -/
def wakeXcv (kind index : Nat) : Option Nat :=
  if (kind = 2 ∨ kind = 3) ∧ index < 6 then some index
  else if kind = 4 ∧ index < 12 then some (6 + index)
  else none

/-- A wake reaches the Harbour (R347): a transceiver's sets WKF as well (R385); a CAN wake may be suppressed, and a pattern
does not wake a channel in selective wake (R384). -/
def wakeArrives (kind index : Nat) (multi : Bool) (s : State) : State :=
  if !canBeWoken s || !wakeListed s kind index || kind == 8 then s
  else if kind = 2 ∧ selectiveOn s index then s
  else match wakeXcv kind index with
    | some t => xcvWakeIn t kind multi s
    | none => if kind = 2 ∨ kind = 3 ∨ kind = 4 then s else wakeEvent kind index multi s

/-- ENTRY_ABORT (R344, R392): a wake of a listed kind before the commit point. -/
def execEntryAbort (kind : Fin 16) (index : Nat) (s : State) : Host.Outcome State Fault Refusal :=
  finish s (if entering s ∧ s.pow.stage < 2 ∧ kind.val ≠ 8 then wakeArrives kind index false s else s)

/-- WAKE (R347, R348, R390). -/
def execWake (kind : Fin 16) (index : Nat) (multi : Bool) (s : State) : Host.Outcome State Fault Refusal :=
  finish s (wakeArrives kind index multi s)

/-- WAKE_TIMER (R347): WAKE_TMR seconds after entry. -/
def execWakeTimer (s : State) : Host.Outcome State Fault Refusal :=
  let n := s.fld POWER_CFG POWER_CFG_WAKE_TMR
  finish s (if (lowPower s ∨ wokenNow s) ∧ n ≠ 0 ∧ s.pow.entered + n * 1000000000 ≤ s.now then wakeEvent 7 0 false s else s)

/-- POWER_BARGE_RECEIVE (R343, R409): for an acknowledgement `origin` is the module that sent it. -/
def execPowerBargeReceive (state reqId origin apply : Nat) (s : State) : Host.Outcome State Fault Refusal :=
  finish s (powerArrives origin state reqId origin apply s)

/-- POWER_APPLY_TIME (R341, R343). -/
def execPowerApplyTime (s : State) : Host.Outcome State Fault Refusal := finish s (applyDue s)

/-- POWER_ACK_TIMEOUT (R343): each module that has not acknowledged 5 ms after the send is recorded by address. -/
def execPowerAckTimeout (s : State) : Host.Outcome State Fault Refusal :=
  finish s ((s.pow.ackWait.filter (fun a => decide (a.2.2 ≤ s.now))).foldl (fun t a => raiseEvRec 251 a.1 [a.1] t)
    { s with pow := { s.pow with ackWait := s.pow.ackWait.filter (fun a => decide (s.now < a.2.2)) } })

/-- DOMAIN_ISOLATION_REQUEST (R349): new transfers are barred, those in flight drain. -/
def execDomainIsolationRequest (dom : Fin 32) (inFlight : Nat) (s : State) :
    Host.Outcome State Fault Refusal :=
  finish s (if domGoing s dom ∧ (s.dom dom).isolated = false then
      State.modDom dom (fun x => { x with
        barred := true, start := if x.barred then x.start else s.now, inFlight := inFlight,
        isolated := decide (inFlight = 0), upAt := none }) s
    else s)

/-- DOMAIN_DRAINED (R349, R351): the last transfer completes inside the window. -/
def execDomainDrained (dom : Fin 32) (s : State) : Host.Outcome State Fault Refusal :=
  let x := s.dom dom
  finish s (if x.barred ∧ x.isolated = false ∧ x.upAt = none ∧ s.now < x.start + 50000 then
      State.modDom dom (fun x => { x with inFlight := 0, isolated := true }) s
    else s)

end Sys2Proof.Machine
end

