-- ==== Sys2Proof/Machine/Sluice.lean ====
section
/-! DEFINITION. The meanings of the valve commands (R148 to R176). -/

namespace Sys2Proof.Machine

/-- PEAK_GRANT (R159, R80): the sequencer slot of bank `b`, VRES standing at `vres` mV. -/
def execPeakGrant (b : Fin 4) (vres : Nat) (s : State) : Host.Outcome State Fault Refusal :=
  finish s (peakSlot b vres (seeRes vres s))

/-- The deferral window of a bounded request that waits has reached its end tick (R160). -/
def deferOver (s : State) (v : Nat) : Bool :=
  match (s.valve v).request with
  | some r => (s.valve v).bounded && !(s.valve v).fresh && decide (r + deferTime s v ≤ s.now)
  | none => false

/-- PEAK_REQUEST_REFUSED (R160). -/
def execPeakRequestRefused (v : Fin 24) (s : State) : Host.Outcome State Fault Refusal :=
  finish s (if deferOver s v then refusePeak v s else s)

/-- The peak of valve `v` ends and HOLD follows (R155, R159). -/
def peakEnds (v : Nat) (s : State) : State :=
  if sluState s v = sluPeak ∧ (s.valve v).peakEnd ≤ s.now then setSluState v sluHold (releasePeak v s) else s

/-- PEAK_END (R155). -/
def execPeakEnd (v : Fin 24) (s : State) : Host.Outcome State Fault Refusal := finish s (peakEnds v s)

/-- SLU_CMD_WRITE (R153, R154, R163): the Arbour applies word `w` to SLU_CMD of the valve from master
`m`. -/
def execSluCmdWrite (m : Sender) (v : Fin 24) (w : Word) (s : State) : Host.Outcome State Fault Refusal :=
  finish s (applyCommand m.same m.code (0x100 + v) w s)

/-- SLU_CLR (R160, R173): a SLU_CMD write that carries CLR with the present ON and SETPT. -/
def execSluClr (m : Sender) (v : Fin 24) (s : State) : Host.Outcome State Fault Refusal :=
  finish s (applyCommand m.same m.code (0x100 + v) (fput SLU_CMD_CLR 1 (s.reg (SLU_CMD v))) s)

/-- A decay that runs into VRES has recovered `mj` mJ (R164). -/
def countDecay (v mj : Nat) (s : State) : State := if (s.valve v).decayFast then addErec v mj s else s

/-- DECAY_SAFE_POINT (R162 to R164): the coil current is `ma` mA; a fast decay has recovered `mj` mJ. -/
def execDecaySafePoint (v : Fin 24) (ma mj : Nat) (s : State) : Host.Outcome State Fault Refusal :=
  finish s (if sluState s v = sluDecay ∧ ma < 50 then safePoint v (countDecay v mj s) else s)

/-- Longest decay in ns (R162). -/
def decayLimit : Nat := 50000000

/-- DECAY_TIMEOUT (R162): 50 ms after the decay began it counts as done; EV061. -/
def execDecayTimeout (v : Fin 24) (mj : Nat) (s : State) : Host.Outcome State Fault Refusal :=
  finish s (if sluState s v = sluDecay ∧ (s.valve v).decayStart + decayLimit ≤ s.now then
      safePoint v (dieEv 3 61 v (countDecay v mj s))
    else s)

/-- A fast decay meets VRES at `vres` and its bank node at `vbnk` mV (R162): below VBNK + 10 V it moves to
the clamp, what it recovered being counted; above VBNK + 12 V it returns. -/
def decaySwitch (v vres vbnk mj : Nat) (s : State) : State :=
  let d := s.fld (SLU_CFG v) SLU_CFG_DECAY
  if sluState s v = sluDecay ∧ (d = 0 ∨ d = 3) then
    if (s.valve v).decayFast then
      if vres < vbnk + 10000 then decayToClamp v mj s else s
    else if vbnk + 12000 < vres ∧ s.sup.diverted = false then
      State.modValve v (fun x => { x with decayFast := true }) s
    else s
  else s

/-- DECAY_PATH_SWITCH (R162, R164). -/
def execDecayPathSwitch (v : Fin 24) (vres vbnk mj : Nat) (s : State) : Host.Outcome State Fault Refusal :=
  finish s (decaySwitch v vres vbnk mj (seeRes vres s))

/-- The kink window of valve `v` is open now (R165). -/
def kinkOpen (s : State) (v : Nat) : Bool :=
  sluState s v == sluPeak && (s.valve v).watching && decide (kinkStart s v ≤ s.now ∧ s.now < kinkEnd s v)

/-- KINK_SAMPLE (R165 to R167): a sample `x` of current in mA, or of duty in 0.5 %. -/
def execKinkSample (v : Fin 24) (x : Nat) (s : State) : Host.Outcome State Fault Refusal :=
  finish s (if kinkOpen s v then kinkStep v x s else s)

/-- KINK_WINDOW_CLOSE (R167). -/
def execKinkWindowClose (v : Fin 24) (s : State) : Host.Outcome State Fault Refusal :=
  finish s (if sluState s v = sluPeak ∧ kinkEnd s v ≤ s.now then closeKink v s else s)

/-- The loop of a live valve has stood at `duty` percent with `ma` mA for `dur` ns (R152). -/
def loopSaturates (v duty ma dur : Nat) (s : State) : State :=
  if !sluLive s v then s
  else if 100 ≤ duty ∧ ma * 100 < sluTarget s v * 90 ∧ 5000000 ≤ dur then
    if s.flag (SLU_STAT v) SLU_STAT_SAT then s else dieEv 3 52 v (State.setFlag (SLU_STAT v) SLU_STAT_SAT true s)
  else State.setFlag (SLU_STAT v) SLU_STAT_SAT false s

/-- LOOP_SATURATION (R152). -/
def execLoopSaturation (v : Fin 24) (duty ma dur : Nat) (s : State) : Host.Outcome State Fault Refusal :=
  finish s (loopSaturates v duty ma dur s)

/-- A check of the current of valve `v` falls due (R168): the first 2 ms after the driver turned on, later
ones in HOLD and PROP. -/
def openCheckDue (s : State) (v : Nat) : Bool :=
  s.flag (SLU_DCFG v) SLU_DCFG_ON_EN && sluLive s v &&
  (if (s.valve v).checked then sluState s v != sluPeak else decide ((s.valve v).onTime + 2000000 ≤ s.now)) &&
  !(sluState s v == sluProp && decide (sluSetpt s v < 100))

/-- A turn-on that has run for 10 ms without an over-current latch returns the shorts to OK (R172). -/
def shortsOk (v : Nat) (s : State) : State :=
  let c := s.fld (SLU_STAT v) SLU_STAT_CODE
  if sluLive s v ∧ (c = 3 ∨ c = 4) ∧ (s.valve v).onTime + 10000000 ≤ s.now then
    State.setFld (SLU_STAT v) SLU_STAT_CODE 0 s
  else s

/-- A check of valve `v` at `ma` mA (R168, R172). -/
def openCheck (v ma : Nat) (s : State) : State :=
  if openCheckDue s v then
    let t := State.modValve v (fun x => { x with checked := true }) s
    if ma * 10 < sluTarget s v then
      let n := (s.valve v).olCount + 1
      let t := State.modValve v (fun x => { x with
        olCount := n, goodCount := if x.codeBy = 0 then 0 else x.goodCount }) t
      if valveConfirms s v n 1 then valveCode v 1 0 t else t
    else valveGood v 0 (State.modValve v (fun x => { x with olCount := 0 }) t)
  else s

/-- VALVE_OPEN_CHECK (R168, R172). -/
def execValveOpenCheck (v : Fin 24) (ma : Nat) (s : State) : Host.Outcome State Fault Refusal :=
  finish s (openCheck v ma (shortsOk v s))

/-- The low-side driver of valve `v` has carried `ma` mA for `dur` ns while the bank current rose by `rise`
mA (R169); a valve that began to decay in this very instant latches too (R27). -/
def valveOcLatch (v ma rise dur : Nat) (s : State) : State :=
  if (sluLive s v || (sluState s v == sluDecay && (s.valve v).decayStart == s.now)) ∧ 6000 ≤ ma ∧ 2000 ≤ dur then
    valveLatch v (valveCode v (if ma ≤ 2 * rise then 4 else 3) 2
      (State.setFlag (SLU_STAT v) SLU_STAT_OCL true s))
  else s

/-- VALVE_OC_LATCH (R169). -/
def execValveOcLatch (v : Fin 24) (ma rise dur : Nat) (s : State) : Host.Outcome State Fault Refusal :=
  finish s (valveOcLatch v ma rise dur s)

/-- The bank current has been `ib` mA and the sum of the low-side currents `sum` mA for `dur` ns (R170);
FLT14 to FLT17 (R436). -/
def bankImbalance (b ib sum dur : Nat) (s : State) : State :=
  if bankClosed s b ∧ sum + 300 ≤ ib ∧ 100000 ≤ dur then
    let t := dieEv 3 59 b (State.setFlag (SLU_BSTAT b) SLU_BSTAT_LEAK true s)
    if s.flag (SLU_BANK b) SLU_BANK_BAL_ACT then bankLatch b t else dieFault 3 (14 + b) t
  else s

/-- BANK_IMBALANCE (R170). -/
def execBankImbalance (b : Fin 4) (ib sum dur : Nat) (s : State) : Host.Outcome State Fault Refusal :=
  finish s (bankImbalance b ib sum dur s)

/-- The CODE that an off-state test comes to (R171): on a live bank against VBNK / 2, on a dead one against
2.0 and 6.0 V. -/
def offStateCode (live leak : Bool) (pin vbnk : Nat) : Nat :=
  if live then (if vbnk ≤ 2 * pin then 0 else if leak then 2 else 1)
  else if pin < 2000 then 0 else if pin ≤ 6000 then 1 else 3

/-- An off-state result of valve `v` (R171, R172). -/
def offStateResult (v code : Nat) (s : State) : State :=
  if code = 0 then valveGood v 1 (State.modValve v (fun x => { x with offKind := 0, offCount := 0 }) s)
  else
    let x := s.valve v
    let n := if x.offKind = code then x.offCount + 1 else 1
    let t := State.modValve v (fun x => { x with
      offKind := code, offCount := n, goodCount := if x.codeBy = 1 then 0 else x.goodCount }) s
    if valveConfirms s v n code then valveCode v code 1 t else t

/-- An off-state test of valve `v` ends with its pin at `pin` and the bank node at `vbnk` mV (R171). -/
def offStateTest (v pin vbnk : Nat) (s : State) : State :=
  let b := bankOfValve v
  let live := bankClosed s b
  if s.flag (SLU_DCFG v) SLU_DCFG_OFF_EN && (sluState s v == sluOff || sluState s v == sluDefer) &&
      !(s.bank (6 + b)).moored then
    if !live ∧ 2000 ≤ vbnk then
      if s.flag (SLU_BSTAT b) SLU_BSTAT_BNODE_HI then s
      else dieEv 3 55 0xFFFF (State.setFlag (SLU_BSTAT b) SLU_BSTAT_BNODE_HI true s)
    else
      offStateResult v (offStateCode live (s.flag (SLU_BSTAT b) SLU_BSTAT_LEAK) pin vbnk)
        (State.setFlag (SLU_BSTAT b) SLU_BSTAT_BNODE_HI false s)
  else s

/-- VALVE_OFFSTATE_TEST (R171). -/
def execValveOffstateTest (v : Fin 24) (pin vbnk : Nat) (s : State) : Host.Outcome State Fault Refusal :=
  finish s (offStateTest v pin vbnk s)

/-- TJ of valve `v` in the code of SLU_STAT: degrees plus 55 (R178). -/
def putValveTj (v : Nat) (tj : Int) (s : State) : State :=
  State.setFld (SLU_STAT v) SLU_STAT_TJ (clampN 0 255 (tj + 55).toNat) s

/-- The driver of valve `v` has reached 170 °C (R173). -/
def valveThermal (v : Nat) (tj : Int) (s : State) : State :=
  let t := putValveTj v tj s
  if 170 ≤ tj ∧ s.flag (SLU_STAT v) SLU_STAT_VETO_T = false then
    valveLatch v (dieEv 3 57 v
      (State.setFlag (SLU_STAT v) SLU_STAT_VETO_T true (State.setFlag (SLU_STAT v) SLU_STAT_THERM true t)))
  else t

/-- VALVE_THERMAL_LATCH (R173). -/
def execValveThermalLatch (v : Fin 24) (tj : Int) (s : State) : Host.Outcome State Fault Refusal :=
  finish s (valveThermal v tj s)

/-- The driver of valve `v` is below 145 °C (R173): a VETOED valve whose demand is on turns on. -/
def valveVetoClear (v : Nat) (tj : Int) (s : State) : State :=
  let t := putValveTj v tj s
  if tj < 145 ∧ s.flag (SLU_STAT v) SLU_STAT_VETO_T then
    let t := State.setFlag (SLU_STAT v) SLU_STAT_VETO_T false t
    if sluState t v = sluVetoed then
      if sluDemand t v then valveTurnOn v true (setSluState v sluOff t) else valveToOff v t
    else t
  else t

/-- VALVE_VETO_CLEAR (R173). -/
def execValveVetoClear (v : Fin 24) (tj : Int) (s : State) : Host.Outcome State Fault Refusal :=
  finish s (valveVetoClear v tj s)

/-- The bank switch of bank `b` meets its over-current filter, `ma` mA for `dur` ns, or its temperature `t`
(R150): below 145 °C the thermal veto ends. -/
def bankSwitchLatch (b : Nat) (therm : Bool) (ma dur : Nat) (t : Int) (s : State) : State :=
  if therm then
    if t < 145 then State.setFlag (SLU_BSTAT b) SLU_BSTAT_BSW_VETO false s
    else if 170 ≤ t ∧ s.flag (SLU_BSTAT b) SLU_BSTAT_BSW_VETO = false then
      let u := State.setFlag (SLU_BSTAT b) SLU_BSTAT_BSW_VETO true
        (State.setFlag (SLU_BSTAT b) SLU_BSTAT_BSW_THERM true s)
      if bswLatched u b then u else bankLatch b u
    else s
  else if 18000 ≤ ma ∧ 10000 ≤ dur ∧ bankClosed s b then
    bankLatch b (State.setFlag (SLU_BSTAT b) SLU_BSTAT_BSW_OCL true s)
  else s

/-- BANK_SWITCH_LATCH (R150). -/
def execBankSwitchLatch (b : Fin 4) (therm : Bool) (ma dur : Nat) (t : Int) (s : State) :
    Host.Outcome State Fault Refusal :=
  finish s (bankSwitchLatch b therm ma dur t s)

end Sys2Proof.Machine
end

