-- ==== Sys2Proof/Machine/Start.lean ====
section
/-! DEFINITION. The commands of starting, of checks and of discovery (R322 to R336, R412 to R416). -/

namespace Sys2Proof.Machine

/-- COLD_START (R330): the Lodge leaves reset, and the start is not warm (R329). -/
def execColdStart (fw : FwSeen) (s : State) : Host.Outcome State Fault Refusal :=
  finishMem s (if mayStart s && !(s.start.warmNext && s.start.warmValid) &&
      (s.start.lodgeDown || startState s == 1) then coldStart fw s else s)

/-- WARM_START (R331): the Lodge leaves reset after a run whose warm record is valid (R329); `topo` is the topology
digest that every neighbour reports. -/
def execWarmStart (fw : FwSeen) (topo : Option Word) (s : State) : Host.Outcome State Fault Refusal :=
  finishMem s (if mayStart s && s.start.warmNext && s.start.warmValid && s.start.lodgeDown then warmStart fw topo s
    else s)

/-- START_CLAIM_WAIT_END (R75, R330, R333). -/
def execStartClaimWaitEnd (s : State) : Host.Outcome State Fault Refusal := finish s (claimAll s)

/-- CLAIM_FRAME (R30, R119, R330, R333): a bank reads a claim frame. -/
def execClaimFrame (bank : Fin 15) (s : State) : Host.Outcome State Fault Refusal :=
  finish s (claimsMade (claimOne bank s))

/-- START_TIMEOUT (R334): 2 s after the trigger. -/
def execStartTimeout (s : State) : Host.Outcome State Fault Refusal := finish s (startExpired s)

/-- CHECK_COMPLETE (R322, R324, R332). -/
def execCheckComplete (flash : Fin 3) (s : State) : Host.Outcome State Fault Refusal :=
  finishHost s (checkAtStart flash s)

/-- DISCOVERY (R412): the next step of a cold discovery. -/
def execDiscovery (s : State) : Host.Outcome State Fault Refusal := finish s (discover s)

/-- WATERWAY_JOIN (R415). -/
def execWaterwayJoin (s : State) : Host.Outcome State Fault Refusal := finish s (joinWaterway s)

end Sys2Proof.Machine
end

