-- ==== Sys2Proof/Machine/Supply.lean ====
section
/-! DEFINITION. The meanings of the supply commands (R69 to R90). -/

namespace Sys2Proof.Machine

/-- VBAT has passed a band threshold for the filter window (R69). -/
def vbatBandChange (mv dur : Nat) (s : State) : State :=
  let t := seeVolts mv s.sup.vres s
  bandTo (nextBand t mv dur) t

/-- VBAT_BAND_CHANGE (R69, R71, R72, R74): VBAT has stood at `mv` for `dur` ns. -/
def execVbatBandChange (mv dur : Nat) (s : State) : Host.Outcome State Fault Refusal :=
  finish s (vbatBandChange mv dur s)

/-- Reverse battery (R70): the gate goes off, REVERSE is set, and Dropout is entered without its filter. -/
def reverseDetected (mv : Int) (dur : Nat) (s : State) : State :=
  if mv < -300 ∧ 2000 ≤ dur ∧ !s.flag SUPPLY_STAT SUPPLY_STAT_RVACT then
    let t := State.setFlag SUPPLY_STAT SUPPLY_STAT_RVACT true
      (State.setFlag SUPPLY_STAT SUPPLY_STAT_REVERSE true { s with sup := { s.sup with gate := false } })
    bandTo 0 (dieFault 5 26 (dieEv 5 1 0xFFFF t))
  else s

/-- REVERSE_DETECTED (R70): BATT_SENSE has stood at `mv` for `dur` ns. -/
def execReverseDetected (mv : Int) (dur : Nat) (s : State) : Host.Outcome State Fault Refusal :=
  finish s (reverseDetected mv dur s)

/-- The gate is driven on again (R70). -/
def reverseCleared (mv : Int) (dur : Nat) (s : State) : State :=
  if 3000 < mv ∧ 50000 ≤ dur then
    State.setFlag SUPPLY_STAT SUPPLY_STAT_RVACT false { s with sup := { s.sup with gate := true } }
  else s

/-- REVERSE_CLEARED (R70): BATT_SENSE has stood at `mv` for `dur` ns. -/
def execReverseCleared (mv : Int) (dur : Nat) (s : State) : Host.Outcome State Fault Refusal :=
  finish s (reverseCleared mv dur s)

/-- LV has fallen: the Harbour asserts LRST, and the Lodge resets unless it stands in reset already (R73). In Moored and
Berthed LV is off (R338). -/
def lvUndervoltage (mv dur : Nat) (s : State) : State :=
  if mv < 4200 ∧ 2000 ≤ dur ∧ !lowPower s then
    let t := if s.start.lodgeDown then { s with lock := { s.lock with lrst := true, lrstSince := s.now } }
      else lodgeResetWarm s
    { t with sup := { t.sup with lvLow := true } }
  else s

/-- LV_UNDERVOLTAGE_RESET (R73): LV has stood at `mv` for `dur` ns. -/
def execLvUndervoltageReset (mv dur : Nat) (s : State) : Host.Outcome State Fault Refusal :=
  finish s (lvUndervoltage mv dur s)

/-- The Lodge leaves reset (R73): LRST is released, and the start that follows counts from now. -/
def lodgeRestart (mv dur : Nat) (s : State) : State :=
  if 4600 < mv ∧ 1000000 ≤ dur ∧ s.start.lodgeDown ∧ !lowPower s then
    let t := releaseLrst s
    { t with
      sup := { t.sup with lvLow := false }
      start := { t.start with trigger := s.now, resDone := decide (40000 < s.sup.vres) } }
  else s

/-- LODGE_RESTART (R73): LV has stood at `mv` for `dur` ns. -/
def execLodgeRestart (mv dur : Nat) (s : State) : Host.Outcome State Fault Refusal :=
  finish s (lodgeRestart mv dur s)

/-- RESERVOIR_LEVEL_CHANGE (R74): VRES stands at `vres` and VBAT at `vbat` mV. -/
def execReservoirLevelChange (vres vbat : Nat) (s : State) : Host.Outcome State Fault Refusal :=
  finish s (resLevel (seeVolts vbat vres s))

/-- PRECHARGE began at least `d` ns ago, and the reservoir has run since (R76). -/
def prechargeFor (s : State) (d : Nat) : Bool :=
  match s.sup.prechargeStart with
  | some b => decide (b + d ≤ s.now)
  | none => false

/-- VRES is read during precharge (R76): below 2 V 5 ms after precharge began the reservoir fails. -/
def reservoirShort (vres : Nat) (s : State) : State :=
  let t := seeRes vres s
  if prechargeFor t 5000000 ∧ t.sup.vresTop < 2000 then resFails SUPPLY_RES_STAT_SHORT t else t

/-- RESERVOIR_SHORT (R76). -/
def execReservoirShort (vres : Nat) (s : State) : Host.Outcome State Fault Refusal :=
  finish s (reservoirShort vres s)

/-- VRES has not reached 40 V within 400 ms after precharge began (R76). -/
def reservoirTimeout (vres : Nat) (s : State) : State :=
  let t := seeRes vres s
  if prechargeFor t 400000000 ∧ t.sup.vresTop < 40000 then resFails SUPPLY_RES_STAT_TIMEOUT t else t

/-- RESERVOIR_TIMEOUT (R76). -/
def execReservoirTimeout (vres : Nat) (s : State) : Host.Outcome State Fault Refusal :=
  finish s (reservoirTimeout vres s)

/-- The capacitance of a charge of `charge` µC taken from 40 V to 64 V, in 10 µF units, held to the field
(R77). -/
def capOf (charge : Nat) : Nat := clampN 0 1023 (charge / 240)

/-- The estimate of a cold start (R77): a VRES_TGT below 64 V leaves CAP_EST as it is. -/
def capEstimate (charge : Nat) (s : State) : State :=
  if vresTarget s < 64000 ∨ s.flag CHECK_START CHECK_START_KIND then s
  else
    let c := capOf charge
    let t := State.setFld SUPPLY_RES_STAT SUPPLY_RES_STAT_CAP_EST c s
    if c * 10 < s.fld SUPPLY_RES_CFG2 SUPPLY_RES_CFG2_DECL_CAP * 7 then
      dieFault 5 27 (dieEv 5 10 0xFFFF (State.setFlag SUPPLY_RES_STAT SUPPLY_RES_STAT_CAP_LOW true t))
    else t

/-- CAP_ESTIMATE (R77): the boost output charge from 40 to 64 V was `charge` µC. -/
def execCapEstimate (charge : Nat) (s : State) : Host.Outcome State Fault Refusal :=
  finish s (capEstimate charge s)

/-- Every decay that runs into VRES moves to the local clamp (R81, R164); entry v of `mj` is what the decay of valve v has
recovered, in mJ. -/
def decaysOff (mj : List Nat) (s : State) : State :=
  (List.range 24).foldl (fun t v => decayToClamp v (mj.getD v 0) t) s

/-- VRES has reached 76 V (R81): decays move to the clamp, OVP is set and EV008 raised. -/
def valveDecayDivert (vres : Nat) (mj : List Nat) (s : State) : State :=
  let t := seeRes vres s
  if 76000 ≤ vres ∧ !t.sup.diverted then
    dieEv 3 8 0xFFFF (State.setFlag SUPPLY_RES_STAT SUPPLY_RES_STAT_OVP true
      (decaysOff mj { t with sup := { t.sup with diverted := true } }))
  else t

/-- VALVE_DECAY_DIVERT (R81). -/
def execValveDecayDivert (vres : DivertSeen) (s : State) : Host.Outcome State Fault Refusal :=
  finish s (valveDecayDivert vres.mv vres.mj s)

/-- A decaying valve whose path leads into VRES again (R81, R162). -/
def decayBack (v : Nat) (s : State) : State :=
  if sluState s v = sluDecay ∧ fastPath s v then State.modValve v (fun x => { x with decayFast := true }) s
  else s

/-- VRES has been below 74 V for 100 µs (R81): decay paths return to VRES. -/
def valveDecayReturn (vres dur : Nat) (s : State) : State :=
  let t := seeRes vres s
  if vres < 74000 ∧ 100000 ≤ dur ∧ t.sup.diverted then
    (List.range 24).foldl (fun t v => decayBack v t) { t with sup := { t.sup with diverted := false } }
  else t

/-- VALVE_DECAY_RETURN (R81). -/
def execValveDecayReturn (vres dur : Nat) (s : State) : Host.Outcome State Fault Refusal :=
  finish s (valveDecayReturn vres dur s)

/-- LOAD_SHED (R82): VRES stands at `vres` mV. -/
def execLoadShed (load : Fin 10) (vres : Nat) (s : State) : Host.Outcome State Fault Refusal :=
  finish s (loadShed load vres s)

/-- A backlight returns from SHED with its 1 ms soft start (R217). -/
def blReturn (k : Nat) (s : State) : State :=
  if ltDemand s k then
    State.modElem k (fun e => { e.stop with onTime := s.now, soft := ltFade s k == 0 }) (setLtState k ltFadeIn s)
  else ltDark k ltOff s

/-- VRES has stood 6 V above the shed level for 1 ms (R82): the load restarts with soft start. -/
def shedRestart (load vres dur : Nat) (s : State) : State :=
  let t := seeRes vres s
  if shedLevel load t + 6000 ≤ vres ∧ 1000000 ≤ dur ∧ isShed load t then
    let t := markShed load false t
    if load < 6 then
      if (t.rail load).retryWaits && !(t.rail load).veto then railRetry load t
      else if railServing t && t.flag (CR_CFG load) CR_CFG_EN && !t.flag (CR_STAT load) CR_STAT_LATCHED then
        railDue load t
      else t
    else
      let k := 48 + (load - 6)
      if ltState t k = ltShed then blReturn k t else t
  else t

/-- SHED_RESTART (R82): VRES has stood at `vres` mV for `dur` ns. -/
def execShedRestart (load : Fin 10) (vres dur : Nat) (s : State) : Host.Outcome State Fault Refusal :=
  finish s (shedRestart load vres dur s)

/-- The output of rail `n` has finished its soft start (R84, R85). -/
def railStarted (s : State) (n : Nat) : Bool := railVset s n * 95 ≤ railNow s n * 100

/-- A rail protection filter has expired (R85): condition 0 over-current at `level` mA, 1 short at `level`
mV, 2 overvoltage at `level` mV, 3 thermal at `level` °C, which vetoes the restart of a rail that is off (log entry
68). -/
def cameraRailLatch (n cond level dur : Nat) (s : State) : State :=
  if s.flag (CR_STAT n) CR_STAT_ON then
    match cond with
    | 0 =>
      let t := State.setFld (CR_STAT n) CR_STAT_IOUT level s
      if railIlim s n ≤ level ∧ 2000000 ≤ dur then railLatch n CR_STAT_OC true false t else t
    | 1 =>
      if railStarted s n ∧ level * 2 < railVset s n ∧ 2000000 ≤ dur then
        railLatch n CR_STAT_SHORT true false s
      else s
    | 2 =>
      if railVset s n * 115 < level * 100 ∧ 10000 ≤ dur then railLatch n CR_STAT_OV false false s else s
    | _ => if 150 < level ∧ 10000 ≤ dur then railLatch n CR_STAT_THERM false true s else s
  else if cond = 3 ∧ 150 < level ∧ 10000 ≤ dur then State.modRail n (fun r => { r with veto := true }) s
  else s

/-- CAMERA_RAIL_LATCH (R85). -/
def execCameraRailLatch (n : Fin 6) (cond : Fin 4) (level dur : Nat) (s : State) :
    Host.Outcome State Fault Refusal :=
  finish s (cameraRailLatch n cond level dur s)

/-- The retry of rail `n` has come due (R86): the thermal veto holds it off, and a reservoir that cannot carry the rail
does (R76, R82). -/
def cameraRailRetry (n : Nat) (s : State) : State :=
  match (s.rail n).retryDue with
  | none => s
  | some d =>
    if d ≤ s.now then
      let t := State.modRail n (fun r => { r with retryDue := none }) s
      if (s.rail n).veto || s.flag (CR_STAT n) CR_STAT_SHED_V then
        State.modRail n (fun r => { r with retryWaits := true }) t
      else if !resCarries s then
        State.modRail n (fun r => { r with retryWaits := true }) (State.setFlag (CR_STAT n) CR_STAT_SHED_V true t)
      else railRetry n t
    else s

/-- CAMERA_RAIL_RETRY (R86). -/
def execCameraRailRetry (n : Fin 6) (s : State) : Host.Outcome State Fault Refusal :=
  finish s (cameraRailRetry n s)

/-- The rail that the power shed takes: the highest that is on with SHED = 1, else the highest that is on
(R87). -/
def powerShedRail (s : State) : Option Nat :=
  let on := (List.range 6).filter (fun n => s.flag (CR_STAT n) CR_STAT_ON)
  match (on.filter (fun n => s.flag (CR_CFG n) CR_CFG_SHED)).getLast? with
  | some n => some n
  | none => on.getLast?

/-- The present window of the power sum is 1 ms old at least (R87). -/
def sumWindow (s : State) : Bool :=
  match s.sup.sumFrom with
  | some b => decide (b + 1000000 ≤ s.now)
  | none => true

/-- The six-rail sum stands at `power` in 10 mW and has been above 48 W for `dur` ns (R87): a rail is shed, and a new
window begins. -/
def cameraRailPowerShed (power dur : Nat) (s : State) : State :=
  let t := State.setFld SUPPLY_CR_SUM SUPPLY_CR_SUM_PSUM (clampN 0 0xFFFF power) s
  if 4800 < power ∧ 1000000 ≤ dur ∧ sumWindow s then
    match powerShedRail t with
    | some n =>
      let t := railOff n (State.setFlag (CR_STAT n) CR_STAT_LATCHED true
        (State.setFlag (CR_STAT n) CR_STAT_SHED_P true t))
      dieEv 4 12 n { t with sup := { t.sup with sumFrom := some s.now } }
    | none => t
  else t

/-- CAMERA_RAIL_POWER_SHED (R87). -/
def execCameraRailPowerShed (power dur : Nat) (s : State) : Host.Outcome State Fault Refusal :=
  finish s (cameraRailPowerShed power dur s)

/-- TBASE_MAX in 0.1 °C. -/
def tbaseLimit (s : State) : Int := signed 8 (s.fld SUPPLY_TBASE SUPPLY_TBASE_TBASE_MAX) * 10

/-- TBASE_MAX has been written since the last cold start (R43, R90). -/
def tbaseWritten (s : State) : Bool := Tab.get s.wlSet false (32 * SUPPLY_TBASE + 0)

/-- The comparison of TS0 with TBASE_MAX (R90). -/
def tbaseCompare (t0 : Int) (s : State) : State :=
  if !tbaseWritten s then s
  else if s.sup.tbaseArmed ∧ tbaseLimit s < t0 then
    raiseFault 63 (raiseEv 14 0xFFFF { s with sup := { s.sup with tbaseArmed := false } })
  else if t0 ≤ tbaseLimit s - 20 then { s with sup := { s.sup with tbaseArmed := true } }
  else s

/-- TEMPERATURE_READ (R90): the six sensors read `t0` to `t5` in 0.1 °C. -/
def execTemperatureRead (t0 t1 t2 t3 t4 t5 : Int) (s : State) : Host.Outcome State Fault Refusal :=
  let put (k : Nat) (x : Int) (u : State) : State := State.setFld (SUPPLY_TEMP k) SUPPLY_TEMP_TEMP (twos 16 x) u
  finish s (tbaseCompare t0 (put 5 t5 (put 4 t4 (put 3 t3 (put 2 t2 (put 1 t1 (put 0 t0 s)))))))

/-- The sensor of rail `n` reads below 135 °C: the veto ends and what it held off goes on, at once or, where the rail
is shed at present, with the return of VRES (R82, R85, R86). -/
def cameraRailVetoClear (n : Nat) (t : Int) (s : State) : State :=
  if t < 135 ∧ (s.rail n).veto then
    let u := State.modRail n (fun r => { r with veto := false }) s
    if s.flag (CR_STAT n) CR_STAT_SHED_V then u
    else if !resCarries s then
      (if (s.rail n).retryWaits || (s.rail n).startWaits then State.setFlag (CR_STAT n) CR_STAT_SHED_V true u else u)
    else if (s.rail n).retryWaits then railRetry n u
    else if (s.rail n).startWaits then railStart n u
    else u
  else s

/-- CAMERA_RAIL_VETO_CLEAR (R85, R86). -/
def execCameraRailVetoClear (n : Fin 6) (t : Int) (s : State) : Host.Outcome State Fault Refusal :=
  finish s (cameraRailVetoClear n t s)

end Sys2Proof.Machine
end

