-- ==== Sys2Proof/Machine/Tiller.lean ====
section
/-! DEFINITION. The instructions of the Tiller engines (R276 to R301): each command stands for the fetch and issue of
one instruction word by engine `e`. -/

namespace Sys2Proof.Machine

/-! ### Arithmetic (R279, R280) -/

/-- 1 or 0. -/
def boolWord (b : Bool) : Word := if b then 1#32 else 0#32

/-- Signed quotient (R280): towards zero, 0 for a divisor of 0, saturated for 0x8000_0000 by -1. -/
def divS (a b : Word) : Word :=
  if b = 0#32 then 0#32 else if a = 0x80000000#32 ∧ b = 0xFFFFFFFF#32 then 0x7FFFFFFF#32
  else BitVec.ofInt 32 (Int.tdiv a.toInt b.toInt)

/-- Unsigned quotient, 0 for a divisor of 0 (R280). -/
def divU (a b : Word) : Word := BitVec.ofNat 32 (a.toNat / b.toNat)

/-- Signed remainder with the sign of the dividend, 0 for a divisor of 0 (R280). -/
def modS (a b : Word) : Word := if b = 0#32 then 0#32 else BitVec.ofInt 32 (Int.tmod a.toInt b.toInt)

/-- Unsigned remainder, 0 for a divisor of 0 (R280). -/
def modU (a b : Word) : Word := if b = 0#32 then 0#32 else BitVec.ofNat 32 (a.toNat % b.toNat)

/-- High half of a signed product (R280). -/
def mulHS (a b : Word) : Word := BitVec.ofInt 32 (a.toInt * b.toInt / 2 ^ 32)

/-- High half of an unsigned product (R280). -/
def mulHU (a b : Word) : Word := BitVec.ofNat 32 (a.toNat * b.toNat / 2 ^ 32)

/-- A shift by bits 4:0 of the amount: 0 left, 1 right with zero fill, 2 right with sign fill (R279, R280). -/
def shiftBy (kind : Nat) (a : Word) (n : Nat) : Word :=
  match kind with
  | 0 => a <<< (n % 32)
  | 1 => a >>> (n % 32)
  | _ => a.sshiftRight (n % 32)

/-- The signed order. -/
def ltS (a b : Word) : Bool := a.slt b

/-- The unsigned order. -/
def ltU (a b : Word) : Bool := a.ult b

/-- An instruction of format R with sub-code `sub` (R280). -/
def regAlu (e sub : Nat) (rd rs1 rs2 : Fin 32) (d : Nat) (f : Word → Word → Word) (s : State) : State :=
  aluOn e (encR sub rd rs1 rs2) rd d (fun g => f (g.x rs1) (g.x rs2)) s

/-- An instruction of format I with opcode `op` (R279). -/
def immAlu (e op : Nat) (rd rs1 : Fin 32) (imm : BitVec 16) (f : Word → Word) (s : State) : State :=
  aluOn e (encI op rd rs1 imm) rd 1 (fun g => f (g.x rs1)) s

/-- ADD (R280). -/
def execAdd (e : Fin 9) (rd rs1 rs2 : Fin 32) (s : State) : Host.Outcome State Fault Refusal :=
  finish s (regAlu e 0x000 rd rs1 rs2 1 (fun a b => a + b) s)

/-- SUB (R280). -/
def execSub (e : Fin 9) (rd rs1 rs2 : Fin 32) (s : State) : Host.Outcome State Fault Refusal :=
  finish s (regAlu e 0x001 rd rs1 rs2 1 (fun a b => a - b) s)

/-- AND (R280). -/
def execAnd (e : Fin 9) (rd rs1 rs2 : Fin 32) (s : State) : Host.Outcome State Fault Refusal :=
  finish s (regAlu e 0x004 rd rs1 rs2 1 (fun a b => a &&& b) s)

/-- OR (R280). -/
def execOr (e : Fin 9) (rd rs1 rs2 : Fin 32) (s : State) : Host.Outcome State Fault Refusal :=
  finish s (regAlu e 0x005 rd rs1 rs2 1 (fun a b => a ||| b) s)

/-- XOR (R280). -/
def execXor (e : Fin 9) (rd rs1 rs2 : Fin 32) (s : State) : Host.Outcome State Fault Refusal :=
  finish s (regAlu e 0x006 rd rs1 rs2 1 (fun a b => a ^^^ b) s)

/-- SHL (R280). -/
def execShl (e : Fin 9) (rd rs1 rs2 : Fin 32) (s : State) : Host.Outcome State Fault Refusal :=
  finish s (regAlu e 0x008 rd rs1 rs2 1 (fun a b => shiftBy 0 a b.toNat) s)

/-- SHR (R280). -/
def execShr (e : Fin 9) (rd rs1 rs2 : Fin 32) (s : State) : Host.Outcome State Fault Refusal :=
  finish s (regAlu e 0x009 rd rs1 rs2 1 (fun a b => shiftBy 1 a b.toNat) s)

/-- SHA (R280). -/
def execSha (e : Fin 9) (rd rs1 rs2 : Fin 32) (s : State) : Host.Outcome State Fault Refusal :=
  finish s (regAlu e 0x00A rd rs1 rs2 1 (fun a b => shiftBy 2 a b.toNat) s)

/-- LTS (R280). -/
def execLts (e : Fin 9) (rd rs1 rs2 : Fin 32) (s : State) : Host.Outcome State Fault Refusal :=
  finish s (regAlu e 0x010 rd rs1 rs2 1 (fun a b => boolWord (ltS a b)) s)

/-- LTU (R280). -/
def execLtu (e : Fin 9) (rd rs1 rs2 : Fin 32) (s : State) : Host.Outcome State Fault Refusal :=
  finish s (regAlu e 0x011 rd rs1 rs2 1 (fun a b => boolWord (ltU a b)) s)

/-- MIN (R280). -/
def execMin (e : Fin 9) (rd rs1 rs2 : Fin 32) (s : State) : Host.Outcome State Fault Refusal :=
  finish s (regAlu e 0x012 rd rs1 rs2 1 (fun a b => if ltS b a then b else a) s)

/-- MAX (R280). -/
def execMax (e : Fin 9) (rd rs1 rs2 : Fin 32) (s : State) : Host.Outcome State Fault Refusal :=
  finish s (regAlu e 0x013 rd rs1 rs2 1 (fun a b => if ltS a b then b else a) s)

/-- MUL (R280). -/
def execMul (e : Fin 9) (rd rs1 rs2 : Fin 32) (s : State) : Host.Outcome State Fault Refusal :=
  finish s (regAlu e 0x020 rd rs1 rs2 3 (fun a b => a * b) s)

/-- MHS (R280). -/
def execMhs (e : Fin 9) (rd rs1 rs2 : Fin 32) (s : State) : Host.Outcome State Fault Refusal :=
  finish s (regAlu e 0x021 rd rs1 rs2 3 mulHS s)

/-- MHU (R280). -/
def execMhu (e : Fin 9) (rd rs1 rs2 : Fin 32) (s : State) : Host.Outcome State Fault Refusal :=
  finish s (regAlu e 0x022 rd rs1 rs2 3 mulHU s)

/-- DIVS (R280). -/
def execDivs (e : Fin 9) (rd rs1 rs2 : Fin 32) (s : State) : Host.Outcome State Fault Refusal :=
  finish s (regAlu e 0x040 rd rs1 rs2 20 divS s)

/-- DIVU (R280). -/
def execDivu (e : Fin 9) (rd rs1 rs2 : Fin 32) (s : State) : Host.Outcome State Fault Refusal :=
  finish s (regAlu e 0x041 rd rs1 rs2 20 divU s)

/-- MODS (R280). -/
def execMods (e : Fin 9) (rd rs1 rs2 : Fin 32) (s : State) : Host.Outcome State Fault Refusal :=
  finish s (regAlu e 0x042 rd rs1 rs2 20 modS s)

/-- MODU (R280). -/
def execModu (e : Fin 9) (rd rs1 rs2 : Fin 32) (s : State) : Host.Outcome State Fault Refusal :=
  finish s (regAlu e 0x043 rd rs1 rs2 20 modU s)

/-- ADDK (R279). -/
def execAddk (e : Fin 9) (rd rs1 : Fin 32) (imm : BitVec 16) (s : State) : Host.Outcome State Fault Refusal :=
  finish s (immAlu e 0x01 rd rs1 imm (fun a => a + imm.signExtend 32) s)

/-- ANDK (R279). -/
def execAndk (e : Fin 9) (rd rs1 : Fin 32) (imm : BitVec 16) (s : State) : Host.Outcome State Fault Refusal :=
  finish s (immAlu e 0x02 rd rs1 imm (fun a => a &&& imm.setWidth 32) s)

/-- ORK (R279). -/
def execOrk (e : Fin 9) (rd rs1 : Fin 32) (imm : BitVec 16) (s : State) : Host.Outcome State Fault Refusal :=
  finish s (immAlu e 0x03 rd rs1 imm (fun a => a ||| imm.setWidth 32) s)

/-- XORK (R279). -/
def execXork (e : Fin 9) (rd rs1 : Fin 32) (imm : BitVec 16) (s : State) : Host.Outcome State Fault Refusal :=
  finish s (immAlu e 0x04 rd rs1 imm (fun a => a ^^^ imm.setWidth 32) s)

/-- LTSK (R279). -/
def execLtsk (e : Fin 9) (rd rs1 : Fin 32) (imm : BitVec 16) (s : State) : Host.Outcome State Fault Refusal :=
  finish s (immAlu e 0x05 rd rs1 imm (fun a => boolWord (ltS a (imm.signExtend 32))) s)

/-- LTUK (R279). -/
def execLtuk (e : Fin 9) (rd rs1 : Fin 32) (imm : BitVec 16) (s : State) : Host.Outcome State Fault Refusal :=
  finish s (immAlu e 0x06 rd rs1 imm (fun a => boolWord (ltU a (imm.setWidth 32))) s)

/-- SHK (R279): kind 0b11 is a reserved opcode. -/
def execShk (e : Fin 9) (rd rs1 : Fin 32) (kind : Fin 4) (amt : Fin 32) (s : State) :
    Host.Outcome State Fault Refusal :=
  let w := encI 0x07 rd rs1 (BitVec.ofNat 16 (kind.val * 2 ^ 14 + amt.val))
  finish s (issueOn e w (fun _ => kind == 3)
    (State.modEng e (fun g => (g.result rd (shiftBy kind (g.x rs1) amt) 1).advance)) s)

/-- HI (R279). -/
def execHi (e : Fin 9) (rd : Fin 32) (imm : BitVec 16) (s : State) : Host.Outcome State Fault Refusal :=
  finish s (immAlu e 0x08 rd 0 imm (fun _ => imm.setWidth 32 <<< 16) s)

/-! ### Memory (R266, R281) -/

/-- The address that a load or store forms. -/
def accessAddr (s : State) (e : Nat) (rs1 : Fin 32) (imm : BitVec 16) : Nat :=
  ((s.eng e).x rs1 + imm.signExtend 32).toNat

/-- The memory key of data address `a` of engine `e`: data SRAM, and for the Warden shared SRAM and MRAM (R281). -/
def ramKey (s : State) (e a : Nat) : Option Nat :=
  if 0x10000000 ≤ a ∧ a < dataTop e then some (engKey s e a)
  else if e = 8 ∧ (0x20000000 ≤ a ∧ a < 0x20100000 ∨ 0x30000000 ≤ a ∧ a < 0x30400000) then some a
  else none

/-- The power domain of the memory that engine `e` reaches: the Keeper's own, or the Lodge core (R349). -/
def ramDomain (e : Nat) : Nat := if e < 8 then e else 0x10

/-- Address `a` lies in a register window that engine `e` reaches (R281). -/
def regWindow (e a : Nat) : Bool := decide (0x40000000 ≤ a ∧ a < 0x40150000) || (e == 8 && decide (0x50000000 ≤ a))

/-- Address `a` is a register on another die than the Lodge, which a Keeper does not reach (R266). -/
def remoteReg (e a : Nat) : Bool :=
  decide (e < 8) && (match regAt (normalOf a) with
    | some (r, _) => r.home != .lodge
    | none => false)

/-- Core cycles that a Keeper stops for a register access: at most 30 (R266); how many is left open. -/
def stopCycles (e : Nat) (s : State) : State :=
  if e < 8 then State.modEng e (fun g => g.spend ((s.free 8).toNat % 31)) s.drawn else s

/-- A load of `n` bytes: ALIGN, then memory, then a register; the result comes at distance 2 (R279, R281). -/
def engLoad (e n : Nat) (w : Word) (rd rs1 : Fin 32) (imm : BitVec 16) (ext : Nat → Word) (s : State) : State :=
  let a := accessAddr s e rs1 imm
  if a % n ≠ 0 then trap e 5 w s
  else match ramKey s e a with
    | some k =>
      if domOff s (ramDomain e) then busTrap e a false 3 w s
      else State.modEng e (fun g => (g.result rd (ext (s.bytesLE k n)) 2).advance) s
    | none =>
      if !regWindow e a then busTrap e a false 1 w s
      else if n ≠ 4 then busTrap e a false 2 w s
      else if remoteReg e a then trap e 6 w s
      else
        let x := busRead (engMaster e) a s
        if x.err ≠ 0 then trap e 2 w x.st
        else State.modEng e (fun g => (g.result rd x.word 2).advance) (stopCycles e x.st)

/-- A load instruction. -/
def loadOn (e op n : Nat) (rd rs1 : Fin 32) (imm : BitVec 16) (ext : Nat → Word) (s : State) : State :=
  let w := encI op rd rs1 imm
  issueOn e w (fun _ => false) (engLoad e n w rd rs1 imm ext) s

/-- A store of `n` bytes: ALIGN, then memory, then a register (R279, R281). -/
def engStore (e n : Nat) (w : Word) (rs2 rs1 : Fin 32) (imm : BitVec 16) (s : State) : State :=
  let a := accessAddr s e rs1 imm
  let v := (s.eng e).x rs2
  if a % n ≠ 0 then trap e 5 w s
  else match ramKey s e a with
    | some k =>
      if domOff s (ramDomain e) then busTrap e a true 3 w s
      else State.modEng e Engine.advance (State.setBytesLE k n v.toNat s)
    | none =>
      if !regWindow e a then busTrap e a true 1 w s
      else if n ≠ 4 then busTrap e a true 2 w s
      else if remoteReg e a then trap e 6 w s
      else
        let x := busWrite (engMaster e) a v s
        if x.err ≠ 0 then trap e 2 w x.st
        else if x.st.start.lodgeDown then x.st
        else State.modEng e Engine.advance (stopCycles e x.st)

/-- A store instruction. -/
def storeOn (e op n : Nat) (rs2 rs1 : Fin 32) (imm : BitVec 16) (s : State) : State :=
  let w := encI op rs2 rs1 imm
  issueOn e w (fun _ => false) (engStore e n w rs2 rs1 imm) s

/-- LDW (R279, R281). -/
def execLdw (e : Fin 9) (rd rs1 : Fin 32) (imm : BitVec 16) (s : State) : Host.Outcome State Fault Refusal :=
  finish s (loadOn e 0x0C 4 rd rs1 imm (BitVec.ofNat 32) s)

/-- LDH (R279, R281). -/
def execLdh (e : Fin 9) (rd rs1 : Fin 32) (imm : BitVec 16) (s : State) : Host.Outcome State Fault Refusal :=
  finish s (loadOn e 0x0D 2 rd rs1 imm (fun x => (BitVec.ofNat 16 x).signExtend 32) s)

/-- LDHU (R279, R281). -/
def execLdhu (e : Fin 9) (rd rs1 : Fin 32) (imm : BitVec 16) (s : State) : Host.Outcome State Fault Refusal :=
  finish s (loadOn e 0x0E 2 rd rs1 imm (BitVec.ofNat 32) s)

/-- LDB (R279, R281). -/
def execLdb (e : Fin 9) (rd rs1 : Fin 32) (imm : BitVec 16) (s : State) : Host.Outcome State Fault Refusal :=
  finish s (loadOn e 0x0F 1 rd rs1 imm (fun x => (BitVec.ofNat 8 x).signExtend 32) s)

/-- LDBU (R279, R281). -/
def execLdbu (e : Fin 9) (rd rs1 : Fin 32) (imm : BitVec 16) (s : State) : Host.Outcome State Fault Refusal :=
  finish s (loadOn e 0x10 1 rd rs1 imm (BitVec.ofNat 32) s)

/-- STW (R279, R281). -/
def execStw (e : Fin 9) (rs2 rs1 : Fin 32) (imm : BitVec 16) (s : State) : Host.Outcome State Fault Refusal :=
  finishMem s (storeOn e 0x14 4 rs2 rs1 imm s)

/-- STH (R279, R281). -/
def execSth (e : Fin 9) (rs2 rs1 : Fin 32) (imm : BitVec 16) (s : State) : Host.Outcome State Fault Refusal :=
  finishMem s (storeOn e 0x15 2 rs2 rs1 imm s)

/-- STB (R279, R281). -/
def execStb (e : Fin 9) (rs2 rs1 : Fin 32) (imm : BitVec 16) (s : State) : Host.Outcome State Fault Refusal :=
  finishMem s (storeOn e 0x16 1 rs2 rs1 imm s)

/-! ### Branches and jumps (R279, R282 to R284) -/

/-- A compare-and-branch of two registers. -/
def brReg (e op : Nat) (rs1 rs2 : Fin 32) (off : BitVec 16) (c : Word → Word → Bool) (s : State) : State :=
  branchOn e (encI op rs1 rs2 off) (fun g => c (g.x rs1) (g.x rs2)) (fun g => relTarget g (off.signExtend 32)) s

/-- A compare-and-branch of a register with a constant. -/
def brConst (e op : Nat) (rs1 : Fin 32) (k : BitVec 8) (off : BitVec 13) (c : Word → Bool) (s : State) : State :=
  branchOn e (encBK op rs1 k off) (fun g => c (g.x rs1)) (fun g => relTarget g (off.signExtend 32)) s

/-- A jump, with the register that takes the address of the delay slot as link value (R284). -/
def jumpOn (e : Nat) (w : Word) (link : Option (Fin 32)) (target : Engine → Word) (s : State) : State :=
  issueOn e w (fun g => g.ctx.ds) (State.modEng e (fun g =>
    let h := match link with
      | some r => g.result r (g.ctx.pc + 4#32) 1
      | none => g
    h.branch true (target g))) s

/-- BREQ (R279, R282). -/
def execBreq (e : Fin 9) (rs1 rs2 : Fin 32) (off : BitVec 16) (s : State) : Host.Outcome State Fault Refusal :=
  finish s (brReg e 0x18 rs1 rs2 off (fun a b => a == b) s)

/-- BRNE (R279, R282). -/
def execBrne (e : Fin 9) (rs1 rs2 : Fin 32) (off : BitVec 16) (s : State) : Host.Outcome State Fault Refusal :=
  finish s (brReg e 0x19 rs1 rs2 off (fun a b => a != b) s)

/-- BRLT (R279, R282). -/
def execBrlt (e : Fin 9) (rs1 rs2 : Fin 32) (off : BitVec 16) (s : State) : Host.Outcome State Fault Refusal :=
  finish s (brReg e 0x1A rs1 rs2 off ltS s)

/-- BRGE (R279, R282). -/
def execBrge (e : Fin 9) (rs1 rs2 : Fin 32) (off : BitVec 16) (s : State) : Host.Outcome State Fault Refusal :=
  finish s (brReg e 0x1B rs1 rs2 off (fun a b => !ltS a b) s)

/-- BRLO (R279, R282). -/
def execBrlo (e : Fin 9) (rs1 rs2 : Fin 32) (off : BitVec 16) (s : State) : Host.Outcome State Fault Refusal :=
  finish s (brReg e 0x1C rs1 rs2 off ltU s)

/-- BRHS (R279, R282). -/
def execBrhs (e : Fin 9) (rs1 rs2 : Fin 32) (off : BitVec 16) (s : State) : Host.Outcome State Fault Refusal :=
  finish s (brReg e 0x1D rs1 rs2 off (fun a b => !ltU a b) s)

/-- BKEQ (R279, R282). -/
def execBkeq (e : Fin 9) (rs1 : Fin 32) (k : BitVec 8) (off : BitVec 13) (s : State) :
    Host.Outcome State Fault Refusal :=
  finish s (brConst e 0x20 rs1 k off (fun a => a == k.signExtend 32) s)

/-- BKNE (R279, R282). -/
def execBkne (e : Fin 9) (rs1 : Fin 32) (k : BitVec 8) (off : BitVec 13) (s : State) :
    Host.Outcome State Fault Refusal :=
  finish s (brConst e 0x21 rs1 k off (fun a => a != k.signExtend 32) s)

/-- BKLT (R279, R282). -/
def execBklt (e : Fin 9) (rs1 : Fin 32) (k : BitVec 8) (off : BitVec 13) (s : State) :
    Host.Outcome State Fault Refusal :=
  finish s (brConst e 0x22 rs1 k off (fun a => ltS a (k.signExtend 32)) s)

/-- BKGE (R279, R282). -/
def execBkge (e : Fin 9) (rs1 : Fin 32) (k : BitVec 8) (off : BitVec 13) (s : State) :
    Host.Outcome State Fault Refusal :=
  finish s (brConst e 0x23 rs1 k off (fun a => !ltS a (k.signExtend 32)) s)

/-- BKLO (R279, R282). -/
def execBklo (e : Fin 9) (rs1 : Fin 32) (k : BitVec 8) (off : BitVec 13) (s : State) :
    Host.Outcome State Fault Refusal :=
  finish s (brConst e 0x24 rs1 k off (fun a => ltU a (k.setWidth 32)) s)

/-- BKHS (R279, R282). -/
def execBkhs (e : Fin 9) (rs1 : Fin 32) (k : BitVec 8) (off : BitVec 13) (s : State) :
    Host.Outcome State Fault Refusal :=
  finish s (brConst e 0x25 rs1 k off (fun a => !ltU a (k.setWidth 32)) s)

/-- J (R279). -/
def execJ (e : Fin 9) (off : BitVec 26) (s : State) : Host.Outcome State Fault Refusal :=
  finish s (jumpOn e (encJ 0x28 off) none (fun g => relTarget g (off.signExtend 32)) s)

/-- JAL (R279, R284). -/
def execJal (e : Fin 9) (off : BitVec 26) (s : State) : Host.Outcome State Fault Refusal :=
  finish s (jumpOn e (encJ 0x29 off) (some 31) (fun g => relTarget g (off.signExtend 32)) s)

/-- JX (R279). -/
def execJx (e : Fin 9) (rs1 : Fin 32) (s : State) : Host.Outcome State Fault Refusal :=
  finish s (jumpOn e (encI 0x2A 0 rs1 0#16) none (fun g => g.x rs1) s)

/-- JALX (R279, R284). -/
def execJalx (e : Fin 9) (rd rs1 : Fin 32) (s : State) : Host.Outcome State Fault Refusal :=
  finish s (jumpOn e (encI 0x2B rd rs1 0#16) (some rd) (fun g => g.x rs1) s)

/-- RET (R279, R284). -/
def execRet (e : Fin 9) (rs1 : Fin 32) (s : State) : Host.Outcome State Fault Refusal :=
  finish s (jumpOn e (encI 0x2C 0 rs1 0#16) none (fun g => g.x rs1 + 4#32) s)

/-! ### The lock port (R289) -/

/-- The index of a lock-port access. -/
def portIndex (s : State) (e : Nat) (rs1 : Fin 32) (off : BitVec 11) : Nat :=
  (((s.eng e).x rs1).toNat + off.toNat) % 65536

/-- CHR (R263, R289): no access with r = x0. -/
def chrBody (e : Nat) (w : Word) (r rs1 : Fin 32) (sp : Nat) (off : BitVec 11) (s : State) : State :=
  if r.val = 0 then State.modEng e Engine.advance s
  else match chrWord s e sp (portIndex s e rs1 off) with
    | none => trap e 3 w s
    | some v => State.modEng e (fun g => (g.result r v 4).advance) s

/-- CHR (R263 to R265, R289). -/
def execChr (e : Fin 9) (r rs1 : Fin 32) (sp : Fin 16) (off : BitVec 11) (s : State) :
    Host.Outcome State Fault Refusal :=
  let w := encC 0x30 r rs1 false sp off
  finish s (issueOn e w (fun _ => false) (chrBody e w r rs1 sp off) s)

/-- CHW (R23, R26, R267, R289). -/
def execChw (e : Fin 9) (r rs1 : Fin 32) (m : Bool) (sp : Fin 16) (off : BitVec 11) (s : State) :
    Host.Outcome State Fault Refusal :=
  let w := encC 0x31 r rs1 m sp off
  finish s (issueOn e w (fun _ => false)
    (fun t => chw e w ((t.eng e).x r) sp (portIndex t e rs1 off) m t) s)

/-! ### Control registers and the return from a trap (R290 to R293) -/

/-- TSTAT (R291). -/
def tstat (g : Engine) : Word :=
  BitVec.ofNat 32 (b2n g.ctx.trap.cls * 256 + b2n g.ctx.trap.inh * 2 + b2n g.ctx.trap.tds)

/-- What control register `cr` of engine `e` reads as (R290). -/
def crRead (e cr : Nat) (g : Engine) : Word :=
  match cr with
  | 0x00 => if e < 8 then 1#32 else 0x10001#32
  | 0x01 => BitVec.ofNat 32 g.ctx.trap.cause
  | 0x02 => g.ctx.trap.tpc
  | 0x03 => g.ctx.trap.tnpc
  | 0x04 => g.ctx.trap.inst
  | 0x05 => tstat g
  | 0x06 => g.evec
  | 0x07 => g.tvec
  | 0x08 => g.lentry
  | 0x09 => g.fentry
  | 0x0A => g.ctx.trap.scratch0
  | 0x0B => g.ctx.trap.scratch1
  | _ => BitVec.ofNat 32 (g.slots - 1)

/-- Control register `cr` of engine `e` is written; a register that is RO there keeps its value (R290). -/
def crWrite (e cr : Nat) (v : Word) (g : Engine) : Engine :=
  match cr with
  | 0x02 => g.mapCtx (fun c => { c with trap := { c.trap with tpc := v } })
  | 0x03 => g.mapCtx (fun c => { c with trap := { c.trap with tnpc := v } })
  | 0x06 => if e < 8 then g else { g with evec := v }
  | 0x07 => if e < 8 then g else { g with tvec := v }
  | 0x0A => g.mapCtx (fun c => { c with trap := { c.trap with scratch0 := v } })
  | 0x0B => g.mapCtx (fun c => { c with trap := { c.trap with scratch1 := v } })
  | _ => g

/-- RDC (R290). -/
def execRdc (e : Fin 9) (r : Fin 32) (cr : BitVec 8) (s : State) : Host.Outcome State Fault Refusal :=
  finish s (issueOn e (encSys 0 r false cr) (fun _ => !crKnown e cr.toNat)
    (State.modEng e (fun g => (g.result r (crRead e cr.toNat g) 1).advance)) s)

/-- WRC (R290). -/
def execWrc (e : Fin 9) (r : Fin 32) (cr : BitVec 8) (s : State) : Host.Outcome State Fault Refusal :=
  finish s (issueOn e (encSys 1 r false cr) (fun _ => !crKnown e cr.toNat)
    (State.modEng e (fun g => (crWrite e cr.toNat (g.x r) g).advance)) s)

/-- The bank after RTE (R293): the instruction at TPC again, or the one at TNPC. -/
def Ctx.returned (skip : Bool) (c : Ctx) : Ctx :=
  let mask := 0xFFFFFFFC#32
  let a := c.trap.tpc &&& mask
  let b := c.trap.tnpc &&& mask
  { c with
    pc := if skip then b else a, npc := if skip then b + 4#32 else b
    ds := !skip && c.trap.tds, trap := { c.trap with inh := false } }

/-- RTE: a Keeper's STATE shows its list again (R275, R293). -/
def rteBody (e : Nat) (skip : Bool) (s : State) : State :=
  let t := State.modEng e (fun g => g.mapCtx (Ctx.returned skip)) s
  setKState e (t.eng e).runState t

/-- RTE (R283, R293): reserved in a delay slot and outside a handler. -/
def execRte (e : Fin 9) (skip : Bool) (s : State) : Host.Outcome State Fault Refusal :=
  finish s (issueOn e (encSys 2 0 skip 0#8) (fun g => g.ctx.ds || !g.ctx.trap.inh) (rteBody e skip) s)

/-- YIELD (R279, R283, R295): reserved on the Warden, in a delay slot and in a handler. -/
def execYield (e : Fin 9) (s : State) : Host.Outcome State Fault Refusal :=
  finish s (issueOn e (encSys 3 0 false 0#8) (fun g => g.ctx.ds || g.ctx.trap.inh || e == 8)
    (fun t => if (t.eng e).inF then endF e t else endL e t) s)

/-! ### The masked call (R297 to R299) -/

/-- The registers that a mask names, in ascending order; bits 0 and 30 are ignored (R297). -/
def maskRegs (mask : Nat) : List (Fin 32) :=
  (List.finRange 32).filter (fun r => bitOf mask r && r != 0 && r != 30)

/-- CALLM (R297, R298): it reads the registers as an instruction in its place would, and ages no result (R286, log entry
55). -/
def callmBody (e : Nat) (w : Word) (off : BitVec 26) (s : State) : State :=
  let g := s.eng e
  let pc := g.ctx.pc
  if codeTop e ≤ (pc + 4#32).toNat then trap e 2 w s
  else
    let mask := s.bytesLE (engKey s e (pc + 4#32).toNat) 4
    let rs := maskRegs mask
    let size := 4 * (rs.length + 2)
    let sees := g.issue
    let top := (sees.x 30).toNat
    if top % 4 ≠ 0 then trap e 5 w s
    else if top < 0x10000000 + size ∨ dataTop e < top then trap e 2 w s
    else
      let sp := top - size
      let put (i v : Nat) (t : State) : State := State.setBytesLE (engKey s e (sp + i)) 4 v t
      let t := put 4 (pc + 12#32).toNat (put 0 mask s)
      let t := rs.zipIdx.foldl (fun t r => put (8 + 4 * r.2) (sees.x r.1).toNat t) t
      State.modEng e (fun g =>
        let h := ((g.result 30 (BitVec.ofNat 32 sp) 1).result 29 (BitVec.ofNat 32 sp) 1).spend (2 + rs.length)
        h.mapCtx (fun c => { c with
          pc := pc + 8#32, npc := relTarget g (off.signExtend 32) &&& 0xFFFFFFFC#32, ds := true })) t

/-- CALLM (R297, R298): reserved on a Keeper and in a delay slot. -/
def execCallm (e : Fin 9) (off : BitVec 26) (s : State) : Host.Outcome State Fault Refusal :=
  let w := encJ 0x3A off
  finishMem s (issueStill e w (fun g => e != 8 || g.ctx.ds) (callmBody e w off) s)

/-- RETM (R299): its frame is read under R281, and x30 as an instruction in its place would read it (R286). -/
def retmBody (e : Nat) (w : Word) (s : State) : State :=
  let sp := ((s.eng e).issue.x 30).toNat
  if sp % 4 ≠ 0 then trap e 5 w s
  else match ramKey s e sp with
    | none => busTrap e sp false 1 w s
    | some k =>
      let rs := maskRegs (s.bytesLE k 4)
      let size := 4 * (rs.length + 2)
      let word (o : Nat) : Word := match ramKey s e (sp + o) with
        | some j => BitVec.ofNat 32 (s.bytesLE j 4)
        | none => 0#32
      match ((List.range (rs.length + 2)).map (fun i => sp + 4 * i)).find? (fun a => (ramKey s e a).isNone) with
      | some a => busTrap e a false 1 w s
      | none =>
        State.modEng e (fun g =>
          let h := rs.zipIdx.foldl (fun h r => h.result r.1 (word (8 + 4 * r.2)) 1) g
          let h := (h.result 30 (BitVec.ofNat 32 (sp + size)) 1).spend (2 + rs.length)
          h.branch true (word 4)) s

/-- RETM (R299): reserved on a Keeper and in a delay slot. -/
def execRetm (e : Fin 9) (s : State) : Host.Outcome State Fault Refusal :=
  let w := 0x3B#32
  finish s (issueStill e w (fun g => e != 8 || g.ctx.ds) (retmBody e w) s)

/-! ### Traps and fatal causes (R270, R271, R292) -/

/-- A trap of `cause` at instruction word `w`: RESERVED_OP where the word is reserved where the engine stands, the
other causes that do not stall as they are met. -/
def trapEntry (e cause : Nat) (w : Word) (s : State) : State :=
  if !engRuns s e then s
  else if cause = 1 then (if reservedHere e (s.eng e) w then trapIssued e 1 w s else s)
  else if 2 ≤ cause ∧ cause ≤ 6 then trapIssued e cause w s
  else s

/-- TRAP_ENTRY (R270, R292). -/
def execTrapEntry (e : Fin 9) (cause : Fin 16) (word : Word) (s : State) : Host.Outcome State Fault Refusal :=
  finish s (trapEntry e cause word s)

/-- L_OVERRUN (R260). -/
def execLOverrun (k : Fin 8) (s : State) : Host.Outcome State Fault Refusal := finish s (lOverrun k s)

/-- The class F list of Keeper `k` has not completed a pass within 16 × F_WD lock cycles (R262). -/
def fWatchdog (k : Nat) (s : State) : State :=
  let n := s.fld (KEEPER_CTRL k) KEEPER_CTRL_F_WD
  let g := s.eng k
  if n = 0 ∨ g.fCount ≤ 16 * n ∨ g.fReported ∨ !g.present ∨ kState s k = 0 ∨ kState s k = 5 then s
  else
    let t := raiseEvData 114 k [k] (State.modEng k (fun g => { g with fReported := true }) s)
    if s.flag (KEEPER_CTRL k) KEEPER_CTRL_F_WD_ACT then stall k 0xA t else t

/-- CLASS_F_WATCHDOG (R262). -/
def execClassFWatchdog (k : Fin 8) (s : State) : Host.Outcome State Fault Refusal := finish s (fWatchdog k s)

end Sys2Proof.Machine
end

