-- ==== Sys2Proof/Machine/Update.lean ====
section
/-! DEFINITION. The commands of the field update (R478 to R493). -/

namespace Sys2Proof.Machine

/-- The Warden's firmware runs and serves the update. -/
def wardenServes (s : State) : Bool :=
  !s.start.lodgeDown && !lowPower s && startState s != 1 && startState s != 5 && !pausing s

/-- UPDATE_COMPLETE (R482, R483): the components of a COMPLETE update are copied and checked. -/
def execUpdateComplete (s : State) : Host.Outcome State Fault Refusal :=
  finishMem s (if wardenServes s && updState s == 2 then updComplete s else s)

/-- UPDATE_RECORD_SEND (R484), once per second. -/
def execUpdateRecordSend (s : State) : Host.Outcome State Fault Refusal :=
  finish s (if wardenServes s && decide (s.upd.nextRecord ≤ s.now) then
      sendRecord { s with upd := { s.upd with nextRecord := s.now + 1000000000 } }
    else s)

/-- QUIET_POINT (R487): an armed hand-over meets a quiet point inside its window. -/
def quietComes (s : State) : State :=
  match s.upd.armed with
  | some t0 => if wardenServes s && quiet s && decide (s.now < t0 + quietTo s) then quietPoint s else s
  | none => s

/-- QUIET_POINT (R486, R487). -/
def execQuietPoint (s : State) : Host.Outcome State Fault Refusal := finishHost s (quietComes s)

/-- No quiet point has come: the ARM is refused with reason QUIET (R483, R487). -/
def quietExpires (s : State) : State :=
  match s.upd.armed with
  | some t0 =>
    if t0 + quietTo s ≤ s.now ∧ s.start.lodgeDown = false then
      updRefuse 3 0xA 0 0 { s with upd := { s.upd with armed := none, todo := [] } }
    else s
  | none => s

/-- QUIET_TIMEOUT (R487). -/
def execQuietTimeout (s : State) : Host.Outcome State Fault Refusal := finish s (quietExpires s)

/-- The new firmware resumes within 1.5 ms, and what waited runs (R487, R488); the later of two modules that switched in
the same second rolls back (R491). -/
def resumed (s : State) : State :=
  match s.upd.pause with
  | some t0 =>
    if s.upd.switched = false ∨ t0 + 1500000 ≤ s.now then s
    else if s.upd.clash then rollBack s else firmwareRuns s
  | none => s

/-- FIRMWARE_RESUMED (R487, R488). -/
def execFirmwareResumed (s : State) : Host.Outcome State Fault Refusal := finishHost s (resumed s)

/-- The new firmware has not resumed at 1.5 ms: the old one goes on, and what waited runs (R487, R488). -/
def rolledBack (s : State) : State :=
  match s.upd.pause with
  | some t0 => if t0 + 1500000 ≤ s.now then rollBack s else s
  | none => s

/-- HANDOVER_ROLLBACK (R487). -/
def execHandoverRollback (s : State) : Host.Outcome State Fault Refusal := finishHost s (rolledBack s)

/-- The strobe whose LCC has reached SWAP_LCC (R489, R490). -/
def swapStrobe (s : State) : State :=
  if swapNow s && !s.start.lodgeDown then keeperSwap s else s

/-- KEEPER_SWAP_STROBE (R490). -/
def execKeeperSwapStrobe (s : State) : Host.Outcome State Fault Refusal := finishHost s (swapStrobe s)

end Sys2Proof.Machine
end

