-- ==== Sys2Proof/Machine/Writes.lean ====
section
/-! DEFINITION. The commands that write a register (R34 to R48), each by the write that carries it. -/

namespace Sys2Proof.Machine

/-- REGISTER_WRITE (R36 to R46): a write of `data` at full address `addr` by master `m`. -/
def execRegisterWrite (m : Sender) (addr data : Word) (s : State) : Host.Outcome State Fault Refusal :=
  finishHost s (wroteIn m.same m.code addr.toNat data s)

/-- RC_READ_CLEAR (R36): a read of full address `addr` by master `m`. -/
def execRcReadClear (m : Sender) (addr : Word) (s : State) : Host.Outcome State Fault Refusal :=
  finish s (if masterUp s m.code then (busReadIn m.same m.code addr.toNat s).st else s)

/-- BOOST_EN_WRITE (R74). -/
def execBoostEnWrite (m : Fin 12) (v : Bool) (s : State) : Host.Outcome State Fault Refusal :=
  finish s (if v then setBits m SUPPLY_RES_CFG SUPPLY_RES_CFG_BOOST_EN s
    else clearBits m SUPPLY_RES_CFG SUPPLY_RES_CFG_BOOST_EN s)

/-- CAMERA_RAIL_ENABLE (R84). -/
def execCameraRailEnable (m : Fin 12) (n : Fin 6) (en : Bool) (s : State) : Host.Outcome State Fault Refusal :=
  finish s (if en then setBits m (CR_CFG n) CR_CFG_EN s else clearBits m (CR_CFG n) CR_CFG_EN s)

/-- WIRE_CONSTANT_WRITE (R112). -/
def execWireConstantWrite (m : Fin 12) (ch : Fin 96) (w : Word) (s : State) : Host.Outcome State Fault Refusal :=
  finish s (wrote m (PAV_WIRE ch) w s)

/-- BCLR (R150). -/
def execBclr (m : Fin 12) (b : Fin 4) (s : State) : Host.Outcome State Fault Refusal :=
  finish s (setBits m (SLU_BANK b) SLU_BANK_BCLR s)

/-- RELEARN (R141, R144). -/
def execRelearn (m : Fin 12) (ch : Fin 128) (s : State) : Host.Outcome State Fault Refusal :=
  finish s (wrote m MEAS_HHCMD (fput MEAS_HHCMD_RELEARN 1 (fput MEAS_HHCMD_CH ch 0#32)) s)

/-- CLOSE_DAY (R140). -/
def execCloseDay (m : Fin 12) (s : State) : Host.Outcome State Fault Refusal :=
  finish s (setBits m MEAS_HHCMD MEAS_HHCMD_CLOSE_DAY s)

/-- CAN_CANCEL (R362). -/
def execCanCancel (m : Fin 12) (c : Fin 8) (obj : Fin 128) (s : State) : Host.Outcome State Fault Refusal :=
  finish s (wrote m (CAN_CANCEL c) (fput CAN_CANCEL_GO 1 (fput CAN_CANCEL_OBJ obj 0#32)) s)

/-- BO_REQ (R363). -/
def execBoReq (m : Fin 12) (c : Fin 8) (s : State) : Host.Outcome State Fault Refusal :=
  finish s (setBits m (CAN_CTRL c) CAN_CTRL_BO_REQ s)

/-- LIN_SCHED_SWITCH (R369). -/
def execLinSchedSwitch (m : Fin 12) (ch : Fin 12) (table : Fin 4) (s : State) : Host.Outcome State Fault Refusal :=
  finish s (flipTo m (LIN_CFG ch) LIN_CFG_SCHED table s)

/-- NETPM_XCV_WRITE (R379). -/
def execNetpmXcvWrite (m : Fin 12) (t : Fin 18) (w : Word) (s : State) : Host.Outcome State Fault Refusal :=
  finish s (wrote m (NETPM_XCV t) w s)

/-- WKSEND (R383). -/
def execWksend (m : Fin 12) (t : Fin 18) (s : State) : Host.Outcome State Fault Refusal :=
  finish s (setBits m (NETPM_XCV t) NETPM_XCV_WKSEND s)

/-- CHECK_EN_REQUEST (R2, R322). -/
def execCheckEnRequest (m : Fin 12) (sub : Fin 18) (s : State) : Host.Outcome State Fault Refusal :=
  finishHost s (wrote m (CHECK_EN + setView) (BitVec.ofNat 32 (2 ^ sub.val)) s)

/-- CHECK_EN_DISABLE (R325, R326). -/
def execCheckEnDisable (m : Fin 12) (sub : Fin 18) (s : State) : Host.Outcome State Fault Refusal :=
  finishHost s (wrote m (CHECK_EN + clearView) (BitVec.ofNat 32 (2 ^ sub.val)) s)

/-- LIMP_CLR (R336, R491). -/
def execLimpClr (m : Fin 12) (s : State) : Host.Outcome State Fault Refusal :=
  finishHost s (setBits m CHECK_STARTCTL CHECK_STARTCTL_LIMP_CLR s)

/-- MLIMP_CLR (R442). -/
def execMlimpClr (m : Fin 12) (s : State) : Host.Outcome State Fault Refusal :=
  finishHost s (setBits m FAULT_CTRL FAULT_CTRL_MLIMP_CLR s)

/-- FAULT_STICKY_CLEAR (R438, R439). -/
def execFaultStickyClear (m : Sender) (w : Fin 3) (bits : Word) (s : State) : Host.Outcome State Fault Refusal :=
  finish s (wroteIn m.same m.code (FAULT_STICKY w) bits s)

/-- CHECK_UNIT_GO (R456). -/
def execCheckUnitGo (m : Fin 12) (u : Fin 4) (w : Word) (s : State) : Host.Outcome State Fault Refusal :=
  finish s (wrote m (CU_CFG u) (fput CU_CFG_GO 1 w) s)

/-- GATE_GO (R466, R470, R471). -/
def execGateGo (m : Fin 12) (w : Word) (s : State) : Host.Outcome State Fault Refusal :=
  finish s (wrote m GATE_CMD (fput GATE_CMD_GO 1 w) s)

/-- MODE_REQ (R469). -/
def execModeReq (m : Fin 12) (mode : Fin 16) (s : State) : Host.Outcome State Fault Refusal :=
  finish s (wrote m GATE_MODE (fput GATE_MODE_MODE_REQ mode (fput GATE_MODE_REVOKE 0 (s.reg GATE_MODE))) s)

/-- LEARN_CODE_SUBMIT (R469): the upper half of the code, the lower half standing in GATE_LCODE_LO. -/
def execLearnCodeSubmit (m : Fin 12) (hi : Word) (s : State) : Host.Outcome State Fault Refusal :=
  finish s (wrote m GATE_LCODE_HI hi s)

/-- EOL_DONE (R43, R469). -/
def execEolDone (m : Fin 12) (done : Bool) (s : State) : Host.Outcome State Fault Refusal :=
  finish s (wrote m GATE_EOL (fput GATE_EOL_EOL_DONE (b2n done) 0#32) s)

/-- REVOKE (R468). -/
def execRevoke (m : Fin 12) (ridx : Fin 16) (s : State) : Host.Outcome State Fault Refusal :=
  finish s (revokeWrite m ridx s)

/-- ARM (R485). -/
def execArm (m : Fin 12) (s : State) : Host.Outcome State Fault Refusal :=
  finishHost s (setBits m UPD_CTRL UPD_CTRL_ARM s)

/-- ABORT (R491). -/
def execAbort (m : Fin 12) (s : State) : Host.Outcome State Fault Refusal :=
  finishHost s (setBits m UPD_CTRL UPD_CTRL_ABORT s)

/-- POWER_DOMOFF_WRITE (R349, R350). -/
def execPowerDomoffWrite (m : Fin 12) (w : Word) (s : State) : Host.Outcome State Fault Refusal :=
  finish s (wrote m POWER_DOMOFF w s)

/-- KEEPER_RESTART (R272). -/
def execKeeperRestart (m : Fin 12) (k : Fin 8) (keep : Bool) (s : State) : Host.Outcome State Fault Refusal :=
  finishMem s (wrote m (KEEPER_CTRL k) (fput KEEPER_CTRL_RESTART 1
    (fput KEEPER_CTRL_KEEP (b2n keep) (s.reg (KEEPER_CTRL k)))) s)

end Sys2Proof.Machine
end

