-- ==== Sys2Proof/Machine/Dispatch.lean ====
section
/-! DEFINITION. One arm per command: a direct call of its meaning. -/

namespace Sys2Proof.Machine

def exec (i : Instr) (s : State) : Host.Outcome State Fault Refusal :=
  match i with
  | .read h addr => Sys2Proof.Machine.execRead h addr s
  | .write h addr data => Sys2Proof.Machine.execWrite h addr data s
  | .blockRead h addr count => Sys2Proof.Machine.execBlockRead h addr count s
  | .sessionOpen h level keyIndex nonce pub sig => Sys2Proof.Machine.execSessionOpen h level keyIndex nonce pub sig s
  | .authFailHoldExpiry p => Sys2Proof.Machine.execAuthFailHoldExpiry p s
  | .sessionTimeout p => Sys2Proof.Machine.execSessionTimeout p s
  | .power h target scope => Sys2Proof.Machine.execPower h target scope s
  | .piece h id piece data flashOk => Sys2Proof.Machine.execPiece h id piece data flashOk s
  | .logRead h start count => Sys2Proof.Machine.execLogRead h start count s
  | .logClear h code => Sys2Proof.Machine.execLogClear h code s
  | .enable h sub val => Sys2Proof.Machine.execEnable h sub val s
  | .unknownType h typ => Sys2Proof.Machine.execUnknownType h typ s
  | .towpathFrameDiscard p => Sys2Proof.Machine.execTowpathFrameDiscard p s
  | .towpathLinkChange up => Sys2Proof.Machine.execTowpathLinkChange up s
  | .eventHoldExpiry n => Sys2Proof.Machine.execEventHoldExpiry n s
  | .registerWrite m addr data => Sys2Proof.Machine.execRegisterWrite m addr data s
  | .rcReadClear m addr => Sys2Proof.Machine.execRcReadClear m addr s
  | .dieAccessTimeout m addr w h => Sys2Proof.Machine.execDieAccessTimeout m addr w h s
  | .culvertFrameReceive cv toDie frame => Sys2Proof.Machine.execCulvertFrameReceive cv toDie frame s
  | .culvertLinkDown cv toDie => Sys2Proof.Machine.execCulvertLinkDown cv toDie s
  | .culvertLinkTrained cv => Sys2Proof.Machine.execCulvertLinkTrained cv s
  | .culvertTrainingAttemptFail cv => Sys2Proof.Machine.execCulvertTrainingAttemptFail cv s
  | .heartbeat cv toDie => Sys2Proof.Machine.execHeartbeat cv toDie s
  | .lodgeSilenceDetected die => Sys2Proof.Machine.execLodgeSilenceDetected die s
  | .claimFrame bank => Sys2Proof.Machine.execClaimFrame bank s
  | .moorFrame die => Sys2Proof.Machine.execMoorFrame die s
  | .chw e r rs1 m sp off => Sys2Proof.Machine.execChw e r rs1 m sp off s
  | .setCompleteAck cv => Sys2Proof.Machine.execSetCompleteAck cv s
  | .immediateCommandApply cv => Sys2Proof.Machine.execImmediateCommandApply cv s
  | .limpExpiry bank => Sys2Proof.Machine.execLimpExpiry bank s
  | .vbatBandChange mv dur => Sys2Proof.Machine.execVbatBandChange mv dur s
  | .reverseDetected mv dur => Sys2Proof.Machine.execReverseDetected mv dur s
  | .reverseCleared mv dur => Sys2Proof.Machine.execReverseCleared mv dur s
  | .lvUndervoltageReset mv dur => Sys2Proof.Machine.execLvUndervoltageReset mv dur s
  | .lodgeRestart mv dur => Sys2Proof.Machine.execLodgeRestart mv dur s
  | .boostEnWrite m v => Sys2Proof.Machine.execBoostEnWrite m v s
  | .reservoirLevelChange vres vbat => Sys2Proof.Machine.execReservoirLevelChange vres vbat s
  | .reservoirShort vres => Sys2Proof.Machine.execReservoirShort vres s
  | .reservoirTimeout vres => Sys2Proof.Machine.execReservoirTimeout vres s
  | .capEstimate charge => Sys2Proof.Machine.execCapEstimate charge s
  | .valveDecayDivert vres => Sys2Proof.Machine.execValveDecayDivert vres s
  | .valveDecayReturn vres dur => Sys2Proof.Machine.execValveDecayReturn vres dur s
  | .loadShed load vres => Sys2Proof.Machine.execLoadShed load vres s
  | .shedRestart load vres dur => Sys2Proof.Machine.execShedRestart load vres dur s
  | .cameraRailEnable m n en => Sys2Proof.Machine.execCameraRailEnable m n en s
  | .cameraRailLatch n cond level dur => Sys2Proof.Machine.execCameraRailLatch n cond level dur s
  | .cameraRailRetry n => Sys2Proof.Machine.execCameraRailRetry n s
  | .cameraRailPowerShed power dur => Sys2Proof.Machine.execCameraRailPowerShed power dur s
  | .temperatureRead t0 t1 t2 t3 t4 t5 => Sys2Proof.Machine.execTemperatureRead t0 t1 t2 t3 t4 t5 s
  | .ocLatch ch ma dur limit => Sys2Proof.Machine.execOcLatch ch ma dur limit s
  | .hlimLatch ch dur => Sys2Proof.Machine.execHlimLatch ch dur s
  | .inrushWindowEnd ch => Sys2Proof.Machine.execInrushWindowEnd ch s
  | .thermalLatch ch tj => Sys2Proof.Machine.execThermalLatch ch tj s
  | .vetoClear ch tj => Sys2Proof.Machine.execVetoClear ch tj s
  | .retryDue ch => Sys2Proof.Machine.execRetryDue ch s
  | .pavCmdWrite m ch w => Sys2Proof.Machine.execPavCmdWrite m ch w s
  | .pavClr m ch => Sys2Proof.Machine.execPavClr m ch s
  | .wireModelTick ch i2 => Sys2Proof.Machine.execWireModelTick ch i2 s
  | .wireConstantWrite m ch w => Sys2Proof.Machine.execWireConstantWrite m ch w s
  | .pairImbalance ch ia ib dur => Sys2Proof.Machine.execPairImbalance ch ia ib dur s
  | .uvTurnOff die cls mv dur => Sys2Proof.Machine.execUvTurnOff die cls mv dur s
  | .uvRestartWindowEnd die cls mv dur => Sys2Proof.Machine.execUvRestartWindowEnd die cls mv dur s
  | .uvRestartSlot p => Sys2Proof.Machine.execUvRestartSlot p s
  | .softStartComplete ch => Sys2Proof.Machine.execSoftStartComplete ch s
  | .onstateBurstComplete ch iv v => Sys2Proof.Machine.execOnstateBurstComplete ch iv v s
  | .offstateTestComplete ch va vb => Sys2Proof.Machine.execOffstateTestComplete ch va vb s
  | .latchCapture ch v => Sys2Proof.Machine.execLatchCapture ch v s
  | .diagStretch ch ns => Sys2Proof.Machine.execDiagStretch ch ns s
  | .backgroundSample b k iv v ready => Sys2Proof.Machine.execBackgroundSample b k iv v ready s
  | .hhBatchSend die => Sys2Proof.Machine.execHhBatchSend die s
  | .hhBatchArrival ch => Sys2Proof.Machine.execHhBatchArrival ch s
  | .relearn m ch => Sys2Proof.Machine.execRelearn m ch s
  | .closeDay m => Sys2Proof.Machine.execCloseDay m s
  | .peakGrant b vres => Sys2Proof.Machine.execPeakGrant b vres s
  | .peakRequestRefused v => Sys2Proof.Machine.execPeakRequestRefused v s
  | .peakEnd v => Sys2Proof.Machine.execPeakEnd v s
  | .sluCmdWrite m v w => Sys2Proof.Machine.execSluCmdWrite m v w s
  | .sluClr m v => Sys2Proof.Machine.execSluClr m v s
  | .decaySafePoint v ma mj => Sys2Proof.Machine.execDecaySafePoint v ma mj s
  | .decayTimeout v mj => Sys2Proof.Machine.execDecayTimeout v mj s
  | .decayPathSwitch v vres vbnk mj => Sys2Proof.Machine.execDecayPathSwitch v vres vbnk mj s
  | .kinkSample v x => Sys2Proof.Machine.execKinkSample v x s
  | .kinkWindowClose v => Sys2Proof.Machine.execKinkWindowClose v s
  | .loopSaturation v duty ma dur => Sys2Proof.Machine.execLoopSaturation v duty ma dur s
  | .valveOpenCheck v ma => Sys2Proof.Machine.execValveOpenCheck v ma s
  | .valveOcLatch v ma rise dur => Sys2Proof.Machine.execValveOcLatch v ma rise dur s
  | .bankImbalance b ib sum dur => Sys2Proof.Machine.execBankImbalance b ib sum dur s
  | .valveOffstateTest v pin vbnk => Sys2Proof.Machine.execValveOffstateTest v pin vbnk s
  | .valveThermalLatch v tj => Sys2Proof.Machine.execValveThermalLatch v tj s
  | .valveVetoClear v tj => Sys2Proof.Machine.execValveVetoClear v tj s
  | .bankSwitchLatch b therm ma dur t => Sys2Proof.Machine.execBankSwitchLatch b therm ma dur t s
  | .bclr m b => Sys2Proof.Machine.execBclr m b s
  | .brCmdWrite m h w => Sys2Proof.Machine.execBrCmdWrite m h w s
  | .brClr m h => Sys2Proof.Machine.execBrClr m h s
  | .brakeEnd h => Sys2Proof.Machine.execBrakeEnd h s
  | .bridgeLatch h kind highSide ma dur tj => Sys2Proof.Machine.execBridgeLatch h kind highSide ma dur tj s
  | .bridgeVetoClear h tj => Sys2Proof.Machine.execBridgeVetoClear h tj s
  | .startBlankEnd h ma => Sys2Proof.Machine.execStartBlankEnd h ma s
  | .stall h ma dur => Sys2Proof.Machine.execStall h ma dur s
  | .rippleCounted h period => Sys2Proof.Machine.execRippleCounted h period s
  | .parkReached p level dur => Sys2Proof.Machine.execParkReached p level dur s
  | .parkTimeout h => Sys2Proof.Machine.execParkTimeout h s
  | .lfDriverLatch a ma dur => Sys2Proof.Machine.execLfDriverLatch a ma dur s
  | .lightCmdWrite m k w => Sys2Proof.Machine.execLightCmdWrite m k w s
  | .lightClr m k => Sys2Proof.Machine.execLightClr m k s
  | .fadeUpdate k => Sys2Proof.Machine.execFadeUpdate k s
  | .sinkObservation k vsink ua => Sys2Proof.Machine.execSinkObservation k vsink ua s
  | .foldbackRead t => Sys2Proof.Machine.execFoldbackRead t s
  | .backlightLatch n cond v ma dur => Sys2Proof.Machine.execBacklightLatch n cond v ma dur s
  | .backlightSaturation n ma dur => Sys2Proof.Machine.execBacklightSaturation n ma dur s
  | .photodiodeIntegration p val => Sys2Proof.Machine.execPhotodiodeIntegration p val s
  | .sensorRead n data ack arrived => Sys2Proof.Machine.execSensorRead n data ack arrived s
  | .sensorTransactionTimeout n => Sys2Proof.Machine.execSensorTransactionTimeout n s
  | .trellisFrameStart vtrsup => Sys2Proof.Machine.execTrellisFrameStart vtrsup s
  | .trellisLineVisit levels currents pres => Sys2Proof.Machine.execTrellisLineVisit levels currents pres s
  | .lineSwitchLatch l therm ma dur t => Sys2Proof.Machine.execLineSwitchLatch l therm ma dur t s
  | .trCmdWrite m w => Sys2Proof.Machine.execTrCmdWrite m w s
  | .lclr m => Sys2Proof.Machine.execLclr m s
  | .debounceWindowEnd j => Sys2Proof.Machine.execDebounceWindowEnd j s
  | .inputChangeDelivery j => Sys2Proof.Machine.execInputChangeDelivery j s
  | .inputPoll j mv => Sys2Proof.Machine.execInputPoll j mv s
  | .foCmdWrite m o w => Sys2Proof.Machine.execFoCmdWrite m o w s
  | .foClr m o => Sys2Proof.Machine.execFoClr m o s
  | .demagSafePoint o pin => Sys2Proof.Machine.execDemagSafePoint o pin s
  | .foThermalShutdown o t => Sys2Proof.Machine.execFoThermalShutdown o t s
  | .foAutoRestart o t => Sys2Proof.Machine.execFoAutoRestart o t s
  | .foDiagnosis o ua mv dur => Sys2Proof.Machine.execFoDiagnosis o ua mv dur s
  | .ownerWindowExpiry o => Sys2Proof.Machine.execOwnerWindowExpiry o s
  | .ownerLimpExpiry o => Sys2Proof.Machine.execOwnerLimpExpiry o s
  | .lOverrun k => Sys2Proof.Machine.execLOverrun k s
  | .classFWatchdog k => Sys2Proof.Machine.execClassFWatchdog k s
  | .keeperRestart m k keep => Sys2Proof.Machine.execKeeperRestart m k keep s
  | .add e rd rs1 rs2 => Sys2Proof.Machine.execAdd e rd rs1 rs2 s
  | .sub e rd rs1 rs2 => Sys2Proof.Machine.execSub e rd rs1 rs2 s
  | .and e rd rs1 rs2 => Sys2Proof.Machine.execAnd e rd rs1 rs2 s
  | .or e rd rs1 rs2 => Sys2Proof.Machine.execOr e rd rs1 rs2 s
  | .xor e rd rs1 rs2 => Sys2Proof.Machine.execXor e rd rs1 rs2 s
  | .shl e rd rs1 rs2 => Sys2Proof.Machine.execShl e rd rs1 rs2 s
  | .shr e rd rs1 rs2 => Sys2Proof.Machine.execShr e rd rs1 rs2 s
  | .sha e rd rs1 rs2 => Sys2Proof.Machine.execSha e rd rs1 rs2 s
  | .lts e rd rs1 rs2 => Sys2Proof.Machine.execLts e rd rs1 rs2 s
  | .ltu e rd rs1 rs2 => Sys2Proof.Machine.execLtu e rd rs1 rs2 s
  | .min e rd rs1 rs2 => Sys2Proof.Machine.execMin e rd rs1 rs2 s
  | .max e rd rs1 rs2 => Sys2Proof.Machine.execMax e rd rs1 rs2 s
  | .mul e rd rs1 rs2 => Sys2Proof.Machine.execMul e rd rs1 rs2 s
  | .mhs e rd rs1 rs2 => Sys2Proof.Machine.execMhs e rd rs1 rs2 s
  | .mhu e rd rs1 rs2 => Sys2Proof.Machine.execMhu e rd rs1 rs2 s
  | .divs e rd rs1 rs2 => Sys2Proof.Machine.execDivs e rd rs1 rs2 s
  | .divu e rd rs1 rs2 => Sys2Proof.Machine.execDivu e rd rs1 rs2 s
  | .mods e rd rs1 rs2 => Sys2Proof.Machine.execMods e rd rs1 rs2 s
  | .modu e rd rs1 rs2 => Sys2Proof.Machine.execModu e rd rs1 rs2 s
  | .addk e rd rs1 imm => Sys2Proof.Machine.execAddk e rd rs1 imm s
  | .andk e rd rs1 imm => Sys2Proof.Machine.execAndk e rd rs1 imm s
  | .ork e rd rs1 imm => Sys2Proof.Machine.execOrk e rd rs1 imm s
  | .xork e rd rs1 imm => Sys2Proof.Machine.execXork e rd rs1 imm s
  | .ltsk e rd rs1 imm => Sys2Proof.Machine.execLtsk e rd rs1 imm s
  | .ltuk e rd rs1 imm => Sys2Proof.Machine.execLtuk e rd rs1 imm s
  | .shk e rd rs1 kind amt => Sys2Proof.Machine.execShk e rd rs1 kind amt s
  | .hi e rd imm => Sys2Proof.Machine.execHi e rd imm s
  | .ldw e rd rs1 imm => Sys2Proof.Machine.execLdw e rd rs1 imm s
  | .ldh e rd rs1 imm => Sys2Proof.Machine.execLdh e rd rs1 imm s
  | .ldhu e rd rs1 imm => Sys2Proof.Machine.execLdhu e rd rs1 imm s
  | .ldb e rd rs1 imm => Sys2Proof.Machine.execLdb e rd rs1 imm s
  | .ldbu e rd rs1 imm => Sys2Proof.Machine.execLdbu e rd rs1 imm s
  | .stw e rs2 rs1 imm => Sys2Proof.Machine.execStw e rs2 rs1 imm s
  | .sth e rs2 rs1 imm => Sys2Proof.Machine.execSth e rs2 rs1 imm s
  | .stb e rs2 rs1 imm => Sys2Proof.Machine.execStb e rs2 rs1 imm s
  | .breq e rs1 rs2 off => Sys2Proof.Machine.execBreq e rs1 rs2 off s
  | .brne e rs1 rs2 off => Sys2Proof.Machine.execBrne e rs1 rs2 off s
  | .brlt e rs1 rs2 off => Sys2Proof.Machine.execBrlt e rs1 rs2 off s
  | .brge e rs1 rs2 off => Sys2Proof.Machine.execBrge e rs1 rs2 off s
  | .brlo e rs1 rs2 off => Sys2Proof.Machine.execBrlo e rs1 rs2 off s
  | .brhs e rs1 rs2 off => Sys2Proof.Machine.execBrhs e rs1 rs2 off s
  | .bkeq e rs1 k off => Sys2Proof.Machine.execBkeq e rs1 k off s
  | .bkne e rs1 k off => Sys2Proof.Machine.execBkne e rs1 k off s
  | .bklt e rs1 k off => Sys2Proof.Machine.execBklt e rs1 k off s
  | .bkge e rs1 k off => Sys2Proof.Machine.execBkge e rs1 k off s
  | .bklo e rs1 k off => Sys2Proof.Machine.execBklo e rs1 k off s
  | .bkhs e rs1 k off => Sys2Proof.Machine.execBkhs e rs1 k off s
  | .j e off => Sys2Proof.Machine.execJ e off s
  | .jal e off => Sys2Proof.Machine.execJal e off s
  | .jx e rs1 => Sys2Proof.Machine.execJx e rs1 s
  | .jalx e rd rs1 => Sys2Proof.Machine.execJalx e rd rs1 s
  | .ret e rs1 => Sys2Proof.Machine.execRet e rs1 s
  | .chr e r rs1 sp off => Sys2Proof.Machine.execChr e r rs1 sp off s
  | .rdc e r cr => Sys2Proof.Machine.execRdc e r cr s
  | .wrc e r cr => Sys2Proof.Machine.execWrc e r cr s
  | .rte e skip => Sys2Proof.Machine.execRte e skip s
  | .yield e => Sys2Proof.Machine.execYield e s
  | .callm e off => Sys2Proof.Machine.execCallm e off s
  | .retm e => Sys2Proof.Machine.execRetm e s
  | .trapEntry e cause word => Sys2Proof.Machine.execTrapEntry e cause word s
  | .coldStart fw => Sys2Proof.Machine.execColdStart fw s
  | .warmStart fw topo => Sys2Proof.Machine.execWarmStart fw topo s
  | .limpClr m => Sys2Proof.Machine.execLimpClr m s
  | .checkEnRequest m sub => Sys2Proof.Machine.execCheckEnRequest m sub s
  | .checkEnDisable m sub => Sys2Proof.Machine.execCheckEnDisable m sub s
  | .checkComplete flash => Sys2Proof.Machine.execCheckComplete flash s
  | .entryAbort kind index => Sys2Proof.Machine.execEntryAbort kind index s
  | .wake kind index multi => Sys2Proof.Machine.execWake kind index multi s
  | .powerBargeReceive state reqId origin apply => Sys2Proof.Machine.execPowerBargeReceive state reqId origin apply s
  | .domainIsolationRequest dom inFlight => Sys2Proof.Machine.execDomainIsolationRequest dom inFlight s
  | .domainDrained dom => Sys2Proof.Machine.execDomainDrained dom s
  | .forcedIsolation dom engines hosts blocks => Sys2Proof.Machine.execForcedIsolation dom engines hosts blocks s
  | .powerDomoffWrite m w => Sys2Proof.Machine.execPowerDomoffWrite m w s
  | .canFrameReceive c f => Sys2Proof.Machine.execCanFrameReceive c f s
  | .j1939Contention c name sa => Sys2Proof.Machine.execJ1939Contention c name sa s
  | .j1939Request c => Sys2Proof.Machine.execJ1939Request c s
  | .linScheduleSlot ch => Sys2Proof.Machine.execLinScheduleSlot ch s
  | .linSchedSwitch m ch table => Sys2Proof.Machine.execLinSchedSwitch m ch table s
  | .linFrameReceive ch id data => Sys2Proof.Machine.execLinFrameReceive ch id data s
  | .linError ch id kind dur => Sys2Proof.Machine.execLinError ch id kind dur s
  | .linHeader ch id breakBits rate => Sys2Proof.Machine.execLinHeader ch id breakBits rate s
  | .t1sFrameReceive p dest bytes bad => Sys2Proof.Machine.execT1sFrameReceive p dest bytes bad s
  | .plcaBeaconLost p => Sys2Proof.Machine.execPlcaBeaconLost p s
  | .sentFastFrame n cal status data crcOk ago => Sys2Proof.Machine.execSentFastFrame n cal status data crcOk ago s
  | .sentSlowMessage n kind id data => Sys2Proof.Machine.execSentSlowMessage n kind id data s
  | .sentTimeout n => Sys2Proof.Machine.execSentTimeout n s
  | .netpmXcvWrite m t w => Sys2Proof.Machine.execNetpmXcvWrite m t w s
  | .wksend m t => Sys2Proof.Machine.execWksend m t s
  | .canWakePattern c p1 p2 p3 total => Sys2Proof.Machine.execCanWakePattern c p1 p2 p3 total s
  | .linWake ch dur => Sys2Proof.Machine.execLinWake ch dur s
  | .selectiveWakeFrame c f remote err => Sys2Proof.Machine.execSelectiveWakeFrame c f remote err s
  | .runTransceiverWake t => Sys2Proof.Machine.execRunTransceiverWake t s
  | .linSleepFollow ch => Sys2Proof.Machine.execLinSleepFollow ch s
  | .keepAwakeFrame c ide id => Sys2Proof.Machine.execKeepAwakeFrame c ide id s
  | .keepAwakeTimeout c => Sys2Proof.Machine.execKeepAwakeTimeout c s
  | .tunnelFrameComplete src flashOk => Sys2Proof.Machine.execTunnelFrameComplete src flashOk s
  | .tunnelTimeout src => Sys2Proof.Machine.execTunnelTimeout src s
  | .pieceBargeAssembly src flashOk => Sys2Proof.Machine.execPieceBargeAssembly src flashOk s
  | .mlimpClr m => Sys2Proof.Machine.execMlimpClr m s
  | .faultStickyClear m w bits => Sys2Proof.Machine.execFaultStickyClear m w bits s
  | .logbookRecordDrop typ source index => Sys2Proof.Machine.execLogbookRecordDrop typ source index s
  | .eccReadError reader mram double addr => Sys2Proof.Machine.execEccReadError reader mram double addr s
  | .scrub mram err => Sys2Proof.Machine.execScrub mram err s
  | .checkUnitGo m u w => Sys2Proof.Machine.execCheckUnitGo m u w s
  | .checkUnitResult u => Sys2Proof.Machine.execCheckUnitResult u s
  | .modeReq m mode => Sys2Proof.Machine.execModeReq m mode s
  | .arm m => Sys2Proof.Machine.execArm m s
  | .abort m => Sys2Proof.Machine.execAbort m s
  | .dieReset die => Sys2Proof.Machine.execDieReset die s
  | .rawLevelChange j mv => Sys2Proof.Machine.execRawLevelChange j mv s
  | .pwmPeriodStart element => Sys2Proof.Machine.execPwmPeriodStart element s
  | .cameraRailVetoClear n t => Sys2Proof.Machine.execCameraRailVetoClear n t s
  | .noticeSend => Sys2Proof.Machine.execNoticeSend s
  | .lrstAsserted => Sys2Proof.Machine.execLrstAsserted s
  | .lockSetClose => Sys2Proof.Machine.execLockSetClose s
  | .larmRaise => Sys2Proof.Machine.execLarmRaise s
  | .lockStrobe => Sys2Proof.Machine.execLockStrobe s
  | .larmDrop => Sys2Proof.Machine.execLarmDrop s
  | .lifetimeCounterFlush => Sys2Proof.Machine.execLifetimeCounterFlush s
  | .trendDayClose => Sys2Proof.Machine.execTrendDayClose s
  | .trendFlush => Sys2Proof.Machine.execTrendFlush s
  | .bridgeSupplyReturnSlot => Sys2Proof.Machine.execBridgeSupplyReturnSlot s
  | .loopTick => Sys2Proof.Machine.execLoopTick s
  | .foOverRestartSlot => Sys2Proof.Machine.execFoOverRestartSlot s
  | .startClaimWaitEnd => Sys2Proof.Machine.execStartClaimWaitEnd s
  | .startTimeout => Sys2Proof.Machine.execStartTimeout s
  | .lowPowerEntry => Sys2Proof.Machine.execLowPowerEntry s
  | .commitPoint => Sys2Proof.Machine.execCommitPoint s
  | .lodgePowerDown => Sys2Proof.Machine.execLodgePowerDown s
  | .mooredToBerthed => Sys2Proof.Machine.execMooredToBerthed s
  | .wakeTimer => Sys2Proof.Machine.execWakeTimer s
  | .powerApplyTime => Sys2Proof.Machine.execPowerApplyTime s
  | .powerAckTimeout => Sys2Proof.Machine.execPowerAckTimeout s
  | .maxAwakeExpiry => Sys2Proof.Machine.execMaxAwakeExpiry s
  | .holdoffExpiry => Sys2Proof.Machine.execHoldoffExpiry s
  | .discovery => Sys2Proof.Machine.execDiscovery s
  | .recoveryComplete => Sys2Proof.Machine.execRecoveryComplete s
  | .waterwayJoin => Sys2Proof.Machine.execWaterwayJoin s
  | .syncSend => Sys2Proof.Machine.execSyncSend s
  | .holdoverEntry => Sys2Proof.Machine.execHoldoverEntry s
  | .holdoverExit => Sys2Proof.Machine.execHoldoverExit s
  | .waterwayTimeFlush => Sys2Proof.Machine.execWaterwayTimeFlush s
  | .reactionWindowEnd => Sys2Proof.Machine.execReactionWindowEnd s
  | .logbookRecordWrite => Sys2Proof.Machine.execLogbookRecordWrite s
  | .lfFrameSent => Sys2Proof.Machine.execLfFrameSent s
  | .carrierPhaseEnd => Sys2Proof.Machine.execCarrierPhaseEnd s
  | .gateSlotEnd => Sys2Proof.Machine.execGateSlotEnd s
  | .antiCollisionRound => Sys2Proof.Machine.execAntiCollisionRound s
  | .gateSessionEnd => Sys2Proof.Machine.execGateSessionEnd s
  | .gateDelayEnd => Sys2Proof.Machine.execGateDelayEnd s
  | .gateSessionAbandon => Sys2Proof.Machine.execGateSessionAbandon s
  | .recoveryModeTimeout => Sys2Proof.Machine.execRecoveryModeTimeout s
  | .ignitionOn => Sys2Proof.Machine.execIgnitionOn s
  | .releaseMessage => Sys2Proof.Machine.execReleaseMessage s
  | .ignitionOff => Sys2Proof.Machine.execIgnitionOff s
  | .updateComplete => Sys2Proof.Machine.execUpdateComplete s
  | .updateRecordSend => Sys2Proof.Machine.execUpdateRecordSend s
  | .quietPoint => Sys2Proof.Machine.execQuietPoint s
  | .quietTimeout => Sys2Proof.Machine.execQuietTimeout s
  | .firmwareResumed => Sys2Proof.Machine.execFirmwareResumed s
  | .handoverRollback => Sys2Proof.Machine.execHandoverRollback s
  | .keeperSwapStrobe => Sys2Proof.Machine.execKeeperSwapStrobe s
  | .wardenWatchdogExpiry => Sys2Proof.Machine.execWardenWatchdogExpiry s
  | .pllLossOfLock => Sys2Proof.Machine.execPllLossOfLock s
  | .canTxSof c => Sys2Proof.Machine.execCanTxSof c s
  | .canTxComplete c => Sys2Proof.Machine.execCanTxComplete c s
  | .canCancel m c obj => Sys2Proof.Machine.execCanCancel m c obj s
  | .canError c tx lec kind inData => Sys2Proof.Machine.execCanError c tx lec kind inData s
  | .boReq m c => Sys2Proof.Machine.execBoReq m c s
  | .busOffRecovered c => Sys2Proof.Machine.execBusOffRecovered c s
  | .collisionWindowExpiry c => Sys2Proof.Machine.execCollisionWindowExpiry c s
  | .rateDetection c kind minbit => Sys2Proof.Machine.execRateDetection c kind minbit s
  | .rateDetectionTimeout c => Sys2Proof.Machine.execRateDetectionTimeout c s
  | .j1939ClaimStart c => Sys2Proof.Machine.execJ1939ClaimStart c s
  | .j1939ClaimWindowEnd c => Sys2Proof.Machine.execJ1939ClaimWindowEnd c s
  | .aqPortLinkUp p => Sys2Proof.Machine.execAqPortLinkUp p s
  | .helloReceive p x => Sys2Proof.Machine.execHelloReceive p x s
  | .keepSend p => Sys2Proof.Machine.execKeepSend p s
  | .aqLinkDown p phyLost => Sys2Proof.Machine.execAqLinkDown p phyLost s
  | .bargeReceive p bytes => Sys2Proof.Machine.execBargeReceive p bytes s
  | .bargeTransmit p => Sys2Proof.Machine.execBargeTransmit p s
  | .treeReceive p root len path => Sys2Proof.Machine.execTreeReceive p root len path s
  | .addrReceive p serial addr pound len flags path hops => Sys2Proof.Machine.execAddrReceive p serial addr pound len flags path hops s
  | .linkstateReceive p addr x hops => Sys2Proof.Machine.execLinkstateReceive p addr x hops s
  | .flowSend n => Sys2Proof.Machine.execFlowSend n s
  | .syncReceive p sseq depth time stamp residence => Sys2Proof.Machine.execSyncReceive p sseq depth time stamp residence s
  | .delayMeasure p t1 t2 t3 t4 => Sys2Proof.Machine.execDelayMeasure p t1 t2 t3 t4 s
  | .piecePartsTimeout src => Sys2Proof.Machine.execPiecePartsTimeout src s
  | .logBargeRequest src first count => Sys2Proof.Machine.execLogBargeRequest src first count s
  | .gateGo m w => Sys2Proof.Machine.execGateGo m w s
  | .uhfIrq good carrier len frame => Sys2Proof.Machine.execUhfIrq good carrier len frame s
  | .learnCodeSubmit m hi => Sys2Proof.Machine.execLearnCodeSubmit m hi s
  | .eolDone m done => Sys2Proof.Machine.execEolDone m done s
  | .revoke m ridx => Sys2Proof.Machine.execRevoke m ridx s
  | .uhfReceiverFail lowDur => Sys2Proof.Machine.execUhfReceiverFail lowDur s
  | .arbitrationLost c => Sys2Proof.Machine.execArbitrationLost c s

end Sys2Proof.Machine
end

