-- ==== Sys2Proof/Machine/Tick.lean ====
section
/-! DEFINITION. The passing of the model's clock on an empty queue (log entry 1). -/

namespace Sys2Proof.Machine

/-- The time that one step on an empty queue stands for, in ns: one tick of 1 MHz (log entry 1). -/
def tickNs : Nat := 1000

/-- The part of the correction in this tick that works off the offset left, in ppm: as much as the limit of 500 ppm leaves
beside the rate correction (R427). -/
def slewPpm (s : State) : Int := if s.aq.slew = 0 then 0 else 500 * s.aq.slew.sign - s.aq.rate

/-- What corrections add to waterway time in this tick, in ns (R427). -/
def slewNs (s : State) : Int := (s.aq.ratePart + s.aq.rate + slewPpm s) / 1000

/-- What of the offset left is worked off in this tick, in ns. -/
def slewDone (s : State) : Int := (s.aq.slewPart + slewPpm s) / 1000

/-- The converters of every Pavilion whose measurement runs complete one slot (R127, R145, R147). -/
def slotsDone (s : State) : State :=
  (List.range 6).foldl (fun t b => if measRuns t (16 * b) then countSlots b 1 t else t) s

/-- Values that one update of the measured fields of a die draws. -/
def fieldDraws : Nat := 128

/-- The Arbour and the Glasshouse update their measured fields, each with values that no rule gives (R507, log entry
17). -/
def updateFields (s : State) : State :=
  [3, 4].foldl (fun t d =>
    { State.modDie d (fun x => { x with seen := t.draws + 1 }) t with draws := t.draws + fieldDraws }) s

/-- The measured fields are updated where a millisecond of the model's clock ends (R507). -/
def measured (s : State) : State := if s.now % 1000000 < tickNs then updateFields s else s

/-- The STATUS mirror gets the registers as this tick found them (R264). -/
def mirrorPush (s : State) : State :=
  { s with kp := { s.kp with
      mirror := (s.now, s.regs) :: s.kp.mirror.filter (fun e => decide (s.now < e.1 + 4 * tickNs)) } }

/-- The model's clock and waterway time advance by one tick, and what is left of an offset is slewed (R427); `prev` keeps
the registers as the instant before left them. -/
def clockOn (s : State) : State :=
  { s with
    now := s.now + tickNs, wwt := (s.wwt + tickNs + slewNs s).toNat, prev := s.regs
    aq := { s.aq with
      slew := s.aq.slew - slewDone s, slewPart := s.aq.slewPart + slewPpm s - 1000 * slewDone s
      ratePart := s.aq.ratePart + s.aq.rate + slewPpm s - 1000 * slewNs s } }

/-- The passing of one tick: the mirror takes what the dies have reported, the clock moves on, and the converters, the
dither periods, the beacons of 10BASE-T1S, the HELLO barges (R412), the measured fields and a Warden hand-over (R487) run with it (log entry 1). -/
def State.tick (s : State) : State := firmwareSwitch (hellosDue (measured (sendBeacons (ditherTick (slotsDone (clockOn (mirrorPush s)))))))

end Sys2Proof.Machine
end

