-- ==== Sys2Proof/Safety.lean ====
section
/-! DEFINITION. The terms that claims about runs are stated in: what a command does at a state, and the invariants
that hold between commands. -/

namespace Sys2Proof.Machine

/-- Command `c` at `s` answers a next state, and `P` holds of it. -/
def Runs (c : Instr) (s : State) (P : State → Prop) : Prop := ∃ t, exec c s = .next t ∧ P t

/-- No captured fault waits for its reaction: the fault collector has finished with what commands raised (R440 to
R443). -/
abbrev Calm (s : State) : Prop := s.rep.capture = []

/-- Memory stands in its canonical form, so that equal memories are equal data. -/
abbrev MemoryOk (s : State) : Prop := Memory.wf s.mem = true

/-- One step of the machine keeps `P`: whatever command waits in front, and where none does. -/
def KeptByStep (P : State → Prop) : Prop := ∀ s t, P s → step s = .next t → P t

/-- A safe run: `n` steps from `s` end in a next state. -/
def RunsSafely (n : Nat) (s : State) : Prop := ∃ t, Sys2Proof.core.run n s = .next t

/-- Registers that a report of an event or a fault may write: HOST_EVCNT, HOST_EVPEND, the fault collector and
LOG_STAT. -/
def reportReg (a : Nat) : Bool :=
  decide (0x400D1400 ≤ a ∧ a < 0x400D1840) || decide (0x400E0000 ≤ a ∧ a < 0x400E001C) || a == 0x400F0010

/-- The registers of `t` are those of `s` but for the ones in `l`, for those that a report writes, and for
NETPM_STAT, where the maximum-awake timer shows (R389). -/
def OnlyRegs (l : List Nat) (s t : State) : Prop :=
  ∀ a, a ∉ l → reportReg a = false → a ≠ NETPM_STAT → t.reg a = s.reg a

/-! ### What an instruction of a Tiller engine does (R276 to R288) -/

/-- The engine after `n` more instructions have issued that write no register. -/
def Engine.agedBy : Nat → Engine → Engine
  | 0, g => g
  | n + 1, g => g.issue.agedBy n

/-- Engine `e` fetches and issues an instruction at `s` (R281). -/
abbrev Issues (s : State) (e : Nat) : Prop :=
  engRuns s e = true ∧ cycleSpent s e = false ∧ overBudget s e = false ∧ (s.eng e).ctx.pc.toNat < codeTop e

/-- Register `r` as the instruction that engine `e` issues at `s` reads it (R285). -/
abbrev sees (s : State) (e : Nat) (r : Fin 32) : Word := (s.eng e).issue.x r

/-- From `s` to `t` engine `e` has gone on to the next instruction, and no other engine, no register of the
map but those of reports, and no byte of memory has changed. -/
def WentOn (s t : State) (e : Nat) : Prop :=
  (t.eng e).ctx.pc = (s.eng e).ctx.npc ∧ (t.eng e).ctx.npc = (s.eng e).ctx.npc + 4#32 ∧
  (t.eng e).ctx.ds = false ∧ (∀ k, k ≠ e → t.eng k = s.eng k) ∧ OnlyRegs [] s t ∧ t.mem = s.mem

/-- Of the registers of engine `e` only `rd` takes a new value: `v`, read first by the `d`-th later instruction;
until then it reads as before (R285 to R287); x0 keeps nothing (R276). -/
def Gives (s t : State) (e : Nat) (rd : Fin 32) (d : Nat) (v : Word) : Prop :=
  (∀ n, n < d → ((t.eng e).agedBy n).x rd = sees s e rd) ∧
  (rd ≠ 0 → ((t.eng e).agedBy d).x rd = v) ∧
  (∀ n r, r ≠ rd → ((t.eng e).agedBy n).x r = (((s.eng e).issue).agedBy n).x r)

/-- Instruction `c` of engine `e` writes `v` to `rd` with result distance `d`, and does nothing else. -/
def Yields (c : Instr) (s : State) (e : Nat) (rd : Fin 32) (d : Nat) (v : Word) : Prop :=
  Runs c s fun t => WentOn s t e ∧ Gives s t e rd d v

/-- From `s` to `t` engine `e` has entered the delay slot of a branch or jump, after which it goes on at
`next` (R282); its registers stand but for `rd`, which the delay slot reads as `v`. -/
def Jumped (s t : State) (e : Nat) (next : Word) (rd : Fin 32) (v : Word) : Prop :=
  (t.eng e).ctx.pc = (s.eng e).ctx.npc ∧ (t.eng e).ctx.npc = next ∧ (t.eng e).ctx.ds = true ∧
  Gives s t e rd 1 v ∧ (∀ k, k ≠ e → t.eng k = s.eng k) ∧ OnlyRegs [] s t ∧ t.mem = s.mem

/-- Instruction `c` of engine `e` is a compare-and-branch that goes to `target` where `cond` holds, and to the
instruction after its delay slot where not. -/
def Branches (c : Instr) (s : State) (e : Nat) (cond : Prop) [Decidable cond] (target : Word) : Prop :=
  Runs c s fun t =>
    Jumped s t e (if cond then target &&& 0xFFFFFFFC#32 else (s.eng e).ctx.npc + 4#32) 0 0#32

/-- Every byte of memory but those from key `lo` up to `hi` is as it was. -/
def SameBytes (s t : State) (lo hi : Nat) : Prop := ∀ a, a < lo ∨ hi ≤ a → t.byte a = s.byte a

/-- The `n` bytes at key `k` hold `v` little-endian, and every other byte of memory is as it was. -/
def Stored (s t : State) (k n v : Nat) : Prop :=
  t.bytesLE k n = v % 256 ^ n ∧ SameBytes s t k (k + n)

/-- Instruction `c` of engine `e`, whose word is `w`, traps in a delay slot as a reserved opcode and does nothing
else (R283, R292). -/
def TrapsReserved (c : Instr) (s : State) (e : Nat) (w : Word) : Prop :=
  Runs c s fun t =>
    (t.eng e).ctx.trap.cause = 1 ∧ (t.eng e).ctx.trap.inst = w ∧ (t.eng e).ctx.trap.tds = true ∧
    (t.eng e).ctx.pc = (s.eng e).evec ∧ t.mem = s.mem ∧ OnlyRegs [KEEPER_STAT e, KEEPER_TRAP e, KEEPER_TPC e] s t

/-! ### What commands may store to -/

/-- The commands that may store to memory: stores and CALLM, loads of SRAM at starts and in hand-overs, pieces of
an update, and the host commands and register writes that such effects hang on. -/
def mayStore (c : Instr) : Bool :=
  match c with
  | .read _ _ | .write _ _ _ | .blockRead _ _ _ | .sessionOpen _ _ _ _ _ _ | .power _ _ _
  | .piece _ _ _ _ _ | .logRead _ _ _ | .logClear _ _ | .enable _ _ _ | .unknownType _ _
  | .tunnelFrameComplete _ _ | .pieceBargeAssembly _ _ | .lodgePowerDown | .mooredToBerthed | .coldStart _
  | .warmStart _ _ | .checkComplete _ | .stw _ _ _ _ | .sth _ _ _ _ | .stb _ _ _ _ | .callm _ _
  | .updateComplete | .quietPoint | .firmwareResumed | .handoverRollback | .keeperSwapStrobe
  | .registerWrite _ _ _ | .checkEnRequest _ _ | .checkEnDisable _ _ | .limpClr _ | .mlimpClr _ | .arm _
  | .abort _ | .keeperRestart _ _ _ | .dieAccessTimeout _ _ _ _ => true
  | _ => false

/-! ### What a host command does (R50 to R58) -/

/-- A command frame without encryption arrives for this module at a path of its own without a session, and
nothing keeps it from running (R50 to R55, R67, R488). -/
abbrev PlainFrame (s : State) (h : HostHdr) : Prop :=
  pathOff s h = false ∧ outstanding s (pathCode h.path) = 0 ∧ pausing s = false ∧ s.upd.waiting = [] ∧ h.dest = 0 ∧ h.fits = true ∧
  h.path ≠ 1 ∧ h.enc = false ∧
  (s.host (pathCode h.path)).level = 0 ∧ (s.host (pathCode h.path)).prov = false ∧ startState s ≠ 5

/-- An encrypted command frame with a new SEQ and the right tag arrives in a service session of a path of its
own, and nothing keeps it from running (R50 to R56, R67, R488). -/
abbrev SealedFrame (s : State) (h : HostHdr) : Prop :=
  pathOff s h = false ∧ outstanding s (pathCode h.path) = 0 ∧ pausing s = false ∧ s.upd.waiting = [] ∧ h.dest = 0 ∧ h.fits = true ∧
  h.path ≠ 1 ∧ h.enc = true ∧
  (s.host (pathCode h.path)).level = 2 ∧ (s.host (pathCode h.path)).prov = false ∧ startState s ≠ 5 ∧
  sessionOver s (pathCode h.path) = false ∧ (s.host (pathCode h.path)).lastSeq < h.seq ∧
  h.tag = (Config.gcmTag (s.host (pathCode h.path)).keyIn (nonceOf (s.host (pathCode h.path)).saltIn h.seq)
    (h.covered.take 6) (h.covered.drop 6)).toNat

/-- One frame has gone out on path `m`: TYPE, REF and payload as given, encrypted where a session was open
(R50, R55). -/
abbrev Sends (s t : State) (m typ ref : Nat) (payload : List Nat) : Prop :=
  t.out = s.out ++ [.frame m typ ref (originAddr s) (sealed m typ ref payload s).1 (sealed m typ ref payload s).2]

/-- A NAK has gone out on path `m` and is counted (R57, R58, R68). -/
abbrev Naks (s t : State) (m ref reason detail : Nat) : Prop :=
  Sends s t m 0x7F ref (reason :: leBytes 3 detail) ∧
  t.fld HOST_STAT HOST_STAT_NAK_CNT = satInc (2 ^ HOST_STAT_NAK_CNT.w - 1) (s.fld HOST_STAT HOST_STAT_NAK_CNT)

end Sys2Proof.Machine
end

