-- ==== Sys2Proof/Certificates/Slice0/Obligations.lean ====
section
/-! DEFINITION. The statements for the provers. `Runs c s P` says that the command `c` answers a next state at `s`
and that `P` holds of it; `Calm s` is the invariant that no captured fault waits for its reaction. -/

open Sys2Proof Sys2Proof.Machine

/-- With VBAT in Full (BAND 2), below 8.0 V for 10 us the band becomes Reduced (1); in Reduced, above 8.5 V for 10
us it becomes Full; a level that has stood for less than 5 us changes no band. BATT_SENSE below -0.3 V for 2 us,
with RVACT = 0 and VBAT in Dropout, sets RVACT and REVERSE and opens the gate; above 3.0 V for 50 us it clears
RVACT and drives the gate. Outside low power, LV below 4.2 V for 2 us puts the Lodge into reset with LRST
asserted, and LV above 4.6 V for 1 ms releases LRST and is the trigger of the start. The clauses list the
registers that may change. Derived from parts of R69, R70, R73. -/
def Obligations.SupplyBands : Prop :=
  (∀ (mv dur : Nat) (s : State),
      Calm s → s.fld SUPPLY_STAT SUPPLY_STAT_BAND = 2 → mv < 8000 → 10000 ≤ dur →
      Runs (.vbatBandChange mv dur) s fun t =>
        t.fld SUPPLY_STAT SUPPLY_STAT_BAND = 1 ∧
        OnlyRegs [SUPPLY_STAT, SUPPLY_VOLT, SUPPLY_RES_STAT, SUPPLY_RIDE_CNT] s t) ∧
  (∀ (mv dur : Nat) (s : State),
      Calm s → s.fld SUPPLY_STAT SUPPLY_STAT_BAND = 1 → 8500 < mv → 10000 ≤ dur →
      Runs (.vbatBandChange mv dur) s fun t =>
        t.fld SUPPLY_STAT SUPPLY_STAT_BAND = 2 ∧
        OnlyRegs [SUPPLY_STAT, SUPPLY_VOLT, SUPPLY_RES_STAT, SUPPLY_RIDE_CNT] s t) ∧
  (∀ (mv dur : Nat) (s : State),
      Calm s → dur < 5000 →
      Runs (.vbatBandChange mv dur) s fun t =>
        t.fld SUPPLY_STAT SUPPLY_STAT_BAND = s.fld SUPPLY_STAT SUPPLY_STAT_BAND ∧
        OnlyRegs [SUPPLY_STAT, SUPPLY_VOLT, SUPPLY_RES_STAT, SUPPLY_RIDE_CNT] s t) ∧
  (∀ (mv : Int) (dur : Nat) (s : State),
      Calm s → mv < -300 → 2000 ≤ dur → s.fld SUPPLY_STAT SUPPLY_STAT_RVACT = 0 →
      s.fld SUPPLY_STAT SUPPLY_STAT_BAND = 0 → actingReact s 26 = 0 → resetOverdue s = false →
      Runs (.reverseDetected mv dur) s fun t =>
        t.fld SUPPLY_STAT SUPPLY_STAT_RVACT = 1 ∧
        t.fld SUPPLY_STAT SUPPLY_STAT_REVERSE = 1 ∧
        t.fld SUPPLY_STAT SUPPLY_STAT_BAND = 0 ∧
        t.sup.gate = false ∧
        OnlyRegs [SUPPLY_STAT] s t) ∧
  (∀ (mv : Int) (dur : Nat) (s : State),
      Calm s → 3000 < mv → 50000 ≤ dur →
      Runs (.reverseCleared mv dur) s fun t =>
        t.fld SUPPLY_STAT SUPPLY_STAT_RVACT = 0 ∧
        t.sup.gate = true ∧
        OnlyRegs [SUPPLY_STAT] s t) ∧
  (∀ (mv dur : Nat) (s : State),
      Calm s → mv < 4200 → 2000 ≤ dur → lowPower s = false → s.start.lodgeDown = false →
      Runs (.lvUndervoltageReset mv dur) s fun t =>
        t.start.lodgeDown = true ∧
        t.lock.lrst = true) ∧
  (∀ (mv dur : Nat) (s : State),
      Calm s → 4600 < mv → 1000000 ≤ dur → s.start.lodgeDown = true → lowPower s = false →
      Runs (.lodgeRestart mv dur) s fun t =>
        t.lock.lrst = false ∧
        t.start.trigger = s.now)

/-- A write of BOOST_EN that its master may make writes the bit. With VBAT in Full a FULL reservoir whose VRES has
fallen 1 V below VRES_TGT goes to BOOST. In PRECHARGE begun 5 ms ago, with VRES never at 2.0 V, the reservoir
enters FAULT with SHORT; in BOOST with precharge begun 400 ms ago, with VRES never at 40 V, FAULT with TIMEOUT.
In a cold start with VRES_TGT of 64 V or more CAP_EST becomes the charge over the 24 V in units of 10 uF, at
most 1023. At 76 V the diversion is on, OVP is set and no valve decays into VRES; below 74 V for 100 us the
diversion ends. The clauses list the registers that may change. Derived from parts of R74, R76, R77, R81, R92. -/
def Obligations.ReservoirStates : Prop :=
  (∀ (m : Fin 12) (v : Bool) (s : State),
      Calm s → masterUp s m = true → privileged s m = true →
      accessError s (SUPPLY_RES_CFG + setView) = 0 → accessError s (SUPPLY_RES_CFG + clearView) = 0 →
      locking s 0 = false →
      Runs (.boostEnWrite m v) s fun t =>
        t.fld SUPPLY_RES_CFG SUPPLY_RES_CFG_BOOST_EN = b2n v ∧
        OnlyRegs [SUPPLY_RES_CFG, SUPPLY_RES_STAT, SUPPLY_RIDE_CNT] s t) ∧
  (∀ (vres vbat : Nat) (s : State),
      Calm s → s.fld SUPPLY_RES_STAT SUPPLY_RES_STAT_STATE = 3 → s.fld SUPPLY_STAT SUPPLY_STAT_BAND = 2 →
      vres + 1000 ≤ vresTarget s → vbat ≤ vres + 1000 →
      Runs (.reservoirLevelChange vres vbat) s fun t =>
        t.fld SUPPLY_RES_STAT SUPPLY_RES_STAT_STATE = 2 ∧
        OnlyRegs [SUPPLY_RES_STAT, SUPPLY_VOLT, SUPPLY_RIDE_CNT] s t) ∧
  (∀ (vres b : Nat) (s : State),
      Calm s → s.fld SUPPLY_RES_STAT SUPPLY_RES_STAT_STATE = 1 → s.sup.prechargeStart = some b →
      b + 5000000 ≤ s.now → vres < 2000 → s.sup.vresTop < 2000 → actingReact s 24 = 0 →
      resetOverdue s = false →
      Runs (.reservoirShort vres) s fun t =>
        t.fld SUPPLY_RES_STAT SUPPLY_RES_STAT_STATE = 5 ∧
        t.fld SUPPLY_RES_STAT SUPPLY_RES_STAT_SHORT = 1 ∧
        OnlyRegs [SUPPLY_RES_STAT, SUPPLY_VOLT, SUPPLY_RIDE_CNT] s t) ∧
  (∀ (vres b : Nat) (s : State),
      Calm s → s.fld SUPPLY_RES_STAT SUPPLY_RES_STAT_STATE = 2 → s.sup.prechargeStart = some b →
      b + 400000000 ≤ s.now → vres < 40000 → s.sup.vresTop < 40000 → s.sup.vbat ≤ vres + 1000 →
      actingReact s 24 = 0 → resetOverdue s = false →
      Runs (.reservoirTimeout vres) s fun t =>
        t.fld SUPPLY_RES_STAT SUPPLY_RES_STAT_STATE = 5 ∧
        t.fld SUPPLY_RES_STAT SUPPLY_RES_STAT_TIMEOUT = 1 ∧
        OnlyRegs [SUPPLY_RES_STAT, SUPPLY_VOLT, SUPPLY_RIDE_CNT] s t) ∧
  (∀ (charge : Nat) (s : State),
      Calm s → 64000 ≤ vresTarget s → s.fld CHECK_START CHECK_START_KIND = 0 → actingReact s 27 = 0 →
      resetOverdue s = false →
      Runs (.capEstimate charge) s fun t =>
        t.fld SUPPLY_RES_STAT SUPPLY_RES_STAT_CAP_EST = min (charge / 240) 1023 ∧
        OnlyRegs [SUPPLY_RES_STAT] s t) ∧
  (∀ (vres : Nat) (mj : List Nat) (s : State),
      Calm s → 76000 ≤ vres → s.sup.diverted = false →
      Runs (.valveDecayDivert ⟨vres, mj⟩) s fun t =>
        t.sup.diverted = true ∧
        t.fld SUPPLY_RES_STAT SUPPLY_RES_STAT_OVP = 1 ∧
        (∀ v : Fin 24, (t.valve v).decayFast = false) ∧
        OnlyRegs [SUPPLY_RES_STAT, SUPPLY_VOLT, SUPPLY_RIDE_CNT, SLU_REC 0, SLU_REC 1, SLU_REC 2, SLU_REC 3] s t) ∧
  (∀ (vres dur : Nat) (s : State),
      Calm s → vres < 74000 → 100000 ≤ dur → s.sup.diverted = true →
      Runs (.valveDecayReturn vres dur) s fun t =>
        t.sup.diverted = false ∧
        OnlyRegs [SUPPLY_VOLT, SUPPLY_RES_STAT, SUPPLY_RIDE_CNT] s t)

/-- A camera rail whose load is below its shed level is marked SHED_V, and is off if it was on; a backlight below
its level is marked shed; a level 6 V above for 1 ms ends the mark. EN = 0 turns a rail off and clears LATCHED
and RETRIES. A rail 15 percent above its set voltage for 10 us latches with OV and has no retry; one at its
current limit for 2 ms with retries left latches with OC and has a retry 100 ms later. A due retry without veto
or shed, from a reservoir that carries it, turns the rail on and counts. Summed power above 4.8 W for 1 s turns
off the rail that ranks lowest, with LATCHED and SHED_P. Below 135 C the veto of a rail ends. The six
temperatures are stored in two's complement. Derived from parts of R82, R84, R85, R86, R87, R90, R92. -/
def Obligations.ShedAndRails : Prop :=
  (∀ (load : Fin 10) (vres : Nat) (s : State),
      Calm s → load < 6 → vres < railShedLevel s load → s.fld (CR_STAT load) CR_STAT_SHED_V = 0 →
      Runs (.loadShed load vres) s fun t =>
        t.fld (CR_STAT load) CR_STAT_SHED_V = 1 ∧
        (s.fld (CR_STAT load) CR_STAT_ON = 1 → t.fld (CR_STAT load) CR_STAT_ON = 0) ∧
        OnlyRegs [CR_STAT load, SUPPLY_VOLT, SUPPLY_RES_STAT, SUPPLY_RIDE_CNT] s t) ∧
  (∀ (load : Fin 10) (vres : Nat) (s : State),
      Calm s → 6 ≤ load.val → vres < shedLevel load s → isShed load s = false →
      Runs (.loadShed load vres) s fun t =>
        isShed load t = true) ∧
  (∀ (load : Fin 10) (vres dur : Nat) (s : State),
      Calm s → shedLevel load s + 6000 ≤ vres → 1000000 ≤ dur → isShed load s = true →
      Runs (.shedRestart load vres dur) s fun t =>
        isShed load t = false) ∧
  (∀ (m : Fin 12) (n : Fin 6) (s : State),
      Calm s → masterUp s m = true → privileged s m = true → accessError s (CR_CFG n + clearView) = 0 →
      locking s 0 = false →
      Runs (.cameraRailEnable m n false) s fun t =>
        t.fld (CR_CFG n) CR_CFG_EN = 0 ∧
        t.fld (CR_STAT n) CR_STAT_ON = 0 ∧
        t.fld (CR_STAT n) CR_STAT_LATCHED = 0 ∧
        t.fld (CR_STAT n) CR_STAT_RETRIES = 0 ∧
        OnlyRegs [CR_CFG n, CR_STAT n] s t) ∧
  (∀ (n : Fin 6) (level dur : Nat) (s : State),
      Calm s → s.fld (CR_STAT n) CR_STAT_ON = 1 → railVset s n * 115 < level * 100 → 10000 ≤ dur →
      actingReact s 23 = 0 → resetOverdue s = false →
      Runs (.cameraRailLatch n 2 level dur) s fun t =>
        t.fld (CR_STAT n) CR_STAT_ON = 0 ∧
        t.fld (CR_STAT n) CR_STAT_LATCHED = 1 ∧
        t.fld (CR_STAT n) CR_STAT_OV = 1 ∧
        (t.rail n).retryDue = none ∧
        OnlyRegs [CR_STAT n] s t) ∧
  (∀ (n : Fin 6) (level dur : Nat) (s : State),
      Calm s → s.fld (CR_STAT n) CR_STAT_ON = 1 → railIlim s n ≤ level → 2000000 ≤ dur →
      s.fld (CR_STAT n) CR_STAT_RETRIES < s.fld (CR_CFG n) CR_CFG_RETRY → actingReact s 23 = 0 →
      resetOverdue s = false →
      Runs (.cameraRailLatch n 0 level dur) s fun t =>
        t.fld (CR_STAT n) CR_STAT_ON = 0 ∧
        t.fld (CR_STAT n) CR_STAT_LATCHED = 1 ∧
        t.fld (CR_STAT n) CR_STAT_OC = 1 ∧
        (t.rail n).retryDue = some (s.now + 100000000) ∧
        OnlyRegs [CR_STAT n] s t) ∧
  (∀ (n : Fin 6) (d : Nat) (s : State),
      Calm s → (s.rail n).retryDue = some d → d ≤ s.now → (s.rail n).veto = false →
      s.fld (CR_STAT n) CR_STAT_SHED_V = 0 → resCarries s = true → s.fld (CR_STAT n) CR_STAT_RETRIES < 7 →
      Runs (.cameraRailRetry n) s fun t =>
        t.fld (CR_STAT n) CR_STAT_ON = 1 ∧
        t.fld (CR_STAT n) CR_STAT_LATCHED = 0 ∧
        t.fld (CR_STAT n) CR_STAT_RETRIES = s.fld (CR_STAT n) CR_STAT_RETRIES + 1 ∧
        OnlyRegs [CR_STAT n] s t) ∧
  (∀ (n : Fin 6) (power dur : Nat) (s : State),
      Calm s → 4800 < power → 1000000 ≤ dur → sumWindow s = true → powerShedRail s = some n.val →
      Runs (.cameraRailPowerShed power dur) s fun t =>
        t.fld (CR_STAT n) CR_STAT_ON = 0 ∧
        t.fld (CR_STAT n) CR_STAT_LATCHED = 1 ∧
        t.fld (CR_STAT n) CR_STAT_SHED_P = 1 ∧
        OnlyRegs [CR_STAT n, SUPPLY_CR_SUM] s t) ∧
  (∀ (n : Fin 6) (x : Int) (s : State),
      Calm s → x < 135 → (s.rail n).veto = true →
      Runs (.cameraRailVetoClear n x) s fun t =>
        (t.rail n).veto = false) ∧
  (∀ (t0 t1 t2 t3 t4 t5 : Int) (s : State),
      Calm s → actingReact s 63 = 0 →
      Runs (.temperatureRead t0 t1 t2 t3 t4 t5) s fun t =>
        t.fld (SUPPLY_TEMP 0) SUPPLY_TEMP_TEMP = twos 16 t0 ∧
        t.fld (SUPPLY_TEMP 1) SUPPLY_TEMP_TEMP = twos 16 t1 ∧
        t.fld (SUPPLY_TEMP 2) SUPPLY_TEMP_TEMP = twos 16 t2 ∧
        t.fld (SUPPLY_TEMP 3) SUPPLY_TEMP_TEMP = twos 16 t3 ∧
        t.fld (SUPPLY_TEMP 4) SUPPLY_TEMP_TEMP = twos 16 t4 ∧
        t.fld (SUPPLY_TEMP 5) SUPPLY_TEMP_TEMP = twos 16 t5 ∧
        OnlyRegs [SUPPLY_TEMP 0, SUPPLY_TEMP 1, SUPPLY_TEMP 2, SUPPLY_TEMP 3, SUPPLY_TEMP 4, SUPPLY_TEMP 5] s t)

/-- Outside the inrush window an over-current of OC_FILT latches the governing channel of the one named with OCL,
and leaves the STAT of every other channel as it was; inside the window a hard limit of 4 ms of on-time latches
it with HLIM and ends the window. A window that ends in INRUSH leads to ON. TJ of 170 C sets VETO_T, stores TJ
and latches a live governing channel with THERM; below 145 C VETO_T is 0. A pair that carries more than 2 A in
sum, all of it in one half, for 10 ms raises its event. Derived from parts of R101, R102, R103, R104, R105,
R108. -/
def Obligations.ChannelLatches : Prop :=
  (∀ (ch : Fin 96) (ma dur : Nat) (s : State),
      Calm s → pavLive s (govern s ch) = true → (s.chan (govern s ch)).inrEnd = none →
      pavNominal s (govern s ch) * ocPercent s (govern s ch) < ma * 100 →
      ocFilter s (govern s ch) ≤ ocCount s (govern s ch) ma dur false →
      actingReact s (8 + govern s ch / 16) = 0 → resetOverdue s = false →
      Runs (.ocLatch ch ma dur false) s fun t =>
        t.fld (PAV_STAT (govern s ch)) PAV_STAT_STATE = 4 ∧
        t.fld (PAV_STAT (govern s ch)) PAV_STAT_OCL = 1 ∧
        (∀ c : Fin 96, c.val ≠ govern s ch → t.reg (PAV_STAT c) = s.reg (PAV_STAT c)) ∧
        OnlyRegs [PAV_STAT (govern s ch), PAV_STAT ch, MEAS_DIAG (govern s ch)] s t) ∧
  (∀ (ch : Fin 96) (e dur : Nat) (s : State),
      Calm s → pavLive s (govern s ch) = true → (s.chan (govern s ch)).inrEnd = some e → s.now < e →
      4000000 ≤ onTotal s (govern s ch) → 4000000 ≤ dur → actingReact s (8 + govern s ch / 16) = 0 →
      resetOverdue s = false →
      Runs (.hlimLatch ch dur) s fun t =>
        t.fld (PAV_STAT (govern s ch)) PAV_STAT_STATE = 4 ∧
        t.fld (PAV_STAT (govern s ch)) PAV_STAT_HLIM = 1 ∧
        (t.chan (govern s ch)).inrEnd = none ∧
        OnlyRegs [PAV_STAT (govern s ch), PAV_STAT ch, MEAS_DIAG (govern s ch)] s t) ∧
  (∀ (ch : Fin 96) (e : Nat) (s : State),
      Calm s → (s.chan (govern s ch)).inrEnd = some e → e ≤ s.now → pavState s (govern s ch) = pavInrush →
      Runs (.inrushWindowEnd ch) s fun t =>
        pavState t (govern s ch) = pavOn ∧
        (t.chan (govern s ch)).inrEnd = none ∧
        OnlyRegs [PAV_STAT ch] s t) ∧
  (∀ (ch : Fin 96) (tj : Int) (s : State),
      Calm s → 170 ≤ tj → tj ≤ 200 → s.fld (PAV_STAT ch) PAV_STAT_VETO_T = 0 →
      pavLive s (govern s ch) = true → actingReact s (8 + govern s ch / 16) = 0 → resetOverdue s = false →
      Runs (.thermalLatch ch tj) s fun t =>
        t.fld (PAV_STAT ch) PAV_STAT_VETO_T = 1 ∧
        t.fld (PAV_STAT ch) PAV_STAT_TJ = (tj + 55).toNat ∧
        pavState t (govern s ch) = pavLatched ∧
        t.fld (PAV_STAT (govern s ch)) PAV_STAT_THERM = 1 ∧
        OnlyRegs [PAV_STAT ch, PAV_STAT (govern s ch), MEAS_DIAG (govern s ch)] s t) ∧
  (∀ (ch : Fin 96) (tj : Int) (s : State),
      Calm s → tj < 145 → s.fld (PAV_STAT ch) PAV_STAT_VETO_T = 1 →
      Runs (.vetoClear ch tj) s fun t =>
        t.fld (PAV_STAT ch) PAV_STAT_VETO_T = 0 ∧
        OnlyRegs [PAV_STAT ch, PAV_STAT (govern s ch), MEAS_DIAG (govern s ch), MEAS_IV (govern s ch)] s t) ∧
  (∀ (ch : Fin 96) (ia ib dur : Nat) (s : State),
      Calm s → paired s (govern s ch) = true → pavLive s (govern s ch) = true → 2000 < ia + ib → ia = 0 →
      10000000 ≤ dur → evOn s 29 = true → dieReports s (dieOfPav (govern s ch / 16)) = true →
      Runs (.pairImbalance ch ia ib dur) s fun t =>
        t.fld (HOST_EVCNT 29) HOST_EVCNT_COUNT = min (s.fld (HOST_EVCNT 29) HOST_EVCNT_COUNT + 1) 65535 ∧
        OnlyRegs [] s t)

/-- Where limp does not bar the sender and the Pavilion serves: an on word on a channel in OFF with its pin, no veto
and no undervoltage leaves it live, stores ON and DUTY and counts the turn-on; an off word leaves it in OFF; CLR
on a LATCHED channel with a demand leaves it live with RETRIES 0. A due retry leaves its channel live and counts
in RETRIES. A soft start that has ended leads to ON at DUTY. The wire model takes one step. A write of the wire
constants that its master may make stores them. VBAT below UV_TH for 10 us marks the class under undervoltage,
and UV_TH plus the hysteresis for 1 ms ends it; a restart slot takes the first channel of the queue and the next
follows 50 us later. The lifetime counts of every die that reports are added to the saved ones, held at their
largest value. A PWM period takes the duty in effect, its pulse after repayment and the time of the next.
Derived from parts of R97, R100, R101, R107, R109, R111, R112, R113, R121. -/
def Obligations.ChannelCommands : Prop :=
  (∀ (m : Fin 12) (ch : Fin 96) (w : Word) (s : State),
      Calm s → limpBars s m = false → govern s ch = ch.val → serving s (ch / 16) = true →
      pavDemand s ch = false → pavState s ch = pavOff → pinFirst s (pinOfPav ch) = true →
      pavVeto s ch = false → pavUvNow s (ch / 16) = false → fget PAV_CMD_ON w = 1 →
      fget PAV_CMD_DUTY w ≠ 0 →
      Runs (.pavCmdWrite ⟨m, false⟩ ch w) s fun t =>
        pavLive t ch = true ∧
        t.fld (PAV_CMD ch) PAV_CMD_ON = 1 ∧
        t.fld (PAV_CMD ch) PAV_CMD_DUTY = fget PAV_CMD_DUTY w ∧
        (t.chan ch).swDie = (s.chan ch).swDie + 1 ∧
        OnlyRegs [PAV_CMD ch, PAV_STAT ch, MEAS_DIAG ch, MEAS_IV ch] s t) ∧
  (∀ (m : Fin 12) (ch : Fin 96) (w : Word) (s : State),
      Calm s → limpBars s m = false → govern s ch = ch.val → serving s (ch / 16) = true →
      fget PAV_CMD_ON w = 0 →
      Runs (.pavCmdWrite ⟨m, false⟩ ch w) s fun t =>
        pavState t ch = pavOff ∧
        t.fld (PAV_CMD ch) PAV_CMD_ON = 0 ∧
        OnlyRegs [PAV_CMD ch, PAV_STAT ch, MEAS_DIAG ch] s t) ∧
  (∀ (m : Fin 12) (ch : Fin 96) (s : State),
      Calm s → limpBars s m = false → govern s ch = ch.val → serving s (ch / 16) = true →
      pavDemand s ch = true → pavState s ch = pavLatched → pinFirst s (pinOfPav ch) = true →
      pavVeto s ch = false → pavUvNow s (ch / 16) = false →
      Runs (.pavClr ⟨m, false⟩ ch) s fun t =>
        pavLive t ch = true ∧
        t.fld (PAV_STAT ch) PAV_STAT_RETRIES = 0 ∧
        OnlyRegs [PAV_STAT ch, PAV_CMD ch, MEAS_DIAG ch, MEAS_IV ch] s t) ∧
  (∀ (ch : Fin 96) (d : Nat) (s : State),
      Calm s → (s.chan (govern s ch)).retryDue = some d → d ≤ s.now →
      pavState s (govern s ch) = pavLatched → pavDemand s (govern s ch) = true →
      pavUvNow s (govern s ch / 16) = false → (s.bank (govern s ch / 16)).moored = false →
      pavVeto s (govern s ch) = false → s.fld (PAV_STAT (govern s ch)) PAV_STAT_RETRIES < 7 →
      Runs (.retryDue ch) s fun t =>
        pavLive t (govern s ch) = true ∧
        t.fld (PAV_STAT (govern s ch)) PAV_STAT_RETRIES = s.fld (PAV_STAT (govern s ch)) PAV_STAT_RETRIES + 1 ∧
        (t.chan (govern s ch)).retryDue = none ∧
        OnlyRegs [PAV_STAT (govern s ch), PAV_STAT ch, MEAS_DIAG (govern s ch), MEAS_IV (govern s ch)] s t) ∧
  (∀ (ch : Fin 96) (e : Nat) (s : State),
      Calm s → (s.chan (govern s ch)).softEnd = some e → e ≤ s.now → pavState s (govern s ch) = pavSoft →
      (s.chan (govern s ch)).inrEnd = none →
      Runs (.softStartComplete ch) s fun t =>
        pavState t (govern s ch) = pavOn ∧
        (t.chan (govern s ch)).duty = s.fld (PAV_CMD (govern s ch)) PAV_CMD_DUTY ∧
        OnlyRegs [PAV_STAT ch] s t) ∧
  (∀ (ch : Fin 96) (i2 : Nat) (s : State),
      Calm s → wireRuns s (govern s ch) = true → (s.bank (govern s ch / 16)).moored = false →
      actingReact s (8 + govern s ch / 16) = 0 → resetOverdue s = false →
      Runs (.wireModelTick ch i2) s fun t =>
        (t.chan (govern s ch)).theta = wireStep (s.chan (govern s ch)).theta i2 (s.fld (PAV_WIRE (govern s ch)) PAV_WIRE_WIRE_TAU) ∧
        OnlyRegs [PAV_STAT ch, MEAS_DIAG ch] s t) ∧
  (∀ (m : Fin 12) (ch : Fin 96) (w : Word) (s : State),
      Calm s → masterUp s m = true → privileged s m = true → accessError s (PAV_WIRE ch) = 0 →
      locking s (ch / 16 + 1) = false →
      Runs (.wireConstantWrite m ch w) s fun t =>
        t.fld (PAV_WIRE ch) PAV_WIRE_WIRE_K = fget PAV_WIRE_WIRE_K w ∧
        t.fld (PAV_WIRE ch) PAV_WIRE_WIRE_TAU = fget PAV_WIRE_WIRE_TAU w ∧
        OnlyRegs [PAV_WIRE ch, PAV_STAT ch, MEAS_DIAG ch] s t) ∧
  (∀ (die cls : Fin 3) (p : Fin 6) (mv dur : Nat) (s : State),
      Calm s → dieOfPav p = die.val → pavClass p = cls.val → mv < uvTh s cls → 10000 ≤ dur →
      Runs (.uvTurnOff die cls mv dur) s fun t =>
        (t.uv p).act = true) ∧
  (∀ (die cls : Fin 3) (p : Fin 6) (mv dur : Nat) (s : State),
      Calm s → dieOfPav p = die.val → pavClass p = cls.val → uvTh s cls + uvHyst s cls ≤ mv →
      1000000 ≤ dur →
      Runs (.uvRestartWindowEnd die cls mv dur) s fun t =>
        (t.uv p).act = false) ∧
  (∀ (p : Fin 6) (g : Nat) (rest : List Nat) (s : State),
      Calm s → (s.uv p).queue = g :: rest → (s.uv p).slotDue ≤ s.now →
      Runs (.uvRestartSlot p) s fun t =>
        (t.uv p).queue = rest ∧
        (t.uv p).slotDue = (s.uv p).slotDue + 50000 ∧
        OnlyRegs [PAV_STAT g, MEAS_DIAG g, MEAS_IV g] s t) ∧
  (∀ (s : State),
      Calm s →
      Runs (.lifetimeCounterFlush) s fun t =>
        (∀ g : Fin 96, dieReports s (dieOfPav (g / 16)) = true → (t.chan g).swMram = satAdd 40 (s.chan g).swMram (s.chan g).swDie ∧ (t.chan g).swDie = 0 ∧ (t.chan g).scMram = satAdd 32 (s.chan g).scMram (s.chan g).scDie ∧ (t.chan g).scDie = 0) ∧
        OnlyRegs [] s t) ∧
  (∀ (k : Fin 148) (period : Nat) (s : State),
      Calm s → k < 96 → pavPeriod s (govern s k) (pavState s (govern s k) == pavSoft) = some period →
      pavLive s (govern s k) = true → periodDue s (govern s k) = true →
      Runs (.pwmPeriodStart k) s fun t =>
        (t.chan (govern s k)).duty = periodDuty s (govern s k) ∧
        (t.chan (govern s k)).pulse = (repay (s.chan (govern s k)).debt (onTimeOf (govern s k / 16) period (periodDuty s (govern s k))) (pavMinOn (govern s k / 16))).1 ∧
        (t.chan (govern s k)).nextPeriod = pavNext s (govern s k) (pavState s (govern s k) == pavSoft))

/-- Where limp does not bar the sender, the bank serves, the pin, the veto, the bank switch and VBAT allow it and no
demand stands: an on word puts a valve in proportional mode in PROP at once with its set-point, and lets a
peak-and-hold valve ask for its peak with the bound of its request; an off word on a live valve starts its
decay; CLR on a REFUSED valve with a demand lets it ask again. The slot grants the oldest request of a free
bank. A bounded request past its window is REFUSED and counted. A peak that has ended leads to HOLD; a decay
below 50 mA leads to OFF, and one of 50 ms after a latch to LATCHED; a decay into VRES moves to the clamp when
VRES is less than 10 V above the bank node, its energy being added. Derived from parts of R153, R155, R159,
R160, R162, R163. -/
def Obligations.ValveDrive : Prop :=
  (∀ (m : Fin 12) (v : Fin 24) (w : Word) (s : State),
      Calm s → limpBars s m = false → serving s (6 + bankOfValve v) = true →
      (s.bank (6 + bankOfValve v)).moored = false → sluDemand s v = false → sluState s v = sluOff →
      pinFirst s (129 + v) = true → s.fld (SLU_STAT v) SLU_STAT_VETO_T = 0 →
      bswLatched s (bankOfValve v) = false → inOver s = false → s.fld (SLU_CFG v) SLU_CFG_MODE = 1 →
      fget SLU_CMD_ON w = 1 →
      Runs (.sluCmdWrite ⟨m, false⟩ v w) s fun t =>
        sluState t v = sluProp ∧
        t.fld (SLU_CMD v) SLU_CMD_SETPT = fget SLU_CMD_SETPT w ∧
        (t.valve v).onTime = s.now ∧
        OnlyRegs [SLU_CMD v, SLU_STAT v] s t) ∧
  (∀ (m : Fin 12) (v : Fin 24) (w : Word) (s : State),
      Calm s → limpBars s m = false → serving s (6 + bankOfValve v) = true →
      (s.bank (6 + bankOfValve v)).moored = false → sluDemand s v = false → sluState s v = sluOff →
      pinFirst s (129 + v) = true → s.fld (SLU_STAT v) SLU_STAT_VETO_T = 0 →
      bswLatched s (bankOfValve v) = false → inOver s = false → s.fld (SLU_CFG v) SLU_CFG_MODE = 0 →
      fget SLU_CMD_ON w = 1 →
      Runs (.sluCmdWrite ⟨m, false⟩ v w) s fun t =>
        (t.valve v).request = some s.now ∧
        (t.valve v).bounded = true ∧
        sluState t v = sluOff ∧
        OnlyRegs [SLU_CMD v] s t) ∧
  (∀ (m : Fin 12) (v : Fin 24) (w : Word) (s : State),
      Calm s → limpBars s m = false → serving s (6 + bankOfValve v) = true → sluLive s v = true →
      fget SLU_CMD_ON w = 0 →
      Runs (.sluCmdWrite ⟨m, false⟩ v w) s fun t =>
        sluState t v = sluDecay ∧
        (t.valve v).decayStart = s.now ∧
        (t.valve v).request = none ∧
        OnlyRegs [SLU_CMD v, SLU_STAT v] s t) ∧
  (∀ (m : Fin 12) (v : Fin 24) (s : State),
      Calm s → limpBars s m = false → serving s (6 + bankOfValve v) = true →
      (s.bank (6 + bankOfValve v)).moored = false → sluDemand s v = true → sluState s v = sluRefused →
      pinFirst s (129 + v) = true → s.fld (SLU_STAT v) SLU_STAT_VETO_T = 0 →
      bswLatched s (bankOfValve v) = false → inOver s = false → s.fld (SLU_CFG v) SLU_CFG_MODE = 0 →
      Runs (.sluClr ⟨m, false⟩ v) s fun t =>
        (t.valve v).request = some s.now) ∧
  (∀ (b : Fin 4) (v : Fin 24) (vres : Nat) (s : State),
      Calm s → s.fld (SLU_BSTAT b) SLU_BSTAT_PEAK_OWNER = 0x1F → bswLatched s b = false →
      inOver s = false → (∀ u : Fin 24, bankOfValve u = b.val → s.fld (SLU_STAT u) SLU_STAT_VETO_T = 0) →
      (grantable s b).foldl (olderRequest s) none = some v.val → bankOfValve v = b.val →
      Runs (.peakGrant b vres) s fun t =>
        sluState t v = sluPeak ∧
        t.fld (SLU_BSTAT b) SLU_BSTAT_PEAK_OWNER = v.val ∧
        (t.valve v).grant = s.now ∧
        OnlyRegs [SLU_BSTAT b, SUPPLY_VOLT, SLU_STAT v, SUPPLY_RES_STAT, SUPPLY_RIDE_CNT, SLU_MOVE v] s t) ∧
  (∀ (v : Fin 24) (r : Nat) (s : State),
      Calm s → (s.valve v).request = some r → (s.valve v).bounded = true → (s.valve v).fresh = false →
      r + deferTime s v ≤ s.now →
      Runs (.peakRequestRefused v) s fun t =>
        sluState t v = sluRefused ∧
        t.fld (SLU_STAT v) SLU_STAT_REFUSED = 1 ∧
        (t.valve v).request = none ∧
        t.fld (SLU_BSTAT (bankOfValve v)) SLU_BSTAT_REFUSE_CNT = satInc (2 ^ SLU_BSTAT_REFUSE_CNT.w - 1) (s.fld (SLU_BSTAT (bankOfValve v)) SLU_BSTAT_REFUSE_CNT)) ∧
  (∀ (v : Fin 24) (s : State),
      Calm s → sluState s v = sluPeak → (s.valve v).peakEnd ≤ s.now →
      Runs (.peakEnd v) s fun t =>
        sluState t v = sluHold ∧
        OnlyRegs [SLU_STAT v] s t) ∧
  (∀ (v : Fin 24) (ma mj : Nat) (s : State),
      Calm s → sluState s v = sluDecay → ma < 50 → s.fld (SLU_STAT v) SLU_STAT_PEND = 0 →
      (s.valve v).cause = .off →
      Runs (.decaySafePoint v ma mj) s fun t =>
        sluState t v = sluOff ∧
        OnlyRegs [SLU_STAT v, SLU_REC (bankOfValve v)] s t) ∧
  (∀ (v : Fin 24) (mj : Nat) (s : State),
      Calm s → sluState s v = sluDecay → (s.valve v).decayStart + 50000000 ≤ s.now →
      s.fld (SLU_STAT v) SLU_STAT_PEND = 0 → (s.valve v).cause = .latched →
      Runs (.decayTimeout v mj) s fun t =>
        sluState t v = sluLatched ∧
        OnlyRegs [SLU_STAT v, SLU_REC (bankOfValve v)] s t) ∧
  (∀ (v : Fin 24) (vres vbnk mj : Nat) (s : State),
      Calm s → sluState s v = sluDecay → s.fld (SLU_CFG v) SLU_CFG_DECAY = 0 →
      (s.valve v).decayFast = true → vres < vbnk + 10000 →
      (s.reg (SLU_REC (bankOfValve v))).toNat + mj < 2 ^ 32 →
      Runs (.decayPathSwitch v vres vbnk mj) s fun t =>
        (t.valve v).decayFast = false ∧
        (t.reg (SLU_REC (bankOfValve v))).toNat = (s.reg (SLU_REC (bankOfValve v))).toNat + mj)

/-- A sample inside an open kink window is kept; the end of a watched window in PEAK sets NOMOVE. A live valve at
full duty below 90 percent of its target for 5 ms sets SAT. A due open check below 10 percent of the target with
OL_CNT reached sets OPEN and CODE 1. A live valve at 6 A for 2 us whose current rises by less than half latches
with OCL and CODE 3. A closed bank that carries 300 mA more than its valves for 100 ms sets LEAK. An off-state
test that finds the bank node at 2 V sets BNODE_HI. TJ of 170 C sets VETO_T and THERM, stores TJ and starts the
decay that leads to LATCHED; below 145 C a VETOED valve without demand goes to OFF. A closed bank switch at 18 A
for 10 us latches with BSW_OCL, and BCLR releases it. Derived from parts of R150, R152, R165, R166, R167, R168,
R169, R170, R171, R173. -/
def Obligations.ValveProtection : Prop :=
  (∀ (v : Fin 24) (x : Nat) (s : State),
      Calm s → kinkOpen s v = true → s.fld (SLU_KINK v) SLU_KINK_KSRC = 0 → (s.valve v).samples = [] →
      Runs (.kinkSample v x) s fun t =>
        (t.valve v).samples = [x] ∧
        (t.valve v).top = x ∧
        OnlyRegs [] s t) ∧
  (∀ (v : Fin 24) (s : State),
      Calm s → sluState s v = sluPeak → (s.valve v).watching = true → kinkStart s v < kinkEnd s v →
      kinkEnd s v ≤ s.now →
      Runs (.kinkWindowClose v) s fun t =>
        t.fld (SLU_MOVE v) SLU_MOVE_NOMOVE = 1 ∧
        (t.valve v).watching = false ∧
        OnlyRegs [SLU_MOVE v] s t) ∧
  (∀ (v : Fin 24) (duty ma dur : Nat) (s : State),
      Calm s → sluLive s v = true → 100 ≤ duty → ma * 100 < sluTarget s v * 90 → 5000000 ≤ dur →
      Runs (.loopSaturation v duty ma dur) s fun t =>
        t.fld (SLU_STAT v) SLU_STAT_SAT = 1 ∧
        OnlyRegs [SLU_STAT v] s t) ∧
  (∀ (v : Fin 24) (ma : Nat) (s : State),
      Calm s → openCheckDue s v = true → s.fld (SLU_STAT v) SLU_STAT_CODE = 0 → ma * 10 < sluTarget s v →
      (s.valve v).olCount = s.fld (SLU_DCFG v) SLU_DCFG_OL_CNT →
      Runs (.valveOpenCheck v ma) s fun t =>
        t.fld (SLU_STAT v) SLU_STAT_CODE = 1 ∧
        t.fld (SLU_STAT v) SLU_STAT_OPEN = 1 ∧
        OnlyRegs [SLU_STAT v] s t) ∧
  (∀ (v : Fin 24) (ma rise dur : Nat) (s : State),
      Calm s → sluLive s v = true → 6000 ≤ ma → 2000 ≤ dur → 2 * rise < ma →
      Runs (.valveOcLatch v ma rise dur) s fun t =>
        sluState t v = sluDecay ∧
        (t.valve v).cause = .latched ∧
        t.fld (SLU_STAT v) SLU_STAT_OCL = 1 ∧
        t.fld (SLU_STAT v) SLU_STAT_CODE = 3 ∧
        OnlyRegs [SLU_STAT v] s t) ∧
  (∀ (b : Fin 4) (ib sum dur : Nat) (s : State),
      Calm s → bankClosed s b = true → sum + 300 ≤ ib → 100000 ≤ dur →
      s.fld (SLU_BANK b) SLU_BANK_BAL_ACT = 0 → actingReact s (14 + b) = 0 → resetOverdue s = false →
      Runs (.bankImbalance b ib sum dur) s fun t =>
        t.fld (SLU_BSTAT b) SLU_BSTAT_LEAK = 1 ∧
        OnlyRegs [SLU_BSTAT b] s t) ∧
  (∀ (v : Fin 24) (pin vbnk : Nat) (s : State),
      Calm s → s.fld (SLU_DCFG v) SLU_DCFG_OFF_EN = 1 → sluState s v = sluOff →
      (s.bank (6 + bankOfValve v)).moored = false → bankClosed s (bankOfValve v) = false → 2000 ≤ vbnk →
      Runs (.valveOffstateTest v pin vbnk) s fun t =>
        t.fld (SLU_BSTAT (bankOfValve v)) SLU_BSTAT_BNODE_HI = 1) ∧
  (∀ (v : Fin 24) (tj : Int) (s : State),
      Calm s → 170 ≤ tj → tj ≤ 200 → s.fld (SLU_STAT v) SLU_STAT_VETO_T = 0 → sluLive s v = true →
      Runs (.valveThermalLatch v tj) s fun t =>
        t.fld (SLU_STAT v) SLU_STAT_VETO_T = 1 ∧
        t.fld (SLU_STAT v) SLU_STAT_THERM = 1 ∧
        sluState t v = sluDecay ∧
        (t.valve v).cause = .latched ∧
        t.fld (SLU_STAT v) SLU_STAT_TJ = (tj + 55).toNat ∧
        OnlyRegs [SLU_STAT v] s t) ∧
  (∀ (v : Fin 24) (tj : Int) (s : State),
      Calm s → tj < 145 → s.fld (SLU_STAT v) SLU_STAT_VETO_T = 1 → sluState s v = sluVetoed →
      sluDemand s v = false →
      Runs (.valveVetoClear v tj) s fun t =>
        t.fld (SLU_STAT v) SLU_STAT_VETO_T = 0 ∧
        sluState t v = sluOff ∧
        OnlyRegs [SLU_STAT v] s t) ∧
  (∀ (b : Fin 4) (ma dur : Nat) (x : Int) (s : State),
      Calm s → 18000 ≤ ma → 10000 ≤ dur → bankClosed s b = true → actingReact s (14 + b) = 0 →
      Runs (.bankSwitchLatch b false ma dur x) s fun t =>
        bswLatched t b = true ∧
        t.fld (SLU_BSTAT b) SLU_BSTAT_BSW_OCL = 1) ∧
  (∀ (m : Fin 12) (b : Fin 4) (s : State),
      Calm s → masterUp s m = true → accessError s (SLU_BANK b + setView) = 0 → bswLatched s b = true →
      s.fld (SLU_BSTAT b) SLU_BSTAT_BSW_VETO = 0 →
      Runs (.bclr m b) s fun t =>
        bswLatched t b = false ∧
        OnlyRegs [SLU_BSTAT b, SLU_STAT (6 * b.val + 0), SLU_STAT (6 * b.val + 1), SLU_STAT (6 * b.val + 2), SLU_STAT (6 * b.val + 3), SLU_STAT (6 * b.val + 4), SLU_STAT (6 * b.val + 5)] s t)

/-- Where limp does not bar the sender and the motor serves: a run word with a duty, on a motor in OFF that nothing
holds, leads to RUN with its direction and duty; a word without RUN in RUN leads to BRAKE towards OFF; CLR on a
LATCHED motor with a demand leads to RUN. A brake that ends leads to STALLED or OFF as it was begun for. The
park input of a PARKING motor at its level for 2 ms leads to BRAKE towards OFF, and PARK_TO to BRAKE with
PARKTO. In its restart slot a motor cut in BRAKE with a demand is TRAPPED, and one cut in RUN with a demand runs
again; the next slot is 50 us later. Derived from parts of R182, R184, R185, R186, R194, R195. -/
def Obligations.MotorCommands : Prop :=
  (∀ (m : Fin 12) (h : Fin 16) (w : Word) (s : State),
      Calm s → limpBars s m = false → brGovern s h = h.val → serving s (10 + h / 4) = true →
      (s.bank (10 + h / 4)).moored = false → brDemand s h = false → brState s h = brOff →
      pinFirst s (297 + h) = true → brVeto s h = false → brNoSupply s = false → fget BR_CMD_RUN w = 1 →
      fget BR_CMD_DUTY w ≠ 0 → fget BR_CMD_GOTO w = 0 →
      Runs (.brCmdWrite ⟨m, false⟩ h w) s fun t =>
        brState t h = brRun ∧
        (t.motor h).rev = (brPaired s h && fget BR_CMD_DIR w == 1) ∧
        (t.motor h).duty = fget BR_CMD_DUTY w ∧
        (t.motor h).rampStart = s.now ∧
        OnlyRegs [BR_CMD h, BR_STAT h] s t) ∧
  (∀ (m : Fin 12) (h : Fin 16) (w : Word) (s : State),
      Calm s → limpBars s m = false → brGovern s h = h.val → serving s (10 + h / 4) = true →
      brState s h = brRun → parkActive s h ≠ some false → fget BR_CMD_RUN w = 0 →
      Runs (.brCmdWrite ⟨m, false⟩ h w) s fun t =>
        brState t h = brBrake ∧
        (t.motor h).brakeTo = .off ∧
        OnlyRegs [BR_CMD h, BR_STAT h] s t) ∧
  (∀ (m : Fin 12) (h : Fin 16) (s : State),
      Calm s → limpBars s m = false → brGovern s h = h.val → serving s (10 + h / 4) = true →
      (s.bank (10 + h / 4)).moored = false → brDemand s h = true → s.fld (BR_CMD h) BR_CMD_GOTO = 0 →
      brState s h = brLatched → pinFirst s (297 + h) = true → brVeto s h = false → brNoSupply s = false →
      Runs (.brClr ⟨m, false⟩ h) s fun t =>
        brState t h = brRun ∧
        OnlyRegs [BR_CMD h, BR_STAT h] s t) ∧
  (∀ (h : Fin 16) (s : State),
      Calm s → brState s (brGovern s h) = brBrake → (s.motor (brGovern s h)).brakeEnd ≤ s.now →
      (s.motor (brGovern s h)).brakeTo = .stalled → brDemand s (brGovern s h) = true →
      s.fld (BR_STAT (brGovern s h)) BR_STAT_PEND = 0 →
      Runs (.brakeEnd h) s fun t =>
        brState t (brGovern s h) = brStalled ∧
        OnlyRegs [BR_STAT h] s t) ∧
  (∀ (h : Fin 16) (s : State),
      Calm s → brState s (brGovern s h) = brBrake → (s.motor (brGovern s h)).brakeEnd ≤ s.now →
      (s.motor (brGovern s h)).brakeTo = .off → brDemand s (brGovern s h) = false →
      Runs (.brakeEnd h) s fun t =>
        brState t (brGovern s h) = brOff ∧
        OnlyRegs [BR_STAT h] s t) ∧
  (∀ (h : Fin 16) (p : Fin 2) (level : Bool) (dur : Nat) (s : State),
      Calm s → brState s h = brParking → 2000000 ≤ dur → s.fld (BR_CFG h) BR_CFG_PARK_SEL = p.val + 1 →
      s.fld (BR_CFG h) BR_CFG_PARK_LVL = b2n level →
      Runs (.parkReached p level dur) s fun t =>
        brState t h = brBrake ∧
        (t.motor h).brakeTo = .off ∧
        OnlyRegs [BR_STAT h] s t) ∧
  (∀ (h : Fin 16) (e : Nat) (s : State),
      Calm s → (s.motor (brGovern s h)).parkEnd = some e → e ≤ s.now →
      brState s (brGovern s h) = brParking →
      Runs (.parkTimeout h) s fun t =>
        brState t (brGovern s h) = brBrake ∧
        t.fld (BR_STAT (brGovern s h)) BR_STAT_PARKTO = 1 ∧
        OnlyRegs [BR_STAT (brGovern s h), BR_STAT h] s t) ∧
  (∀ (h : Fin 16) (rest : List Nat) (s : State),
      Calm s → s.bridges.queue = h.val :: rest → s.bridges.slotDue ≤ s.now → brNoSupply s = false →
      brState s h = brSupply → (s.motor h).cut = 3 → serving s (10 + h / 4) = true → brDemand s h = true →
      Runs (.bridgeSupplyReturnSlot) s fun t =>
        brState t h = brTrapped ∧
        t.bridges.queue = rest ∧
        t.bridges.slotDue = s.bridges.slotDue + 50000 ∧
        OnlyRegs [BR_STAT h] s t) ∧
  (∀ (h : Fin 16) (rest : List Nat) (s : State),
      Calm s → s.bridges.queue = h.val :: rest → s.bridges.slotDue ≤ s.now → brNoSupply s = false →
      brGovern s h = h.val → brState s h = brSupply → (s.motor h).cut = 0 →
      serving s (10 + h / 4) = true → (s.bank (10 + h / 4)).moored = false → brDemand s h = true →
      s.fld (BR_CMD h) BR_CMD_GOTO = 0 → pinFirst s (297 + h) = true → brVeto s h = false →
      Runs (.bridgeSupplyReturnSlot) s fun t =>
        brState t h = brRun ∧
        t.bridges.queue = rest ∧
        (t.motor h).rampStart = s.now)

/-- A moving motor whose switch is over its threshold for OC_FILT is LATCHED with OCL and CODE 2 or 3 by side (OFF
where its die is out of service). TJ of 170 C sets VETO_T and THERM; below 145 C VETO_T is 0. A start blank that
ends under 200 mA with OL_CNT reached sets OPEN and CODE 1. A counted ripple in RUN moves POS by one in the
direction of the motor. A current at STALL_TH for the stall time outside the anti-trap zone leads to BRAKE
towards STALLED with STALL. An LF driver at 2.5 A for 5 us latches, its carrier off, and stores the peak.
Derived from parts of R187, R188, R189, R190, R192, R199. -/
def Obligations.MotorProtection : Prop :=
  (∀ (h : Fin 16) (hs : Bool) (ma dur : Nat) (tj : Int) (s : State),
      Calm s → brMoving s (brGovern s h) = true → brOcTh s (brGovern s h) ≤ ma →
      2000 * 2 ^ (s.fld (BR_PROT (brGovern s h)) BR_PROT_OC_FILT) ≤ dur →
      actingReact s (18 + brGovern s h / 4) = 0 → resetOverdue s = false →
      Runs (.bridgeLatch h 0 hs ma dur tj) s fun t =>
        brState t (brGovern s h) = (if dieEnabled s 8 = true then brLatched else brOff) ∧
        t.fld (BR_STAT (brGovern s h)) BR_STAT_OCL = 1 ∧
        (t.fld (BR_STAT (brGovern s h)) BR_STAT_CODE = if hs then 2 else 3) ∧
        OnlyRegs [BR_STAT (brGovern s h), BR_STAT h] s t) ∧
  (∀ (h : Fin 16) (hs : Bool) (ma dur : Nat) (tj : Int) (s : State),
      Calm s → 170 ≤ tj → s.fld (BR_STAT h) BR_STAT_VETO_T = 0 →
      actingReact s (18 + brGovern s h / 4) = 0 → resetOverdue s = false →
      Runs (.bridgeLatch h 2 hs ma dur tj) s fun t =>
        t.fld (BR_STAT h) BR_STAT_VETO_T = 1 ∧
        t.fld (BR_STAT (brGovern s h)) BR_STAT_THERM = 1 ∧
        OnlyRegs [BR_STAT h, BR_STAT (brGovern s h)] s t) ∧
  (∀ (h : Fin 16) (tj : Int) (s : State),
      Calm s → tj < 145 → s.fld (BR_STAT h) BR_STAT_VETO_T = 1 →
      Runs (.bridgeVetoClear h tj) s fun t =>
        t.fld (BR_STAT h) BR_STAT_VETO_T = 0 ∧
        OnlyRegs [BR_STAT h] s t) ∧
  (∀ (h : Fin 16) (ma : Nat) (s : State),
      Calm s → brState s (brGovern s h) = brRun → (s.motor (brGovern s h)).blankDone = false →
      (s.motor (brGovern s h)).blankEnd ≤ s.now → ma < 200 →
      (s.motor (brGovern s h)).olCount = s.fld (BR_RIP (brGovern s h)) BR_RIP_OL_CNT →
      Runs (.startBlankEnd h ma) s fun t =>
        (t.motor (brGovern s h)).blankDone = true ∧
        t.fld (BR_STAT (brGovern s h)) BR_STAT_OPEN = 1 ∧
        t.fld (BR_STAT (brGovern s h)) BR_STAT_CODE = 1 ∧
        OnlyRegs [BR_STAT (brGovern s h), BR_STAT h] s t) ∧
  (∀ (h : Fin 16) (period : Nat) (s : State),
      Calm s → ripplesCount s (brGovern s h) = true → brState s (brGovern s h) = brRun →
      (s.motor (brGovern s h)).refCount < 16 → s.fld (BR_CMD (brGovern s h)) BR_CMD_GOTO = 0 →
      Runs (.rippleCounted h period) s fun t =>
        t.fld (BR_POS (brGovern s h)) BR_POS_POS = twos 16 (brPos s (brGovern s h) + (if (s.motor (brGovern s h)).rev then -1 else 1)) ∧
        (t.motor (brGovern s h)).lastRipple = s.now ∧
        brState t (brGovern s h) = brRun ∧
        OnlyRegs [BR_POS (brGovern s h), BR_POS h] s t) ∧
  (∀ (h : Fin 16) (ma dur : Nat) (s : State),
      Calm s → brState s (brGovern s h) = brRun → (s.motor (brGovern s h)).blankEnd ≤ s.now →
      s.fld (BR_PROT (brGovern s h)) BR_PROT_STALL_TH ≠ 0 →
      (s.fld (BR_PROT (brGovern s h)) BR_PROT_STALL_TH) * 50 ≤ ma → stallTime s (brGovern s h) ≤ dur →
      inTrapZone s (brGovern s h) = false →
      Runs (.stall h ma dur) s fun t =>
        brState t (brGovern s h) = brBrake ∧
        (t.motor (brGovern s h)).brakeTo = .stalled ∧
        t.fld (BR_STAT (brGovern s h)) BR_STAT_STALL = 1 ∧
        OnlyRegs [BR_STAT (brGovern s h), BR_STAT h] s t) ∧
  (∀ (a : Fin 6) (ma dur : Nat) (s : State),
      Calm s → s.fld (LF_STAT a) LF_STAT_ON = 1 → 2500 ≤ ma → 5000 ≤ dur →
      Runs (.lfDriverLatch a ma dur) s fun t =>
        t.fld (LF_STAT a) LF_STAT_ON = 0 ∧
        t.fld (LF_STAT a) LF_STAT_LATCH = 1 ∧
        t.fld (LF_STAT a) LF_STAT_IPK = min ma 65535 ∧
        OnlyRegs [LF_STAT a] s t)

/-- Where limp does not bar the sender and the Field serves: an on word on a direct element in OFF that nothing
holds, without fade, leads to ON at its level; CLR on a LATCHED element with a demand and a fade leads to
FADE_IN. The last update of a fade leads to ON at the applied level, or from FADE_OUT to OFF at level 0. A sink
seen open with OL_CNT reached sets OPEN and CODE 1 of its leader. A temperature below the shutdown sets the fold
factor, FACT and FOLD. A lit backlight at 2.2 A for 2 us latches with OCL at level 0, and one below 90 percent
of its target for 5 ms sets SAT. A PWM period of an element at or above its analog level takes the level as it
is. Derived from parts of R203, R204, R207, R208, R209, R210, R212, R216. -/
def Obligations.Lighting : Prop :=
  (∀ (m : Fin 12) (k : Fin 52) (w : Word) (s : State),
      Calm s → limpBars s m = false → serving s 14 = true → isDirect s k = true → ltDemand s k = false →
      ltState s k = ltOff → pinFirst s (pinOfLight k) = true → inOver s = false → lightTsd s = false →
      Tab.get s.sup.blShed false (k - 48) = false → (k.val < 48 ∨ resCarries s = true) → ltFade s k = 0 →
      fget LC_CMD_ON w = 1 → fget LC_CMD_LVL w ≠ 0 →
      Runs (.lightCmdWrite ⟨m, false⟩ k w) s fun t =>
        ltState t k = ltOn ∧
        ltLvl t k = fget LC_CMD_LVL w ∧
        (t.elem k).onTime = s.now) ∧
  (∀ (m : Fin 12) (k : Fin 52) (s : State),
      Calm s → limpBars s m = false → serving s 14 = true → isDirect s k = true → ltDemand s k = true →
      ltState s k = ltLatched → pinFirst s (pinOfLight k) = true → inOver s = false → lightTsd s = false →
      Tab.get s.sup.blShed false (k - 48) = false → (k.val < 48 ∨ resCarries s = true) → 0 < ltFade s k →
      Runs (.lightClr ⟨m, false⟩ k) s fun t =>
        ltState t k = ltFadeIn ∧
        (t.elem k).onTime = s.now) ∧
  (∀ (k : Fin 52) (s : State),
      Calm s → ltState s k = ltFadeIn → (s.elem k).level ≤ ltApplied s k * 65536 →
      fadeSteps s k ≤ fadeIndex (s.elem k).level (ltApplied s k * 65536) (fadeSteps s k) + 1 →
      Runs (.fadeUpdate k) s fun t =>
        ltState t k = ltOn ∧
        (t.elem k).level = ltApplied s k * 65536 ∧
        OnlyRegs [LC_STAT k] s t) ∧
  (∀ (k : Fin 52) (s : State),
      Calm s → ltState s k = ltFadeOut →
      fadeIndex (s.elem k).level ((s.elem k).top * 65536) (fadeSteps s k) ≤ 1 →
      s.fld (ltStat k) (ltPend k) = 0 →
      Runs (.fadeUpdate k) s fun t =>
        ltState t k = ltOff ∧
        (t.elem k).level = 0 ∧
        OnlyRegs [LC_STAT k] s t) ∧
  (∀ (k : Fin 48) (vsink ua : Nat) (s : State),
      Calm s → leaderOf s k 7 = k.val → isColumn s k = false → sinkObserved s k = true → vsink < 300 →
      2 * ua < ltAmp s k → (s.elem k).obsKind = 1 → (s.elem k).obsDone = false →
      (s.elem k).obsCount = s.fld (LC_DCFG k) LC_DCFG_OL_CNT →
      Runs (.sinkObservation k vsink ua) s fun t =>
        t.fld (LC_STAT k) LC_STAT_CODE = 1 ∧
        t.fld (LC_STAT k) LC_STAT_OPEN = 1 ∧
        OnlyRegs [LC_STAT k] s t) ∧
  (∀ (x : Int) (s : State),
      Calm s → x < 1450 → lightTsd s = false →
      Runs (.foldbackRead x) s fun t =>
        t.trellis.fold = foldFactor (s.fld LIGHT_THERM LIGHT_THERM_TFOLD) x ∧
        t.fld LIGHT_THERM LIGHT_THERM_FACT = foldFactor (s.fld LIGHT_THERM LIGHT_THERM_TFOLD) x * 128 / 400 ∧
        (t.fld LIGHT_THERM LIGHT_THERM_FOLD = 1 ↔ foldFactor (s.fld LIGHT_THERM LIGHT_THERM_TFOLD) x < 400)) ∧
  (∀ (n : Fin 4) (vout ma dur vres : Nat) (s : State),
      Calm s → ltLit s (48 + n) = true → shedLevel (6 + n) s ≤ vres → 2200 ≤ ma → 2000 ≤ dur →
      Runs (.backlightLatch n 2 ⟨vout, vres⟩ ma dur) s fun t =>
        ltState t (48 + n) = ltLatched ∧
        t.fld (BL_STAT n) BL_STAT_OCL = 1 ∧
        (t.elem (48 + n)).level = 0 ∧
        OnlyRegs [BL_STAT n, SUPPLY_VOLT, SUPPLY_RES_STAT, SUPPLY_RIDE_CNT] s t) ∧
  (∀ (n : Fin 4) (ma dur : Nat) (s : State),
      Calm s → ltLit s (48 + n) = true → ma * 10 * 65536 < blTarget s n * 9 → 5000000 ≤ dur →
      Runs (.backlightSaturation n ma dur) s fun t =>
        t.fld (BL_STAT n) BL_STAT_SAT = 1 ∧
        OnlyRegs [BL_STAT n] s t) ∧
  (∀ (k : Fin 148) (s : State),
      Calm s → 96 ≤ k.val → isDirect s (k - 96) = true → ltLit s (k - 96) = true →
      ltAnalog (k - 96) ≤ (s.elem (k - 96)).level / 65536 →
      Runs (.pwmPeriodStart k) s fun t =>
        (t.elem (k - 96)).active = (s.elem (k - 96)).level / 65536 ∧
        (t.elem (k - 96)).pulse = 0)

/-- A photodiode value is stored with its range and held for the tick. A sensor read stores the three counts where
the sensor answered and the answer arrived, and nothing where not, the transaction going out on its bus; a
transaction that times out leaves no reading. A loop tick in service uses every reading up. A Trellis frame
start with RUN shows SUPPLY under Over and else starts the scan at line 0. The visit of a line that is latched
moves on to the next. A line switch at 3 A for 5 us sets its bit of LLATCH. TR_CMD stores RUN and SHOW and ends
a safe level; LCLR clears LLATCH and leaves FAULT. Derived from parts of R218, R219, R220, R225, R227, R230,
R231. -/
def Obligations.LoopsAndTrellis : Prop :=
  (∀ (p : Fin 4) (val : Nat) (s : State),
      Calm s → val < 10000000 →
      Runs (.photodiodeIntegration p val) s fun t =>
        t.fld (PD_VAL p) PD_VAL_VAL = val ∧
        t.fld (PD_VAL p) PD_VAL_RANGE = pdRange val ∧
        t.fld (PD_VAL p) PD_VAL_OVR = 0 ∧
        (t.source p).reading = some (val, 0, 0) ∧
        OnlyRegs [PD_VAL p] s t) ∧
  (∀ (n : Fin 4) (data : BitVec 48) (ack arrived : Bool) (s : State),
      Calm s → s.fld (SNS_CFG n) SNS_CFG_EN = 1 → s.lock.lrst = false → cvUp s 4 = true →
      (s.die 4).silent = false →
      Runs (.sensorRead n data ack arrived) s fun t =>
        ((t.source (4 + n)).reading = if ack && arrived then some (sensorCount data (s.fld (SNS_CFG n) SNS_CFG_BE == 1) 0, sensorCount data (s.fld (SNS_CFG n) SNS_CFG_BE == 1) 1, sensorCount data (s.fld (SNS_CFG n) SNS_CFG_BE == 1) 2) else none) ∧
        t.out = s.out ++ [.i2c (s.fld (SNS_CFG n) SNS_CFG_BUS) (s.fld (SNS_CFG n) SNS_CFG_ADDR) (s.fld (SNS_CFG n) SNS_CFG_REG)]) ∧
  (∀ (n : Fin 4) (s : State),
      Calm s → s.fld (SNS_CFG n) SNS_CFG_EN = 1 → s.lock.lrst = false →
      Runs (.sensorTransactionTimeout n) s fun t =>
        (t.source (4 + n)).reading = none ∧
        t.out = s.out ++ [.i2c (s.fld (SNS_CFG n) SNS_CFG_BUS) (s.fld (SNS_CFG n) SNS_CFG_ADDR) (s.fld (SNS_CFG n) SNS_CFG_REG)]) ∧
  (∀ (s : State),
      Calm s → serving s 14 = true → (s.bank 14).moored = false →
      Runs (.loopTick) s fun t =>
        (∀ i : Fin 8, (t.source i).reading = none)) ∧
  (∀ (vtrsup : Nat) (s : State),
      Calm s → s.fld TR_STAT TR_STAT_STATE ≠ 2 → serving s 14 = true → (s.bank 14).moored = false →
      s.fld TR_CMD TR_CMD_RUN = 1 → inOver s = true →
      Runs (.trellisFrameStart vtrsup) s fun t =>
        t.fld TR_STAT TR_STAT_STATE = 3 ∧
        OnlyRegs [TR_STAT] s t) ∧
  (∀ (vtrsup : Nat) (s : State),
      Calm s → s.fld TR_STAT TR_STAT_STATE ≠ 2 → serving s 14 = true → (s.bank 14).moored = false →
      s.fld TR_CMD TR_CMD_RUN = 1 → inOver s = false → lightTsd s = false →
      Runs (.trellisFrameStart vtrsup) s fun t =>
        t.fld TR_STAT TR_STAT_STATE = 1 ∧
        t.trellis.line = 0 ∧
        t.trellis.sub = 0 ∧
        OnlyRegs [TR_STAT] s t) ∧
  (∀ (levels currents pres : List Nat) (s : State),
      Calm s → s.fld TR_STAT TR_STAT_STATE = 1 → 0 < s.trellis.line → s.trellis.line + 1 < trLines s →
      s.trellis.sub ≤ s.fld TR_CFG TR_CFG_NSUB →
      bitOf (s.fld TR_STAT TR_STAT_LLATCH) s.trellis.line = true → s.fld TR_CMD TR_CMD_RUN = 1 →
      serving s 14 = true → (s.bank 14).moored = false →
      Runs (.trellisLineVisit levels currents pres) s fun t =>
        t.trellis.line = s.trellis.line + 1 ∧
        t.trellis.sub = s.trellis.sub ∧
        OnlyRegs [] s t) ∧
  (∀ (l : Fin 16) (ma dur : Nat) (x : Int) (s : State),
      Calm s → s.fld TR_STAT TR_STAT_STATE = 1 → 3000 ≤ ma → 5000 ≤ dur → actingReact s 22 = 0 →
      resetOverdue s = false →
      Runs (.lineSwitchLatch l false ma dur x) s fun t =>
        bitOf (t.fld TR_STAT TR_STAT_LLATCH) l = true ∧
        OnlyRegs [TR_STAT] s t) ∧
  (∀ (m : Fin 12) (w : Word) (s : State),
      Calm s → limpBars s m = false → fget TR_CMD_LCLR w = 0 →
      Runs (.trCmdWrite ⟨m, false⟩ w) s fun t =>
        t.fld TR_CMD TR_CMD_RUN = fget TR_CMD_RUN w ∧
        t.fld TR_CMD TR_CMD_SHOW = fget TR_CMD_SHOW w ∧
        t.trellis.safeLevel = none ∧
        OnlyRegs [TR_CMD] s t) ∧
  (∀ (m : Fin 12) (s : State),
      Calm s → limpBars s m = false → s.trellis.veto = 0 →
      Runs (.lclr ⟨m, false⟩) s fun t =>
        t.fld TR_STAT TR_STAT_LLATCH = 0 ∧
        t.fld TR_STAT TR_STAT_STATE ≠ 2 ∧
        OnlyRegs [TR_STAT] s t)

/-- Outside low power a raw change of a claimed input opens the debounce window and leaves the debounced level; the
end of the window sets the level and IN_EDGE and queues the change for the Lodge, whose delivery sets the edge
of the snapshot. A due poll in low power whose level differs counts and, below WAKE_CNT, leaves the power state.
For a field output that any master owns: an on word in OFF leads to ON, an off word in ON to DEMAG towards OFF,
CLR in THERM without AUTO to ON. A master that does not own it changes nothing and sets NOTOWN. DEMAG ends at a
positive pin; 160 C sets VETO_T and THERM and leads to DEMAG towards THERM, and below 140 C an AUTO output in
THERM with a demand is ON. An ON output below 5 mA for 10 ms sets OPEN. An owner window that ends sets OLIMP and
starts the limp time, whose end with SAFE 2 sets OSAFE and leaves the state. In its restart slot after Over an
output goes to ON with a demand and to OFF without one. Derived from parts of R241, R242, R243, R245, R246,
R247, R248, R249, R250, R251. -/
def Obligations.InputsAndOutputs : Prop :=
  (∀ (j : Fin 128) (mv : Int) (s : State),
      Calm s → lowPower s = false → inputClaimed s j = true → (s.input j).winEnd = none →
      inLevel s j = false → (inThresholds s j).1 < mv →
      Runs (.rawLevelChange j mv) s fun t =>
        (t.input j).winEnd = some (s.now + debTime s j) ∧
        (t.input j).level = true ∧
        inBit t (IN_RAW 0) j = true ∧
        inLevel t j = false) ∧
  (∀ (j : Fin 128) (mv : Int) (s : State),
      Calm s → lowPower s = false → inputClaimed s j = true → (s.input j).winEnd = none →
      inLevel s j = true → (mv < (inThresholds s j).1 ∧ mv < (inThresholds s j).2) →
      Runs (.rawLevelChange j mv) s fun t =>
        (t.input j).winEnd = some (s.now + debTime s j) ∧
        (t.input j).level = false ∧
        inBit t (IN_RAW 0) j = false ∧
        inLevel t j = true) ∧
  (∀ (j : Fin 128) (e : Nat) (s : State),
      Calm s → (s.input j).winEnd = some e → e ≤ s.now → lowPower s = false →
      Runs (.debounceWindowEnd j) s fun t =>
        inLevel t j = (s.input j).level ∧
        (t.input j).waiting = (s.input j).waiting ++ [(s.input j).level] ∧
        (t.input j).winEnd = none ∧
        (t.input j).changedAt = some s.now ∧
        inBit t (IN_EDGE 0) j = true) ∧
  (∀ (j : Fin 128) (b : Bool) (rest : List Bool) (s : State),
      Calm s → (s.input j).waiting = b :: rest → cvUp s 5 = true → s.start.lodgeDown = false →
      Runs (.inputChangeDelivery j) s fun t =>
        (t.input j).waiting = rest ∧
        (t.input j).ref = b ∧
        bitOf t.kp.edgeAcc j = true ∧
        inLevel t j = inLevel s j ∧
        OnlyRegs [IN_EDGE (j / 32)] s t) ∧
  (∀ (j : Fin 128) (mv : Int) (s : State),
      Calm s → pollDue s j = true → (s.input j).ref = false → (inThresholds s j).1 < mv →
      bitOf (s.fld (IN_CFG j) IN_CFG_WAKE) 0 = true → (s.input j).polls < s.fld IN_POLL IN_POLL_WAKE_CNT →
      Runs (.inputPoll j mv) s fun t =>
        (t.input j).polls = (s.input j).polls + 1 ∧
        (t.input j).polledAt = some s.now ∧
        t.fld POWER_STAT POWER_STAT_STATE = s.fld POWER_STAT POWER_STAT_STATE) ∧
  (∀ (m : Fin 12) (o : Fin 16) (w : Word) (s : State),
      Calm s → limpBars s m = false → s.fld (FO_CFG o) FO_CFG_OWNER = 3 →
      (s.bank (6 + o / 4)).moored = false → foServing s o = true → foDemand s o = false →
      foState s o = foOff → pinFirst s (113 + o) = true → s.fld (FO_STAT o) FO_STAT_VETO_T = 0 →
      inOver s = false → fget FO_CMD_ON w = 1 →
      Runs (.foCmdWrite ⟨m, false⟩ o w) s fun t =>
        foState t o = foOn ∧
        foDemand t o = true ∧
        OnlyRegs [FO_CMD o, FO_STAT o] s t) ∧
  (∀ (m : Fin 12) (o : Fin 16) (w : Word) (s : State),
      Calm s → limpBars s m = false → s.fld (FO_CFG o) FO_CFG_OWNER = 3 → foServing s o = true →
      foState s o = foOn → fget FO_CMD_ON w = 0 →
      Runs (.foCmdWrite ⟨m, false⟩ o w) s fun t =>
        foState t o = foDemag ∧
        foDemand t o = false ∧
        (t.fo o).cause = .off ∧
        OnlyRegs [FO_STAT o, FO_CMD o] s t) ∧
  (∀ (m : Fin 12) (o : Fin 16) (w : Word) (s : State),
      Calm s → limpBars s m = false → s.fld (FO_CFG o) FO_CFG_OWNER ≠ 3 →
      s.fld (FO_CFG o) FO_CFG_OWNER ≠ masterClass m →
      Runs (.foCmdWrite ⟨m, false⟩ o w) s fun t =>
        t.fld (FO_STAT o) FO_STAT_NOTOWN = 1 ∧
        foState t o = foState s o ∧
        foDemand t o = foDemand s o ∧
        OnlyRegs [FO_STAT o, FO_CMD o] s t) ∧
  (∀ (m : Fin 12) (o : Fin 16) (s : State),
      Calm s → limpBars s m = false → s.fld (FO_CFG o) FO_CFG_OWNER = 3 →
      (s.bank (6 + o / 4)).moored = false → foServing s o = true → foDemand s o = true →
      foState s o = foTherm → s.fld (FO_CFG o) FO_CFG_AUTO = 0 → pinFirst s (113 + o) = true →
      s.fld (FO_STAT o) FO_STAT_VETO_T = 0 → inOver s = false →
      Runs (.foClr ⟨m, false⟩ o) s fun t =>
        foState t o = foOn ∧
        OnlyRegs [FO_STAT o, FO_CMD o] s t) ∧
  (∀ (o : Fin 16) (pin : Int) (s : State),
      Calm s → foState s o = foDemag → 0 < pin → (s.fo o).cause = .off →
      s.fld (FO_STAT o) FO_STAT_PEND = 0 →
      Runs (.demagSafePoint o pin) s fun t =>
        foState t o = foOff ∧
        OnlyRegs [FO_STAT o] s t) ∧
  (∀ (o : Fin 16) (x : Int) (s : State),
      Calm s → 160 ≤ x → x ≤ 200 → s.fld (FO_STAT o) FO_STAT_VETO_T = 0 → foState s o = foOn →
      Runs (.foThermalShutdown o x) s fun t =>
        t.fld (FO_STAT o) FO_STAT_VETO_T = 1 ∧
        t.fld (FO_STAT o) FO_STAT_THERM = 1 ∧
        foState t o = foDemag ∧
        (t.fo o).cause = .therm ∧
        t.fld (FO_STAT o) FO_STAT_TJ = (x + 55).toNat ∧
        OnlyRegs [FO_STAT o] s t) ∧
  (∀ (o : Fin 16) (x : Int) (s : State),
      Calm s → x < 140 → s.fld (FO_STAT o) FO_STAT_VETO_T = 1 → foState s o = foTherm →
      s.fld (FO_CFG o) FO_CFG_AUTO = 1 → foDemand s o = true → (s.bank (6 + o / 4)).moored = false →
      foServing s o = true → pinFirst s (113 + o) = true → inOver s = false →
      Runs (.foAutoRestart o x) s fun t =>
        t.fld (FO_STAT o) FO_STAT_VETO_T = 0 ∧
        foState t o = foOn ∧
        OnlyRegs [FO_STAT o] s t) ∧
  (∀ (o : Fin 16) (ua mv dur : Nat) (s : State),
      Calm s → s.fld (FO_CFG o) FO_CFG_DIAG_EN = 1 → (s.bank (6 + o / 4)).moored = false →
      foState s o = foOn → ua < 5000 → 10000000 ≤ dur → (s.fo o).openNow = false →
      Runs (.foDiagnosis o ua mv dur) s fun t =>
        t.fld (FO_STAT o) FO_STAT_OPEN = 1 ∧
        (t.fo o).openNow = true ∧
        OnlyRegs [FO_STAT o] s t) ∧
  (∀ (o : Fin 16) (e : Nat) (s : State),
      Calm s → (s.fo o).ownEnd = some e → e ≤ s.now →
      Runs (.ownerWindowExpiry o) s fun t =>
        t.fld (FO_STAT o) FO_STAT_OLIMP = 1 ∧
        (t.fo o).ownEnd = none ∧
        (t.fo o).limpEnd = some (s.now + foLimpTime s o) ∧
        OnlyRegs [FO_STAT o] s t) ∧
  (∀ (o : Fin 16) (e : Nat) (s : State),
      Calm s → (s.fo o).limpEnd = some e → e ≤ s.now → s.fld (FO_CFG o) FO_CFG_SAFE = 2 →
      actingReact s 67 = 0 → resetOverdue s = false →
      Runs (.ownerLimpExpiry o) s fun t =>
        t.fld (FO_STAT o) FO_STAT_OSAFE = 1 ∧
        (t.fo o).limpEnd = none ∧
        foState t o = foState s o ∧
        OnlyRegs [FO_STAT o, FO_CMD o] s t) ∧
  (∀ (o : Fin 16) (rest : List Nat) (s : State),
      Calm s → s.fieldBank.queue = o.val :: rest → s.fieldBank.slotDue ≤ s.now → inOver s = false →
      foState s o = foSupply → foDemand s o = false →
      Runs (.foOverRestartSlot) s fun t =>
        foState t o = foOff ∧
        t.fieldBank.queue = rest ∧
        t.fieldBank.slotDue = s.fieldBank.slotDue + 50000 ∧
        OnlyRegs [FO_STAT o] s t) ∧
  (∀ (o : Fin 16) (rest : List Nat) (s : State),
      Calm s → s.fieldBank.queue = o.val :: rest → s.fieldBank.slotDue ≤ s.now → inOver s = false →
      foState s o = foSupply → foDemand s o = true → (s.bank (6 + o / 4)).moored = false →
      foServing s o = true → pinFirst s (113 + o) = true → s.fld (FO_STAT o) FO_STAT_VETO_T = 0 →
      Runs (.foOverRestartSlot) s fun t =>
        foState t o = foOn ∧
        t.fieldBank.queue = rest)

/-- On a Culvert that is up, a good frame towards the Lodge with the expected sequence number moves the number on,
renews the silence window and clears the attempts; a bad one adds an attempt and counts in CRCERR. With four
attempts made the link is down with LOST and its queue empty. Training brings up a link of a die that is not
silent, with fresh numbers and an empty shadow; a training attempt that fails is counted and leaves it down. A
heartbeat on an idle lane renews its window and moves its number on. Derived from parts of R15, R16, R17, R18,
R32. -/
def Obligations.Culverts : Prop :=
  (∀ (cv : Fin 6) (frame : BitVec 80) (s : State),
      Calm s → cvUp s cv = true → frameGood frame = true → frameSeq frame = (s.cv cv).up.rxSeq →
      Runs (.culvertFrameReceive cv false frame) s fun t =>
        (t.cv cv).up.rxSeq = ((s.cv cv).up.rxSeq + 1) % 256 ∧
        (t.cv cv).up.lastFrame = s.now ∧
        (t.cv cv).up.attempts = 0) ∧
  (∀ (cv : Fin 6) (frame : BitVec 80) (s : State),
      Calm s → cvUp s cv = true → frameGood frame = false →
      Runs (.culvertFrameReceive cv false frame) s fun t =>
        (t.cv cv).up.attempts = (s.cv cv).up.attempts + 1 ∧
        (t.cv cv).up.rxSeq = (s.cv cv).up.rxSeq ∧
        t.fld (SYS_CV_STAT cv) SYS_CV_STAT_CRCERR = satInc (2 ^ SYS_CV_STAT_CRCERR.w - 1) (s.fld (SYS_CV_STAT cv) SYS_CV_STAT_CRCERR)) ∧
  (∀ (cv : Fin 6) (d : Bool) (s : State),
      Calm s → cvUp s cv = true → 4 ≤ (laneOf s cv d).attempts → actingReact s cv = 0 →
      resetOverdue s = false →
      Runs (.culvertLinkDown cv d) s fun t =>
        cvUp t cv = false ∧
        t.fld (SYS_CV_STAT cv) SYS_CV_STAT_LOST = 1 ∧
        (t.cv cv).down.queue = [] ∧
        (t.cv cv).downSinceOpen = true) ∧
  (∀ (cv : Fin 6) (s : State),
      Calm s → cvUp s cv = false → s.start.lodgeDown = false → cv.val < 5 → (s.die cv).silent = false →
      (s.die cv).held = [] →
      Runs (.culvertLinkTrained cv) s fun t =>
        cvUp t cv = true ∧
        (t.cv cv).down.rxSeq = 0 ∧
        (t.cv cv).up.lastFrame = s.now ∧
        (t.die cv).shadow = []) ∧
  (∀ (cv : Fin 6) (s : State),
      Calm s → cvUp s cv = false →
      Runs (.culvertTrainingAttemptFail cv) s fun t =>
        (t.cv cv).trainFails = (s.cv cv).trainFails + 1 ∧
        cvUp t cv = false) ∧
  (∀ (cv : Fin 6) (d : Bool) (s : State),
      Calm s → cvUp s cv = true → laneIdle s cv d = true →
      Runs (.heartbeat cv d) s fun t =>
        (laneOf t cv d).lastFrame = s.now ∧
        (laneOf t cv d).rxSeq = ((laneOf s cv d).rxSeq + 1) % 256)

/-- The close point moves the open set into the closed one; a die acknowledges once its shadow holds the announced
count; LARM rises when no Culvert owes its acknowledgement and drops on request; the strobe toggles LSTB, and
with LARM high it ends the cycle, with LARM low it slips and SLIP_CNT counts; before its time it does nothing.
An immediate command leaves its queue and is applied by its die. Derived from parts of R22, R23, R24, R25, R26. -/
def Obligations.LockStrobeSequence : Prop :=
  (∀ (s : State),
      Calm s → s.lock.closed = false → cycleAt s 4000 = true → (∀ d : Fin 5, domOff s (24 + d) = false) →
      Runs (.lockSetClose) s fun t =>
        t.lock.closedSet = s.lock.openSet ∧
        t.lock.openSet = [] ∧
        t.lock.closed = true ∧
        OnlyRegs [] s t) ∧
  (∀ (cv : Fin 5) (n : Nat) (s : State),
      Calm s → (s.die cv).announced = some n → n ≤ (s.die cv).received →
      Runs (.setCompleteAck cv) s fun t =>
        (t.cv cv).acked = true) ∧
  (∀ (s : State),
      Calm s → s.lock.closed = true → cycleAt s 1000 = true → (∀ cv : Fin 5, owesAck s cv = false) →
      Runs (.larmRaise) s fun t =>
        t.lock.larm = true ∧
        OnlyRegs [] s t) ∧
  (∀ (s : State),
      Calm s → larmHeld s = false →
      Runs (.larmDrop) s fun t =>
        t.lock.larm = false ∧
        OnlyRegs [] s t) ∧
  (∀ (s : State),
      Calm s → s.start.lodgeDown = false → cycleAt s 0 = true →
      Runs (.lockStrobe) s fun t =>
        t.lock.lstb = !s.lock.lstb ∧
        t.lock.strobeAt = some s.now) ∧
  (∀ (cv : Fin 5) (rest : List Payload) (s : State),
      Calm s → cvUp s cv = true →
      (s.cv cv).down.queue = .immediate { target := 0x10000 + 0x300, word := 0 } :: rest →
      moduleLimp s = true →
      Runs (.immediateCommandApply cv) s fun t =>
        (t.cv cv).down.queue = rest ∧
        (t.cv cv).down.lastFrame = s.now) ∧
  (∀ (s : State),
      Calm s → cycleAt s 0 = false →
      Runs (.lockStrobe) s fun t =>
        t.lock = s.lock ∧
        t.cvs = s.cvs ∧
        t.dies = s.dies ∧
        OnlyRegs [] s t) ∧
  (∀ (s : State),
      Calm s → s.lock.closed = true →
      Runs (.larmDrop) s fun t =>
        t.lock = s.lock) ∧
  (∀ (s : State),
      Calm s → s.start.lodgeDown = false → cycleAt s 0 = true → s.lock.larm = false →
      Runs (.lockStrobe) s fun t =>
        t.lock.lstb = !s.lock.lstb ∧
        t.fld SYS_LOCK_STAT SYS_LOCK_STAT_SLIP_CNT = satInc (2 ^ SYS_LOCK_STAT_SLIP_CNT.w - 1) (s.fld SYS_LOCK_STAT SYS_LOCK_STAT_SLIP_CNT) ∧
        t.lock.closed = false) ∧
  (∀ (cv : Fin 5) (ch : Nat) (w : Word) (rest : List Payload) (s : State),
      Calm s → ch < 96 → cv.val = dieOfPav (ch / 16) → govern s ch = ch → cvUp s cv = true →
      (s.cv cv).down.queue = .immediate { target := 0x10000 + ch, word := w.toNat } :: rest →
      limpBars s 1 = false → (s.chan ch).hitAt ≠ some s.now → serving s (ch / 16) = true →
      fget PAV_CMD_ON w = 0 →
      Runs (.immediateCommandApply cv) s fun t =>
        pavState t ch = pavOff ∧
        t.fld (PAV_CMD ch) PAV_CMD_ON = 0 ∧
        (t.cv cv).down.queue = rest) ∧
  (∀ (s : State),
      Calm s → s.start.lodgeDown = false → cycleAt s 0 = true → s.lock.larm = true →
      s.reg KEEPER_LCC ≠ 0xFFFFFFFF#32 → inTrans s = false →
      Runs (.lockStrobe) s fun t =>
        t.reg KEEPER_LCC = s.reg KEEPER_LCC + 1#32 ∧
        t.lock.closedSet = [] ∧
        t.lock.closed = false ∧
        s.fld SYS_LOCK_STAT SYS_LOCK_STAT_SLIP_CNT = t.fld SYS_LOCK_STAT SYS_LOCK_STAT_SLIP_CNT)

/-- With LRST low every command die is silent; a die without a frame for 64 us is silent, and one that was not loses
its shadow; the Field then starts its limp time with LIMP and LIMPED. A limp time that is due sets SAFE and
SAFED of its bank. A claim clears LIMP and the limp time of its bank. A moor frame moors each bank of its die
that was not moored and ends its limp time. A die that resets is silent, with an empty shadow, its link down,
its banks unclaimed and no warm start to follow. Derived from parts of R18, R29, R30, R31, R116, R118, R330. -/
def Obligations.SilenceAndClaims : Prop :=
  (∀ (s : State),
      Calm s → s.lock.lrst = true →
      Runs (.lrstAsserted) s fun t =>
        (∀ d : Fin 5, (t.die d).silent = true)) ∧
  (∀ (d : Fin 5) (s : State),
      Calm s → (s.cv d).down.lastFrame + 64000 ≤ s.now →
      Runs (.lodgeSilenceDetected d) s fun t =>
        (t.die d).silent = true ∧
        ((s.die d).silent = false → (t.die d).shadow = [])) ∧
  (∀ (d : Fin 5) (s : State),
      Calm s → s.lock.lrst = true → (s.die d).silent = false → (s.bank 14).moored = false →
      (s.bank 14).limpStart = none → d.val = 4 →
      Runs (.lodgeSilenceDetected d) s fun t =>
        (t.bank 14).limpEnd = some (s.now + limpTime s 14) ∧
        t.fld LIGHT_BSTAT LIGHT_BSTAT_LIMP = 1 ∧
        t.fld LIGHT_BSTAT LIGHT_BSTAT_LIMPED = 1) ∧
  (∀ (b : Fin 15) (s : State),
      Calm s → limpDue s b = true →
      Runs (.limpExpiry b) s fun t =>
        (t.bank b).limpEnd = none ∧
        (t.bank b).safeReport = true ∧
        t.fld (bstat b) PAV_BSTAT_SAFE = 1 ∧
        t.fld (bstat b) PAV_BSTAT_SAFED = 1) ∧
  (∀ (b : Fin 15) (s : State),
      Calm s → cvUp s (dieOfBank b) = true → s.start.lodgeDown = false →
      domOff s (24 + dieOfBank b) = false → (s.cv (dieOfBank b)).down.queue = [] →
      Runs (.claimFrame b) s fun t =>
        t.fld (bstat b) PAV_BSTAT_LIMP = 0 ∧
        (t.bank b).limpStart = none) ∧
  (∀ (d : Fin 5) (b : Fin 15) (s : State),
      Calm s → cvUp s d = true → dieOfBank b = d.val → (s.bank b).moored = false →
      Runs (.moorFrame d) s fun t =>
        (t.bank b).moored = true ∧
        (t.bank b).limpEnd = none) ∧
  (∀ (d : Fin 5) (b : Fin 15) (s : State),
      Calm s → dieOfBank b = d.val →
      Runs (.dieReset d) s fun t =>
        (t.die d).silent = true ∧
        (t.die d).shadow = [] ∧
        cvUp t d = false ∧
        (t.bank b).claimed = false ∧
        t.start.warmValid = false)

/-- An on-state burst of a live channel with DIAG_EN, in its slots, stores I and V with VALID. An off-state test of
4.0 V with OL_CNT 0 gives CODE 3 and SHORT_BAT. A capture after a latch below 2 V stores LATCH_V, CODE 4 and
SHORT_GND. A stretch of a PWM channel lengthens the pulse and adds the excess to its debt. A background sample
adds to the sums of its channel and moves BG_PTR on. A die that reports sends the sums and counts again from 0;
the Lodge adds a batch that arrives to the weighted sums of the day. RELEARN clears LEARNED and starts the
learning days; CLOSE_DAY and a day of 24 h open a new day; the flush stores the open sums. Derived from parts of
R128, R129, R131, R133, R135, R138, R139, R140, R141, R143. -/
def Obligations.Measurement : Prop :=
  (∀ (ch : Fin 96) (i v : Nat) (s : State),
      Calm s → s.fld (MEAS_DCFG (govern s ch)) MEAS_DCFG_DIAG_EN = 1 → pavLive s (govern s ch) = true →
      measRuns s (govern s ch) = true →
      slotsOwn s ((govern s ch) / 16) (burstSpan s ((govern s ch) / 16) (slotNow s)) = true →
      burstFits s (govern s ch) (burstSpan s ((govern s ch) / 16) (slotNow s)) = true → i ≤ 65535 →
      v ≤ 4095 →
      Runs (.onstateBurstComplete ch i v) s fun t =>
        t.fld (MEAS_IV (govern s ch)) MEAS_IV_I = i ∧
        t.fld (MEAS_IV (govern s ch)) MEAS_IV_V = v ∧
        t.fld (MEAS_IV (govern s ch)) MEAS_IV_VALID = 1) ∧
  (∀ (ch : Fin 96) (va vb : Nat) (s : State),
      Calm s → s.fld (MEAS_DCFG (govern s ch)) MEAS_DCFG_OFF_EN = 1 → offAllowed s (govern s ch) = true →
      measRuns s (govern s ch) = true → (offLong s (govern s ch) || offTimeFits s (govern s ch)) = true →
      4000 ≤ vb → s.fld (MEAS_DCFG (govern s ch)) MEAS_DCFG_OL_CNT = 0 →
      (s.mch (govern s ch)).offKind = 0 →
      Runs (.offstateTestComplete ch va vb) s fun t =>
        diagCode t (govern s ch) = 3 ∧
        t.fld (MEAS_DIAG (govern s ch)) MEAS_DIAG_SHORT_BAT = 1 ∧
        OnlyRegs [MEAS_DIAG (govern s ch), MEAS_DIAG ch] s t) ∧
  (∀ (ch : Fin 96) (v : Nat) (s : State),
      Calm s → pavState s (govern s ch) = pavLatched → (s.chan (govern s ch)).capture = true →
      measRuns s (govern s ch) = true → v * 16 < 2000 →
      Runs (.latchCapture ch v) s fun t =>
        t.fld (MEAS_DIAG (govern s ch)) MEAS_DIAG_LATCH_V = v ∧
        diagCode t (govern s ch) = 4 ∧
        t.fld (MEAS_DIAG (govern s ch)) MEAS_DIAG_SHORT_GND = 1 ∧
        (t.chan (govern s ch)).capture = false) ∧
  (∀ (ch : Fin 96) (ns period : Nat) (s : State),
      Calm s → pavPeriod s (govern s ch) false = some period →
      s.fld (MEAS_DCFG (govern s ch)) MEAS_DCFG_STRETCH = 1 →
      s.fld (MEAS_DCFG (govern s ch)) MEAS_DCFG_DIAG_EN = 1 → pavState s (govern s ch) = pavOn →
      measRuns s (govern s ch) = true → (s.mch (govern s ch)).stretchLeft = 0 →
      onTimeOf (govern s ch / 16) period (s.chan (govern s ch)).duty < ns →
      ns + pavMinOn (govern s ch / 16) ≤ period →
      Runs (.diagStretch ch ns) s fun t =>
        t.fld (MEAS_DIAG (govern s ch)) MEAS_DIAG_STRETCHED = 1 ∧
        (t.chan (govern s ch)).pulse = ns ∧
        (t.chan (govern s ch)).debt = (s.chan (govern s ch)).debtWas + (ns - onTimeOf (govern s ch / 16) period (s.chan (govern s ch)).duty) ∧
        OnlyRegs [MEAS_DIAG (govern s ch), MEAS_DIAG ch] s t) ∧
  (∀ (b : Fin 6) (k : Fin 16) (i v : Nat) (ready : BitVec 16) (s : State),
      Calm s → bgMay s b = true → measRuns s (16 * b + k) = true → hhNext s b ready.toNat = some k.val →
      hhEligible s (16 * b + k) i = true →
      Runs (.backgroundSample b k i v ready) s fun t =>
        (t.mch (16 * b + k)).sumVI = (s.mch (16 * b + k)).sumVI + v * i ∧
        (t.mch (16 * b + k)).sumII = (s.mch (16 * b + k)).sumII + i * i ∧
        (t.mch (16 * b + k)).count = (s.mch (16 * b + k)).count + 1 ∧
        t.fld (MEAS_ARB b) MEAS_ARB_BG_PTR = (k.val + 1) % 16 ∧
        OnlyRegs [MEAS_ARB b, MEAS_SCNT b] s t) ∧
  (∀ (d : Fin 3) (g : Fin 96) (s : State),
      Calm s → dieReports s d = true → dieOfPav (g / 16) = d.val → (s.mch g).count ≠ 0 →
      Runs (.hhBatchSend d) s fun t =>
        (t.mch g).sent = (s.mch g).sent ++ [((s.mch g).sumVI, (s.mch g).sumII, (s.mch g).count)] ∧
        (t.mch g).count = 0) ∧
  (∀ (ch : Fin 96) (b : Nat × Nat × Nat) (rest : List (Nat × Nat × Nat)) (s : State),
      Calm s → (s.mch (govern s ch)).sent = b :: rest → dayOver s = false →
      Runs (.hhBatchArrival ch) s fun t =>
        (t.mch (govern s ch)).sent = rest ∧
        (t.mch (govern s ch)).wsum = (s.mch (govern s ch)).wsum + hhWeighted s (govern s ch) b.1 ∧
        (t.mch (govern s ch)).weight = (s.mch (govern s ch)).weight + b.2.1 ∧
        (t.mch (govern s ch)).batches = (s.mch (govern s ch)).batches + 1) ∧
  (∀ (m : Fin 12) (ch : Fin 128) (s : State),
      Calm s → masterUp s m = true → privileged s m = true → accessError s MEAS_HHCMD = 0 → ch.val < 96 →
      0 < s.fld MEAS_CFG MEAS_CFG_LEARN_DAYS →
      Runs (.relearn m ch) s fun t =>
        t.fld (MEAS_HHBASE ch) MEAS_HHBASE_LEARNED = 0 ∧
        t.fld (MEAS_HHBASE ch) MEAS_HHBASE_LEFT = s.fld MEAS_CFG MEAS_CFG_LEARN_DAYS ∧
        (t.mch ch).learnDays = 0) ∧
  (∀ (m : Fin 12) (s : State),
      Calm s → masterUp s m = true → privileged s m = true → accessError s (MEAS_HHCMD + setView) = 0 →
      Runs (.closeDay m) s fun t =>
        t.meas.dayOpen = s.wwt) ∧
  (∀ (s : State),
      Calm s → s.meas.dayOpen + dayLength ≤ s.wwt →
      Runs (.trendDayClose) s fun t =>
        t.meas.dayOpen = s.wwt) ∧
  (∀ (s : State),
      Calm s →
      Runs (.trendFlush) s fun t =>
        (∀ g : Fin 96, (t.mch g).flushed = ((s.mch g).wsum, (s.mch g).weight, (s.mch g).batches)))

/-- A frame that a controller hears, in an allowed format, goes to the lowest object that accepts it: identifier,
LEN, data (not an XL frame's here), time stamp and NEWDAT are written, and MSGLOST where NEWDAT stood. One that
no object accepts counts in RXDROP, one of a format not allowed sets PEXC, and neither changes the first word of
an object. At SOF the chosen object is frozen and, outside loopback, its frame sent; its end clears TXREQ, sets
TXRES 1 and stamps the time. A cancel of an object that is not frozen clears TXREQ with TXRES 2; one of the
frozen object waits. Lost arbitration frees the object, whose request stays but for ONESHOT. Derived from parts
of R355, R356, R357, R359, R360, R361, R362. -/
def Obligations.CanTraffic : Prop :=
  (∀ (c : Fin 8) (f : CanFrame) (n : Nat) (s : State),
      Calm s → canHears s c f.sofAgo = true → trimFrame f = f → fmtAllowed s c f.fmt = true →
      (List.range 128).find? (objAccepts s c f) = some n →
      Runs (.canFrameReceive c f) s fun t =>
        t.reg (canWord c n 1) = BitVec.ofNat 32 f.id ∧
        fget OBJ_NEWDAT (objWord t c n) = 1 ∧
        fget OBJ_LEN (objWord t c n) = f.data.length ∧
        t.reg (canWord c n 3) = usStamp (s.wwt - f.sofAgo) ∧
        (fget OBJ_NEWDAT (objWord s c n) = 1 → fget OBJ_MSGLOST (objWord t c n) = 1) ∧
        (f.fmt ≠ 2 → bytesAt t (canWord c n 4) f.data.length = f.data)) ∧
  (∀ (c : Fin 8) (f : CanFrame) (s : State),
      Calm s → canHears s c f.sofAgo = true → trimFrame f = f → fmtAllowed s c f.fmt = true →
      canAccepted s c f = false →
      Runs (.canFrameReceive c f) s fun t =>
        t.fld (CAN_STAT c) CAN_STAT_RXDROP = satInc (2 ^ CAN_STAT_RXDROP.w - 1) (s.fld (CAN_STAT c) CAN_STAT_RXDROP) ∧
        (∀ n : Fin 128, objWord t c n = objWord s c n)) ∧
  (∀ (c : Fin 8) (f : CanFrame) (s : State),
      Calm s → canHears s c f.sofAgo = true → trimFrame f = f → fmtAllowed s c f.fmt = false →
      Runs (.canFrameReceive c f) s fun t =>
        t.fld (CAN_STAT c) CAN_STAT_PEXC = 1 ∧
        (∀ n : Fin 128, objWord t c n = objWord s c n)) ∧
  (∀ (c : Fin 8) (n : Nat) (s : State),
      Calm s → canDrives s c = true → (s.can c).frozen = none → chosenObj s c = some n →
      Runs (.canTxSof c) s fun t =>
        (t.can c).frozen = some (n, frameOf s c n) ∧
        (canMode s c ≠ 3 → t.out = s.out ++ [.can c (frameOf s c n)]) ∧
        (canMode s c = 3 → t.out = s.out)) ∧
  (∀ (c : Fin 8) (n : Nat) (f : CanFrame) (s : State),
      Calm s → canRuns s c = true → canBusOff s c = false → n < 128 → (s.can c).frozen = some (n, f) →
      (s.can c).cancel = false → (s.can c).held = [] → canMode s c ≠ 3 →
      Runs (.canTxComplete c) s fun t =>
        fget OBJ_TXREQ (objWord t c n) = 0 ∧
        fget OBJ_TXRES (objWord t c n) = 1 ∧
        t.reg (canWord c n 3) = usStamp (s.can c).sof ∧
        (t.can c).frozen = none) ∧
  (∀ (m : Fin 12) (c : Fin 8) (n : Fin 128) (s : State),
      Calm s → masterUp s m = true → accessError s (CAN_CANCEL c) = 0 → cvUp s 5 = true →
      fget OBJ_TXREQ (objWord s c n) = 1 → (s.can c).frozen = none →
      Runs (.canCancel m c n) s fun t =>
        fget OBJ_TXREQ (objWord t c n) = 0 ∧
        fget OBJ_TXRES (objWord t c n) = 2) ∧
  (∀ (m : Fin 12) (c : Fin 8) (n : Fin 128) (f : CanFrame) (s : State),
      Calm s → masterUp s m = true → accessError s (CAN_CANCEL c) = 0 → cvUp s 5 = true →
      fget OBJ_TXREQ (objWord s c n) = 1 → (s.can c).frozen = some (n.val, f) →
      Runs (.canCancel m c n) s fun t =>
        (t.can c).cancel = true ∧
        objWord t c n = objWord s c n) ∧
  (∀ (c : Fin 8) (n : Nat) (f : CanFrame) (s : State),
      Calm s → canRuns s c = true → n < 128 → (s.can c).frozen = some (n, f) → (s.can c).cancel = false →
      (s.can c).held = [] →
      Runs (.arbitrationLost c) s fun t =>
        (t.can c).frozen = none ∧
        (fget OBJ_TXREQ (objWord t c n) = if s.fld (CAN_CTRL c) CAN_CTRL_ONESHOT = 1 then 0 else fget OBJ_TXREQ (objWord s c n)))

/-- A transmit error sets LEC and adds 8 to TEC, a receive error adds 1 to REC; TEC above 255 is bus-off with
BUSOFF, in recovery at once but in manual mode. BO_REQ in manual mode starts the recovery, whose end leaves both
counters 0 and counts in BO_CNT. The entries of the collision table whose 1 s has ended leave it. Derived from
parts of R363, R364. -/
def Obligations.CanConfinement : Prop :=
  (∀ (c : Fin 8) (lec : Fin 7) (inData : Bool) (s : State),
      Calm s → canRuns s c = true → canBusOff s c = false → (s.can c).frozen = none →
      s.fld (CAN_ERR c) CAN_ERR_TEC < 80 → s.fld (CAN_ERR c) CAN_ERR_REC < 80 →
      Runs (.canError c true lec 0 inData) s fun t =>
        t.fld (CAN_ERR c) CAN_ERR_LEC = lec.val ∧
        t.fld (CAN_ERR c) CAN_ERR_TEC = s.fld (CAN_ERR c) CAN_ERR_TEC + 8 ∧
        t.fld (CAN_ERR c) CAN_ERR_REC = s.fld (CAN_ERR c) CAN_ERR_REC ∧
        OnlyRegs [CAN_ERR c] s t) ∧
  (∀ (c : Fin 8) (lec : Fin 7) (inData : Bool) (s : State),
      Calm s → canRuns s c = true → canBusOff s c = false → (s.can c).frozen = none →
      247 < s.fld (CAN_ERR c) CAN_ERR_TEC → s.fld (CAN_ERR c) CAN_ERR_TEC ≤ 255 →
      actingReact s (54 + c) = 0 → resetOverdue s = false →
      Runs (.canError c true lec 0 inData) s fun t =>
        t.fld (CAN_ERR c) CAN_ERR_STATE = 2 ∧
        t.fld (CAN_STAT c) CAN_STAT_BUSOFF = 1 ∧
        (t.can c).recovering = !s.flag (CAN_CTRL c) CAN_CTRL_BO_MODE ∧
        OnlyRegs [CAN_ERR c, CAN_STAT c] s t) ∧
  (∀ (c : Fin 8) (lec : Fin 7) (inData : Bool) (s : State),
      Calm s → canRuns s c = true → canBusOff s c = false → s.fld (CAN_ERR c) CAN_ERR_REC < 80 →
      s.fld (CAN_ERR c) CAN_ERR_TEC < 96 →
      Runs (.canError c false lec 0 inData) s fun t =>
        t.fld (CAN_ERR c) CAN_ERR_REC = s.fld (CAN_ERR c) CAN_ERR_REC + 1 ∧
        t.fld (CAN_ERR c) CAN_ERR_TEC = s.fld (CAN_ERR c) CAN_ERR_TEC ∧
        OnlyRegs [CAN_ERR c] s t) ∧
  (∀ (m : Fin 12) (c : Fin 8) (s : State),
      Calm s → masterUp s m = true → accessError s (CAN_CANCEL c) = 0 → cvUp s 5 = true →
      canBusOff s c = true → s.fld (CAN_CTRL c) CAN_CTRL_BO_MODE = 1 →
      Runs (.boReq m c) s fun t =>
        (t.can c).recovering = true ∧
        OnlyRegs [] s t) ∧
  (∀ (c : Fin 8) (s : State),
      Calm s → canRuns s c = true → canBusOff s c = true → (s.can c).recovering = true →
      Runs (.busOffRecovered c) s fun t =>
        t.fld (CAN_ERR c) CAN_ERR_STATE = 0 ∧
        t.fld (CAN_ERR c) CAN_ERR_TEC = 0 ∧
        t.fld (CAN_ERR c) CAN_ERR_REC = 0 ∧
        t.fld (CAN_ERR c) CAN_ERR_BO_CNT = satInc (2 ^ CAN_ERR_BO_CNT.w - 1) (s.fld (CAN_ERR c) CAN_ERR_BO_CNT) ∧
        (t.can c).recovering = false ∧
        OnlyRegs [CAN_ERR c] s t) ∧
  (∀ (c : Fin 8) (s : State),
      Calm s →
      Runs (.collisionWindowExpiry c) s fun t =>
        (t.can c).coll = (s.can c).coll.filter (fun e => s.now < e.start + 1000000000))

/-- The second good frame of a candidate confirms it with DONE, FOUND, CAND and RDOK and, with RD_AUTO, loads its
bit time and MODE 0; a measured MINBIT is stored and the search begins anew; after RD_TO the search ends without
one, with RDFAIL. A claim start sends the claim of the preferred address and opens its 250 ms, whose end holds
the address. A contention for the held address by a NAME that is not lower is answered with the claim; by a
lower one, without AAC, with cannot claim, and the address is lost. A request is answered with the claim.
Derived from parts of R365, R366. -/
def Obligations.CanRateAndName : Prop :=
  (∀ (c : Fin 8) (minbit i : Nat) (s : State),
      Calm s → rdRuns s c = true → (s.can c).rdCand = some i → 1 ≤ (s.can c).rdGood → i < 8 →
      Runs (.rateDetection c 1 minbit) s fun t =>
        t.fld (CAN_RDET c) CAN_RDET_DONE = 1 ∧
        t.fld (CAN_RDET c) CAN_RDET_FOUND = 1 ∧
        t.fld (CAN_RDET c) CAN_RDET_CAND = i ∧
        t.fld (CAN_STAT c) CAN_STAT_RDOK = 1 ∧
        (s.fld (CAN_CTRL c) CAN_CTRL_RD_AUTO = 1 → t.reg (CAN_NBT c) = s.reg (CAN_RCAND c i) ∧ t.fld (CAN_CTRL c) CAN_CTRL_MODE = 0) ∧
        OnlyRegs [CAN_RDET c, CAN_STAT c, CAN_NBT c, CAN_CTRL c] s t) ∧
  (∀ (c : Fin 8) (minbit : Nat) (s : State),
      Calm s → rdRuns s c = true → (s.can c).rdCand = none → minbit < 2 ^ CAN_RDET_MINBIT.w →
      Runs (.rateDetection c 0 minbit) s fun t =>
        t.fld (CAN_RDET c) CAN_RDET_MINBIT = minbit ∧
        (t.can c).rdGood = 0 ∧
        (t.can c).rdTried = [] ∧
        OnlyRegs [CAN_RDET c] s t) ∧
  (∀ (c : Fin 8) (s : State),
      Calm s → canRuns s c = true → canMode s c = 2 → s.fld (CAN_RDET c) CAN_RDET_DONE = 0 →
      0 < s.fld (CAN_CTRL c) CAN_CTRL_RD_TO →
      (s.can c).rdStart + s.fld (CAN_CTRL c) CAN_CTRL_RD_TO * 10000000 ≤ s.now →
      Runs (.rateDetectionTimeout c) s fun t =>
        t.fld (CAN_RDET c) CAN_RDET_DONE = 1 ∧
        t.fld (CAN_RDET c) CAN_RDET_FOUND = 0 ∧
        t.fld (CAN_STAT c) CAN_STAT_RDFAIL = 1 ∧
        (t.can c).rdCand = none ∧
        OnlyRegs [CAN_RDET c, CAN_STAT c] s t) ∧
  (∀ (c : Fin 8) (s : State),
      Calm s → jServes s c = true → jState s c = 0 →
      Runs (.j1939ClaimStart c) s fun t =>
        jState t c = 1 ∧
        (t.can c).jAddr = s.fld (CAN_J1939 c) CAN_J1939_PREF ∧
        (t.can c).jEnd = s.now + 250000000 ∧
        t.out = s.out ++ [.can c (claimFrame (jName s c) (s.fld (CAN_J1939 c) CAN_J1939_PREF))] ∧
        OnlyRegs [CAN_J1939 c] s t) ∧
  (∀ (c : Fin 8) (s : State),
      Calm s → jServes s c = true → jState s c = 1 → (s.can c).jEnd ≤ s.now → (s.can c).jAddr < 256 →
      Runs (.j1939ClaimWindowEnd c) s fun t =>
        jState t c = 2 ∧
        t.fld (CAN_J1939 c) CAN_J1939_ADDR = (s.can c).jAddr ∧
        OnlyRegs [CAN_J1939 c] s t) ∧
  (∀ (c : Fin 8) (name sa : Nat) (s : State),
      Calm s → pausing s = false → jServes s c = true → jState s c = 2 →
      sa = s.fld (CAN_J1939 c) CAN_J1939_ADDR → jName s c ≤ name →
      Runs (.j1939Contention c name sa) s fun t =>
        t.out = s.out ++ [.can c (claimFrame (jName s c) sa)] ∧
        jState t c = 2) ∧
  (∀ (c : Fin 8) (name sa : Nat) (s : State),
      Calm s → pausing s = false → jServes s c = true → jState s c = 2 →
      sa = s.fld (CAN_J1939 c) CAN_J1939_ADDR → name < jName s c → s.fld (CAN_J1939 c) CAN_J1939_AAC = 0 →
      Runs (.j1939Contention c name sa) s fun t =>
        t.out = s.out ++ [.can c (claimFrame (jName s c) 254)] ∧
        jState t c = 3 ∧
        OnlyRegs [CAN_J1939 c] s t) ∧
  (∀ (c : Fin 8) (s : State),
      Calm s → pausing s = false → jServes s c = true → jState s c = 2 →
      Runs (.j1939Request c) s fun t =>
        t.out = s.out ++ [.can c (claimFrame (jName s c) (s.fld (CAN_J1939 c) CAN_J1939_ADDR))] ∧
        jState t c = 2)

/-- On a LIN channel: a waiting switch of tables takes effect at the end of a slot, from slot 0; a frame slot of a
publisher in a commander shows its number and sends its header; a frame of a subscribed identifier is stored as
fresh; a go-to-sleep frame sets SLEEPCMD; a responder answers the header of an identifier it publishes; a
checksum error counts and marks the frame, its data kept; a bus low for 100 ms sets SHORT; a write of SCHED
stores it. On a 10BASE-T1S port: a good frame that passes is queued for the Warden, a bad one sets RXERR, a lost
beacon sets LOST and clears PLCA_OK. On a SENT input: a good fast frame stores STATUS, DATA and its time with
FRESH, a bad one counts with CRCERR and changes no data; a slow message is stored with FRESH; the time-out sets
TIMEOUT. Derived from parts of R368, R369, R370, R371, R372, R373, R374. -/
def Obligations.LinSegmentsAndSensors : Prop :=
  (∀ (ch : Fin 12) (sl : LinSlot) (s : State),
      Calm s → linRuns s ch = true → linCommander s ch = true → s.pow.stage = 0 →
      (s.lin ch).slotEnd ≤ s.now → (s.lin ch).switching = true →
      (linTable s ch (s.fld (LIN_CFG ch) LIN_CFG_SCHED))[0]? = some sl →
      Runs (.linScheduleSlot ch) s fun t =>
        (t.lin ch).table = s.fld (LIN_CFG ch) LIN_CFG_SCHED ∧
        (t.lin ch).switching = false ∧
        t.fld (LIN_STAT ch) LIN_STAT_SLOT = 0 ∧
        (t.lin ch).next = 1 ∧
        (t.lin ch).slotEnd = s.now + sl.time * 100000 ∧
        OnlyRegs [LIN_STAT ch] s t) ∧
  (∀ (ch : Fin 12) (sl : LinSlot) (s : State),
      Calm s → linRuns s ch = true → linCommander s ch = true → s.pow.stage = 0 →
      (s.lin ch).slotEnd ≤ s.now → (s.lin ch).switching = false → (s.lin ch).next < 64 →
      (linTable s ch (s.lin ch).table)[(s.lin ch).next]? = some sl → xcvState s (6 + ch) = 3 →
      sl.kind = 0 → (s.linFrame ch sl.id).dir = 2 →
      Runs (.linScheduleSlot ch) s fun t =>
        t.fld (LIN_STAT ch) LIN_STAT_SLOT = (s.lin ch).next ∧
        t.out = s.out ++ [.linHeader ch sl.id] ∧
        OnlyRegs [LIN_STAT ch] s t) ∧
  (∀ (ch : Fin 12) (id : Fin 64) (data : BitVec 64) (s : State),
      Calm s → linLive s ch = true → (s.linFrame ch id).dir = 2 →
      Runs (.linFrameReceive ch id data) s fun t =>
        (t.linFrame ch id).data = data.toNat % 256 ^ (s.linFrame ch id).len ∧
        (t.linFrame ch id).fresh = true ∧
        (t.linFrame ch id).err = false ∧
        (t.lin ch).lastActive = s.now) ∧
  (∀ (ch : Fin 12) (data : BitVec 64) (s : State),
      Calm s → linLive s ch = true → data.toNat % 256 = 0 →
      Runs (.linFrameReceive ch 0x3C data) s fun t =>
        t.fld (LIN_STAT ch) LIN_STAT_SLEEPCMD = 1 ∧
        OnlyRegs [LIN_STAT ch] s t) ∧
  (∀ (ch : Fin 12) (id : Fin 64) (breakBits rate : Nat) (s : State),
      Calm s → linLive s ch = true → linCommander s ch = false → linTakes s ch breakBits rate = true →
      (s.linFrame ch id).dir = 1 → xcvState s (6 + ch) = 3 →
      Runs (.linHeader ch id breakBits rate) s fun t =>
        t.out = s.out ++ [.linData ch id (linEnhanced (s.linFrame ch id) id) (linBytes (s.linFrame ch id))] ∧
        (t.lin ch).lastActive = s.now) ∧
  (∀ (ch : Fin 12) (id : Fin 64) (dur : Nat) (s : State),
      Calm s → linLive s ch = true → (s.linFrame ch id).dir ≠ 0 →
      Runs (.linError ch id 0 dur) s fun t =>
        t.fld (LIN_STAT ch) LIN_STAT_CKSUM = 1 ∧
        t.fld (LIN_STAT ch) LIN_STAT_ERRCNT = satInc (2 ^ LIN_STAT_ERRCNT.w - 1) (s.fld (LIN_STAT ch) LIN_STAT_ERRCNT) ∧
        (t.linFrame ch id).err = true ∧
        (t.linFrame ch id).data = (s.linFrame ch id).data ∧
        OnlyRegs [LIN_STAT ch] s t) ∧
  (∀ (ch : Fin 12) (id : Fin 64) (dur : Nat) (s : State),
      Calm s → linLive s ch = true → 100000000 ≤ dur → actingReact s (68 + ch) = 0 →
      resetOverdue s = false →
      Runs (.linError ch id 3 dur) s fun t =>
        t.fld (LIN_STAT ch) LIN_STAT_SHORT = 1 ∧
        OnlyRegs [LIN_STAT ch] s t) ∧
  (∀ (m : Fin 12) (ch : Fin 12) (v : Fin 4) (s : State),
      Calm s → masterUp s m = true → accessError s (LIN_CFG ch + toggleView) = 0 →
      Runs (.linSchedSwitch m ch v) s fun t =>
        t.fld (LIN_CFG ch) LIN_CFG_SCHED = v.val ∧
        OnlyRegs [LIN_CFG ch] s t) ∧
  (∀ (p : Fin 2) (dest : Nat) (bytes : List Nat) (s : State),
      Calm s → t1sRuns s p (t1sTime bytes.length) = true → t1sPasses s p dest = true →
      bytes.length ≤ 1522 →
      Runs (.t1sFrameReceive p dest bytes false) s fun t =>
        t.bus.t1sRx = s.bus.t1sRx ++ [(p.val, bytes)] ∧
        OnlyRegs [T1S_STAT p] s t) ∧
  (∀ (p : Fin 2) (dest : Nat) (bytes : List Nat) (s : State),
      Calm s → t1sRuns s p (t1sTime bytes.length) = true →
      Runs (.t1sFrameReceive p dest bytes true) s fun t =>
        t.fld (T1S_STAT p) T1S_STAT_RXERR = 1 ∧
        t.bus.t1sRx = s.bus.t1sRx ∧
        OnlyRegs [T1S_STAT p] s t) ∧
  (∀ (p : Fin 2) (s : State),
      Calm s → t1sRuns s p 0 = true → s.fld (T1S_STAT p) T1S_STAT_PLCA_OK = 1 →
      actingReact s (84 + p) = 0 → resetOverdue s = false →
      Runs (.plcaBeaconLost p) s fun t =>
        t.fld (T1S_STAT p) T1S_STAT_LOST = 1 ∧
        t.fld (T1S_STAT p) T1S_STAT_PLCA_OK = 0 ∧
        OnlyRegs [T1S_STAT p] s t) ∧
  (∀ (i : Fin 4) (cal status data ago : Nat) (s : State),
      Calm s → sentRuns s i = true → sentCalOk s i cal = true → status < 16 →
      Runs (.sentFastFrame i cal status data true ago) s fun t =>
        t.fld (SENT_FAST i) SENT_FAST_FRESH = 1 ∧
        t.fld (SENT_FAST i) SENT_FAST_STATUS = status ∧
        t.fld (SENT_FAST i) SENT_FAST_DATA = data % 16 ^ (clampN 1 6 (s.fld (SENT_CFG i) SENT_CFG_NIBBLES)) ∧
        t.reg (SENT_TS i) = usStamp (s.wwt - ago) ∧
        (t.sent i).lastValid = s.now ∧
        OnlyRegs [SENT_FAST i, SENT_TS i] s t) ∧
  (∀ (i : Fin 4) (cal status data ago : Nat) (s : State),
      Calm s → sentRuns s i = true → sentCalOk s i cal = true →
      Runs (.sentFastFrame i cal status data false ago) s fun t =>
        t.fld (SENT_STAT i) SENT_STAT_CRCERR = 1 ∧
        t.fld (SENT_STAT i) SENT_STAT_ERRCNT = satInc (2 ^ SENT_STAT_ERRCNT.w - 1) (s.fld (SENT_STAT i) SENT_STAT_ERRCNT) ∧
        t.reg (SENT_FAST i) = s.reg (SENT_FAST i) ∧
        OnlyRegs [SENT_STAT i, SENT_FAST i] s t) ∧
  (∀ (i : Fin 4) (kind id data : Nat) (s : State),
      Calm s → sentRuns s i = true → sentTakesSlow s i kind = true → id < 256 → data < 65536 →
      Runs (.sentSlowMessage i kind id data) s fun t =>
        t.fld (SENT_SLOW i) SENT_SLOW_FRESH = 1 ∧
        t.fld (SENT_SLOW i) SENT_SLOW_KIND = kind ∧
        t.fld (SENT_SLOW i) SENT_SLOW_ID = id ∧
        t.fld (SENT_SLOW i) SENT_SLOW_SDATA = data ∧
        OnlyRegs [SENT_SLOW i] s t) ∧
  (∀ (i : Fin 4) (s : State),
      Calm s → sentRuns s i = true → 0 < s.fld (SENT_CFG i) SENT_CFG_SENT_TO →
      (s.sent i).timedOut = false →
      (s.sent i).lastValid + s.fld (SENT_CFG i) SENT_CFG_SENT_TO * 1000000 ≤ s.now →
      actingReact s (80 + i) = 0 → resetOverdue s = false →
      Runs (.sentTimeout i) s fun t =>
        t.fld (SENT_STAT i) SENT_STAT_TIMEOUT = 1 ∧
        (t.sent i).timedOut = true ∧
        OnlyRegs [SENT_STAT i] s t)

/-- A pattern of three phases of WUF inside WUP_TO on an armed transceiver without selective wake sets WKF and wakes
the module with kind 2; one that falls short changes neither. A dominant pulse of LWAKE wakes it with kind 4, a
matching selective-wake frame at its rate with kind 3 and WAKEID; a bad frame counts in FEC. A wake of a
transceiver while the module runs sets WKF and, with AUTO_NORMAL, returns it to Normal. A write of REQ moves the
transceiver; WKSEND on a LIN transceiver in Normal sends the pulse. A LIN responder that follows its bus goes to
Sleep. A keep-awake frame sets the HOLDING bit of its channel and stores it, the time-out clears that bit alone.
When the maximum-awake time has ended with no local reason, CULPRIT takes HOLDING, ENF_CNT counts and Berthed is
requested. The hold-off ends at its time. Derived from parts of R379, R382, R383, R384, R385, R386, R387, R388,
R389, R390. -/
def Obligations.NetworkWakesAndSleep : Prop :=
  (∀ (c : Fin 6) (p1 p2 p3 total : Nat) (s : State),
      Calm s → xcvArmed s c = true → wuf s c ≤ p1 → wuf s c ≤ p2 → wuf s c ≤ p3 → total < wupTo s c →
      lowPower s = true → selectiveOn s c = false → wakeListed s 2 c = true → suppressed s c = false →
      Runs (.canWakePattern c p1 p2 p3 total) s fun t =>
        t.fld (NETPM_XCV c) NETPM_XCV_WKF = 1 ∧
        t.fld WAKE_SOURCE WAKE_SOURCE_KIND = 2 ∧
        t.fld WAKE_SOURCE WAKE_SOURCE_INDEX = c.val ∧
        t.fld POWER_STAT POWER_STAT_STATE = 0 ∧
        t.start.trigger = s.now ∧
        t.net.idDue = some c.val) ∧
  (∀ (c : Fin 6) (p1 p2 p3 total : Nat) (s : State),
      Calm s → xcvArmed s c = true → (p1 < wuf s c ∨ p2 < wuf s c ∨ p3 < wuf s c ∨ wupTo s c ≤ total) →
      Runs (.canWakePattern c p1 p2 p3 total) s fun t =>
        t.fld (NETPM_XCV c) NETPM_XCV_WKF = s.fld (NETPM_XCV c) NETPM_XCV_WKF ∧
        t.fld POWER_STAT POWER_STAT_STATE = s.fld POWER_STAT POWER_STAT_STATE) ∧
  (∀ (ch : Fin 12) (dur : Nat) (s : State),
      Calm s → xcvArmed s (6 + ch) = true → lwake s (6 + ch) ≤ dur → lowPower s = true →
      wakeListed s 4 ch = true →
      Runs (.linWake ch dur) s fun t =>
        t.fld (NETPM_XCV (6 + ch)) NETPM_XCV_WKF = 1 ∧
        t.fld WAKE_SOURCE WAKE_SOURCE_KIND = 4 ∧
        t.fld WAKE_SOURCE WAKE_SOURCE_INDEX = ch.val ∧
        t.fld POWER_STAT POWER_STAT_STATE = 0) ∧
  (∀ (c : Fin 6) (f : CanFrame) (rate : Fin 4) (s : State),
      Calm s → rate.val = s.fld (NETPM_PN_CFG c) NETPM_PN_CFG_RATE → xcvArmed s c = true →
      selectiveOn s c = true → f.fmt = 0 → pnMatches s c f false = true →
      s.fld (NETPM_PN_CFG c) NETPM_PN_CFG_FEC = 0 → lowPower s = true → wakeListed s 3 c = true →
      suppressed s c = false →
      Runs (.selectiveWakeFrame c f false ⟨false, rate⟩) s fun t =>
        t.fld (NETPM_XCV c) NETPM_XCV_WKF = 1 ∧
        t.fld WAKE_SOURCE WAKE_SOURCE_KIND = 3 ∧
        t.fld WAKE_SOURCE WAKE_SOURCE_INDEX = c.val ∧
        t.fld NETPM_WAKEID NETPM_WAKEID_CH = c.val ∧
        t.fld NETPM_WAKEID NETPM_WAKEID_ID = shownId f.ide f.id) ∧
  (∀ (c : Fin 6) (f : CanFrame) (rate : Fin 4) (s : State),
      Calm s → xcvArmed s c = true → selectiveOn s c = true → f.fmt = 0 →
      s.fld (NETPM_PN_CFG c) NETPM_PN_CFG_FEC < 31 →
      Runs (.selectiveWakeFrame c f false ⟨true, rate⟩) s fun t =>
        t.fld (NETPM_PN_CFG c) NETPM_PN_CFG_FEC = s.fld (NETPM_PN_CFG c) NETPM_PN_CFG_FEC + 1 ∧
        t.fld (NETPM_XCV c) NETPM_XCV_WKF = s.fld (NETPM_XCV c) NETPM_XCV_WKF) ∧
  (∀ (i : Fin 18) (s : State),
      Calm s → xcvArmed s i = true → canBeWoken s = false → xcvState s i < 2 → powState s < 2 →
      s.pow.stage = 0 → s.start.lodgeDown = false →
      Runs (.runTransceiverWake i) s fun t =>
        t.fld (NETPM_XCV i) NETPM_XCV_WKF = 1 ∧
        (s.fld (NETPM_XCV i) NETPM_XCV_AUTO_NORMAL = 1 → xcvState t i = 3) ∧
        (s.fld (NETPM_XCV i) NETPM_XCV_AUTO_NORMAL = 0 → xcvState t i = xcvState s i) ∧
        OnlyRegs [NETPM_XCV i] s t) ∧
  (∀ (m : Fin 12) (i : Fin 18) (w : Word) (s : State),
      Calm s → masterUp s m = true → accessError s (NETPM_XCV i) = 0 → powState s < 2 → s.pow.stage = 0 →
      locking s 14 = false →
      Runs (.netpmXcvWrite m i w) s fun t =>
        xcvState t i = fget NETPM_XCV_REQ w ∧
        t.fld (NETPM_XCV i) NETPM_XCV_REQ = fget NETPM_XCV_REQ w ∧
        OnlyRegs [NETPM_XCV i, SYS_ACCESS_STAT, SYS_PRIV_ADDR] s t) ∧
  (∀ (m : Fin 12) (i : Fin 18) (s : State),
      Calm s → masterUp s m = true → accessError s (NETPM_XCV i + setView) = 0 → 6 ≤ i.val →
      xcvState s i = 3 → locking s 14 = false →
      Runs (.wksend m i) s fun t =>
        t.out = s.out ++ [.linWake (i - 6)] ∧
        OnlyRegs [NETPM_XCV i] s t) ∧
  (∀ (ch : Fin 12) (s : State),
      Calm s → linFollows s ch = true →
      Runs (.linSleepFollow ch) s fun t =>
        xcvState t (6 + ch) = 0 ∧
        OnlyRegs [NETPM_XCV (6 + ch)] s t) ∧
  (∀ (c : Fin 6) (ide : Bool) (id : Nat) (s : State),
      Calm s → canHears s c 0 = true → enabled s 14 = true → keepMatches s c ide id = true →
      Runs (.keepAwakeFrame c ide id) s fun t =>
        bitOf (holding t) c = true ∧
        Tab.get t.net.keep (0, 0) c = (s.now + 1, shownId ide id) ∧
        OnlyRegs [] s t) ∧
  (∀ (c : Fin 6) (s : State),
      Calm s → bitOf (holding s) c = true → (Tab.get s.net.keep (0, 0) c).1 + nmTo s ≤ s.now + 1 →
      Runs (.keepAwakeTimeout c) s fun t =>
        bitOf (holding t) c = false ∧
        (∀ d : Fin 6, d ≠ c → bitOf (holding t) d = bitOf (holding s) d) ∧
        OnlyRegs [] s t) ∧
  (∀ (b : Nat) (s : State),
      Calm s → s.net.awakeStart = some b → b + maxAwake s ≤ s.now → localReason s = false →
      holding s ≠ 0 → s.fld NETPM_AWAKE NETPM_AWAKE_MAX_AWAKE ≠ 0 → inTrans s = false → powState s < 2 →
      Runs (.maxAwakeExpiry) s fun t =>
        t.fld NETPM_STAT NETPM_STAT_CULPRIT = holding s ∧
        t.fld NETPM_CULPRIT NETPM_CULPRIT_CH = lowestBit (holding s) ∧
        t.fld NETPM_STAT NETPM_STAT_ENF_CNT = satInc (2 ^ NETPM_STAT_ENF_CNT.w - 1) (s.fld NETPM_STAT NETPM_STAT_ENF_CNT) ∧
        inTrans t = true ∧
        t.fld POWER_STAT POWER_STAT_TARGET = 3 ∧
        t.net.enforced = true) ∧
  (∀ (e : Nat) (s : State),
      Calm s → s.net.holdEnd = some e → e ≤ s.now → holdoffOn s = true →
      Runs (.holdoffExpiry) s fun t =>
        t.fld NETPM_STAT NETPM_STAT_HOLDOFF_ACT = 0 ∧
        t.net.holdEnd = none ∧
        OnlyRegs [NETPM_STAT] s t)

/-- The entry halts the Keepers (one inside its class F list ends it first), puts every transceiver in Standby and
keeps a warm start for Moored alone. The commit point puts every transceiver to Sleep. The power-down towards
Moored reaches it: the Lodge is down with LRST asserted, the reservoir is HELD and MOOR_CNT counts. A pending
request in Moored leads to Berthed with no warm start. A listed wake before the commit point ends the entry,
counts in ABORT_CNT and leaves the state. Derived from parts of R341, R344, R345, R346, R391. -/
def Obligations.PowerTransitions : Prop :=
  (∀ (s : State),
      Calm s → entering s = true → s.pow.stage = 0 → (∀ c : Fin 8, (s.can c).frozen = none) →
      Runs (.lowPowerEntry) s fun t =>
        t.pow.stage = 1 ∧
        (∀ k : Fin 8, (t.eng k).waiting = false ∧ ((engRuns s k && !(s.eng k).inF) = false → t.fld (KEEPER_STAT k) KEEPER_STAT_STATE = 0)) ∧
        (∀ i : Fin 18, xcvState t i = 1) ∧
        (s.fld POWER_STAT POWER_STAT_TARGET = 2 → t.start.warmValid = true) ∧
        (s.fld POWER_STAT POWER_STAT_TARGET ≠ 2 → t.start.warmValid = false)) ∧
  (∀ (s : State),
      Calm s → entering s = true → s.pow.stage = 1 →
      Runs (.commitPoint) s fun t =>
        t.pow.stage = 2 ∧
        (∀ i : Fin 18, xcvState t i = 0)) ∧
  (∀ (s : State),
      Calm s → entering s = true → s.pow.stage = 2 → s.fld POWER_STAT POWER_STAT_TARGET = 2 →
      s.fld POWER_STAT POWER_STAT_PEND = 0 → s.pow.latched = none →
      Runs (.lodgePowerDown) s fun t =>
        t.fld POWER_STAT POWER_STAT_STATE = 2 ∧
        t.start.lodgeDown = true ∧
        t.lock.lrst = true ∧
        t.fld SUPPLY_RES_STAT SUPPLY_RES_STAT_STATE = resHeld ∧
        t.fld POWER_CNT POWER_CNT_MOOR_CNT = satInc (2 ^ POWER_CNT_MOOR_CNT.w - 1) (s.fld POWER_CNT POWER_CNT_MOOR_CNT) ∧
        t.pow.entered = s.now) ∧
  (∀ (s : State),
      Calm s → powState s = 2 → s.fld POWER_STAT POWER_STAT_PEND = 1 →
      s.fld POWER_STAT POWER_STAT_PEND_TGT = 3 →
      Runs (.mooredToBerthed) s fun t =>
        t.fld POWER_STAT POWER_STAT_STATE = 3 ∧
        t.fld POWER_STAT POWER_STAT_PEND = 0 ∧
        t.start.warmValid = false ∧
        t.pow.entered = s.now) ∧
  (∀ (kind : Fin 16) (index : Nat) (s : State),
      Calm s → entering s = true → s.pow.stage < 2 → commitNext s = false → lowPower s = false →
      kind.val ≠ 8 → wakeListed s kind index = true →
      (kind.val = 2 ∨ kind.val = 3 → index < 6 ∧ suppressed s index = false) →
      (kind.val = 2 → selectiveOn s index = false) → (kind.val = 4 → index < 12) →
      s.fld POWER_STAT POWER_STAT_PEND = 0 →
      Runs (.entryAbort kind index) s fun t =>
        inTrans t = false ∧
        t.pow.stage = 0 ∧
        t.fld POWER_STAT POWER_STAT_ABORT_CNT = satInc (2 ^ POWER_STAT_ABORT_CNT.w - 1) (s.fld POWER_STAT POWER_STAT_ABORT_CNT) ∧
        t.fld POWER_STAT POWER_STAT_STATE = s.fld POWER_STAT POWER_STAT_STATE)

/-- A listed wake from low power, of a transceiver that exists and is not held back where it comes from one, stores
KIND, INDEX and MULTI, leaves the state with the Lodge still in reset and makes the start warm from Moored where
it may be. The wake timer does so with kind 7. A power barge queues its state for its apply time; an acknowledge
is crossed off. A request whose time has come starts its transition. Modules that have not acknowledged in time
are no longer waited for. Derived from parts of R341, R343, R347, R348. -/
def Obligations.WakesAndRequests : Prop :=
  (∀ (kind : Fin 16) (index : Nat) (multi : Bool) (s : State),
      Calm s → lowPower s = true → wakeListed s kind index = true → kind.val ≠ 8 →
      (kind.val = 2 ∨ kind.val = 3 → index < 6 ∧ suppressed s index = false) →
      (kind.val = 2 → selectiveOn s index = false) → (kind.val = 4 → index < 12) → index < 256 →
      Runs (.wake kind index multi) s fun t =>
        t.fld WAKE_SOURCE WAKE_SOURCE_KIND = kind.val ∧
        t.fld WAKE_SOURCE WAKE_SOURCE_INDEX = index ∧
        t.fld WAKE_SOURCE WAKE_SOURCE_MULTI = b2n multi ∧
        t.fld POWER_STAT POWER_STAT_STATE = 0 ∧
        t.start.lodgeDown = true ∧
        t.start.warmNext = (s.fld POWER_STAT POWER_STAT_STATE == 2 && s.start.warmValid)) ∧
  (∀ (s : State),
      Calm s → lowPower s = true → s.fld POWER_CFG POWER_CFG_WAKE_TMR ≠ 0 →
      s.pow.entered + s.fld POWER_CFG POWER_CFG_WAKE_TMR * 1000000000 ≤ s.now →
      Runs (.wakeTimer) s fun t =>
        t.fld WAKE_SOURCE WAKE_SOURCE_KIND = 7 ∧
        t.fld POWER_STAT POWER_STAT_STATE = 0) ∧
  (∀ (st reqId origin apply : Nat) (s : State),
      Calm s → st < 4 →
      Runs (.powerBargeReceive st reqId origin apply) s fun t =>
        t.pow.apply = s.pow.apply ++ [(apply, st)]) ∧
  (∀ (reqId origin apply : Nat) (s : State),
      Calm s →
      Runs (.powerBargeReceive 0xFF reqId origin apply) s fun t =>
        t.pow.ackWait = s.pow.ackWait.filter (fun a => !(a.1 == origin && a.2.1 == reqId)) ∧
        t.pow.apply = s.pow.apply ∧
        OnlyRegs [] s t) ∧
  (∀ (w st : Nat) (s : State),
      Calm s → s.pow.apply = [(w, st)] → w ≤ s.wwt → heldByUpdate s st = false → inTrans s = false →
      st ≠ powState s → st < 4 →
      Runs (.powerApplyTime) s fun t =>
        t.pow.apply = [] ∧
        inTrans t = true ∧
        t.fld POWER_STAT POWER_STAT_TARGET = st ∧
        OnlyRegs [POWER_STAT] s t) ∧
  (∀ (s : State),
      Calm s →
      Runs (.powerAckTimeout) s fun t =>
        t.pow.ackWait = s.pow.ackWait.filter (fun a => decide (s.now < a.2.2)) ∧
        (∀ a ∈ s.pow.ackWait, a.2.2 ≤ s.now → a ∉ t.pow.ackWait) ∧
        OnlyRegs [] s t)

/-- A request to isolate a domain that is to go down bars it and notes the transfers in flight; with none it is
isolated at once. A domain drained within 50 us is isolated with none in flight; after 50 us, with no write that
took effect before it was cut, it is isolated by force, LAST_DOM names it and FORCE_CNT counts. A write of
POWER_DOMOFF that its master may make, for one domain not in use, stores the bit and makes the domain off.
Derived from parts of R349, R350. -/
def Obligations.PowerDomains : Prop :=
  (∀ (d : Fin 32) (n : Nat) (s : State),
      Calm s → domGoing s d = true → (s.dom d).isolated = false →
      Runs (.domainIsolationRequest d n) s fun t =>
        (t.dom d).barred = true ∧
        (t.dom d).inFlight = n ∧
        (t.dom d).isolated = decide (n = 0) ∧
        domOff t d = true) ∧
  (∀ (d : Fin 32) (s : State),
      Calm s → (s.dom d).barred = true → (s.dom d).isolated = false → s.now < (s.dom d).start + 50000 →
      Runs (.domainDrained d) s fun t =>
        (t.dom d).isolated = true ∧
        (t.dom d).inFlight = 0) ∧
  (∀ (d : Fin 32) (engines hosts blocks : List OpenAccess) (s : State),
      Calm s → (s.dom d).barred = true → (s.dom d).isolated = false → (s.dom d).start + 50000 ≤ s.now →
      (∀ a ∈ engines ++ hosts ++ blocks, a.took = false) →
      Runs (.forcedIsolation d engines hosts blocks) s fun t =>
        (t.dom d).isolated = true ∧
        (t.dom d).inFlight = 0 ∧
        t.fld POWER_ISO POWER_ISO_LAST_DOM = d.val ∧
        t.fld POWER_ISO POWER_ISO_FORCE_CNT = satInc (2 ^ POWER_ISO_FORCE_CNT.w - 1) (s.fld POWER_ISO POWER_ISO_FORCE_CNT)) ∧
  (∀ (m : Fin 12) (d : Fin 14) (s : State),
      Calm s → masterUp s m = true → privileged s m = true → accessError s POWER_DOMOFF = 0 →
      s.fld POWER_DOMOFF POWER_DOMOFF_OFF = 0 → domUsed s d = false →
      Runs (.powerDomoffWrite m (BitVec.ofNat 32 (2 ^ d.val))) s fun t =>
        t.fld POWER_DOMOFF POWER_DOMOFF_OFF = 2 ^ d.val ∧
        domOff t d = true ∧
        (t.dom d).start = s.now)

/-- PHY link of an enabled port with its pins brings it to HELLO; a compatible HELLO outside a running waterway
brings it UP with NADDR and NPORT, an incompatible one to VERSION. A port that sends nothing for 100 us sends
KEEP. A port that has heard nothing for 400 us outside a running waterway falls, with DOWNSEEN. A port sends the
first barge of class L before the others. The root queues SYNC and FOLLOW on each UP port with room. A module in
a running waterway takes the offset that a SYNC shows and its depth. The delay of a link is kept over the last
eight exchanges. The loss of the root enters hold-over and keeps the rate, a route to it ends hold-over. The
time is saved, and again 10 minutes later. Derived from parts of R397, R398, R401, R403, R405, R426, R427, R428. -/
def Obligations.AqueductPortsAndTime : Prop :=
  (∀ (p : Fin 4) (peerMaster : Bool) (s : State),
      Calm s → phyMaster s p ≠ peerMaster → s.fld (AQ_PCFG p) AQ_PCFG_EN = 1 →
      pinFirst s (189 + 2 * p) = true → pinFirst s (190 + 2 * p) = true → lstate s p < 2 →
      Runs (.aqPortLinkUp ⟨p, peerMaster⟩) s fun t =>
        lstate t p = 2 ∧
        (t.aqPort p).phy = true ∧
        (t.aqPort p).lastRx = s.now) ∧
  (∀ (p : Fin 4) (x : Hello) (s : State),
      Calm s → lstate s p = 2 → majorsMeet s x.major = true → aqRunning s = false → x.addr < 256 →
      x.port < 4 →
      Runs (.helloReceive p x) s fun t =>
        lstate t p = 3 ∧
        (t.aqPort p).hello = some x ∧
        t.fld (AQ_PSTAT p) AQ_PSTAT_NADDR = x.addr ∧
        t.fld (AQ_PSTAT p) AQ_PSTAT_NPORT = x.port) ∧
  (∀ (p : Fin 4) (x : Hello) (s : State),
      Calm s → (lstate s p = 2 ∨ lstate s p = 3) → (portUp s p = true → windowOver s p = false) →
      majorsMeet s x.major = false →
      Runs (.helloReceive p x) s fun t =>
        lstate t p = 5 ∧
        t.fld (AQ_PSTAT p) AQ_PSTAT_VERSEEN = 1 ∧
        (t.aqPort p).hello = none) ∧
  (∀ (p : Fin 4) (s : State),
      Calm s → portSends s p = true → (s.aqPort p).lastTx + 100000 ≤ s.now →
      Runs (.keepSend p) s fun t =>
        t.out = s.out ++ [.barge p 0 (stampBarge s (localBarge s 0x14 0xF0 []))] ∧
        (t.aqPort p).lastTx = s.now + 80 * wireBytes 0 (stampBarge s (localBarge s 0x14 0xF0 [])) ∧
        OnlyRegs [] s t) ∧
  (∀ (p : Fin 4) (s : State),
      Calm s → portUp s p = true → (s.aqPort p).lastRx + 400000 ≤ s.now → aqRunning s = false →
      s.fld (AQ_PCFG p) AQ_PCFG_EN = 1 → actingReact s (48 + p) = 0 → resetOverdue s = false →
      Runs (.aqLinkDown p false) s fun t =>
        lstate t p = 0 ∧
        t.fld (AQ_PSTAT p) AQ_PSTAT_DOWNSEEN = 1 ∧
        (t.aqPort p).hello = none ∧
        OnlyRegs [AQ_PSTAT p] s t) ∧
  (∀ (p : Fin 4) (b : Barge) (rest : List Barge) (s : State),
      Calm s → portSends s p = true → (s.aqPort p).lastTx ≤ s.now → (s.aqPort p).ql = b :: rest →
      Runs (.bargeTransmit p) s fun t =>
        t.out = s.out ++ [.barge p 0 (stampBarge s b)] ∧
        (t.aqPort p).ql = rest ∧
        (t.aqPort p).qf = (s.aqPort p).qf ∧
        (t.aqPort p).qt = (s.aqPort p).qt ∧
        OnlyRegs [] s t) ∧
  (∀ (s : State),
      Calm s → s.fld AQ_STAT AQ_STAT_ROOT = 1 → s.aq.nextSync ≤ s.now →
      Runs (.syncSend) s fun t =>
        t.aq.nextSync = s.now + 1000000 ∧
        t.aq.sseq = (s.aq.sseq + 1) % 65536 ∧
        (∀ p : Fin 4, portUp s p = true → (s.aqPort p).qf.length ≤ 62 → (t.aqPort p).qf.length = (s.aqPort p).qf.length + 2)) ∧
  (∀ (p : Fin 4) (q depth time stamp res : Nat) (s : State),
      Calm s → givesTime s p = true → (portUp s p = true → windowOver s p = false) → starting s = false →
      depth < 31 →
      Runs (.syncReceive p q depth time stamp res) s fun t =>
        t.aq.slew = ((time + s.fld (AQ_PSTAT p) AQ_PSTAT_DELAY : Nat) : Int) - (stamp : Int) ∧
        t.fld AQ_SYNC AQ_SYNC_DEPTH = depth + 1 ∧
        t.wwt = s.wwt) ∧
  (∀ (p : Fin 4) (t1 t2 t3 t4 : Nat) (s : State),
      Calm s → portUp s p = true → (s.aqPort p).nextDelay ≤ s.now →
      Runs (.delayMeasure p t1 t2 t3 t4) s fun t =>
        (t.aqPort p).delays = ((((t4 : Int) - t1 - ((t3 : Int) - t2)) / 2).toNat :: (s.aqPort p).delays).take 8 ∧
        (t.aqPort p).nextDelay = s.now + 125000000 ∧
        OnlyRegs [AQ_PSTAT p] s t) ∧
  (∀ (s : State),
      Calm s → rootLost s = true → s.fld AQ_STAT AQ_STAT_HOLDOVER = 0 → actingReact s 53 = 0 →
      resetOverdue s = false →
      Runs (.holdoverEntry) s fun t =>
        t.fld AQ_STAT AQ_STAT_HOLDOVER = 1 ∧
        t.aq.rate = s.aq.rate ∧
        OnlyRegs [AQ_STAT] s t) ∧
  (∀ (s : State),
      Calm s → s.fld AQ_STAT AQ_STAT_HOLDOVER = 1 → (parentPort s).isSome = true →
      Runs (.holdoverExit) s fun t =>
        t.fld AQ_STAT AQ_STAT_HOLDOVER = 0 ∧
        OnlyRegs [AQ_STAT] s t) ∧
  (∀ (s : State),
      Calm s → s.start.lodgeDown = false → s.aq.nextFlush ≤ s.now →
      Runs (.waterwayTimeFlush) s fun t =>
        t.aq.flushed = some s.wwt ∧
        t.aq.nextFlush = s.now + 600000000000 ∧
        t.wwt = s.wwt ∧
        OnlyRegs [] s t)

/-- A barge with a wrong CRC is counted and starts no flow; the first good one of a flow for this module gives the
flow its sequence number. A better TREE of the root is kept and shown; an ADDR claim and a newer LINKSTATE that
the flood rule admits are kept. A recovery that ends counts in RECOMP and leaves no port DOWN. A due flow of the
plan is marked as sent in its cycle with the next sequence number. Tunnel parts and piece parts past their time
are discarded, those of a tunnel counted. A LOG request that finds no record is answered with one barge. Derived
from parts of R399, R400, R406, R411, R413, R414, R419, R421, R423, R425. -/
def Obligations.AqueductTraffic : Prop :=
  (∀ (p : Fin 4) (bytes : List Nat) (s : State),
      Calm s → portSends s p = true → 8 ≤ bytes.length →
      crcOf crcIeee (bytes.take (bytes.length - 4)) ≠ leAt bytes (bytes.length - 4) 4 →
      Runs (.bargeReceive p bytes) s fun t =>
        t.fld (AQ_PCNT p) AQ_PCNT_CRCERR = satInc (2 ^ AQ_PCNT_CRCERR.w - 1) (s.fld (AQ_PCNT p) AQ_PCNT_CRCERR) ∧
        t.aq.rx = s.aq.rx ∧
        OnlyRegs [AQ_PCNT p] s t) ∧
  (∀ (p : Fin 4) (bytes : List Nat) (b : Barge) (len : Nat) (s : State),
      Calm s → portSends s p = true → (portUp s p = true → windowOver s p = false) → 8 ≤ bytes.length →
      crcOf crcIeee (bytes.take (bytes.length - 4)) = leAt bytes (bytes.length - 4) 4 →
      bargeOf (bytes.take (bytes.length - 4)) = (b, len) → b.cls ≠ 3 → b.dkind = 0 → b.typ = 1 →
      len ≤ 64 → b.payload.length = len → b.dst = aqAddr s → b.flow ≠ 0xFD → reservedFlow b.flow = false →
      aqState s ≠ 3 → (Tab.get s.aq.rx {} (256 * b.src + b.flow)).last = none →
      Runs (.bargeReceive p bytes) s fun t =>
        (Tab.get t.aq.rx {} (256 * b.src + b.flow)).last = some b.seq ∧
        (t.aqPort p).lastRx = s.now) ∧
  (∀ (p : Fin 4) (root len path : Nat) (s : State),
      Calm s → len ≤ 29 → portUp s p = true → windowOver s p = false → (candidate s).2.1 = root →
      treeBetter s len path = true →
      Runs (.treeReceive p root len path) s fun t =>
        t.aq.tree = some (len, path) ∧
        t.fld AQ_POS_HI AQ_POS_HI_LEN = len ∧
        t.reg AQ_POS_LO = BitVec.ofNat 32 path) ∧
  (∀ (p : Fin 4) (serial a pd len flags path hops : Nat) (s : State),
      Calm s → portUp s p = true → windowOver s p = false → floodTakes s a p = true → serial ≠ ownSerial →
      Tab.get s.aq.claims 0 a = 0 → a ≠ aqAddr s →
      Runs (.addrReceive p serial a pd len flags path hops) s fun t =>
        Tab.get t.aq.claims 0 a = serial + 1) ∧
  (∀ (p : Fin 4) (a : Nat) (x : LinkState) (hops : Nat) (s : State),
      Calm s → portUp s p = true → windowOver s p = false → floodTakes s a p = true → a ≠ 0 →
      a ≠ aqAddr s → linkNewer s a x = true →
      Runs (.linkstateReceive p a x hops) s fun t =>
        Tab.find t.aq.links a = some x) ∧
  (∀ (s : State),
      Calm s → s.fld AQ_STAT AQ_STAT_RECOV = 1 → s.aq.recovEnd ≤ s.now →
      Runs (.recoveryComplete) s fun t =>
        t.fld AQ_STAT AQ_STAT_RECOV = 0 ∧
        t.fld AQ_LCNT AQ_LCNT_RECOMP = satInc (2 ^ AQ_LCNT_RECOMP.w - 1) (s.fld AQ_LCNT AQ_LCNT_RECOMP) ∧
        (∀ p : Fin 4, lstate t p ≠ 4)) ∧
  (∀ (i : Nat) (f : PlanFlow) (s : State),
      Calm s → s.aq.plan.flows[i]? = some f → flowDue s i f = true →
      Runs (.flowSend i) s fun t =>
        Tab.get t.aq.sentAt 0 i = (s.reg KEEPER_LCC).toNat + 1 ∧
        Tab.get t.aq.txSeq 0 f.flow = (Tab.get s.aq.txSeq 0 f.flow + 1) % 65536) ∧
  (∀ (src : Nat) (s : State),
      Calm s → (Tab.get s.aq.tunnels {} src).parts ≠ [] →
      (Tab.get s.aq.tunnels {} src).start + tunTo s ≤ s.now →
      Runs (.tunnelTimeout src) s fun t =>
        Tab.get t.aq.tunnels {} src = {} ∧
        t.fld HOST_STAT HOST_STAT_CRC_CNT = satInc (2 ^ HOST_STAT_CRC_CNT.w - 1) (s.fld HOST_STAT HOST_STAT_CRC_CNT) ∧
        OnlyRegs [HOST_STAT] s t) ∧
  (∀ (src : Nat) (s : State),
      Calm s → (Tab.get s.aq.pieces {} src).parts ≠ [] →
      (Tab.get s.aq.pieces {} src).start + 10000000000 ≤ s.now →
      Runs (.piecePartsTimeout src) s fun t =>
        Tab.get t.aq.pieces {} src = {} ∧
        OnlyRegs [] s t) ∧
  (∀ (src first count p h : Nat) (s : State),
      Calm s → logRecords s first (clampN 1 255 count) = [] → routeTo s src = some (p, h) →
      (s.aqPort p).qt.length < 32 →
      Runs (.logBargeRequest src first count) s fun t =>
        (t.aqPort p).qt.length = (s.aqPort p).qt.length + 1 ∧
        Tab.get t.aq.txSeq 0 0xFC = (Tab.get s.aq.txSeq 0 0xFC + 1) % 65536)

/-- The expiry of the Warden watchdog and the loss of the PLL lock set their sticky bits and FAULT_LAST and run the
reaction configured: reaction 2 leaves module limp, reaction 3 of the watchdog leaves a Lodge reset to come. The
end of the window clears REACTING and performs a Lodge reset that is due. MLIMP_CLR leaves module limp where no
source holds it. A 1 clears a sticky bit. Derived from parts of R436, R437, R438, R440, R441, R442, R443, R444. -/
def Obligations.FaultsAndLimp : Prop :=
  (∀ (s : State),
      Calm s → s.start.lodgeDown = false → sticky s 37 = false → inWindow s = false →
      s.net.localHeld = false → resetOverdue s = false →
      Runs (.wardenWatchdogExpiry) s fun t =>
        sticky t 37 = true ∧
        t.fld FAULT_LAST FAULT_LAST_FLT = 37 ∧
        t.fld FAULT_STAT FAULT_STAT_REACTING = 1 ∧
        (actingReact s 37 = 2 → moduleLimp t = true) ∧
        (actingReact s 37 = 3 → t.rep.resetDue = true)) ∧
  (∀ (s : State),
      Calm s → s.start.lodgeDown = false → sticky s 62 = false → inWindow s = false →
      s.net.localHeld = false → resetOverdue s = false →
      Runs (.pllLossOfLock) s fun t =>
        sticky t 62 = true ∧
        t.fld FAULT_LAST FAULT_LAST_FLT = 62 ∧
        t.fld FAULT_LAST FAULT_LAST_REACT = actingReact s 62 ∧
        (actingReact s 62 = 2 → moduleLimp t = true)) ∧
  (∀ (s : State),
      Calm s → s.fld FAULT_STAT FAULT_STAT_REACTING = 1 → s.rep.windowEnd ≤ s.now →
      s.rep.resetDue = false →
      Runs (.reactionWindowEnd) s fun t =>
        t.fld FAULT_STAT FAULT_STAT_REACTING = 0 ∧
        t.start.lodgeDown = s.start.lodgeDown ∧
        OnlyRegs [FAULT_STAT] s t) ∧
  (∀ (s : State),
      Calm s → s.fld FAULT_STAT FAULT_STAT_REACTING = 1 → s.rep.windowEnd ≤ s.now →
      s.rep.resetDue = true →
      Runs (.reactionWindowEnd) s fun t =>
        t.start.lodgeDown = true ∧
        t.lock.lrst = true ∧
        t.rep.resetDue = false) ∧
  (∀ (m : Fin 12) (s : State),
      Calm s → masterUp s m = true → privileged s m = true → accessError s (FAULT_CTRL + setView) = 0 →
      moduleLimp s = true → limpHeld s = false → (∀ u : Fin 4, s.fld (CU_STAT u) CU_STAT_BUSY = 0) →
      s.upd.waiting = [] →
      Runs (.mlimpClr m) s fun t =>
        moduleLimp t = false) ∧
  (∀ (m : Fin 12) (w : Fin 3) (bits : Word) (s : State),
      Calm s → masterUp s m = true → privileged s m = true → accessError s (FAULT_STICKY w) = 0 →
      (∀ u : Fin 4, s.fld (CU_STAT u) CU_STAT_BUSY = 0) →
      Runs (.faultStickyClear ⟨m, false⟩ w bits) s fun t =>
        t.reg (FAULT_STICKY w) = s.reg (FAULT_STICKY w) &&& ~~~bits)

/-- The first waiting record takes the next SEQ and the next slot, and the rest of the queue moves up; a record that
meets the full queue counts in DROP_CNT and raises FLT64 outside a window. A corrected error of the SRAM counts
in CE_SRAM, an uncorrectable one in UE_CNT with its address. A scrub step moves on in its memory and counts what
it corrects. Derived from parts of R445, R447, R448, R452, R453. -/
def Obligations.LogbookAndMemories : Prop :=
  (∀ (r : LogRec) (rest : List LogRec) (s : State),
      Calm s → s.start.lodgeDown = false → s.rep.clearMark = none → s.rep.queue = r :: rest →
      s.rep.lastWrite = none → s.rep.overflow = 0 → s.rep.written + 1 < foundSlots → s.upd.waiting = [] →
      Runs (.logbookRecordWrite) s fun t =>
        t.rep.head = (s.rep.head + 1) % 2 ^ 48 ∧
        t.rep.written = s.rep.written + 1 ∧
        Tab.get t.rep.slots {} s.rep.written = { r with seq := (s.rep.head + 1) % 2 ^ 48 } ∧
        t.rep.lastWrite = some s.now ∧
        t.rep.queue.take rest.length = rest ∧
        OnlyRegs [] s t) ∧
  (∀ (typ : Fin 9) (source index : Nat) (s : State),
      Calm s → 64 ≤ s.rep.queue.length → s.net.localHeld = false →
      Runs (.logbookRecordDrop typ source index) s fun t =>
        satInc (2 ^ LOG_STAT_DROP_CNT.w - 1) (s.fld LOG_STAT LOG_STAT_DROP_CNT) ≤ t.fld LOG_STAT LOG_STAT_DROP_CNT ∧
        (inWindow s = false → sticky t 64 = true) ∧
        t.rep.queue.take s.rep.queue.length = s.rep.queue) ∧
  (∀ (reader : Fin 10) (a : Word) (s : State),
      Calm s → s.start.lodgeDown = false →
      Runs (.eccReadError reader false false a) s fun t =>
        t.fld CHECK_ECC CHECK_ECC_CE_SRAM = satInc (2 ^ CHECK_ECC_CE_SRAM.w - 1) (s.fld CHECK_ECC CHECK_ECC_CE_SRAM) ∧
        t.fld CHECK_ECC CHECK_ECC_CE_MRAM = s.fld CHECK_ECC CHECK_ECC_CE_MRAM ∧
        OnlyRegs [CHECK_ECC] s t) ∧
  (∀ (m : Bool) (a : Word) (s : State),
      Calm s → s.start.lodgeDown = false → actingReact s (if m then 39 else 38) = 0 →
      resetOverdue s = false →
      Runs (.eccReadError 9 m true a) s fun t =>
        t.fld CHECK_ECC CHECK_ECC_UE_CNT = satInc (2 ^ CHECK_ECC_UE_CNT.w - 1) (s.fld CHECK_ECC CHECK_ECC_UE_CNT) ∧
        t.reg CHECK_ECCADDR = a ∧
        OnlyRegs [CHECK_ECC, CHECK_ECCADDR] s t) ∧
  (∀ (s : State),
      Calm s → s.start.lodgeDown = false →
      Runs (.scrub false 1) s fun t =>
        t.scrub.sram = (s.scrub.sram + 1) % sramWords ∧
        t.scrub.mram = s.scrub.mram ∧
        t.fld CHECK_ECC CHECK_ECC_CE_SRAM = satInc (2 ^ CHECK_ECC_CE_SRAM.w - 1) (s.fld CHECK_ECC CHECK_ECC_CE_SRAM) ∧
        OnlyRegs [CHECK_ECC] s t) ∧
  (∀ (s : State),
      Calm s → s.start.lodgeDown = false →
      Runs (.scrub true 0) s fun t =>
        t.scrub.mram = (s.scrub.mram + 1) % mramWords ∧
        t.scrub.sram = s.scrub.sram ∧
        t.fld CHECK_ECC CHECK_ECC_CE_MRAM = s.fld CHECK_ECC CHECK_ECC_CE_MRAM)

/-- A GO that its master may make, with all units idle and a source that exists, starts its unit from the initial
value of its polynomial. A run that has taken its bytes and does not repeat stores its result, sets DONE and
MATCH, counts in RUNS and ends. Derived from parts of R456, R457. -/
def Obligations.CheckUnits : Prop :=
  (∀ (m : Fin 12) (u : Fin 4) (w : Word) (s : State),
      Calm s → masterUp s m = true → accessError s (CU_CFG u) = 0 → fget CU_CFG_SRC w ≠ 0 →
      fget CU_CFG_SRC w ≠ 7 → (∀ u : Fin 4, s.fld (CU_STAT u) CU_STAT_BUSY = 0) →
      Runs (.checkUnitGo m u w) s fun t =>
        t.fld (CU_STAT u) CU_STAT_BUSY = 1 ∧
        (t.cu u).taken = 0 ∧
        (t.cu u).crc = (cuSet t u).init ∧
        t.fld (CU_CFG u) CU_CFG_SRC = fget CU_CFG_SRC w ∧
        t.fld (CU_CFG u) CU_CFG_POLY = fget CU_CFG_POLY w ∧
        OnlyRegs [CU_STAT u, CU_CFG u, SYS_ACCESS_STAT, SYS_PRIV_ADDR] s t) ∧
  (∀ (u : Fin 4) (s : State),
      Calm s → cuDone s u = true → s.fld (CU_CFG u) CU_CFG_REPEAT = 0 → actingReact s (44 + u) = 0 →
      Runs (.checkUnitResult u) s fun t =>
        t.fld (CU_STAT u) CU_STAT_BUSY = 0 ∧
        t.fld (CU_STAT u) CU_STAT_DONE = 1 ∧
        t.reg (CU_RES_LO u) = BitVec.ofNat 32 (crcResult (cuSet s u) (s.cu u).crc) ∧
        t.fld (CU_STAT u) CU_STAT_RUNS = satInc (2 ^ CU_STAT_RUNS.w - 1) (s.fld (CU_STAT u) CU_STAT_RUNS) ∧
        t.fld (CU_STAT u) CU_STAT_MATCH = b2n (crcResult (cuSet s u) (s.cu u).crc == ((s.reg (CU_EXP_LO u)).toNat + 2 ^ 32 * (s.reg (CU_EXP_HI u)).toNat) % 2 ^ (cuSet s u).w) ∧
        OnlyRegs [CU_STAT u, CU_RES_LO u, CU_RES_HI u] s t)

/-- GO in an idle, enabled Gatehouse with its keys starts a session of kind 0 or 1 with the next SESS; in a busy one
it gives RESULT 4 and REASON 1. After 33.1 ms of frame and the carrier phase of its antennas the grid begins,
with the carriers off; slots end in order; a search round without an answer closes its branch. A drive session
with a valid answer ends with RESULT 1, its token and zone; one without ends with RESULT 2, counts in FAIL_CNT
and from 3 starts the delay; a broken one ends with RESULT 3. Ignition-on where the policy asks for messages
begins them; a due message counts GATE_CTR and saves it every 256; ignition-off clears AUTH and ends them.
Derived from parts of R464, R466, R467, R470, R471, R472. -/
def Obligations.GateSessionsAndIgnition : Prop :=
  (∀ (m : Fin 12) (w : Word) (s : State),
      Calm s → masterUp s m = true → privileged s m = true → accessError s GATE_CMD = 0 →
      enabled s 17 = true → gateBusy s = false → gateDelayed s = false → kderSet s = true → polVid s ≠ 0 →
      fget GATE_CMD_KIND w < 2 → (∀ u : Fin 4, s.fld (CU_STAT u) CU_STAT_BUSY = 0) →
      Runs (.gateGo m w) s fun t =>
        t.gate.phase = 1 ∧
        t.gate.kind = fget GATE_CMD_KIND w ∧
        t.gate.ant = fget GATE_CMD_ANT w ∧
        t.fld GATE_STAT GATE_STAT_BUSY = 1 ∧
        t.fld GATE_STAT GATE_STAT_SESS = (s.fld GATE_STAT GATE_STAT_SESS + 1) % 2 ^ GATE_STAT_SESS.w ∧
        t.gate.valid = []) ∧
  (∀ (m : Fin 12) (w : Word) (s : State),
      Calm s → masterUp s m = true → privileged s m = true → accessError s GATE_CMD = 0 →
      enabled s 17 = true → gateBusy s = true →
      Runs (.gateGo m w) s fun t =>
        t.fld GATE_STAT GATE_STAT_RESULT = 4 ∧
        t.fld GATE_RES GATE_RES_REASON = 1 ∧
        t.gate = s.gate) ∧
  (∀ (s : State),
      Calm s → gateBroken s = false → s.gate.phase = 1 → s.gate.phaseAt + 33100000 ≤ s.now →
      Runs (.lfFrameSent) s fun t =>
        t.gate.phase = 2) ∧
  (∀ (s : State),
      Calm s → gateBroken s = false → s.gate.phase = 2 →
      s.gate.phaseAt + (lfOrder s.gate.ant).length * 1000000 ≤ s.now →
      Runs (.carrierPhaseEnd) s fun t =>
        t.gate.phase = 3 ∧
        t.gate.gridStart = s.now ∧
        t.gate.ended = 0 ∧
        (∀ a : Fin 6, bitOf s.gate.ant a = true → pinFirst s (242 + a) = true → t.fld (LF_STAT a) LF_STAT_ON = 0)) ∧
  (∀ (s : State),
      Calm s → gateBroken s = false → s.gate.phase = 3 → s.gate.ended + 1 < s.gate.slots.length →
      s.gate.gridStart + (s.gate.ended + 1) * slotTime s ≤ s.now →
      Runs (.gateSlotEnd) s fun t =>
        t.gate.ended = s.gate.ended + 1 ∧
        t.gate.phase = 3) ∧
  (∀ (b : Nat × Nat × Nat) (rest : List (Nat × Nat × Nat)) (s : State),
      Calm s → gateBroken s = false → s.gate.phase = 4 →
      s.gate.gridStart + 23750000 + slotTime s ≤ s.now → s.gate.branches = b :: rest → s.gate.seen = 0 →
      s.gate.rounds + 1 < s.fld GATE_CFG GATE_CFG_ACOL_MAX →
      Runs (.antiCollisionRound) s fun t =>
        t.gate.branches = rest ∧
        t.gate.rounds = s.gate.rounds + 1) ∧
  (∀ (n : Fin 16) (z : Bool) (r : Nat) (s : State),
      Calm s → gateBroken s = false → gateOver s = true → s.gate.kind = 0 →
      s.gate.valid = [(n.val, z, r)] → s.gate.revoke = [] →
      Runs (.gateSessionEnd) s fun t =>
        t.fld GATE_STAT GATE_STAT_RESULT = 1 ∧
        t.fld GATE_STAT GATE_STAT_FAIL_CNT = 0 ∧
        t.fld GATE_STAT GATE_STAT_ZONE = b2n z ∧
        t.fld GATE_RES GATE_RES_TOKEN = n.val ∧
        t.fld GATE_STAT GATE_STAT_BUSY = 0 ∧
        t.gate.phase = 0 ∧
        t.gate.delayEnd = none) ∧
  (∀ (s : State),
      Calm s → gateBroken s = false → gateOver s = true → s.gate.kind < 2 → s.gate.valid = [] →
      s.gate.revoke = [] →
      Runs (.gateSessionEnd) s fun t =>
        t.fld GATE_STAT GATE_STAT_RESULT = 2 ∧
        t.fld GATE_STAT GATE_STAT_FAIL_CNT = satInc (2 ^ GATE_STAT_FAIL_CNT.w - 1) (s.fld GATE_STAT GATE_STAT_FAIL_CNT) ∧
        t.gate.phase = 0 ∧
        (3 ≤ t.fld GATE_STAT GATE_STAT_FAIL_CNT → t.gate.delayEnd = some (s.now + delayTime (t.fld GATE_STAT GATE_STAT_FAIL_CNT)))) ∧
  (∀ (s : State),
      Calm s → gateBroken s = true → gateBusy s = true → s.gate.revoke = [] →
      Runs (.gateSessionAbandon) s fun t =>
        t.fld GATE_STAT GATE_STAT_RESULT = 3 ∧
        t.fld GATE_STAT GATE_STAT_BUSY = 0 ∧
        t.gate.phase = 0) ∧
  (∀ (s : State),
      Calm s → inLevel s (s.fld GATE_CFG GATE_CFG_IGN_IN) = true → s.gate.ign = false → relOn s = true →
      kRel s ≠ 0 →
      Runs (.ignitionOn) s fun t =>
        t.gate.ignOn = some s.now ∧
        t.gate.relCount = 0 ∧
        OnlyRegs [] s t) ∧
  (∀ (b : Nat) (s : State),
      Calm s → s.gate.ignOn = some b → b + relTime s.gate.relCount ≤ s.now → relOn s = true →
      s.reg GATE_CTR ≠ 0xFFFFFFFF#32 →
      Runs (.releaseMessage) s fun t =>
        t.reg GATE_CTR = s.reg GATE_CTR + 1#32 ∧
        t.gate.relCount = s.gate.relCount + 1 ∧
        ((s.reg GATE_CTR).toNat % 256 = 0 → t.gate.ctrStored = min ((s.reg GATE_CTR).toNat + 256) 0xFFFFFFFF)) ∧
  (∀ (s : State),
      Calm s → inLevel s (s.fld GATE_CFG GATE_CFG_IGN_IN) = false →
      Runs (.ignitionOff) s fun t =>
        t.fld GATE_STAT GATE_STAT_AUTH = 0 ∧
        t.gate.ignOn = none ∧
        t.gate.relCount = 0 ∧
        OnlyRegs [GATE_STAT] s t)

/-- An answer with another session number counts as bad; one with the right RESP of the token of its slot is valid
with its zone and RSSI; a collision is noted for its slot. A receiver that fails for 10 ms ends the session with
RESULT 3. TEST is entered from START-UP by a service session and left on request; RECOVERY ends at its time; the
right service code arms an enrolment; EOL_DONE ends START-UP; REVOKE frees its entry alone; the delay ends at
its time. Derived from parts of R465, R466, R467, R468, R469, R470, R473. -/
def Obligations.GateAnswersAndModes : Prop :=
  (∀ (n slot : Nat) (frame : List Nat) (s : State),
      Calm s → gateBroken s = false → uhfOn s = true → lowPower s = false → entering s = false → n ≤ 32 →
      s.gate.phase = 3 → s.gate.gridStart ≤ s.now →
      s.gate.slots[(s.now - s.gate.gridStart) / slotTime s]? = some slot →
      (frame.getD 4 0 == s.fld GATE_STAT GATE_STAT_SESS) = false →
      Runs (.uhfIrq true true n frame) s fun t =>
        t.gate.bad = s.gate.bad + 1 ∧
        t.gate.valid = s.gate.valid ∧
        t.gate.oversize = 0) ∧
  (∀ (n : Nat) (slot : Fin 16) (frame : List Nat) (s : State),
      Calm s → gateBroken s = false → uhfOn s = true → lowPower s = false → entering s = false → n ≤ 32 →
      s.gate.phase = 3 → s.gate.gridStart ≤ s.now →
      s.gate.slots[(s.now - s.gate.gridStart) / slotTime s]? = some slot.val →
      frame.getD 4 0 = s.fld GATE_STAT GATE_STAT_SESS →
      leNat ((frame.drop 13).take 8) = respOf s (leNat (frame.take 4)) →
      tokEntry s (leNat (frame.take 4)) = some slot.val →
      Runs (.uhfIrq true true n frame) s fun t =>
        t.gate.valid = s.gate.valid ++ [(slot.val, isInside s frame, (topRssi frame).2)] ∧
        t.gate.bad = s.gate.bad) ∧
  (∀ (n slot : Nat) (frame : List Nat) (s : State),
      Calm s → gateBroken s = false → uhfOn s = true → lowPower s = false → entering s = false → n ≤ 32 →
      s.gate.phase = 3 → s.gate.gridStart ≤ s.now →
      s.gate.slots[(s.now - s.gate.gridStart) / slotTime s]? = some slot →
      Runs (.uhfIrq false true n frame) s fun t =>
        t.gate.collided = insertOnce slot s.gate.collided ∧
        t.gate.valid = s.gate.valid ∧
        OnlyRegs [] s t) ∧
  (∀ (dur : Nat) (s : State),
      Calm s → uhfOn s = true → 10000000 ≤ dur → gateBusy s = true → s.gate.revoke = [] →
      actingReact s 65 = 0 → resetOverdue s = false →
      Runs (.uhfReceiverFail dur) s fun t =>
        t.fld GATE_STAT GATE_STAT_RESULT = 3 ∧
        t.gate.phase = 0 ∧
        t.gate.oversize = 0) ∧
  (∀ (m : Fin 12) (s : State),
      Calm s → masterUp s m = true → privileged s m = true → accessError s GATE_MODE = 0 →
      hostLevel s m = 2 → gMode s = 0 →
      Runs (.modeReq m 2) s fun t =>
        gMode t = 2 ∧
        t.gate.modePath = m.val ∧
        t.gate.modeEnd = none) ∧
  (∀ (m : Fin 12) (s : State),
      Calm s → masterUp s m = true → privileged s m = true → accessError s GATE_MODE = 0 → 2 ≤ gMode s →
      Runs (.modeReq m 0) s fun t =>
        gMode t = 0 ∧
        t.gate.armed = false ∧
        OnlyRegs [GATE_STAT, GATE_MODE] s t) ∧
  (∀ (e : Nat) (s : State),
      Calm s → s.gate.modeEnd = some e → s.fld GATE_STAT GATE_STAT_GMODE = 3 → e ≤ s.now →
      Runs (.recoveryModeTimeout) s fun t =>
        gMode t = 0 ∧
        t.gate.armed = false ∧
        t.gate.modeEnd = none ∧
        OnlyRegs [GATE_STAT] s t) ∧
  (∀ (m : Fin 12) (hi : Word) (s : State),
      Calm s → masterUp s m = true → privileged s m = true → accessError s GATE_LCODE_HI = 0 →
      gateDelayed s = false → gMode s ≠ 0 → hostLevel s m = 2 → kLearn s ≠ 0 →
      s.gate.lcodeLo.toNat + 2 ^ 32 * hi.toNat = serviceCode s →
      Runs (.learnCodeSubmit m hi) s fun t =>
        t.gate.armed = true ∧
        t.gate.delayEnd = s.gate.delayEnd ∧
        OnlyRegs [GATE_LNONCE_LO, GATE_LNONCE_HI] s t) ∧
  (∀ (m : Fin 12) (s : State),
      Calm s → masterUp s m = true → privileged s m = true → accessError s GATE_EOL = 0 →
      Tab.get s.wlSet false (32 * GATE_EOL) = false → gMode s = 1 →
      Runs (.eolDone m true) s fun t =>
        gMode t = 0 ∧
        t.fld GATE_EOL GATE_EOL_EOL_DONE = 1 ∧
        t.gate.armed = false) ∧
  (∀ (m : Fin 12) (n : Fin 16) (s : State),
      Calm s → masterUp s m = true → privileged s m = true → accessError s GATE_MODE = 0 →
      accessError s (GATE_MODE + setView) = 0 → gateBusy s = false →
      Runs (.revoke m n) s fun t =>
        tokValid t n = false ∧
        (∀ k : Fin 16, k ≠ n → tokValid t k = tokValid s k) ∧
        OnlyRegs [GATE_TOK n, GATE_MODE] s t) ∧
  (∀ (e : Nat) (s : State),
      Calm s → s.gate.delayEnd = some e → e ≤ s.now →
      Runs (.gateDelayEnd) s fun t =>
        t.gate.delayEnd = none ∧
        OnlyRegs [] s t)

/-- R280, every sub-code: the value and the distance of each register instruction, an earlier write in flight to its
destination being cancelled (R287), with its frame. ADDK to LTUK, SHK and HI give rd their value for the next
instruction, and change nothing else; SHK with kind 3 is a reserved opcode and traps. Derived from parts of
R276, R280, R285, R287, R279. -/
def Obligations.TillerRegisterInstructions : Prop :=
  (∀ (e : Fin 9) (rd rs1 rs2 : Fin 32) (s : State),
      Calm s → Issues s e →
      Yields (.add e rd rs1 rs2) s e rd 1 (sees s e rs1 + sees s e rs2)) ∧
  (∀ (e : Fin 9) (rd rs1 rs2 : Fin 32) (s : State),
      Calm s → Issues s e →
      Yields (.sub e rd rs1 rs2) s e rd 1 (sees s e rs1 - sees s e rs2)) ∧
  (∀ (e : Fin 9) (rd rs1 rs2 : Fin 32) (s : State),
      Calm s → Issues s e →
      Yields (.and e rd rs1 rs2) s e rd 1 (sees s e rs1 &&& sees s e rs2)) ∧
  (∀ (e : Fin 9) (rd rs1 rs2 : Fin 32) (s : State),
      Calm s → Issues s e →
      Yields (.or e rd rs1 rs2) s e rd 1 (sees s e rs1 ||| sees s e rs2)) ∧
  (∀ (e : Fin 9) (rd rs1 rs2 : Fin 32) (s : State),
      Calm s → Issues s e →
      Yields (.xor e rd rs1 rs2) s e rd 1 (sees s e rs1 ^^^ sees s e rs2)) ∧
  (∀ (e : Fin 9) (rd rs1 rs2 : Fin 32) (s : State),
      Calm s → Issues s e →
      Yields (.shl e rd rs1 rs2) s e rd 1 (sees s e rs1 <<< ((sees s e rs2).toNat % 32))) ∧
  (∀ (e : Fin 9) (rd rs1 rs2 : Fin 32) (s : State),
      Calm s → Issues s e →
      Yields (.shr e rd rs1 rs2) s e rd 1 (sees s e rs1 >>> ((sees s e rs2).toNat % 32))) ∧
  (∀ (e : Fin 9) (rd rs1 rs2 : Fin 32) (s : State),
      Calm s → Issues s e →
      Yields (.sha e rd rs1 rs2) s e rd 1 ((sees s e rs1).sshiftRight ((sees s e rs2).toNat % 32))) ∧
  (∀ (e : Fin 9) (rd rs1 rs2 : Fin 32) (s : State),
      Calm s → Issues s e →
      Yields (.lts e rd rs1 rs2) s e rd 1 (if (sees s e rs1).toInt < (sees s e rs2).toInt then 1#32 else 0#32)) ∧
  (∀ (e : Fin 9) (rd rs1 rs2 : Fin 32) (s : State),
      Calm s → Issues s e →
      Yields (.ltu e rd rs1 rs2) s e rd 1 (if (sees s e rs1).toNat < (sees s e rs2).toNat then 1#32 else 0#32)) ∧
  (∀ (e : Fin 9) (rd rs1 rs2 : Fin 32) (s : State),
      Calm s → Issues s e →
      Yields (.min e rd rs1 rs2) s e rd 1 (BitVec.ofInt 32 (min (sees s e rs1).toInt (sees s e rs2).toInt))) ∧
  (∀ (e : Fin 9) (rd rs1 rs2 : Fin 32) (s : State),
      Calm s → Issues s e →
      Yields (.max e rd rs1 rs2) s e rd 1 (BitVec.ofInt 32 (max (sees s e rs1).toInt (sees s e rs2).toInt))) ∧
  (∀ (e : Fin 9) (rd rs1 rs2 : Fin 32) (s : State),
      Calm s → Issues s e →
      Yields (.mul e rd rs1 rs2) s e rd 3 (BitVec.ofNat 32 ((sees s e rs1).toNat * (sees s e rs2).toNat))) ∧
  (∀ (e : Fin 9) (rd rs1 rs2 : Fin 32) (s : State),
      Calm s → Issues s e →
      Yields (.mhs e rd rs1 rs2) s e rd 3 (BitVec.ofInt 32 ((sees s e rs1).toInt * (sees s e rs2).toInt / 2 ^ 32))) ∧
  (∀ (e : Fin 9) (rd rs1 rs2 : Fin 32) (s : State),
      Calm s → Issues s e →
      Yields (.mhu e rd rs1 rs2) s e rd 3 (BitVec.ofNat 32 ((sees s e rs1).toNat * (sees s e rs2).toNat / 2 ^ 32))) ∧
  (∀ (e : Fin 9) (rd rs1 rs2 : Fin 32) (s : State),
      Calm s → Issues s e →
      Yields (.divs e rd rs1 rs2) s e rd 20 (if sees s e rs2 = 0#32 then 0#32 else if sees s e rs1 = 0x80000000#32 ∧ sees s e rs2 = 0xFFFFFFFF#32 then 0x7FFFFFFF#32 else BitVec.ofInt 32 (Int.tdiv (sees s e rs1).toInt (sees s e rs2).toInt))) ∧
  (∀ (e : Fin 9) (rd rs1 rs2 : Fin 32) (s : State),
      Calm s → Issues s e →
      Yields (.divu e rd rs1 rs2) s e rd 20 (if sees s e rs2 = 0#32 then 0#32 else BitVec.ofNat 32 ((sees s e rs1).toNat / (sees s e rs2).toNat))) ∧
  (∀ (e : Fin 9) (rd rs1 rs2 : Fin 32) (s : State),
      Calm s → Issues s e →
      Yields (.mods e rd rs1 rs2) s e rd 20 (if sees s e rs2 = 0#32 then 0#32 else BitVec.ofInt 32 (Int.tmod (sees s e rs1).toInt (sees s e rs2).toInt))) ∧
  (∀ (e : Fin 9) (rd rs1 rs2 : Fin 32) (s : State),
      Calm s → Issues s e →
      Yields (.modu e rd rs1 rs2) s e rd 20 (if sees s e rs2 = 0#32 then 0#32 else BitVec.ofNat 32 ((sees s e rs1).toNat % (sees s e rs2).toNat))) ∧
  (∀ (e : Fin 9) (rd rs1 : Fin 32) (imm : BitVec 16) (s : State),
      Calm s → Issues s e →
      Yields (.addk e rd rs1 imm) s e rd 1 (sees s e rs1 + imm.signExtend 32)) ∧
  (∀ (e : Fin 9) (rd rs1 : Fin 32) (imm : BitVec 16) (s : State),
      Calm s → Issues s e →
      Yields (.andk e rd rs1 imm) s e rd 1 (sees s e rs1 &&& imm.setWidth 32)) ∧
  (∀ (e : Fin 9) (rd rs1 : Fin 32) (imm : BitVec 16) (s : State),
      Calm s → Issues s e →
      Yields (.ork e rd rs1 imm) s e rd 1 (sees s e rs1 ||| imm.setWidth 32)) ∧
  (∀ (e : Fin 9) (rd rs1 : Fin 32) (imm : BitVec 16) (s : State),
      Calm s → Issues s e →
      Yields (.xork e rd rs1 imm) s e rd 1 (sees s e rs1 ^^^ imm.setWidth 32)) ∧
  (∀ (e : Fin 9) (rd rs1 : Fin 32) (imm : BitVec 16) (s : State),
      Calm s → Issues s e →
      Yields (.ltsk e rd rs1 imm) s e rd 1 (if (sees s e rs1).toInt < imm.toInt then 1#32 else 0#32)) ∧
  (∀ (e : Fin 9) (rd rs1 : Fin 32) (imm : BitVec 16) (s : State),
      Calm s → Issues s e →
      Yields (.ltuk e rd rs1 imm) s e rd 1 (if (sees s e rs1).toNat < imm.toNat then 1#32 else 0#32)) ∧
  (∀ (e : Fin 9) (rd rs1 amt : Fin 32) (s : State),
      Calm s → Issues s e →
      Yields (.shk e rd rs1 0 amt) s e rd 1 (sees s e rs1 <<< amt.val)) ∧
  (∀ (e : Fin 9) (rd rs1 amt : Fin 32) (s : State),
      Calm s → Issues s e →
      Yields (.shk e rd rs1 1 amt) s e rd 1 (sees s e rs1 >>> amt.val)) ∧
  (∀ (e : Fin 9) (rd rs1 amt : Fin 32) (s : State),
      Calm s → Issues s e →
      Yields (.shk e rd rs1 2 amt) s e rd 1 ((sees s e rs1).sshiftRight amt.val)) ∧
  (∀ (e : Fin 9) (rd : Fin 32) (imm : BitVec 16) (s : State),
      Calm s → Issues s e →
      Yields (.hi e rd imm) s e rd 1 (imm.setWidth 32 <<< 16)) ∧
  (∀ (e : Fin 9) (rd rs1 amt : Fin 32) (s : State),
      Calm s → Issues s e → (s.eng e).ctx.trap.inh = false → (s.eng e).evec ≠ absentEntry →
      Runs (.shk e rd rs1 3 amt) s fun t =>
        (t.eng e).ctx.trap.cause = 1 ∧
        (t.eng e).ctx.trap.tpc = (s.eng e).ctx.pc ∧
        (t.eng e).ctx.pc = (s.eng e).evec ∧
        t.mem = s.mem ∧
        OnlyRegs [KEEPER_STAT e, KEEPER_TRAP e, KEEPER_TPC e] s t)

/-- A load from an aligned address of the data map gives rd the word, or the halfword or byte extended, after
distance 2, and changes nothing else; a misaligned one traps with ALIGN at TVEC and writes nothing. A store to
an aligned address of the data map writes the low bytes of rs2 there and no other byte of memory, and the engine
goes on; a misaligned one traps with ALIGN and writes nothing. Derived from parts of R279, R281, R285. -/
def Obligations.TillerMemory : Prop :=
  (∀ (e : Fin 9) (rd rs1 : Fin 32) (imm : BitVec 16) (k : Nat) (s : State),
      Calm s → Issues s e → (sees s e rs1 + imm.signExtend 32).toNat % 4 = 0 →
      ramKey s e (sees s e rs1 + imm.signExtend 32).toNat = some k →
      Yields (.ldw e rd rs1 imm) s e rd 2 (BitVec.ofNat 32 (s.bytesLE k 4))) ∧
  (∀ (e : Fin 9) (rd rs1 : Fin 32) (imm : BitVec 16) (k : Nat) (s : State),
      Calm s → Issues s e → (sees s e rs1 + imm.signExtend 32).toNat % 2 = 0 →
      ramKey s e (sees s e rs1 + imm.signExtend 32).toNat = some k →
      Yields (.ldh e rd rs1 imm) s e rd 2 ((BitVec.ofNat 16 (s.bytesLE k 2)).signExtend 32)) ∧
  (∀ (e : Fin 9) (rd rs1 : Fin 32) (imm : BitVec 16) (k : Nat) (s : State),
      Calm s → Issues s e → (sees s e rs1 + imm.signExtend 32).toNat % 2 = 0 →
      ramKey s e (sees s e rs1 + imm.signExtend 32).toNat = some k →
      Yields (.ldhu e rd rs1 imm) s e rd 2 (BitVec.ofNat 32 (s.bytesLE k 2))) ∧
  (∀ (e : Fin 9) (rd rs1 : Fin 32) (imm : BitVec 16) (k : Nat) (s : State),
      Calm s → Issues s e → (sees s e rs1 + imm.signExtend 32).toNat % 1 = 0 →
      ramKey s e (sees s e rs1 + imm.signExtend 32).toNat = some k →
      Yields (.ldb e rd rs1 imm) s e rd 2 ((BitVec.ofNat 8 (s.bytesLE k 1)).signExtend 32)) ∧
  (∀ (e : Fin 9) (rd rs1 : Fin 32) (imm : BitVec 16) (k : Nat) (s : State),
      Calm s → Issues s e → (sees s e rs1 + imm.signExtend 32).toNat % 1 = 0 →
      ramKey s e (sees s e rs1 + imm.signExtend 32).toNat = some k →
      Yields (.ldbu e rd rs1 imm) s e rd 2 (BitVec.ofNat 32 (s.bytesLE k 1))) ∧
  (∀ (e : Fin 9) (rd rs1 : Fin 32) (imm : BitVec 16) (s : State),
      Calm s → Issues s e → (sees s e rs1 + imm.signExtend 32).toNat % 4 ≠ 0 →
      (s.eng e).ctx.trap.inh = false → (s.eng e).tvec ≠ absentEntry →
      Runs (.ldw e rd rs1 imm) s fun t =>
        (t.eng e).ctx.trap.cause = 5 ∧
        (t.eng e).ctx.trap.tpc = (s.eng e).ctx.pc ∧
        (t.eng e).ctx.pc = (s.eng e).tvec ∧
        t.mem = s.mem ∧
        OnlyRegs [KEEPER_STAT e, KEEPER_TRAP e, KEEPER_TPC e] s t) ∧
  (∀ (e : Fin 9) (rs2 rs1 : Fin 32) (imm : BitVec 16) (k : Nat) (s : State),
      Calm s → Issues s e → (sees s e rs1 + imm.signExtend 32).toNat % 4 = 0 →
      ramKey s e (sees s e rs1 + imm.signExtend 32).toNat = some k →
      Runs (.stw e rs2 rs1 imm) s fun t =>
        Stored s t k 4 (sees s e rs2).toNat ∧
        (t.eng e).ctx.pc = (s.eng e).ctx.npc ∧
        (t.eng e).ctx.npc = (s.eng e).ctx.npc + 4#32 ∧
        (∀ r, (t.eng e).x r = sees s e r) ∧
        OnlyRegs [] s t) ∧
  (∀ (e : Fin 9) (rs2 rs1 : Fin 32) (imm : BitVec 16) (k : Nat) (s : State),
      Calm s → Issues s e → (sees s e rs1 + imm.signExtend 32).toNat % 2 = 0 →
      ramKey s e (sees s e rs1 + imm.signExtend 32).toNat = some k →
      Runs (.sth e rs2 rs1 imm) s fun t =>
        Stored s t k 2 (sees s e rs2).toNat ∧
        (t.eng e).ctx.pc = (s.eng e).ctx.npc ∧
        (t.eng e).ctx.npc = (s.eng e).ctx.npc + 4#32 ∧
        (∀ r, (t.eng e).x r = sees s e r) ∧
        OnlyRegs [] s t) ∧
  (∀ (e : Fin 9) (rs2 rs1 : Fin 32) (imm : BitVec 16) (k : Nat) (s : State),
      Calm s → Issues s e → (sees s e rs1 + imm.signExtend 32).toNat % 1 = 0 →
      ramKey s e (sees s e rs1 + imm.signExtend 32).toNat = some k →
      Runs (.stb e rs2 rs1 imm) s fun t =>
        Stored s t k 1 (sees s e rs2).toNat ∧
        (t.eng e).ctx.pc = (s.eng e).ctx.npc ∧
        (t.eng e).ctx.npc = (s.eng e).ctx.npc + 4#32 ∧
        (∀ r, (t.eng e).x r = sees s e r) ∧
        OnlyRegs [] s t) ∧
  (∀ (e : Fin 9) (rs2 rs1 : Fin 32) (imm : BitVec 16) (s : State),
      Calm s → Issues s e → (sees s e rs1 + imm.signExtend 32).toNat % 2 ≠ 0 →
      (s.eng e).ctx.trap.inh = false → (s.eng e).tvec ≠ absentEntry →
      Runs (.sth e rs2 rs1 imm) s fun t =>
        (t.eng e).ctx.trap.cause = 5 ∧
        (t.eng e).ctx.pc = (s.eng e).tvec ∧
        t.mem = s.mem ∧
        OnlyRegs [KEEPER_STAT e, KEEPER_TRAP e, KEEPER_TPC e] s t)

/-- A compare-and-branch outside a delay slot enters its delay slot and goes on at its own address + 4 x offset
where the condition holds, else after the delay slot; J, JAL, JX, JALX and RET go to their targets with bits 1:0
ignored, JAL and JALX giving the address of the delay slot to their link register for that slot; one in a delay
slot traps with RESERVED_OP. Derived from parts of R278, R279, R282, R283, R284. -/
def Obligations.TillerBranches : Prop :=
  (∀ (e : Fin 9) (rs1 rs2 : Fin 32) (off : BitVec 16) (s : State),
      Calm s → Issues s e → (s.eng e).ctx.ds = false →
      Branches (.breq e rs1 rs2 off) s e (sees s e rs1 = sees s e rs2) ((s.eng e).ctx.pc + off.signExtend 32 * 4#32)) ∧
  (∀ (e : Fin 9) (rs1 rs2 : Fin 32) (off : BitVec 16) (s : State),
      Calm s → Issues s e → (s.eng e).ctx.ds = false →
      Branches (.brne e rs1 rs2 off) s e (sees s e rs1 ≠ sees s e rs2) ((s.eng e).ctx.pc + off.signExtend 32 * 4#32)) ∧
  (∀ (e : Fin 9) (rs1 rs2 : Fin 32) (off : BitVec 16) (s : State),
      Calm s → Issues s e → (s.eng e).ctx.ds = false →
      Branches (.brlt e rs1 rs2 off) s e ((sees s e rs1).toInt < (sees s e rs2).toInt) ((s.eng e).ctx.pc + off.signExtend 32 * 4#32)) ∧
  (∀ (e : Fin 9) (rs1 rs2 : Fin 32) (off : BitVec 16) (s : State),
      Calm s → Issues s e → (s.eng e).ctx.ds = false →
      Branches (.brge e rs1 rs2 off) s e ((sees s e rs2).toInt ≤ (sees s e rs1).toInt) ((s.eng e).ctx.pc + off.signExtend 32 * 4#32)) ∧
  (∀ (e : Fin 9) (rs1 rs2 : Fin 32) (off : BitVec 16) (s : State),
      Calm s → Issues s e → (s.eng e).ctx.ds = false →
      Branches (.brlo e rs1 rs2 off) s e ((sees s e rs1).toNat < (sees s e rs2).toNat) ((s.eng e).ctx.pc + off.signExtend 32 * 4#32)) ∧
  (∀ (e : Fin 9) (rs1 rs2 : Fin 32) (off : BitVec 16) (s : State),
      Calm s → Issues s e → (s.eng e).ctx.ds = false →
      Branches (.brhs e rs1 rs2 off) s e ((sees s e rs2).toNat ≤ (sees s e rs1).toNat) ((s.eng e).ctx.pc + off.signExtend 32 * 4#32)) ∧
  (∀ (e : Fin 9) (rs1 : Fin 32) (k : BitVec 8) (off : BitVec 13) (s : State),
      Calm s → Issues s e → (s.eng e).ctx.ds = false →
      Branches (.bkeq e rs1 k off) s e (sees s e rs1 = k.signExtend 32) ((s.eng e).ctx.pc + off.signExtend 32 * 4#32)) ∧
  (∀ (e : Fin 9) (rs1 : Fin 32) (k : BitVec 8) (off : BitVec 13) (s : State),
      Calm s → Issues s e → (s.eng e).ctx.ds = false →
      Branches (.bkne e rs1 k off) s e (sees s e rs1 ≠ k.signExtend 32) ((s.eng e).ctx.pc + off.signExtend 32 * 4#32)) ∧
  (∀ (e : Fin 9) (rs1 : Fin 32) (k : BitVec 8) (off : BitVec 13) (s : State),
      Calm s → Issues s e → (s.eng e).ctx.ds = false →
      Branches (.bklt e rs1 k off) s e ((sees s e rs1).toInt < (k.signExtend 32).toInt) ((s.eng e).ctx.pc + off.signExtend 32 * 4#32)) ∧
  (∀ (e : Fin 9) (rs1 : Fin 32) (k : BitVec 8) (off : BitVec 13) (s : State),
      Calm s → Issues s e → (s.eng e).ctx.ds = false →
      Branches (.bkge e rs1 k off) s e ((k.signExtend 32).toInt ≤ (sees s e rs1).toInt) ((s.eng e).ctx.pc + off.signExtend 32 * 4#32)) ∧
  (∀ (e : Fin 9) (rs1 : Fin 32) (k : BitVec 8) (off : BitVec 13) (s : State),
      Calm s → Issues s e → (s.eng e).ctx.ds = false →
      Branches (.bklo e rs1 k off) s e ((sees s e rs1).toNat < (k.setWidth 32).toNat) ((s.eng e).ctx.pc + off.signExtend 32 * 4#32)) ∧
  (∀ (e : Fin 9) (rs1 : Fin 32) (k : BitVec 8) (off : BitVec 13) (s : State),
      Calm s → Issues s e → (s.eng e).ctx.ds = false →
      Branches (.bkhs e rs1 k off) s e ((k.setWidth 32).toNat ≤ (sees s e rs1).toNat) ((s.eng e).ctx.pc + off.signExtend 32 * 4#32)) ∧
  (∀ (e : Fin 9) (off : BitVec 26) (s : State),
      Calm s → Issues s e → (s.eng e).ctx.ds = false →
      Runs (.j e off) s fun t =>
        Jumped s t e (((s.eng e).ctx.pc + off.signExtend 32 * 4#32) &&& 0xFFFFFFFC#32) 0 0#32) ∧
  (∀ (e : Fin 9) (off : BitVec 26) (s : State),
      Calm s → Issues s e → (s.eng e).ctx.ds = false →
      Runs (.jal e off) s fun t =>
        Jumped s t e (((s.eng e).ctx.pc + off.signExtend 32 * 4#32) &&& 0xFFFFFFFC#32) 31 ((s.eng e).ctx.pc + 4#32)) ∧
  (∀ (e : Fin 9) (rs1 : Fin 32) (s : State),
      Calm s → Issues s e → (s.eng e).ctx.ds = false →
      Runs (.jx e rs1) s fun t =>
        Jumped s t e (sees s e rs1 &&& 0xFFFFFFFC#32) 0 0#32) ∧
  (∀ (e : Fin 9) (rd rs1 : Fin 32) (s : State),
      Calm s → Issues s e → (s.eng e).ctx.ds = false →
      Runs (.jalx e rd rs1) s fun t =>
        Jumped s t e (sees s e rs1 &&& 0xFFFFFFFC#32) rd ((s.eng e).ctx.pc + 4#32)) ∧
  (∀ (e : Fin 9) (rs1 : Fin 32) (s : State),
      Calm s → Issues s e → (s.eng e).ctx.ds = false →
      Runs (.ret e rs1) s fun t =>
        Jumped s t e ((sees s e rs1 + 4#32) &&& 0xFFFFFFFC#32) 0 0#32)

/-- CHR of an address that names a word gives the word after distance 4, and with x0 performs no access. CHW to the
shared space keeps the word; CHW of a command word by its owner puts it in the open set; by another it changes
no set and a Keeper shows WRONG_OWN. RDC gives the control register to the next instruction; WRC writes
SCRATCH0, writes TVEC of the Warden and leaves that of a Keeper; RDC of a register that does not exist traps
with RESERVED_OP. Derived from parts of R263, R279, R289, R290. -/
def Obligations.TillerPortAndControl : Prop :=
  (∀ (e : Fin 9) (r rs1 : Fin 32) (sp : Fin 16) (off : BitVec 11) (v : Word) (s : State),
      Calm s → Issues s e → r ≠ 0 → chrWord s e sp (((sees s e rs1).toNat + off.toNat) % 65536) = some v →
      Yields (.chr e r rs1 sp off) s e r 4 (v)) ∧
  (∀ (e : Fin 9) (rs1 : Fin 32) (sp : Fin 16) (off : BitVec 11) (s : State),
      Calm s → Issues s e →
      Yields (.chr e 0 rs1 sp off) s e 0 4 (0#32)) ∧
  (∀ (e : Fin 9) (r rs1 : Fin 32) (off : BitVec 11) (s : State),
      Calm s → Issues s e → moduleLimp s = false → ((sees s e rs1).toNat + off.toNat) % 65536 < 256 →
      Runs (.chw e r rs1 false 7 off) s fun t =>
        WentOn s t e ∧
        Gives s t e 0 1 0#32 ∧
        Tab.get t.kp.shared 0#32 (((sees s e rs1).toNat + off.toNat) % 65536) = sees s e r) ∧
  (∀ (e : Fin 9) (r rs1 : Fin 32) (off : BitVec 11) (i : Nat) (s : State),
      Calm s → Issues s e → i = ((sees s e rs1).toNat + off.toNat) % 65536 → commandAddr i ≠ none →
      wrongOwner s e 1 i = false → moduleLimp s = false → setSize s.lock.openSet < 512 →
      Runs (.chw e r rs1 false 1 off) s fun t =>
        t.lock.openSet = addWrite { target := lockTarget 1 i, word := (sees s e r).toNat, master := engMaster e } s.lock.openSet ∧
        (t.eng e).ctx.pc = (s.eng e).ctx.npc ∧
        t.mem = s.mem ∧
        OnlyRegs [KEEPER_LSET] s t) ∧
  (∀ (e : Fin 8) (r rs1 : Fin 32) (off : BitVec 11) (i : Nat) (s : State),
      Calm s → Issues s e → i = ((sees s e rs1).toNat + off.toNat) % 65536 → moduleLimp s = false →
      commandAddr i ≠ none → wrongOwner s e 1 i = true →
      Runs (.chw (e.castLE (by decide)) r rs1 false 1 off) s fun t =>
        t.fld (KEEPER_STAT e) KEEPER_STAT_WRONG_OWN = 1 ∧
        t.lock.openSet = s.lock.openSet ∧
        (t.eng e).ctx.pc = (s.eng e).ctx.npc) ∧
  (∀ (e : Fin 9) (r : Fin 32) (cr : BitVec 8) (s : State),
      Calm s → Issues s e → crKnown e cr.toNat = true → cr ≠ 0x0C#8 →
      Yields (.rdc e r cr) s e r 1 (crRead e cr.toNat (s.eng e).issue)) ∧
  (∀ (e : Fin 8) (r : Fin 32) (s : State),
      Calm s → Issues s e →
      Yields (.rdc (e.castLE (by decide)) r 0x0C#8) s e r 1 (BitVec.ofNat 32 (s.eng e).slots)) ∧
  (∀ (e : Fin 9) (r : Fin 32) (s : State),
      Calm s → Issues s e →
      Runs (.wrc e r 0x0A#8) s fun t =>
        WentOn s t e ∧
        Gives s t e 0 1 0#32 ∧
        (t.eng e).ctx.trap.scratch0 = sees s e r) ∧
  (∀ (r : Fin 32) (s : State),
      Calm s → Issues s 8 →
      Runs (.wrc 8 r 7#8) s fun t =>
        WentOn s t 8 ∧
        Gives s t 8 0 1 0#32 ∧
        (t.eng 8).tvec = sees s 8 r) ∧
  (∀ (e : Fin 8) (r : Fin 32) (s : State),
      Calm s → Issues s e →
      Runs (.wrc (e.castLE (by decide)) r 7#8) s fun t =>
        WentOn s t e ∧
        (t.eng e).tvec = (s.eng e).tvec) ∧
  (∀ (e : Fin 9) (r : Fin 32) (cr : BitVec 8) (s : State),
      Calm s → Issues s e → crKnown e cr.toNat = false → (s.eng e).ctx.trap.inh = false →
      (s.eng e).evec ≠ absentEntry →
      Runs (.rdc e r cr) s fun t =>
        (t.eng e).ctx.trap.cause = 1 ∧
        (t.eng e).ctx.pc = (s.eng e).evec ∧
        OnlyRegs [KEEPER_STAT e, KEEPER_TRAP e, KEEPER_TPC e] s t)

/-- A trap of cause 2 to 6 keeps address, successor, cause, word and delay-slot bit in the bank it interrupts, lands
the results in flight, sets INH and goes on at TVEC; a Keeper shows it in K_TRAP, K_TPC and TRAP_CNT; one in a
handler stalls a Keeper with DOUBLE. YIELD of the class L list ends it, or goes on with the class F list where
that is not done; YIELD of the class F list waits for the next cycle. A class L list past L_BUDGET stalls with
L_OVERRUN, L_LAST and K_TPC; a class F list past F_WD is reported, and stalls where F_WD_ACT says so. Derived
from parts of R260, R262, R270, R271, R275, R283, R288, R292, R293, R295. -/
def Obligations.TillerTraps : Prop :=
  (∀ (e : Fin 9) (c : Fin 16) (w : Word) (s : State),
      Calm s → engRuns s e = true → 2 ≤ c.val → c.val ≤ 6 → (s.eng e).ctx.trap.inh = false →
      (s.eng e).tvec ≠ absentEntry →
      Runs (.trapEntry e c w) s fun t =>
        (t.eng e).ctx.trap.cause = c.val ∧
        (t.eng e).ctx.trap.tpc = (s.eng e).ctx.pc ∧
        (t.eng e).ctx.trap.tnpc = (s.eng e).ctx.npc ∧
        (t.eng e).ctx.trap.inst = w ∧
        (t.eng e).ctx.trap.inh = true ∧
        (t.eng e).ctx.trap.tds = (s.eng e).ctx.ds ∧
        (t.eng e).ctx.pc = (s.eng e).tvec ∧
        (t.eng e).flight = [] ∧
        (∀ r, (t.eng e).x r = (s.eng e).landAll.x r) ∧
        t.mem = s.mem ∧
        OnlyRegs [KEEPER_STAT e, KEEPER_TRAP e, KEEPER_TPC e] s t) ∧
  (∀ (e : Fin 8) (c : Fin 16) (w : Word) (s : State),
      Calm s → engRuns s e = true → 2 ≤ c.val → c.val ≤ 6 → (s.eng e).ctx.trap.inh = false →
      (s.eng e).tvec ≠ absentEntry →
      Runs (.trapEntry (e.castLE (by decide)) c w) s fun t =>
        kState t e = 4 ∧
        t.fld (KEEPER_TRAP e) KEEPER_TRAP_K_TRAP = c.val ∧
        t.reg (KEEPER_TPC e) = (s.eng e).ctx.pc ∧
        t.fld (KEEPER_STAT e) KEEPER_STAT_TRAP_CNT = satInc (2 ^ KEEPER_STAT_TRAP_CNT.w - 1) (s.fld (KEEPER_STAT e) KEEPER_STAT_TRAP_CNT)) ∧
  (∀ (e : Fin 8) (c : Fin 16) (w : Word) (s : State),
      Calm s → engRuns s e = true → 2 ≤ c.val → c.val ≤ 6 → (s.eng e).ctx.trap.inh = true →
      actingReact s (28 + e) = 0 → resetOverdue s = false →
      Runs (.trapEntry (e.castLE (by decide)) c w) s fun t =>
        kState t e = 5 ∧
        t.fld (KEEPER_TRAP e) KEEPER_TRAP_K_TRAP = 8 ∧
        t.reg (KEEPER_TPC e) = (s.eng e).ctx.pc ∧
        OnlyRegs [KEEPER_TRAP e, KEEPER_TPC e, KEEPER_STAT e] s t) ∧
  (∀ (e : Fin 8) (s : State),
      Calm s → Issues s e → (s.eng e).ctx.ds = false → (s.eng e).ctx.trap.inh = false →
      (s.eng e).inF = false → (s.eng e).fDone = true → s.pow.stage = 0 →
      Runs (.yield (e.castLE (by decide))) s fun t =>
        kState t e = 3 ∧
        (t.eng e).inF = true ∧
        (t.eng e).flight = [] ∧
        Tab.get t.aq.listEnded false e = true) ∧
  (∀ (e : Fin 8) (s : State),
      Calm s → Issues s e → (s.eng e).ctx.ds = false → (s.eng e).ctx.trap.inh = false →
      (s.eng e).inF = false → (s.eng e).fDone = false → s.pow.stage = 0 → (s.eng e).fentry ≠ absentEntry →
      Runs (.yield (e.castLE (by decide))) s fun t =>
        (t.eng e).inF = true ∧
        kState t e = (if (s.eng e).f.trap.inh then 4 else 2) ∧
        (t.eng e).ctx.pc = (s.eng e).f.pc ∧
        (t.eng e).ctx.npc = (s.eng e).f.npc ∧
        OnlyRegs [KEEPER_STAT e, KEEPER_LUSE e] s t) ∧
  (∀ (e : Fin 8) (s : State),
      Calm s → Issues s e → (s.eng e).ctx.ds = false → (s.eng e).ctx.trap.inh = false →
      (s.eng e).inF = true →
      Runs (.yield (e.castLE (by decide))) s fun t =>
        kState t e = 3 ∧
        (t.eng e).fDone = true ∧
        (t.eng e).fCount = 0 ∧
        (t.eng e).flight = [] ∧
        OnlyRegs [KEEPER_STAT e] s t) ∧
  (∀ (k : Fin 8) (s : State),
      Calm s → engRuns s k = true → (s.eng k).inF = false →
      10 * s.fld (KEEPER_CTRL k) KEEPER_CTRL_L_BUDGET ≤ (s.eng k).lUsed → actingReact s (28 + k) = 0 →
      resetOverdue s = false →
      Runs (.lOverrun k) s fun t =>
        kState t k = 5 ∧
        t.fld (KEEPER_LUSE k) KEEPER_LUSE_L_LAST = slotUnits (s.eng k).lUsed ∧
        t.fld (KEEPER_TRAP k) KEEPER_TRAP_K_TRAP = 7 ∧
        t.reg (KEEPER_TPC k) = (s.eng k).ctx.pc ∧
        OnlyRegs [KEEPER_TRAP k, KEEPER_TPC k, KEEPER_STAT k, KEEPER_LUSE k] s t) ∧
  (∀ (k : Fin 8) (s : State),
      Calm s → 0 < s.fld (KEEPER_CTRL k) KEEPER_CTRL_F_WD →
      16 * s.fld (KEEPER_CTRL k) KEEPER_CTRL_F_WD < (s.eng k).fCount → (s.eng k).fReported = false →
      (s.eng k).present = true → kState s k ≠ 0 → kState s k ≠ 5 → actingReact s (28 + k) = 0 →
      resetOverdue s = false →
      Runs (.classFWatchdog k) s fun t =>
        (t.eng k).fReported = true ∧
        (s.fld (KEEPER_CTRL k) KEEPER_CTRL_F_WD_ACT = 1 → kState t k = 5 ∧ t.fld (KEEPER_TRAP k) KEEPER_TRAP_K_TRAP = 10) ∧
        (s.fld (KEEPER_CTRL k) KEEPER_CTRL_F_WD_ACT = 0 → kState t k = kState s k))

/-- CALLM on the Warden stores the mask, the return address and the named registers below x30 and no other byte,
gives x29 and x30 to the delay slot and goes on at its target; RETM gives the named registers and x30 back to
the delay slot and goes on at the return address; CALLM on a Keeper traps with RESERVED_OP. RESTART clears a
Keeper and, without KEEP, reloads its data. An access of the Warden that a die does not answer is recorded as
bus error KIND 6 and traps with cause 2. Derived from parts of R39, R48, R272, R297, R298, R299. -/
def Obligations.MaskedCall : Prop :=
  (∀ (off : BitVec 26) (mask top : Nat) (s : State),
      Calm s → Issues s 8 → (s.eng 8).ctx.ds = false → ((s.eng 8).ctx.pc + 4#32).toNat < codeTop 8 →
      mask = s.bytesLE (engKey s 8 ((s.eng 8).ctx.pc + 4#32).toNat) 4 → top = (sees s 8 30).toNat →
      top % 4 = 0 → 0x10000000 + 4 * ((maskRegs mask).length + 2) ≤ top → top ≤ dataTop 8 →
      Runs (.callm 8 off) s fun t =>
        (t.eng 8).ctx.pc = (s.eng 8).ctx.pc + 8#32 ∧
        (t.eng 8).ctx.npc = ((s.eng 8).ctx.pc + off.signExtend 32 * 4#32) &&& 0xFFFFFFFC#32 ∧
        (t.eng 8).ctx.ds = true ∧
        ((t.eng 8).agedBy 1).x 30 = BitVec.ofNat 32 (top - 4 * ((maskRegs mask).length + 2)) ∧
        ((t.eng 8).agedBy 1).x 29 = BitVec.ofNat 32 (top - 4 * ((maskRegs mask).length + 2)) ∧
        t.bytesLE (top - 4 * ((maskRegs mask).length + 2)) 4 = mask ∧
        t.bytesLE (top - 4 * ((maskRegs mask).length + 2) + 4) 4 = ((s.eng 8).ctx.pc + 12#32).toNat ∧
        (∀ e ∈ (maskRegs mask).zipIdx, t.bytesLE (top - 4 * ((maskRegs mask).length + 2) + 8 + 4 * e.2) 4 = (sees s 8 e.1).toNat) ∧
        SameBytes s t (top - 4 * ((maskRegs mask).length + 2)) top ∧
        OnlyRegs [] s t) ∧
  (∀ (mask sp : Nat) (s : State),
      Calm s → Issues s 8 → (s.eng 8).ctx.ds = false → sp = (sees s 8 30).toNat → sp % 4 = 0 →
      0x10000000 ≤ sp → mask = s.bytesLE sp 4 → sp + 4 * ((maskRegs mask).length + 2) ≤ dataTop 8 →
      Runs (.retm 8) s fun t =>
        (t.eng 8).ctx.pc = (s.eng 8).ctx.npc ∧
        (t.eng 8).ctx.npc = BitVec.ofNat 32 (s.bytesLE (sp + 4) 4) &&& 0xFFFFFFFC#32 ∧
        (t.eng 8).ctx.ds = true ∧
        ((t.eng 8).agedBy 1).x 30 = BitVec.ofNat 32 (sp + 4 * ((maskRegs mask).length + 2)) ∧
        (∀ e ∈ (maskRegs mask).zipIdx, ((t.eng 8).agedBy 1).x e.1 = BitVec.ofNat 32 (s.bytesLE (sp + 8 + 4 * e.2) 4)) ∧
        t.mem = s.mem ∧
        OnlyRegs [] s t) ∧
  (∀ (e : Fin 8) (off : BitVec 26) (s : State),
      Calm s → Issues s e → (s.eng e).ctx.trap.inh = false → (s.eng e).evec ≠ absentEntry →
      Runs (.callm (e.castLE (by decide)) off) s fun t =>
        (t.eng e).ctx.trap.cause = 1 ∧
        (t.eng e).ctx.pc = (s.eng e).evec ∧
        t.mem = s.mem ∧
        OnlyRegs [KEEPER_STAT e, KEEPER_TRAP e, KEEPER_TPC e] s t) ∧
  (∀ (m : Fin 12) (k : Fin 8) (keep : Bool) (s : State),
      Calm s → masterUp s m = true → privileged s m = true → accessError s (KEEPER_CTRL k) = 0 →
      locking s 11 = false → (s.eng k).data.2 ≤ 0x8000 →
      (∀ u : Fin 4, s.fld (CU_STAT u) CU_STAT_BUSY = 0) →
      Runs (.keeperRestart m k keep) s fun t =>
        kState t k = 0 ∧
        (t.eng k).waiting = (s.eng k).present ∧
        (t.eng k).flight = [] ∧
        (∀ r, (t.eng k).x r = 0#32) ∧
        (keep = true → t.mem = s.mem) ∧
        (keep = false → ∀ i < (s.eng k).data.2, t.byte ((k + 1) * 0x100000000 + 0x10000000 + i) = s.byte (flashBase + (s.eng k).data.1 + i))) ∧
  (∀ (addr : Word) (w : Bool) (k : Nat) (h : HostHdr) (s : State),
      Calm s → masterUp s 0 = true → s.fld SYS_BUSERR_STAT SYS_BUSERR_STAT_VALID = 0 →
      (s.eng 8).present = true → (s.eng 8).ctx.trap.inh = false → (s.eng 8).tvec ≠ absentEntry →
      s.upd.waiting = [] →
      Runs (.dieAccessTimeout 0 addr ⟨w, k⟩ h) s fun t =>
        t.fld SYS_BUSERR_STAT SYS_BUSERR_STAT_VALID = 1 ∧
        t.fld SYS_BUSERR_STAT SYS_BUSERR_STAT_MASTER = 0 ∧
        t.fld SYS_BUSERR_STAT SYS_BUSERR_STAT_KIND = 6 ∧
        t.fld SYS_BUSERR_STAT SYS_BUSERR_STAT_WRITE = b2n w ∧
        t.reg SYS_BUSERR_ADDR = addr ∧
        (t.eng 8).ctx.trap.cause = 2 ∧
        (t.eng 8).ctx.trap.tpc = (s.eng 8).ctx.pc ∧
        (t.eng 8).ctx.pc = (s.eng 8).tvec ∧
        OnlyRegs [SYS_BUSERR_STAT, SYS_BUSERR_ADDR] s t)

/-- READ answers with the word of the register as the path may see it; WRITE stores and answers without payload;
BLOCK READ answers with its words; an access that cannot be performed gets NAK BUSERR with its kind, a bad count
NAK PARAM; in each case one frame goes out. Derived from parts of R36, R39, R52, R57, R58. -/
def Obligations.HostAccess : Prop :=
  (∀ (h : HostHdr) (addr : Word) (r : RegRow) (i : Nat) (s : State),
      Calm s → PlainFrame s h → accessError s addr.toNat = 0 → canWindow addr.toNat = none →
      regAt (normalOf addr.toNat) = some (r, i) → allPr r.fields = false →
      (∀ u : Fin 4, s.fld (CU_STAT u) CU_STAT_BUSY = 0) →
      Runs (.read h addr) s fun t =>
        Sends s t (pathCode h.path) 0x81 h.ref (leBytes 4 (visible s (pathCode h.path) r.fields (readWord s (pathCode h.path) r i)).toNat) ∧
        t.fld HOST_STAT HOST_STAT_NAK_CNT = s.fld HOST_STAT HOST_STAT_NAK_CNT ∧
        t.mem = s.mem) ∧
  (∀ (h : HostHdr) (addr : Word) (s : State),
      Calm s → PlainFrame s h → accessError s addr.toNat ≠ 0 →
      Runs (.read h addr) s fun t =>
        Naks s t (pathCode h.path) h.ref 4 (accessError s addr.toNat) ∧
        OnlyRegs [HOST_STAT, SYS_BUSERR_STAT, SYS_BUSERR_ADDR] s t ∧
        (s.fld SYS_BUSERR_STAT SYS_BUSERR_STAT_VALID = 0 → t.reg SYS_BUSERR_ADDR = addr)) ∧
  (∀ (h : HostHdr) (data : Word) (s : State),
      Calm s → PlainFrame s h → h.same = false → accessError s SYS_LOCK_STAT = 0 →
      (∀ u : Fin 4, s.fld (CU_STAT u) CU_STAT_BUSY = 0) →
      Runs (.write h (BitVec.ofNat 32 SYS_LOCK_STAT) data) s fun t =>
        Sends s t (pathCode h.path) 0x82 h.ref [] ∧
        t.fld SYS_LOCK_STAT SYS_LOCK_STAT_SLIP_CNT = fget SYS_LOCK_STAT_SLIP_CNT data ∧
        t.fld SYS_LOCK_STAT SYS_LOCK_STAT_MISSING = s.fld SYS_LOCK_STAT SYS_LOCK_STAT_MISSING ∧
        OnlyRegs [SYS_LOCK_STAT] s t ∧
        t.mem = s.mem) ∧
  (∀ (h : HostHdr) (addr data : Word) (s : State),
      Calm s → PlainFrame s h → accessError s addr.toNat ≠ 0 →
      Runs (.write h addr data) s fun t =>
        Naks s t (pathCode h.path) h.ref 4 (accessError s addr.toNat) ∧
        OnlyRegs [HOST_STAT, SYS_BUSERR_STAT, SYS_BUSERR_ADDR] s t ∧
        t.mem = s.mem) ∧
  (∀ (h : HostHdr) (addr : Word) (count : Nat) (s : State),
      Calm s → PlainFrame s h → 0 < count → count ≤ 256 →
      (∀ i < count, accessError s (addr.toNat + 4 * i) = 0) →
      (readWords (pathCode h.path) count addr.toNat 0 s).1 = none →
      (readWords (pathCode h.path) count addr.toNat 0 s).2.2.rep.capture = [] →
      Runs (.blockRead h addr count) s fun t =>
        (∃ a, t.out = s.out ++ [.frame (pathCode h.path) 0x83 h.ref a false (readWords (pathCode h.path) count addr.toNat 0 s).2.1])) ∧
  (∀ (h : HostHdr) (addr : Word) (count : Nat) (s : State),
      Calm s → PlainFrame s h → (count = 0 ∨ 256 < count) →
      Runs (.blockRead h addr count) s fun t =>
        Naks s t (pathCode h.path) h.ref 3 4 ∧
        OnlyRegs [HOST_STAT] s t)

/-- A fifth outstanding command gets NAK BUSY, a payload of the wrong length NAK LENGTH with LEN, a plain frame in a
session NAK ENC, an old SEQ NAK REPLAY, an address without a route NAK UNREACHABLE with that address, a command
that needs a session without one NAK AUTH with the level, and an unknown TYPE NAK TYPE with it; in each case
nothing else happens. Derived from parts of R50, R52, R55, R57, R58. -/
def Obligations.HostRefusals : Prop :=
  (∀ (h : HostHdr) (addr data : Word) (s : State),
      Calm s → pathOff s h = false → h.path ≠ 1 → 4 ≤ outstanding s (pathCode h.path) → pausing s = true →
      Runs (.write h addr data) s fun t =>
        Naks s t (pathCode h.path) h.ref 0xB 0 ∧
        OnlyRegs [HOST_STAT] s t ∧
        t.mem = s.mem) ∧
  (∀ (h : HostHdr) (addr data : Word) (s : State),
      Calm s → pathOff s h = false → h.path ≠ 1 → outstanding s (pathCode h.path) = 0 →
      pausing s = false → h.dest = 0 → (s.host (pathCode h.path)).level = 0 → h.enc = false →
      h.fits = false → s.upd.waiting = [] →
      Runs (.write h addr data) s fun t =>
        Naks s t (pathCode h.path) h.ref 2 h.len ∧
        OnlyRegs [HOST_STAT] s t ∧
        t.mem = s.mem) ∧
  (∀ (h : HostHdr) (addr data : Word) (s : State),
      Calm s → pathOff s h = false → h.path ≠ 1 → outstanding s (pathCode h.path) = 0 →
      pausing s = false → h.dest = 0 → 0 < (s.host (pathCode h.path)).level →
      sessionOver s (pathCode h.path) = false → h.enc = false → s.upd.waiting = [] →
      Runs (.write h addr data) s fun t =>
        Naks s t (pathCode h.path) h.ref 0xA 0 ∧
        OnlyRegs [HOST_STAT] s t ∧
        t.mem = s.mem) ∧
  (∀ (h : HostHdr) (addr data : Word) (s : State),
      Calm s → pathOff s h = false → h.path ≠ 1 → outstanding s (pathCode h.path) = 0 →
      pausing s = false → h.dest = 0 → 0 < (s.host (pathCode h.path)).level →
      sessionOver s (pathCode h.path) = false → h.enc = true →
      h.seq ≤ (s.host (pathCode h.path)).lastSeq → s.upd.waiting = [] →
      Runs (.write h addr data) s fun t =>
        Naks s t (pathCode h.path) h.ref 8 0 ∧
        OnlyRegs [HOST_STAT] s t ∧
        t.mem = s.mem) ∧
  (∀ (h : HostHdr) (addr data : Word) (s : State),
      Calm s → pathOff s h = false → h.path ≠ 1 → outstanding s (pathCode h.path) = 0 →
      pausing s = false → h.dest ≠ 0 → h.dest ≠ aqAddr s → enabled s 15 = false → s.upd.waiting = [] →
      Runs (.write h addr data) s fun t =>
        Naks s t (pathCode h.path) h.ref 0xD h.dest ∧
        OnlyRegs [HOST_STAT] s t ∧
        t.mem = s.mem) ∧
  (∀ (h : HostHdr) (sub val : Nat) (s : State),
      Calm s → PlainFrame s h →
      Runs (.enable h sub val) s fun t =>
        Naks s t (pathCode h.path) h.ref 5 2 ∧
        OnlyRegs [HOST_STAT] s t ∧
        t.start = s.start) ∧
  (∀ (h : HostHdr) (typ : Nat) (s : State),
      Calm s → PlainFrame s h →
      Runs (.unknownType h typ) s fun t =>
        Naks s t (pathCode h.path) h.ref 1 typ ∧
        OnlyRegs [HOST_STAT] s t) ∧
  (∀ (h : HostHdr) (addr data : Word) (s : State),
      Calm s → pathOff s h = false → outstanding s (pathCode h.path) < 4 → pausing s = true →
      Runs (.write h addr data) s fun t =>
        t.upd.waiting = s.upd.waiting ++ [.write h addr data] ∧
        t.out = s.out ∧
        t.mem = s.mem ∧
        OnlyRegs [] s t)

/-- SESSION OPEN of level 1 opens a protected session and answers with the module's nonce, key and proof; of level 2
it opens a service session where the host proves a service key, and else gets NAK AUTH_FAIL and holds the path
for 1 s, during which it gets NAK HOLD with the time left; of level 0 it ends the session; a path without an
accepted command for 60 s loses its session. Derived from parts of R53, R54, R56, R57, R58. -/
def Obligations.HostSessions : Prop :=
  (∀ (h : HostHdr) (keyIndex nonce pub sig : Nat) (s : State),
      Calm s → PlainFrame s h →
      Runs (.sessionOpen h 1 keyIndex nonce pub sig) s fun t =>
        (t.host (pathCode h.path)).level = 1 ∧
        (t.host (pathCode h.path)).lastSeq = 0 ∧
        (t.host (pathCode h.path)).txSeq = 1 ∧
        (t.host (pathCode h.path)).lastCommand = s.now ∧
        (∀ m, m ≠ (pathCode h.path) → t.host m = s.host m) ∧
        (∃ p, Sends s t (pathCode h.path) 0x84 h.ref p ∧ p.length = 144)) ∧
  (∀ (h : HostHdr) (keyIndex nonce pub sig : Nat) (s : State),
      Calm s → PlainFrame s h → (s.host (pathCode h.path)).holdEnd ≤ s.now →
      Runs (.sessionOpen h 2 keyIndex nonce pub sig) s fun t =>
        (hostProved s 2 keyIndex nonce pub sig = true → (t.host (pathCode h.path)).level = 2 ∧ (t.host (pathCode h.path)).prov = (keyIndex == 0x80) ∧ ∃ p, Sends s t (pathCode h.path) 0x84 h.ref p ∧ p.length = 144) ∧
        (hostProved s 2 keyIndex nonce pub sig = false → (t.host (pathCode h.path)).level = 0 ∧ (t.host (pathCode h.path)).holdEnd = s.now + 1000000000 ∧ Naks s t (pathCode h.path) h.ref 6 0) ∧
        OnlyRegs [HOST_STAT] s t) ∧
  (∀ (h : HostHdr) (keyIndex nonce pub sig : Nat) (s : State),
      Calm s → PlainFrame s h → s.now < (s.host (pathCode h.path)).holdEnd →
      Runs (.sessionOpen h 2 keyIndex nonce pub sig) s fun t =>
        Naks s t (pathCode h.path) h.ref 7 (((s.host (pathCode h.path)).holdEnd - s.now + 999999) / 1000000) ∧
        t.hosts = s.hosts ∧
        OnlyRegs [HOST_STAT] s t) ∧
  (∀ (h : HostHdr) (keyIndex nonce pub sig : Nat) (s : State),
      Calm s → pathOff s h = false → h.path ≠ 1 → outstanding s (pathCode h.path) = 0 →
      pausing s = false → h.dest = 0 → h.fits = true → 0 < (s.host (pathCode h.path)).level →
      startState s ≠ 5 → s.upd.waiting = [] →
      Runs (.sessionOpen h 0 keyIndex nonce pub sig) s fun t =>
        (t.host (pathCode h.path)).level = 0 ∧
        (t.host (pathCode h.path)).holdEnd = (s.host (pathCode h.path)).holdEnd ∧
        t.out = s.out ++ [.frame (pathCode h.path) 0x84 h.ref (originAddr s) false []]) ∧
  (∀ (h : HostHdr) (level keyIndex nonce pub sig : Nat) (s : State),
      Calm s → PlainFrame s h → 2 < level →
      Runs (.sessionOpen h level keyIndex nonce pub sig) s fun t =>
        Naks s t (pathCode h.path) h.ref 3 0 ∧
        t.hosts = s.hosts) ∧
  (∀ (p : Fin 3) (s : State),
      Calm s → (s.host (pathCode p)).holdEnd ≤ s.now →
      Runs (.authFailHoldExpiry p) s fun t =>
        t.host (pathCode p) = { s.host (pathCode p) with holdEnd := 0 } ∧
        OnlyRegs [] s t) ∧
  (∀ (p : Fin 3) (s : State),
      Calm s → s.now < (s.host (pathCode p)).holdEnd →
      Runs (.authFailHoldExpiry p) s fun t =>
        t.hosts = s.hosts ∧
        OnlyRegs [] s t) ∧
  (∀ (p : Fin 3) (s : State),
      Calm s → (s.host (pathCode p)).level ≠ 0 → (s.host (pathCode p)).lastCommand + 60000000000 ≤ s.now →
      Runs (.sessionTimeout p) s fun t =>
        (t.host (pathCode p)).level = 0 ∧
        (t.host (pathCode p)).holdEnd = (s.host (pathCode p)).holdEnd ∧
        (∀ m, m ≠ pathCode p → t.host m = s.host m) ∧
        t.out = s.out) ∧
  (∀ (p : Fin 3) (s : State),
      Calm s → s.now < (s.host (pathCode p)).lastCommand + 60000000000 →
      Runs (.sessionTimeout p) s fun t =>
        t.hosts = s.hosts ∧
        OnlyRegs [] s t)

/-- POWER requests the state, of this module at once and with scope 1 of the waterway 10 ms later, and is answered;
PIECE stores its bytes in the Basin and answers with the status; LOG READ answers with the head, the records and
the head; LOG CLEAR with the right code in a service session leaves one CLEAR record, with a wrong one or
without its key it gets NAK AUTH_FAIL; ENABLE in a service session asks for a check, or is answered at once
where the bit stands, and takes a subsystem out of service. Derived from parts of R57, R325, R341, R449, R451,
R480, R481. -/
def Obligations.HostServices : Prop :=
  (∀ (h : HostHdr) (target : Nat) (s : State),
      Calm s → PlainFrame s h → startState s = 0 → powersBehind s = [] → s.pow.sameCycle = [] →
      s.fld POWER_CFG POWER_CFG_NEEDS_SESSION = 0 → target < 4 → heldByUpdate s target = false →
      inTrans s = false → target ≠ powState s → s.pow.apply = [] →
      Runs (.power h target 0) s fun t =>
        Sends s t (pathCode h.path) 0x85 h.ref [] ∧
        inTrans t = true ∧
        t.fld POWER_STAT POWER_STAT_TARGET = target ∧
        t.fld POWER_STAT POWER_STAT_STATE = s.fld POWER_STAT POWER_STAT_STATE ∧
        OnlyRegs [POWER_STAT] s t) ∧
  (∀ (h : HostHdr) (target scope : Nat) (s : State),
      Calm s → PlainFrame s h → startState s = 0 → powersBehind s = [] → s.pow.sameCycle = [] →
      s.fld POWER_CFG POWER_CFG_NEEDS_SESSION = 0 → (3 < target ∨ 1 < scope) →
      Runs (.power h target scope) s fun t =>
        Naks s t (pathCode h.path) h.ref 3 (if 3 < target then 0 else 1) ∧
        t.fld POWER_STAT POWER_STAT_TARGET = s.fld POWER_STAT POWER_STAT_TARGET ∧
        inTrans t = inTrans s ∧
        OnlyRegs [POWER_STAT, HOST_STAT] s t) ∧
  (∀ (h : HostHdr) (id p : Nat) (l : List Nat) (s : State),
      Calm s → PlainFrame s h → updState s = 0 → id ≠ 0 → id < 2 ^ 32 → p < 1024 →
      (p = 0 → 2 ≤ l.getD 6 0 % 256) → l.length ≤ 4096 → (s.fld AQ_STAT AQ_STAT_STATE = 0) →
      Runs (.piece h id p l true) s fun t =>
        t.reg UPD_ID = BitVec.ofNat 32 id ∧
        updState t = 1 ∧
        (∀ q < 4096, pieceHeld t q = decide (q = p)) ∧
        (∀ j < l.length, t.byte (flashBase + basin + 4096 * p + j) = BitVec.ofNat 8 (l.getD j 0)) ∧
        SameBytes s t (flashBase + basin) (flashBase + basin + 4096 * basinTop) ∧
        (∃ a, t.out = s.out ++ [.frame (pathCode h.path) 0x86 h.ref a false [5]])) ∧
  (∀ (h : HostHdr) (id p : Nat) (l : List Nat) (ok : Bool) (s : State),
      Calm s → PlainFrame s h → 1 ≤ updState s → updState s < 4 → id ≠ 0 → (s.reg UPD_ID).toNat ≠ id →
      Runs (.piece h id p l ok) s fun t =>
        Sends s t (pathCode h.path) 0x86 h.ref [4] ∧
        t.mem = s.mem ∧
        OnlyRegs [] s t) ∧
  (∀ (h : HostHdr) (id p : Nat) (l : List Nat) (ok : Bool) (s : State),
      Calm s → PlainFrame s h → updState s = 1 → id ≠ 0 → (s.reg UPD_ID).toNat = id → p < 1024 →
      manifestGood s = false → pieceHeld s p = true →
      Runs (.piece h id p l ok) s fun t =>
        Sends s t (pathCode h.path) 0x86 h.ref [1] ∧
        t.mem = s.mem ∧
        OnlyRegs [] s t) ∧
  (∀ (h : HostHdr) (id p : Nat) (l : List Nat) (s : State),
      Calm s → PlainFrame s h → updState s = 1 → id ≠ 0 → (s.reg UPD_ID).toNat = id → p < 1024 →
      manifestGood s = false → pieceHeld s p = false → actingReact s 42 = 0 → resetOverdue s = false →
      Runs (.piece h id p l false) s fun t =>
        Sends s t (pathCode h.path) 0x86 h.ref [6] ∧
        t.mem = s.mem ∧
        pieceHeld t p = false ∧
        OnlyRegs [] s t) ∧
  (∀ (h : HostHdr) (start count : Nat) (s : State),
      Calm s → PlainFrame s h → 0 < count → count ≤ 64 →
      Runs (.logRead h start count) s fun t =>
        Sends s t (pathCode h.path) 0x87 h.ref (leBytes 6 s.rep.head ++ (logRecords s start count).flatMap recBytes ++ leBytes 6 s.rep.head) ∧
        t.rep.head = s.rep.head ∧
        t.rep.slots = s.rep.slots ∧
        OnlyRegs [] s t) ∧
  (∀ (h : HostHdr) (start count : Nat) (s : State),
      Calm s → PlainFrame s h → (count = 0 ∨ 64 < count) →
      Runs (.logRead h start count) s fun t =>
        Naks s t (pathCode h.path) h.ref 3 6) ∧
  (∀ (h : HostHdr) (code : Nat) (s : State),
      Calm s → SealedFrame s h → (sectionOf s 9).isSome = true → s.rep.clearMark = none →
      code = clearCode s →
      Runs (.logClear h ⟨code, true⟩) s fun t =>
        t.rep.head = (s.rep.head + 1) % 2 ^ 48 ∧
        t.rep.found = t.rep.head ∧
        t.rep.written = 1 ∧
        t.rep.slots = Tab.put [] {} 0 { mkRec s 4 0xFFFF 0xFFFF (leBytes 6 s.rep.head) with seq := (s.rep.head + 1) % 2 ^ 48, master := (pathCode h.path) } ∧
        t.fld LOG_STAT LOG_STAT_FOUND_FULL = 0 ∧
        Sends s t (pathCode h.path) 0x88 h.ref (leBytes 6 ((s.rep.head + 1) % 2 ^ 48)) ∧
        OnlyRegs [LOG_STAT] s t) ∧
  (∀ (h : HostHdr) (code : Nat) (whole : Bool) (s : State),
      Calm s → SealedFrame s h → s.rep.clearMark = none → sectionOf s 9 = none →
      Runs (.logClear h ⟨code, whole⟩) s fun t =>
        Naks s t (pathCode h.path) h.ref 6 0 ∧
        t.rep.head = s.rep.head ∧
        t.rep.found = s.rep.found ∧
        t.rep.slots = s.rep.slots ∧
        OnlyRegs [HOST_STAT] s t) ∧
  (∀ (h : HostHdr) (sub : Fin 17) (s : State),
      Calm s → SealedFrame s h → startState s = 0 → enabled s sub = false → sub.val ∉ s.start.checkQueue →
      Runs (.enable h sub 1) s fun t =>
        t.start.checkQueue = s.start.checkQueue ++ [sub.val] ∧
        t.start.askers = s.start.askers ++ [(sub.val, (pathCode h.path), h.ref)] ∧
        t.out = s.out ∧
        OnlyRegs [] s t ∧
        (t.host (pathCode h.path)).lastSeq = h.seq) ∧
  (∀ (h : HostHdr) (sub : Fin 17) (s : State),
      Calm s → SealedFrame s h → startState s = 0 → enabled s sub = true →
      Runs (.enable h sub 1) s fun t =>
        Sends s t (pathCode h.path) 0x89 h.ref [1, 0] ∧
        t.start = s.start ∧
        OnlyRegs [] s t) ∧
  (∀ (h : HostHdr) (s : State),
      Calm s → SealedFrame s h → startState s = 0 → enabled s 0 = true →
      (∃ k : Fin 10, enabled s (k + 1) = true) →
      Runs (.enable h 0 0) s fun t =>
        Sends s t (pathCode h.path) 0x89 h.ref [2, 0] ∧
        t.fld CHECK_EN CHECK_EN_ENABLE = s.fld CHECK_EN CHECK_EN_ENABLE ∧
        t.fld SYS_ACCESS_STAT SYS_ACCESS_STAT_LOCKVIOL = 1 ∧
        OnlyRegs [CHECK_EN, SYS_ACCESS_STAT, SYS_LOCK_ADDR] s t) ∧
  (∀ (h : HostHdr) (s : State),
      Calm s → SealedFrame s h → startState s = 0 → enabled s 13 = true →
      Runs (.enable h 13 0) s fun t =>
        Sends s t (pathCode h.path) 0x89 h.ref [1, 0] ∧
        (∀ n : Fin 18, enabled t n = (n != 13 && enabled s n)) ∧
        OnlyRegs [CHECK_EN] s t) ∧
  (∀ (h : HostHdr) (sub val : Nat) (s : State),
      Calm s → SealedFrame s h → startState s = 0 → (17 < sub ∨ 1 < val) →
      Runs (.enable h sub val) s fun t =>
        Naks s t (pathCode h.path) h.ref 3 (if 17 < sub then 0 else 1) ∧
        t.start = s.start ∧
        OnlyRegs [HOST_STAT] s t) ∧
  (∀ (h : HostHdr) (code : Nat) (whole : Bool) (s : State),
      Calm s → SealedFrame s h → s.rep.clearMark = none → code ≠ clearCode s →
      Runs (.logClear h ⟨code, whole⟩) s fun t =>
        Naks s t (pathCode h.path) h.ref 6 0 ∧
        t.rep.head = s.rep.head ∧
        t.rep.found = s.rep.found ∧
        t.rep.slots = s.rep.slots ∧
        OnlyRegs [HOST_STAT] s t) ∧
  (∀ (h : HostHdr) (target : Nat) (s : State),
      Calm s → PlainFrame s h → startState s = 0 → powersBehind s = [] → s.pow.sameCycle = [] →
      s.fld POWER_CFG POWER_CFG_NEEDS_SESSION = 0 → target < 4 →
      Runs (.power h target 1) s fun t =>
        (∃ l, t.out = s.out ++ l ++ [.frame (pathCode h.path) 0x85 h.ref (originAddr s) false []]) ∧
        t.pow.apply = s.pow.apply ++ [(s.wwt + 10000000, target)] ∧
        t.aq.reqId = (s.aq.reqId + 1) % 256 ∧
        inTrans t = inTrans s ∧
        OnlyRegs [] s t)

/-- The four views write, set, clear and toggle an RW field; a W1C bit clears where the normal or the clear view
writes 1; an RO field stands. A write of a privileged field by another master changes nothing and is recorded as
a privilege violation; one of a locked field is recorded as a lock violation; a WL field takes its first write
and refuses a later change; an access that cannot be performed is recorded with its kind; and no other register
changes. Derived from parts of R36, R37, R39, R42, R43, R46, R47. -/
def Obligations.RegisterWrites : Prop :=
  (∀ (m : Fin 12) (d : Fin 6) (view : Fin 4) (data : Word) (s : State),
      Calm s → masterUp s m = true → accessError s (SYS_CV_STAT d + 0x4000 * view.val) = 0 →
      (∀ u : Fin 4, s.fld (CU_STAT u) CU_STAT_BUSY = 0) → s.upd.waiting = [] →
      Runs (.registerWrite ⟨m, false⟩ (BitVec.ofNat 32 (SYS_CV_STAT d + 0x4000 * view.val)) data) s fun t =>
        t.fld (SYS_CV_STAT d) SYS_CV_STAT_RETRANS = (if view.val = 0 then fget SYS_CV_STAT_RETRANS data else if view.val = 1 then s.fld (SYS_CV_STAT d) SYS_CV_STAT_RETRANS ||| fget SYS_CV_STAT_RETRANS data else if view.val = 2 then s.fld (SYS_CV_STAT d) SYS_CV_STAT_RETRANS - (s.fld (SYS_CV_STAT d) SYS_CV_STAT_RETRANS &&& fget SYS_CV_STAT_RETRANS data) else s.fld (SYS_CV_STAT d) SYS_CV_STAT_RETRANS ^^^ fget SYS_CV_STAT_RETRANS data) ∧
        t.fld (SYS_CV_STAT d) SYS_CV_STAT_LOST = (if view.val % 2 = 0 then s.fld (SYS_CV_STAT d) SYS_CV_STAT_LOST - (s.fld (SYS_CV_STAT d) SYS_CV_STAT_LOST &&& fget SYS_CV_STAT_LOST data) else s.fld (SYS_CV_STAT d) SYS_CV_STAT_LOST) ∧
        t.fld (SYS_CV_STAT d) SYS_CV_STAT_UP = s.fld (SYS_CV_STAT d) SYS_CV_STAT_UP ∧
        OnlyRegs [SYS_CV_STAT d] s t ∧
        t.mem = s.mem) ∧
  (∀ (m : Fin 12) (p : Fin 2) (data : Word) (s : State),
      Calm s → masterUp s m = true → accessError s (T1S_CFG p) = 0 →
      (∀ u : Fin 4, s.fld (CU_STAT u) CU_STAT_BUSY = 0) → privileged s m = true → locking s 16 = false →
      s.upd.waiting = [] →
      Runs (.registerWrite ⟨m, false⟩ (BitVec.ofNat 32 (T1S_CFG p)) data) s fun t =>
        t.fld (T1S_CFG p) T1S_CFG_ON = fget T1S_CFG_ON data ∧
        t.fld (T1S_CFG p) T1S_CFG_PLCA_EN = fget T1S_CFG_PLCA_EN data ∧
        t.fld (T1S_CFG p) T1S_CFG_BURST_CNT = fget T1S_CFG_BURST_CNT data ∧
        t.fld (T1S_CFG p) T1S_CFG_NODE_ID = fget T1S_CFG_NODE_ID data ∧
        t.fld (T1S_CFG p) T1S_CFG_NODE_CNT = fget T1S_CFG_NODE_CNT data ∧
        t.fld (T1S_CFG p) T1S_CFG_TO_TMR = fget T1S_CFG_TO_TMR data ∧
        OnlyRegs [T1S_CFG p] s t ∧
        t.mem = s.mem) ∧
  (∀ (m : Fin 12) (p : Fin 2) (data : Word) (s : State),
      Calm s → masterUp s m = true → accessError s (T1S_CFG p) = 0 →
      (∀ u : Fin 4, s.fld (CU_STAT u) CU_STAT_BUSY = 0) → privileged s m = true → locking s 16 = true →
      fget T1S_CFG_ON data ≠ s.fld (T1S_CFG p) T1S_CFG_ON → s.upd.waiting = [] →
      Runs (.registerWrite ⟨m, false⟩ (BitVec.ofNat 32 (T1S_CFG p)) data) s fun t =>
        t.reg (T1S_CFG p) = s.reg (T1S_CFG p) ∧
        t.fld SYS_ACCESS_STAT SYS_ACCESS_STAT_LOCKVIOL = 1 ∧
        t.fld SYS_ACCESS_STAT SYS_ACCESS_STAT_LOCK_CNT = satInc (2 ^ SYS_ACCESS_STAT_LOCK_CNT.w - 1) (s.fld SYS_ACCESS_STAT SYS_ACCESS_STAT_LOCK_CNT) ∧
        (s.fld SYS_ACCESS_STAT SYS_ACCESS_STAT_LOCKVIOL = 0 → t.reg SYS_LOCK_ADDR = BitVec.ofNat 32 (T1S_CFG p) ∧ t.fld SYS_ACCESS_STAT SYS_ACCESS_STAT_LOCK_MASTER = m.val) ∧
        OnlyRegs [SYS_ACCESS_STAT, SYS_LOCK_ADDR] s t) ∧
  (∀ (m : Fin 12) (p : Fin 2) (data : Word) (s : State),
      Calm s → masterUp s m = true → accessError s (T1S_CFG p) = 0 →
      (∀ u : Fin 4, s.fld (CU_STAT u) CU_STAT_BUSY = 0) → privileged s m = false →
      fget T1S_CFG_ON data = 1 → s.upd.waiting = [] →
      Runs (.registerWrite ⟨m, false⟩ (BitVec.ofNat 32 (T1S_CFG p)) data) s fun t =>
        t.reg (T1S_CFG p) = s.reg (T1S_CFG p) ∧
        t.fld SYS_ACCESS_STAT SYS_ACCESS_STAT_PRIVVIOL = 1 ∧
        t.fld SYS_ACCESS_STAT SYS_ACCESS_STAT_PRIV_CNT = satInc (2 ^ SYS_ACCESS_STAT_PRIV_CNT.w - 1) (s.fld SYS_ACCESS_STAT SYS_ACCESS_STAT_PRIV_CNT) ∧
        (s.fld SYS_ACCESS_STAT SYS_ACCESS_STAT_PRIVVIOL = 0 → t.reg SYS_PRIV_ADDR = BitVec.ofNat 32 (T1S_CFG p) ∧ t.fld SYS_ACCESS_STAT SYS_ACCESS_STAT_PRIV_MASTER = m.val) ∧
        OnlyRegs [SYS_ACCESS_STAT, SYS_PRIV_ADDR] s t) ∧
  (∀ (m : Fin 12) (n : Fin 96) (data : Word) (s : State),
      Calm s → masterUp s m = true → accessError s (FAULT_CFG n) = 0 →
      (∀ u : Fin 4, s.fld (CU_STAT u) CU_STAT_BUSY = 0) →
      Tab.get s.wlSet false (32 * FAULT_CFG n + FAULT_CFG_REACT.lo) = false →
      Tab.get s.wlSet false (32 * FAULT_CFG n + FAULT_CFG_BANK.lo) = false → s.upd.waiting = [] →
      Runs (.registerWrite ⟨m, false⟩ (BitVec.ofNat 32 (FAULT_CFG n)) data) s fun t =>
        t.fld (FAULT_CFG n) FAULT_CFG_REACT = fget FAULT_CFG_REACT data ∧
        t.fld (FAULT_CFG n) FAULT_CFG_BANK = fget FAULT_CFG_BANK data ∧
        Tab.get t.wlSet false (32 * FAULT_CFG n + FAULT_CFG_REACT.lo) = true ∧
        OnlyRegs [FAULT_CFG n] s t) ∧
  (∀ (m : Fin 12) (n : Fin 96) (data : Word) (s : State),
      Calm s → masterUp s m = true → accessError s (FAULT_CFG n) = 0 →
      (∀ u : Fin 4, s.fld (CU_STAT u) CU_STAT_BUSY = 0) →
      Tab.get s.wlSet false (32 * FAULT_CFG n + FAULT_CFG_REACT.lo) = true →
      Tab.get s.wlSet false (32 * FAULT_CFG n + FAULT_CFG_BANK.lo) = true →
      fget FAULT_CFG_REACT data ≠ s.fld (FAULT_CFG n) FAULT_CFG_REACT → s.upd.waiting = [] →
      Runs (.registerWrite ⟨m, false⟩ (BitVec.ofNat 32 (FAULT_CFG n)) data) s fun t =>
        t.reg (FAULT_CFG n) = s.reg (FAULT_CFG n) ∧
        t.fld SYS_ACCESS_STAT SYS_ACCESS_STAT_LOCKVIOL = 1 ∧
        OnlyRegs [SYS_ACCESS_STAT, SYS_LOCK_ADDR] s t) ∧
  (∀ (m : Fin 12) (addr data : Word) (s : State),
      Calm s → masterUp s m = true → accessError s addr.toNat ≠ 0 →
      s.fld SYS_BUSERR_STAT SYS_BUSERR_STAT_VALID = 0 → s.upd.waiting = [] →
      Runs (.registerWrite ⟨m, false⟩ addr data) s fun t =>
        t.fld SYS_BUSERR_STAT SYS_BUSERR_STAT_VALID = 1 ∧
        t.fld SYS_BUSERR_STAT SYS_BUSERR_STAT_MASTER = m.val ∧
        t.fld SYS_BUSERR_STAT SYS_BUSERR_STAT_KIND = accessError s addr.toNat ∧
        t.fld SYS_BUSERR_STAT SYS_BUSERR_STAT_WRITE = 1 ∧
        t.reg SYS_BUSERR_ADDR = addr ∧
        OnlyRegs [SYS_BUSERR_STAT, SYS_BUSERR_ADDR] s t ∧
        t.mem = s.mem) ∧
  (∀ (m : Fin 12) (addr data : Word) (s : State),
      Calm s → masterUp s m = false → s.upd.waiting = [] →
      Runs (.registerWrite ⟨m, false⟩ addr data) s fun t =>
        OnlyRegs [] s t ∧
        t.mem = s.mem ∧
        t.out = s.out) ∧
  (∀ (m : Fin 12) (i : Fin 4) (s : State),
      Calm s → masterUp s m = true → accessError s (SENT_FAST i) = 0 →
      (∀ u : Fin 4, s.fld (CU_STAT u) CU_STAT_BUSY = 0) →
      Runs (.rcReadClear ⟨m, false⟩ (BitVec.ofNat 32 (SENT_FAST i))) s fun t =>
        t.fld (SENT_FAST i) SENT_FAST_FRESH = 0 ∧
        t.fld (SENT_FAST i) SENT_FAST_DATA = s.fld (SENT_FAST i) SENT_FAST_DATA ∧
        t.fld (SENT_FAST i) SENT_FAST_STATUS = s.fld (SENT_FAST i) SENT_FAST_STATUS ∧
        OnlyRegs [SENT_FAST i] s t) ∧
  (∀ (m : Fin 12) (i : Fin 4) (view : Fin 3) (s : State),
      Calm s → masterUp s m = true → accessError s (SENT_FAST i + 0x4000 * (view + 1)) = 0 →
      (∀ u : Fin 4, s.fld (CU_STAT u) CU_STAT_BUSY = 0) →
      Runs (.rcReadClear ⟨m, false⟩ (BitVec.ofNat 32 (SENT_FAST i + 0x4000 * (view + 1)))) s fun t =>
        OnlyRegs [] s t)

/-- A write of 1 to an ENABLE bit asks for the check of its subsystem, but for the Gatehouse of a part without one;
a write of 0 takes a subsystem out of service, withdraws a waiting check, or is a lock violation where supply
still carries another; a check that completes enables its subsystem or refuses it with the code and detail of
the first rule it breaks, in each case leaving the queue. Derived from parts of R2, R322, R323, R324, R325,
R326, R328, R334. -/
def Obligations.EnableAndChecks : Prop :=
  (∀ (m : Fin 12) (sub : Fin 18) (s : State),
      Calm s → masterUp s m = true → privileged s m = true → accessError s (CHECK_EN + setView) = 0 →
      enabled s sub = false → sub.val ∉ s.start.checkQueue →
      (∀ u : Fin 4, s.fld (CU_STAT u) CU_STAT_BUSY = 0) → s.upd.waiting = [] →
      Runs (.checkEnRequest m sub) s fun t =>
        t.start.checkQueue = (if sub = 17 ∧ gateFused = true then s.start.checkQueue else s.start.checkQueue ++ [sub.val]) ∧
        t.fld CHECK_EN CHECK_EN_ENABLE = s.fld CHECK_EN CHECK_EN_ENABLE ∧
        t.mem = s.mem ∧
        (sub ≠ 17 → OnlyRegs [] s t)) ∧
  (∀ (m : Fin 12) (sub : Fin 18) (s : State),
      Calm s → masterUp s m = true → privileged s m = false → accessError s (CHECK_EN + setView) = 0 →
      (∀ u : Fin 4, s.fld (CU_STAT u) CU_STAT_BUSY = 0) → s.upd.waiting = [] →
      Runs (.checkEnRequest m sub) s fun t =>
        t.start = s.start ∧
        t.fld SYS_ACCESS_STAT SYS_ACCESS_STAT_PRIVVIOL = 1 ∧
        OnlyRegs [SYS_ACCESS_STAT, SYS_PRIV_ADDR] s t) ∧
  (∀ (m : Fin 12) (s : State),
      Calm s → masterUp s m = true → privileged s m = true → accessError s (CHECK_EN + clearView) = 0 →
      enabled s 13 = true → (∀ u : Fin 4, s.fld (CU_STAT u) CU_STAT_BUSY = 0) → s.upd.waiting = [] →
      Runs (.checkEnDisable m 13) s fun t =>
        (∀ n : Fin 18, enabled t n = (n != 13 && enabled s n)) ∧
        OnlyRegs [CHECK_EN] s t ∧
        t.mem = s.mem) ∧
  (∀ (m : Fin 12) (sub : Fin 18) (s : State),
      Calm s → masterUp s m = true → privileged s m = true → accessError s (CHECK_EN + clearView) = 0 →
      0 < sub.val → enabled s sub = true → (∀ u : Fin 4, s.fld (CU_STAT u) CU_STAT_BUSY = 0) →
      s.upd.waiting = [] →
      Runs (.checkEnDisable m sub) s fun t =>
        enabled t sub = false) ∧
  (∀ (m : Fin 12) (sub : Fin 18) (s : State),
      Calm s → masterUp s m = true → privileged s m = true → accessError s (CHECK_EN + clearView) = 0 →
      enabled s sub = false → sub.val ∈ s.start.checkQueue → s.start.askers = [] →
      (∀ u : Fin 4, s.fld (CU_STAT u) CU_STAT_BUSY = 0) → s.upd.waiting = [] →
      Runs (.checkEnDisable m sub) s fun t =>
        t.start.checkQueue = s.start.checkQueue.filter (fun c => c != sub.val) ∧
        t.fld (CHECK_LAST sub) CHECK_LAST_RESULT = 3 ∧
        enabled t sub = false ∧
        OnlyRegs [CHECK_LAST sub] s t) ∧
  (∀ (m : Fin 12) (k : Fin 10) (s : State),
      Calm s → masterUp s m = true → privileged s m = true → accessError s (CHECK_EN + clearView) = 0 →
      enabled s 0 = true → enabled s (k + 1) = true → (∀ u : Fin 4, s.fld (CU_STAT u) CU_STAT_BUSY = 0) →
      s.upd.waiting = [] →
      Runs (.checkEnDisable m 0) s fun t =>
        t.fld CHECK_EN CHECK_EN_ENABLE = s.fld CHECK_EN CHECK_EN_ENABLE ∧
        t.fld SYS_ACCESS_STAT SYS_ACCESS_STAT_LOCKVIOL = 1 ∧
        OnlyRegs [SYS_ACCESS_STAT, SYS_LOCK_ADDR] s t) ∧
  (∀ (sub : Fin 18) (rest : List Nat) (s : State),
      Calm s → s.upd.pause = none → s.start.lodgeDown = false → s.start.checkQueue = sub.val :: rest →
      sub.val ∉ rest → startState s ≠ 4 → checkRefuses s sub = none → enabled s 15 = false →
      s.start.askers = [] → s.upd.waiting = [] →
      Runs (.checkComplete 0) s fun t =>
        enabled t sub = true ∧
        t.start.checkQueue = rest ∧
        t.fld (CHECK_LAST sub) CHECK_LAST_RESULT = 1 ∧
        t.fld (CHECK_LAST sub) CHECK_LAST_CODE = 0 ∧
        Tab.get t.rep.checkNotes (0, 0) sub.val = (1, 0)) ∧
  (∀ (sub : Fin 18) (rest : List Nat) (code detail : Nat) (s : State),
      Calm s → s.upd.pause = none → s.start.lodgeDown = false → s.start.checkQueue = sub.val :: rest →
      sub.val ∉ rest → startState s ≠ 4 → checkRefuses s sub = some (code, detail) → s.start.askers = [] →
      code < 64 → detail < 256 → s.upd.waiting = [] →
      Runs (.checkComplete 0) s fun t =>
        t.fld CHECK_EN CHECK_EN_ENABLE = s.fld CHECK_EN CHECK_EN_ENABLE ∧
        t.start.checkQueue = rest ∧
        t.fld (CHECK_LAST sub) CHECK_LAST_RESULT = 2 ∧
        t.fld (CHECK_LAST sub) CHECK_LAST_CODE = code ∧
        t.fld (CHECK_LAST sub) CHECK_LAST_DETAIL = detail ∧
        t.fld CHECK_REASON CHECK_REASON_SUBSYS = sub.val ∧
        t.fld CHECK_REASON CHECK_REASON_CODE = code ∧
        OnlyRegs [CHECK_LAST sub, CHECK_REASON] s t) ∧
  (∀ (sub : Fin 18) (rest : List Nat) (s : State),
      Calm s → s.upd.pause = none → s.start.lodgeDown = false → s.start.checkQueue = sub.val :: rest →
      sub.val ∉ rest → startState s = 4 → sub.val ∈ s.start.essential → s.upd.waiting = [] →
      Runs (.checkComplete 2) s fun t =>
        t.start.lodgeDown = true ∧
        t.start.failures = s.start.failures + 1 ∧
        t.start.warmNext = false)

/-- The notice link takes the pending item of the highest rank: the FAULT notice of the lowest number, else WAKE,
else the oldest CHECK, else UPDATE, else the event source next in turn, whose pending bit clears and whose hold
begins; nothing is sent where there is no path. The end of a hold sends what is pending. A discarded frame is
counted and the link bit follows the receiver. Derived from parts of R51, R59, R60, R62, R63, R64, R68. -/
def Obligations.NoticesAndLink : Prop :=
  (∀ (m : Nat) (f : FaultNote) (s : State),
      Calm s → s.start.lodgeDown = false → lowPower s = false → s.upd.pause = none → notePath s = some m →
      m ≠ 10 → firstFault s.rep.faultNotes = some f →
      Runs (.noticeSend) s fun t =>
        Sends s t m 0xC2 s.rep.noteRef ([f.flt, f.react] ++ leBytes 8 f.time) ∧
        t.rep.faultNotes = s.rep.faultNotes.filter (fun x => x.flt != f.flt) ∧
        t.rep.noteRef = (s.rep.noteRef + 1) % 256 ∧
        t.rep.wakeNote = s.rep.wakeNote ∧
        OnlyRegs [] s t) ∧
  (∀ (m : Nat) (w : Nat × Nat) (s : State),
      Calm s → s.start.lodgeDown = false → lowPower s = false → s.upd.pause = none → notePath s = some m →
      m ≠ 10 → s.rep.faultNotes = [] → s.rep.wakeNote = some w →
      Runs (.noticeSend) s fun t =>
        Sends s t m 0xC3 s.rep.noteRef (leBytes 4 w.1 ++ leBytes 8 w.2) ∧
        t.rep.wakeNote = none ∧
        t.rep.checkNotes = s.rep.checkNotes) ∧
  (∀ (m n : Nat) (r : Nat × Nat) (rest : Tab (Nat × Nat)) (s : State),
      Calm s → s.start.lodgeDown = false → lowPower s = false → s.upd.pause = none → notePath s = some m →
      m ≠ 10 → s.rep.faultNotes = [] → s.rep.wakeNote = none → s.rep.checkNotes = (n, r) :: rest →
      Runs (.noticeSend) s fun t =>
        Sends s t m 0xC4 s.rep.noteRef [n, r.1, r.2] ∧
        t.rep.checkNotes = rest ∧
        t.rep.updateNote = s.rep.updateNote ∧
        OnlyRegs [] s t) ∧
  (∀ (m : Nat) (u : Nat × Nat × Nat) (s : State),
      Calm s → s.start.lodgeDown = false → lowPower s = false → s.upd.pause = none → notePath s = some m →
      m ≠ 10 → s.rep.faultNotes = [] → s.rep.wakeNote = none → s.rep.checkNotes = [] →
      s.rep.updateNote = some u →
      Runs (.noticeSend) s fun t =>
        Sends s t m 0xC5 s.rep.noteRef (leBytes 4 u.1 ++ [u.2.1, u.2.2]) ∧
        t.rep.updateNote = none ∧
        OnlyRegs [] s t) ∧
  (∀ (m : Nat) (n : Fin 256) (s : State),
      Calm s → s.start.lodgeDown = false → lowPower s = false → s.upd.pause = none → notePath s = some m →
      m ≠ 10 → s.rep.faultNotes = [] → s.rep.wakeNote = none → s.rep.checkNotes = [] →
      s.rep.updateNote = none → nextEvent s = some n.val → s.net.localHeld = false →
      Runs (.noticeSend) s fun t =>
        Sends s t m 0xC1 s.rep.noteRef ([n.val] ++ leBytes 2 (Tab.get s.rep.ev {} n).count ++ leBytes 8 (Tab.get s.rep.ev {} n).first ++ leBytes 8 (Tab.get s.rep.ev {} n).last) ∧
        bitOf (t.reg (HOST_EVPEND (n / 16))).toNat (n % 16) = false ∧
        (∀ k : Fin 256, k ≠ n → bitOf (t.reg (HOST_EVPEND (k / 16))).toNat (k % 16) = bitOf (s.reg (HOST_EVPEND (k / 16))).toNat (k % 16)) ∧
        (Tab.get t.rep.ev {} n).holdEnd = s.now + holdTime s n ∧
        (Tab.get t.rep.ev {} n).count = 0 ∧
        t.rep.evLast = n.val ∧
        OnlyRegs [HOST_EVPEND (n / 16)] s t) ∧
  (∀ (s : State),
      Calm s → notePath s = none →
      Runs (.noticeSend) s fun t =>
        t.rep.noteRef = s.rep.noteRef ∧
        t.rep.faultNotes = s.rep.faultNotes ∧
        t.out = s.out ∧
        OnlyRegs [] s t) ∧
  (∀ (n : Fin 256) (s : State),
      Calm s → (Tab.get s.rep.ev {} n.val).holdEnd ≤ s.now → notePath s = none → s.net.localHeld = false →
      Runs (.eventHoldExpiry n) s fun t =>
        (Tab.get t.rep.ev {} n.val).holdEnd = 0 ∧
        (∀ k : Fin 256, k ≠ n → Tab.get t.rep.ev {} k.val = Tab.get s.rep.ev {} k.val) ∧
        t.out = s.out ∧
        OnlyRegs [] s t) ∧
  (∀ (n : Fin 256) (m : Nat) (s : State),
      Calm s → (Tab.get s.rep.ev {} n.val).holdEnd ≤ s.now → s.start.lodgeDown = false →
      lowPower s = false → s.upd.pause = none → notePath s = some m → m ≠ 10 → s.rep.faultNotes = [] →
      s.rep.wakeNote = none → s.rep.checkNotes = [] → s.rep.updateNote = none →
      (∀ k : Fin 256, bitOf (s.reg (HOST_EVPEND (k / 16))).toNat (k % 16) = (k == n)) →
      s.net.localHeld = false →
      Runs (.eventHoldExpiry n) s fun t =>
        Sends s t m 0xC1 s.rep.noteRef ([n.val] ++ leBytes 2 (Tab.get s.rep.ev {} n).count ++ leBytes 8 (Tab.get s.rep.ev {} n).first ++ leBytes 8 (Tab.get s.rep.ev {} n).last) ∧
        bitOf (t.reg (HOST_EVPEND (n / 16))).toNat (n % 16) = false ∧
        (Tab.get t.rep.ev {} n.val).holdEnd = s.now + holdTime s n ∧
        OnlyRegs [HOST_EVPEND (n / 16)] s t) ∧
  (∀ (n : Fin 256) (s : State),
      Calm s → s.now < (Tab.get s.rep.ev {} n.val).holdEnd → s.net.localHeld = false →
      Runs (.eventHoldExpiry n) s fun t =>
        t.rep.ev = s.rep.ev ∧
        t.out = s.out ∧
        OnlyRegs [] s t) ∧
  (∀ (p : Fin 3) (s : State),
      Calm s → pathOff s { path := p } = false →
      Runs (.towpathFrameDiscard p) s fun t =>
        t.fld HOST_STAT HOST_STAT_CRC_CNT = satInc (2 ^ HOST_STAT_CRC_CNT.w - 1) (s.fld HOST_STAT HOST_STAT_CRC_CNT) ∧
        OnlyRegs [HOST_STAT] s t ∧
        t.out = s.out) ∧
  (∀ (p : Fin 3) (s : State),
      Calm s → pathOff s { path := p } = true →
      Runs (.towpathFrameDiscard p) s fun t =>
        OnlyRegs [] s t ∧
        t.out = s.out) ∧
  (∀ (up : Bool) (s : State),
      Calm s → s.start.lodgeDown = false → lowPower s = false →
      Runs (.towpathLinkChange up) s fun t =>
        t.fld HOST_STAT HOST_STAT_LINK = b2n up ∧
        t.fld HOST_STAT HOST_STAT_CRC_CNT = s.fld HOST_STAT HOST_STAT_CRC_CNT ∧
        OnlyRegs [HOST_STAT] s t)

/-- A complete tunnelled response leaves on the host path it answers; one with a wrong CRC is discarded and counted;
a command runs as though it had arrived on the tunnel path and its module is answered; a piece whose parts are
all there is stored in the Basin, and both leave the reassembly. Derived from parts of R50, R51, R411, R425,
R480, R481. -/
def Obligations.TunnelAndPieces : Prop :=
  (∀ (src : Nat) (f : List Nat) (ok : Bool) (s : State),
      Calm s → s.start.lodgeDown = false → pausing s = false → tunnelFrame s src = some f →
      f.length = leAt f 4 2 + 10 → leAt f 4 2 ≤ 4160 →
      leAt f (6 + leAt f 4 2) 4 = crcOf crcC (f.take (6 + leAt f 4 2)) → 0x7F ≤ leAt f 0 1 →
      s.upd.waiting = [] →
      Runs (.tunnelFrameComplete src ok) s fun t =>
        t.out = s.out ++ [.frame s.aq.fwdPath (leAt f 0 1) (leAt f 1 1) (leAt f 3 1) (bitOf (leAt f 2 1) 7) ((f.drop 6).take (leAt f 4 2))] ∧
        Tab.get t.aq.tunnels {} src = {} ∧
        t.mem = s.mem ∧
        OnlyRegs [] s t) ∧
  (∀ (src : Nat) (f : List Nat) (ok : Bool) (s : State),
      Calm s → s.start.lodgeDown = false → pausing s = false → tunnelFrame s src = some f →
      f.length = leAt f 4 2 + 10 → leAt f 4 2 ≤ 4160 →
      leAt f (6 + leAt f 4 2) 4 = crcOf crcC (f.take (6 + leAt f 4 2)) → leAt f 0 1 = 1 →
      s.upd.waiting = [] →
      Runs (.tunnelFrameComplete src ok) s fun t =>
        t.aq.tunHost = src ∧
        Tab.get t.aq.tunnels {} src = {} ∧
        t.mem = s.mem) ∧
  (∀ (src : Nat) (f : List Nat) (ok : Bool) (s : State),
      Calm s → s.start.lodgeDown = false → pausing s = false → tunnelFrame s src = some f →
      (f.length ≠ leAt f 4 2 + 10 ∨ leAt f (6 + leAt f 4 2) 4 ≠ crcOf crcC (f.take (6 + leAt f 4 2))) →
      s.upd.waiting = [] →
      Runs (.tunnelFrameComplete src ok) s fun t =>
        t.fld HOST_STAT HOST_STAT_CRC_CNT = satInc (2 ^ HOST_STAT_CRC_CNT.w - 1) (s.fld HOST_STAT HOST_STAT_CRC_CNT) ∧
        Tab.get t.aq.tunnels {} src = {} ∧
        t.out = s.out ∧
        t.mem = s.mem ∧
        OnlyRegs [HOST_STAT] s t) ∧
  (∀ (src : Nat) (f : List Nat) (ok : Bool) (s : State),
      Calm s → s.start.lodgeDown = false → pausing s = true → tunnelFrame s src = some f →
      Runs (.tunnelFrameComplete src ok) s fun t =>
        t.upd.waiting = s.upd.waiting ++ [.tunnelFrameComplete src ok] ∧
        t.aq.tunnels = s.aq.tunnels ∧
        t.out = s.out ∧
        OnlyRegs [] s t) ∧
  (∀ (src p : Nat) (s : State),
      Calm s → s.start.lodgeDown = false → pausing s = false → pieceWhole s src = true → updState s = 0 →
      p = (Tab.get s.aq.pieces {} src).piece → 0 < p → p < 1024 → s.upd.waiting = [] →
      Runs (.pieceBargeAssembly src true) s fun t =>
        Tab.get t.aq.pieces {} src = {} ∧
        t.reg UPD_ID = BitVec.ofNat 32 (Tab.get s.aq.pieces {} src).update ∧
        updState t = 1 ∧
        pieceHeld t p = true ∧
        (∀ j < (assembledPiece s src).length, j < 4096 → t.byte (flashBase + basin + 4096 * p + j) = BitVec.ofNat 8 ((assembledPiece s src).getD j 0)))

/-- A cold start releases the Lodge, trains every Culvert, adds the recorded failures to START_FAIL and, with 5 or
more, ends in harbour limp; without firmware that verifies it goes no further; else the firmware of the slot
stands in the code SRAM, and the start has either failed, which is recorded, or goes on to discovery. A warm
start shows KIND 1 and, with no neighbour, goes on alone to the checks, unless it has failed. Derived from parts
of R17, R330, R331, R334, R335, R336. -/
def Obligations.Starts : Prop :=
  (∀ (fw : FwSeen) (s : State),
      Calm s → lowPower s = false → s.start.lodgeDown = true → s.start.warmNext = false →
      5 ≤ startFail s + s.start.failures →
      Runs (.coldStart fw) s fun t =>
        startState t = 5 ∧
        t.fld CHECK_START CHECK_START_START_FAIL = min (startFail s + s.start.failures) 255 ∧
        t.fld FAULT_STAT FAULT_STAT_ERRN_LOW = 1 ∧
        t.start.lodgeDown = false ∧
        t.start.failures = 0 ∧
        t.lock.lrst = false ∧
        (∀ d : Fin 6, cvUp t d = true) ∧
        t.hosts = []) ∧
  (∀ (fw : FwSeen) (s : State),
      Calm s → lowPower s = false → s.start.lodgeDown = true → s.start.warmValid = false →
      startFail s + s.start.failures < 5 → fw.a = none → fw.b = none → s.sup.lvLow = false →
      resetOverdue s = false →
      Runs (.coldStart fw) s fun t =>
        startState t = 1 ∧
        t.fld CHECK_START CHECK_START_START_FAIL = startFail s + s.start.failures ∧
        t.start.lodgeDown = false ∧
        t.start.failures = 0 ∧
        t.lock.lrst = false ∧
        (∀ d : Fin 6, cvUp t d = true)) ∧
  (∀ (fw : FwSeen) (v : BitVec 32) (s : State),
      Calm s → lowPower s = false → s.start.lodgeDown = true → s.start.warmNext = false →
      startFail s + s.start.failures < 5 → s.start.fwSlot = false → fw.a = some v →
      Runs (.coldStart fw) s fun t =>
        ((t.start.lodgeDown = true ∧ t.start.failures = 1 ∧ t.start.warmNext = false ∧ t.lock.lrst = true) ∨ (startState t = 3 ∧ aqState t = 1 ∧ t.start.disc = 0 ∧ t.reg CHECK_FWVER = v ∧ t.fld CHECK_START CHECK_START_FSLOT = 0 ∧ t.fld CHECK_START CHECK_START_START_FAIL = startFail s + s.start.failures ∧ t.start.lodgeDown = false)) ∧
        (∀ i < 0x80000, t.byte i = s.byte (flashBase + 0x100000 + i))) ∧
  (∀ (fw : FwSeen) (s : State),
      Calm s → lowPower s = true →
      Runs (.coldStart fw) s fun t =>
        t.start = s.start ∧
        OnlyRegs [] s t ∧
        t.mem = s.mem) ∧
  (∀ (fw : FwSeen) (s : State),
      Calm s → lowPower s = false → s.start.lodgeDown = true → s.start.warmNext = true →
      s.start.warmValid = true → fw.a = none → fw.b = none → s.sup.lvLow = false →
      Runs (.warmStart fw none) s fun t =>
        startState t = 1 ∧
        t.fld CHECK_START CHECK_START_KIND = 1 ∧
        t.start.lodgeDown = false ∧
        t.start.warmNext = false ∧
        t.start.warmValid = false ∧
        t.lock.lrst = false) ∧
  (∀ (fw : FwSeen) (v : BitVec 32) (s : State),
      Calm s → lowPower s = false → s.start.lodgeDown = true → s.start.warmNext = true →
      s.start.warmValid = true → s.start.fwSlot = false → fw.a = some v →
      Runs (.warmStart fw none) s fun t =>
        ((t.start.lodgeDown = true ∧ t.start.failures = 1 ∧ t.start.warmNext = false ∧ t.lock.lrst = true) ∨ (startState t = 4 ∧ aqState t = 0 ∧ aqAddr t = 0 ∧ t.fld CHECK_START CHECK_START_KIND = 1 ∧ t.reg CHECK_FWVER = v ∧ t.fld CHECK_START CHECK_START_FSLOT = 0 ∧ t.start.lodgeDown = false)) ∧
        t.start.warmValid = false) ∧
  (∀ (fw : FwSeen) (topo : Option Word) (s : State),
      Calm s → lowPower s = false → s.start.lodgeDown = true → s.start.warmValid = false →
      Runs (.warmStart fw topo) s fun t =>
        t.start = s.start ∧
        OnlyRegs [] s t ∧
        t.mem = s.mem)

/-- With the checks over and the reservoir ready the claim frames go out: every bank is claimed, START STATE is RUN,
START_FAIL 0 and CLAIM_MS the time since the trigger; before, nothing changes. A start that has not succeeded
after 2 s has failed: the Lodge is in reset and the failure recorded; before, nothing changes. LIMP_CLR in
harbour limp clears START_FAIL and leads to a cold start, and with a READY Chart makes it the active one in the
boot record; outside harbour limp it changes nothing. Derived from parts of R75, R330, R333, R334, R336. -/
def Obligations.ClaimAndLimits : Prop :=
  (∀ (s : State),
      Calm s → claimReady s = true → s.start.claims < 2 ^ 15 → (∀ d : Fin 6, cvUp s d = true) →
      (∀ d : Fin 5, domOff s (24 + d) = false) → (∀ d : Fin 6, (s.cv d).down.queue = []) →
      Runs (.startClaimWaitEnd) s fun t =>
        startState t = 0 ∧
        t.fld CHECK_START CHECK_START_START_FAIL = 0 ∧
        t.fld CHECK_START CHECK_START_CLAIM_MS = min ((s.now - s.start.trigger) / 1000000) 0xFFFF ∧
        (∀ b : Fin 15, bitOf s.start.claims b = false → (t.bank b).claimed = true)) ∧
  (∀ (s : State),
      Calm s → claimReady s = false →
      Runs (.startClaimWaitEnd) s fun t =>
        startState t = startState s ∧
        t.start.claims = s.start.claims ∧
        t.banks = s.banks ∧
        OnlyRegs [] s t) ∧
  (∀ (s : State),
      Calm s → s.start.lodgeDown = false → startState s ≠ 0 → startState s ≠ 5 →
      s.start.trigger + 2000000000 ≤ s.now →
      Runs (.startTimeout) s fun t =>
        t.start.lodgeDown = true ∧
        t.start.failures = s.start.failures + 1 ∧
        t.start.warmNext = false ∧
        t.start.warmValid = false ∧
        t.lock.lrst = true ∧
        t.start.checkQueue = [] ∧
        t.mem = s.mem) ∧
  (∀ (s : State),
      Calm s → (startState s = 0 ∨ s.now < s.start.trigger + 2000000000) →
      Runs (.startTimeout) s fun t =>
        t.start = s.start ∧
        OnlyRegs [] s t) ∧
  (∀ (m : Fin 12) (s : State),
      Calm s → masterUp s m = true → privileged s m = true →
      accessError s (CHECK_STARTCTL + setView) = 0 → startState s = 5 → updState s ≠ 2 → updState s ≠ 3 →
      (∀ u : Fin 4, s.fld (CU_STAT u) CU_STAT_BUSY = 0) → s.upd.waiting = [] →
      Runs (.limpClr m) s fun t =>
        t.start.lodgeDown = true ∧
        t.fld CHECK_START CHECK_START_START_FAIL = 0 ∧
        t.start.warmNext = false ∧
        t.start.warmValid = false ∧
        t.start.chartSlot = s.start.chartSlot ∧
        t.mem = s.mem) ∧
  (∀ (m : Fin 12) (c : Comp) (s : State),
      Calm s → masterUp s m = true → privileged s m = true →
      accessError s (CHECK_STARTCTL + setView) = 0 → startState s = 5 → updState s = 3 → comps s = [c] →
      c.typ = 1 → (∀ u : Fin 4, s.fld (CU_STAT u) CU_STAT_BUSY = 0) →
      ((bootRecord s).getD (0, 0, false, false)).2.1 < 0xFFFFFFFF → s.upd.waiting = [] →
      Runs (.limpClr m) s fun t =>
        t.start.lodgeDown = true ∧
        t.fld CHECK_START CHECK_START_START_FAIL = 0 ∧
        t.start.chartSlot = (!s.start.chartSlot) ∧
        t.start.fwSlot = s.start.fwSlot ∧
        updState t = 5 ∧
        SameBytes s t flashBase (flashBase + 0x2000) ∧
        (bootRecord t).map (fun r => r.2.2) = some (t.start.chartSlot, t.start.fwSlot)) ∧
  (∀ (m : Fin 12) (s : State),
      Calm s → masterUp s m = true → privileged s m = true →
      accessError s (CHECK_STARTCTL + setView) = 0 → startState s ≠ 5 →
      (∀ u : Fin 4, s.fld (CU_STAT u) CU_STAT_BUSY = 0) → s.upd.waiting = [] →
      Runs (.limpClr m) s fun t =>
        t.start = s.start ∧
        OnlyRegs [] s t ∧
        t.mem = s.mem)

/-- A step of a cold discovery sends its floods and counts on; with no port UP the module is alone with its own time
and goes on to the checks of its list; the root is settled from the best candidate; the last step makes the
module run on its waterway. A module beside a running waterway joins it with the entry of the plan for its
position, or is quarantined on a spare address where the plans differ. Derived from parts of R332, R405, R412,
R413, R414, R415. -/
def Obligations.DiscoverySteps : Prop :=
  (∀ (s : State),
      Calm s → startState s = 3 → s.start.lodgeDown = false → s.start.disc = 0 → discDue s 1 = true →
      Runs (.discovery) s fun t =>
        t.start.disc = 1 ∧
        startState t = 3 ∧
        (∀ p : Fin 4, portSends s p = true → (s.aqPort p).qf.length < 64 → (t.aqPort p).qf.length = (s.aqPort p).qf.length + 1)) ∧
  (∀ (s : State),
      Calm s → startState s = 3 → s.start.lodgeDown = false → s.start.disc = 2 → discDue s 3 = true →
      (∀ p : Fin 4, portUp s p = false) → (∀ e ∈ s.start.auto, e.1 < 17 ∧ enabled s e.1 = false) →
      (List.map (fun e => e.1) s.start.auto).Nodup → s.start.checkQueue = [] →
      Runs (.discovery) s fun t =>
        startState t = 4 ∧
        aqState t = 0 ∧
        aqAddr t = 0 ∧
        t.wwt = s.wwt ∧
        t.start.checkQueue = List.map (fun e => e.1) s.start.auto ∧
        t.start.auto = []) ∧
  (∀ (p : Fin 4) (s : State),
      Calm s → startState s = 3 → s.start.lodgeDown = false → s.start.disc = 2 → discDue s 3 = true →
      portUp s p = true → runningPort s = none →
      Runs (.discovery) s fun t =>
        startState t = 3 ∧
        t.start.disc = 3 ∧
        t.aq.rootSerial = some (candidate s).2.1 ∧
        t.fld AQ_STAT AQ_STAT_ROOT = b2n (isRoot s)) ∧
  (∀ (s : State),
      Calm s → startState s = 3 → s.start.lodgeDown = false → s.start.disc = 6 → discDue s 7 = true →
      runningPort s = none → (∀ e ∈ s.start.auto, e.1 < 17 ∧ enabled s e.1 = false) →
      (List.map (fun e => e.1) s.start.auto).Nodup → s.start.checkQueue = [] → enabled s 15 = false →
      Runs (.discovery) s fun t =>
        startState t = 4 ∧
        aqState t = 2 ∧
        aqAddr t = aqAddr s ∧
        t.start.checkQueue = List.map (fun e => e.1) s.start.auto ∧
        t.start.auto = []) ∧
  (∀ (s : State),
      Calm s → startState s ≠ 3 →
      Runs (.discovery) s fun t =>
        t.start = s.start ∧
        t.aq = s.aq ∧
        OnlyRegs [] s t) ∧
  (∀ (p : Nat) (x : Hello) (len path : Nat) (e : PathEntry) (s : State),
      Calm s → startState s = 3 → s.start.lodgeDown = false → runningPort s = some p →
      (s.aqPort p).hello = some x → s.aq.tree = some (len, path) → x.plan = s.aq.plan.digest →
      planEntry s len path = some e → heldByOther s e.addr = false → e.addr < 256 →
      (∀ e ∈ s.start.auto, e.1 < 17 ∧ enabled s e.1 = false) →
      (List.map (fun e => e.1) s.start.auto).Nodup → s.start.checkQueue = [] →
      Runs (.waterwayJoin) s fun t =>
        startState t = 4 ∧
        aqState t = 2 ∧
        aqAddr t = e.addr ∧
        t.fld AQ_STAT AQ_STAT_RECOV = 1 ∧
        t.aq.quarCause = 0 ∧
        t.start.checkQueue = List.map (fun e => e.1) s.start.auto ∧
        t.start.auto = []) ∧
  (∀ (p : Nat) (x : Hello) (len path : Nat) (s : State),
      Calm s → startState s = 3 → s.start.lodgeDown = false → runningPort s = some p →
      (s.aqPort p).hello = some x → s.aq.tree = some (len, path) → x.plan ≠ s.aq.plan.digest →
      heldByOther s 241 = false → planEntry s len path = none → actingReact s 52 = 0 →
      (∀ e ∈ s.start.auto, e.1 < 17 ∧ enabled s e.1 = false) →
      (List.map (fun e => e.1) s.start.auto).Nodup → s.start.checkQueue = [] → resetOverdue s = false →
      Runs (.waterwayJoin) s fun t =>
        startState t = 4 ∧
        aqState t = 3 ∧
        aqAddr t = 241 ∧
        t.aq.quarCause = 2) ∧
  (∀ (s : State),
      Calm s → startState s = 3 → s.start.lodgeDown = false → runningPort s = none →
      Runs (.waterwayJoin) s fun t =>
        t.start = s.start ∧
        t.aq = s.aq ∧
        OnlyRegs [] s t)

/-- The components of a COMPLETE update are copied into their inactive slots, the rest of which is erased; the
update becomes READY where every condition holds, and else REFUSED with the reason, detail and peer of the first
that does not. The update record goes to every module over every UP port of the tree. ABORT outside a hand-over
clears the update. Derived from parts of R482, R483, R484, R491. -/
def Obligations.UpdateCompletion : Prop :=
  (∀ (c : Comp) (s : State),
      Calm s → wardenServes s = true → updState s = 2 → comps s = [c] → c.typ = 2 → c.len ≤ 0x100000 →
      s.start.fwSlot = false →
      Runs (.updateComplete) s fun t =>
        (updIncompatible (copyComps s) = none → updState t = 3 ∧ t.fld UPD_STAT UPD_STAT_REASON = 0) ∧
        (∀ x, updIncompatible (copyComps s) = some x → updState t = 6 ∧ t.fld UPD_STAT UPD_STAT_REASON = x.1 % 16) ∧
        (∀ i < c.len, t.byte (flashBase + 0x200000 + i) = (s.byte (flashBase + basin + 4096 * (mPieces s + c.first) + i))) ∧
        (∀ i < 0x100000, c.len ≤ i → t.byte (flashBase + 0x200000 + i) = 0xFF#8) ∧
        SameBytes s t (flashBase + 0x200000) (flashBase + 0x300000) ∧
        t.start.fwSlot = false) ∧
  (∀ (s : State),
      Calm s → (updState s ≠ 2 ∨ wardenServes s = false) →
      Runs (.updateComplete) s fun t =>
        updState t = updState s ∧
        t.mem = s.mem ∧
        OnlyRegs [] s t) ∧
  (∀ (p : Fin 4) (s : State),
      Calm s → wardenServes s = true → s.upd.nextRecord ≤ s.now → enabled s 15 = true → aqState s = 2 →
      portUp s p = true → treeLeaves (topology s) (aqAddr s) (aqAddr s) p = true →
      (s.aqPort p).qf.length < 64 →
      Runs (.updateRecordSend) s fun t =>
        (t.aqPort p).qf.length = (s.aqPort p).qf.length + 1 ∧
        Tab.get t.aq.txSeq 0 0xFD = (Tab.get s.aq.txSeq 0 0xFD + 1) % 65536) ∧
  (∀ (s : State),
      Calm s → wardenServes s = true → (enabled s 15 = false ∨ aqState s ≠ 2) →
      Runs (.updateRecordSend) s fun t =>
        t.aq = s.aq ∧
        OnlyRegs [] s t) ∧
  (∀ (m : Fin 12) (s : State),
      Calm s → masterUp s m = true → privileged s m = true → accessError s (UPD_CTRL + setView) = 0 →
      updState s ≠ 0 → updState s ≠ 4 → (∀ u : Fin 4, s.fld (CU_STAT u) CU_STAT_BUSY = 0) →
      s.upd.waiting = [] →
      Runs (.abort m) s fun t =>
        updState t = 0 ∧
        t.reg UPD_ID = 0#32 ∧
        t.fld UPD_PIECES UPD_PIECES_TOTAL = 0 ∧
        (∀ w : Fin 128, t.reg (UPD_BITMAP w) = 0#32) ∧
        t.upd.armed = none ∧
        t.upd.todo = [] ∧
        t.mem = s.mem) ∧
  (∀ (m : Fin 12) (s : State),
      Calm s → masterUp s m = true → privileged s m = true → accessError s (UPD_CTRL + setView) = 0 →
      (updState s = 0 ∨ updState s = 4) → s.upd.waiting = [] →
      (∀ u : Fin 4, s.fld (CU_STAT u) CU_STAT_BUSY = 0) →
      Runs (.abort m) s fun t =>
        updState t = updState s ∧
        t.reg UPD_ID = s.reg UPD_ID ∧
        t.upd = s.upd ∧
        t.mem = s.mem ∧
        OnlyRegs [UPD_ID, UPD_STAT] s t)

/-- ARM of a READY update that meets its conditions makes a COLD Chart active for the next start, or waits with a
HOT one for a quiet point; one that does not meet them stays READY with the reason. A quiet point inside the
window begins the hand-over: the Keeper programs wait for a strobe two cycles ahead, or the firmware is loaded
into the other code bank and the Warden pauses. A window that ends without one refuses the ARM. Derived from
parts of R483, R485, R486, R487, R489. -/
def Obligations.Arming : Prop :=
  (∀ (m : Fin 12) (c : Comp) (s : State),
      Calm s → masterUp s m = true → privileged s m = true → accessError s (UPD_CTRL + setView) = 0 →
      (∀ u : Fin 4, s.fld (CU_STAT u) CU_STAT_BUSY = 0) → updState s = 3 → armRefuses s = none →
      comps s = [c] → c.typ = 1 → isHot s c = true → s.upd.waiting = [] →
      Runs (.arm m) s fun t =>
        updState t = 3 ∧
        t.upd.armed = some s.now ∧
        t.upd.todo = [(1, true)] ∧
        t.start.chartSlot = s.start.chartSlot ∧
        t.mem = s.mem) ∧
  (∀ (m : Fin 12) (c : Comp) (s : State),
      Calm s → masterUp s m = true → privileged s m = true → accessError s (UPD_CTRL + setView) = 0 →
      (∀ u : Fin 4, s.fld (CU_STAT u) CU_STAT_BUSY = 0) → updState s = 3 → armRefuses s = none →
      comps s = [c] → c.typ = 1 → isHot s c = false →
      ((bootRecord s).getD (0, 0, false, false)).2.1 < 0xFFFFFFFF → s.upd.waiting = [] →
      Runs (.arm m) s fun t =>
        updState t = 5 ∧
        t.fld UPD_STAT UPD_STAT_COLD = 1 ∧
        t.upd.armed = none ∧
        t.upd.todo = [] ∧
        t.start.chartSlot = (!s.start.chartSlot) ∧
        t.start.fwSlot = s.start.fwSlot ∧
        SameBytes s t flashBase (flashBase + 0x2000) ∧
        (bootRecord t).map (fun r => r.2.2) = some (t.start.chartSlot, t.start.fwSlot)) ∧
  (∀ (m : Fin 12) (r d p : Nat) (s : State),
      Calm s → masterUp s m = true → privileged s m = true → accessError s (UPD_CTRL + setView) = 0 →
      (∀ u : Fin 4, s.fld (CU_STAT u) CU_STAT_BUSY = 0) → updState s = 3 → armRefuses s = some (r, d, p) →
      r < 16 → d < 256 → p < 256 → actingReact s 66 = 0 → resetOverdue s = false → s.upd.waiting = [] →
      Runs (.arm m) s fun t =>
        updState t = 3 ∧
        t.fld UPD_STAT UPD_STAT_REASON = r ∧
        t.fld UPD_STAT UPD_STAT_DETAIL = d ∧
        t.fld UPD_CTRL UPD_CTRL_UPD_PEER = p ∧
        t.upd.armed = s.upd.armed ∧
        t.start = s.start ∧
        t.mem = s.mem) ∧
  (∀ (m : Fin 12) (s : State),
      Calm s → masterUp s m = true → privileged s m = true → accessError s (UPD_CTRL + setView) = 0 →
      (∀ u : Fin 4, s.fld (CU_STAT u) CU_STAT_BUSY = 0) → updState s ≠ 3 → s.upd.waiting = [] →
      Runs (.arm m) s fun t =>
        t.upd = s.upd ∧
        updState t = updState s ∧
        t.start = s.start ∧
        t.mem = s.mem ∧
        OnlyRegs [UPD_STAT] s t) ∧
  (∀ (t0 : Nat) (s : State),
      Calm s → wardenServes s = true → s.upd.armed = some t0 → quiet s = true → s.now < t0 + quietTo s →
      s.upd.todo = [(1, true)] → s.upd.waiting = [] →
      Runs (.quietPoint) s fun t =>
        updState t = 4 ∧
        t.reg UPD_SWAP = s.reg KEEPER_LCC + 2#32 ∧
        t.upd.swap = true ∧
        t.upd.armed = none ∧
        t.upd.pause = s.upd.pause ∧
        t.mem = s.mem) ∧
  (∀ (t0 : Nat) (c : Comp) (rest : List (Nat × Bool)) (s : State),
      Calm s → wardenServes s = true → s.upd.armed = some t0 → quiet s = true → s.now < t0 + quietTo s →
      s.upd.todo = (2, true) :: rest → compOf s 2 = some c → c.len ≤ 0x40000 →
      s.fld UPD_CODE UPD_CODE_CODE_BANK = 0 → s.start.fwSlot = false → s.upd.waiting = [] →
      Runs (.quietPoint) s fun t =>
        updState t = 4 ∧
        t.upd.pause = some s.now ∧
        t.upd.armed = none ∧
        t.fld UPD_CODE UPD_CODE_CODE_BANK = 0 ∧
        (∀ i < c.len, t.byte (0x40000 + i) = s.byte (flashBase + 0x200000 + i)) ∧
        SameBytes s t 0x40000 0x80000) ∧
  (∀ (s : State),
      Calm s → (s.upd.armed = none ∨ quiet s = false) → s.upd.waiting = [] →
      Runs (.quietPoint) s fun t =>
        t.upd = s.upd ∧
        updState t = updState s ∧
        t.mem = s.mem ∧
        OnlyRegs [] s t) ∧
  (∀ (t0 : Nat) (s : State),
      Calm s → s.upd.armed = some t0 → t0 + quietTo s ≤ s.now → s.start.lodgeDown = false →
      actingReact s 66 = 0 →
      Runs (.quietTimeout) s fun t =>
        updState t = 3 ∧
        t.fld UPD_STAT UPD_STAT_REASON = 0xA ∧
        t.upd.armed = none ∧
        t.upd.todo = []) ∧
  (∀ (t0 : Nat) (s : State),
      Calm s → s.upd.armed = some t0 → s.now < t0 + quietTo s →
      Runs (.quietTimeout) s fun t =>
        t.upd = s.upd ∧
        updState t = updState s ∧
        OnlyRegs [] s t)

/-- Firmware that resumes within 1.5 ms runs from the bank that was not selected: CODE_BANK and the active slot
change, HO_CNT counts and the pause is recorded; one that does not is rolled back, which RB_CNT counts, the
update being REFUSED with the bank as it was. At the strobe of SWAP_LCC the new Chart is in use, HO_CNT counts
and the update is ACTIVE once nothing is left to hand over. Derived from parts of R304, R487, R490, R492, R493. -/
def Obligations.HandOver : Prop :=
  (∀ (t0 : Nat) (s : State),
      Calm s → s.upd.pause = some t0 → s.upd.switched = true → s.upd.clash = false →
      s.now < t0 + 1500000 → s.upd.todo = [(2, true)] → s.upd.waiting = [] →
      ((bootRecord s).getD (0, 0, false, false)).2.1 < 0xFFFFFFFF →
      Runs (.firmwareResumed) s fun t =>
        t.fld UPD_CODE UPD_CODE_CODE_BANK = s.fld UPD_CODE UPD_CODE_CODE_BANK ∧
        t.start.fwSlot = (!s.start.fwSlot) ∧
        t.fld UPD_HO UPD_HO_HO_CNT = satInc (2 ^ UPD_HO_HO_CNT.w - 1) (s.fld UPD_HO UPD_HO_HO_CNT) ∧
        t.fld UPD_HO UPD_HO_PAUSE_US = min ((s.now - t0) / 1000) 2000 ∧
        t.fld CHECK_START CHECK_START_FSLOT = b2n (!s.start.fwSlot) ∧
        t.upd.pause = none ∧
        t.upd.todo = [] ∧
        updState t = 5 ∧
        SameBytes s t flashBase (flashBase + 0x2000) ∧
        (bootRecord t).map (fun r => r.2.2) = some (t.start.chartSlot, t.start.fwSlot)) ∧
  (∀ (t0 : Nat) (s : State),
      Calm s → s.upd.pause = some t0 → t0 + 1500000 ≤ s.now → s.upd.waiting = [] →
      Runs (.firmwareResumed) s fun t =>
        t.upd = s.upd ∧
        t.fld UPD_CODE UPD_CODE_CODE_BANK = s.fld UPD_CODE UPD_CODE_CODE_BANK ∧
        OnlyRegs [] s t) ∧
  (∀ (t0 : Nat) (s : State),
      Calm s → s.upd.pause = some t0 → t0 + 1500000 ≤ s.now → s.upd.switched = true → s.upd.waiting = [] →
      s.fld UPD_CODE UPD_CODE_CODE_BANK < 2 → actingReact s 66 = 0 → resetOverdue s = false →
      Runs (.handoverRollback) s fun t =>
        t.fld UPD_CODE UPD_CODE_CODE_BANK = 1 - s.fld UPD_CODE UPD_CODE_CODE_BANK ∧
        t.eng 8 = s.upd.oldEng ∧
        t.start.fwSlot = s.start.fwSlot ∧
        t.fld UPD_HO UPD_HO_RB_CNT = satInc (2 ^ UPD_HO_RB_CNT.w - 1) (s.fld UPD_HO UPD_HO_RB_CNT) ∧
        t.fld UPD_HO UPD_HO_PAUSE_US = min ((s.now - t0) / 1000) 2000 ∧
        updState t = 7 ∧
        t.fld UPD_STAT UPD_STAT_REASON = 0xB ∧
        t.upd.pause = none ∧
        t.upd.todo = [] ∧
        t.mem = s.mem) ∧
  (∀ (s : State),
      Calm s → s.upd.swap = true → s.reg KEEPER_LCC = s.reg UPD_SWAP → s.start.lodgeDown = false →
      s.upd.todo = [(1, true)] → s.upd.newSections = [] → s.upd.pause = none → s.upd.waiting = [] →
      Runs (.keeperSwapStrobe) s fun t =>
        t.start.chartSlot = (!s.start.chartSlot) ∧
        t.fld CHECK_START CHECK_START_CSLOT = b2n (!s.start.chartSlot) ∧
        t.fld UPD_HO UPD_HO_HO_CNT = satInc (2 ^ UPD_HO_HO_CNT.w - 1) (s.fld UPD_HO UPD_HO_HO_CNT) ∧
        t.upd.swap = false ∧
        t.upd.todo = [] ∧
        updState t = 5 ∧
        (∀ k : Fin 8, (s.eng k).present = false → kState t k = 0)) ∧
  (∀ (s : State),
      Calm s → (s.upd.swap = false ∨ s.reg KEEPER_LCC ≠ s.reg UPD_SWAP) → s.upd.waiting = [] →
      Runs (.keeperSwapStrobe) s fun t =>
        t.upd = s.upd ∧
        t.start = s.start ∧
        OnlyRegs [] s t ∧
        t.mem = s.mem)

/-- In a delay slot, every compare-and-branch, J, JAL, JX, JALX, RET, CALLM, RETM, RTE and YIELD of an engine
outside a trap handler traps with RESERVED_OP at EVEC: TCAUSE is 1, TRAPINST holds the word, TDS is 1, and
nothing is stored. -/
def Obligations.DelaySlotWords : Prop :=
  (∀ (e : Fin 9) (rs1 rs2 : Fin 32) (off : BitVec 16) (s : State),
      Calm s → Issues s e → (s.eng e).ctx.ds = true → (s.eng e).ctx.trap.inh = false →
      (s.eng e).evec ≠ absentEntry →
      TrapsReserved (.breq e rs1 rs2 off) s e (encI 0x18 rs1 rs2 off)) ∧
  (∀ (e : Fin 9) (rs1 rs2 : Fin 32) (off : BitVec 16) (s : State),
      Calm s → Issues s e → (s.eng e).ctx.ds = true → (s.eng e).ctx.trap.inh = false →
      (s.eng e).evec ≠ absentEntry →
      TrapsReserved (.brne e rs1 rs2 off) s e (encI 0x19 rs1 rs2 off)) ∧
  (∀ (e : Fin 9) (rs1 rs2 : Fin 32) (off : BitVec 16) (s : State),
      Calm s → Issues s e → (s.eng e).ctx.ds = true → (s.eng e).ctx.trap.inh = false →
      (s.eng e).evec ≠ absentEntry →
      TrapsReserved (.brlt e rs1 rs2 off) s e (encI 0x1A rs1 rs2 off)) ∧
  (∀ (e : Fin 9) (rs1 rs2 : Fin 32) (off : BitVec 16) (s : State),
      Calm s → Issues s e → (s.eng e).ctx.ds = true → (s.eng e).ctx.trap.inh = false →
      (s.eng e).evec ≠ absentEntry →
      TrapsReserved (.brge e rs1 rs2 off) s e (encI 0x1B rs1 rs2 off)) ∧
  (∀ (e : Fin 9) (rs1 rs2 : Fin 32) (off : BitVec 16) (s : State),
      Calm s → Issues s e → (s.eng e).ctx.ds = true → (s.eng e).ctx.trap.inh = false →
      (s.eng e).evec ≠ absentEntry →
      TrapsReserved (.brlo e rs1 rs2 off) s e (encI 0x1C rs1 rs2 off)) ∧
  (∀ (e : Fin 9) (rs1 rs2 : Fin 32) (off : BitVec 16) (s : State),
      Calm s → Issues s e → (s.eng e).ctx.ds = true → (s.eng e).ctx.trap.inh = false →
      (s.eng e).evec ≠ absentEntry →
      TrapsReserved (.brhs e rs1 rs2 off) s e (encI 0x1D rs1 rs2 off)) ∧
  (∀ (e : Fin 9) (rs1 : Fin 32) (k : BitVec 8) (off : BitVec 13) (s : State),
      Calm s → Issues s e → (s.eng e).ctx.ds = true → (s.eng e).ctx.trap.inh = false →
      (s.eng e).evec ≠ absentEntry →
      TrapsReserved (.bkeq e rs1 k off) s e (encBK 0x20 rs1 k off)) ∧
  (∀ (e : Fin 9) (rs1 : Fin 32) (k : BitVec 8) (off : BitVec 13) (s : State),
      Calm s → Issues s e → (s.eng e).ctx.ds = true → (s.eng e).ctx.trap.inh = false →
      (s.eng e).evec ≠ absentEntry →
      TrapsReserved (.bkne e rs1 k off) s e (encBK 0x21 rs1 k off)) ∧
  (∀ (e : Fin 9) (rs1 : Fin 32) (k : BitVec 8) (off : BitVec 13) (s : State),
      Calm s → Issues s e → (s.eng e).ctx.ds = true → (s.eng e).ctx.trap.inh = false →
      (s.eng e).evec ≠ absentEntry →
      TrapsReserved (.bklt e rs1 k off) s e (encBK 0x22 rs1 k off)) ∧
  (∀ (e : Fin 9) (rs1 : Fin 32) (k : BitVec 8) (off : BitVec 13) (s : State),
      Calm s → Issues s e → (s.eng e).ctx.ds = true → (s.eng e).ctx.trap.inh = false →
      (s.eng e).evec ≠ absentEntry →
      TrapsReserved (.bkge e rs1 k off) s e (encBK 0x23 rs1 k off)) ∧
  (∀ (e : Fin 9) (rs1 : Fin 32) (k : BitVec 8) (off : BitVec 13) (s : State),
      Calm s → Issues s e → (s.eng e).ctx.ds = true → (s.eng e).ctx.trap.inh = false →
      (s.eng e).evec ≠ absentEntry →
      TrapsReserved (.bklo e rs1 k off) s e (encBK 0x24 rs1 k off)) ∧
  (∀ (e : Fin 9) (rs1 : Fin 32) (k : BitVec 8) (off : BitVec 13) (s : State),
      Calm s → Issues s e → (s.eng e).ctx.ds = true → (s.eng e).ctx.trap.inh = false →
      (s.eng e).evec ≠ absentEntry →
      TrapsReserved (.bkhs e rs1 k off) s e (encBK 0x25 rs1 k off)) ∧
  (∀ (e : Fin 9) (off : BitVec 26) (s : State),
      Calm s → Issues s e → (s.eng e).ctx.ds = true → (s.eng e).ctx.trap.inh = false →
      (s.eng e).evec ≠ absentEntry →
      TrapsReserved (.j e off) s e (encJ 0x28 off)) ∧
  (∀ (e : Fin 9) (off : BitVec 26) (s : State),
      Calm s → Issues s e → (s.eng e).ctx.ds = true → (s.eng e).ctx.trap.inh = false →
      (s.eng e).evec ≠ absentEntry →
      TrapsReserved (.jal e off) s e (encJ 0x29 off)) ∧
  (∀ (e : Fin 9) (rs1 : Fin 32) (s : State),
      Calm s → Issues s e → (s.eng e).ctx.ds = true → (s.eng e).ctx.trap.inh = false →
      (s.eng e).evec ≠ absentEntry →
      TrapsReserved (.jx e rs1) s e (encI 0x2A 0 rs1 0#16)) ∧
  (∀ (e : Fin 9) (rd rs1 : Fin 32) (s : State),
      Calm s → Issues s e → (s.eng e).ctx.ds = true → (s.eng e).ctx.trap.inh = false →
      (s.eng e).evec ≠ absentEntry →
      TrapsReserved (.jalx e rd rs1) s e (encI 0x2B rd rs1 0#16)) ∧
  (∀ (e : Fin 9) (rs1 : Fin 32) (s : State),
      Calm s → Issues s e → (s.eng e).ctx.ds = true → (s.eng e).ctx.trap.inh = false →
      (s.eng e).evec ≠ absentEntry →
      TrapsReserved (.ret e rs1) s e (encI 0x2C 0 rs1 0#16)) ∧
  (∀ (e : Fin 9) (off : BitVec 26) (s : State),
      Calm s → Issues s e → (s.eng e).ctx.ds = true → (s.eng e).ctx.trap.inh = false →
      (s.eng e).evec ≠ absentEntry →
      TrapsReserved (.callm e off) s e (encJ 0x3A off)) ∧
  (∀ (e : Fin 9) (s : State),
      Calm s → Issues s e → (s.eng e).ctx.ds = true → (s.eng e).ctx.trap.inh = false →
      (s.eng e).evec ≠ absentEntry →
      TrapsReserved (.retm e) s e (0x3B#32)) ∧
  (∀ (e : Fin 9) (skip : Bool) (s : State),
      Calm s → Issues s e → (s.eng e).ctx.ds = true → (s.eng e).ctx.trap.inh = false →
      (s.eng e).evec ≠ absentEntry →
      TrapsReserved (.rte e skip) s e (encSys 2 0 skip 0#8)) ∧
  (∀ (e : Fin 9) (s : State),
      Calm s → Issues s e → (s.eng e).ctx.ds = true → (s.eng e).ctx.trap.inh = false →
      (s.eng e).evec ≠ absentEntry →
      TrapsReserved (.yield e) s e (encSys 3 0 false 0#8))

/-- RTE in a trap handler clears INH; with S = 0 the instruction at TPC executes next and TNPC follows it, with S =
1 the one at TNPC, and TNPC + 4 follows; the registers stay as they are. RTE with INH = 0 is a reserved opcode. -/
def Obligations.ReturnFromTrap : Prop :=
  (∀ (e : Fin 9) (s : State),
      Calm s → Issues s e → (s.eng e).ctx.ds = false → (s.eng e).ctx.trap.inh = true →
      Runs (.rte e false) s fun t =>
        (t.eng e).ctx.pc = (s.eng e).ctx.trap.tpc &&& 0xFFFFFFFC#32 ∧
        (t.eng e).ctx.npc = (s.eng e).ctx.trap.tnpc &&& 0xFFFFFFFC#32 ∧
        (t.eng e).ctx.ds = (s.eng e).ctx.trap.tds ∧
        (t.eng e).ctx.trap.inh = false ∧
        Gives s t e 0 1 0#32 ∧
        t.mem = s.mem ∧
        OnlyRegs [KEEPER_STAT e] s t) ∧
  (∀ (e : Fin 9) (s : State),
      Calm s → Issues s e → (s.eng e).ctx.ds = false → (s.eng e).ctx.trap.inh = true →
      Runs (.rte e true) s fun t =>
        (t.eng e).ctx.pc = (s.eng e).ctx.trap.tnpc &&& 0xFFFFFFFC#32 ∧
        (t.eng e).ctx.npc = ((s.eng e).ctx.trap.tnpc &&& 0xFFFFFFFC#32) + 4#32 ∧
        (t.eng e).ctx.ds = false ∧
        (t.eng e).ctx.trap.inh = false ∧
        Gives s t e 0 1 0#32 ∧
        t.mem = s.mem ∧
        OnlyRegs [KEEPER_STAT e] s t) ∧
  (∀ (e : Fin 9) (skip : Bool) (s : State),
      Calm s → Issues s e → (s.eng e).ctx.trap.inh = false → (s.eng e).evec ≠ absentEntry →
      Runs (.rte e skip) s fun t =>
        (t.eng e).ctx.trap.cause = 1 ∧
        (t.eng e).ctx.trap.inst = encSys 2 0 skip 0#8 ∧
        (t.eng e).ctx.trap.tpc = (s.eng e).ctx.pc ∧
        (t.eng e).ctx.pc = (s.eng e).evec ∧
        t.mem = s.mem ∧
        OnlyRegs [KEEPER_STAT e, KEEPER_TRAP e, KEEPER_TPC e] s t)

/-- What a step is: the queue runs first in, first out. On an empty queue the clock of the model ticks (log entry 1,
the model's choice). -/
def Obligations.StepRunsFront : Prop :=
  (∀ (c : Instr) (rest : List Instr) (s : State),
      step { s with pending := c :: rest } = exec c { s with pending := rest }) ∧
  (∀ s : State, s.pending = [] →
      ∃ t, step s = .next t ∧ t.now = s.now + 1000 ∧ t.mem = s.mem ∧ t.pending = [] ∧
        (s.aq.slew = 0 → s.aq.rate = 0 → s.aq.ratePart = 0 → t.wwt = s.wwt + 1000) ∧
        (∀ a, (∀ b : Fin 6, a ≠ MEAS_SCNT b) → (∀ p : Fin 4, a ≠ AQ_PCNT p) → a ≠ UPD_CODE → t.reg a = s.reg a))

/-- After reset no command waits, memory lists nothing, no fault waits for its reaction, and registers read as their
tables say: SYS_ID identifies stepping B1, the boot ROM runs, every subsystem is disabled, the module is in
power state Run, and a sample of configuration registers holds its Reset column. -/
def Obligations.ResetValues : Prop :=
  (State.reset.pending = [] ∧ State.reset.mem = [] ∧ State.reset.now = 0 ∧ Calm State.reset ∧ MemoryOk State.reset) ∧
  (State.reset.reg SYS_ID = 0x59430961#32 ∧ startState State.reset = 1 ∧ State.reset.reg CHECK_EN = 0#32 ∧
      powState State.reset = 0 ∧ State.reset.fld HOST_STAT HOST_STAT_NAK_CNT = 0) ∧
  (∀ p : Fin 2, State.reset.fld (T1S_CFG p) T1S_CFG_PLCA_EN = 1 ∧ State.reset.fld (T1S_CFG p) T1S_CFG_NODE_CNT = 8 ∧
      State.reset.fld (T1S_CFG p) T1S_CFG_TO_TMR = 0x20 ∧ State.reset.fld (T1S_CFG p) T1S_CFG_ON = 0) ∧
  (∀ (e : Fin 9) (r : Fin 32), (State.reset.eng e).x r = 0#32)

/-- The reactions of R440 to R443 are complete when a command ends: the capture is empty after every step from every
state in which it is empty. -/
def Obligations.CalmKept : Prop :=
  KeptByStep Calm

/-- From every state whose memory stands in canonical form, a step, whatever command waits in front, ends in a state
whose memory does: addresses rise strictly and no entry equals what an unlisted address reads as, so that equal
memories are equal data. -/
def Obligations.MemoryKept : Prop :=
  KeptByStep MemoryOk

/-- Every command answers a next state from every state; it leaves the queue and the clock of the model as they
were; and a command that is not one of those that may store leaves every byte of memory as it was. -/
def Obligations.CommandFrame : Prop :=
  (∀ (c : Instr) (s : State), ∃ t, exec c s = .next t ∧ t.pending = s.pending ∧ t.now = s.now) ∧
  (∀ (c : Instr) (s t : State), mayStore c = false → exec c s = .next t → t.mem = s.mem)
end

