-- ==== Sys2Proof/Laws/State.lean ====
section
/-! SUPPORT. One lemma per field per update of the state record, so that no proof unfolds a record
update. -/

namespace Sys2Proof.Machine

@[simp] theorem State.pending_with_pending (s : State) (v : List Instr) : ({ s with pending := v } : State).pending = v := rfl
@[simp] theorem State.now_with_pending (s : State) (v : List Instr) : ({ s with pending := v } : State).now = s.now := rfl
@[simp] theorem State.wwt_with_pending (s : State) (v : List Instr) : ({ s with pending := v } : State).wwt = s.wwt := rfl
@[simp] theorem State.draws_with_pending (s : State) (v : List Instr) : ({ s with pending := v } : State).draws = s.draws := rfl
@[simp] theorem State.regs_with_pending (s : State) (v : List Instr) : ({ s with pending := v } : State).regs = s.regs := rfl
@[simp] theorem State.prev_with_pending (s : State) (v : List Instr) : ({ s with pending := v } : State).prev = s.prev := rfl
@[simp] theorem State.dieEn_with_pending (s : State) (v : List Instr) : ({ s with pending := v } : State).dieEn = s.dieEn := rfl
@[simp] theorem State.mem_with_pending (s : State) (v : List Instr) : ({ s with pending := v } : State).mem = s.mem := rfl
@[simp] theorem State.out_with_pending (s : State) (v : List Instr) : ({ s with pending := v } : State).out = s.out := rfl
@[simp] theorem State.wlSet_with_pending (s : State) (v : List Instr) : ({ s with pending := v } : State).wlSet = s.wlSet := rfl
@[simp] theorem State.rep_with_pending (s : State) (v : List Instr) : ({ s with pending := v } : State).rep = s.rep := rfl
@[simp] theorem State.hosts_with_pending (s : State) (v : List Instr) : ({ s with pending := v } : State).hosts = s.hosts := rfl
@[simp] theorem State.dies_with_pending (s : State) (v : List Instr) : ({ s with pending := v } : State).dies = s.dies := rfl
@[simp] theorem State.cvs_with_pending (s : State) (v : List Instr) : ({ s with pending := v } : State).cvs = s.cvs := rfl
@[simp] theorem State.lock_with_pending (s : State) (v : List Instr) : ({ s with pending := v } : State).lock = s.lock := rfl
@[simp] theorem State.banks_with_pending (s : State) (v : List Instr) : ({ s with pending := v } : State).banks = s.banks := rfl
@[simp] theorem State.sup_with_pending (s : State) (v : List Instr) : ({ s with pending := v } : State).sup = s.sup := rfl
@[simp] theorem State.chans_with_pending (s : State) (v : List Instr) : ({ s with pending := v } : State).chans = s.chans := rfl
@[simp] theorem State.uvs_with_pending (s : State) (v : List Instr) : ({ s with pending := v } : State).uvs = s.uvs := rfl
@[simp] theorem State.valves_with_pending (s : State) (v : List Instr) : ({ s with pending := v } : State).valves = s.valves := rfl
@[simp] theorem State.motors_with_pending (s : State) (v : List Instr) : ({ s with pending := v } : State).motors = s.motors := rfl
@[simp] theorem State.bridges_with_pending (s : State) (v : List Instr) : ({ s with pending := v } : State).bridges = s.bridges := rfl
@[simp] theorem State.elems_with_pending (s : State) (v : List Instr) : ({ s with pending := v } : State).elems = s.elems := rfl
@[simp] theorem State.sources_with_pending (s : State) (v : List Instr) : ({ s with pending := v } : State).sources = s.sources := rfl
@[simp] theorem State.trellis_with_pending (s : State) (v : List Instr) : ({ s with pending := v } : State).trellis = s.trellis := rfl
@[simp] theorem State.inputs_with_pending (s : State) (v : List Instr) : ({ s with pending := v } : State).inputs = s.inputs := rfl
@[simp] theorem State.fieldOuts_with_pending (s : State) (v : List Instr) : ({ s with pending := v } : State).fieldOuts = s.fieldOuts := rfl
@[simp] theorem State.fieldBank_with_pending (s : State) (v : List Instr) : ({ s with pending := v } : State).fieldBank = s.fieldBank := rfl
@[simp] theorem State.bus_with_pending (s : State) (v : List Instr) : ({ s with pending := v } : State).bus = s.bus := rfl
@[simp] theorem State.aq_with_pending (s : State) (v : List Instr) : ({ s with pending := v } : State).aq = s.aq := rfl
@[simp] theorem State.kp_with_pending (s : State) (v : List Instr) : ({ s with pending := v } : State).kp = s.kp := rfl
@[simp] theorem State.meas_with_pending (s : State) (v : List Instr) : ({ s with pending := v } : State).meas = s.meas := rfl
@[simp] theorem State.start_with_pending (s : State) (v : List Instr) : ({ s with pending := v } : State).start = s.start := rfl
@[simp] theorem State.cus_with_pending (s : State) (v : List Instr) : ({ s with pending := v } : State).cus = s.cus := rfl
@[simp] theorem State.scrub_with_pending (s : State) (v : List Instr) : ({ s with pending := v } : State).scrub = s.scrub := rfl
@[simp] theorem State.pow_with_pending (s : State) (v : List Instr) : ({ s with pending := v } : State).pow = s.pow := rfl
@[simp] theorem State.net_with_pending (s : State) (v : List Instr) : ({ s with pending := v } : State).net = s.net := rfl
@[simp] theorem State.gate_with_pending (s : State) (v : List Instr) : ({ s with pending := v } : State).gate = s.gate := rfl
@[simp] theorem State.upd_with_pending (s : State) (v : List Instr) : ({ s with pending := v } : State).upd = s.upd := rfl
@[simp] theorem State.pending_with_now (s : State) (v : Nat) : ({ s with now := v } : State).pending = s.pending := rfl
@[simp] theorem State.now_with_now (s : State) (v : Nat) : ({ s with now := v } : State).now = v := rfl
@[simp] theorem State.wwt_with_now (s : State) (v : Nat) : ({ s with now := v } : State).wwt = s.wwt := rfl
@[simp] theorem State.draws_with_now (s : State) (v : Nat) : ({ s with now := v } : State).draws = s.draws := rfl
@[simp] theorem State.regs_with_now (s : State) (v : Nat) : ({ s with now := v } : State).regs = s.regs := rfl
@[simp] theorem State.prev_with_now (s : State) (v : Nat) : ({ s with now := v } : State).prev = s.prev := rfl
@[simp] theorem State.dieEn_with_now (s : State) (v : Nat) : ({ s with now := v } : State).dieEn = s.dieEn := rfl
@[simp] theorem State.mem_with_now (s : State) (v : Nat) : ({ s with now := v } : State).mem = s.mem := rfl
@[simp] theorem State.out_with_now (s : State) (v : Nat) : ({ s with now := v } : State).out = s.out := rfl
@[simp] theorem State.wlSet_with_now (s : State) (v : Nat) : ({ s with now := v } : State).wlSet = s.wlSet := rfl
@[simp] theorem State.rep_with_now (s : State) (v : Nat) : ({ s with now := v } : State).rep = s.rep := rfl
@[simp] theorem State.hosts_with_now (s : State) (v : Nat) : ({ s with now := v } : State).hosts = s.hosts := rfl
@[simp] theorem State.dies_with_now (s : State) (v : Nat) : ({ s with now := v } : State).dies = s.dies := rfl
@[simp] theorem State.cvs_with_now (s : State) (v : Nat) : ({ s with now := v } : State).cvs = s.cvs := rfl
@[simp] theorem State.lock_with_now (s : State) (v : Nat) : ({ s with now := v } : State).lock = s.lock := rfl
@[simp] theorem State.banks_with_now (s : State) (v : Nat) : ({ s with now := v } : State).banks = s.banks := rfl
@[simp] theorem State.sup_with_now (s : State) (v : Nat) : ({ s with now := v } : State).sup = s.sup := rfl
@[simp] theorem State.chans_with_now (s : State) (v : Nat) : ({ s with now := v } : State).chans = s.chans := rfl
@[simp] theorem State.uvs_with_now (s : State) (v : Nat) : ({ s with now := v } : State).uvs = s.uvs := rfl
@[simp] theorem State.valves_with_now (s : State) (v : Nat) : ({ s with now := v } : State).valves = s.valves := rfl
@[simp] theorem State.motors_with_now (s : State) (v : Nat) : ({ s with now := v } : State).motors = s.motors := rfl
@[simp] theorem State.bridges_with_now (s : State) (v : Nat) : ({ s with now := v } : State).bridges = s.bridges := rfl
@[simp] theorem State.elems_with_now (s : State) (v : Nat) : ({ s with now := v } : State).elems = s.elems := rfl
@[simp] theorem State.sources_with_now (s : State) (v : Nat) : ({ s with now := v } : State).sources = s.sources := rfl
@[simp] theorem State.trellis_with_now (s : State) (v : Nat) : ({ s with now := v } : State).trellis = s.trellis := rfl
@[simp] theorem State.inputs_with_now (s : State) (v : Nat) : ({ s with now := v } : State).inputs = s.inputs := rfl
@[simp] theorem State.fieldOuts_with_now (s : State) (v : Nat) : ({ s with now := v } : State).fieldOuts = s.fieldOuts := rfl
@[simp] theorem State.fieldBank_with_now (s : State) (v : Nat) : ({ s with now := v } : State).fieldBank = s.fieldBank := rfl
@[simp] theorem State.bus_with_now (s : State) (v : Nat) : ({ s with now := v } : State).bus = s.bus := rfl
@[simp] theorem State.aq_with_now (s : State) (v : Nat) : ({ s with now := v } : State).aq = s.aq := rfl
@[simp] theorem State.kp_with_now (s : State) (v : Nat) : ({ s with now := v } : State).kp = s.kp := rfl
@[simp] theorem State.meas_with_now (s : State) (v : Nat) : ({ s with now := v } : State).meas = s.meas := rfl
@[simp] theorem State.start_with_now (s : State) (v : Nat) : ({ s with now := v } : State).start = s.start := rfl
@[simp] theorem State.cus_with_now (s : State) (v : Nat) : ({ s with now := v } : State).cus = s.cus := rfl
@[simp] theorem State.scrub_with_now (s : State) (v : Nat) : ({ s with now := v } : State).scrub = s.scrub := rfl
@[simp] theorem State.pow_with_now (s : State) (v : Nat) : ({ s with now := v } : State).pow = s.pow := rfl
@[simp] theorem State.net_with_now (s : State) (v : Nat) : ({ s with now := v } : State).net = s.net := rfl
@[simp] theorem State.gate_with_now (s : State) (v : Nat) : ({ s with now := v } : State).gate = s.gate := rfl
@[simp] theorem State.upd_with_now (s : State) (v : Nat) : ({ s with now := v } : State).upd = s.upd := rfl
@[simp] theorem State.pending_with_wwt (s : State) (v : Nat) : ({ s with wwt := v } : State).pending = s.pending := rfl
@[simp] theorem State.now_with_wwt (s : State) (v : Nat) : ({ s with wwt := v } : State).now = s.now := rfl
@[simp] theorem State.wwt_with_wwt (s : State) (v : Nat) : ({ s with wwt := v } : State).wwt = v := rfl
@[simp] theorem State.draws_with_wwt (s : State) (v : Nat) : ({ s with wwt := v } : State).draws = s.draws := rfl
@[simp] theorem State.regs_with_wwt (s : State) (v : Nat) : ({ s with wwt := v } : State).regs = s.regs := rfl
@[simp] theorem State.prev_with_wwt (s : State) (v : Nat) : ({ s with wwt := v } : State).prev = s.prev := rfl
@[simp] theorem State.dieEn_with_wwt (s : State) (v : Nat) : ({ s with wwt := v } : State).dieEn = s.dieEn := rfl
@[simp] theorem State.mem_with_wwt (s : State) (v : Nat) : ({ s with wwt := v } : State).mem = s.mem := rfl
@[simp] theorem State.out_with_wwt (s : State) (v : Nat) : ({ s with wwt := v } : State).out = s.out := rfl
@[simp] theorem State.wlSet_with_wwt (s : State) (v : Nat) : ({ s with wwt := v } : State).wlSet = s.wlSet := rfl
@[simp] theorem State.rep_with_wwt (s : State) (v : Nat) : ({ s with wwt := v } : State).rep = s.rep := rfl
@[simp] theorem State.hosts_with_wwt (s : State) (v : Nat) : ({ s with wwt := v } : State).hosts = s.hosts := rfl
@[simp] theorem State.dies_with_wwt (s : State) (v : Nat) : ({ s with wwt := v } : State).dies = s.dies := rfl
@[simp] theorem State.cvs_with_wwt (s : State) (v : Nat) : ({ s with wwt := v } : State).cvs = s.cvs := rfl
@[simp] theorem State.lock_with_wwt (s : State) (v : Nat) : ({ s with wwt := v } : State).lock = s.lock := rfl
@[simp] theorem State.banks_with_wwt (s : State) (v : Nat) : ({ s with wwt := v } : State).banks = s.banks := rfl
@[simp] theorem State.sup_with_wwt (s : State) (v : Nat) : ({ s with wwt := v } : State).sup = s.sup := rfl
@[simp] theorem State.chans_with_wwt (s : State) (v : Nat) : ({ s with wwt := v } : State).chans = s.chans := rfl
@[simp] theorem State.uvs_with_wwt (s : State) (v : Nat) : ({ s with wwt := v } : State).uvs = s.uvs := rfl
@[simp] theorem State.valves_with_wwt (s : State) (v : Nat) : ({ s with wwt := v } : State).valves = s.valves := rfl
@[simp] theorem State.motors_with_wwt (s : State) (v : Nat) : ({ s with wwt := v } : State).motors = s.motors := rfl
@[simp] theorem State.bridges_with_wwt (s : State) (v : Nat) : ({ s with wwt := v } : State).bridges = s.bridges := rfl
@[simp] theorem State.elems_with_wwt (s : State) (v : Nat) : ({ s with wwt := v } : State).elems = s.elems := rfl
@[simp] theorem State.sources_with_wwt (s : State) (v : Nat) : ({ s with wwt := v } : State).sources = s.sources := rfl
@[simp] theorem State.trellis_with_wwt (s : State) (v : Nat) : ({ s with wwt := v } : State).trellis = s.trellis := rfl
@[simp] theorem State.inputs_with_wwt (s : State) (v : Nat) : ({ s with wwt := v } : State).inputs = s.inputs := rfl
@[simp] theorem State.fieldOuts_with_wwt (s : State) (v : Nat) : ({ s with wwt := v } : State).fieldOuts = s.fieldOuts := rfl
@[simp] theorem State.fieldBank_with_wwt (s : State) (v : Nat) : ({ s with wwt := v } : State).fieldBank = s.fieldBank := rfl
@[simp] theorem State.bus_with_wwt (s : State) (v : Nat) : ({ s with wwt := v } : State).bus = s.bus := rfl
@[simp] theorem State.aq_with_wwt (s : State) (v : Nat) : ({ s with wwt := v } : State).aq = s.aq := rfl
@[simp] theorem State.kp_with_wwt (s : State) (v : Nat) : ({ s with wwt := v } : State).kp = s.kp := rfl
@[simp] theorem State.meas_with_wwt (s : State) (v : Nat) : ({ s with wwt := v } : State).meas = s.meas := rfl
@[simp] theorem State.start_with_wwt (s : State) (v : Nat) : ({ s with wwt := v } : State).start = s.start := rfl
@[simp] theorem State.cus_with_wwt (s : State) (v : Nat) : ({ s with wwt := v } : State).cus = s.cus := rfl
@[simp] theorem State.scrub_with_wwt (s : State) (v : Nat) : ({ s with wwt := v } : State).scrub = s.scrub := rfl
@[simp] theorem State.pow_with_wwt (s : State) (v : Nat) : ({ s with wwt := v } : State).pow = s.pow := rfl
@[simp] theorem State.net_with_wwt (s : State) (v : Nat) : ({ s with wwt := v } : State).net = s.net := rfl
@[simp] theorem State.gate_with_wwt (s : State) (v : Nat) : ({ s with wwt := v } : State).gate = s.gate := rfl
@[simp] theorem State.upd_with_wwt (s : State) (v : Nat) : ({ s with wwt := v } : State).upd = s.upd := rfl
@[simp] theorem State.pending_with_draws (s : State) (v : Nat) : ({ s with draws := v } : State).pending = s.pending := rfl
@[simp] theorem State.now_with_draws (s : State) (v : Nat) : ({ s with draws := v } : State).now = s.now := rfl
@[simp] theorem State.wwt_with_draws (s : State) (v : Nat) : ({ s with draws := v } : State).wwt = s.wwt := rfl
@[simp] theorem State.draws_with_draws (s : State) (v : Nat) : ({ s with draws := v } : State).draws = v := rfl
@[simp] theorem State.regs_with_draws (s : State) (v : Nat) : ({ s with draws := v } : State).regs = s.regs := rfl
@[simp] theorem State.prev_with_draws (s : State) (v : Nat) : ({ s with draws := v } : State).prev = s.prev := rfl
@[simp] theorem State.dieEn_with_draws (s : State) (v : Nat) : ({ s with draws := v } : State).dieEn = s.dieEn := rfl
@[simp] theorem State.mem_with_draws (s : State) (v : Nat) : ({ s with draws := v } : State).mem = s.mem := rfl
@[simp] theorem State.out_with_draws (s : State) (v : Nat) : ({ s with draws := v } : State).out = s.out := rfl
@[simp] theorem State.wlSet_with_draws (s : State) (v : Nat) : ({ s with draws := v } : State).wlSet = s.wlSet := rfl
@[simp] theorem State.rep_with_draws (s : State) (v : Nat) : ({ s with draws := v } : State).rep = s.rep := rfl
@[simp] theorem State.hosts_with_draws (s : State) (v : Nat) : ({ s with draws := v } : State).hosts = s.hosts := rfl
@[simp] theorem State.dies_with_draws (s : State) (v : Nat) : ({ s with draws := v } : State).dies = s.dies := rfl
@[simp] theorem State.cvs_with_draws (s : State) (v : Nat) : ({ s with draws := v } : State).cvs = s.cvs := rfl
@[simp] theorem State.lock_with_draws (s : State) (v : Nat) : ({ s with draws := v } : State).lock = s.lock := rfl
@[simp] theorem State.banks_with_draws (s : State) (v : Nat) : ({ s with draws := v } : State).banks = s.banks := rfl
@[simp] theorem State.sup_with_draws (s : State) (v : Nat) : ({ s with draws := v } : State).sup = s.sup := rfl
@[simp] theorem State.chans_with_draws (s : State) (v : Nat) : ({ s with draws := v } : State).chans = s.chans := rfl
@[simp] theorem State.uvs_with_draws (s : State) (v : Nat) : ({ s with draws := v } : State).uvs = s.uvs := rfl
@[simp] theorem State.valves_with_draws (s : State) (v : Nat) : ({ s with draws := v } : State).valves = s.valves := rfl
@[simp] theorem State.motors_with_draws (s : State) (v : Nat) : ({ s with draws := v } : State).motors = s.motors := rfl
@[simp] theorem State.bridges_with_draws (s : State) (v : Nat) : ({ s with draws := v } : State).bridges = s.bridges := rfl
@[simp] theorem State.elems_with_draws (s : State) (v : Nat) : ({ s with draws := v } : State).elems = s.elems := rfl
@[simp] theorem State.sources_with_draws (s : State) (v : Nat) : ({ s with draws := v } : State).sources = s.sources := rfl
@[simp] theorem State.trellis_with_draws (s : State) (v : Nat) : ({ s with draws := v } : State).trellis = s.trellis := rfl
@[simp] theorem State.inputs_with_draws (s : State) (v : Nat) : ({ s with draws := v } : State).inputs = s.inputs := rfl
@[simp] theorem State.fieldOuts_with_draws (s : State) (v : Nat) : ({ s with draws := v } : State).fieldOuts = s.fieldOuts := rfl
@[simp] theorem State.fieldBank_with_draws (s : State) (v : Nat) : ({ s with draws := v } : State).fieldBank = s.fieldBank := rfl
@[simp] theorem State.bus_with_draws (s : State) (v : Nat) : ({ s with draws := v } : State).bus = s.bus := rfl
@[simp] theorem State.aq_with_draws (s : State) (v : Nat) : ({ s with draws := v } : State).aq = s.aq := rfl
@[simp] theorem State.kp_with_draws (s : State) (v : Nat) : ({ s with draws := v } : State).kp = s.kp := rfl
@[simp] theorem State.meas_with_draws (s : State) (v : Nat) : ({ s with draws := v } : State).meas = s.meas := rfl
@[simp] theorem State.start_with_draws (s : State) (v : Nat) : ({ s with draws := v } : State).start = s.start := rfl
@[simp] theorem State.cus_with_draws (s : State) (v : Nat) : ({ s with draws := v } : State).cus = s.cus := rfl
@[simp] theorem State.scrub_with_draws (s : State) (v : Nat) : ({ s with draws := v } : State).scrub = s.scrub := rfl
@[simp] theorem State.pow_with_draws (s : State) (v : Nat) : ({ s with draws := v } : State).pow = s.pow := rfl
@[simp] theorem State.net_with_draws (s : State) (v : Nat) : ({ s with draws := v } : State).net = s.net := rfl
@[simp] theorem State.gate_with_draws (s : State) (v : Nat) : ({ s with draws := v } : State).gate = s.gate := rfl
@[simp] theorem State.upd_with_draws (s : State) (v : Nat) : ({ s with draws := v } : State).upd = s.upd := rfl
@[simp] theorem State.pending_with_regs (s : State) (v : Tab Word) : ({ s with regs := v } : State).pending = s.pending := rfl
@[simp] theorem State.now_with_regs (s : State) (v : Tab Word) : ({ s with regs := v } : State).now = s.now := rfl
@[simp] theorem State.wwt_with_regs (s : State) (v : Tab Word) : ({ s with regs := v } : State).wwt = s.wwt := rfl
@[simp] theorem State.draws_with_regs (s : State) (v : Tab Word) : ({ s with regs := v } : State).draws = s.draws := rfl
@[simp] theorem State.regs_with_regs (s : State) (v : Tab Word) : ({ s with regs := v } : State).regs = v := rfl
@[simp] theorem State.prev_with_regs (s : State) (v : Tab Word) : ({ s with regs := v } : State).prev = s.prev := rfl
@[simp] theorem State.dieEn_with_regs (s : State) (v : Tab Word) : ({ s with regs := v } : State).dieEn = s.dieEn := rfl
@[simp] theorem State.mem_with_regs (s : State) (v : Tab Word) : ({ s with regs := v } : State).mem = s.mem := rfl
@[simp] theorem State.out_with_regs (s : State) (v : Tab Word) : ({ s with regs := v } : State).out = s.out := rfl
@[simp] theorem State.wlSet_with_regs (s : State) (v : Tab Word) : ({ s with regs := v } : State).wlSet = s.wlSet := rfl
@[simp] theorem State.rep_with_regs (s : State) (v : Tab Word) : ({ s with regs := v } : State).rep = s.rep := rfl
@[simp] theorem State.hosts_with_regs (s : State) (v : Tab Word) : ({ s with regs := v } : State).hosts = s.hosts := rfl
@[simp] theorem State.dies_with_regs (s : State) (v : Tab Word) : ({ s with regs := v } : State).dies = s.dies := rfl
@[simp] theorem State.cvs_with_regs (s : State) (v : Tab Word) : ({ s with regs := v } : State).cvs = s.cvs := rfl
@[simp] theorem State.lock_with_regs (s : State) (v : Tab Word) : ({ s with regs := v } : State).lock = s.lock := rfl
@[simp] theorem State.banks_with_regs (s : State) (v : Tab Word) : ({ s with regs := v } : State).banks = s.banks := rfl
@[simp] theorem State.sup_with_regs (s : State) (v : Tab Word) : ({ s with regs := v } : State).sup = s.sup := rfl
@[simp] theorem State.chans_with_regs (s : State) (v : Tab Word) : ({ s with regs := v } : State).chans = s.chans := rfl
@[simp] theorem State.uvs_with_regs (s : State) (v : Tab Word) : ({ s with regs := v } : State).uvs = s.uvs := rfl
@[simp] theorem State.valves_with_regs (s : State) (v : Tab Word) : ({ s with regs := v } : State).valves = s.valves := rfl
@[simp] theorem State.motors_with_regs (s : State) (v : Tab Word) : ({ s with regs := v } : State).motors = s.motors := rfl
@[simp] theorem State.bridges_with_regs (s : State) (v : Tab Word) : ({ s with regs := v } : State).bridges = s.bridges := rfl
@[simp] theorem State.elems_with_regs (s : State) (v : Tab Word) : ({ s with regs := v } : State).elems = s.elems := rfl
@[simp] theorem State.sources_with_regs (s : State) (v : Tab Word) : ({ s with regs := v } : State).sources = s.sources := rfl
@[simp] theorem State.trellis_with_regs (s : State) (v : Tab Word) : ({ s with regs := v } : State).trellis = s.trellis := rfl
@[simp] theorem State.inputs_with_regs (s : State) (v : Tab Word) : ({ s with regs := v } : State).inputs = s.inputs := rfl
@[simp] theorem State.fieldOuts_with_regs (s : State) (v : Tab Word) : ({ s with regs := v } : State).fieldOuts = s.fieldOuts := rfl
@[simp] theorem State.fieldBank_with_regs (s : State) (v : Tab Word) : ({ s with regs := v } : State).fieldBank = s.fieldBank := rfl
@[simp] theorem State.bus_with_regs (s : State) (v : Tab Word) : ({ s with regs := v } : State).bus = s.bus := rfl
@[simp] theorem State.aq_with_regs (s : State) (v : Tab Word) : ({ s with regs := v } : State).aq = s.aq := rfl
@[simp] theorem State.kp_with_regs (s : State) (v : Tab Word) : ({ s with regs := v } : State).kp = s.kp := rfl
@[simp] theorem State.meas_with_regs (s : State) (v : Tab Word) : ({ s with regs := v } : State).meas = s.meas := rfl
@[simp] theorem State.start_with_regs (s : State) (v : Tab Word) : ({ s with regs := v } : State).start = s.start := rfl
@[simp] theorem State.cus_with_regs (s : State) (v : Tab Word) : ({ s with regs := v } : State).cus = s.cus := rfl
@[simp] theorem State.scrub_with_regs (s : State) (v : Tab Word) : ({ s with regs := v } : State).scrub = s.scrub := rfl
@[simp] theorem State.pow_with_regs (s : State) (v : Tab Word) : ({ s with regs := v } : State).pow = s.pow := rfl
@[simp] theorem State.net_with_regs (s : State) (v : Tab Word) : ({ s with regs := v } : State).net = s.net := rfl
@[simp] theorem State.gate_with_regs (s : State) (v : Tab Word) : ({ s with regs := v } : State).gate = s.gate := rfl
@[simp] theorem State.upd_with_regs (s : State) (v : Tab Word) : ({ s with regs := v } : State).upd = s.upd := rfl
@[simp] theorem State.pending_with_prev (s : State) (v : Tab Word) : ({ s with prev := v } : State).pending = s.pending := rfl
@[simp] theorem State.now_with_prev (s : State) (v : Tab Word) : ({ s with prev := v } : State).now = s.now := rfl
@[simp] theorem State.wwt_with_prev (s : State) (v : Tab Word) : ({ s with prev := v } : State).wwt = s.wwt := rfl
@[simp] theorem State.draws_with_prev (s : State) (v : Tab Word) : ({ s with prev := v } : State).draws = s.draws := rfl
@[simp] theorem State.regs_with_prev (s : State) (v : Tab Word) : ({ s with prev := v } : State).regs = s.regs := rfl
@[simp] theorem State.prev_with_prev (s : State) (v : Tab Word) : ({ s with prev := v } : State).prev = v := rfl
@[simp] theorem State.dieEn_with_prev (s : State) (v : Tab Word) : ({ s with prev := v } : State).dieEn = s.dieEn := rfl
@[simp] theorem State.mem_with_prev (s : State) (v : Tab Word) : ({ s with prev := v } : State).mem = s.mem := rfl
@[simp] theorem State.out_with_prev (s : State) (v : Tab Word) : ({ s with prev := v } : State).out = s.out := rfl
@[simp] theorem State.wlSet_with_prev (s : State) (v : Tab Word) : ({ s with prev := v } : State).wlSet = s.wlSet := rfl
@[simp] theorem State.rep_with_prev (s : State) (v : Tab Word) : ({ s with prev := v } : State).rep = s.rep := rfl
@[simp] theorem State.hosts_with_prev (s : State) (v : Tab Word) : ({ s with prev := v } : State).hosts = s.hosts := rfl
@[simp] theorem State.dies_with_prev (s : State) (v : Tab Word) : ({ s with prev := v } : State).dies = s.dies := rfl
@[simp] theorem State.cvs_with_prev (s : State) (v : Tab Word) : ({ s with prev := v } : State).cvs = s.cvs := rfl
@[simp] theorem State.lock_with_prev (s : State) (v : Tab Word) : ({ s with prev := v } : State).lock = s.lock := rfl
@[simp] theorem State.banks_with_prev (s : State) (v : Tab Word) : ({ s with prev := v } : State).banks = s.banks := rfl
@[simp] theorem State.sup_with_prev (s : State) (v : Tab Word) : ({ s with prev := v } : State).sup = s.sup := rfl
@[simp] theorem State.chans_with_prev (s : State) (v : Tab Word) : ({ s with prev := v } : State).chans = s.chans := rfl
@[simp] theorem State.uvs_with_prev (s : State) (v : Tab Word) : ({ s with prev := v } : State).uvs = s.uvs := rfl
@[simp] theorem State.valves_with_prev (s : State) (v : Tab Word) : ({ s with prev := v } : State).valves = s.valves := rfl
@[simp] theorem State.motors_with_prev (s : State) (v : Tab Word) : ({ s with prev := v } : State).motors = s.motors := rfl
@[simp] theorem State.bridges_with_prev (s : State) (v : Tab Word) : ({ s with prev := v } : State).bridges = s.bridges := rfl
@[simp] theorem State.elems_with_prev (s : State) (v : Tab Word) : ({ s with prev := v } : State).elems = s.elems := rfl
@[simp] theorem State.sources_with_prev (s : State) (v : Tab Word) : ({ s with prev := v } : State).sources = s.sources := rfl
@[simp] theorem State.trellis_with_prev (s : State) (v : Tab Word) : ({ s with prev := v } : State).trellis = s.trellis := rfl
@[simp] theorem State.inputs_with_prev (s : State) (v : Tab Word) : ({ s with prev := v } : State).inputs = s.inputs := rfl
@[simp] theorem State.fieldOuts_with_prev (s : State) (v : Tab Word) : ({ s with prev := v } : State).fieldOuts = s.fieldOuts := rfl
@[simp] theorem State.fieldBank_with_prev (s : State) (v : Tab Word) : ({ s with prev := v } : State).fieldBank = s.fieldBank := rfl
@[simp] theorem State.bus_with_prev (s : State) (v : Tab Word) : ({ s with prev := v } : State).bus = s.bus := rfl
@[simp] theorem State.aq_with_prev (s : State) (v : Tab Word) : ({ s with prev := v } : State).aq = s.aq := rfl
@[simp] theorem State.kp_with_prev (s : State) (v : Tab Word) : ({ s with prev := v } : State).kp = s.kp := rfl
@[simp] theorem State.meas_with_prev (s : State) (v : Tab Word) : ({ s with prev := v } : State).meas = s.meas := rfl
@[simp] theorem State.start_with_prev (s : State) (v : Tab Word) : ({ s with prev := v } : State).start = s.start := rfl
@[simp] theorem State.cus_with_prev (s : State) (v : Tab Word) : ({ s with prev := v } : State).cus = s.cus := rfl
@[simp] theorem State.scrub_with_prev (s : State) (v : Tab Word) : ({ s with prev := v } : State).scrub = s.scrub := rfl
@[simp] theorem State.pow_with_prev (s : State) (v : Tab Word) : ({ s with prev := v } : State).pow = s.pow := rfl
@[simp] theorem State.net_with_prev (s : State) (v : Tab Word) : ({ s with prev := v } : State).net = s.net := rfl
@[simp] theorem State.gate_with_prev (s : State) (v : Tab Word) : ({ s with prev := v } : State).gate = s.gate := rfl
@[simp] theorem State.upd_with_prev (s : State) (v : Tab Word) : ({ s with prev := v } : State).upd = s.upd := rfl
@[simp] theorem State.pending_with_dieEn (s : State) (v : Nat) : ({ s with dieEn := v } : State).pending = s.pending := rfl
@[simp] theorem State.now_with_dieEn (s : State) (v : Nat) : ({ s with dieEn := v } : State).now = s.now := rfl
@[simp] theorem State.wwt_with_dieEn (s : State) (v : Nat) : ({ s with dieEn := v } : State).wwt = s.wwt := rfl
@[simp] theorem State.draws_with_dieEn (s : State) (v : Nat) : ({ s with dieEn := v } : State).draws = s.draws := rfl
@[simp] theorem State.regs_with_dieEn (s : State) (v : Nat) : ({ s with dieEn := v } : State).regs = s.regs := rfl
@[simp] theorem State.prev_with_dieEn (s : State) (v : Nat) : ({ s with dieEn := v } : State).prev = s.prev := rfl
@[simp] theorem State.dieEn_with_dieEn (s : State) (v : Nat) : ({ s with dieEn := v } : State).dieEn = v := rfl
@[simp] theorem State.mem_with_dieEn (s : State) (v : Nat) : ({ s with dieEn := v } : State).mem = s.mem := rfl
@[simp] theorem State.out_with_dieEn (s : State) (v : Nat) : ({ s with dieEn := v } : State).out = s.out := rfl
@[simp] theorem State.wlSet_with_dieEn (s : State) (v : Nat) : ({ s with dieEn := v } : State).wlSet = s.wlSet := rfl
@[simp] theorem State.rep_with_dieEn (s : State) (v : Nat) : ({ s with dieEn := v } : State).rep = s.rep := rfl
@[simp] theorem State.hosts_with_dieEn (s : State) (v : Nat) : ({ s with dieEn := v } : State).hosts = s.hosts := rfl
@[simp] theorem State.dies_with_dieEn (s : State) (v : Nat) : ({ s with dieEn := v } : State).dies = s.dies := rfl
@[simp] theorem State.cvs_with_dieEn (s : State) (v : Nat) : ({ s with dieEn := v } : State).cvs = s.cvs := rfl
@[simp] theorem State.lock_with_dieEn (s : State) (v : Nat) : ({ s with dieEn := v } : State).lock = s.lock := rfl
@[simp] theorem State.banks_with_dieEn (s : State) (v : Nat) : ({ s with dieEn := v } : State).banks = s.banks := rfl
@[simp] theorem State.sup_with_dieEn (s : State) (v : Nat) : ({ s with dieEn := v } : State).sup = s.sup := rfl
@[simp] theorem State.chans_with_dieEn (s : State) (v : Nat) : ({ s with dieEn := v } : State).chans = s.chans := rfl
@[simp] theorem State.uvs_with_dieEn (s : State) (v : Nat) : ({ s with dieEn := v } : State).uvs = s.uvs := rfl
@[simp] theorem State.valves_with_dieEn (s : State) (v : Nat) : ({ s with dieEn := v } : State).valves = s.valves := rfl
@[simp] theorem State.motors_with_dieEn (s : State) (v : Nat) : ({ s with dieEn := v } : State).motors = s.motors := rfl
@[simp] theorem State.bridges_with_dieEn (s : State) (v : Nat) : ({ s with dieEn := v } : State).bridges = s.bridges := rfl
@[simp] theorem State.elems_with_dieEn (s : State) (v : Nat) : ({ s with dieEn := v } : State).elems = s.elems := rfl
@[simp] theorem State.sources_with_dieEn (s : State) (v : Nat) : ({ s with dieEn := v } : State).sources = s.sources := rfl
@[simp] theorem State.trellis_with_dieEn (s : State) (v : Nat) : ({ s with dieEn := v } : State).trellis = s.trellis := rfl
@[simp] theorem State.inputs_with_dieEn (s : State) (v : Nat) : ({ s with dieEn := v } : State).inputs = s.inputs := rfl
@[simp] theorem State.fieldOuts_with_dieEn (s : State) (v : Nat) : ({ s with dieEn := v } : State).fieldOuts = s.fieldOuts := rfl
@[simp] theorem State.fieldBank_with_dieEn (s : State) (v : Nat) : ({ s with dieEn := v } : State).fieldBank = s.fieldBank := rfl
@[simp] theorem State.bus_with_dieEn (s : State) (v : Nat) : ({ s with dieEn := v } : State).bus = s.bus := rfl
@[simp] theorem State.aq_with_dieEn (s : State) (v : Nat) : ({ s with dieEn := v } : State).aq = s.aq := rfl
@[simp] theorem State.kp_with_dieEn (s : State) (v : Nat) : ({ s with dieEn := v } : State).kp = s.kp := rfl
@[simp] theorem State.meas_with_dieEn (s : State) (v : Nat) : ({ s with dieEn := v } : State).meas = s.meas := rfl
@[simp] theorem State.start_with_dieEn (s : State) (v : Nat) : ({ s with dieEn := v } : State).start = s.start := rfl
@[simp] theorem State.cus_with_dieEn (s : State) (v : Nat) : ({ s with dieEn := v } : State).cus = s.cus := rfl
@[simp] theorem State.scrub_with_dieEn (s : State) (v : Nat) : ({ s with dieEn := v } : State).scrub = s.scrub := rfl
@[simp] theorem State.pow_with_dieEn (s : State) (v : Nat) : ({ s with dieEn := v } : State).pow = s.pow := rfl
@[simp] theorem State.net_with_dieEn (s : State) (v : Nat) : ({ s with dieEn := v } : State).net = s.net := rfl
@[simp] theorem State.gate_with_dieEn (s : State) (v : Nat) : ({ s with dieEn := v } : State).gate = s.gate := rfl
@[simp] theorem State.upd_with_dieEn (s : State) (v : Nat) : ({ s with dieEn := v } : State).upd = s.upd := rfl
@[simp] theorem State.pending_with_mem (s : State) (v : List Host.Cell) : ({ s with mem := v } : State).pending = s.pending := rfl
@[simp] theorem State.now_with_mem (s : State) (v : List Host.Cell) : ({ s with mem := v } : State).now = s.now := rfl
@[simp] theorem State.wwt_with_mem (s : State) (v : List Host.Cell) : ({ s with mem := v } : State).wwt = s.wwt := rfl
@[simp] theorem State.draws_with_mem (s : State) (v : List Host.Cell) : ({ s with mem := v } : State).draws = s.draws := rfl
@[simp] theorem State.regs_with_mem (s : State) (v : List Host.Cell) : ({ s with mem := v } : State).regs = s.regs := rfl
@[simp] theorem State.prev_with_mem (s : State) (v : List Host.Cell) : ({ s with mem := v } : State).prev = s.prev := rfl
@[simp] theorem State.dieEn_with_mem (s : State) (v : List Host.Cell) : ({ s with mem := v } : State).dieEn = s.dieEn := rfl
@[simp] theorem State.mem_with_mem (s : State) (v : List Host.Cell) : ({ s with mem := v } : State).mem = v := rfl
@[simp] theorem State.out_with_mem (s : State) (v : List Host.Cell) : ({ s with mem := v } : State).out = s.out := rfl
@[simp] theorem State.wlSet_with_mem (s : State) (v : List Host.Cell) : ({ s with mem := v } : State).wlSet = s.wlSet := rfl
@[simp] theorem State.rep_with_mem (s : State) (v : List Host.Cell) : ({ s with mem := v } : State).rep = s.rep := rfl
@[simp] theorem State.hosts_with_mem (s : State) (v : List Host.Cell) : ({ s with mem := v } : State).hosts = s.hosts := rfl
@[simp] theorem State.dies_with_mem (s : State) (v : List Host.Cell) : ({ s with mem := v } : State).dies = s.dies := rfl
@[simp] theorem State.cvs_with_mem (s : State) (v : List Host.Cell) : ({ s with mem := v } : State).cvs = s.cvs := rfl
@[simp] theorem State.lock_with_mem (s : State) (v : List Host.Cell) : ({ s with mem := v } : State).lock = s.lock := rfl
@[simp] theorem State.banks_with_mem (s : State) (v : List Host.Cell) : ({ s with mem := v } : State).banks = s.banks := rfl
@[simp] theorem State.sup_with_mem (s : State) (v : List Host.Cell) : ({ s with mem := v } : State).sup = s.sup := rfl
@[simp] theorem State.chans_with_mem (s : State) (v : List Host.Cell) : ({ s with mem := v } : State).chans = s.chans := rfl
@[simp] theorem State.uvs_with_mem (s : State) (v : List Host.Cell) : ({ s with mem := v } : State).uvs = s.uvs := rfl
@[simp] theorem State.valves_with_mem (s : State) (v : List Host.Cell) : ({ s with mem := v } : State).valves = s.valves := rfl
@[simp] theorem State.motors_with_mem (s : State) (v : List Host.Cell) : ({ s with mem := v } : State).motors = s.motors := rfl
@[simp] theorem State.bridges_with_mem (s : State) (v : List Host.Cell) : ({ s with mem := v } : State).bridges = s.bridges := rfl
@[simp] theorem State.elems_with_mem (s : State) (v : List Host.Cell) : ({ s with mem := v } : State).elems = s.elems := rfl
@[simp] theorem State.sources_with_mem (s : State) (v : List Host.Cell) : ({ s with mem := v } : State).sources = s.sources := rfl
@[simp] theorem State.trellis_with_mem (s : State) (v : List Host.Cell) : ({ s with mem := v } : State).trellis = s.trellis := rfl
@[simp] theorem State.inputs_with_mem (s : State) (v : List Host.Cell) : ({ s with mem := v } : State).inputs = s.inputs := rfl
@[simp] theorem State.fieldOuts_with_mem (s : State) (v : List Host.Cell) : ({ s with mem := v } : State).fieldOuts = s.fieldOuts := rfl
@[simp] theorem State.fieldBank_with_mem (s : State) (v : List Host.Cell) : ({ s with mem := v } : State).fieldBank = s.fieldBank := rfl
@[simp] theorem State.bus_with_mem (s : State) (v : List Host.Cell) : ({ s with mem := v } : State).bus = s.bus := rfl
@[simp] theorem State.aq_with_mem (s : State) (v : List Host.Cell) : ({ s with mem := v } : State).aq = s.aq := rfl
@[simp] theorem State.kp_with_mem (s : State) (v : List Host.Cell) : ({ s with mem := v } : State).kp = s.kp := rfl
@[simp] theorem State.meas_with_mem (s : State) (v : List Host.Cell) : ({ s with mem := v } : State).meas = s.meas := rfl
@[simp] theorem State.start_with_mem (s : State) (v : List Host.Cell) : ({ s with mem := v } : State).start = s.start := rfl
@[simp] theorem State.cus_with_mem (s : State) (v : List Host.Cell) : ({ s with mem := v } : State).cus = s.cus := rfl
@[simp] theorem State.scrub_with_mem (s : State) (v : List Host.Cell) : ({ s with mem := v } : State).scrub = s.scrub := rfl
@[simp] theorem State.pow_with_mem (s : State) (v : List Host.Cell) : ({ s with mem := v } : State).pow = s.pow := rfl
@[simp] theorem State.net_with_mem (s : State) (v : List Host.Cell) : ({ s with mem := v } : State).net = s.net := rfl
@[simp] theorem State.gate_with_mem (s : State) (v : List Host.Cell) : ({ s with mem := v } : State).gate = s.gate := rfl
@[simp] theorem State.upd_with_mem (s : State) (v : List Host.Cell) : ({ s with mem := v } : State).upd = s.upd := rfl
@[simp] theorem State.pending_with_out (s : State) (v : List Out) : ({ s with out := v } : State).pending = s.pending := rfl
@[simp] theorem State.now_with_out (s : State) (v : List Out) : ({ s with out := v } : State).now = s.now := rfl
@[simp] theorem State.wwt_with_out (s : State) (v : List Out) : ({ s with out := v } : State).wwt = s.wwt := rfl
@[simp] theorem State.draws_with_out (s : State) (v : List Out) : ({ s with out := v } : State).draws = s.draws := rfl
@[simp] theorem State.regs_with_out (s : State) (v : List Out) : ({ s with out := v } : State).regs = s.regs := rfl
@[simp] theorem State.prev_with_out (s : State) (v : List Out) : ({ s with out := v } : State).prev = s.prev := rfl
@[simp] theorem State.dieEn_with_out (s : State) (v : List Out) : ({ s with out := v } : State).dieEn = s.dieEn := rfl
@[simp] theorem State.mem_with_out (s : State) (v : List Out) : ({ s with out := v } : State).mem = s.mem := rfl
@[simp] theorem State.out_with_out (s : State) (v : List Out) : ({ s with out := v } : State).out = v := rfl
@[simp] theorem State.wlSet_with_out (s : State) (v : List Out) : ({ s with out := v } : State).wlSet = s.wlSet := rfl
@[simp] theorem State.rep_with_out (s : State) (v : List Out) : ({ s with out := v } : State).rep = s.rep := rfl
@[simp] theorem State.hosts_with_out (s : State) (v : List Out) : ({ s with out := v } : State).hosts = s.hosts := rfl
@[simp] theorem State.dies_with_out (s : State) (v : List Out) : ({ s with out := v } : State).dies = s.dies := rfl
@[simp] theorem State.cvs_with_out (s : State) (v : List Out) : ({ s with out := v } : State).cvs = s.cvs := rfl
@[simp] theorem State.lock_with_out (s : State) (v : List Out) : ({ s with out := v } : State).lock = s.lock := rfl
@[simp] theorem State.banks_with_out (s : State) (v : List Out) : ({ s with out := v } : State).banks = s.banks := rfl
@[simp] theorem State.sup_with_out (s : State) (v : List Out) : ({ s with out := v } : State).sup = s.sup := rfl
@[simp] theorem State.chans_with_out (s : State) (v : List Out) : ({ s with out := v } : State).chans = s.chans := rfl
@[simp] theorem State.uvs_with_out (s : State) (v : List Out) : ({ s with out := v } : State).uvs = s.uvs := rfl
@[simp] theorem State.valves_with_out (s : State) (v : List Out) : ({ s with out := v } : State).valves = s.valves := rfl
@[simp] theorem State.motors_with_out (s : State) (v : List Out) : ({ s with out := v } : State).motors = s.motors := rfl
@[simp] theorem State.bridges_with_out (s : State) (v : List Out) : ({ s with out := v } : State).bridges = s.bridges := rfl
@[simp] theorem State.elems_with_out (s : State) (v : List Out) : ({ s with out := v } : State).elems = s.elems := rfl
@[simp] theorem State.sources_with_out (s : State) (v : List Out) : ({ s with out := v } : State).sources = s.sources := rfl
@[simp] theorem State.trellis_with_out (s : State) (v : List Out) : ({ s with out := v } : State).trellis = s.trellis := rfl
@[simp] theorem State.inputs_with_out (s : State) (v : List Out) : ({ s with out := v } : State).inputs = s.inputs := rfl
@[simp] theorem State.fieldOuts_with_out (s : State) (v : List Out) : ({ s with out := v } : State).fieldOuts = s.fieldOuts := rfl
@[simp] theorem State.fieldBank_with_out (s : State) (v : List Out) : ({ s with out := v } : State).fieldBank = s.fieldBank := rfl
@[simp] theorem State.bus_with_out (s : State) (v : List Out) : ({ s with out := v } : State).bus = s.bus := rfl
@[simp] theorem State.aq_with_out (s : State) (v : List Out) : ({ s with out := v } : State).aq = s.aq := rfl
@[simp] theorem State.kp_with_out (s : State) (v : List Out) : ({ s with out := v } : State).kp = s.kp := rfl
@[simp] theorem State.meas_with_out (s : State) (v : List Out) : ({ s with out := v } : State).meas = s.meas := rfl
@[simp] theorem State.start_with_out (s : State) (v : List Out) : ({ s with out := v } : State).start = s.start := rfl
@[simp] theorem State.cus_with_out (s : State) (v : List Out) : ({ s with out := v } : State).cus = s.cus := rfl
@[simp] theorem State.scrub_with_out (s : State) (v : List Out) : ({ s with out := v } : State).scrub = s.scrub := rfl
@[simp] theorem State.pow_with_out (s : State) (v : List Out) : ({ s with out := v } : State).pow = s.pow := rfl
@[simp] theorem State.net_with_out (s : State) (v : List Out) : ({ s with out := v } : State).net = s.net := rfl
@[simp] theorem State.gate_with_out (s : State) (v : List Out) : ({ s with out := v } : State).gate = s.gate := rfl
@[simp] theorem State.upd_with_out (s : State) (v : List Out) : ({ s with out := v } : State).upd = s.upd := rfl
@[simp] theorem State.pending_with_wlSet (s : State) (v : Tab Bool) : ({ s with wlSet := v } : State).pending = s.pending := rfl
@[simp] theorem State.now_with_wlSet (s : State) (v : Tab Bool) : ({ s with wlSet := v } : State).now = s.now := rfl
@[simp] theorem State.wwt_with_wlSet (s : State) (v : Tab Bool) : ({ s with wlSet := v } : State).wwt = s.wwt := rfl
@[simp] theorem State.draws_with_wlSet (s : State) (v : Tab Bool) : ({ s with wlSet := v } : State).draws = s.draws := rfl
@[simp] theorem State.regs_with_wlSet (s : State) (v : Tab Bool) : ({ s with wlSet := v } : State).regs = s.regs := rfl
@[simp] theorem State.prev_with_wlSet (s : State) (v : Tab Bool) : ({ s with wlSet := v } : State).prev = s.prev := rfl
@[simp] theorem State.dieEn_with_wlSet (s : State) (v : Tab Bool) : ({ s with wlSet := v } : State).dieEn = s.dieEn := rfl
@[simp] theorem State.mem_with_wlSet (s : State) (v : Tab Bool) : ({ s with wlSet := v } : State).mem = s.mem := rfl
@[simp] theorem State.out_with_wlSet (s : State) (v : Tab Bool) : ({ s with wlSet := v } : State).out = s.out := rfl
@[simp] theorem State.wlSet_with_wlSet (s : State) (v : Tab Bool) : ({ s with wlSet := v } : State).wlSet = v := rfl
@[simp] theorem State.rep_with_wlSet (s : State) (v : Tab Bool) : ({ s with wlSet := v } : State).rep = s.rep := rfl
@[simp] theorem State.hosts_with_wlSet (s : State) (v : Tab Bool) : ({ s with wlSet := v } : State).hosts = s.hosts := rfl
@[simp] theorem State.dies_with_wlSet (s : State) (v : Tab Bool) : ({ s with wlSet := v } : State).dies = s.dies := rfl
@[simp] theorem State.cvs_with_wlSet (s : State) (v : Tab Bool) : ({ s with wlSet := v } : State).cvs = s.cvs := rfl
@[simp] theorem State.lock_with_wlSet (s : State) (v : Tab Bool) : ({ s with wlSet := v } : State).lock = s.lock := rfl
@[simp] theorem State.banks_with_wlSet (s : State) (v : Tab Bool) : ({ s with wlSet := v } : State).banks = s.banks := rfl
@[simp] theorem State.sup_with_wlSet (s : State) (v : Tab Bool) : ({ s with wlSet := v } : State).sup = s.sup := rfl
@[simp] theorem State.chans_with_wlSet (s : State) (v : Tab Bool) : ({ s with wlSet := v } : State).chans = s.chans := rfl
@[simp] theorem State.uvs_with_wlSet (s : State) (v : Tab Bool) : ({ s with wlSet := v } : State).uvs = s.uvs := rfl
@[simp] theorem State.valves_with_wlSet (s : State) (v : Tab Bool) : ({ s with wlSet := v } : State).valves = s.valves := rfl
@[simp] theorem State.motors_with_wlSet (s : State) (v : Tab Bool) : ({ s with wlSet := v } : State).motors = s.motors := rfl
@[simp] theorem State.bridges_with_wlSet (s : State) (v : Tab Bool) : ({ s with wlSet := v } : State).bridges = s.bridges := rfl
@[simp] theorem State.elems_with_wlSet (s : State) (v : Tab Bool) : ({ s with wlSet := v } : State).elems = s.elems := rfl
@[simp] theorem State.sources_with_wlSet (s : State) (v : Tab Bool) : ({ s with wlSet := v } : State).sources = s.sources := rfl
@[simp] theorem State.trellis_with_wlSet (s : State) (v : Tab Bool) : ({ s with wlSet := v } : State).trellis = s.trellis := rfl
@[simp] theorem State.inputs_with_wlSet (s : State) (v : Tab Bool) : ({ s with wlSet := v } : State).inputs = s.inputs := rfl
@[simp] theorem State.fieldOuts_with_wlSet (s : State) (v : Tab Bool) : ({ s with wlSet := v } : State).fieldOuts = s.fieldOuts := rfl
@[simp] theorem State.fieldBank_with_wlSet (s : State) (v : Tab Bool) : ({ s with wlSet := v } : State).fieldBank = s.fieldBank := rfl
@[simp] theorem State.bus_with_wlSet (s : State) (v : Tab Bool) : ({ s with wlSet := v } : State).bus = s.bus := rfl
@[simp] theorem State.aq_with_wlSet (s : State) (v : Tab Bool) : ({ s with wlSet := v } : State).aq = s.aq := rfl
@[simp] theorem State.kp_with_wlSet (s : State) (v : Tab Bool) : ({ s with wlSet := v } : State).kp = s.kp := rfl
@[simp] theorem State.meas_with_wlSet (s : State) (v : Tab Bool) : ({ s with wlSet := v } : State).meas = s.meas := rfl
@[simp] theorem State.start_with_wlSet (s : State) (v : Tab Bool) : ({ s with wlSet := v } : State).start = s.start := rfl
@[simp] theorem State.cus_with_wlSet (s : State) (v : Tab Bool) : ({ s with wlSet := v } : State).cus = s.cus := rfl
@[simp] theorem State.scrub_with_wlSet (s : State) (v : Tab Bool) : ({ s with wlSet := v } : State).scrub = s.scrub := rfl
@[simp] theorem State.pow_with_wlSet (s : State) (v : Tab Bool) : ({ s with wlSet := v } : State).pow = s.pow := rfl
@[simp] theorem State.net_with_wlSet (s : State) (v : Tab Bool) : ({ s with wlSet := v } : State).net = s.net := rfl
@[simp] theorem State.gate_with_wlSet (s : State) (v : Tab Bool) : ({ s with wlSet := v } : State).gate = s.gate := rfl
@[simp] theorem State.upd_with_wlSet (s : State) (v : Tab Bool) : ({ s with wlSet := v } : State).upd = s.upd := rfl
@[simp] theorem State.pending_with_rep (s : State) (v : Report) : ({ s with rep := v } : State).pending = s.pending := rfl
@[simp] theorem State.now_with_rep (s : State) (v : Report) : ({ s with rep := v } : State).now = s.now := rfl
@[simp] theorem State.wwt_with_rep (s : State) (v : Report) : ({ s with rep := v } : State).wwt = s.wwt := rfl
@[simp] theorem State.draws_with_rep (s : State) (v : Report) : ({ s with rep := v } : State).draws = s.draws := rfl
@[simp] theorem State.regs_with_rep (s : State) (v : Report) : ({ s with rep := v } : State).regs = s.regs := rfl
@[simp] theorem State.prev_with_rep (s : State) (v : Report) : ({ s with rep := v } : State).prev = s.prev := rfl
@[simp] theorem State.dieEn_with_rep (s : State) (v : Report) : ({ s with rep := v } : State).dieEn = s.dieEn := rfl
@[simp] theorem State.mem_with_rep (s : State) (v : Report) : ({ s with rep := v } : State).mem = s.mem := rfl
@[simp] theorem State.out_with_rep (s : State) (v : Report) : ({ s with rep := v } : State).out = s.out := rfl
@[simp] theorem State.wlSet_with_rep (s : State) (v : Report) : ({ s with rep := v } : State).wlSet = s.wlSet := rfl
@[simp] theorem State.rep_with_rep (s : State) (v : Report) : ({ s with rep := v } : State).rep = v := rfl
@[simp] theorem State.hosts_with_rep (s : State) (v : Report) : ({ s with rep := v } : State).hosts = s.hosts := rfl
@[simp] theorem State.dies_with_rep (s : State) (v : Report) : ({ s with rep := v } : State).dies = s.dies := rfl
@[simp] theorem State.cvs_with_rep (s : State) (v : Report) : ({ s with rep := v } : State).cvs = s.cvs := rfl
@[simp] theorem State.lock_with_rep (s : State) (v : Report) : ({ s with rep := v } : State).lock = s.lock := rfl
@[simp] theorem State.banks_with_rep (s : State) (v : Report) : ({ s with rep := v } : State).banks = s.banks := rfl
@[simp] theorem State.sup_with_rep (s : State) (v : Report) : ({ s with rep := v } : State).sup = s.sup := rfl
@[simp] theorem State.chans_with_rep (s : State) (v : Report) : ({ s with rep := v } : State).chans = s.chans := rfl
@[simp] theorem State.uvs_with_rep (s : State) (v : Report) : ({ s with rep := v } : State).uvs = s.uvs := rfl
@[simp] theorem State.valves_with_rep (s : State) (v : Report) : ({ s with rep := v } : State).valves = s.valves := rfl
@[simp] theorem State.motors_with_rep (s : State) (v : Report) : ({ s with rep := v } : State).motors = s.motors := rfl
@[simp] theorem State.bridges_with_rep (s : State) (v : Report) : ({ s with rep := v } : State).bridges = s.bridges := rfl
@[simp] theorem State.elems_with_rep (s : State) (v : Report) : ({ s with rep := v } : State).elems = s.elems := rfl
@[simp] theorem State.sources_with_rep (s : State) (v : Report) : ({ s with rep := v } : State).sources = s.sources := rfl
@[simp] theorem State.trellis_with_rep (s : State) (v : Report) : ({ s with rep := v } : State).trellis = s.trellis := rfl
@[simp] theorem State.inputs_with_rep (s : State) (v : Report) : ({ s with rep := v } : State).inputs = s.inputs := rfl
@[simp] theorem State.fieldOuts_with_rep (s : State) (v : Report) : ({ s with rep := v } : State).fieldOuts = s.fieldOuts := rfl
@[simp] theorem State.fieldBank_with_rep (s : State) (v : Report) : ({ s with rep := v } : State).fieldBank = s.fieldBank := rfl
@[simp] theorem State.bus_with_rep (s : State) (v : Report) : ({ s with rep := v } : State).bus = s.bus := rfl
@[simp] theorem State.aq_with_rep (s : State) (v : Report) : ({ s with rep := v } : State).aq = s.aq := rfl
@[simp] theorem State.kp_with_rep (s : State) (v : Report) : ({ s with rep := v } : State).kp = s.kp := rfl
@[simp] theorem State.meas_with_rep (s : State) (v : Report) : ({ s with rep := v } : State).meas = s.meas := rfl
@[simp] theorem State.start_with_rep (s : State) (v : Report) : ({ s with rep := v } : State).start = s.start := rfl
@[simp] theorem State.cus_with_rep (s : State) (v : Report) : ({ s with rep := v } : State).cus = s.cus := rfl
@[simp] theorem State.scrub_with_rep (s : State) (v : Report) : ({ s with rep := v } : State).scrub = s.scrub := rfl
@[simp] theorem State.pow_with_rep (s : State) (v : Report) : ({ s with rep := v } : State).pow = s.pow := rfl
@[simp] theorem State.net_with_rep (s : State) (v : Report) : ({ s with rep := v } : State).net = s.net := rfl
@[simp] theorem State.gate_with_rep (s : State) (v : Report) : ({ s with rep := v } : State).gate = s.gate := rfl
@[simp] theorem State.upd_with_rep (s : State) (v : Report) : ({ s with rep := v } : State).upd = s.upd := rfl
@[simp] theorem State.pending_with_hosts (s : State) (v : Tab HostPath) : ({ s with hosts := v } : State).pending = s.pending := rfl
@[simp] theorem State.now_with_hosts (s : State) (v : Tab HostPath) : ({ s with hosts := v } : State).now = s.now := rfl
@[simp] theorem State.wwt_with_hosts (s : State) (v : Tab HostPath) : ({ s with hosts := v } : State).wwt = s.wwt := rfl
@[simp] theorem State.draws_with_hosts (s : State) (v : Tab HostPath) : ({ s with hosts := v } : State).draws = s.draws := rfl
@[simp] theorem State.regs_with_hosts (s : State) (v : Tab HostPath) : ({ s with hosts := v } : State).regs = s.regs := rfl
@[simp] theorem State.prev_with_hosts (s : State) (v : Tab HostPath) : ({ s with hosts := v } : State).prev = s.prev := rfl
@[simp] theorem State.dieEn_with_hosts (s : State) (v : Tab HostPath) : ({ s with hosts := v } : State).dieEn = s.dieEn := rfl
@[simp] theorem State.mem_with_hosts (s : State) (v : Tab HostPath) : ({ s with hosts := v } : State).mem = s.mem := rfl
@[simp] theorem State.out_with_hosts (s : State) (v : Tab HostPath) : ({ s with hosts := v } : State).out = s.out := rfl
@[simp] theorem State.wlSet_with_hosts (s : State) (v : Tab HostPath) : ({ s with hosts := v } : State).wlSet = s.wlSet := rfl
@[simp] theorem State.rep_with_hosts (s : State) (v : Tab HostPath) : ({ s with hosts := v } : State).rep = s.rep := rfl
@[simp] theorem State.hosts_with_hosts (s : State) (v : Tab HostPath) : ({ s with hosts := v } : State).hosts = v := rfl
@[simp] theorem State.dies_with_hosts (s : State) (v : Tab HostPath) : ({ s with hosts := v } : State).dies = s.dies := rfl
@[simp] theorem State.cvs_with_hosts (s : State) (v : Tab HostPath) : ({ s with hosts := v } : State).cvs = s.cvs := rfl
@[simp] theorem State.lock_with_hosts (s : State) (v : Tab HostPath) : ({ s with hosts := v } : State).lock = s.lock := rfl
@[simp] theorem State.banks_with_hosts (s : State) (v : Tab HostPath) : ({ s with hosts := v } : State).banks = s.banks := rfl
@[simp] theorem State.sup_with_hosts (s : State) (v : Tab HostPath) : ({ s with hosts := v } : State).sup = s.sup := rfl
@[simp] theorem State.chans_with_hosts (s : State) (v : Tab HostPath) : ({ s with hosts := v } : State).chans = s.chans := rfl
@[simp] theorem State.uvs_with_hosts (s : State) (v : Tab HostPath) : ({ s with hosts := v } : State).uvs = s.uvs := rfl
@[simp] theorem State.valves_with_hosts (s : State) (v : Tab HostPath) : ({ s with hosts := v } : State).valves = s.valves := rfl
@[simp] theorem State.motors_with_hosts (s : State) (v : Tab HostPath) : ({ s with hosts := v } : State).motors = s.motors := rfl
@[simp] theorem State.bridges_with_hosts (s : State) (v : Tab HostPath) : ({ s with hosts := v } : State).bridges = s.bridges := rfl
@[simp] theorem State.elems_with_hosts (s : State) (v : Tab HostPath) : ({ s with hosts := v } : State).elems = s.elems := rfl
@[simp] theorem State.sources_with_hosts (s : State) (v : Tab HostPath) : ({ s with hosts := v } : State).sources = s.sources := rfl
@[simp] theorem State.trellis_with_hosts (s : State) (v : Tab HostPath) : ({ s with hosts := v } : State).trellis = s.trellis := rfl
@[simp] theorem State.inputs_with_hosts (s : State) (v : Tab HostPath) : ({ s with hosts := v } : State).inputs = s.inputs := rfl
@[simp] theorem State.fieldOuts_with_hosts (s : State) (v : Tab HostPath) : ({ s with hosts := v } : State).fieldOuts = s.fieldOuts := rfl
@[simp] theorem State.fieldBank_with_hosts (s : State) (v : Tab HostPath) : ({ s with hosts := v } : State).fieldBank = s.fieldBank := rfl
@[simp] theorem State.bus_with_hosts (s : State) (v : Tab HostPath) : ({ s with hosts := v } : State).bus = s.bus := rfl
@[simp] theorem State.aq_with_hosts (s : State) (v : Tab HostPath) : ({ s with hosts := v } : State).aq = s.aq := rfl
@[simp] theorem State.kp_with_hosts (s : State) (v : Tab HostPath) : ({ s with hosts := v } : State).kp = s.kp := rfl
@[simp] theorem State.meas_with_hosts (s : State) (v : Tab HostPath) : ({ s with hosts := v } : State).meas = s.meas := rfl
@[simp] theorem State.start_with_hosts (s : State) (v : Tab HostPath) : ({ s with hosts := v } : State).start = s.start := rfl
@[simp] theorem State.cus_with_hosts (s : State) (v : Tab HostPath) : ({ s with hosts := v } : State).cus = s.cus := rfl
@[simp] theorem State.scrub_with_hosts (s : State) (v : Tab HostPath) : ({ s with hosts := v } : State).scrub = s.scrub := rfl
@[simp] theorem State.pow_with_hosts (s : State) (v : Tab HostPath) : ({ s with hosts := v } : State).pow = s.pow := rfl
@[simp] theorem State.net_with_hosts (s : State) (v : Tab HostPath) : ({ s with hosts := v } : State).net = s.net := rfl
@[simp] theorem State.gate_with_hosts (s : State) (v : Tab HostPath) : ({ s with hosts := v } : State).gate = s.gate := rfl
@[simp] theorem State.upd_with_hosts (s : State) (v : Tab HostPath) : ({ s with hosts := v } : State).upd = s.upd := rfl
@[simp] theorem State.pending_with_dies (s : State) (v : Tab Die) : ({ s with dies := v } : State).pending = s.pending := rfl
@[simp] theorem State.now_with_dies (s : State) (v : Tab Die) : ({ s with dies := v } : State).now = s.now := rfl
@[simp] theorem State.wwt_with_dies (s : State) (v : Tab Die) : ({ s with dies := v } : State).wwt = s.wwt := rfl
@[simp] theorem State.draws_with_dies (s : State) (v : Tab Die) : ({ s with dies := v } : State).draws = s.draws := rfl
@[simp] theorem State.regs_with_dies (s : State) (v : Tab Die) : ({ s with dies := v } : State).regs = s.regs := rfl
@[simp] theorem State.prev_with_dies (s : State) (v : Tab Die) : ({ s with dies := v } : State).prev = s.prev := rfl
@[simp] theorem State.dieEn_with_dies (s : State) (v : Tab Die) : ({ s with dies := v } : State).dieEn = s.dieEn := rfl
@[simp] theorem State.mem_with_dies (s : State) (v : Tab Die) : ({ s with dies := v } : State).mem = s.mem := rfl
@[simp] theorem State.out_with_dies (s : State) (v : Tab Die) : ({ s with dies := v } : State).out = s.out := rfl
@[simp] theorem State.wlSet_with_dies (s : State) (v : Tab Die) : ({ s with dies := v } : State).wlSet = s.wlSet := rfl
@[simp] theorem State.rep_with_dies (s : State) (v : Tab Die) : ({ s with dies := v } : State).rep = s.rep := rfl
@[simp] theorem State.hosts_with_dies (s : State) (v : Tab Die) : ({ s with dies := v } : State).hosts = s.hosts := rfl
@[simp] theorem State.dies_with_dies (s : State) (v : Tab Die) : ({ s with dies := v } : State).dies = v := rfl
@[simp] theorem State.cvs_with_dies (s : State) (v : Tab Die) : ({ s with dies := v } : State).cvs = s.cvs := rfl
@[simp] theorem State.lock_with_dies (s : State) (v : Tab Die) : ({ s with dies := v } : State).lock = s.lock := rfl
@[simp] theorem State.banks_with_dies (s : State) (v : Tab Die) : ({ s with dies := v } : State).banks = s.banks := rfl
@[simp] theorem State.sup_with_dies (s : State) (v : Tab Die) : ({ s with dies := v } : State).sup = s.sup := rfl
@[simp] theorem State.chans_with_dies (s : State) (v : Tab Die) : ({ s with dies := v } : State).chans = s.chans := rfl
@[simp] theorem State.uvs_with_dies (s : State) (v : Tab Die) : ({ s with dies := v } : State).uvs = s.uvs := rfl
@[simp] theorem State.valves_with_dies (s : State) (v : Tab Die) : ({ s with dies := v } : State).valves = s.valves := rfl
@[simp] theorem State.motors_with_dies (s : State) (v : Tab Die) : ({ s with dies := v } : State).motors = s.motors := rfl
@[simp] theorem State.bridges_with_dies (s : State) (v : Tab Die) : ({ s with dies := v } : State).bridges = s.bridges := rfl
@[simp] theorem State.elems_with_dies (s : State) (v : Tab Die) : ({ s with dies := v } : State).elems = s.elems := rfl
@[simp] theorem State.sources_with_dies (s : State) (v : Tab Die) : ({ s with dies := v } : State).sources = s.sources := rfl
@[simp] theorem State.trellis_with_dies (s : State) (v : Tab Die) : ({ s with dies := v } : State).trellis = s.trellis := rfl
@[simp] theorem State.inputs_with_dies (s : State) (v : Tab Die) : ({ s with dies := v } : State).inputs = s.inputs := rfl
@[simp] theorem State.fieldOuts_with_dies (s : State) (v : Tab Die) : ({ s with dies := v } : State).fieldOuts = s.fieldOuts := rfl
@[simp] theorem State.fieldBank_with_dies (s : State) (v : Tab Die) : ({ s with dies := v } : State).fieldBank = s.fieldBank := rfl
@[simp] theorem State.bus_with_dies (s : State) (v : Tab Die) : ({ s with dies := v } : State).bus = s.bus := rfl
@[simp] theorem State.aq_with_dies (s : State) (v : Tab Die) : ({ s with dies := v } : State).aq = s.aq := rfl
@[simp] theorem State.kp_with_dies (s : State) (v : Tab Die) : ({ s with dies := v } : State).kp = s.kp := rfl
@[simp] theorem State.meas_with_dies (s : State) (v : Tab Die) : ({ s with dies := v } : State).meas = s.meas := rfl
@[simp] theorem State.start_with_dies (s : State) (v : Tab Die) : ({ s with dies := v } : State).start = s.start := rfl
@[simp] theorem State.cus_with_dies (s : State) (v : Tab Die) : ({ s with dies := v } : State).cus = s.cus := rfl
@[simp] theorem State.scrub_with_dies (s : State) (v : Tab Die) : ({ s with dies := v } : State).scrub = s.scrub := rfl
@[simp] theorem State.pow_with_dies (s : State) (v : Tab Die) : ({ s with dies := v } : State).pow = s.pow := rfl
@[simp] theorem State.net_with_dies (s : State) (v : Tab Die) : ({ s with dies := v } : State).net = s.net := rfl
@[simp] theorem State.gate_with_dies (s : State) (v : Tab Die) : ({ s with dies := v } : State).gate = s.gate := rfl
@[simp] theorem State.upd_with_dies (s : State) (v : Tab Die) : ({ s with dies := v } : State).upd = s.upd := rfl
@[simp] theorem State.pending_with_cvs (s : State) (v : Tab Culvert) : ({ s with cvs := v } : State).pending = s.pending := rfl
@[simp] theorem State.now_with_cvs (s : State) (v : Tab Culvert) : ({ s with cvs := v } : State).now = s.now := rfl
@[simp] theorem State.wwt_with_cvs (s : State) (v : Tab Culvert) : ({ s with cvs := v } : State).wwt = s.wwt := rfl
@[simp] theorem State.draws_with_cvs (s : State) (v : Tab Culvert) : ({ s with cvs := v } : State).draws = s.draws := rfl
@[simp] theorem State.regs_with_cvs (s : State) (v : Tab Culvert) : ({ s with cvs := v } : State).regs = s.regs := rfl
@[simp] theorem State.prev_with_cvs (s : State) (v : Tab Culvert) : ({ s with cvs := v } : State).prev = s.prev := rfl
@[simp] theorem State.dieEn_with_cvs (s : State) (v : Tab Culvert) : ({ s with cvs := v } : State).dieEn = s.dieEn := rfl
@[simp] theorem State.mem_with_cvs (s : State) (v : Tab Culvert) : ({ s with cvs := v } : State).mem = s.mem := rfl
@[simp] theorem State.out_with_cvs (s : State) (v : Tab Culvert) : ({ s with cvs := v } : State).out = s.out := rfl
@[simp] theorem State.wlSet_with_cvs (s : State) (v : Tab Culvert) : ({ s with cvs := v } : State).wlSet = s.wlSet := rfl
@[simp] theorem State.rep_with_cvs (s : State) (v : Tab Culvert) : ({ s with cvs := v } : State).rep = s.rep := rfl
@[simp] theorem State.hosts_with_cvs (s : State) (v : Tab Culvert) : ({ s with cvs := v } : State).hosts = s.hosts := rfl
@[simp] theorem State.dies_with_cvs (s : State) (v : Tab Culvert) : ({ s with cvs := v } : State).dies = s.dies := rfl
@[simp] theorem State.cvs_with_cvs (s : State) (v : Tab Culvert) : ({ s with cvs := v } : State).cvs = v := rfl
@[simp] theorem State.lock_with_cvs (s : State) (v : Tab Culvert) : ({ s with cvs := v } : State).lock = s.lock := rfl
@[simp] theorem State.banks_with_cvs (s : State) (v : Tab Culvert) : ({ s with cvs := v } : State).banks = s.banks := rfl
@[simp] theorem State.sup_with_cvs (s : State) (v : Tab Culvert) : ({ s with cvs := v } : State).sup = s.sup := rfl
@[simp] theorem State.chans_with_cvs (s : State) (v : Tab Culvert) : ({ s with cvs := v } : State).chans = s.chans := rfl
@[simp] theorem State.uvs_with_cvs (s : State) (v : Tab Culvert) : ({ s with cvs := v } : State).uvs = s.uvs := rfl
@[simp] theorem State.valves_with_cvs (s : State) (v : Tab Culvert) : ({ s with cvs := v } : State).valves = s.valves := rfl
@[simp] theorem State.motors_with_cvs (s : State) (v : Tab Culvert) : ({ s with cvs := v } : State).motors = s.motors := rfl
@[simp] theorem State.bridges_with_cvs (s : State) (v : Tab Culvert) : ({ s with cvs := v } : State).bridges = s.bridges := rfl
@[simp] theorem State.elems_with_cvs (s : State) (v : Tab Culvert) : ({ s with cvs := v } : State).elems = s.elems := rfl
@[simp] theorem State.sources_with_cvs (s : State) (v : Tab Culvert) : ({ s with cvs := v } : State).sources = s.sources := rfl
@[simp] theorem State.trellis_with_cvs (s : State) (v : Tab Culvert) : ({ s with cvs := v } : State).trellis = s.trellis := rfl
@[simp] theorem State.inputs_with_cvs (s : State) (v : Tab Culvert) : ({ s with cvs := v } : State).inputs = s.inputs := rfl
@[simp] theorem State.fieldOuts_with_cvs (s : State) (v : Tab Culvert) : ({ s with cvs := v } : State).fieldOuts = s.fieldOuts := rfl
@[simp] theorem State.fieldBank_with_cvs (s : State) (v : Tab Culvert) : ({ s with cvs := v } : State).fieldBank = s.fieldBank := rfl
@[simp] theorem State.bus_with_cvs (s : State) (v : Tab Culvert) : ({ s with cvs := v } : State).bus = s.bus := rfl
@[simp] theorem State.aq_with_cvs (s : State) (v : Tab Culvert) : ({ s with cvs := v } : State).aq = s.aq := rfl
@[simp] theorem State.kp_with_cvs (s : State) (v : Tab Culvert) : ({ s with cvs := v } : State).kp = s.kp := rfl
@[simp] theorem State.meas_with_cvs (s : State) (v : Tab Culvert) : ({ s with cvs := v } : State).meas = s.meas := rfl
@[simp] theorem State.start_with_cvs (s : State) (v : Tab Culvert) : ({ s with cvs := v } : State).start = s.start := rfl
@[simp] theorem State.cus_with_cvs (s : State) (v : Tab Culvert) : ({ s with cvs := v } : State).cus = s.cus := rfl
@[simp] theorem State.scrub_with_cvs (s : State) (v : Tab Culvert) : ({ s with cvs := v } : State).scrub = s.scrub := rfl
@[simp] theorem State.pow_with_cvs (s : State) (v : Tab Culvert) : ({ s with cvs := v } : State).pow = s.pow := rfl
@[simp] theorem State.net_with_cvs (s : State) (v : Tab Culvert) : ({ s with cvs := v } : State).net = s.net := rfl
@[simp] theorem State.gate_with_cvs (s : State) (v : Tab Culvert) : ({ s with cvs := v } : State).gate = s.gate := rfl
@[simp] theorem State.upd_with_cvs (s : State) (v : Tab Culvert) : ({ s with cvs := v } : State).upd = s.upd := rfl
@[simp] theorem State.pending_with_lock (s : State) (v : LockPort) : ({ s with lock := v } : State).pending = s.pending := rfl
@[simp] theorem State.now_with_lock (s : State) (v : LockPort) : ({ s with lock := v } : State).now = s.now := rfl
@[simp] theorem State.wwt_with_lock (s : State) (v : LockPort) : ({ s with lock := v } : State).wwt = s.wwt := rfl
@[simp] theorem State.draws_with_lock (s : State) (v : LockPort) : ({ s with lock := v } : State).draws = s.draws := rfl
@[simp] theorem State.regs_with_lock (s : State) (v : LockPort) : ({ s with lock := v } : State).regs = s.regs := rfl
@[simp] theorem State.prev_with_lock (s : State) (v : LockPort) : ({ s with lock := v } : State).prev = s.prev := rfl
@[simp] theorem State.dieEn_with_lock (s : State) (v : LockPort) : ({ s with lock := v } : State).dieEn = s.dieEn := rfl
@[simp] theorem State.mem_with_lock (s : State) (v : LockPort) : ({ s with lock := v } : State).mem = s.mem := rfl
@[simp] theorem State.out_with_lock (s : State) (v : LockPort) : ({ s with lock := v } : State).out = s.out := rfl
@[simp] theorem State.wlSet_with_lock (s : State) (v : LockPort) : ({ s with lock := v } : State).wlSet = s.wlSet := rfl
@[simp] theorem State.rep_with_lock (s : State) (v : LockPort) : ({ s with lock := v } : State).rep = s.rep := rfl
@[simp] theorem State.hosts_with_lock (s : State) (v : LockPort) : ({ s with lock := v } : State).hosts = s.hosts := rfl
@[simp] theorem State.dies_with_lock (s : State) (v : LockPort) : ({ s with lock := v } : State).dies = s.dies := rfl
@[simp] theorem State.cvs_with_lock (s : State) (v : LockPort) : ({ s with lock := v } : State).cvs = s.cvs := rfl
@[simp] theorem State.lock_with_lock (s : State) (v : LockPort) : ({ s with lock := v } : State).lock = v := rfl
@[simp] theorem State.banks_with_lock (s : State) (v : LockPort) : ({ s with lock := v } : State).banks = s.banks := rfl
@[simp] theorem State.sup_with_lock (s : State) (v : LockPort) : ({ s with lock := v } : State).sup = s.sup := rfl
@[simp] theorem State.chans_with_lock (s : State) (v : LockPort) : ({ s with lock := v } : State).chans = s.chans := rfl
@[simp] theorem State.uvs_with_lock (s : State) (v : LockPort) : ({ s with lock := v } : State).uvs = s.uvs := rfl
@[simp] theorem State.valves_with_lock (s : State) (v : LockPort) : ({ s with lock := v } : State).valves = s.valves := rfl
@[simp] theorem State.motors_with_lock (s : State) (v : LockPort) : ({ s with lock := v } : State).motors = s.motors := rfl
@[simp] theorem State.bridges_with_lock (s : State) (v : LockPort) : ({ s with lock := v } : State).bridges = s.bridges := rfl
@[simp] theorem State.elems_with_lock (s : State) (v : LockPort) : ({ s with lock := v } : State).elems = s.elems := rfl
@[simp] theorem State.sources_with_lock (s : State) (v : LockPort) : ({ s with lock := v } : State).sources = s.sources := rfl
@[simp] theorem State.trellis_with_lock (s : State) (v : LockPort) : ({ s with lock := v } : State).trellis = s.trellis := rfl
@[simp] theorem State.inputs_with_lock (s : State) (v : LockPort) : ({ s with lock := v } : State).inputs = s.inputs := rfl
@[simp] theorem State.fieldOuts_with_lock (s : State) (v : LockPort) : ({ s with lock := v } : State).fieldOuts = s.fieldOuts := rfl
@[simp] theorem State.fieldBank_with_lock (s : State) (v : LockPort) : ({ s with lock := v } : State).fieldBank = s.fieldBank := rfl
@[simp] theorem State.bus_with_lock (s : State) (v : LockPort) : ({ s with lock := v } : State).bus = s.bus := rfl
@[simp] theorem State.aq_with_lock (s : State) (v : LockPort) : ({ s with lock := v } : State).aq = s.aq := rfl
@[simp] theorem State.kp_with_lock (s : State) (v : LockPort) : ({ s with lock := v } : State).kp = s.kp := rfl
@[simp] theorem State.meas_with_lock (s : State) (v : LockPort) : ({ s with lock := v } : State).meas = s.meas := rfl
@[simp] theorem State.start_with_lock (s : State) (v : LockPort) : ({ s with lock := v } : State).start = s.start := rfl
@[simp] theorem State.cus_with_lock (s : State) (v : LockPort) : ({ s with lock := v } : State).cus = s.cus := rfl
@[simp] theorem State.scrub_with_lock (s : State) (v : LockPort) : ({ s with lock := v } : State).scrub = s.scrub := rfl
@[simp] theorem State.pow_with_lock (s : State) (v : LockPort) : ({ s with lock := v } : State).pow = s.pow := rfl
@[simp] theorem State.net_with_lock (s : State) (v : LockPort) : ({ s with lock := v } : State).net = s.net := rfl
@[simp] theorem State.gate_with_lock (s : State) (v : LockPort) : ({ s with lock := v } : State).gate = s.gate := rfl
@[simp] theorem State.upd_with_lock (s : State) (v : LockPort) : ({ s with lock := v } : State).upd = s.upd := rfl
@[simp] theorem State.pending_with_banks (s : State) (v : Tab Bank) : ({ s with banks := v } : State).pending = s.pending := rfl
@[simp] theorem State.now_with_banks (s : State) (v : Tab Bank) : ({ s with banks := v } : State).now = s.now := rfl
@[simp] theorem State.wwt_with_banks (s : State) (v : Tab Bank) : ({ s with banks := v } : State).wwt = s.wwt := rfl
@[simp] theorem State.draws_with_banks (s : State) (v : Tab Bank) : ({ s with banks := v } : State).draws = s.draws := rfl
@[simp] theorem State.regs_with_banks (s : State) (v : Tab Bank) : ({ s with banks := v } : State).regs = s.regs := rfl
@[simp] theorem State.prev_with_banks (s : State) (v : Tab Bank) : ({ s with banks := v } : State).prev = s.prev := rfl
@[simp] theorem State.dieEn_with_banks (s : State) (v : Tab Bank) : ({ s with banks := v } : State).dieEn = s.dieEn := rfl
@[simp] theorem State.mem_with_banks (s : State) (v : Tab Bank) : ({ s with banks := v } : State).mem = s.mem := rfl
@[simp] theorem State.out_with_banks (s : State) (v : Tab Bank) : ({ s with banks := v } : State).out = s.out := rfl
@[simp] theorem State.wlSet_with_banks (s : State) (v : Tab Bank) : ({ s with banks := v } : State).wlSet = s.wlSet := rfl
@[simp] theorem State.rep_with_banks (s : State) (v : Tab Bank) : ({ s with banks := v } : State).rep = s.rep := rfl
@[simp] theorem State.hosts_with_banks (s : State) (v : Tab Bank) : ({ s with banks := v } : State).hosts = s.hosts := rfl
@[simp] theorem State.dies_with_banks (s : State) (v : Tab Bank) : ({ s with banks := v } : State).dies = s.dies := rfl
@[simp] theorem State.cvs_with_banks (s : State) (v : Tab Bank) : ({ s with banks := v } : State).cvs = s.cvs := rfl
@[simp] theorem State.lock_with_banks (s : State) (v : Tab Bank) : ({ s with banks := v } : State).lock = s.lock := rfl
@[simp] theorem State.banks_with_banks (s : State) (v : Tab Bank) : ({ s with banks := v } : State).banks = v := rfl
@[simp] theorem State.sup_with_banks (s : State) (v : Tab Bank) : ({ s with banks := v } : State).sup = s.sup := rfl
@[simp] theorem State.chans_with_banks (s : State) (v : Tab Bank) : ({ s with banks := v } : State).chans = s.chans := rfl
@[simp] theorem State.uvs_with_banks (s : State) (v : Tab Bank) : ({ s with banks := v } : State).uvs = s.uvs := rfl
@[simp] theorem State.valves_with_banks (s : State) (v : Tab Bank) : ({ s with banks := v } : State).valves = s.valves := rfl
@[simp] theorem State.motors_with_banks (s : State) (v : Tab Bank) : ({ s with banks := v } : State).motors = s.motors := rfl
@[simp] theorem State.bridges_with_banks (s : State) (v : Tab Bank) : ({ s with banks := v } : State).bridges = s.bridges := rfl
@[simp] theorem State.elems_with_banks (s : State) (v : Tab Bank) : ({ s with banks := v } : State).elems = s.elems := rfl
@[simp] theorem State.sources_with_banks (s : State) (v : Tab Bank) : ({ s with banks := v } : State).sources = s.sources := rfl
@[simp] theorem State.trellis_with_banks (s : State) (v : Tab Bank) : ({ s with banks := v } : State).trellis = s.trellis := rfl
@[simp] theorem State.inputs_with_banks (s : State) (v : Tab Bank) : ({ s with banks := v } : State).inputs = s.inputs := rfl
@[simp] theorem State.fieldOuts_with_banks (s : State) (v : Tab Bank) : ({ s with banks := v } : State).fieldOuts = s.fieldOuts := rfl
@[simp] theorem State.fieldBank_with_banks (s : State) (v : Tab Bank) : ({ s with banks := v } : State).fieldBank = s.fieldBank := rfl
@[simp] theorem State.bus_with_banks (s : State) (v : Tab Bank) : ({ s with banks := v } : State).bus = s.bus := rfl
@[simp] theorem State.aq_with_banks (s : State) (v : Tab Bank) : ({ s with banks := v } : State).aq = s.aq := rfl
@[simp] theorem State.kp_with_banks (s : State) (v : Tab Bank) : ({ s with banks := v } : State).kp = s.kp := rfl
@[simp] theorem State.meas_with_banks (s : State) (v : Tab Bank) : ({ s with banks := v } : State).meas = s.meas := rfl
@[simp] theorem State.start_with_banks (s : State) (v : Tab Bank) : ({ s with banks := v } : State).start = s.start := rfl
@[simp] theorem State.cus_with_banks (s : State) (v : Tab Bank) : ({ s with banks := v } : State).cus = s.cus := rfl
@[simp] theorem State.scrub_with_banks (s : State) (v : Tab Bank) : ({ s with banks := v } : State).scrub = s.scrub := rfl
@[simp] theorem State.pow_with_banks (s : State) (v : Tab Bank) : ({ s with banks := v } : State).pow = s.pow := rfl
@[simp] theorem State.net_with_banks (s : State) (v : Tab Bank) : ({ s with banks := v } : State).net = s.net := rfl
@[simp] theorem State.gate_with_banks (s : State) (v : Tab Bank) : ({ s with banks := v } : State).gate = s.gate := rfl
@[simp] theorem State.upd_with_banks (s : State) (v : Tab Bank) : ({ s with banks := v } : State).upd = s.upd := rfl
@[simp] theorem State.pending_with_sup (s : State) (v : Supply) : ({ s with sup := v } : State).pending = s.pending := rfl
@[simp] theorem State.now_with_sup (s : State) (v : Supply) : ({ s with sup := v } : State).now = s.now := rfl
@[simp] theorem State.wwt_with_sup (s : State) (v : Supply) : ({ s with sup := v } : State).wwt = s.wwt := rfl
@[simp] theorem State.draws_with_sup (s : State) (v : Supply) : ({ s with sup := v } : State).draws = s.draws := rfl
@[simp] theorem State.regs_with_sup (s : State) (v : Supply) : ({ s with sup := v } : State).regs = s.regs := rfl
@[simp] theorem State.prev_with_sup (s : State) (v : Supply) : ({ s with sup := v } : State).prev = s.prev := rfl
@[simp] theorem State.dieEn_with_sup (s : State) (v : Supply) : ({ s with sup := v } : State).dieEn = s.dieEn := rfl
@[simp] theorem State.mem_with_sup (s : State) (v : Supply) : ({ s with sup := v } : State).mem = s.mem := rfl
@[simp] theorem State.out_with_sup (s : State) (v : Supply) : ({ s with sup := v } : State).out = s.out := rfl
@[simp] theorem State.wlSet_with_sup (s : State) (v : Supply) : ({ s with sup := v } : State).wlSet = s.wlSet := rfl
@[simp] theorem State.rep_with_sup (s : State) (v : Supply) : ({ s with sup := v } : State).rep = s.rep := rfl
@[simp] theorem State.hosts_with_sup (s : State) (v : Supply) : ({ s with sup := v } : State).hosts = s.hosts := rfl
@[simp] theorem State.dies_with_sup (s : State) (v : Supply) : ({ s with sup := v } : State).dies = s.dies := rfl
@[simp] theorem State.cvs_with_sup (s : State) (v : Supply) : ({ s with sup := v } : State).cvs = s.cvs := rfl
@[simp] theorem State.lock_with_sup (s : State) (v : Supply) : ({ s with sup := v } : State).lock = s.lock := rfl
@[simp] theorem State.banks_with_sup (s : State) (v : Supply) : ({ s with sup := v } : State).banks = s.banks := rfl
@[simp] theorem State.sup_with_sup (s : State) (v : Supply) : ({ s with sup := v } : State).sup = v := rfl
@[simp] theorem State.chans_with_sup (s : State) (v : Supply) : ({ s with sup := v } : State).chans = s.chans := rfl
@[simp] theorem State.uvs_with_sup (s : State) (v : Supply) : ({ s with sup := v } : State).uvs = s.uvs := rfl
@[simp] theorem State.valves_with_sup (s : State) (v : Supply) : ({ s with sup := v } : State).valves = s.valves := rfl
@[simp] theorem State.motors_with_sup (s : State) (v : Supply) : ({ s with sup := v } : State).motors = s.motors := rfl
@[simp] theorem State.bridges_with_sup (s : State) (v : Supply) : ({ s with sup := v } : State).bridges = s.bridges := rfl
@[simp] theorem State.elems_with_sup (s : State) (v : Supply) : ({ s with sup := v } : State).elems = s.elems := rfl
@[simp] theorem State.sources_with_sup (s : State) (v : Supply) : ({ s with sup := v } : State).sources = s.sources := rfl
@[simp] theorem State.trellis_with_sup (s : State) (v : Supply) : ({ s with sup := v } : State).trellis = s.trellis := rfl
@[simp] theorem State.inputs_with_sup (s : State) (v : Supply) : ({ s with sup := v } : State).inputs = s.inputs := rfl
@[simp] theorem State.fieldOuts_with_sup (s : State) (v : Supply) : ({ s with sup := v } : State).fieldOuts = s.fieldOuts := rfl
@[simp] theorem State.fieldBank_with_sup (s : State) (v : Supply) : ({ s with sup := v } : State).fieldBank = s.fieldBank := rfl
@[simp] theorem State.bus_with_sup (s : State) (v : Supply) : ({ s with sup := v } : State).bus = s.bus := rfl
@[simp] theorem State.aq_with_sup (s : State) (v : Supply) : ({ s with sup := v } : State).aq = s.aq := rfl
@[simp] theorem State.kp_with_sup (s : State) (v : Supply) : ({ s with sup := v } : State).kp = s.kp := rfl
@[simp] theorem State.meas_with_sup (s : State) (v : Supply) : ({ s with sup := v } : State).meas = s.meas := rfl
@[simp] theorem State.start_with_sup (s : State) (v : Supply) : ({ s with sup := v } : State).start = s.start := rfl
@[simp] theorem State.cus_with_sup (s : State) (v : Supply) : ({ s with sup := v } : State).cus = s.cus := rfl
@[simp] theorem State.scrub_with_sup (s : State) (v : Supply) : ({ s with sup := v } : State).scrub = s.scrub := rfl
@[simp] theorem State.pow_with_sup (s : State) (v : Supply) : ({ s with sup := v } : State).pow = s.pow := rfl
@[simp] theorem State.net_with_sup (s : State) (v : Supply) : ({ s with sup := v } : State).net = s.net := rfl
@[simp] theorem State.gate_with_sup (s : State) (v : Supply) : ({ s with sup := v } : State).gate = s.gate := rfl
@[simp] theorem State.upd_with_sup (s : State) (v : Supply) : ({ s with sup := v } : State).upd = s.upd := rfl
@[simp] theorem State.pending_with_chans (s : State) (v : Tab Chan) : ({ s with chans := v } : State).pending = s.pending := rfl
@[simp] theorem State.now_with_chans (s : State) (v : Tab Chan) : ({ s with chans := v } : State).now = s.now := rfl
@[simp] theorem State.wwt_with_chans (s : State) (v : Tab Chan) : ({ s with chans := v } : State).wwt = s.wwt := rfl
@[simp] theorem State.draws_with_chans (s : State) (v : Tab Chan) : ({ s with chans := v } : State).draws = s.draws := rfl
@[simp] theorem State.regs_with_chans (s : State) (v : Tab Chan) : ({ s with chans := v } : State).regs = s.regs := rfl
@[simp] theorem State.prev_with_chans (s : State) (v : Tab Chan) : ({ s with chans := v } : State).prev = s.prev := rfl
@[simp] theorem State.dieEn_with_chans (s : State) (v : Tab Chan) : ({ s with chans := v } : State).dieEn = s.dieEn := rfl
@[simp] theorem State.mem_with_chans (s : State) (v : Tab Chan) : ({ s with chans := v } : State).mem = s.mem := rfl
@[simp] theorem State.out_with_chans (s : State) (v : Tab Chan) : ({ s with chans := v } : State).out = s.out := rfl
@[simp] theorem State.wlSet_with_chans (s : State) (v : Tab Chan) : ({ s with chans := v } : State).wlSet = s.wlSet := rfl
@[simp] theorem State.rep_with_chans (s : State) (v : Tab Chan) : ({ s with chans := v } : State).rep = s.rep := rfl
@[simp] theorem State.hosts_with_chans (s : State) (v : Tab Chan) : ({ s with chans := v } : State).hosts = s.hosts := rfl
@[simp] theorem State.dies_with_chans (s : State) (v : Tab Chan) : ({ s with chans := v } : State).dies = s.dies := rfl
@[simp] theorem State.cvs_with_chans (s : State) (v : Tab Chan) : ({ s with chans := v } : State).cvs = s.cvs := rfl
@[simp] theorem State.lock_with_chans (s : State) (v : Tab Chan) : ({ s with chans := v } : State).lock = s.lock := rfl
@[simp] theorem State.banks_with_chans (s : State) (v : Tab Chan) : ({ s with chans := v } : State).banks = s.banks := rfl
@[simp] theorem State.sup_with_chans (s : State) (v : Tab Chan) : ({ s with chans := v } : State).sup = s.sup := rfl
@[simp] theorem State.chans_with_chans (s : State) (v : Tab Chan) : ({ s with chans := v } : State).chans = v := rfl
@[simp] theorem State.uvs_with_chans (s : State) (v : Tab Chan) : ({ s with chans := v } : State).uvs = s.uvs := rfl
@[simp] theorem State.valves_with_chans (s : State) (v : Tab Chan) : ({ s with chans := v } : State).valves = s.valves := rfl
@[simp] theorem State.motors_with_chans (s : State) (v : Tab Chan) : ({ s with chans := v } : State).motors = s.motors := rfl
@[simp] theorem State.bridges_with_chans (s : State) (v : Tab Chan) : ({ s with chans := v } : State).bridges = s.bridges := rfl
@[simp] theorem State.elems_with_chans (s : State) (v : Tab Chan) : ({ s with chans := v } : State).elems = s.elems := rfl
@[simp] theorem State.sources_with_chans (s : State) (v : Tab Chan) : ({ s with chans := v } : State).sources = s.sources := rfl
@[simp] theorem State.trellis_with_chans (s : State) (v : Tab Chan) : ({ s with chans := v } : State).trellis = s.trellis := rfl
@[simp] theorem State.inputs_with_chans (s : State) (v : Tab Chan) : ({ s with chans := v } : State).inputs = s.inputs := rfl
@[simp] theorem State.fieldOuts_with_chans (s : State) (v : Tab Chan) : ({ s with chans := v } : State).fieldOuts = s.fieldOuts := rfl
@[simp] theorem State.fieldBank_with_chans (s : State) (v : Tab Chan) : ({ s with chans := v } : State).fieldBank = s.fieldBank := rfl
@[simp] theorem State.bus_with_chans (s : State) (v : Tab Chan) : ({ s with chans := v } : State).bus = s.bus := rfl
@[simp] theorem State.aq_with_chans (s : State) (v : Tab Chan) : ({ s with chans := v } : State).aq = s.aq := rfl
@[simp] theorem State.kp_with_chans (s : State) (v : Tab Chan) : ({ s with chans := v } : State).kp = s.kp := rfl
@[simp] theorem State.meas_with_chans (s : State) (v : Tab Chan) : ({ s with chans := v } : State).meas = s.meas := rfl
@[simp] theorem State.start_with_chans (s : State) (v : Tab Chan) : ({ s with chans := v } : State).start = s.start := rfl
@[simp] theorem State.cus_with_chans (s : State) (v : Tab Chan) : ({ s with chans := v } : State).cus = s.cus := rfl
@[simp] theorem State.scrub_with_chans (s : State) (v : Tab Chan) : ({ s with chans := v } : State).scrub = s.scrub := rfl
@[simp] theorem State.pow_with_chans (s : State) (v : Tab Chan) : ({ s with chans := v } : State).pow = s.pow := rfl
@[simp] theorem State.net_with_chans (s : State) (v : Tab Chan) : ({ s with chans := v } : State).net = s.net := rfl
@[simp] theorem State.gate_with_chans (s : State) (v : Tab Chan) : ({ s with chans := v } : State).gate = s.gate := rfl
@[simp] theorem State.upd_with_chans (s : State) (v : Tab Chan) : ({ s with chans := v } : State).upd = s.upd := rfl
@[simp] theorem State.pending_with_uvs (s : State) (v : Tab Uv) : ({ s with uvs := v } : State).pending = s.pending := rfl
@[simp] theorem State.now_with_uvs (s : State) (v : Tab Uv) : ({ s with uvs := v } : State).now = s.now := rfl
@[simp] theorem State.wwt_with_uvs (s : State) (v : Tab Uv) : ({ s with uvs := v } : State).wwt = s.wwt := rfl
@[simp] theorem State.draws_with_uvs (s : State) (v : Tab Uv) : ({ s with uvs := v } : State).draws = s.draws := rfl
@[simp] theorem State.regs_with_uvs (s : State) (v : Tab Uv) : ({ s with uvs := v } : State).regs = s.regs := rfl
@[simp] theorem State.prev_with_uvs (s : State) (v : Tab Uv) : ({ s with uvs := v } : State).prev = s.prev := rfl
@[simp] theorem State.dieEn_with_uvs (s : State) (v : Tab Uv) : ({ s with uvs := v } : State).dieEn = s.dieEn := rfl
@[simp] theorem State.mem_with_uvs (s : State) (v : Tab Uv) : ({ s with uvs := v } : State).mem = s.mem := rfl
@[simp] theorem State.out_with_uvs (s : State) (v : Tab Uv) : ({ s with uvs := v } : State).out = s.out := rfl
@[simp] theorem State.wlSet_with_uvs (s : State) (v : Tab Uv) : ({ s with uvs := v } : State).wlSet = s.wlSet := rfl
@[simp] theorem State.rep_with_uvs (s : State) (v : Tab Uv) : ({ s with uvs := v } : State).rep = s.rep := rfl
@[simp] theorem State.hosts_with_uvs (s : State) (v : Tab Uv) : ({ s with uvs := v } : State).hosts = s.hosts := rfl
@[simp] theorem State.dies_with_uvs (s : State) (v : Tab Uv) : ({ s with uvs := v } : State).dies = s.dies := rfl
@[simp] theorem State.cvs_with_uvs (s : State) (v : Tab Uv) : ({ s with uvs := v } : State).cvs = s.cvs := rfl
@[simp] theorem State.lock_with_uvs (s : State) (v : Tab Uv) : ({ s with uvs := v } : State).lock = s.lock := rfl
@[simp] theorem State.banks_with_uvs (s : State) (v : Tab Uv) : ({ s with uvs := v } : State).banks = s.banks := rfl
@[simp] theorem State.sup_with_uvs (s : State) (v : Tab Uv) : ({ s with uvs := v } : State).sup = s.sup := rfl
@[simp] theorem State.chans_with_uvs (s : State) (v : Tab Uv) : ({ s with uvs := v } : State).chans = s.chans := rfl
@[simp] theorem State.uvs_with_uvs (s : State) (v : Tab Uv) : ({ s with uvs := v } : State).uvs = v := rfl
@[simp] theorem State.valves_with_uvs (s : State) (v : Tab Uv) : ({ s with uvs := v } : State).valves = s.valves := rfl
@[simp] theorem State.motors_with_uvs (s : State) (v : Tab Uv) : ({ s with uvs := v } : State).motors = s.motors := rfl
@[simp] theorem State.bridges_with_uvs (s : State) (v : Tab Uv) : ({ s with uvs := v } : State).bridges = s.bridges := rfl
@[simp] theorem State.elems_with_uvs (s : State) (v : Tab Uv) : ({ s with uvs := v } : State).elems = s.elems := rfl
@[simp] theorem State.sources_with_uvs (s : State) (v : Tab Uv) : ({ s with uvs := v } : State).sources = s.sources := rfl
@[simp] theorem State.trellis_with_uvs (s : State) (v : Tab Uv) : ({ s with uvs := v } : State).trellis = s.trellis := rfl
@[simp] theorem State.inputs_with_uvs (s : State) (v : Tab Uv) : ({ s with uvs := v } : State).inputs = s.inputs := rfl
@[simp] theorem State.fieldOuts_with_uvs (s : State) (v : Tab Uv) : ({ s with uvs := v } : State).fieldOuts = s.fieldOuts := rfl
@[simp] theorem State.fieldBank_with_uvs (s : State) (v : Tab Uv) : ({ s with uvs := v } : State).fieldBank = s.fieldBank := rfl
@[simp] theorem State.bus_with_uvs (s : State) (v : Tab Uv) : ({ s with uvs := v } : State).bus = s.bus := rfl
@[simp] theorem State.aq_with_uvs (s : State) (v : Tab Uv) : ({ s with uvs := v } : State).aq = s.aq := rfl
@[simp] theorem State.kp_with_uvs (s : State) (v : Tab Uv) : ({ s with uvs := v } : State).kp = s.kp := rfl
@[simp] theorem State.meas_with_uvs (s : State) (v : Tab Uv) : ({ s with uvs := v } : State).meas = s.meas := rfl
@[simp] theorem State.start_with_uvs (s : State) (v : Tab Uv) : ({ s with uvs := v } : State).start = s.start := rfl
@[simp] theorem State.cus_with_uvs (s : State) (v : Tab Uv) : ({ s with uvs := v } : State).cus = s.cus := rfl
@[simp] theorem State.scrub_with_uvs (s : State) (v : Tab Uv) : ({ s with uvs := v } : State).scrub = s.scrub := rfl
@[simp] theorem State.pow_with_uvs (s : State) (v : Tab Uv) : ({ s with uvs := v } : State).pow = s.pow := rfl
@[simp] theorem State.net_with_uvs (s : State) (v : Tab Uv) : ({ s with uvs := v } : State).net = s.net := rfl
@[simp] theorem State.gate_with_uvs (s : State) (v : Tab Uv) : ({ s with uvs := v } : State).gate = s.gate := rfl
@[simp] theorem State.upd_with_uvs (s : State) (v : Tab Uv) : ({ s with uvs := v } : State).upd = s.upd := rfl
@[simp] theorem State.pending_with_valves (s : State) (v : Tab Valve) : ({ s with valves := v } : State).pending = s.pending := rfl
@[simp] theorem State.now_with_valves (s : State) (v : Tab Valve) : ({ s with valves := v } : State).now = s.now := rfl
@[simp] theorem State.wwt_with_valves (s : State) (v : Tab Valve) : ({ s with valves := v } : State).wwt = s.wwt := rfl
@[simp] theorem State.draws_with_valves (s : State) (v : Tab Valve) : ({ s with valves := v } : State).draws = s.draws := rfl
@[simp] theorem State.regs_with_valves (s : State) (v : Tab Valve) : ({ s with valves := v } : State).regs = s.regs := rfl
@[simp] theorem State.prev_with_valves (s : State) (v : Tab Valve) : ({ s with valves := v } : State).prev = s.prev := rfl
@[simp] theorem State.dieEn_with_valves (s : State) (v : Tab Valve) : ({ s with valves := v } : State).dieEn = s.dieEn := rfl
@[simp] theorem State.mem_with_valves (s : State) (v : Tab Valve) : ({ s with valves := v } : State).mem = s.mem := rfl
@[simp] theorem State.out_with_valves (s : State) (v : Tab Valve) : ({ s with valves := v } : State).out = s.out := rfl
@[simp] theorem State.wlSet_with_valves (s : State) (v : Tab Valve) : ({ s with valves := v } : State).wlSet = s.wlSet := rfl
@[simp] theorem State.rep_with_valves (s : State) (v : Tab Valve) : ({ s with valves := v } : State).rep = s.rep := rfl
@[simp] theorem State.hosts_with_valves (s : State) (v : Tab Valve) : ({ s with valves := v } : State).hosts = s.hosts := rfl
@[simp] theorem State.dies_with_valves (s : State) (v : Tab Valve) : ({ s with valves := v } : State).dies = s.dies := rfl
@[simp] theorem State.cvs_with_valves (s : State) (v : Tab Valve) : ({ s with valves := v } : State).cvs = s.cvs := rfl
@[simp] theorem State.lock_with_valves (s : State) (v : Tab Valve) : ({ s with valves := v } : State).lock = s.lock := rfl
@[simp] theorem State.banks_with_valves (s : State) (v : Tab Valve) : ({ s with valves := v } : State).banks = s.banks := rfl
@[simp] theorem State.sup_with_valves (s : State) (v : Tab Valve) : ({ s with valves := v } : State).sup = s.sup := rfl
@[simp] theorem State.chans_with_valves (s : State) (v : Tab Valve) : ({ s with valves := v } : State).chans = s.chans := rfl
@[simp] theorem State.uvs_with_valves (s : State) (v : Tab Valve) : ({ s with valves := v } : State).uvs = s.uvs := rfl
@[simp] theorem State.valves_with_valves (s : State) (v : Tab Valve) : ({ s with valves := v } : State).valves = v := rfl
@[simp] theorem State.motors_with_valves (s : State) (v : Tab Valve) : ({ s with valves := v } : State).motors = s.motors := rfl
@[simp] theorem State.bridges_with_valves (s : State) (v : Tab Valve) : ({ s with valves := v } : State).bridges = s.bridges := rfl
@[simp] theorem State.elems_with_valves (s : State) (v : Tab Valve) : ({ s with valves := v } : State).elems = s.elems := rfl
@[simp] theorem State.sources_with_valves (s : State) (v : Tab Valve) : ({ s with valves := v } : State).sources = s.sources := rfl
@[simp] theorem State.trellis_with_valves (s : State) (v : Tab Valve) : ({ s with valves := v } : State).trellis = s.trellis := rfl
@[simp] theorem State.inputs_with_valves (s : State) (v : Tab Valve) : ({ s with valves := v } : State).inputs = s.inputs := rfl
@[simp] theorem State.fieldOuts_with_valves (s : State) (v : Tab Valve) : ({ s with valves := v } : State).fieldOuts = s.fieldOuts := rfl
@[simp] theorem State.fieldBank_with_valves (s : State) (v : Tab Valve) : ({ s with valves := v } : State).fieldBank = s.fieldBank := rfl
@[simp] theorem State.bus_with_valves (s : State) (v : Tab Valve) : ({ s with valves := v } : State).bus = s.bus := rfl
@[simp] theorem State.aq_with_valves (s : State) (v : Tab Valve) : ({ s with valves := v } : State).aq = s.aq := rfl
@[simp] theorem State.kp_with_valves (s : State) (v : Tab Valve) : ({ s with valves := v } : State).kp = s.kp := rfl
@[simp] theorem State.meas_with_valves (s : State) (v : Tab Valve) : ({ s with valves := v } : State).meas = s.meas := rfl
@[simp] theorem State.start_with_valves (s : State) (v : Tab Valve) : ({ s with valves := v } : State).start = s.start := rfl
@[simp] theorem State.cus_with_valves (s : State) (v : Tab Valve) : ({ s with valves := v } : State).cus = s.cus := rfl
@[simp] theorem State.scrub_with_valves (s : State) (v : Tab Valve) : ({ s with valves := v } : State).scrub = s.scrub := rfl
@[simp] theorem State.pow_with_valves (s : State) (v : Tab Valve) : ({ s with valves := v } : State).pow = s.pow := rfl
@[simp] theorem State.net_with_valves (s : State) (v : Tab Valve) : ({ s with valves := v } : State).net = s.net := rfl
@[simp] theorem State.gate_with_valves (s : State) (v : Tab Valve) : ({ s with valves := v } : State).gate = s.gate := rfl
@[simp] theorem State.upd_with_valves (s : State) (v : Tab Valve) : ({ s with valves := v } : State).upd = s.upd := rfl
@[simp] theorem State.pending_with_motors (s : State) (v : Tab Motor) : ({ s with motors := v } : State).pending = s.pending := rfl
@[simp] theorem State.now_with_motors (s : State) (v : Tab Motor) : ({ s with motors := v } : State).now = s.now := rfl
@[simp] theorem State.wwt_with_motors (s : State) (v : Tab Motor) : ({ s with motors := v } : State).wwt = s.wwt := rfl
@[simp] theorem State.draws_with_motors (s : State) (v : Tab Motor) : ({ s with motors := v } : State).draws = s.draws := rfl
@[simp] theorem State.regs_with_motors (s : State) (v : Tab Motor) : ({ s with motors := v } : State).regs = s.regs := rfl
@[simp] theorem State.prev_with_motors (s : State) (v : Tab Motor) : ({ s with motors := v } : State).prev = s.prev := rfl
@[simp] theorem State.dieEn_with_motors (s : State) (v : Tab Motor) : ({ s with motors := v } : State).dieEn = s.dieEn := rfl
@[simp] theorem State.mem_with_motors (s : State) (v : Tab Motor) : ({ s with motors := v } : State).mem = s.mem := rfl
@[simp] theorem State.out_with_motors (s : State) (v : Tab Motor) : ({ s with motors := v } : State).out = s.out := rfl
@[simp] theorem State.wlSet_with_motors (s : State) (v : Tab Motor) : ({ s with motors := v } : State).wlSet = s.wlSet := rfl
@[simp] theorem State.rep_with_motors (s : State) (v : Tab Motor) : ({ s with motors := v } : State).rep = s.rep := rfl
@[simp] theorem State.hosts_with_motors (s : State) (v : Tab Motor) : ({ s with motors := v } : State).hosts = s.hosts := rfl
@[simp] theorem State.dies_with_motors (s : State) (v : Tab Motor) : ({ s with motors := v } : State).dies = s.dies := rfl
@[simp] theorem State.cvs_with_motors (s : State) (v : Tab Motor) : ({ s with motors := v } : State).cvs = s.cvs := rfl
@[simp] theorem State.lock_with_motors (s : State) (v : Tab Motor) : ({ s with motors := v } : State).lock = s.lock := rfl
@[simp] theorem State.banks_with_motors (s : State) (v : Tab Motor) : ({ s with motors := v } : State).banks = s.banks := rfl
@[simp] theorem State.sup_with_motors (s : State) (v : Tab Motor) : ({ s with motors := v } : State).sup = s.sup := rfl
@[simp] theorem State.chans_with_motors (s : State) (v : Tab Motor) : ({ s with motors := v } : State).chans = s.chans := rfl
@[simp] theorem State.uvs_with_motors (s : State) (v : Tab Motor) : ({ s with motors := v } : State).uvs = s.uvs := rfl
@[simp] theorem State.valves_with_motors (s : State) (v : Tab Motor) : ({ s with motors := v } : State).valves = s.valves := rfl
@[simp] theorem State.motors_with_motors (s : State) (v : Tab Motor) : ({ s with motors := v } : State).motors = v := rfl
@[simp] theorem State.bridges_with_motors (s : State) (v : Tab Motor) : ({ s with motors := v } : State).bridges = s.bridges := rfl
@[simp] theorem State.elems_with_motors (s : State) (v : Tab Motor) : ({ s with motors := v } : State).elems = s.elems := rfl
@[simp] theorem State.sources_with_motors (s : State) (v : Tab Motor) : ({ s with motors := v } : State).sources = s.sources := rfl
@[simp] theorem State.trellis_with_motors (s : State) (v : Tab Motor) : ({ s with motors := v } : State).trellis = s.trellis := rfl
@[simp] theorem State.inputs_with_motors (s : State) (v : Tab Motor) : ({ s with motors := v } : State).inputs = s.inputs := rfl
@[simp] theorem State.fieldOuts_with_motors (s : State) (v : Tab Motor) : ({ s with motors := v } : State).fieldOuts = s.fieldOuts := rfl
@[simp] theorem State.fieldBank_with_motors (s : State) (v : Tab Motor) : ({ s with motors := v } : State).fieldBank = s.fieldBank := rfl
@[simp] theorem State.bus_with_motors (s : State) (v : Tab Motor) : ({ s with motors := v } : State).bus = s.bus := rfl
@[simp] theorem State.aq_with_motors (s : State) (v : Tab Motor) : ({ s with motors := v } : State).aq = s.aq := rfl
@[simp] theorem State.kp_with_motors (s : State) (v : Tab Motor) : ({ s with motors := v } : State).kp = s.kp := rfl
@[simp] theorem State.meas_with_motors (s : State) (v : Tab Motor) : ({ s with motors := v } : State).meas = s.meas := rfl
@[simp] theorem State.start_with_motors (s : State) (v : Tab Motor) : ({ s with motors := v } : State).start = s.start := rfl
@[simp] theorem State.cus_with_motors (s : State) (v : Tab Motor) : ({ s with motors := v } : State).cus = s.cus := rfl
@[simp] theorem State.scrub_with_motors (s : State) (v : Tab Motor) : ({ s with motors := v } : State).scrub = s.scrub := rfl
@[simp] theorem State.pow_with_motors (s : State) (v : Tab Motor) : ({ s with motors := v } : State).pow = s.pow := rfl
@[simp] theorem State.net_with_motors (s : State) (v : Tab Motor) : ({ s with motors := v } : State).net = s.net := rfl
@[simp] theorem State.gate_with_motors (s : State) (v : Tab Motor) : ({ s with motors := v } : State).gate = s.gate := rfl
@[simp] theorem State.upd_with_motors (s : State) (v : Tab Motor) : ({ s with motors := v } : State).upd = s.upd := rfl
@[simp] theorem State.pending_with_bridges (s : State) (v : Bridges) : ({ s with bridges := v } : State).pending = s.pending := rfl
@[simp] theorem State.now_with_bridges (s : State) (v : Bridges) : ({ s with bridges := v } : State).now = s.now := rfl
@[simp] theorem State.wwt_with_bridges (s : State) (v : Bridges) : ({ s with bridges := v } : State).wwt = s.wwt := rfl
@[simp] theorem State.draws_with_bridges (s : State) (v : Bridges) : ({ s with bridges := v } : State).draws = s.draws := rfl
@[simp] theorem State.regs_with_bridges (s : State) (v : Bridges) : ({ s with bridges := v } : State).regs = s.regs := rfl
@[simp] theorem State.prev_with_bridges (s : State) (v : Bridges) : ({ s with bridges := v } : State).prev = s.prev := rfl
@[simp] theorem State.dieEn_with_bridges (s : State) (v : Bridges) : ({ s with bridges := v } : State).dieEn = s.dieEn := rfl
@[simp] theorem State.mem_with_bridges (s : State) (v : Bridges) : ({ s with bridges := v } : State).mem = s.mem := rfl
@[simp] theorem State.out_with_bridges (s : State) (v : Bridges) : ({ s with bridges := v } : State).out = s.out := rfl
@[simp] theorem State.wlSet_with_bridges (s : State) (v : Bridges) : ({ s with bridges := v } : State).wlSet = s.wlSet := rfl
@[simp] theorem State.rep_with_bridges (s : State) (v : Bridges) : ({ s with bridges := v } : State).rep = s.rep := rfl
@[simp] theorem State.hosts_with_bridges (s : State) (v : Bridges) : ({ s with bridges := v } : State).hosts = s.hosts := rfl
@[simp] theorem State.dies_with_bridges (s : State) (v : Bridges) : ({ s with bridges := v } : State).dies = s.dies := rfl
@[simp] theorem State.cvs_with_bridges (s : State) (v : Bridges) : ({ s with bridges := v } : State).cvs = s.cvs := rfl
@[simp] theorem State.lock_with_bridges (s : State) (v : Bridges) : ({ s with bridges := v } : State).lock = s.lock := rfl
@[simp] theorem State.banks_with_bridges (s : State) (v : Bridges) : ({ s with bridges := v } : State).banks = s.banks := rfl
@[simp] theorem State.sup_with_bridges (s : State) (v : Bridges) : ({ s with bridges := v } : State).sup = s.sup := rfl
@[simp] theorem State.chans_with_bridges (s : State) (v : Bridges) : ({ s with bridges := v } : State).chans = s.chans := rfl
@[simp] theorem State.uvs_with_bridges (s : State) (v : Bridges) : ({ s with bridges := v } : State).uvs = s.uvs := rfl
@[simp] theorem State.valves_with_bridges (s : State) (v : Bridges) : ({ s with bridges := v } : State).valves = s.valves := rfl
@[simp] theorem State.motors_with_bridges (s : State) (v : Bridges) : ({ s with bridges := v } : State).motors = s.motors := rfl
@[simp] theorem State.bridges_with_bridges (s : State) (v : Bridges) : ({ s with bridges := v } : State).bridges = v := rfl
@[simp] theorem State.elems_with_bridges (s : State) (v : Bridges) : ({ s with bridges := v } : State).elems = s.elems := rfl
@[simp] theorem State.sources_with_bridges (s : State) (v : Bridges) : ({ s with bridges := v } : State).sources = s.sources := rfl
@[simp] theorem State.trellis_with_bridges (s : State) (v : Bridges) : ({ s with bridges := v } : State).trellis = s.trellis := rfl
@[simp] theorem State.inputs_with_bridges (s : State) (v : Bridges) : ({ s with bridges := v } : State).inputs = s.inputs := rfl
@[simp] theorem State.fieldOuts_with_bridges (s : State) (v : Bridges) : ({ s with bridges := v } : State).fieldOuts = s.fieldOuts := rfl
@[simp] theorem State.fieldBank_with_bridges (s : State) (v : Bridges) : ({ s with bridges := v } : State).fieldBank = s.fieldBank := rfl
@[simp] theorem State.bus_with_bridges (s : State) (v : Bridges) : ({ s with bridges := v } : State).bus = s.bus := rfl
@[simp] theorem State.aq_with_bridges (s : State) (v : Bridges) : ({ s with bridges := v } : State).aq = s.aq := rfl
@[simp] theorem State.kp_with_bridges (s : State) (v : Bridges) : ({ s with bridges := v } : State).kp = s.kp := rfl
@[simp] theorem State.meas_with_bridges (s : State) (v : Bridges) : ({ s with bridges := v } : State).meas = s.meas := rfl
@[simp] theorem State.start_with_bridges (s : State) (v : Bridges) : ({ s with bridges := v } : State).start = s.start := rfl
@[simp] theorem State.cus_with_bridges (s : State) (v : Bridges) : ({ s with bridges := v } : State).cus = s.cus := rfl
@[simp] theorem State.scrub_with_bridges (s : State) (v : Bridges) : ({ s with bridges := v } : State).scrub = s.scrub := rfl
@[simp] theorem State.pow_with_bridges (s : State) (v : Bridges) : ({ s with bridges := v } : State).pow = s.pow := rfl
@[simp] theorem State.net_with_bridges (s : State) (v : Bridges) : ({ s with bridges := v } : State).net = s.net := rfl
@[simp] theorem State.gate_with_bridges (s : State) (v : Bridges) : ({ s with bridges := v } : State).gate = s.gate := rfl
@[simp] theorem State.upd_with_bridges (s : State) (v : Bridges) : ({ s with bridges := v } : State).upd = s.upd := rfl
@[simp] theorem State.pending_with_elems (s : State) (v : Tab Elem) : ({ s with elems := v } : State).pending = s.pending := rfl
@[simp] theorem State.now_with_elems (s : State) (v : Tab Elem) : ({ s with elems := v } : State).now = s.now := rfl
@[simp] theorem State.wwt_with_elems (s : State) (v : Tab Elem) : ({ s with elems := v } : State).wwt = s.wwt := rfl
@[simp] theorem State.draws_with_elems (s : State) (v : Tab Elem) : ({ s with elems := v } : State).draws = s.draws := rfl
@[simp] theorem State.regs_with_elems (s : State) (v : Tab Elem) : ({ s with elems := v } : State).regs = s.regs := rfl
@[simp] theorem State.prev_with_elems (s : State) (v : Tab Elem) : ({ s with elems := v } : State).prev = s.prev := rfl
@[simp] theorem State.dieEn_with_elems (s : State) (v : Tab Elem) : ({ s with elems := v } : State).dieEn = s.dieEn := rfl
@[simp] theorem State.mem_with_elems (s : State) (v : Tab Elem) : ({ s with elems := v } : State).mem = s.mem := rfl
@[simp] theorem State.out_with_elems (s : State) (v : Tab Elem) : ({ s with elems := v } : State).out = s.out := rfl
@[simp] theorem State.wlSet_with_elems (s : State) (v : Tab Elem) : ({ s with elems := v } : State).wlSet = s.wlSet := rfl
@[simp] theorem State.rep_with_elems (s : State) (v : Tab Elem) : ({ s with elems := v } : State).rep = s.rep := rfl
@[simp] theorem State.hosts_with_elems (s : State) (v : Tab Elem) : ({ s with elems := v } : State).hosts = s.hosts := rfl
@[simp] theorem State.dies_with_elems (s : State) (v : Tab Elem) : ({ s with elems := v } : State).dies = s.dies := rfl
@[simp] theorem State.cvs_with_elems (s : State) (v : Tab Elem) : ({ s with elems := v } : State).cvs = s.cvs := rfl
@[simp] theorem State.lock_with_elems (s : State) (v : Tab Elem) : ({ s with elems := v } : State).lock = s.lock := rfl
@[simp] theorem State.banks_with_elems (s : State) (v : Tab Elem) : ({ s with elems := v } : State).banks = s.banks := rfl
@[simp] theorem State.sup_with_elems (s : State) (v : Tab Elem) : ({ s with elems := v } : State).sup = s.sup := rfl
@[simp] theorem State.chans_with_elems (s : State) (v : Tab Elem) : ({ s with elems := v } : State).chans = s.chans := rfl
@[simp] theorem State.uvs_with_elems (s : State) (v : Tab Elem) : ({ s with elems := v } : State).uvs = s.uvs := rfl
@[simp] theorem State.valves_with_elems (s : State) (v : Tab Elem) : ({ s with elems := v } : State).valves = s.valves := rfl
@[simp] theorem State.motors_with_elems (s : State) (v : Tab Elem) : ({ s with elems := v } : State).motors = s.motors := rfl
@[simp] theorem State.bridges_with_elems (s : State) (v : Tab Elem) : ({ s with elems := v } : State).bridges = s.bridges := rfl
@[simp] theorem State.elems_with_elems (s : State) (v : Tab Elem) : ({ s with elems := v } : State).elems = v := rfl
@[simp] theorem State.sources_with_elems (s : State) (v : Tab Elem) : ({ s with elems := v } : State).sources = s.sources := rfl
@[simp] theorem State.trellis_with_elems (s : State) (v : Tab Elem) : ({ s with elems := v } : State).trellis = s.trellis := rfl
@[simp] theorem State.inputs_with_elems (s : State) (v : Tab Elem) : ({ s with elems := v } : State).inputs = s.inputs := rfl
@[simp] theorem State.fieldOuts_with_elems (s : State) (v : Tab Elem) : ({ s with elems := v } : State).fieldOuts = s.fieldOuts := rfl
@[simp] theorem State.fieldBank_with_elems (s : State) (v : Tab Elem) : ({ s with elems := v } : State).fieldBank = s.fieldBank := rfl
@[simp] theorem State.bus_with_elems (s : State) (v : Tab Elem) : ({ s with elems := v } : State).bus = s.bus := rfl
@[simp] theorem State.aq_with_elems (s : State) (v : Tab Elem) : ({ s with elems := v } : State).aq = s.aq := rfl
@[simp] theorem State.kp_with_elems (s : State) (v : Tab Elem) : ({ s with elems := v } : State).kp = s.kp := rfl
@[simp] theorem State.meas_with_elems (s : State) (v : Tab Elem) : ({ s with elems := v } : State).meas = s.meas := rfl
@[simp] theorem State.start_with_elems (s : State) (v : Tab Elem) : ({ s with elems := v } : State).start = s.start := rfl
@[simp] theorem State.cus_with_elems (s : State) (v : Tab Elem) : ({ s with elems := v } : State).cus = s.cus := rfl
@[simp] theorem State.scrub_with_elems (s : State) (v : Tab Elem) : ({ s with elems := v } : State).scrub = s.scrub := rfl
@[simp] theorem State.pow_with_elems (s : State) (v : Tab Elem) : ({ s with elems := v } : State).pow = s.pow := rfl
@[simp] theorem State.net_with_elems (s : State) (v : Tab Elem) : ({ s with elems := v } : State).net = s.net := rfl
@[simp] theorem State.gate_with_elems (s : State) (v : Tab Elem) : ({ s with elems := v } : State).gate = s.gate := rfl
@[simp] theorem State.upd_with_elems (s : State) (v : Tab Elem) : ({ s with elems := v } : State).upd = s.upd := rfl
@[simp] theorem State.pending_with_sources (s : State) (v : Tab Source) : ({ s with sources := v } : State).pending = s.pending := rfl
@[simp] theorem State.now_with_sources (s : State) (v : Tab Source) : ({ s with sources := v } : State).now = s.now := rfl
@[simp] theorem State.wwt_with_sources (s : State) (v : Tab Source) : ({ s with sources := v } : State).wwt = s.wwt := rfl
@[simp] theorem State.draws_with_sources (s : State) (v : Tab Source) : ({ s with sources := v } : State).draws = s.draws := rfl
@[simp] theorem State.regs_with_sources (s : State) (v : Tab Source) : ({ s with sources := v } : State).regs = s.regs := rfl
@[simp] theorem State.prev_with_sources (s : State) (v : Tab Source) : ({ s with sources := v } : State).prev = s.prev := rfl
@[simp] theorem State.dieEn_with_sources (s : State) (v : Tab Source) : ({ s with sources := v } : State).dieEn = s.dieEn := rfl
@[simp] theorem State.mem_with_sources (s : State) (v : Tab Source) : ({ s with sources := v } : State).mem = s.mem := rfl
@[simp] theorem State.out_with_sources (s : State) (v : Tab Source) : ({ s with sources := v } : State).out = s.out := rfl
@[simp] theorem State.wlSet_with_sources (s : State) (v : Tab Source) : ({ s with sources := v } : State).wlSet = s.wlSet := rfl
@[simp] theorem State.rep_with_sources (s : State) (v : Tab Source) : ({ s with sources := v } : State).rep = s.rep := rfl
@[simp] theorem State.hosts_with_sources (s : State) (v : Tab Source) : ({ s with sources := v } : State).hosts = s.hosts := rfl
@[simp] theorem State.dies_with_sources (s : State) (v : Tab Source) : ({ s with sources := v } : State).dies = s.dies := rfl
@[simp] theorem State.cvs_with_sources (s : State) (v : Tab Source) : ({ s with sources := v } : State).cvs = s.cvs := rfl
@[simp] theorem State.lock_with_sources (s : State) (v : Tab Source) : ({ s with sources := v } : State).lock = s.lock := rfl
@[simp] theorem State.banks_with_sources (s : State) (v : Tab Source) : ({ s with sources := v } : State).banks = s.banks := rfl
@[simp] theorem State.sup_with_sources (s : State) (v : Tab Source) : ({ s with sources := v } : State).sup = s.sup := rfl
@[simp] theorem State.chans_with_sources (s : State) (v : Tab Source) : ({ s with sources := v } : State).chans = s.chans := rfl
@[simp] theorem State.uvs_with_sources (s : State) (v : Tab Source) : ({ s with sources := v } : State).uvs = s.uvs := rfl
@[simp] theorem State.valves_with_sources (s : State) (v : Tab Source) : ({ s with sources := v } : State).valves = s.valves := rfl
@[simp] theorem State.motors_with_sources (s : State) (v : Tab Source) : ({ s with sources := v } : State).motors = s.motors := rfl
@[simp] theorem State.bridges_with_sources (s : State) (v : Tab Source) : ({ s with sources := v } : State).bridges = s.bridges := rfl
@[simp] theorem State.elems_with_sources (s : State) (v : Tab Source) : ({ s with sources := v } : State).elems = s.elems := rfl
@[simp] theorem State.sources_with_sources (s : State) (v : Tab Source) : ({ s with sources := v } : State).sources = v := rfl
@[simp] theorem State.trellis_with_sources (s : State) (v : Tab Source) : ({ s with sources := v } : State).trellis = s.trellis := rfl
@[simp] theorem State.inputs_with_sources (s : State) (v : Tab Source) : ({ s with sources := v } : State).inputs = s.inputs := rfl
@[simp] theorem State.fieldOuts_with_sources (s : State) (v : Tab Source) : ({ s with sources := v } : State).fieldOuts = s.fieldOuts := rfl
@[simp] theorem State.fieldBank_with_sources (s : State) (v : Tab Source) : ({ s with sources := v } : State).fieldBank = s.fieldBank := rfl
@[simp] theorem State.bus_with_sources (s : State) (v : Tab Source) : ({ s with sources := v } : State).bus = s.bus := rfl
@[simp] theorem State.aq_with_sources (s : State) (v : Tab Source) : ({ s with sources := v } : State).aq = s.aq := rfl
@[simp] theorem State.kp_with_sources (s : State) (v : Tab Source) : ({ s with sources := v } : State).kp = s.kp := rfl
@[simp] theorem State.meas_with_sources (s : State) (v : Tab Source) : ({ s with sources := v } : State).meas = s.meas := rfl
@[simp] theorem State.start_with_sources (s : State) (v : Tab Source) : ({ s with sources := v } : State).start = s.start := rfl
@[simp] theorem State.cus_with_sources (s : State) (v : Tab Source) : ({ s with sources := v } : State).cus = s.cus := rfl
@[simp] theorem State.scrub_with_sources (s : State) (v : Tab Source) : ({ s with sources := v } : State).scrub = s.scrub := rfl
@[simp] theorem State.pow_with_sources (s : State) (v : Tab Source) : ({ s with sources := v } : State).pow = s.pow := rfl
@[simp] theorem State.net_with_sources (s : State) (v : Tab Source) : ({ s with sources := v } : State).net = s.net := rfl
@[simp] theorem State.gate_with_sources (s : State) (v : Tab Source) : ({ s with sources := v } : State).gate = s.gate := rfl
@[simp] theorem State.upd_with_sources (s : State) (v : Tab Source) : ({ s with sources := v } : State).upd = s.upd := rfl
@[simp] theorem State.pending_with_trellis (s : State) (v : Trellis) : ({ s with trellis := v } : State).pending = s.pending := rfl
@[simp] theorem State.now_with_trellis (s : State) (v : Trellis) : ({ s with trellis := v } : State).now = s.now := rfl
@[simp] theorem State.wwt_with_trellis (s : State) (v : Trellis) : ({ s with trellis := v } : State).wwt = s.wwt := rfl
@[simp] theorem State.draws_with_trellis (s : State) (v : Trellis) : ({ s with trellis := v } : State).draws = s.draws := rfl
@[simp] theorem State.regs_with_trellis (s : State) (v : Trellis) : ({ s with trellis := v } : State).regs = s.regs := rfl
@[simp] theorem State.prev_with_trellis (s : State) (v : Trellis) : ({ s with trellis := v } : State).prev = s.prev := rfl
@[simp] theorem State.dieEn_with_trellis (s : State) (v : Trellis) : ({ s with trellis := v } : State).dieEn = s.dieEn := rfl
@[simp] theorem State.mem_with_trellis (s : State) (v : Trellis) : ({ s with trellis := v } : State).mem = s.mem := rfl
@[simp] theorem State.out_with_trellis (s : State) (v : Trellis) : ({ s with trellis := v } : State).out = s.out := rfl
@[simp] theorem State.wlSet_with_trellis (s : State) (v : Trellis) : ({ s with trellis := v } : State).wlSet = s.wlSet := rfl
@[simp] theorem State.rep_with_trellis (s : State) (v : Trellis) : ({ s with trellis := v } : State).rep = s.rep := rfl
@[simp] theorem State.hosts_with_trellis (s : State) (v : Trellis) : ({ s with trellis := v } : State).hosts = s.hosts := rfl
@[simp] theorem State.dies_with_trellis (s : State) (v : Trellis) : ({ s with trellis := v } : State).dies = s.dies := rfl
@[simp] theorem State.cvs_with_trellis (s : State) (v : Trellis) : ({ s with trellis := v } : State).cvs = s.cvs := rfl
@[simp] theorem State.lock_with_trellis (s : State) (v : Trellis) : ({ s with trellis := v } : State).lock = s.lock := rfl
@[simp] theorem State.banks_with_trellis (s : State) (v : Trellis) : ({ s with trellis := v } : State).banks = s.banks := rfl
@[simp] theorem State.sup_with_trellis (s : State) (v : Trellis) : ({ s with trellis := v } : State).sup = s.sup := rfl
@[simp] theorem State.chans_with_trellis (s : State) (v : Trellis) : ({ s with trellis := v } : State).chans = s.chans := rfl
@[simp] theorem State.uvs_with_trellis (s : State) (v : Trellis) : ({ s with trellis := v } : State).uvs = s.uvs := rfl
@[simp] theorem State.valves_with_trellis (s : State) (v : Trellis) : ({ s with trellis := v } : State).valves = s.valves := rfl
@[simp] theorem State.motors_with_trellis (s : State) (v : Trellis) : ({ s with trellis := v } : State).motors = s.motors := rfl
@[simp] theorem State.bridges_with_trellis (s : State) (v : Trellis) : ({ s with trellis := v } : State).bridges = s.bridges := rfl
@[simp] theorem State.elems_with_trellis (s : State) (v : Trellis) : ({ s with trellis := v } : State).elems = s.elems := rfl
@[simp] theorem State.sources_with_trellis (s : State) (v : Trellis) : ({ s with trellis := v } : State).sources = s.sources := rfl
@[simp] theorem State.trellis_with_trellis (s : State) (v : Trellis) : ({ s with trellis := v } : State).trellis = v := rfl
@[simp] theorem State.inputs_with_trellis (s : State) (v : Trellis) : ({ s with trellis := v } : State).inputs = s.inputs := rfl
@[simp] theorem State.fieldOuts_with_trellis (s : State) (v : Trellis) : ({ s with trellis := v } : State).fieldOuts = s.fieldOuts := rfl
@[simp] theorem State.fieldBank_with_trellis (s : State) (v : Trellis) : ({ s with trellis := v } : State).fieldBank = s.fieldBank := rfl
@[simp] theorem State.bus_with_trellis (s : State) (v : Trellis) : ({ s with trellis := v } : State).bus = s.bus := rfl
@[simp] theorem State.aq_with_trellis (s : State) (v : Trellis) : ({ s with trellis := v } : State).aq = s.aq := rfl
@[simp] theorem State.kp_with_trellis (s : State) (v : Trellis) : ({ s with trellis := v } : State).kp = s.kp := rfl
@[simp] theorem State.meas_with_trellis (s : State) (v : Trellis) : ({ s with trellis := v } : State).meas = s.meas := rfl
@[simp] theorem State.start_with_trellis (s : State) (v : Trellis) : ({ s with trellis := v } : State).start = s.start := rfl
@[simp] theorem State.cus_with_trellis (s : State) (v : Trellis) : ({ s with trellis := v } : State).cus = s.cus := rfl
@[simp] theorem State.scrub_with_trellis (s : State) (v : Trellis) : ({ s with trellis := v } : State).scrub = s.scrub := rfl
@[simp] theorem State.pow_with_trellis (s : State) (v : Trellis) : ({ s with trellis := v } : State).pow = s.pow := rfl
@[simp] theorem State.net_with_trellis (s : State) (v : Trellis) : ({ s with trellis := v } : State).net = s.net := rfl
@[simp] theorem State.gate_with_trellis (s : State) (v : Trellis) : ({ s with trellis := v } : State).gate = s.gate := rfl
@[simp] theorem State.upd_with_trellis (s : State) (v : Trellis) : ({ s with trellis := v } : State).upd = s.upd := rfl
@[simp] theorem State.pending_with_inputs (s : State) (v : Tab Input) : ({ s with inputs := v } : State).pending = s.pending := rfl
@[simp] theorem State.now_with_inputs (s : State) (v : Tab Input) : ({ s with inputs := v } : State).now = s.now := rfl
@[simp] theorem State.wwt_with_inputs (s : State) (v : Tab Input) : ({ s with inputs := v } : State).wwt = s.wwt := rfl
@[simp] theorem State.draws_with_inputs (s : State) (v : Tab Input) : ({ s with inputs := v } : State).draws = s.draws := rfl
@[simp] theorem State.regs_with_inputs (s : State) (v : Tab Input) : ({ s with inputs := v } : State).regs = s.regs := rfl
@[simp] theorem State.prev_with_inputs (s : State) (v : Tab Input) : ({ s with inputs := v } : State).prev = s.prev := rfl
@[simp] theorem State.dieEn_with_inputs (s : State) (v : Tab Input) : ({ s with inputs := v } : State).dieEn = s.dieEn := rfl
@[simp] theorem State.mem_with_inputs (s : State) (v : Tab Input) : ({ s with inputs := v } : State).mem = s.mem := rfl
@[simp] theorem State.out_with_inputs (s : State) (v : Tab Input) : ({ s with inputs := v } : State).out = s.out := rfl
@[simp] theorem State.wlSet_with_inputs (s : State) (v : Tab Input) : ({ s with inputs := v } : State).wlSet = s.wlSet := rfl
@[simp] theorem State.rep_with_inputs (s : State) (v : Tab Input) : ({ s with inputs := v } : State).rep = s.rep := rfl
@[simp] theorem State.hosts_with_inputs (s : State) (v : Tab Input) : ({ s with inputs := v } : State).hosts = s.hosts := rfl
@[simp] theorem State.dies_with_inputs (s : State) (v : Tab Input) : ({ s with inputs := v } : State).dies = s.dies := rfl
@[simp] theorem State.cvs_with_inputs (s : State) (v : Tab Input) : ({ s with inputs := v } : State).cvs = s.cvs := rfl
@[simp] theorem State.lock_with_inputs (s : State) (v : Tab Input) : ({ s with inputs := v } : State).lock = s.lock := rfl
@[simp] theorem State.banks_with_inputs (s : State) (v : Tab Input) : ({ s with inputs := v } : State).banks = s.banks := rfl
@[simp] theorem State.sup_with_inputs (s : State) (v : Tab Input) : ({ s with inputs := v } : State).sup = s.sup := rfl
@[simp] theorem State.chans_with_inputs (s : State) (v : Tab Input) : ({ s with inputs := v } : State).chans = s.chans := rfl
@[simp] theorem State.uvs_with_inputs (s : State) (v : Tab Input) : ({ s with inputs := v } : State).uvs = s.uvs := rfl
@[simp] theorem State.valves_with_inputs (s : State) (v : Tab Input) : ({ s with inputs := v } : State).valves = s.valves := rfl
@[simp] theorem State.motors_with_inputs (s : State) (v : Tab Input) : ({ s with inputs := v } : State).motors = s.motors := rfl
@[simp] theorem State.bridges_with_inputs (s : State) (v : Tab Input) : ({ s with inputs := v } : State).bridges = s.bridges := rfl
@[simp] theorem State.elems_with_inputs (s : State) (v : Tab Input) : ({ s with inputs := v } : State).elems = s.elems := rfl
@[simp] theorem State.sources_with_inputs (s : State) (v : Tab Input) : ({ s with inputs := v } : State).sources = s.sources := rfl
@[simp] theorem State.trellis_with_inputs (s : State) (v : Tab Input) : ({ s with inputs := v } : State).trellis = s.trellis := rfl
@[simp] theorem State.inputs_with_inputs (s : State) (v : Tab Input) : ({ s with inputs := v } : State).inputs = v := rfl
@[simp] theorem State.fieldOuts_with_inputs (s : State) (v : Tab Input) : ({ s with inputs := v } : State).fieldOuts = s.fieldOuts := rfl
@[simp] theorem State.fieldBank_with_inputs (s : State) (v : Tab Input) : ({ s with inputs := v } : State).fieldBank = s.fieldBank := rfl
@[simp] theorem State.bus_with_inputs (s : State) (v : Tab Input) : ({ s with inputs := v } : State).bus = s.bus := rfl
@[simp] theorem State.aq_with_inputs (s : State) (v : Tab Input) : ({ s with inputs := v } : State).aq = s.aq := rfl
@[simp] theorem State.kp_with_inputs (s : State) (v : Tab Input) : ({ s with inputs := v } : State).kp = s.kp := rfl
@[simp] theorem State.meas_with_inputs (s : State) (v : Tab Input) : ({ s with inputs := v } : State).meas = s.meas := rfl
@[simp] theorem State.start_with_inputs (s : State) (v : Tab Input) : ({ s with inputs := v } : State).start = s.start := rfl
@[simp] theorem State.cus_with_inputs (s : State) (v : Tab Input) : ({ s with inputs := v } : State).cus = s.cus := rfl
@[simp] theorem State.scrub_with_inputs (s : State) (v : Tab Input) : ({ s with inputs := v } : State).scrub = s.scrub := rfl
@[simp] theorem State.pow_with_inputs (s : State) (v : Tab Input) : ({ s with inputs := v } : State).pow = s.pow := rfl
@[simp] theorem State.net_with_inputs (s : State) (v : Tab Input) : ({ s with inputs := v } : State).net = s.net := rfl
@[simp] theorem State.gate_with_inputs (s : State) (v : Tab Input) : ({ s with inputs := v } : State).gate = s.gate := rfl
@[simp] theorem State.upd_with_inputs (s : State) (v : Tab Input) : ({ s with inputs := v } : State).upd = s.upd := rfl
@[simp] theorem State.pending_with_fieldOuts (s : State) (v : Tab FieldOut) : ({ s with fieldOuts := v } : State).pending = s.pending := rfl
@[simp] theorem State.now_with_fieldOuts (s : State) (v : Tab FieldOut) : ({ s with fieldOuts := v } : State).now = s.now := rfl
@[simp] theorem State.wwt_with_fieldOuts (s : State) (v : Tab FieldOut) : ({ s with fieldOuts := v } : State).wwt = s.wwt := rfl
@[simp] theorem State.draws_with_fieldOuts (s : State) (v : Tab FieldOut) : ({ s with fieldOuts := v } : State).draws = s.draws := rfl
@[simp] theorem State.regs_with_fieldOuts (s : State) (v : Tab FieldOut) : ({ s with fieldOuts := v } : State).regs = s.regs := rfl
@[simp] theorem State.prev_with_fieldOuts (s : State) (v : Tab FieldOut) : ({ s with fieldOuts := v } : State).prev = s.prev := rfl
@[simp] theorem State.dieEn_with_fieldOuts (s : State) (v : Tab FieldOut) : ({ s with fieldOuts := v } : State).dieEn = s.dieEn := rfl
@[simp] theorem State.mem_with_fieldOuts (s : State) (v : Tab FieldOut) : ({ s with fieldOuts := v } : State).mem = s.mem := rfl
@[simp] theorem State.out_with_fieldOuts (s : State) (v : Tab FieldOut) : ({ s with fieldOuts := v } : State).out = s.out := rfl
@[simp] theorem State.wlSet_with_fieldOuts (s : State) (v : Tab FieldOut) : ({ s with fieldOuts := v } : State).wlSet = s.wlSet := rfl
@[simp] theorem State.rep_with_fieldOuts (s : State) (v : Tab FieldOut) : ({ s with fieldOuts := v } : State).rep = s.rep := rfl
@[simp] theorem State.hosts_with_fieldOuts (s : State) (v : Tab FieldOut) : ({ s with fieldOuts := v } : State).hosts = s.hosts := rfl
@[simp] theorem State.dies_with_fieldOuts (s : State) (v : Tab FieldOut) : ({ s with fieldOuts := v } : State).dies = s.dies := rfl
@[simp] theorem State.cvs_with_fieldOuts (s : State) (v : Tab FieldOut) : ({ s with fieldOuts := v } : State).cvs = s.cvs := rfl
@[simp] theorem State.lock_with_fieldOuts (s : State) (v : Tab FieldOut) : ({ s with fieldOuts := v } : State).lock = s.lock := rfl
@[simp] theorem State.banks_with_fieldOuts (s : State) (v : Tab FieldOut) : ({ s with fieldOuts := v } : State).banks = s.banks := rfl
@[simp] theorem State.sup_with_fieldOuts (s : State) (v : Tab FieldOut) : ({ s with fieldOuts := v } : State).sup = s.sup := rfl
@[simp] theorem State.chans_with_fieldOuts (s : State) (v : Tab FieldOut) : ({ s with fieldOuts := v } : State).chans = s.chans := rfl
@[simp] theorem State.uvs_with_fieldOuts (s : State) (v : Tab FieldOut) : ({ s with fieldOuts := v } : State).uvs = s.uvs := rfl
@[simp] theorem State.valves_with_fieldOuts (s : State) (v : Tab FieldOut) : ({ s with fieldOuts := v } : State).valves = s.valves := rfl
@[simp] theorem State.motors_with_fieldOuts (s : State) (v : Tab FieldOut) : ({ s with fieldOuts := v } : State).motors = s.motors := rfl
@[simp] theorem State.bridges_with_fieldOuts (s : State) (v : Tab FieldOut) : ({ s with fieldOuts := v } : State).bridges = s.bridges := rfl
@[simp] theorem State.elems_with_fieldOuts (s : State) (v : Tab FieldOut) : ({ s with fieldOuts := v } : State).elems = s.elems := rfl
@[simp] theorem State.sources_with_fieldOuts (s : State) (v : Tab FieldOut) : ({ s with fieldOuts := v } : State).sources = s.sources := rfl
@[simp] theorem State.trellis_with_fieldOuts (s : State) (v : Tab FieldOut) : ({ s with fieldOuts := v } : State).trellis = s.trellis := rfl
@[simp] theorem State.inputs_with_fieldOuts (s : State) (v : Tab FieldOut) : ({ s with fieldOuts := v } : State).inputs = s.inputs := rfl
@[simp] theorem State.fieldOuts_with_fieldOuts (s : State) (v : Tab FieldOut) : ({ s with fieldOuts := v } : State).fieldOuts = v := rfl
@[simp] theorem State.fieldBank_with_fieldOuts (s : State) (v : Tab FieldOut) : ({ s with fieldOuts := v } : State).fieldBank = s.fieldBank := rfl
@[simp] theorem State.bus_with_fieldOuts (s : State) (v : Tab FieldOut) : ({ s with fieldOuts := v } : State).bus = s.bus := rfl
@[simp] theorem State.aq_with_fieldOuts (s : State) (v : Tab FieldOut) : ({ s with fieldOuts := v } : State).aq = s.aq := rfl
@[simp] theorem State.kp_with_fieldOuts (s : State) (v : Tab FieldOut) : ({ s with fieldOuts := v } : State).kp = s.kp := rfl
@[simp] theorem State.meas_with_fieldOuts (s : State) (v : Tab FieldOut) : ({ s with fieldOuts := v } : State).meas = s.meas := rfl
@[simp] theorem State.start_with_fieldOuts (s : State) (v : Tab FieldOut) : ({ s with fieldOuts := v } : State).start = s.start := rfl
@[simp] theorem State.cus_with_fieldOuts (s : State) (v : Tab FieldOut) : ({ s with fieldOuts := v } : State).cus = s.cus := rfl
@[simp] theorem State.scrub_with_fieldOuts (s : State) (v : Tab FieldOut) : ({ s with fieldOuts := v } : State).scrub = s.scrub := rfl
@[simp] theorem State.pow_with_fieldOuts (s : State) (v : Tab FieldOut) : ({ s with fieldOuts := v } : State).pow = s.pow := rfl
@[simp] theorem State.net_with_fieldOuts (s : State) (v : Tab FieldOut) : ({ s with fieldOuts := v } : State).net = s.net := rfl
@[simp] theorem State.gate_with_fieldOuts (s : State) (v : Tab FieldOut) : ({ s with fieldOuts := v } : State).gate = s.gate := rfl
@[simp] theorem State.upd_with_fieldOuts (s : State) (v : Tab FieldOut) : ({ s with fieldOuts := v } : State).upd = s.upd := rfl
@[simp] theorem State.pending_with_fieldBank (s : State) (v : FieldBank) : ({ s with fieldBank := v } : State).pending = s.pending := rfl
@[simp] theorem State.now_with_fieldBank (s : State) (v : FieldBank) : ({ s with fieldBank := v } : State).now = s.now := rfl
@[simp] theorem State.wwt_with_fieldBank (s : State) (v : FieldBank) : ({ s with fieldBank := v } : State).wwt = s.wwt := rfl
@[simp] theorem State.draws_with_fieldBank (s : State) (v : FieldBank) : ({ s with fieldBank := v } : State).draws = s.draws := rfl
@[simp] theorem State.regs_with_fieldBank (s : State) (v : FieldBank) : ({ s with fieldBank := v } : State).regs = s.regs := rfl
@[simp] theorem State.prev_with_fieldBank (s : State) (v : FieldBank) : ({ s with fieldBank := v } : State).prev = s.prev := rfl
@[simp] theorem State.dieEn_with_fieldBank (s : State) (v : FieldBank) : ({ s with fieldBank := v } : State).dieEn = s.dieEn := rfl
@[simp] theorem State.mem_with_fieldBank (s : State) (v : FieldBank) : ({ s with fieldBank := v } : State).mem = s.mem := rfl
@[simp] theorem State.out_with_fieldBank (s : State) (v : FieldBank) : ({ s with fieldBank := v } : State).out = s.out := rfl
@[simp] theorem State.wlSet_with_fieldBank (s : State) (v : FieldBank) : ({ s with fieldBank := v } : State).wlSet = s.wlSet := rfl
@[simp] theorem State.rep_with_fieldBank (s : State) (v : FieldBank) : ({ s with fieldBank := v } : State).rep = s.rep := rfl
@[simp] theorem State.hosts_with_fieldBank (s : State) (v : FieldBank) : ({ s with fieldBank := v } : State).hosts = s.hosts := rfl
@[simp] theorem State.dies_with_fieldBank (s : State) (v : FieldBank) : ({ s with fieldBank := v } : State).dies = s.dies := rfl
@[simp] theorem State.cvs_with_fieldBank (s : State) (v : FieldBank) : ({ s with fieldBank := v } : State).cvs = s.cvs := rfl
@[simp] theorem State.lock_with_fieldBank (s : State) (v : FieldBank) : ({ s with fieldBank := v } : State).lock = s.lock := rfl
@[simp] theorem State.banks_with_fieldBank (s : State) (v : FieldBank) : ({ s with fieldBank := v } : State).banks = s.banks := rfl
@[simp] theorem State.sup_with_fieldBank (s : State) (v : FieldBank) : ({ s with fieldBank := v } : State).sup = s.sup := rfl
@[simp] theorem State.chans_with_fieldBank (s : State) (v : FieldBank) : ({ s with fieldBank := v } : State).chans = s.chans := rfl
@[simp] theorem State.uvs_with_fieldBank (s : State) (v : FieldBank) : ({ s with fieldBank := v } : State).uvs = s.uvs := rfl
@[simp] theorem State.valves_with_fieldBank (s : State) (v : FieldBank) : ({ s with fieldBank := v } : State).valves = s.valves := rfl
@[simp] theorem State.motors_with_fieldBank (s : State) (v : FieldBank) : ({ s with fieldBank := v } : State).motors = s.motors := rfl
@[simp] theorem State.bridges_with_fieldBank (s : State) (v : FieldBank) : ({ s with fieldBank := v } : State).bridges = s.bridges := rfl
@[simp] theorem State.elems_with_fieldBank (s : State) (v : FieldBank) : ({ s with fieldBank := v } : State).elems = s.elems := rfl
@[simp] theorem State.sources_with_fieldBank (s : State) (v : FieldBank) : ({ s with fieldBank := v } : State).sources = s.sources := rfl
@[simp] theorem State.trellis_with_fieldBank (s : State) (v : FieldBank) : ({ s with fieldBank := v } : State).trellis = s.trellis := rfl
@[simp] theorem State.inputs_with_fieldBank (s : State) (v : FieldBank) : ({ s with fieldBank := v } : State).inputs = s.inputs := rfl
@[simp] theorem State.fieldOuts_with_fieldBank (s : State) (v : FieldBank) : ({ s with fieldBank := v } : State).fieldOuts = s.fieldOuts := rfl
@[simp] theorem State.fieldBank_with_fieldBank (s : State) (v : FieldBank) : ({ s with fieldBank := v } : State).fieldBank = v := rfl
@[simp] theorem State.bus_with_fieldBank (s : State) (v : FieldBank) : ({ s with fieldBank := v } : State).bus = s.bus := rfl
@[simp] theorem State.aq_with_fieldBank (s : State) (v : FieldBank) : ({ s with fieldBank := v } : State).aq = s.aq := rfl
@[simp] theorem State.kp_with_fieldBank (s : State) (v : FieldBank) : ({ s with fieldBank := v } : State).kp = s.kp := rfl
@[simp] theorem State.meas_with_fieldBank (s : State) (v : FieldBank) : ({ s with fieldBank := v } : State).meas = s.meas := rfl
@[simp] theorem State.start_with_fieldBank (s : State) (v : FieldBank) : ({ s with fieldBank := v } : State).start = s.start := rfl
@[simp] theorem State.cus_with_fieldBank (s : State) (v : FieldBank) : ({ s with fieldBank := v } : State).cus = s.cus := rfl
@[simp] theorem State.scrub_with_fieldBank (s : State) (v : FieldBank) : ({ s with fieldBank := v } : State).scrub = s.scrub := rfl
@[simp] theorem State.pow_with_fieldBank (s : State) (v : FieldBank) : ({ s with fieldBank := v } : State).pow = s.pow := rfl
@[simp] theorem State.net_with_fieldBank (s : State) (v : FieldBank) : ({ s with fieldBank := v } : State).net = s.net := rfl
@[simp] theorem State.gate_with_fieldBank (s : State) (v : FieldBank) : ({ s with fieldBank := v } : State).gate = s.gate := rfl
@[simp] theorem State.upd_with_fieldBank (s : State) (v : FieldBank) : ({ s with fieldBank := v } : State).upd = s.upd := rfl
@[simp] theorem State.pending_with_bus (s : State) (v : Buses) : ({ s with bus := v } : State).pending = s.pending := rfl
@[simp] theorem State.now_with_bus (s : State) (v : Buses) : ({ s with bus := v } : State).now = s.now := rfl
@[simp] theorem State.wwt_with_bus (s : State) (v : Buses) : ({ s with bus := v } : State).wwt = s.wwt := rfl
@[simp] theorem State.draws_with_bus (s : State) (v : Buses) : ({ s with bus := v } : State).draws = s.draws := rfl
@[simp] theorem State.regs_with_bus (s : State) (v : Buses) : ({ s with bus := v } : State).regs = s.regs := rfl
@[simp] theorem State.prev_with_bus (s : State) (v : Buses) : ({ s with bus := v } : State).prev = s.prev := rfl
@[simp] theorem State.dieEn_with_bus (s : State) (v : Buses) : ({ s with bus := v } : State).dieEn = s.dieEn := rfl
@[simp] theorem State.mem_with_bus (s : State) (v : Buses) : ({ s with bus := v } : State).mem = s.mem := rfl
@[simp] theorem State.out_with_bus (s : State) (v : Buses) : ({ s with bus := v } : State).out = s.out := rfl
@[simp] theorem State.wlSet_with_bus (s : State) (v : Buses) : ({ s with bus := v } : State).wlSet = s.wlSet := rfl
@[simp] theorem State.rep_with_bus (s : State) (v : Buses) : ({ s with bus := v } : State).rep = s.rep := rfl
@[simp] theorem State.hosts_with_bus (s : State) (v : Buses) : ({ s with bus := v } : State).hosts = s.hosts := rfl
@[simp] theorem State.dies_with_bus (s : State) (v : Buses) : ({ s with bus := v } : State).dies = s.dies := rfl
@[simp] theorem State.cvs_with_bus (s : State) (v : Buses) : ({ s with bus := v } : State).cvs = s.cvs := rfl
@[simp] theorem State.lock_with_bus (s : State) (v : Buses) : ({ s with bus := v } : State).lock = s.lock := rfl
@[simp] theorem State.banks_with_bus (s : State) (v : Buses) : ({ s with bus := v } : State).banks = s.banks := rfl
@[simp] theorem State.sup_with_bus (s : State) (v : Buses) : ({ s with bus := v } : State).sup = s.sup := rfl
@[simp] theorem State.chans_with_bus (s : State) (v : Buses) : ({ s with bus := v } : State).chans = s.chans := rfl
@[simp] theorem State.uvs_with_bus (s : State) (v : Buses) : ({ s with bus := v } : State).uvs = s.uvs := rfl
@[simp] theorem State.valves_with_bus (s : State) (v : Buses) : ({ s with bus := v } : State).valves = s.valves := rfl
@[simp] theorem State.motors_with_bus (s : State) (v : Buses) : ({ s with bus := v } : State).motors = s.motors := rfl
@[simp] theorem State.bridges_with_bus (s : State) (v : Buses) : ({ s with bus := v } : State).bridges = s.bridges := rfl
@[simp] theorem State.elems_with_bus (s : State) (v : Buses) : ({ s with bus := v } : State).elems = s.elems := rfl
@[simp] theorem State.sources_with_bus (s : State) (v : Buses) : ({ s with bus := v } : State).sources = s.sources := rfl
@[simp] theorem State.trellis_with_bus (s : State) (v : Buses) : ({ s with bus := v } : State).trellis = s.trellis := rfl
@[simp] theorem State.inputs_with_bus (s : State) (v : Buses) : ({ s with bus := v } : State).inputs = s.inputs := rfl
@[simp] theorem State.fieldOuts_with_bus (s : State) (v : Buses) : ({ s with bus := v } : State).fieldOuts = s.fieldOuts := rfl
@[simp] theorem State.fieldBank_with_bus (s : State) (v : Buses) : ({ s with bus := v } : State).fieldBank = s.fieldBank := rfl
@[simp] theorem State.bus_with_bus (s : State) (v : Buses) : ({ s with bus := v } : State).bus = v := rfl
@[simp] theorem State.aq_with_bus (s : State) (v : Buses) : ({ s with bus := v } : State).aq = s.aq := rfl
@[simp] theorem State.kp_with_bus (s : State) (v : Buses) : ({ s with bus := v } : State).kp = s.kp := rfl
@[simp] theorem State.meas_with_bus (s : State) (v : Buses) : ({ s with bus := v } : State).meas = s.meas := rfl
@[simp] theorem State.start_with_bus (s : State) (v : Buses) : ({ s with bus := v } : State).start = s.start := rfl
@[simp] theorem State.cus_with_bus (s : State) (v : Buses) : ({ s with bus := v } : State).cus = s.cus := rfl
@[simp] theorem State.scrub_with_bus (s : State) (v : Buses) : ({ s with bus := v } : State).scrub = s.scrub := rfl
@[simp] theorem State.pow_with_bus (s : State) (v : Buses) : ({ s with bus := v } : State).pow = s.pow := rfl
@[simp] theorem State.net_with_bus (s : State) (v : Buses) : ({ s with bus := v } : State).net = s.net := rfl
@[simp] theorem State.gate_with_bus (s : State) (v : Buses) : ({ s with bus := v } : State).gate = s.gate := rfl
@[simp] theorem State.upd_with_bus (s : State) (v : Buses) : ({ s with bus := v } : State).upd = s.upd := rfl
@[simp] theorem State.pending_with_aq (s : State) (v : Aq) : ({ s with aq := v } : State).pending = s.pending := rfl
@[simp] theorem State.now_with_aq (s : State) (v : Aq) : ({ s with aq := v } : State).now = s.now := rfl
@[simp] theorem State.wwt_with_aq (s : State) (v : Aq) : ({ s with aq := v } : State).wwt = s.wwt := rfl
@[simp] theorem State.draws_with_aq (s : State) (v : Aq) : ({ s with aq := v } : State).draws = s.draws := rfl
@[simp] theorem State.regs_with_aq (s : State) (v : Aq) : ({ s with aq := v } : State).regs = s.regs := rfl
@[simp] theorem State.prev_with_aq (s : State) (v : Aq) : ({ s with aq := v } : State).prev = s.prev := rfl
@[simp] theorem State.dieEn_with_aq (s : State) (v : Aq) : ({ s with aq := v } : State).dieEn = s.dieEn := rfl
@[simp] theorem State.mem_with_aq (s : State) (v : Aq) : ({ s with aq := v } : State).mem = s.mem := rfl
@[simp] theorem State.out_with_aq (s : State) (v : Aq) : ({ s with aq := v } : State).out = s.out := rfl
@[simp] theorem State.wlSet_with_aq (s : State) (v : Aq) : ({ s with aq := v } : State).wlSet = s.wlSet := rfl
@[simp] theorem State.rep_with_aq (s : State) (v : Aq) : ({ s with aq := v } : State).rep = s.rep := rfl
@[simp] theorem State.hosts_with_aq (s : State) (v : Aq) : ({ s with aq := v } : State).hosts = s.hosts := rfl
@[simp] theorem State.dies_with_aq (s : State) (v : Aq) : ({ s with aq := v } : State).dies = s.dies := rfl
@[simp] theorem State.cvs_with_aq (s : State) (v : Aq) : ({ s with aq := v } : State).cvs = s.cvs := rfl
@[simp] theorem State.lock_with_aq (s : State) (v : Aq) : ({ s with aq := v } : State).lock = s.lock := rfl
@[simp] theorem State.banks_with_aq (s : State) (v : Aq) : ({ s with aq := v } : State).banks = s.banks := rfl
@[simp] theorem State.sup_with_aq (s : State) (v : Aq) : ({ s with aq := v } : State).sup = s.sup := rfl
@[simp] theorem State.chans_with_aq (s : State) (v : Aq) : ({ s with aq := v } : State).chans = s.chans := rfl
@[simp] theorem State.uvs_with_aq (s : State) (v : Aq) : ({ s with aq := v } : State).uvs = s.uvs := rfl
@[simp] theorem State.valves_with_aq (s : State) (v : Aq) : ({ s with aq := v } : State).valves = s.valves := rfl
@[simp] theorem State.motors_with_aq (s : State) (v : Aq) : ({ s with aq := v } : State).motors = s.motors := rfl
@[simp] theorem State.bridges_with_aq (s : State) (v : Aq) : ({ s with aq := v } : State).bridges = s.bridges := rfl
@[simp] theorem State.elems_with_aq (s : State) (v : Aq) : ({ s with aq := v } : State).elems = s.elems := rfl
@[simp] theorem State.sources_with_aq (s : State) (v : Aq) : ({ s with aq := v } : State).sources = s.sources := rfl
@[simp] theorem State.trellis_with_aq (s : State) (v : Aq) : ({ s with aq := v } : State).trellis = s.trellis := rfl
@[simp] theorem State.inputs_with_aq (s : State) (v : Aq) : ({ s with aq := v } : State).inputs = s.inputs := rfl
@[simp] theorem State.fieldOuts_with_aq (s : State) (v : Aq) : ({ s with aq := v } : State).fieldOuts = s.fieldOuts := rfl
@[simp] theorem State.fieldBank_with_aq (s : State) (v : Aq) : ({ s with aq := v } : State).fieldBank = s.fieldBank := rfl
@[simp] theorem State.bus_with_aq (s : State) (v : Aq) : ({ s with aq := v } : State).bus = s.bus := rfl
@[simp] theorem State.aq_with_aq (s : State) (v : Aq) : ({ s with aq := v } : State).aq = v := rfl
@[simp] theorem State.kp_with_aq (s : State) (v : Aq) : ({ s with aq := v } : State).kp = s.kp := rfl
@[simp] theorem State.meas_with_aq (s : State) (v : Aq) : ({ s with aq := v } : State).meas = s.meas := rfl
@[simp] theorem State.start_with_aq (s : State) (v : Aq) : ({ s with aq := v } : State).start = s.start := rfl
@[simp] theorem State.cus_with_aq (s : State) (v : Aq) : ({ s with aq := v } : State).cus = s.cus := rfl
@[simp] theorem State.scrub_with_aq (s : State) (v : Aq) : ({ s with aq := v } : State).scrub = s.scrub := rfl
@[simp] theorem State.pow_with_aq (s : State) (v : Aq) : ({ s with aq := v } : State).pow = s.pow := rfl
@[simp] theorem State.net_with_aq (s : State) (v : Aq) : ({ s with aq := v } : State).net = s.net := rfl
@[simp] theorem State.gate_with_aq (s : State) (v : Aq) : ({ s with aq := v } : State).gate = s.gate := rfl
@[simp] theorem State.upd_with_aq (s : State) (v : Aq) : ({ s with aq := v } : State).upd = s.upd := rfl
@[simp] theorem State.pending_with_kp (s : State) (v : Keepers) : ({ s with kp := v } : State).pending = s.pending := rfl
@[simp] theorem State.now_with_kp (s : State) (v : Keepers) : ({ s with kp := v } : State).now = s.now := rfl
@[simp] theorem State.wwt_with_kp (s : State) (v : Keepers) : ({ s with kp := v } : State).wwt = s.wwt := rfl
@[simp] theorem State.draws_with_kp (s : State) (v : Keepers) : ({ s with kp := v } : State).draws = s.draws := rfl
@[simp] theorem State.regs_with_kp (s : State) (v : Keepers) : ({ s with kp := v } : State).regs = s.regs := rfl
@[simp] theorem State.prev_with_kp (s : State) (v : Keepers) : ({ s with kp := v } : State).prev = s.prev := rfl
@[simp] theorem State.dieEn_with_kp (s : State) (v : Keepers) : ({ s with kp := v } : State).dieEn = s.dieEn := rfl
@[simp] theorem State.mem_with_kp (s : State) (v : Keepers) : ({ s with kp := v } : State).mem = s.mem := rfl
@[simp] theorem State.out_with_kp (s : State) (v : Keepers) : ({ s with kp := v } : State).out = s.out := rfl
@[simp] theorem State.wlSet_with_kp (s : State) (v : Keepers) : ({ s with kp := v } : State).wlSet = s.wlSet := rfl
@[simp] theorem State.rep_with_kp (s : State) (v : Keepers) : ({ s with kp := v } : State).rep = s.rep := rfl
@[simp] theorem State.hosts_with_kp (s : State) (v : Keepers) : ({ s with kp := v } : State).hosts = s.hosts := rfl
@[simp] theorem State.dies_with_kp (s : State) (v : Keepers) : ({ s with kp := v } : State).dies = s.dies := rfl
@[simp] theorem State.cvs_with_kp (s : State) (v : Keepers) : ({ s with kp := v } : State).cvs = s.cvs := rfl
@[simp] theorem State.lock_with_kp (s : State) (v : Keepers) : ({ s with kp := v } : State).lock = s.lock := rfl
@[simp] theorem State.banks_with_kp (s : State) (v : Keepers) : ({ s with kp := v } : State).banks = s.banks := rfl
@[simp] theorem State.sup_with_kp (s : State) (v : Keepers) : ({ s with kp := v } : State).sup = s.sup := rfl
@[simp] theorem State.chans_with_kp (s : State) (v : Keepers) : ({ s with kp := v } : State).chans = s.chans := rfl
@[simp] theorem State.uvs_with_kp (s : State) (v : Keepers) : ({ s with kp := v } : State).uvs = s.uvs := rfl
@[simp] theorem State.valves_with_kp (s : State) (v : Keepers) : ({ s with kp := v } : State).valves = s.valves := rfl
@[simp] theorem State.motors_with_kp (s : State) (v : Keepers) : ({ s with kp := v } : State).motors = s.motors := rfl
@[simp] theorem State.bridges_with_kp (s : State) (v : Keepers) : ({ s with kp := v } : State).bridges = s.bridges := rfl
@[simp] theorem State.elems_with_kp (s : State) (v : Keepers) : ({ s with kp := v } : State).elems = s.elems := rfl
@[simp] theorem State.sources_with_kp (s : State) (v : Keepers) : ({ s with kp := v } : State).sources = s.sources := rfl
@[simp] theorem State.trellis_with_kp (s : State) (v : Keepers) : ({ s with kp := v } : State).trellis = s.trellis := rfl
@[simp] theorem State.inputs_with_kp (s : State) (v : Keepers) : ({ s with kp := v } : State).inputs = s.inputs := rfl
@[simp] theorem State.fieldOuts_with_kp (s : State) (v : Keepers) : ({ s with kp := v } : State).fieldOuts = s.fieldOuts := rfl
@[simp] theorem State.fieldBank_with_kp (s : State) (v : Keepers) : ({ s with kp := v } : State).fieldBank = s.fieldBank := rfl
@[simp] theorem State.bus_with_kp (s : State) (v : Keepers) : ({ s with kp := v } : State).bus = s.bus := rfl
@[simp] theorem State.aq_with_kp (s : State) (v : Keepers) : ({ s with kp := v } : State).aq = s.aq := rfl
@[simp] theorem State.kp_with_kp (s : State) (v : Keepers) : ({ s with kp := v } : State).kp = v := rfl
@[simp] theorem State.meas_with_kp (s : State) (v : Keepers) : ({ s with kp := v } : State).meas = s.meas := rfl
@[simp] theorem State.start_with_kp (s : State) (v : Keepers) : ({ s with kp := v } : State).start = s.start := rfl
@[simp] theorem State.cus_with_kp (s : State) (v : Keepers) : ({ s with kp := v } : State).cus = s.cus := rfl
@[simp] theorem State.scrub_with_kp (s : State) (v : Keepers) : ({ s with kp := v } : State).scrub = s.scrub := rfl
@[simp] theorem State.pow_with_kp (s : State) (v : Keepers) : ({ s with kp := v } : State).pow = s.pow := rfl
@[simp] theorem State.net_with_kp (s : State) (v : Keepers) : ({ s with kp := v } : State).net = s.net := rfl
@[simp] theorem State.gate_with_kp (s : State) (v : Keepers) : ({ s with kp := v } : State).gate = s.gate := rfl
@[simp] theorem State.upd_with_kp (s : State) (v : Keepers) : ({ s with kp := v } : State).upd = s.upd := rfl
@[simp] theorem State.pending_with_meas (s : State) (v : Meas) : ({ s with meas := v } : State).pending = s.pending := rfl
@[simp] theorem State.now_with_meas (s : State) (v : Meas) : ({ s with meas := v } : State).now = s.now := rfl
@[simp] theorem State.wwt_with_meas (s : State) (v : Meas) : ({ s with meas := v } : State).wwt = s.wwt := rfl
@[simp] theorem State.draws_with_meas (s : State) (v : Meas) : ({ s with meas := v } : State).draws = s.draws := rfl
@[simp] theorem State.regs_with_meas (s : State) (v : Meas) : ({ s with meas := v } : State).regs = s.regs := rfl
@[simp] theorem State.prev_with_meas (s : State) (v : Meas) : ({ s with meas := v } : State).prev = s.prev := rfl
@[simp] theorem State.dieEn_with_meas (s : State) (v : Meas) : ({ s with meas := v } : State).dieEn = s.dieEn := rfl
@[simp] theorem State.mem_with_meas (s : State) (v : Meas) : ({ s with meas := v } : State).mem = s.mem := rfl
@[simp] theorem State.out_with_meas (s : State) (v : Meas) : ({ s with meas := v } : State).out = s.out := rfl
@[simp] theorem State.wlSet_with_meas (s : State) (v : Meas) : ({ s with meas := v } : State).wlSet = s.wlSet := rfl
@[simp] theorem State.rep_with_meas (s : State) (v : Meas) : ({ s with meas := v } : State).rep = s.rep := rfl
@[simp] theorem State.hosts_with_meas (s : State) (v : Meas) : ({ s with meas := v } : State).hosts = s.hosts := rfl
@[simp] theorem State.dies_with_meas (s : State) (v : Meas) : ({ s with meas := v } : State).dies = s.dies := rfl
@[simp] theorem State.cvs_with_meas (s : State) (v : Meas) : ({ s with meas := v } : State).cvs = s.cvs := rfl
@[simp] theorem State.lock_with_meas (s : State) (v : Meas) : ({ s with meas := v } : State).lock = s.lock := rfl
@[simp] theorem State.banks_with_meas (s : State) (v : Meas) : ({ s with meas := v } : State).banks = s.banks := rfl
@[simp] theorem State.sup_with_meas (s : State) (v : Meas) : ({ s with meas := v } : State).sup = s.sup := rfl
@[simp] theorem State.chans_with_meas (s : State) (v : Meas) : ({ s with meas := v } : State).chans = s.chans := rfl
@[simp] theorem State.uvs_with_meas (s : State) (v : Meas) : ({ s with meas := v } : State).uvs = s.uvs := rfl
@[simp] theorem State.valves_with_meas (s : State) (v : Meas) : ({ s with meas := v } : State).valves = s.valves := rfl
@[simp] theorem State.motors_with_meas (s : State) (v : Meas) : ({ s with meas := v } : State).motors = s.motors := rfl
@[simp] theorem State.bridges_with_meas (s : State) (v : Meas) : ({ s with meas := v } : State).bridges = s.bridges := rfl
@[simp] theorem State.elems_with_meas (s : State) (v : Meas) : ({ s with meas := v } : State).elems = s.elems := rfl
@[simp] theorem State.sources_with_meas (s : State) (v : Meas) : ({ s with meas := v } : State).sources = s.sources := rfl
@[simp] theorem State.trellis_with_meas (s : State) (v : Meas) : ({ s with meas := v } : State).trellis = s.trellis := rfl
@[simp] theorem State.inputs_with_meas (s : State) (v : Meas) : ({ s with meas := v } : State).inputs = s.inputs := rfl
@[simp] theorem State.fieldOuts_with_meas (s : State) (v : Meas) : ({ s with meas := v } : State).fieldOuts = s.fieldOuts := rfl
@[simp] theorem State.fieldBank_with_meas (s : State) (v : Meas) : ({ s with meas := v } : State).fieldBank = s.fieldBank := rfl
@[simp] theorem State.bus_with_meas (s : State) (v : Meas) : ({ s with meas := v } : State).bus = s.bus := rfl
@[simp] theorem State.aq_with_meas (s : State) (v : Meas) : ({ s with meas := v } : State).aq = s.aq := rfl
@[simp] theorem State.kp_with_meas (s : State) (v : Meas) : ({ s with meas := v } : State).kp = s.kp := rfl
@[simp] theorem State.meas_with_meas (s : State) (v : Meas) : ({ s with meas := v } : State).meas = v := rfl
@[simp] theorem State.start_with_meas (s : State) (v : Meas) : ({ s with meas := v } : State).start = s.start := rfl
@[simp] theorem State.cus_with_meas (s : State) (v : Meas) : ({ s with meas := v } : State).cus = s.cus := rfl
@[simp] theorem State.scrub_with_meas (s : State) (v : Meas) : ({ s with meas := v } : State).scrub = s.scrub := rfl
@[simp] theorem State.pow_with_meas (s : State) (v : Meas) : ({ s with meas := v } : State).pow = s.pow := rfl
@[simp] theorem State.net_with_meas (s : State) (v : Meas) : ({ s with meas := v } : State).net = s.net := rfl
@[simp] theorem State.gate_with_meas (s : State) (v : Meas) : ({ s with meas := v } : State).gate = s.gate := rfl
@[simp] theorem State.upd_with_meas (s : State) (v : Meas) : ({ s with meas := v } : State).upd = s.upd := rfl
@[simp] theorem State.pending_with_start (s : State) (v : Start) : ({ s with start := v } : State).pending = s.pending := rfl
@[simp] theorem State.now_with_start (s : State) (v : Start) : ({ s with start := v } : State).now = s.now := rfl
@[simp] theorem State.wwt_with_start (s : State) (v : Start) : ({ s with start := v } : State).wwt = s.wwt := rfl
@[simp] theorem State.draws_with_start (s : State) (v : Start) : ({ s with start := v } : State).draws = s.draws := rfl
@[simp] theorem State.regs_with_start (s : State) (v : Start) : ({ s with start := v } : State).regs = s.regs := rfl
@[simp] theorem State.prev_with_start (s : State) (v : Start) : ({ s with start := v } : State).prev = s.prev := rfl
@[simp] theorem State.dieEn_with_start (s : State) (v : Start) : ({ s with start := v } : State).dieEn = s.dieEn := rfl
@[simp] theorem State.mem_with_start (s : State) (v : Start) : ({ s with start := v } : State).mem = s.mem := rfl
@[simp] theorem State.out_with_start (s : State) (v : Start) : ({ s with start := v } : State).out = s.out := rfl
@[simp] theorem State.wlSet_with_start (s : State) (v : Start) : ({ s with start := v } : State).wlSet = s.wlSet := rfl
@[simp] theorem State.rep_with_start (s : State) (v : Start) : ({ s with start := v } : State).rep = s.rep := rfl
@[simp] theorem State.hosts_with_start (s : State) (v : Start) : ({ s with start := v } : State).hosts = s.hosts := rfl
@[simp] theorem State.dies_with_start (s : State) (v : Start) : ({ s with start := v } : State).dies = s.dies := rfl
@[simp] theorem State.cvs_with_start (s : State) (v : Start) : ({ s with start := v } : State).cvs = s.cvs := rfl
@[simp] theorem State.lock_with_start (s : State) (v : Start) : ({ s with start := v } : State).lock = s.lock := rfl
@[simp] theorem State.banks_with_start (s : State) (v : Start) : ({ s with start := v } : State).banks = s.banks := rfl
@[simp] theorem State.sup_with_start (s : State) (v : Start) : ({ s with start := v } : State).sup = s.sup := rfl
@[simp] theorem State.chans_with_start (s : State) (v : Start) : ({ s with start := v } : State).chans = s.chans := rfl
@[simp] theorem State.uvs_with_start (s : State) (v : Start) : ({ s with start := v } : State).uvs = s.uvs := rfl
@[simp] theorem State.valves_with_start (s : State) (v : Start) : ({ s with start := v } : State).valves = s.valves := rfl
@[simp] theorem State.motors_with_start (s : State) (v : Start) : ({ s with start := v } : State).motors = s.motors := rfl
@[simp] theorem State.bridges_with_start (s : State) (v : Start) : ({ s with start := v } : State).bridges = s.bridges := rfl
@[simp] theorem State.elems_with_start (s : State) (v : Start) : ({ s with start := v } : State).elems = s.elems := rfl
@[simp] theorem State.sources_with_start (s : State) (v : Start) : ({ s with start := v } : State).sources = s.sources := rfl
@[simp] theorem State.trellis_with_start (s : State) (v : Start) : ({ s with start := v } : State).trellis = s.trellis := rfl
@[simp] theorem State.inputs_with_start (s : State) (v : Start) : ({ s with start := v } : State).inputs = s.inputs := rfl
@[simp] theorem State.fieldOuts_with_start (s : State) (v : Start) : ({ s with start := v } : State).fieldOuts = s.fieldOuts := rfl
@[simp] theorem State.fieldBank_with_start (s : State) (v : Start) : ({ s with start := v } : State).fieldBank = s.fieldBank := rfl
@[simp] theorem State.bus_with_start (s : State) (v : Start) : ({ s with start := v } : State).bus = s.bus := rfl
@[simp] theorem State.aq_with_start (s : State) (v : Start) : ({ s with start := v } : State).aq = s.aq := rfl
@[simp] theorem State.kp_with_start (s : State) (v : Start) : ({ s with start := v } : State).kp = s.kp := rfl
@[simp] theorem State.meas_with_start (s : State) (v : Start) : ({ s with start := v } : State).meas = s.meas := rfl
@[simp] theorem State.start_with_start (s : State) (v : Start) : ({ s with start := v } : State).start = v := rfl
@[simp] theorem State.cus_with_start (s : State) (v : Start) : ({ s with start := v } : State).cus = s.cus := rfl
@[simp] theorem State.scrub_with_start (s : State) (v : Start) : ({ s with start := v } : State).scrub = s.scrub := rfl
@[simp] theorem State.pow_with_start (s : State) (v : Start) : ({ s with start := v } : State).pow = s.pow := rfl
@[simp] theorem State.net_with_start (s : State) (v : Start) : ({ s with start := v } : State).net = s.net := rfl
@[simp] theorem State.gate_with_start (s : State) (v : Start) : ({ s with start := v } : State).gate = s.gate := rfl
@[simp] theorem State.upd_with_start (s : State) (v : Start) : ({ s with start := v } : State).upd = s.upd := rfl
@[simp] theorem State.pending_with_cus (s : State) (v : Tab Cu) : ({ s with cus := v } : State).pending = s.pending := rfl
@[simp] theorem State.now_with_cus (s : State) (v : Tab Cu) : ({ s with cus := v } : State).now = s.now := rfl
@[simp] theorem State.wwt_with_cus (s : State) (v : Tab Cu) : ({ s with cus := v } : State).wwt = s.wwt := rfl
@[simp] theorem State.draws_with_cus (s : State) (v : Tab Cu) : ({ s with cus := v } : State).draws = s.draws := rfl
@[simp] theorem State.regs_with_cus (s : State) (v : Tab Cu) : ({ s with cus := v } : State).regs = s.regs := rfl
@[simp] theorem State.prev_with_cus (s : State) (v : Tab Cu) : ({ s with cus := v } : State).prev = s.prev := rfl
@[simp] theorem State.dieEn_with_cus (s : State) (v : Tab Cu) : ({ s with cus := v } : State).dieEn = s.dieEn := rfl
@[simp] theorem State.mem_with_cus (s : State) (v : Tab Cu) : ({ s with cus := v } : State).mem = s.mem := rfl
@[simp] theorem State.out_with_cus (s : State) (v : Tab Cu) : ({ s with cus := v } : State).out = s.out := rfl
@[simp] theorem State.wlSet_with_cus (s : State) (v : Tab Cu) : ({ s with cus := v } : State).wlSet = s.wlSet := rfl
@[simp] theorem State.rep_with_cus (s : State) (v : Tab Cu) : ({ s with cus := v } : State).rep = s.rep := rfl
@[simp] theorem State.hosts_with_cus (s : State) (v : Tab Cu) : ({ s with cus := v } : State).hosts = s.hosts := rfl
@[simp] theorem State.dies_with_cus (s : State) (v : Tab Cu) : ({ s with cus := v } : State).dies = s.dies := rfl
@[simp] theorem State.cvs_with_cus (s : State) (v : Tab Cu) : ({ s with cus := v } : State).cvs = s.cvs := rfl
@[simp] theorem State.lock_with_cus (s : State) (v : Tab Cu) : ({ s with cus := v } : State).lock = s.lock := rfl
@[simp] theorem State.banks_with_cus (s : State) (v : Tab Cu) : ({ s with cus := v } : State).banks = s.banks := rfl
@[simp] theorem State.sup_with_cus (s : State) (v : Tab Cu) : ({ s with cus := v } : State).sup = s.sup := rfl
@[simp] theorem State.chans_with_cus (s : State) (v : Tab Cu) : ({ s with cus := v } : State).chans = s.chans := rfl
@[simp] theorem State.uvs_with_cus (s : State) (v : Tab Cu) : ({ s with cus := v } : State).uvs = s.uvs := rfl
@[simp] theorem State.valves_with_cus (s : State) (v : Tab Cu) : ({ s with cus := v } : State).valves = s.valves := rfl
@[simp] theorem State.motors_with_cus (s : State) (v : Tab Cu) : ({ s with cus := v } : State).motors = s.motors := rfl
@[simp] theorem State.bridges_with_cus (s : State) (v : Tab Cu) : ({ s with cus := v } : State).bridges = s.bridges := rfl
@[simp] theorem State.elems_with_cus (s : State) (v : Tab Cu) : ({ s with cus := v } : State).elems = s.elems := rfl
@[simp] theorem State.sources_with_cus (s : State) (v : Tab Cu) : ({ s with cus := v } : State).sources = s.sources := rfl
@[simp] theorem State.trellis_with_cus (s : State) (v : Tab Cu) : ({ s with cus := v } : State).trellis = s.trellis := rfl
@[simp] theorem State.inputs_with_cus (s : State) (v : Tab Cu) : ({ s with cus := v } : State).inputs = s.inputs := rfl
@[simp] theorem State.fieldOuts_with_cus (s : State) (v : Tab Cu) : ({ s with cus := v } : State).fieldOuts = s.fieldOuts := rfl
@[simp] theorem State.fieldBank_with_cus (s : State) (v : Tab Cu) : ({ s with cus := v } : State).fieldBank = s.fieldBank := rfl
@[simp] theorem State.bus_with_cus (s : State) (v : Tab Cu) : ({ s with cus := v } : State).bus = s.bus := rfl
@[simp] theorem State.aq_with_cus (s : State) (v : Tab Cu) : ({ s with cus := v } : State).aq = s.aq := rfl
@[simp] theorem State.kp_with_cus (s : State) (v : Tab Cu) : ({ s with cus := v } : State).kp = s.kp := rfl
@[simp] theorem State.meas_with_cus (s : State) (v : Tab Cu) : ({ s with cus := v } : State).meas = s.meas := rfl
@[simp] theorem State.start_with_cus (s : State) (v : Tab Cu) : ({ s with cus := v } : State).start = s.start := rfl
@[simp] theorem State.cus_with_cus (s : State) (v : Tab Cu) : ({ s with cus := v } : State).cus = v := rfl
@[simp] theorem State.scrub_with_cus (s : State) (v : Tab Cu) : ({ s with cus := v } : State).scrub = s.scrub := rfl
@[simp] theorem State.pow_with_cus (s : State) (v : Tab Cu) : ({ s with cus := v } : State).pow = s.pow := rfl
@[simp] theorem State.net_with_cus (s : State) (v : Tab Cu) : ({ s with cus := v } : State).net = s.net := rfl
@[simp] theorem State.gate_with_cus (s : State) (v : Tab Cu) : ({ s with cus := v } : State).gate = s.gate := rfl
@[simp] theorem State.upd_with_cus (s : State) (v : Tab Cu) : ({ s with cus := v } : State).upd = s.upd := rfl
@[simp] theorem State.pending_with_scrub (s : State) (v : Scrubber) : ({ s with scrub := v } : State).pending = s.pending := rfl
@[simp] theorem State.now_with_scrub (s : State) (v : Scrubber) : ({ s with scrub := v } : State).now = s.now := rfl
@[simp] theorem State.wwt_with_scrub (s : State) (v : Scrubber) : ({ s with scrub := v } : State).wwt = s.wwt := rfl
@[simp] theorem State.draws_with_scrub (s : State) (v : Scrubber) : ({ s with scrub := v } : State).draws = s.draws := rfl
@[simp] theorem State.regs_with_scrub (s : State) (v : Scrubber) : ({ s with scrub := v } : State).regs = s.regs := rfl
@[simp] theorem State.prev_with_scrub (s : State) (v : Scrubber) : ({ s with scrub := v } : State).prev = s.prev := rfl
@[simp] theorem State.dieEn_with_scrub (s : State) (v : Scrubber) : ({ s with scrub := v } : State).dieEn = s.dieEn := rfl
@[simp] theorem State.mem_with_scrub (s : State) (v : Scrubber) : ({ s with scrub := v } : State).mem = s.mem := rfl
@[simp] theorem State.out_with_scrub (s : State) (v : Scrubber) : ({ s with scrub := v } : State).out = s.out := rfl
@[simp] theorem State.wlSet_with_scrub (s : State) (v : Scrubber) : ({ s with scrub := v } : State).wlSet = s.wlSet := rfl
@[simp] theorem State.rep_with_scrub (s : State) (v : Scrubber) : ({ s with scrub := v } : State).rep = s.rep := rfl
@[simp] theorem State.hosts_with_scrub (s : State) (v : Scrubber) : ({ s with scrub := v } : State).hosts = s.hosts := rfl
@[simp] theorem State.dies_with_scrub (s : State) (v : Scrubber) : ({ s with scrub := v } : State).dies = s.dies := rfl
@[simp] theorem State.cvs_with_scrub (s : State) (v : Scrubber) : ({ s with scrub := v } : State).cvs = s.cvs := rfl
@[simp] theorem State.lock_with_scrub (s : State) (v : Scrubber) : ({ s with scrub := v } : State).lock = s.lock := rfl
@[simp] theorem State.banks_with_scrub (s : State) (v : Scrubber) : ({ s with scrub := v } : State).banks = s.banks := rfl
@[simp] theorem State.sup_with_scrub (s : State) (v : Scrubber) : ({ s with scrub := v } : State).sup = s.sup := rfl
@[simp] theorem State.chans_with_scrub (s : State) (v : Scrubber) : ({ s with scrub := v } : State).chans = s.chans := rfl
@[simp] theorem State.uvs_with_scrub (s : State) (v : Scrubber) : ({ s with scrub := v } : State).uvs = s.uvs := rfl
@[simp] theorem State.valves_with_scrub (s : State) (v : Scrubber) : ({ s with scrub := v } : State).valves = s.valves := rfl
@[simp] theorem State.motors_with_scrub (s : State) (v : Scrubber) : ({ s with scrub := v } : State).motors = s.motors := rfl
@[simp] theorem State.bridges_with_scrub (s : State) (v : Scrubber) : ({ s with scrub := v } : State).bridges = s.bridges := rfl
@[simp] theorem State.elems_with_scrub (s : State) (v : Scrubber) : ({ s with scrub := v } : State).elems = s.elems := rfl
@[simp] theorem State.sources_with_scrub (s : State) (v : Scrubber) : ({ s with scrub := v } : State).sources = s.sources := rfl
@[simp] theorem State.trellis_with_scrub (s : State) (v : Scrubber) : ({ s with scrub := v } : State).trellis = s.trellis := rfl
@[simp] theorem State.inputs_with_scrub (s : State) (v : Scrubber) : ({ s with scrub := v } : State).inputs = s.inputs := rfl
@[simp] theorem State.fieldOuts_with_scrub (s : State) (v : Scrubber) : ({ s with scrub := v } : State).fieldOuts = s.fieldOuts := rfl
@[simp] theorem State.fieldBank_with_scrub (s : State) (v : Scrubber) : ({ s with scrub := v } : State).fieldBank = s.fieldBank := rfl
@[simp] theorem State.bus_with_scrub (s : State) (v : Scrubber) : ({ s with scrub := v } : State).bus = s.bus := rfl
@[simp] theorem State.aq_with_scrub (s : State) (v : Scrubber) : ({ s with scrub := v } : State).aq = s.aq := rfl
@[simp] theorem State.kp_with_scrub (s : State) (v : Scrubber) : ({ s with scrub := v } : State).kp = s.kp := rfl
@[simp] theorem State.meas_with_scrub (s : State) (v : Scrubber) : ({ s with scrub := v } : State).meas = s.meas := rfl
@[simp] theorem State.start_with_scrub (s : State) (v : Scrubber) : ({ s with scrub := v } : State).start = s.start := rfl
@[simp] theorem State.cus_with_scrub (s : State) (v : Scrubber) : ({ s with scrub := v } : State).cus = s.cus := rfl
@[simp] theorem State.scrub_with_scrub (s : State) (v : Scrubber) : ({ s with scrub := v } : State).scrub = v := rfl
@[simp] theorem State.pow_with_scrub (s : State) (v : Scrubber) : ({ s with scrub := v } : State).pow = s.pow := rfl
@[simp] theorem State.net_with_scrub (s : State) (v : Scrubber) : ({ s with scrub := v } : State).net = s.net := rfl
@[simp] theorem State.gate_with_scrub (s : State) (v : Scrubber) : ({ s with scrub := v } : State).gate = s.gate := rfl
@[simp] theorem State.upd_with_scrub (s : State) (v : Scrubber) : ({ s with scrub := v } : State).upd = s.upd := rfl
@[simp] theorem State.pending_with_pow (s : State) (v : Power) : ({ s with pow := v } : State).pending = s.pending := rfl
@[simp] theorem State.now_with_pow (s : State) (v : Power) : ({ s with pow := v } : State).now = s.now := rfl
@[simp] theorem State.wwt_with_pow (s : State) (v : Power) : ({ s with pow := v } : State).wwt = s.wwt := rfl
@[simp] theorem State.draws_with_pow (s : State) (v : Power) : ({ s with pow := v } : State).draws = s.draws := rfl
@[simp] theorem State.regs_with_pow (s : State) (v : Power) : ({ s with pow := v } : State).regs = s.regs := rfl
@[simp] theorem State.prev_with_pow (s : State) (v : Power) : ({ s with pow := v } : State).prev = s.prev := rfl
@[simp] theorem State.dieEn_with_pow (s : State) (v : Power) : ({ s with pow := v } : State).dieEn = s.dieEn := rfl
@[simp] theorem State.mem_with_pow (s : State) (v : Power) : ({ s with pow := v } : State).mem = s.mem := rfl
@[simp] theorem State.out_with_pow (s : State) (v : Power) : ({ s with pow := v } : State).out = s.out := rfl
@[simp] theorem State.wlSet_with_pow (s : State) (v : Power) : ({ s with pow := v } : State).wlSet = s.wlSet := rfl
@[simp] theorem State.rep_with_pow (s : State) (v : Power) : ({ s with pow := v } : State).rep = s.rep := rfl
@[simp] theorem State.hosts_with_pow (s : State) (v : Power) : ({ s with pow := v } : State).hosts = s.hosts := rfl
@[simp] theorem State.dies_with_pow (s : State) (v : Power) : ({ s with pow := v } : State).dies = s.dies := rfl
@[simp] theorem State.cvs_with_pow (s : State) (v : Power) : ({ s with pow := v } : State).cvs = s.cvs := rfl
@[simp] theorem State.lock_with_pow (s : State) (v : Power) : ({ s with pow := v } : State).lock = s.lock := rfl
@[simp] theorem State.banks_with_pow (s : State) (v : Power) : ({ s with pow := v } : State).banks = s.banks := rfl
@[simp] theorem State.sup_with_pow (s : State) (v : Power) : ({ s with pow := v } : State).sup = s.sup := rfl
@[simp] theorem State.chans_with_pow (s : State) (v : Power) : ({ s with pow := v } : State).chans = s.chans := rfl
@[simp] theorem State.uvs_with_pow (s : State) (v : Power) : ({ s with pow := v } : State).uvs = s.uvs := rfl
@[simp] theorem State.valves_with_pow (s : State) (v : Power) : ({ s with pow := v } : State).valves = s.valves := rfl
@[simp] theorem State.motors_with_pow (s : State) (v : Power) : ({ s with pow := v } : State).motors = s.motors := rfl
@[simp] theorem State.bridges_with_pow (s : State) (v : Power) : ({ s with pow := v } : State).bridges = s.bridges := rfl
@[simp] theorem State.elems_with_pow (s : State) (v : Power) : ({ s with pow := v } : State).elems = s.elems := rfl
@[simp] theorem State.sources_with_pow (s : State) (v : Power) : ({ s with pow := v } : State).sources = s.sources := rfl
@[simp] theorem State.trellis_with_pow (s : State) (v : Power) : ({ s with pow := v } : State).trellis = s.trellis := rfl
@[simp] theorem State.inputs_with_pow (s : State) (v : Power) : ({ s with pow := v } : State).inputs = s.inputs := rfl
@[simp] theorem State.fieldOuts_with_pow (s : State) (v : Power) : ({ s with pow := v } : State).fieldOuts = s.fieldOuts := rfl
@[simp] theorem State.fieldBank_with_pow (s : State) (v : Power) : ({ s with pow := v } : State).fieldBank = s.fieldBank := rfl
@[simp] theorem State.bus_with_pow (s : State) (v : Power) : ({ s with pow := v } : State).bus = s.bus := rfl
@[simp] theorem State.aq_with_pow (s : State) (v : Power) : ({ s with pow := v } : State).aq = s.aq := rfl
@[simp] theorem State.kp_with_pow (s : State) (v : Power) : ({ s with pow := v } : State).kp = s.kp := rfl
@[simp] theorem State.meas_with_pow (s : State) (v : Power) : ({ s with pow := v } : State).meas = s.meas := rfl
@[simp] theorem State.start_with_pow (s : State) (v : Power) : ({ s with pow := v } : State).start = s.start := rfl
@[simp] theorem State.cus_with_pow (s : State) (v : Power) : ({ s with pow := v } : State).cus = s.cus := rfl
@[simp] theorem State.scrub_with_pow (s : State) (v : Power) : ({ s with pow := v } : State).scrub = s.scrub := rfl
@[simp] theorem State.pow_with_pow (s : State) (v : Power) : ({ s with pow := v } : State).pow = v := rfl
@[simp] theorem State.net_with_pow (s : State) (v : Power) : ({ s with pow := v } : State).net = s.net := rfl
@[simp] theorem State.gate_with_pow (s : State) (v : Power) : ({ s with pow := v } : State).gate = s.gate := rfl
@[simp] theorem State.upd_with_pow (s : State) (v : Power) : ({ s with pow := v } : State).upd = s.upd := rfl
@[simp] theorem State.pending_with_net (s : State) (v : Net) : ({ s with net := v } : State).pending = s.pending := rfl
@[simp] theorem State.now_with_net (s : State) (v : Net) : ({ s with net := v } : State).now = s.now := rfl
@[simp] theorem State.wwt_with_net (s : State) (v : Net) : ({ s with net := v } : State).wwt = s.wwt := rfl
@[simp] theorem State.draws_with_net (s : State) (v : Net) : ({ s with net := v } : State).draws = s.draws := rfl
@[simp] theorem State.regs_with_net (s : State) (v : Net) : ({ s with net := v } : State).regs = s.regs := rfl
@[simp] theorem State.prev_with_net (s : State) (v : Net) : ({ s with net := v } : State).prev = s.prev := rfl
@[simp] theorem State.dieEn_with_net (s : State) (v : Net) : ({ s with net := v } : State).dieEn = s.dieEn := rfl
@[simp] theorem State.mem_with_net (s : State) (v : Net) : ({ s with net := v } : State).mem = s.mem := rfl
@[simp] theorem State.out_with_net (s : State) (v : Net) : ({ s with net := v } : State).out = s.out := rfl
@[simp] theorem State.wlSet_with_net (s : State) (v : Net) : ({ s with net := v } : State).wlSet = s.wlSet := rfl
@[simp] theorem State.rep_with_net (s : State) (v : Net) : ({ s with net := v } : State).rep = s.rep := rfl
@[simp] theorem State.hosts_with_net (s : State) (v : Net) : ({ s with net := v } : State).hosts = s.hosts := rfl
@[simp] theorem State.dies_with_net (s : State) (v : Net) : ({ s with net := v } : State).dies = s.dies := rfl
@[simp] theorem State.cvs_with_net (s : State) (v : Net) : ({ s with net := v } : State).cvs = s.cvs := rfl
@[simp] theorem State.lock_with_net (s : State) (v : Net) : ({ s with net := v } : State).lock = s.lock := rfl
@[simp] theorem State.banks_with_net (s : State) (v : Net) : ({ s with net := v } : State).banks = s.banks := rfl
@[simp] theorem State.sup_with_net (s : State) (v : Net) : ({ s with net := v } : State).sup = s.sup := rfl
@[simp] theorem State.chans_with_net (s : State) (v : Net) : ({ s with net := v } : State).chans = s.chans := rfl
@[simp] theorem State.uvs_with_net (s : State) (v : Net) : ({ s with net := v } : State).uvs = s.uvs := rfl
@[simp] theorem State.valves_with_net (s : State) (v : Net) : ({ s with net := v } : State).valves = s.valves := rfl
@[simp] theorem State.motors_with_net (s : State) (v : Net) : ({ s with net := v } : State).motors = s.motors := rfl
@[simp] theorem State.bridges_with_net (s : State) (v : Net) : ({ s with net := v } : State).bridges = s.bridges := rfl
@[simp] theorem State.elems_with_net (s : State) (v : Net) : ({ s with net := v } : State).elems = s.elems := rfl
@[simp] theorem State.sources_with_net (s : State) (v : Net) : ({ s with net := v } : State).sources = s.sources := rfl
@[simp] theorem State.trellis_with_net (s : State) (v : Net) : ({ s with net := v } : State).trellis = s.trellis := rfl
@[simp] theorem State.inputs_with_net (s : State) (v : Net) : ({ s with net := v } : State).inputs = s.inputs := rfl
@[simp] theorem State.fieldOuts_with_net (s : State) (v : Net) : ({ s with net := v } : State).fieldOuts = s.fieldOuts := rfl
@[simp] theorem State.fieldBank_with_net (s : State) (v : Net) : ({ s with net := v } : State).fieldBank = s.fieldBank := rfl
@[simp] theorem State.bus_with_net (s : State) (v : Net) : ({ s with net := v } : State).bus = s.bus := rfl
@[simp] theorem State.aq_with_net (s : State) (v : Net) : ({ s with net := v } : State).aq = s.aq := rfl
@[simp] theorem State.kp_with_net (s : State) (v : Net) : ({ s with net := v } : State).kp = s.kp := rfl
@[simp] theorem State.meas_with_net (s : State) (v : Net) : ({ s with net := v } : State).meas = s.meas := rfl
@[simp] theorem State.start_with_net (s : State) (v : Net) : ({ s with net := v } : State).start = s.start := rfl
@[simp] theorem State.cus_with_net (s : State) (v : Net) : ({ s with net := v } : State).cus = s.cus := rfl
@[simp] theorem State.scrub_with_net (s : State) (v : Net) : ({ s with net := v } : State).scrub = s.scrub := rfl
@[simp] theorem State.pow_with_net (s : State) (v : Net) : ({ s with net := v } : State).pow = s.pow := rfl
@[simp] theorem State.net_with_net (s : State) (v : Net) : ({ s with net := v } : State).net = v := rfl
@[simp] theorem State.gate_with_net (s : State) (v : Net) : ({ s with net := v } : State).gate = s.gate := rfl
@[simp] theorem State.upd_with_net (s : State) (v : Net) : ({ s with net := v } : State).upd = s.upd := rfl
@[simp] theorem State.pending_with_gate (s : State) (v : Gate) : ({ s with gate := v } : State).pending = s.pending := rfl
@[simp] theorem State.now_with_gate (s : State) (v : Gate) : ({ s with gate := v } : State).now = s.now := rfl
@[simp] theorem State.wwt_with_gate (s : State) (v : Gate) : ({ s with gate := v } : State).wwt = s.wwt := rfl
@[simp] theorem State.draws_with_gate (s : State) (v : Gate) : ({ s with gate := v } : State).draws = s.draws := rfl
@[simp] theorem State.regs_with_gate (s : State) (v : Gate) : ({ s with gate := v } : State).regs = s.regs := rfl
@[simp] theorem State.prev_with_gate (s : State) (v : Gate) : ({ s with gate := v } : State).prev = s.prev := rfl
@[simp] theorem State.dieEn_with_gate (s : State) (v : Gate) : ({ s with gate := v } : State).dieEn = s.dieEn := rfl
@[simp] theorem State.mem_with_gate (s : State) (v : Gate) : ({ s with gate := v } : State).mem = s.mem := rfl
@[simp] theorem State.out_with_gate (s : State) (v : Gate) : ({ s with gate := v } : State).out = s.out := rfl
@[simp] theorem State.wlSet_with_gate (s : State) (v : Gate) : ({ s with gate := v } : State).wlSet = s.wlSet := rfl
@[simp] theorem State.rep_with_gate (s : State) (v : Gate) : ({ s with gate := v } : State).rep = s.rep := rfl
@[simp] theorem State.hosts_with_gate (s : State) (v : Gate) : ({ s with gate := v } : State).hosts = s.hosts := rfl
@[simp] theorem State.dies_with_gate (s : State) (v : Gate) : ({ s with gate := v } : State).dies = s.dies := rfl
@[simp] theorem State.cvs_with_gate (s : State) (v : Gate) : ({ s with gate := v } : State).cvs = s.cvs := rfl
@[simp] theorem State.lock_with_gate (s : State) (v : Gate) : ({ s with gate := v } : State).lock = s.lock := rfl
@[simp] theorem State.banks_with_gate (s : State) (v : Gate) : ({ s with gate := v } : State).banks = s.banks := rfl
@[simp] theorem State.sup_with_gate (s : State) (v : Gate) : ({ s with gate := v } : State).sup = s.sup := rfl
@[simp] theorem State.chans_with_gate (s : State) (v : Gate) : ({ s with gate := v } : State).chans = s.chans := rfl
@[simp] theorem State.uvs_with_gate (s : State) (v : Gate) : ({ s with gate := v } : State).uvs = s.uvs := rfl
@[simp] theorem State.valves_with_gate (s : State) (v : Gate) : ({ s with gate := v } : State).valves = s.valves := rfl
@[simp] theorem State.motors_with_gate (s : State) (v : Gate) : ({ s with gate := v } : State).motors = s.motors := rfl
@[simp] theorem State.bridges_with_gate (s : State) (v : Gate) : ({ s with gate := v } : State).bridges = s.bridges := rfl
@[simp] theorem State.elems_with_gate (s : State) (v : Gate) : ({ s with gate := v } : State).elems = s.elems := rfl
@[simp] theorem State.sources_with_gate (s : State) (v : Gate) : ({ s with gate := v } : State).sources = s.sources := rfl
@[simp] theorem State.trellis_with_gate (s : State) (v : Gate) : ({ s with gate := v } : State).trellis = s.trellis := rfl
@[simp] theorem State.inputs_with_gate (s : State) (v : Gate) : ({ s with gate := v } : State).inputs = s.inputs := rfl
@[simp] theorem State.fieldOuts_with_gate (s : State) (v : Gate) : ({ s with gate := v } : State).fieldOuts = s.fieldOuts := rfl
@[simp] theorem State.fieldBank_with_gate (s : State) (v : Gate) : ({ s with gate := v } : State).fieldBank = s.fieldBank := rfl
@[simp] theorem State.bus_with_gate (s : State) (v : Gate) : ({ s with gate := v } : State).bus = s.bus := rfl
@[simp] theorem State.aq_with_gate (s : State) (v : Gate) : ({ s with gate := v } : State).aq = s.aq := rfl
@[simp] theorem State.kp_with_gate (s : State) (v : Gate) : ({ s with gate := v } : State).kp = s.kp := rfl
@[simp] theorem State.meas_with_gate (s : State) (v : Gate) : ({ s with gate := v } : State).meas = s.meas := rfl
@[simp] theorem State.start_with_gate (s : State) (v : Gate) : ({ s with gate := v } : State).start = s.start := rfl
@[simp] theorem State.cus_with_gate (s : State) (v : Gate) : ({ s with gate := v } : State).cus = s.cus := rfl
@[simp] theorem State.scrub_with_gate (s : State) (v : Gate) : ({ s with gate := v } : State).scrub = s.scrub := rfl
@[simp] theorem State.pow_with_gate (s : State) (v : Gate) : ({ s with gate := v } : State).pow = s.pow := rfl
@[simp] theorem State.net_with_gate (s : State) (v : Gate) : ({ s with gate := v } : State).net = s.net := rfl
@[simp] theorem State.gate_with_gate (s : State) (v : Gate) : ({ s with gate := v } : State).gate = v := rfl
@[simp] theorem State.upd_with_gate (s : State) (v : Gate) : ({ s with gate := v } : State).upd = s.upd := rfl
@[simp] theorem State.pending_with_upd (s : State) (v : Upd) : ({ s with upd := v } : State).pending = s.pending := rfl
@[simp] theorem State.now_with_upd (s : State) (v : Upd) : ({ s with upd := v } : State).now = s.now := rfl
@[simp] theorem State.wwt_with_upd (s : State) (v : Upd) : ({ s with upd := v } : State).wwt = s.wwt := rfl
@[simp] theorem State.draws_with_upd (s : State) (v : Upd) : ({ s with upd := v } : State).draws = s.draws := rfl
@[simp] theorem State.regs_with_upd (s : State) (v : Upd) : ({ s with upd := v } : State).regs = s.regs := rfl
@[simp] theorem State.prev_with_upd (s : State) (v : Upd) : ({ s with upd := v } : State).prev = s.prev := rfl
@[simp] theorem State.dieEn_with_upd (s : State) (v : Upd) : ({ s with upd := v } : State).dieEn = s.dieEn := rfl
@[simp] theorem State.mem_with_upd (s : State) (v : Upd) : ({ s with upd := v } : State).mem = s.mem := rfl
@[simp] theorem State.out_with_upd (s : State) (v : Upd) : ({ s with upd := v } : State).out = s.out := rfl
@[simp] theorem State.wlSet_with_upd (s : State) (v : Upd) : ({ s with upd := v } : State).wlSet = s.wlSet := rfl
@[simp] theorem State.rep_with_upd (s : State) (v : Upd) : ({ s with upd := v } : State).rep = s.rep := rfl
@[simp] theorem State.hosts_with_upd (s : State) (v : Upd) : ({ s with upd := v } : State).hosts = s.hosts := rfl
@[simp] theorem State.dies_with_upd (s : State) (v : Upd) : ({ s with upd := v } : State).dies = s.dies := rfl
@[simp] theorem State.cvs_with_upd (s : State) (v : Upd) : ({ s with upd := v } : State).cvs = s.cvs := rfl
@[simp] theorem State.lock_with_upd (s : State) (v : Upd) : ({ s with upd := v } : State).lock = s.lock := rfl
@[simp] theorem State.banks_with_upd (s : State) (v : Upd) : ({ s with upd := v } : State).banks = s.banks := rfl
@[simp] theorem State.sup_with_upd (s : State) (v : Upd) : ({ s with upd := v } : State).sup = s.sup := rfl
@[simp] theorem State.chans_with_upd (s : State) (v : Upd) : ({ s with upd := v } : State).chans = s.chans := rfl
@[simp] theorem State.uvs_with_upd (s : State) (v : Upd) : ({ s with upd := v } : State).uvs = s.uvs := rfl
@[simp] theorem State.valves_with_upd (s : State) (v : Upd) : ({ s with upd := v } : State).valves = s.valves := rfl
@[simp] theorem State.motors_with_upd (s : State) (v : Upd) : ({ s with upd := v } : State).motors = s.motors := rfl
@[simp] theorem State.bridges_with_upd (s : State) (v : Upd) : ({ s with upd := v } : State).bridges = s.bridges := rfl
@[simp] theorem State.elems_with_upd (s : State) (v : Upd) : ({ s with upd := v } : State).elems = s.elems := rfl
@[simp] theorem State.sources_with_upd (s : State) (v : Upd) : ({ s with upd := v } : State).sources = s.sources := rfl
@[simp] theorem State.trellis_with_upd (s : State) (v : Upd) : ({ s with upd := v } : State).trellis = s.trellis := rfl
@[simp] theorem State.inputs_with_upd (s : State) (v : Upd) : ({ s with upd := v } : State).inputs = s.inputs := rfl
@[simp] theorem State.fieldOuts_with_upd (s : State) (v : Upd) : ({ s with upd := v } : State).fieldOuts = s.fieldOuts := rfl
@[simp] theorem State.fieldBank_with_upd (s : State) (v : Upd) : ({ s with upd := v } : State).fieldBank = s.fieldBank := rfl
@[simp] theorem State.bus_with_upd (s : State) (v : Upd) : ({ s with upd := v } : State).bus = s.bus := rfl
@[simp] theorem State.aq_with_upd (s : State) (v : Upd) : ({ s with upd := v } : State).aq = s.aq := rfl
@[simp] theorem State.kp_with_upd (s : State) (v : Upd) : ({ s with upd := v } : State).kp = s.kp := rfl
@[simp] theorem State.meas_with_upd (s : State) (v : Upd) : ({ s with upd := v } : State).meas = s.meas := rfl
@[simp] theorem State.start_with_upd (s : State) (v : Upd) : ({ s with upd := v } : State).start = s.start := rfl
@[simp] theorem State.cus_with_upd (s : State) (v : Upd) : ({ s with upd := v } : State).cus = s.cus := rfl
@[simp] theorem State.scrub_with_upd (s : State) (v : Upd) : ({ s with upd := v } : State).scrub = s.scrub := rfl
@[simp] theorem State.pow_with_upd (s : State) (v : Upd) : ({ s with upd := v } : State).pow = s.pow := rfl
@[simp] theorem State.net_with_upd (s : State) (v : Upd) : ({ s with upd := v } : State).net = s.net := rfl
@[simp] theorem State.gate_with_upd (s : State) (v : Upd) : ({ s with upd := v } : State).gate = s.gate := rfl
@[simp] theorem State.upd_with_upd (s : State) (v : Upd) : ({ s with upd := v } : State).upd = v := rfl

end Sys2Proof.Machine
end

