-- ==== Sys2Proof/Laws/Tab.lean ====
section
/-! SUPPORT. The laws of tables: what a read gives after a write, and that every table operation keeps the
canonical form. -/

namespace Sys2Proof.Machine

variable {α : Type}

theorem Tab.find_erase_same (t : Tab α) (k : Nat) : Tab.find (Tab.erase t k) k = none := by
  induction t with
  | nil => rfl
  | cons e rest ih =>
    obtain ⟨j, v⟩ := e
    by_cases h : j = k <;> simp [Tab.erase, Tab.find, h, ih]

theorem Tab.find_erase_other (t : Tab α) {j k : Nat} (h : j ≠ k) :
    Tab.find (Tab.erase t k) j = Tab.find t j := by
  induction t with
  | nil => rfl
  | cons e rest ih =>
    obtain ⟨i, v⟩ := e
    by_cases hk : i = k
    · have : i ≠ j := fun hj => h (hj.symm.trans hk)
      simp [Tab.erase, Tab.find, hk, ih]
      exact fun hkj => absurd (hk.trans hkj) this
    · simp only [Tab.erase, if_neg hk, Tab.find, ih]

theorem Tab.find_insert_other (t : Tab α) {j k : Nat} (v : α) (h : j ≠ k) :
    Tab.find (Tab.insert t k v) j = Tab.find t j := by
  induction t with
  | nil => simp [Tab.insert, Tab.find, h.symm]
  | cons e rest ih =>
    obtain ⟨i, u⟩ := e
    by_cases hk : k < i
    · simp [Tab.insert, Tab.find, hk, h.symm]
    · simp [Tab.insert, Tab.find, hk, ih]

theorem Tab.find_insert_same (t : Tab α) (k : Nat) (v : α) (h : Tab.find t k = none) :
    Tab.find (Tab.insert t k v) k = some v := by
  induction t with
  | nil => simp [Tab.insert, Tab.find]
  | cons e rest ih =>
    obtain ⟨i, u⟩ := e
    by_cases hik : i = k
    · simp [Tab.find, hik] at h
    · simp only [Tab.find, if_neg hik] at h
      by_cases hk : k < i
      · simp [Tab.insert, Tab.find, hk]
      · simp [Tab.insert, Tab.find, hk, hik, ih h]

/-- Reading back what was put. -/
theorem Tab.get_put_same [DecidableEq α] (t : Tab α) (d : α) (k : Nat) (v : α) :
    Tab.get (Tab.put t d k v) d k = v := by
  unfold Tab.get Tab.put
  split
  · rename_i h
    simp [Tab.find_erase_same, h]
  · simp [Tab.find_insert_same _ _ _ (Tab.find_erase_same t k)]

/-- A put leaves every other entry alone, whatever the defaults. -/
theorem Tab.get_put_other [DecidableEq α] (t : Tab α) (d d' : α) {j k : Nat} (v : α) (h : j ≠ k) :
    Tab.get (Tab.put t d k v) d' j = Tab.get t d' j := by
  unfold Tab.get Tab.put
  split
  · rw [Tab.find_erase_other t h]
  · rw [Tab.find_insert_other _ v h, Tab.find_erase_other t h]

@[simp] theorem Tab.get_mod_same [DecidableEq α] (t : Tab α) (d : α) (k : Nat) (f : α → α) :
    Tab.get (Tab.mod t d k f) d k = f (Tab.get t d k) := Tab.get_put_same t d k _

theorem Tab.get_mod_other [DecidableEq α] (t : Tab α) (d : α) {j k : Nat} (f : α → α) (h : j ≠ k) :
    Tab.get (Tab.mod t d k f) d j = Tab.get t d j := Tab.get_put_other t d d _ h

/-- What one entry of a table must satisfy for its tail: smaller than every key that follows. -/
theorem Tab.wf_cons [DecidableEq α] (d : Nat → α) (k : Nat) (v : α) (rest : Tab α) :
    Tab.wf d ((k, v) :: rest) = true ↔ v ≠ d k ∧ (∀ e ∈ rest, k < e.1) ∧ Tab.wf d rest = true := by
  simp [Tab.wf, and_assoc]

theorem Tab.mem_erase (t : Tab α) (k : Nat) {e : Nat × α} (h : e ∈ Tab.erase t k) : e ∈ t ∧ e.1 ≠ k := by
  induction t with
  | nil => cases h
  | cons a rest ih =>
    obtain ⟨j, v⟩ := a
    by_cases hk : j = k
    · simp only [Tab.erase, if_pos hk] at h
      exact ⟨List.mem_cons_of_mem _ (ih h).1, (ih h).2⟩
    · simp only [Tab.erase, if_neg hk, List.mem_cons] at h
      rcases h with rfl | h
      · exact ⟨List.mem_cons_self, hk⟩
      · exact ⟨List.mem_cons_of_mem _ (ih h).1, (ih h).2⟩

theorem Tab.mem_insert (t : Tab α) (k : Nat) (v : α) {e : Nat × α} (h : e ∈ Tab.insert t k v) :
    e = (k, v) ∨ e ∈ t := by
  induction t with
  | nil => simpa [Tab.insert] using h
  | cons a rest ih =>
    obtain ⟨j, u⟩ := a
    by_cases hk : k < j
    · simpa [Tab.insert, hk] using h
    · simp only [Tab.insert, if_neg hk, List.mem_cons] at h
      rcases h with rfl | h
      · exact Or.inr List.mem_cons_self
      · exact (ih h).imp id (List.mem_cons_of_mem _)

theorem Tab.wf_erase [DecidableEq α] (d : Nat → α) (t : Tab α) (k : Nat) (h : Tab.wf d t = true) :
    Tab.wf d (Tab.erase t k) = true := by
  induction t with
  | nil => rfl
  | cons a rest ih =>
    obtain ⟨j, v⟩ := a
    obtain ⟨hv, hlt, hr⟩ := (Tab.wf_cons d j v rest).1 h
    by_cases hk : j = k
    · simpa [Tab.erase, hk] using ih hr
    · simp only [Tab.erase, if_neg hk]
      exact (Tab.wf_cons d j v _).2 ⟨hv, fun e he => hlt e (Tab.mem_erase rest k he).1, ih hr⟩

theorem Tab.wf_insert [DecidableEq α] (d : Nat → α) (t : Tab α) (k : Nat) (v : α) (hv : v ≠ d k)
    (hk : ∀ e ∈ t, e.1 ≠ k) (h : Tab.wf d t = true) : Tab.wf d (Tab.insert t k v) = true := by
  induction t with
  | nil => simp [Tab.insert, Tab.wf, hv]
  | cons a rest ih =>
    obtain ⟨j, u⟩ := a
    obtain ⟨hu, hlt, hr⟩ := (Tab.wf_cons d j u rest).1 h
    by_cases hkj : k < j
    · simp only [Tab.insert, if_pos hkj]
      refine (Tab.wf_cons d k v _).2 ⟨hv, fun e he => ?_, h⟩
      rcases List.mem_cons.1 he with rfl | he
      · exact hkj
      · exact Nat.lt_trans hkj (hlt e he)
    · simp only [Tab.insert, if_neg hkj]
      refine (Tab.wf_cons d j u _).2
        ⟨hu, fun e he => ?_, ih (fun e he => hk e (List.mem_cons_of_mem _ he)) hr⟩
      rcases Tab.mem_insert rest k v he with rfl | he
      · have := hk (j, u) List.mem_cons_self
        simp only at this ⊢
        omega
      · exact hlt e he

/-- A put keeps the canonical form. -/
theorem Tab.wf_put [DecidableEq α] (d : Nat → α) (t : Tab α) (k : Nat) (v : α) (h : Tab.wf d t = true) :
    Tab.wf d (Tab.put t (d k) k v) = true := by
  unfold Tab.put
  split
  · exact Tab.wf_erase d t k h
  · rename_i hv
    exact Tab.wf_insert d _ k v hv (fun e he => (Tab.mem_erase t k he).2) (Tab.wf_erase d t k h)

/-- Leaving entries out keeps the canonical form. -/
theorem Tab.wf_filter [DecidableEq α] (d : Nat → α) (p : Nat × α → Bool) (t : Tab α) (h : Tab.wf d t = true) :
    Tab.wf d (List.filter p t) = true := by
  induction t with
  | nil => rfl
  | cons a rest ih =>
    obtain ⟨j, v⟩ := a
    obtain ⟨hv, hlt, hr⟩ := (Tab.wf_cons d j v rest).1 h
    by_cases hp : p (j, v)
    · rw [List.filter_cons_of_pos hp]
      exact (Tab.wf_cons d j v _).2 ⟨hv, fun e he => hlt e (List.mem_of_mem_filter he), ih hr⟩
    · rw [List.filter_cons_of_neg hp]
      exact ih hr

end Sys2Proof.Machine
end

