-- ==== Sys2Proof/Laws/Regs.lean ====
section
/-! SUPPORT. The laws of registers and memory: a read after a write to the same place gives the value
written, and a write leaves every other place alone. -/

namespace Sys2Proof.Machine

@[simp] theorem State.reg_setReg_same (s : State) (a : Nat) (v : Word) : (State.setReg a v s).reg a = v :=
  Tab.get_put_same _ _ _ _

theorem State.reg_setReg_other (s : State) {a b : Nat} (v : Word) (h : b ≠ a) :
    (State.setReg a v s).reg b = s.reg b := Tab.get_put_other _ _ _ v h

/-- Everything but the registers stands when a register is written. -/
theorem State.setReg_frame (a : Nat) (v : Word) (s : State) :
    State.setReg a v s = { s with regs := Tab.put s.regs (regReset a) a v } := rfl

/-- A field inside the word, read back after it was written. -/
theorem fget_fput_same (f : Fld) (x : Nat) (v : Word) (h : f.lo + f.w ≤ 32) :
    fget f (fput f x v) = x % 2 ^ f.w := by
  unfold fget fput fmask
  rw [← BitVec.toNat_ofNat]
  congr 1
  apply BitVec.eq_of_getLsbD_eq
  intro i hi
  have h1 : f.lo + i < 32 := by omega
  simp [hi, h1]

/-- A field that shares no bit with the one written. -/
theorem fget_fput_other (f g : Fld) (x : Nat) (v : Word)
    (h : g.lo + g.w ≤ f.lo ∨ f.lo + f.w ≤ g.lo) : fget g (fput f x v) = fget g v := by
  unfold fget fput fmask
  congr 1
  apply BitVec.eq_of_getLsbD_eq
  intro i hi
  by_cases h1 : g.lo + i < 32
  · simp only [BitVec.getLsbD_extractLsb', hi, h1, decide_true, Bool.true_and, BitVec.getLsbD_or, BitVec.getLsbD_and,
      BitVec.getLsbD_not, BitVec.getLsbD_shiftLeft, BitVec.getLsbD_setWidth, BitVec.getLsbD_allOnes,
      BitVec.getLsbD_ofNat]
    rcases h with h | h
    · have : g.lo + i < f.lo := by omega
      simp [this]
    · have h2 : ¬ g.lo + i < f.lo := by omega
      have h3 : ¬ g.lo + i - f.lo < f.w := by omega
      simp [h2, h3]
  · simp [hi, BitVec.getLsbD_of_ge _ _ (Nat.le_of_not_lt h1)]

theorem State.fld_setFld_same (s : State) (a : Nat) (f : Fld) (x : Nat) (h : f.lo + f.w ≤ 32) :
    (State.setFld a f x s).fld a f = x % 2 ^ f.w := by
  unfold State.fld State.setFld
  rw [State.reg_setReg_same, fget_fput_same f x _ h]

theorem State.fld_setFld_field (s : State) (a : Nat) (f g : Fld) (x : Nat)
    (h : g.lo + g.w ≤ f.lo ∨ f.lo + f.w ≤ g.lo) : (State.setFld a f x s).fld a g = s.fld a g := by
  unfold State.fld State.setFld
  rw [State.reg_setReg_same, fget_fput_other f g x _ h]

theorem State.reg_setFld_other (s : State) {a b : Nat} (f : Fld) (x : Nat) (h : b ≠ a) :
    (State.setFld a f x s).reg b = s.reg b := State.reg_setReg_other s _ h

theorem State.fld_setFld_other (s : State) {a b : Nat} (f g : Fld) (x : Nat) (h : b ≠ a) :
    (State.setFld a f x s).fld b g = s.fld b g := by
  unfold State.fld
  rw [State.reg_setFld_other s f x h]

/-- Everything but the registers stands when a field is written. -/
theorem State.setFld_frame (a : Nat) (f : Fld) (x : Nat) (s : State) :
    State.setFld a f x s = { s with regs := (State.setFld a f x s).regs } := rfl

/-! ### Memory -/

@[simp] theorem State.byte_setByte_same (s : State) (k : Nat) (b : Byte) : (State.setByte k b s).byte k = b :=
  Tab.get_put_same _ _ _ _

theorem State.byte_setByte_other (s : State) {j k : Nat} (b : Byte) (h : j ≠ k) :
    (State.setByte k b s).byte j = s.byte j := Tab.get_put_other _ _ _ b h

theorem State.setByte_wf (s : State) (k : Nat) (b : Byte) (h : Memory.wf s.mem = true) :
    Memory.wf (State.setByte k b s).mem = true := Tab.wf_put memDefault s.mem k b h

theorem State.setBytesLE_wf (s : State) (k n v : Nat) (h : Memory.wf s.mem = true) :
    Memory.wf (State.setBytesLE k n v s).mem = true := by
  induction n generalizing s k v with
  | zero => exact h
  | succ n ih => exact ih _ _ _ (State.setByte_wf s k _ h)

/-- Bytes outside those stored stand. -/
theorem State.byte_setBytesLE_other (s : State) (j k n v : Nat) (h : j < k ∨ k + n ≤ j) :
    (State.setBytesLE k n v s).byte j = s.byte j := by
  induction n generalizing s k v with
  | zero => rfl
  | succ n ih =>
    rw [State.setBytesLE, ih _ _ _ (by omega), State.byte_setByte_other _ _ (by omega)]

/-- Everything but memory stands when bytes are stored. -/
theorem State.setBytesLE_frame (s : State) (k n v : Nat) :
    State.setBytesLE k n v s = { s with mem := (State.setBytesLE k n v s).mem } := by
  induction n generalizing s k v with
  | zero => rfl
  | succ n ih => rw [State.setBytesLE, ih]; rfl

end Sys2Proof.Machine
end

