-- ==== Sys2Proof/Laws/Report.lean ====
section
/-! SUPPORT. What raising an event or a fault can change: the report section and the registers of the event
block, the fault collector and the Logbook controller, and nothing else. -/

namespace Sys2Proof.Machine

/-- Two states whose registers agree outside the report registers. -/
def SameRegs (s t : State) : Prop := ∀ a, reportReg a = false → t.reg a = s.reg a

theorem SameRegs.refl (s : State) : SameRegs s s := fun _ _ => rfl

theorem SameRegs.trans {s t u : State} (h : SameRegs s t) (g : SameRegs t u) : SameRegs s u :=
  fun a ha => (g a ha).trans (h a ha)

theorem sameRegs_setReg (s : State) (a : Nat) (v : Word) (h : reportReg a = true) : SameRegs s (State.setReg a v s) := by
  intro b hb
  exact State.reg_setReg_other s v (by rintro rfl; simp [h] at hb)

theorem sameRegs_setFld (s : State) (a : Nat) (f : Fld) (x : Nat) (h : reportReg a = true) :
    SameRegs s (State.setFld a f x s) := sameRegs_setReg s a _ h

/-- Only the registers count. -/
theorem sameRegs_of_regs {s t u : State} (h : SameRegs s t) (e : u.regs = t.regs) : SameRegs s u :=
  fun a ha => by rw [← h a ha]; simp only [State.reg, e]

theorem reportReg_evcnt {n : Nat} (h : n < 256) : reportReg (HOST_EVCNT n) = true := by
  simp only [reportReg, HOST_EVCNT]
  simp
  omega

theorem reportReg_evpend {n : Nat} (h : n < 256) : reportReg (HOST_EVPEND (n / 16)) = true := by
  simp only [reportReg, HOST_EVPEND]
  simp
  omega

theorem reportReg_sticky {n : Nat} (h : n < 96) : reportReg (FAULT_STICKY (n / 32)) = true := by
  simp only [reportReg, FAULT_STICKY]
  simp
  omega

theorem evCount_regs (n : Nat) (s : State) (h : n < 256) : SameRegs s (evCount n s) := by
  unfold evCount
  simp only
  split
  · exact sameRegs_of_regs ((sameRegs_setFld _ _ _ _ (reportReg_evcnt h)).trans
      (sameRegs_setFld _ _ _ _ (reportReg_evpend h))) rfl
  · exact sameRegs_of_regs (sameRegs_setFld _ _ _ _ (reportReg_evcnt h)) rfl

theorem countDrop_regs (s : State) : SameRegs s (countDrop s) :=
  sameRegs_of_regs (sameRegs_setFld s LOG_STAT LOG_STAT_DROP_CNT _ rfl) rfl

theorem pushQuiet_regs (r : LogRec) (s : State) : SameRegs s (pushQuiet r s) := by
  unfold pushQuiet
  split
  · exact sameRegs_of_regs (SameRegs.refl s) rfl
  · exact countDrop_regs s

theorem raiseQuiet_regs (n i : Nat) (l : List Nat) (s : State) (h : n < 256) : SameRegs s (raiseQuiet n i l s) := by
  unfold raiseQuiet
  split
  · simp only
    split
    · exact (evCount_regs n s h).trans (pushQuiet_regs _ _)
    · exact evCount_regs n s h
  · exact SameRegs.refl s

theorem captureRegs_regs (n : Nat) (s : State) (h : n < 96) : SameRegs s (captureRegs n s) := by
  unfold captureRegs
  exact sameRegs_of_regs (((sameRegs_setFld _ _ _ _ (reportReg_sticky h)).trans
    (sameRegs_setFld _ FAULT_STAT _ _ rfl)).trans (sameRegs_setFld _ FAULT_STAT _ _ rfl)) rfl

theorem raiseFault64_regs (s : State) : SameRegs s (raiseFault64 s) := by
  unfold raiseFault64
  split
  · exact SameRegs.refl s
  split
  · exact sameRegs_of_regs (SameRegs.refl s) rfl
  · simp only
    have h := ((captureRegs_regs 64 s (by decide)).trans (pushQuiet_regs (mkRec s 2 64 0xFFFF [0]) _)).trans
      (raiseQuiet_regs 201 0xFFFF [] _ (by decide))
    split
    · exact sameRegs_of_regs ((h.trans (sameRegs_setReg _ FAULT_LAST _ rfl)).trans
        (sameRegs_setFld _ FAULT_STAT FAULT_STAT_REACTING _ rfl)) rfl
    · exact h

theorem pushRec_regs (r : LogRec) (s : State) : SameRegs s (pushRec r s) := by
  unfold pushRec
  split
  · exact sameRegs_of_regs (SameRegs.refl s) rfl
  · exact ((countDrop_regs s).trans (raiseQuiet_regs 208 _ _ _ (by decide))).trans (raiseFault64_regs _)

theorem raiseEvCore_regs (n i : Nat) (l : List Nat) (s : State) (h : n < 256) : SameRegs s (raiseEvCore n i l s) := by
  unfold raiseEvCore
  split
  · simp only
    split
    · exact (evCount_regs n s h).trans (pushRec_regs _ _)
    · exact evCount_regs n s h
  · exact SameRegs.refl s

theorem raiseEv_regs (n i : Nat) (s : State) (h : n < 256) : SameRegs s (raiseEv n i s) :=
  sameRegs_of_regs (raiseEvCore_regs n i [] s h) rfl

theorem raiseEvData_regs (n i : Nat) (l : List Nat) (s : State) (h : n < 256) : SameRegs s (raiseEvData n i l s) :=
  sameRegs_of_regs (raiseEvCore_regs n i l s h) rfl

theorem logOther_regs (r : LogRec) (s : State) : SameRegs s (logOther r s) :=
  sameRegs_of_regs (pushRec_regs r s) rfl

theorem raiseFault_regs (n : Nat) (s : State) (h : n < 96) : SameRegs s (raiseFault n s) := by
  refine sameRegs_of_regs (t := raiseFaultCore n s) ?_ rfl
  unfold raiseFaultCore
  split
  · exact SameRegs.refl s
  split
  · exact sameRegs_of_regs (SameRegs.refl s) rfl
  · exact ((captureRegs_regs n s h).trans (pushRec_regs _ _)).trans (raiseEv_regs 201 _ _ (by decide))

theorem dieEv_regs (d n i : Nat) (s : State) (h : n < 256) : SameRegs s (dieEv d n i s) := by
  unfold dieEv
  split
  · exact raiseEv_regs n i s h
  · exact sameRegs_of_regs (SameRegs.refl s) rfl

theorem dieEvData_regs (d n i : Nat) (l : List Nat) (s : State) (h : n < 256) : SameRegs s (dieEvData d n i l s) := by
  unfold dieEvData
  split
  · exact raiseEvData_regs n i l s h
  · exact sameRegs_of_regs (SameRegs.refl s) rfl

theorem dieFault_regs (d n : Nat) (s : State) (h : n < 96) : SameRegs s (dieFault d n s) := by
  unfold dieFault
  split
  · exact raiseFault_regs n s h
  · exact sameRegs_of_regs (SameRegs.refl s) rfl

/-! ### Frames -/

theorem raiseEv_frame (n i : Nat) (s : State) :
    raiseEv n i s = { s with regs := (raiseEv n i s).regs, rep := (raiseEv n i s).rep } := rfl

theorem raiseEvData_frame (n i : Nat) (l : List Nat) (s : State) :
    raiseEvData n i l s = { s with regs := (raiseEvData n i l s).regs, rep := (raiseEvData n i l s).rep } := rfl

theorem raiseFault_frame (n : Nat) (s : State) :
    raiseFault n s = { s with regs := (raiseFault n s).regs, rep := (raiseFault n s).rep } := rfl

theorem logOther_frame (r : LogRec) (s : State) :
    logOther r s = { s with regs := (logOther r s).regs, rep := (logOther r s).rep } := rfl

/-- A report from a die changes the registers, the report section and, where the Lodge cannot take it, what
the die holds. -/
theorem dieEv_frame (d n i : Nat) (s : State) :
    dieEv d n i s = { s with regs := (dieEv d n i s).regs, rep := (dieEv d n i s).rep,
                             dies := (dieEv d n i s).dies } := by
  unfold dieEv
  split <;> rfl

theorem dieEvData_frame (d n i : Nat) (l : List Nat) (s : State) :
    dieEvData d n i l s = { s with regs := (dieEvData d n i l s).regs, rep := (dieEvData d n i l s).rep,
                                   dies := (dieEvData d n i l s).dies } := by
  unfold dieEvData
  split <;> rfl

theorem dieFault_frame (d n : Nat) (s : State) :
    dieFault d n s = { s with regs := (dieFault d n s).regs, rep := (dieFault d n s).rep,
                              dies := (dieFault d n s).dies } := by
  unfold dieFault
  split <;> rfl

end Sys2Proof.Machine
end

