-- ==== Sys2Proof/Laws/Settle.lean ====
section
/-! SUPPORT. What the end of a command can change: with no captured fault waiting, only the maximum-awake timer
and its event; with one, the capture runs its reaction; in either case no capture is left. -/

namespace Sys2Proof.Machine

theorem countDrop_capture (s : State) : (countDrop s).rep.capture = s.rep.capture := rfl

theorem pushQuiet_capture (r : LogRec) (s : State) : (pushQuiet r s).rep.capture = s.rep.capture := by
  unfold pushQuiet
  split <;> rfl

theorem raiseQuiet_capture (n i : Nat) (l : List Nat) (s : State) :
    (raiseQuiet n i l s).rep.capture = s.rep.capture := by
  unfold raiseQuiet
  split
  · simp only
    split
    · rw [pushQuiet_capture]
      rfl
    · rfl
  · rfl

theorem raiseFault64_calm (s : State) (h : Calm s) : Calm (raiseFault64 s) := by
  unfold raiseFault64
  split
  · exact h
  split
  · exact h
  · unfold Calm at *
    simp only [h]

theorem pushRec_calm (r : LogRec) (s : State) (h : Calm s) : Calm (pushRec r s) := by
  unfold pushRec
  split
  · exact h
  · refine raiseFault64_calm _ ?_
    unfold Calm
    rw [raiseQuiet_capture, countDrop_capture, h]

theorem raiseEvCore_calm (n i : Nat) (l : List Nat) (s : State) (h : Calm s) : Calm (raiseEvCore n i l s) := by
  unfold raiseEvCore
  split
  · simp only
    split
    · exact pushRec_calm _ _ h
    · exact h
  · exact h

/-- An event leaves no capture behind it. -/
theorem raiseEv_calm (n i : Nat) (s : State) (h : Calm s) : Calm (raiseEv n i s) := raiseEvCore_calm n i [] s h

theorem raiseEvData_calm (n i : Nat) (l : List Nat) (s : State) (h : Calm s) : Calm (raiseEvData n i l s) :=
  raiseEvCore_calm n i l s h

theorem logOther_calm (r : LogRec) (s : State) (h : Calm s) : Calm (logOther r s) := pushRec_calm r s h

theorem dieEv_calm (d n i : Nat) (s : State) (h : Calm s) : Calm (dieEv d n i s) := by
  unfold dieEv
  split
  · exact raiseEv_calm n i s h
  · exact h

theorem awakeEval_calm (s : State) (h : Calm s) : Calm (awakeEval s) := by
  unfold awakeEval
  simp only
  split
  · exact raiseEv_calm _ _ _ h
  · exact h

theorem resetAfter_calm (due : Bool) (s : State) (h : Calm s) : Calm (resetAfter due s) := by
  unfold resetAfter
  split
  · rfl
  · exact h

/-- After every command no captured fault waits for its reaction (R440 to R443). -/
theorem settle_calm (s : State) : Calm (settle s) := by
  unfold settle
  simp only
  apply awakeEval_calm
  split
  · assumption
  · exact resetAfter_calm _ _ rfl

theorem settle_of_calm (s : State) (h : Calm s) : settle s = awakeEval s := by
  unfold settle
  unfold Calm at h
  simp only [h]

theorem awakeEval_frame (s : State) :
    awakeEval s = { s with regs := (awakeEval s).regs, rep := (awakeEval s).rep, net := (awakeEval s).net } := by
  unfold awakeEval
  simp only
  split <;> rfl

theorem awakeEval_regs (s : State) (a : Nat) (h : reportReg a = false) (ha : a ≠ NETPM_STAT) :
    (awakeEval s).reg a = s.reg a := by
  unfold awakeEval
  simp only
  split
  · rw [raiseEv_regs _ _ _ (by decide) a h]
    exact State.reg_setFld_other s _ _ ha
  · exact State.reg_setFld_other s _ _ ha

/-- A command whose effect `t` leaves no capture ends in `t` but for the maximum-awake timer, reports, the
queue, the clock and memory. -/
theorem finish_of_calm (s t : State) (h : Calm t) :
    ∃ u, finish s t = .next u ∧ (∀ a, reportReg a = false → a ≠ NETPM_STAT → u.reg a = t.reg a) ∧
      u = { t with regs := u.regs, rep := u.rep, net := u.net, pending := s.pending, now := s.now, mem := s.mem, prev := s.regs } := by
  refine ⟨_, rfl, ?_, ?_⟩
  · intro a h1 h2
    rw [settle_of_calm t h]
    exact awakeEval_regs t a h1 h2
  · rw [settle_of_calm t h, awakeEval_frame]

/-- `finish_of_calm` for a command that may store to memory. -/
theorem finishMem_of_calm (s t : State) (h : Calm t) :
    ∃ u, finishMem s t = .next u ∧ (∀ a, reportReg a = false → a ≠ NETPM_STAT → u.reg a = t.reg a) ∧
      u = { t with regs := u.regs, rep := u.rep, net := u.net, pending := s.pending, now := s.now, prev := s.regs } := by
  refine ⟨_, rfl, ?_, ?_⟩
  · intro a h1 h2
    rw [settle_of_calm t h]
    exact awakeEval_regs t a h1 h2
  · rw [settle_of_calm t h, awakeEval_frame]

/-- Every captured fault that waits has the reaction 0b00, notice only (R440). -/
def Noticed (s : State) : Prop := ∀ n ∈ s.rep.capture, n < 96 ∧ actingReact s n = 0

theorem Calm.noticed {s : State} (h : Calm s) : Noticed s := by
  intro n hn
  rw [h] at hn
  cases hn

theorem reportReg_faultCfg {n : Nat} (h : n < 96) : reportReg (FAULT_CFG n) = false := by
  simp only [reportReg, FAULT_CFG]
  simp
  omega

/-- The reaction of a source stands while its configuration does. -/
theorem actingReact_of_sameRegs {s t : State} (h : SameRegs s t) {n : Nat} (hn : n < 96) :
    actingReact t n = actingReact s n := by
  unfold actingReact State.fld
  rw [h _ (reportReg_faultCfg hn)]

theorem mem_capture_raiseFault64 (s : State) {n : Nat} (h : n ∈ (raiseFault64 s).rep.capture) :
    n = 64 ∨ n ∈ s.rep.capture := by
  unfold raiseFault64 at h
  split at h
  · exact Or.inr h
  split at h
  · exact Or.inr h
  · simp only at h
    split at h
    · cases h
    · rw [raiseQuiet_capture, pushQuiet_capture] at h
      have : n ∈ s.rep.capture ++ [64] := h
      rcases List.mem_append.1 this with h | h
      · exact Or.inr h
      · exact Or.inl (List.mem_singleton.1 h)

theorem mem_capture_pushRec (r : LogRec) (s : State) {n : Nat} (h : n ∈ (pushRec r s).rep.capture) :
    n = 64 ∨ n ∈ s.rep.capture := by
  unfold pushRec at h
  split at h
  · exact Or.inr h
  · rcases mem_capture_raiseFault64 _ h with h | h
    · exact Or.inl h
    · rw [raiseQuiet_capture, countDrop_capture] at h
      exact Or.inr h

theorem mem_capture_raiseEvCore (i k : Nat) (l : List Nat) (s : State) {n : Nat}
    (h : n ∈ (raiseEvCore i k l s).rep.capture) : n = 64 ∨ n ∈ s.rep.capture := by
  unfold raiseEvCore at h
  split at h
  · simp only at h
    split at h
    · have := mem_capture_pushRec _ _ h
      exact this
    · exact Or.inr h
  · exact Or.inr h

/-- Raising an event captures FLT64 at most. -/
theorem mem_capture_raiseEv (i k : Nat) (s : State) {n : Nat} (h : n ∈ (raiseEv i k s).rep.capture) :
    n = 64 ∨ n ∈ s.rep.capture := mem_capture_raiseEvCore i k [] s h

theorem mem_capture_raiseFault (m : Nat) (s : State) {n : Nat} (h : n ∈ (raiseFault m s).rep.capture) :
    n = m ∨ n = 64 ∨ n ∈ s.rep.capture := by
  have h' : n ∈ (raiseFaultCore m s).rep.capture := h
  unfold raiseFaultCore at h'
  split at h'
  · exact Or.inr (Or.inr h')
  split at h'
  · exact Or.inr (Or.inr h')
  · rcases mem_capture_raiseEv _ _ _ h' with h | h
    · exact Or.inr (Or.inl h)
    · rcases mem_capture_pushRec _ _ h with h | h
      · exact Or.inr (Or.inl h)
      · have : n ∈ s.rep.capture ++ [m] := h
        rcases List.mem_append.1 this with h | h
        · exact Or.inr (Or.inr h)
        · exact Or.inl (List.mem_singleton.1 h)

theorem raiseEv_noticed (i k : Nat) (s : State) (hi : i < 256) (h : Noticed s) : Noticed (raiseEv i k s) := by
  intro n hn
  rcases mem_capture_raiseEv i k s hn with rfl | hn
  · exact ⟨by decide, rfl⟩
  · exact ⟨(h n hn).1, (actingReact_of_sameRegs (raiseEv_regs i k s hi) (h n hn).1).trans (h n hn).2⟩

theorem raiseFault_noticed (m : Nat) (s : State) (hm : m < 96) (h : Noticed s) (hr : actingReact s m = 0) :
    Noticed (raiseFault m s) := by
  intro n hn
  rcases mem_capture_raiseFault m s hn with rfl | rfl | hn
  · exact ⟨hm, (actingReact_of_sameRegs (raiseFault_regs n s hm) hm).trans hr⟩
  · exact ⟨by decide, rfl⟩
  · exact ⟨(h n hn).1, (actingReact_of_sameRegs (raiseFault_regs m s hm) (h n hn).1).trans (h n hn).2⟩

theorem dieEv_noticed (d i k : Nat) (s : State) (hi : i < 256) (h : Noticed s) : Noticed (dieEv d i k s) := by
  unfold dieEv
  split
  · exact raiseEv_noticed i k s hi h
  · exact h

theorem dieFault_noticed (d m : Nat) (s : State) (hm : m < 96) (h : Noticed s) (hr : actingReact s m = 0) :
    Noticed (dieFault d m s) := by
  unfold dieFault
  split
  · exact raiseFault_noticed m s hm h hr
  · exact h

theorem highest_of_all_zero (l : List Nat) (h : ∀ x ∈ l, x = 0) : highest l = 0 := by
  unfold highest
  induction l with
  | nil => rfl
  | cons a rest ih =>
    have ha : a = 0 := h a List.mem_cons_self
    simp only [List.foldl, ha]
    exact ih fun x hx => h x (List.mem_cons_of_mem _ hx)

/-- A capture of notice-only faults writes the collector's own registers and nothing else. -/
theorem react_of_noticed (caps : List Nat) (s : State) (h : ∀ n ∈ caps, actingReact s n = 0) :
    SameRegs s (react caps s) ∧ react caps s = { s with regs := (react caps s).regs, rep := (react caps s).rep } := by
  have hz : ∀ x ∈ caps.map (actingReact s), x = 0 := by
    intro x hx
    obtain ⟨n, hn, rfl⟩ := List.mem_map.1 hx
    exact h n hn
  have hf : caps.filter (fun n => actingReact s n == 1) = [] := by
    rw [List.filter_eq_nil_iff]
    intro n hn
    simp [h n hn]
  have h2 : (caps.map (actingReact s)).contains 2 = false := by
    rw [List.contains_eq_any_beq, List.any_eq_false]
    intro x hx
    simp [hz x hx]
  unfold react
  simp only [hf, h2, highest_of_all_zero _ hz, List.foldl]
  constructor
  · exact sameRegs_of_regs (t := State.setFld FAULT_STAT FAULT_STAT_REACTING 1 (showCapture caps 0 s))
      ((sameRegs_setReg s FAULT_LAST _ rfl).trans (sameRegs_setFld _ FAULT_STAT FAULT_STAT_REACTING 1 rfl)) rfl
  · rfl

/-- A command whose captured faults are all notice-only, with no Lodge reset overdue, ends in its effect `t` but for the
maximum-awake timer, reports, the queue, the clock and memory. -/
theorem finish_of_noticed (s t : State) (h : Noticed t) (hr : resetOverdue t = false) :
    ∃ u, finish s t = .next u ∧ (∀ a, reportReg a = false → a ≠ NETPM_STAT → u.reg a = t.reg a) ∧
      u = { t with regs := u.regs, rep := u.rep, net := u.net, pending := s.pending, now := s.now, mem := s.mem, prev := s.regs } := by
  refine ⟨_, rfl, ?_, ?_⟩
  · intro a h1 h2
    show (settle t).reg a = t.reg a
    unfold settle
    simp only
    rw [awakeEval_regs _ a h1 h2]
    split
    · rfl
    · rename_i c cs hc
      rw [hr]
      exact (react_of_noticed (c :: cs) t (fun n hn => (h n (hc ▸ hn)).2)).1 a h1
  · unfold settle
    simp only
    split
    · rw [awakeEval_frame]
    · rename_i c cs hc
      have hu : resetAfter false (react (c :: cs) t) = react (c :: cs) t := rfl
      rw [hr, hu, awakeEval_frame, (react_of_noticed (c :: cs) t (fun n hn => (h n (hc ▸ hn)).2)).2]

end Sys2Proof.Machine
end

