-- ==== Sys2Proof/WellFormed.lean ====
section
/-! DEFINITION. The commands that the module's interfaces can carry: every number that arrives in a frame fits the
field that the manual gives it. What the outside world is seen to do (a voltage, a current, a time) has no bound.
A command that is not well-formed cannot arrive; its meaning is that of its numbers all the same. -/

namespace Sys2Proof

/-- `x` is below `n`. -/
def below (n x : Nat) : Bool := decide (x < n)

/-- A list of at most `n` bytes. -/
def bytesOk (n : Nat) (l : List Nat) : Bool := decide (l.length ≤ n) && l.all (below 256)

/-- The header and the session fields of a command frame (R50, R54). -/
def HostHdr.wf (h : HostHdr) : Bool :=
  below 256 h.ref && below (2 ^ 64) h.seq && below (2 ^ 128) h.tag && bytesOk 4166 h.covered && below 256 h.dest &&
    below 65536 h.len

/-- The fields of a CAN frame (R356): a standard identifier stands in bits 28:18, and the data fit the format. -/
def CanFrame.wf (f : CanFrame) : Bool :=
  below (2 ^ 29) f.id && (f.ide || f.id % 2 ^ 18 == 0) && below 3 f.fmt &&
    bytesOk (if f.fmt = 0 then 8 else if f.fmt = 1 then 64 else 2048) f.data && below 256 f.sdt && below 256 f.vcid &&
    below (2 ^ 32) f.af

/-- The fields of a HELLO payload (R405). -/
def Hello.wf (x : Hello) : Bool :=
  below (2 ^ 64) x.serial && below 256 x.flags && below 256 x.major && below 65536 x.lockCyc && below 256 x.state &&
    below 4 x.port && below 256 x.addr && below 256 x.pound && below (2 ^ 64) x.plan && below (2 ^ 64) x.rootSerial &&
    below 256 x.rootHops && below (2 ^ 32) x.topo && below (2 ^ 32) x.chartVer && below (2 ^ 32) x.fwVer

/-- The fields of a LINKSTATE payload (R407). -/
def LinkState.wf (x : LinkState) : Bool :=
  below 65536 x.lseq && below (2 ^ 64) x.serial && decide (x.ports.length = 4) &&
    x.ports.all (fun e => below 256 e.naddr && below 256 e.nport && below 256 e.lstate)

/-- The command can arrive. -/
def wellFormed (i : Instr) : Bool :=
  match i with
  | .read h _ => h.wf
  | .write h _ _ => h.wf
  | .blockRead h _ count => h.wf && below 65536 count
  | .sessionOpen h level keyIndex nonce pub sig => h.wf && below 256 level && below 256 keyIndex && below (2 ^ 128) nonce && below (2 ^ 512) pub && below (2 ^ 512) sig
  | .authFailHoldExpiry _ => true
  | .sessionTimeout _ => true
  | .power h target scope => h.wf && below 256 target && below 256 scope
  | .piece h id n data _ => h.wf && below (2 ^ 32) id && below (2 ^ 32) n && bytesOk 4096 data
  | .logRead h start count => h.wf && below (2 ^ 48) start && below 256 count
  | .logClear h code => h.wf && below (2 ^ 128) code.code
  | .enable h sub val => h.wf && below 256 sub && below 256 val
  | .unknownType h typ => h.wf && below 256 typ
  | .towpathFrameDiscard _ => true
  | .towpathLinkChange _ => true
  | .eventHoldExpiry _ => true
  | .registerWrite _ _ _ => true
  | .rcReadClear _ _ => true
  | .dieAccessTimeout _ _ w h => h.wf && below 256 w.index
  | .culvertFrameReceive _ _ _ => true
  | .culvertLinkDown _ _ => true
  | .culvertLinkTrained _ => true
  | .culvertTrainingAttemptFail _ => true
  | .heartbeat _ _ => true
  | .lodgeSilenceDetected _ => true
  | .claimFrame _ => true
  | .moorFrame _ => true
  | .chw _ _ _ _ _ _ => true
  | .setCompleteAck _ => true
  | .immediateCommandApply _ => true
  | .limpExpiry _ => true
  | .vbatBandChange _ _ => true
  | .reverseDetected _ _ => true
  | .reverseCleared _ _ => true
  | .lvUndervoltageReset _ _ => true
  | .lodgeRestart _ _ => true
  | .boostEnWrite _ _ => true
  | .reservoirLevelChange _ _ => true
  | .reservoirShort _ => true
  | .reservoirTimeout _ => true
  | .capEstimate _ => true
  | .valveDecayDivert _ => true
  | .valveDecayReturn _ _ => true
  | .loadShed _ _ => true
  | .shedRestart _ _ _ => true
  | .cameraRailEnable _ _ _ => true
  | .cameraRailLatch _ _ _ _ => true
  | .cameraRailRetry _ => true
  | .cameraRailPowerShed _ _ => true
  | .temperatureRead _ _ _ _ _ _ => true
  | .ocLatch _ _ _ _ => true
  | .hlimLatch _ _ => true
  | .inrushWindowEnd _ => true
  | .thermalLatch _ _ => true
  | .vetoClear _ _ => true
  | .retryDue _ => true
  | .pavCmdWrite _ _ _ => true
  | .pavClr _ _ => true
  | .wireModelTick _ _ => true
  | .wireConstantWrite _ _ _ => true
  | .pairImbalance _ _ _ _ => true
  | .uvTurnOff _ _ _ _ => true
  | .uvRestartWindowEnd _ _ _ _ => true
  | .uvRestartSlot _ => true
  | .softStartComplete _ => true
  | .onstateBurstComplete _ _ _ => true
  | .offstateTestComplete _ _ _ => true
  | .latchCapture _ _ => true
  | .diagStretch _ _ => true
  | .backgroundSample _ _ _ _ _ => true
  | .hhBatchSend _ => true
  | .hhBatchArrival _ => true
  | .relearn _ _ => true
  | .closeDay _ => true
  | .peakGrant _ _ => true
  | .peakRequestRefused _ => true
  | .peakEnd _ => true
  | .sluCmdWrite _ _ _ => true
  | .sluClr _ _ => true
  | .decaySafePoint _ _ _ => true
  | .decayTimeout _ _ => true
  | .decayPathSwitch _ _ _ _ => true
  | .kinkSample _ _ => true
  | .kinkWindowClose _ => true
  | .loopSaturation _ _ _ _ => true
  | .valveOpenCheck _ _ => true
  | .valveOcLatch _ _ _ _ => true
  | .bankImbalance _ _ _ _ => true
  | .valveOffstateTest _ _ _ => true
  | .valveThermalLatch _ _ => true
  | .valveVetoClear _ _ => true
  | .bankSwitchLatch _ _ _ _ _ => true
  | .bclr _ _ => true
  | .brCmdWrite _ _ _ => true
  | .brClr _ _ => true
  | .brakeEnd _ => true
  | .bridgeLatch _ _ _ _ _ _ => true
  | .bridgeVetoClear _ _ => true
  | .startBlankEnd _ _ => true
  | .stall _ _ _ => true
  | .rippleCounted _ _ => true
  | .parkReached _ _ _ => true
  | .parkTimeout _ => true
  | .lfDriverLatch _ _ _ => true
  | .lightCmdWrite _ _ _ => true
  | .lightClr _ _ => true
  | .fadeUpdate _ => true
  | .sinkObservation _ _ _ => true
  | .foldbackRead _ => true
  | .backlightLatch _ _ _ _ _ => true
  | .backlightSaturation _ _ _ => true
  | .photodiodeIntegration _ _ => true
  | .sensorRead _ _ _ _ => true
  | .sensorTransactionTimeout _ => true
  | .trellisFrameStart _ => true
  | .trellisLineVisit _ _ _ => true
  | .lineSwitchLatch _ _ _ _ _ => true
  | .trCmdWrite _ _ => true
  | .lclr _ => true
  | .debounceWindowEnd _ => true
  | .inputChangeDelivery _ => true
  | .inputPoll _ _ => true
  | .foCmdWrite _ _ _ => true
  | .foClr _ _ => true
  | .demagSafePoint _ _ => true
  | .foThermalShutdown _ _ => true
  | .foAutoRestart _ _ => true
  | .foDiagnosis _ _ _ _ => true
  | .ownerWindowExpiry _ => true
  | .ownerLimpExpiry _ => true
  | .lOverrun _ => true
  | .classFWatchdog _ => true
  | .keeperRestart _ _ _ => true
  | .add _ _ _ _ => true
  | .sub _ _ _ _ => true
  | .and _ _ _ _ => true
  | .or _ _ _ _ => true
  | .xor _ _ _ _ => true
  | .shl _ _ _ _ => true
  | .shr _ _ _ _ => true
  | .sha _ _ _ _ => true
  | .lts _ _ _ _ => true
  | .ltu _ _ _ _ => true
  | .min _ _ _ _ => true
  | .max _ _ _ _ => true
  | .mul _ _ _ _ => true
  | .mhs _ _ _ _ => true
  | .mhu _ _ _ _ => true
  | .divs _ _ _ _ => true
  | .divu _ _ _ _ => true
  | .mods _ _ _ _ => true
  | .modu _ _ _ _ => true
  | .addk _ _ _ _ => true
  | .andk _ _ _ _ => true
  | .ork _ _ _ _ => true
  | .xork _ _ _ _ => true
  | .ltsk _ _ _ _ => true
  | .ltuk _ _ _ _ => true
  | .shk _ _ _ _ _ => true
  | .hi _ _ _ => true
  | .ldw _ _ _ _ => true
  | .ldh _ _ _ _ => true
  | .ldhu _ _ _ _ => true
  | .ldb _ _ _ _ => true
  | .ldbu _ _ _ _ => true
  | .stw _ _ _ _ => true
  | .sth _ _ _ _ => true
  | .stb _ _ _ _ => true
  | .breq _ _ _ _ => true
  | .brne _ _ _ _ => true
  | .brlt _ _ _ _ => true
  | .brge _ _ _ _ => true
  | .brlo _ _ _ _ => true
  | .brhs _ _ _ _ => true
  | .bkeq _ _ _ _ => true
  | .bkne _ _ _ _ => true
  | .bklt _ _ _ _ => true
  | .bkge _ _ _ _ => true
  | .bklo _ _ _ _ => true
  | .bkhs _ _ _ _ => true
  | .j _ _ => true
  | .jal _ _ => true
  | .jx _ _ => true
  | .jalx _ _ _ => true
  | .ret _ _ => true
  | .chr _ _ _ _ _ => true
  | .rdc _ _ _ => true
  | .wrc _ _ _ => true
  | .rte _ _ => true
  | .yield _ => true
  | .callm _ _ => true
  | .retm _ => true
  | .trapEntry _ _ _ => true
  | .coldStart _ => true
  | .warmStart _ _ => true
  | .limpClr _ => true
  | .checkEnRequest _ _ => true
  | .checkEnDisable _ _ => true
  | .checkComplete _ => true
  | .entryAbort _ _ => true
  | .wake _ _ _ => true
  | .powerBargeReceive state reqId origin apply => below 256 state && below 256 reqId && below 256 origin && below (2 ^ 64) apply
  | .domainIsolationRequest _ _ => true
  | .domainDrained _ => true
  | .forcedIsolation _ engines hosts blocks => (engines ++ hosts ++ blocks).all (fun x => x.h.wf)
  | .powerDomoffWrite _ _ => true
  | .canFrameReceive _ f => f.wf
  | .j1939Contention _ name sa => below (2 ^ 64) name && below 256 sa
  | .j1939Request _ => true
  | .linScheduleSlot _ => true
  | .linSchedSwitch _ _ _ => true
  | .linFrameReceive _ _ _ => true
  | .linError _ _ _ _ => true
  | .linHeader _ _ _ _ => true
  | .t1sFrameReceive _ dest bytes _ => below (2 ^ 48) dest && bytesOk 1522 bytes
  | .plcaBeaconLost _ => true
  | .sentFastFrame _ _ status data _ _ => below 16 status && below (2 ^ 24) data
  | .sentSlowMessage _ kind id data => below 3 kind && below 256 id && below (2 ^ 16) data
  | .sentTimeout _ => true
  | .netpmXcvWrite _ _ _ => true
  | .wksend _ _ => true
  | .canWakePattern _ _ _ _ _ => true
  | .linWake _ _ => true
  | .selectiveWakeFrame _ f _ _ => f.wf
  | .runTransceiverWake _ => true
  | .linSleepFollow _ => true
  | .keepAwakeFrame _ _ id => below (2 ^ 29) id
  | .keepAwakeTimeout _ => true
  | .tunnelFrameComplete src _ => below 256 src
  | .tunnelTimeout src => below 256 src
  | .pieceBargeAssembly src _ => below 256 src
  | .mlimpClr _ => true
  | .faultStickyClear _ _ _ => true
  | .logbookRecordDrop _ source index => below (2 ^ 16) source && below (2 ^ 16) index
  | .eccReadError _ _ _ _ => true
  | .scrub _ _ => true
  | .checkUnitGo _ _ _ => true
  | .checkUnitResult _ => true
  | .modeReq _ _ => true
  | .arm _ => true
  | .abort _ => true
  | .dieReset _ => true
  | .rawLevelChange _ _ => true
  | .pwmPeriodStart _ => true
  | .cameraRailVetoClear _ _ => true
  | .noticeSend => true
  | .lrstAsserted => true
  | .lockSetClose => true
  | .larmRaise => true
  | .lockStrobe => true
  | .larmDrop => true
  | .lifetimeCounterFlush => true
  | .trendDayClose => true
  | .trendFlush => true
  | .bridgeSupplyReturnSlot => true
  | .loopTick => true
  | .foOverRestartSlot => true
  | .startClaimWaitEnd => true
  | .startTimeout => true
  | .lowPowerEntry => true
  | .commitPoint => true
  | .lodgePowerDown => true
  | .mooredToBerthed => true
  | .wakeTimer => true
  | .powerApplyTime => true
  | .powerAckTimeout => true
  | .maxAwakeExpiry => true
  | .holdoffExpiry => true
  | .discovery => true
  | .recoveryComplete => true
  | .waterwayJoin => true
  | .syncSend => true
  | .holdoverEntry => true
  | .holdoverExit => true
  | .waterwayTimeFlush => true
  | .reactionWindowEnd => true
  | .logbookRecordWrite => true
  | .lfFrameSent => true
  | .carrierPhaseEnd => true
  | .gateSlotEnd => true
  | .antiCollisionRound => true
  | .gateSessionEnd => true
  | .gateDelayEnd => true
  | .gateSessionAbandon => true
  | .recoveryModeTimeout => true
  | .ignitionOn => true
  | .releaseMessage => true
  | .ignitionOff => true
  | .updateComplete => true
  | .updateRecordSend => true
  | .quietPoint => true
  | .quietTimeout => true
  | .firmwareResumed => true
  | .handoverRollback => true
  | .keeperSwapStrobe => true
  | .wardenWatchdogExpiry => true
  | .pllLossOfLock => true
  | .canTxSof _ => true
  | .canTxComplete _ => true
  | .canCancel _ _ _ => true
  | .canError _ _ _ _ _ => true
  | .boReq _ _ => true
  | .busOffRecovered _ => true
  | .collisionWindowExpiry _ => true
  | .rateDetection _ _ _ => true
  | .rateDetectionTimeout _ => true
  | .j1939ClaimStart _ => true
  | .j1939ClaimWindowEnd _ => true
  | .aqPortLinkUp _ => true
  | .helloReceive _ x => x.wf
  | .keepSend _ => true
  | .aqLinkDown _ _ => true
  | .bargeReceive _ bytes => bytesOk 276 bytes
  | .bargeTransmit _ => true
  | .treeReceive _ root len path => below (2 ^ 64) root && below 256 len && below (2 ^ 64) path
  | .addrReceive _ serial addr pound len flags path hops => below (2 ^ 64) serial && below 256 addr && below 256 pound && below 256 len && below 256 flags && below (2 ^ 64) path && below 256 hops
  | .linkstateReceive _ addr x hops => below 256 addr && x.wf && below 256 hops
  | .flowSend _ => true
  | .syncReceive _ sseq depth time _ _ => below (2 ^ 16) sseq && below 256 depth && below (2 ^ 64) time
  | .delayMeasure _ _ _ _ _ => true
  | .piecePartsTimeout src => below 256 src
  | .logBargeRequest src first count => below 256 src && below (2 ^ 48) first && below 256 count
  | .gateGo _ _ => true
  | .uhfIrq _ _ _ frame => bytesOk 255 frame
  | .learnCodeSubmit _ _ => true
  | .eolDone _ _ => true
  | .revoke _ _ => true
  | .uhfReceiverFail _ => true
  | .arbitrationLost _ => true

end Sys2Proof
end

