-- ==== Sys2Proof/Tests/Slice0.lean ====
section
/-! SUPPORT. Tests: the ill-formed commands that the checks refuse, small runs of single commands, and for every
statement with hypotheses a concrete state and operands that meet all of them together. -/

namespace Sys2Proof.Tests

set_option linter.unusedVariables false
set_option Elab.async false

open Sys2Proof.Machine

/-- Every pin claimed for both of its functions. -/
def everyPin : Tab (Nat × Nat) := (List.range 353).map (fun p => (p, (3, 3)))

/-- Every bank claimed. -/
def everyBank : Tab Bank := (List.range 15).map (fun b => (b, { claimed := true }))

/-- A running module: started, in Run, every subsystem enabled, every Culvert up, every bank claimed and every pin in
the map. -/
def up : State :=
  (List.range 6).foldl (fun s d => State.setFld (SYS_CV_STAT d) SYS_CV_STAT_UP 1 s)
    (State.setFld CHECK_EN CHECK_EN_ENABLE 0x3FFFF (State.setFld CHECK_START CHECK_START_STATE 0
      { State.reset with
        now := 10000000000, wwt := 10000000000, banks := everyBank, dieEn := 0x3FFFF,
        start := { State.reset.start with pins := everyPin } }))

/-- A HELLO whose payload is all zero. -/
def hello0 : Hello := helloOf []

/-- A barge whose header is all zero. -/
def barge0 : Barge := (bargeOf []).1

/-- A module in TEST with a service session on the Towpath and a Chart whose learn key is not 0. -/
def codeBase : State :=
  { State.setFld GATE_STAT GATE_STAT_GMODE 2 up with
    hosts := Tab.put up.hosts {} 9 { level := 2 }, start := { up.start with sections := [(9, 0, 0x400)] } }

/-- The same with the lower half of the service code of the present nonce submitted. -/
def codeState : State :=
  { codeBase with gate := { codeBase.gate with lcodeLo := BitVec.ofNat 32 (serviceCode codeBase) } }

/-- Every engine runs in class L at address 0x100, with x1 = 0x80000000, x2 = 0xFFFFFFFF, x3 = 7, x28 = 0x10000040,
x30 = 0x10000400, and a result for x3 on its way. -/
def engUp : State :=
  (List.range 9).foldl (fun s e =>
    State.modEng e (fun g => { g with
      present := true, evec := 0x40#32, tvec := 0x80#32,
      l := { g.l with
        pc := 0x100#32, npc := 0x104#32,
        regs := [(1, 0x80000000#32), (2, 0xFFFFFFFF#32), (3, 7#32), (28, 0x10000040#32), (30, 0x10000400#32)] },
      flight := [(3, 9#32, 2)] })
      (State.setFld (KEEPER_CTRL e) KEEPER_CTRL_L_BUDGET 1000 (setKState e 1 s))) up

/-- A module with a service session on the recovery port. -/
def sessionState : State := { up with hosts := Tab.put up.hosts {} 11 { level := 2, lastCommand := up.now } }

/-- A plain command frame on the recovery port. -/
def plainHdr : HostHdr := { path := 2, ref := 7 }

/-- An encrypted command frame of that session with the right tag. -/
def sealedHdr : HostHdr := {
  path := 2, ref := 7, enc := true, seq := 1, len := 26, covered := [9, 7, 0x80, 0, 26, 0, 3, 1]
  tag := (Config.gcmTag (sessionState.host 11).keyIn (nonceOf (sessionState.host 11).saltIn 1) [9, 7, 0x80, 0, 26, 0]
    [3, 1]).toNat }

/-- Bytes listed from address `a`. -/
def cells (a : Nat) (l : List Nat) : List Host.Cell := l.zipIdx.map (fun e => (a + e.2, BitVec.ofNat 8 e.1))

/-- The directory of a Chart at address `a` with sections 1, 2, 3, 4, 7 and 8, whose CRC fields are `c`. -/
def chartCells (a c : Nat) : List Host.Cell :=
  cells (a + 6) [6, 0] ++ cells (a + 20) [0, 0, 0, 0] ++
    ([1, 2, 3, 4, 7, 8].zipIdx).flatMap (fun e =>
      cells (a + 256 + 16 * e.2) [e.1, 0] ++
        cells (a + 260 + 16 * e.2) ([0, if e.1 = 4 then 16 else 32, 0, 0] ++
          (if e.1 = 4 then [140, 1, 0, 0] else [8, 0, 0, 0]) ++ [c, 0, 0, 0]))

/-- The manifest in the Basin: one Chart for this part. -/
def manifestCells : List Host.Cell :=
  cells (flashBase + basin + 4) [1, 0, 1, 2, 0] ++ cells (flashBase + basin + 16)
    [0x61, 0x09, 0x43, 0x59, 1, 0, 0, 0, 0, 0, 0, 0, 6, 0, 0, 0] ++ cells (flashBase + basin + 36) [0, 0, 0, 0]

/-- A READY update with a Chart. -/
def readyState : State := State.setFld UPD_STAT UPD_STAT_STATE 3 {
  up with start := { up.start with pins := [] }, aq := { up.aq with plan := { up.aq.plan with wlock := lockUnits up } } }

/-- Both Chart slots hold one Chart, whose class L plan is all zero but for its last word, and an update with it is
staged. -/
def hotState : State := { readyState with
  mem := chartCells (flashBase + 0x400000) 0 ++ chartCells (flashBase + 0x800000) 0 ++
    cells (flashBase + 0x801000) (List.replicate 388 0 ++ [3]) ++ cells (flashBase + 0x802000) [3] ++ manifestCells }

/-- The same, but for the sections of the two slots. -/
def coldState : State := { readyState with
  mem := chartCells (flashBase + 0x400000) 0 ++ chartCells (flashBase + 0x800000) 1 ++ manifestCells }

/-- A module in the middle of an answer window whose token 7 has an identifier. -/
def tokenState : State := State.setReg (GATE_TOKID 7) 0x04030201#32 (State.setFld (GATE_TOK 7) GATE_TOK_VALID 1
  { up with gate := { up.gate with phase := 3, gridStart := 10000000000, slots := [7] } })

/-- The frame with which token 7 answers, its answer the right one. -/
def tokenFrame : List Nat :=
  [1, 2, 3, 4, 0, 0, 0, 9, 8, 7, 6, 5, 4] ++ leBytes 8 (respOf tokenState 0x04030201)


/-! ### Values that no evaluation reaches, read back -/

/-- The eight bytes of a number below 2^64 are the number. -/
theorem eight_bytes (x : Nat) (h : x < 2 ^ 64) : leNat (leBytes 8 x) = x := by
  simp only [leBytes, List.range, List.range.loop, List.map, leNat]
  omega

/-- The answer of a token at its place in a frame is the answer the receiver expects (R466). -/
theorem answer_reads : leNat ((tokenFrame.drop 13).take 8) = respOf tokenState (leNat (tokenFrame.take 4)) := by
  have hl : ∀ x, (([1, 2, 3, 4, 0, 0, 0, 9, 8, 7, 6, 5, 4] ++ leBytes 8 x).drop 13).take 8 = leBytes 8 x :=
    fun _ => rfl
  have hi : ∀ x, leNat (([1, 2, 3, 4, 0, 0, 0, 9, 8, 7, 6, 5, 4] ++ leBytes 8 x).take 4) = 0x04030201 :=
    fun x => (congrArg leNat (rfl : _ = [1, 2, 3, 4])).trans (by simp [leNat])
  rw [tokenFrame, hl, hi]
  exact eight_bytes _ (Nat.mod_lt _ (by decide))

/-- The two halves of the service code are the code (R470). -/
theorem code_reads : codeState.gate.lcodeLo.toNat +
    2 ^ 32 * (BitVec.ofNat 32 (serviceCode codeState / 2 ^ 32)).toNat = serviceCode codeState := by
  have hc : codeState.gate.lcodeLo = BitVec.ofNat 32 (serviceCode codeBase) := rfl
  have he : serviceCode codeState = serviceCode codeBase := rfl
  have hb : serviceCode codeBase < 2 ^ 64 := Nat.mod_lt _ (by decide)
  rw [hc, he, BitVec.toNat_ofNat, BitVec.toNat_ofNat]
  omega

/-! ### Commands that cannot arrive -/

/-- A command that only its header spoils. -/
def badHdr (h : HostHdr) : Instr := .read h 0#32

/-- Each field of a command frame's header has its bound (R50, R54). -/
theorem test_illFormed_header :
    ([badHdr { ref := 256 }, badHdr { seq := 2 ^ 64 }, badHdr { tag := 2 ^ 128 }, badHdr { covered := [256] },
      badHdr { covered := List.replicate 4167 0 }, badHdr { dest := 256 }, badHdr { len := 65536 },
      .write { ref := 256 } 0#32 0#32, .blockRead { ref := 256 } 0#32 1, .sessionOpen { ref := 256 } 0 0 0 0 0,
      .power { ref := 256 } 0 0, .piece { ref := 256 } 0 0 [] true, .logRead { ref := 256 } 0 1, .logClear { ref := 256 } {},
      .enable { ref := 256 } 0 0, .unknownType { ref := 256 } 0, .dieAccessTimeout 0 0#32 {} { ref := 256 }
      ]).all (fun i => !wellFormed i) = true := by decide +kernel

/-- Each field of a command frame's payload has its bound (R53 to R58). -/
theorem test_illFormed_payload :
    ([Instr.blockRead {} 0#32 65536, .sessionOpen {} 256 0 0 0 0, .sessionOpen {} 0 256 0 0 0,
      .sessionOpen {} 0 0 (2 ^ 128) 0 0, .sessionOpen {} 0 0 0 (2 ^ 512) 0, .sessionOpen {} 0 0 0 0 (2 ^ 512),
      .power {} 256 0, .power {} 0 256, .piece {} (2 ^ 32) 0 [] true, .piece {} 0 (2 ^ 32) [] true,
      .piece {} 0 0 [256] true, .piece {} 0 0 (List.replicate 4097 0) true, .logRead {} (2 ^ 48) 1, .logRead {} 0 256,
      .logClear {} ⟨2 ^ 128, true⟩, .enable {} 256 0, .enable {} 0 256, .unknownType {} 256
      ]).all (fun i => !wellFormed i) = true := by decide +kernel

/-- Each field of a CAN frame has its bound, a standard identifier stands in bits 28:18, and the data fit the format
(R356). -/
theorem test_illFormed_can :
    ([CanFrame.mk true (2 ^ 29) 0 false [] 0 0 0 0, ⟨false, 1, 0, false, [], 0, 0, 0, 0⟩, ⟨true, 0, 3, false, [], 0, 0, 0, 0⟩,
      ⟨true, 0, 0, false, [256], 0, 0, 0, 0⟩, ⟨true, 0, 0, false, List.replicate 9 0, 0, 0, 0, 0⟩,
      ⟨true, 0, 1, false, List.replicate 65 0, 0, 0, 0, 0⟩, ⟨true, 0, 2, false, List.replicate 2049 0, 0, 0, 0, 0⟩,
      ⟨true, 0, 2, false, [], 256, 0, 0, 0⟩, ⟨true, 0, 2, false, [], 0, 256, 0, 0⟩, ⟨true, 0, 2, false, [], 0, 0, 2 ^ 32, 0⟩
      ]).all (fun f => !wellFormed (.canFrameReceive 0 f) && !wellFormed (.selectiveWakeFrame 0 f true ⟨true, 0⟩)) = true := by
  decide +kernel

/-- Each field of a HELLO barge has its bound (R405). -/
theorem test_illFormed_hello :
    ([{ hello0 with serial := 2 ^ 64 }, { hello0 with flags := 256 }, { hello0 with major := 256 },
      { hello0 with lockCyc := 65536 }, { hello0 with state := 256 }, { hello0 with port := 4 },
      { hello0 with addr := 256 }, { hello0 with pound := 256 }, { hello0 with plan := 2 ^ 64 },
      { hello0 with rootSerial := 2 ^ 64 }, { hello0 with rootHops := 256 }, { hello0 with topo := 2 ^ 32 },
      { hello0 with chartVer := 2 ^ 32 }, { hello0 with fwVer := 2 ^ 32 }
      ]).all (fun x => !wellFormed (.helloReceive 0 x)) = true := by decide +kernel

/-- Each field of a LINKSTATE barge has its bound, and it names four ports (R407). -/
theorem test_illFormed_linkState :
    ([LinkState.mk 65536 0 (List.replicate 4 {}), ⟨0, 2 ^ 64, List.replicate 4 {}⟩, ⟨0, 0, List.replicate 3 {}⟩,
      ⟨0, 0, [{ naddr := 256 }, {}, {}, {}]⟩, ⟨0, 0, [{}, { nport := 256 }, {}, {}]⟩, ⟨0, 0, [{}, {}, {}, { lstate := 256 }]⟩
      ]).all (fun x => !wellFormed (.linkstateReceive 0 1 x 31)) = true ∧
    wellFormed (.linkstateReceive 0 256 ⟨0, 0, List.replicate 4 {}⟩ 31) = false ∧
    wellFormed (.linkstateReceive 0 1 ⟨0, 0, List.replicate 4 {}⟩ 256) = false := by decide +kernel

/-- Each field of the other barges has its bound (R344, R403, R411, R414, R421, R449, R481). -/
theorem test_illFormed_barges :
    ([Instr.powerBargeReceive 256 0 0 0, .powerBargeReceive 0 256 0 0, .powerBargeReceive 0 0 256 0,
      .powerBargeReceive 0 0 0 (2 ^ 64), .tunnelFrameComplete 256 true, .tunnelTimeout 256, .pieceBargeAssembly 256 true,
      .bargeReceive 0 [256], .bargeReceive 0 (List.replicate 277 0), .treeReceive 0 (2 ^ 64) 0 0, .treeReceive 0 0 256 0,
      .treeReceive 0 0 0 (2 ^ 64), .addrReceive 0 (2 ^ 64) 0 0 0 0 0 0, .addrReceive 0 0 256 0 0 0 0 0,
      .addrReceive 0 0 0 256 0 0 0 0, .addrReceive 0 0 0 0 256 0 0 0, .addrReceive 0 0 0 0 0 256 0 0,
      .addrReceive 0 0 0 0 0 0 (2 ^ 64) 0, .addrReceive 0 0 0 0 0 0 0 256, .piecePartsTimeout 256, .logBargeRequest 256 0 0, .logBargeRequest 0 (2 ^ 48) 0,
      .logBargeRequest 0 0 256]).all (fun i => !wellFormed i) = true := by decide +kernel

/-- Each field of a SYNC barge has its bound (R424). -/
theorem test_illFormed_sync :
    ([Instr.syncReceive 0 (2 ^ 16) 0 0 0 0, .syncReceive 0 0 256 0 0 0, .syncReceive 0 0 0 (2 ^ 64) 0 0]).all
      (fun i => !wellFormed i) = true := by decide +kernel

/-- Each field of the bus frames and of a record's address has its bound (R371, R387, R388, R395, R446, R463). -/
theorem test_illFormed_buses :
    ([Instr.j1939Contention 0 (2 ^ 64) 0, .j1939Contention 0 0 256, .t1sFrameReceive 0 (2 ^ 48) [] true,
      .t1sFrameReceive 0 0 [256] true, .t1sFrameReceive 0 0 (List.replicate 1523 0) true, .sentFastFrame 0 0 16 0 true 1,
      .sentFastFrame 0 0 0 (2 ^ 24) true 1, .sentSlowMessage 0 3 0 0, .sentSlowMessage 0 0 256 0,
      .sentSlowMessage 0 0 0 (2 ^ 16), .keepAwakeFrame 0 true (2 ^ 29), .logbookRecordDrop 1 (2 ^ 16) 0,
      .logbookRecordDrop 1 0 (2 ^ 16), .uhfIrq true true 0 [256], .uhfIrq true true 0 (List.replicate 256 0)
      ]).all (fun i => !wellFormed i) = true := by decide +kernel

/-! ### Values that the manual works out -/

/-- The state after a few commands. -/
def after (l : List Instr) (s : State) : State :=
  match l with
  | [] => s
  | i :: rest =>
    match exec i s with
    | .next t => after rest t
    | _ => s

/-- The check values of R457 over the text 123456789. -/
theorem test_checkValues :
    [crcJ1850, crcCcitt, crcIeee, crcC, crcEcma].map (fun c => crcOf c [49, 50, 51, 52, 53, 54, 55, 56, 57]) =
      [0x4B, 0x29B1, 0xCBF43926, 0xE3069283, 0x6C40DF5F0B497347] := by decide +kernel

/-- The example of R285: a load's register reads as before at distance 1 and as loaded at distance 2. -/
theorem test_exposedLoad :
    let s := State.modEng 7 (fun g => { g with
      l := { g.l with regs := [(4, 3#32), (28, 0x10000040#32)] }, flight := [] })
      (State.setBytesLE (engKey up 7 0x10000040) 4 7 engUp)
    let t := after [.ldw 7 4 28 0#16, .add 7 5 4 0, .add 7 6 4 0, .add 7 0 0 0] s
    (t.eng 7).x 5 = 3#32 ∧ (t.eng 7).x 6 = 7#32 := by decide +kernel

/-- The example of R287: a later write of the same register cancels a quotient in flight. -/
theorem test_cancelledQuotient :
    ((after [.divs 7 4 1 2, .addk 7 4 0 5#16, .add 7 0 0 0] engUp).eng 7).x 4 = 5#32 := by decide +kernel

/-- The example of R221: a panel 10 % too bright takes the gain from 1.0 to 0.9875. -/
theorem test_luminanceTick : loopGain 0 0x4000 520000 572000 3 = 16179 := by decide +kernel

/-- The part number and the state that reset leaves (R4, R330). -/
theorem test_resetValues :
    State.reset.reg SYS_ID = 0x59430961#32 ∧ State.reset.fld CHECK_START CHECK_START_STATE = 1 ∧
      State.reset.mem = [] := by decide +kernel


/-! ### The hypotheses of the statements can be met -/

theorem test_SupplyBands_1 : ∃ (mv dur : Nat) (s : State),
    (Calm s) ∧ (s.fld SUPPLY_STAT SUPPLY_STAT_BAND = 2) ∧ (mv < 8000) ∧ (10000 ≤ dur) :=
  ⟨7999, 10000, (up), by decide +kernel⟩

theorem test_SupplyBands_2 : ∃ (mv dur : Nat) (s : State),
    (Calm s) ∧ (s.fld SUPPLY_STAT SUPPLY_STAT_BAND = 1) ∧ (8500 < mv) ∧ (10000 ≤ dur) :=
  ⟨8501, 10000, (up |> State.setFld SUPPLY_STAT SUPPLY_STAT_BAND (1)), by decide +kernel⟩

theorem test_SupplyBands_3 : ∃ (mv dur : Nat) (s : State),
    (Calm s) ∧ (dur < 5000) :=
  ⟨0, 4999, (up), by decide +kernel⟩

theorem test_SupplyBands_4 : ∃ (mv : Int) (dur : Nat) (s : State),
    (Calm s) ∧ (mv < -300) ∧ (2000 ≤ dur) ∧ (s.fld SUPPLY_STAT SUPPLY_STAT_RVACT = 0) ∧ (s.fld SUPPLY_STAT SUPPLY_STAT_BAND = 0) ∧ (actingReact s 26 = 0) ∧ (resetOverdue s = false) :=
  ⟨-301, 2000, (up |> State.setFld SUPPLY_STAT SUPPLY_STAT_BAND (0)), by decide +kernel⟩

theorem test_SupplyBands_5 : ∃ (mv : Int) (dur : Nat) (s : State),
    (Calm s) ∧ (3000 < mv) ∧ (50000 ≤ dur) :=
  ⟨3001, 50000, (up |> State.setFld SUPPLY_STAT SUPPLY_STAT_RVACT (1)), by decide +kernel⟩

theorem test_SupplyBands_6 : ∃ (mv dur : Nat) (s : State),
    (Calm s) ∧ (mv < 4200) ∧ (2000 ≤ dur) ∧ (lowPower s = false) ∧ (s.start.lodgeDown = false) :=
  ⟨4199, 2000, (up), by decide +kernel⟩

theorem test_SupplyBands_7 : ∃ (mv dur : Nat) (s : State),
    (Calm s) ∧ (4600 < mv) ∧ (1000000 ≤ dur) ∧ (s.start.lodgeDown = true) ∧ (lowPower s = false) :=
  ⟨4601, 1000000, (up |> (fun s => { s with start := { s.start with lodgeDown := true } })), by decide +kernel⟩

theorem test_ReservoirStates_1 : ∃ (m : Fin 12) (v : Bool) (s : State),
    (Calm s) ∧ (masterUp s m = true) ∧ (privileged s m = true) ∧ (accessError s (SUPPLY_RES_CFG + setView) = 0) ∧ (accessError s (SUPPLY_RES_CFG + clearView) = 0) ∧ (locking s 0 = false) :=
  ⟨0, true, (up |> State.setFld CHECK_EN CHECK_EN_ENABLE (0)), by decide +kernel⟩

theorem test_ReservoirStates_2 : ∃ (vres vbat : Nat) (s : State),
    (Calm s) ∧ (s.fld SUPPLY_RES_STAT SUPPLY_RES_STAT_STATE = 3) ∧ (s.fld SUPPLY_STAT SUPPLY_STAT_BAND = 2) ∧ (vres + 1000 ≤ vresTarget s) ∧ (vbat ≤ vres + 1000) :=
  ⟨71000, 24000, (up |> State.setFld SUPPLY_RES_STAT SUPPLY_RES_STAT_STATE (3)), by decide +kernel⟩

theorem test_ReservoirStates_3 : ∃ (vres b : Nat) (s : State),
    (Calm s) ∧ (s.fld SUPPLY_RES_STAT SUPPLY_RES_STAT_STATE = 1) ∧ (s.sup.prechargeStart = some b) ∧ (b + 5000000 ≤ s.now) ∧ (vres < 2000) ∧ (s.sup.vresTop < 2000) ∧ (actingReact s 24 = 0) ∧ (resetOverdue s = false) :=
  ⟨1999, 7, (up |> State.setFld SUPPLY_RES_STAT SUPPLY_RES_STAT_STATE (1) |> (fun s => { s with sup := { s.sup with prechargeStart := some 7 } })), by decide +kernel⟩

theorem test_ReservoirStates_4 : ∃ (vres b : Nat) (s : State),
    (Calm s) ∧ (s.fld SUPPLY_RES_STAT SUPPLY_RES_STAT_STATE = 2) ∧ (s.sup.prechargeStart = some b) ∧ (b + 400000000 ≤ s.now) ∧ (vres < 40000) ∧ (s.sup.vresTop < 40000) ∧ (s.sup.vbat ≤ vres + 1000) ∧ (actingReact s 24 = 0) ∧ (resetOverdue s = false) :=
  ⟨39999, 7, (up |> State.setFld SUPPLY_RES_STAT SUPPLY_RES_STAT_STATE (2) |> (fun s => { s with sup := { s.sup with prechargeStart := some 7 } })), by decide +kernel⟩

theorem test_ReservoirStates_5 : ∃ (charge : Nat) (s : State),
    (Calm s) ∧ (64000 ≤ vresTarget s) ∧ (s.fld CHECK_START CHECK_START_KIND = 0) ∧ (actingReact s 27 = 0) ∧ (resetOverdue s = false) :=
  ⟨45120, (up |> State.setFld CHECK_START CHECK_START_KIND (0)), by decide +kernel⟩

theorem test_ReservoirStates_6 : ∃ (vres : Nat) (mj : List Nat) (s : State),
    (Calm s) ∧ (76000 ≤ vres) ∧ (s.sup.diverted = false) :=
  ⟨76000, [0, 0, 9], (up |> (fun s => State.modValve 2 (fun x => { x with decayFast := true }) s)), by decide +kernel⟩

theorem test_ReservoirStates_7 : ∃ (vres dur : Nat) (s : State),
    (Calm s) ∧ (vres < 74000) ∧ (100000 ≤ dur) ∧ (s.sup.diverted = true) :=
  ⟨73999, 100000, (up |> (fun s => { s with sup := { s.sup with diverted := true } })), by decide +kernel⟩

theorem test_ShedAndRails_1 : ∃ (load : Fin 10) (vres : Nat) (s : State),
    (Calm s) ∧ (load < 6) ∧ (vres < railShedLevel s load) ∧ (s.fld (CR_STAT load) CR_STAT_SHED_V = 0) :=
  ⟨5, 23999, (up |> State.setFld (CR_STAT 5) CR_STAT_ON (1)), by decide +kernel⟩

theorem test_ShedAndRails_2 : ∃ (load : Fin 10) (vres : Nat) (s : State),
    (Calm s) ∧ (6 ≤ load.val) ∧ (vres < shedLevel load s) ∧ (isShed load s = false) :=
  ⟨6, 23999, (up), by decide +kernel⟩

theorem test_ShedAndRails_3 : ∃ (load : Fin 10) (vres dur : Nat) (s : State),
    (Calm s) ∧ (shedLevel load s + 6000 ≤ vres) ∧ (1000000 ≤ dur) ∧ (isShed load s = true) :=
  ⟨0, 30000, 1000000, (up |> State.setFld (CR_STAT 0) CR_STAT_SHED_V (1)), by decide +kernel⟩

theorem test_ShedAndRails_4 : ∃ (m : Fin 12) (n : Fin 6) (s : State),
    (Calm s) ∧ (masterUp s m = true) ∧ (privileged s m = true) ∧ (accessError s (CR_CFG n + clearView) = 0) ∧ (locking s 0 = false) :=
  ⟨0, 2, (up |> State.setFld CHECK_EN CHECK_EN_ENABLE (0) |> State.setFld (CR_STAT 2) CR_STAT_ON (1) |> State.setFld (CR_CFG 2) CR_CFG_EN (1)), by decide +kernel⟩

theorem test_ShedAndRails_5 : ∃ (n : Fin 6) (level dur : Nat) (s : State),
    (Calm s) ∧ (s.fld (CR_STAT n) CR_STAT_ON = 1) ∧ (railVset s n * 115 < level * 100) ∧ (10000 ≤ dur) ∧ (actingReact s 23 = 0) ∧ (resetOverdue s = false) :=
  ⟨3, 20000, 10000, (up |> State.setFld (CR_STAT 3) CR_STAT_ON (1)), by decide +kernel⟩

theorem test_ShedAndRails_6 : ∃ (n : Fin 6) (level dur : Nat) (s : State),
    (Calm s) ∧ (s.fld (CR_STAT n) CR_STAT_ON = 1) ∧ (railIlim s n ≤ level) ∧ (2000000 ≤ dur) ∧ (s.fld (CR_STAT n) CR_STAT_RETRIES < s.fld (CR_CFG n) CR_CFG_RETRY) ∧ (actingReact s 23 = 0) ∧ (resetOverdue s = false) :=
  ⟨0, 1200, 2000000, (up |> State.setFld (CR_STAT 0) CR_STAT_ON (1) |> State.setFld (CR_CFG 0) CR_CFG_RETRY (1)), by decide +kernel⟩

theorem test_ShedAndRails_7 : ∃ (n : Fin 6) (d : Nat) (s : State),
    (Calm s) ∧ ((s.rail n).retryDue = some d) ∧ (d ≤ s.now) ∧ ((s.rail n).veto = false) ∧ (s.fld (CR_STAT n) CR_STAT_SHED_V = 0) ∧ (resCarries s = true) ∧ (s.fld (CR_STAT n) CR_STAT_RETRIES < 7) :=
  ⟨1, 5, (up |> (fun s => State.modRail 1 (fun r => { r with retryDue := some 5 }) s)), by decide +kernel⟩

theorem test_ShedAndRails_8 : ∃ (n : Fin 6) (power dur : Nat) (s : State),
    (Calm s) ∧ (4800 < power) ∧ (1000000 ≤ dur) ∧ (sumWindow s = true) ∧ (powerShedRail s = some n.val) :=
  ⟨0, 4801, 1000000, (up |> State.setFld (CR_STAT 0) CR_STAT_ON (1) |> State.setFld (CR_STAT 4) CR_STAT_ON (1) |> State.setFld (CR_CFG 0) CR_CFG_SHED (1)), by decide +kernel⟩

theorem test_ShedAndRails_9 : ∃ (n : Fin 6) (x : Int) (s : State),
    (Calm s) ∧ (x < 135) ∧ ((s.rail n).veto = true) :=
  ⟨1, 134, (up |> (fun s => State.modRail 1 (fun r => { r with veto := true }) s)), by decide +kernel⟩

theorem test_ShedAndRails_10 : ∃ (t0 t1 t2 t3 t4 t5 : Int) (s : State),
    (Calm s) ∧ (actingReact s 63 = 0) :=
  ⟨-400, 1250, 0, 1, -1, 850, (up), by decide +kernel⟩

theorem test_ChannelLatches_1 : ∃ (ch : Fin 96) (ma dur : Nat) (s : State),
    (Calm s) ∧ (pavLive s (govern s ch) = true) ∧ ((s.chan (govern s ch)).inrEnd = none) ∧ (pavNominal s (govern s ch) * ocPercent s (govern s ch) < ma * 100) ∧ (ocFilter s (govern s ch) ≤ ocCount s (govern s ch) ma dur false) ∧ (actingReact s (8 + govern s ch / 16) = 0) ∧ (resetOverdue s = false) :=
  ⟨37, 16001, 2048000, (up |> State.setFld (PAV_STAT 37) PAV_STAT_STATE (1)), by decide +kernel⟩

theorem test_ChannelLatches_2 : ∃ (ch : Fin 96) (e dur : Nat) (s : State),
    (Calm s) ∧ (pavLive s (govern s ch) = true) ∧ ((s.chan (govern s ch)).inrEnd = some e) ∧ (s.now < e) ∧ (4000000 ≤ onTotal s (govern s ch)) ∧ (4000000 ≤ dur) ∧ (actingReact s (8 + govern s ch / 16) = 0) ∧ (resetOverdue s = false) :=
  ⟨0, 20000000000, 4000000, (up |> State.setFld (PAV_STAT 0) PAV_STAT_STATE (2) |> (fun s => State.modChan 0 (fun c => { c with inrEnd := some 20000000000 }) s)), by decide +kernel⟩

theorem test_ChannelLatches_3 : ∃ (ch : Fin 96) (e : Nat) (s : State),
    (Calm s) ∧ ((s.chan (govern s ch)).inrEnd = some e) ∧ (e ≤ s.now) ∧ (pavState s (govern s ch) = pavInrush) :=
  ⟨95, 10000000000, (up |> State.setFld (PAV_STAT 95) PAV_STAT_STATE (2) |> (fun s => State.modChan 95 (fun c => { c with inrEnd := some 10000000000 }) s)), by decide +kernel⟩

theorem test_ChannelLatches_4 : ∃ (ch : Fin 96) (tj : Int) (s : State),
    (Calm s) ∧ (170 ≤ tj) ∧ (tj ≤ 200) ∧ (s.fld (PAV_STAT ch) PAV_STAT_VETO_T = 0) ∧ (pavLive s (govern s ch) = true) ∧ (actingReact s (8 + govern s ch / 16) = 0) ∧ (resetOverdue s = false) :=
  ⟨32, 170, (up |> State.setFld (PAV_STAT 32) PAV_STAT_STATE (1)), by decide +kernel⟩

theorem test_ChannelLatches_5 : ∃ (ch : Fin 96) (tj : Int) (s : State),
    (Calm s) ∧ (tj < 145) ∧ (s.fld (PAV_STAT ch) PAV_STAT_VETO_T = 1) :=
  ⟨32, 144, (up |> State.setFld (PAV_STAT 32) PAV_STAT_VETO_T (1)), by decide +kernel⟩

theorem test_ChannelLatches_6 : ∃ (ch : Fin 96) (ia ib dur : Nat) (s : State),
    (Calm s) ∧ (paired s (govern s ch) = true) ∧ (pavLive s (govern s ch) = true) ∧ (2000 < ia + ib) ∧ (ia = 0) ∧ (10000000 ≤ dur) ∧ (evOn s 29 = true) ∧ (dieReports s (dieOfPav (govern s ch / 16)) = true) :=
  ⟨3, 0, 2001, 10000000, (up |> State.setFld (PAV_CFG 2) PAV_CFG_PAIR (1) |> State.setFld (PAV_STAT 2) PAV_STAT_STATE (1) |> State.setFld (HOST_EVCFG 29) HOST_EVCFG_EN (1)), by decide +kernel⟩

theorem test_ChannelCommands_1 : ∃ (m : Fin 12) (ch : Fin 96) (w : Word) (s : State),
    (Calm s) ∧ (limpBars s m = false) ∧ (govern s ch = ch.val) ∧ (serving s (ch / 16) = true) ∧ (pavDemand s ch = false) ∧ (pavState s ch = pavOff) ∧ (pinFirst s (pinOfPav ch) = true) ∧ (pavVeto s ch = false) ∧ (pavUvNow s (ch / 16) = false) ∧ (fget PAV_CMD_ON w = 1) ∧ (fget PAV_CMD_DUTY w ≠ 0) :=
  ⟨1, 16, 0x8000FFFF#32, (up), by decide +kernel⟩

theorem test_ChannelCommands_2 : ∃ (m : Fin 12) (ch : Fin 96) (w : Word) (s : State),
    (Calm s) ∧ (limpBars s m = false) ∧ (govern s ch = ch.val) ∧ (serving s (ch / 16) = true) ∧ (fget PAV_CMD_ON w = 0) :=
  ⟨1, 16, 0#32, (up |> State.setFld (PAV_STAT 16) PAV_STAT_STATE (4)), by decide +kernel⟩

theorem test_ChannelCommands_3 : ∃ (m : Fin 12) (ch : Fin 96) (s : State),
    (Calm s) ∧ (limpBars s m = false) ∧ (govern s ch = ch.val) ∧ (serving s (ch / 16) = true) ∧ (pavDemand s ch = true) ∧ (pavState s ch = pavLatched) ∧ (pinFirst s (pinOfPav ch) = true) ∧ (pavVeto s ch = false) ∧ (pavUvNow s (ch / 16) = false) :=
  ⟨9, 95, (up |> State.setFld (PAV_STAT 95) PAV_STAT_STATE (4) |> State.setFld (PAV_STAT 95) PAV_STAT_RETRIES (2) |> State.setFld (PAV_CMD 95) PAV_CMD_ON (1) |> State.setFld (PAV_CMD 95) PAV_CMD_DUTY (65535)), by decide +kernel⟩

theorem test_ChannelCommands_4 : ∃ (ch : Fin 96) (d : Nat) (s : State),
    (Calm s) ∧ ((s.chan (govern s ch)).retryDue = some d) ∧ (d ≤ s.now) ∧ (pavState s (govern s ch) = pavLatched) ∧ (pavDemand s (govern s ch) = true) ∧ (pavUvNow s (govern s ch / 16) = false) ∧ ((s.bank (govern s ch / 16)).moored = false) ∧ (pavVeto s (govern s ch) = false) ∧ (s.fld (PAV_STAT (govern s ch)) PAV_STAT_RETRIES < 7) :=
  ⟨40, 9, (up |> State.setFld (PAV_STAT 40) PAV_STAT_STATE (4) |> State.setFld (PAV_CMD 40) PAV_CMD_ON (1) |> State.setFld (PAV_CMD 40) PAV_CMD_DUTY (65535) |> (fun s => State.modChan 40 (fun c => { c with retryDue := some 9 }) s)), by decide +kernel⟩

theorem test_ChannelCommands_5 : ∃ (ch : Fin 96) (e : Nat) (s : State),
    (Calm s) ∧ ((s.chan (govern s ch)).softEnd = some e) ∧ (e ≤ s.now) ∧ (pavState s (govern s ch) = pavSoft) ∧ ((s.chan (govern s ch)).inrEnd = none) :=
  ⟨40, 9, (up |> State.setFld (PAV_STAT 40) PAV_STAT_STATE (3) |> State.setFld (PAV_CMD 40) PAV_CMD_DUTY (100) |> (fun s => State.modChan 40 (fun c => { c with softEnd := some 9 }) s)), by decide +kernel⟩

theorem test_ChannelCommands_6 : ∃ (ch : Fin 96) (i2 : Nat) (s : State),
    (Calm s) ∧ (wireRuns s (govern s ch) = true) ∧ ((s.bank (govern s ch / 16)).moored = false) ∧ (actingReact s (8 + govern s ch / 16) = 0) ∧ (resetOverdue s = false) :=
  ⟨50, 1000000000, (up |> State.setFld (PAV_WIRE 50) PAV_WIRE_WIRE_K (10) |> State.setFld (PAV_WIRE 50) PAV_WIRE_WIRE_TAU (1)), by decide +kernel⟩

theorem test_ChannelCommands_7 : ∃ (m : Fin 12) (ch : Fin 96) (w : Word) (s : State),
    (Calm s) ∧ (masterUp s m = true) ∧ (privileged s m = true) ∧ (accessError s (PAV_WIRE ch) = 0) ∧ (locking s (ch / 16 + 1) = false) :=
  ⟨0, 95, 0x00400001#32, (up |> State.setFld CHECK_EN CHECK_EN_ENABLE (0)), by decide +kernel⟩

theorem test_ChannelCommands_8 : ∃ (die cls : Fin 3) (p : Fin 6) (mv dur : Nat) (s : State),
    (Calm s) ∧ (dieOfPav p = die.val) ∧ (pavClass p = cls.val) ∧ (mv < uvTh s cls) ∧ (10000 ≤ dur) :=
  ⟨0, 2, 5, 4999, 10000, (up), by decide +kernel⟩

theorem test_ChannelCommands_9 : ∃ (die cls : Fin 3) (p : Fin 6) (mv dur : Nat) (s : State),
    (Calm s) ∧ (dieOfPav p = die.val) ∧ (pavClass p = cls.val) ∧ (uvTh s cls + uvHyst s cls ≤ mv) ∧ (1000000 ≤ dur) :=
  ⟨0, 0, 0, 9000, 1000000, (up |> (fun s => State.modUv 0 (fun u => { u with act := true }) s)), by decide +kernel⟩

theorem test_ChannelCommands_10 : ∃ (p : Fin 6) (g : Nat) (rest : List Nat) (s : State),
    (Calm s) ∧ ((s.uv p).queue = g :: rest) ∧ ((s.uv p).slotDue ≤ s.now) :=
  ⟨0, 3, [4], (up |> State.setFld (PAV_STAT 3) PAV_STAT_STATE (6) |> (fun s => State.modUv 0 (fun u => { u with queue := [3, 4], slotDue := 9 }) s)), by decide +kernel⟩

theorem test_ChannelCommands_11 : ∃ (s : State),
    (Calm s) :=
  ⟨(up |> (fun s => State.modChan 7 (fun c => { c with swDie := 3, swMram := 2 ^ 40 - 1 }) s)), by decide +kernel⟩

theorem test_ChannelCommands_12 : ∃ (k : Fin 148) (period : Nat) (s : State),
    (Calm s) ∧ (k < 96) ∧ (pavPeriod s (govern s k) (pavState s (govern s k) == pavSoft) = some period) ∧ (pavLive s (govern s k) = true) ∧ (periodDue s (govern s k) = true) :=
  ⟨5, 5000000, (up |> State.setFld (PAV_STAT 5) PAV_STAT_STATE (1) |> State.setFld (PAV_CFG 5) PAV_CFG_PWMF (2) |> State.setFld (PAV_CMD 5) PAV_CMD_DUTY (30000) |> (fun s => State.modChan 5 (fun c => { c with nextPeriod := some 9 }) s)), by decide +kernel⟩

theorem test_ValveDrive_1 : ∃ (m : Fin 12) (v : Fin 24) (w : Word) (s : State),
    (Calm s) ∧ (limpBars s m = false) ∧ (serving s (6 + bankOfValve v) = true) ∧ ((s.bank (6 + bankOfValve v)).moored = false) ∧ (sluDemand s v = false) ∧ (sluState s v = sluOff) ∧ (pinFirst s (129 + v) = true) ∧ (s.fld (SLU_STAT v) SLU_STAT_VETO_T = 0) ∧ (bswLatched s (bankOfValve v) = false) ∧ (inOver s = false) ∧ (s.fld (SLU_CFG v) SLU_CFG_MODE = 1) ∧ (fget SLU_CMD_ON w = 1) :=
  ⟨2, 23, 0x80000064#32, (up |> State.setFld (SLU_CFG 23) SLU_CFG_MODE (1)), by decide +kernel⟩

theorem test_ValveDrive_2 : ∃ (m : Fin 12) (v : Fin 24) (w : Word) (s : State),
    (Calm s) ∧ (limpBars s m = false) ∧ (serving s (6 + bankOfValve v) = true) ∧ ((s.bank (6 + bankOfValve v)).moored = false) ∧ (sluDemand s v = false) ∧ (sluState s v = sluOff) ∧ (pinFirst s (129 + v) = true) ∧ (s.fld (SLU_STAT v) SLU_STAT_VETO_T = 0) ∧ (bswLatched s (bankOfValve v) = false) ∧ (inOver s = false) ∧ (s.fld (SLU_CFG v) SLU_CFG_MODE = 0) ∧ (fget SLU_CMD_ON w = 1) :=
  ⟨2, 0, 0x80000000#32, (up), by decide +kernel⟩

theorem test_ValveDrive_3 : ∃ (m : Fin 12) (v : Fin 24) (w : Word) (s : State),
    (Calm s) ∧ (limpBars s m = false) ∧ (serving s (6 + bankOfValve v) = true) ∧ (sluLive s v = true) ∧ (fget SLU_CMD_ON w = 0) :=
  ⟨2, 7, 0#32, (up |> State.setFld (SLU_STAT 7) SLU_STAT_STATE (2) |> State.setFld (SLU_CMD 7) SLU_CMD_ON (1)), by decide +kernel⟩

theorem test_ValveDrive_4 : ∃ (m : Fin 12) (v : Fin 24) (s : State),
    (Calm s) ∧ (limpBars s m = false) ∧ (serving s (6 + bankOfValve v) = true) ∧ ((s.bank (6 + bankOfValve v)).moored = false) ∧ (sluDemand s v = true) ∧ (sluState s v = sluRefused) ∧ (pinFirst s (129 + v) = true) ∧ (s.fld (SLU_STAT v) SLU_STAT_VETO_T = 0) ∧ (bswLatched s (bankOfValve v) = false) ∧ (inOver s = false) ∧ (s.fld (SLU_CFG v) SLU_CFG_MODE = 0) :=
  ⟨9, 7, (up |> State.setFld (SLU_STAT 7) SLU_STAT_STATE (8) |> State.setFld (SLU_CMD 7) SLU_CMD_ON (1)), by decide +kernel⟩

theorem test_ValveDrive_5 : ∃ (b : Fin 4) (v : Fin 24) (vres : Nat) (s : State),
    (Calm s) ∧ (s.fld (SLU_BSTAT b) SLU_BSTAT_PEAK_OWNER = 0x1F) ∧ (bswLatched s b = false) ∧ (inOver s = false) ∧ ((∀ u : Fin 24, bankOfValve u = b.val → s.fld (SLU_STAT u) SLU_STAT_VETO_T = 0)) ∧ ((grantable s b).foldl (olderRequest s) none = some v.val) ∧ (bankOfValve v = b.val) :=
  ⟨1, 8, 70000, (up |> (fun s => State.modValve 8 (fun x => { x with request := some 5, fresh := true }) s)), by decide +kernel⟩

theorem test_ValveDrive_6 : ∃ (v : Fin 24) (r : Nat) (s : State),
    (Calm s) ∧ ((s.valve v).request = some r) ∧ ((s.valve v).bounded = true) ∧ ((s.valve v).fresh = false) ∧ (r + deferTime s v ≤ s.now) :=
  ⟨8, 5, (up |> (fun s => State.modValve 8 (fun x => { x with request := some 5, bounded := true }) s)), by decide +kernel⟩

theorem test_ValveDrive_7 : ∃ (v : Fin 24) (s : State),
    (Calm s) ∧ (sluState s v = sluPeak) ∧ ((s.valve v).peakEnd ≤ s.now) :=
  ⟨8, (up |> State.setFld (SLU_STAT 8) SLU_STAT_STATE (1)), by decide +kernel⟩

theorem test_ValveDrive_8 : ∃ (v : Fin 24) (ma mj : Nat) (s : State),
    (Calm s) ∧ (sluState s v = sluDecay) ∧ (ma < 50) ∧ (s.fld (SLU_STAT v) SLU_STAT_PEND = 0) ∧ ((s.valve v).cause = .off) :=
  ⟨8, 49, 3, (up |> State.setFld (SLU_STAT 8) SLU_STAT_STATE (4)), by decide +kernel⟩

theorem test_ValveDrive_9 : ∃ (v : Fin 24) (mj : Nat) (s : State),
    (Calm s) ∧ (sluState s v = sluDecay) ∧ ((s.valve v).decayStart + 50000000 ≤ s.now) ∧ (s.fld (SLU_STAT v) SLU_STAT_PEND = 0) ∧ ((s.valve v).cause = .latched) :=
  ⟨8, 3, (up |> State.setFld (SLU_STAT 8) SLU_STAT_STATE (4) |> (fun s => State.modValve 8 (fun x => { x with cause := .latched }) s)), by decide +kernel⟩

theorem test_ValveDrive_10 : ∃ (v : Fin 24) (vres vbnk mj : Nat) (s : State),
    (Calm s) ∧ (sluState s v = sluDecay) ∧ (s.fld (SLU_CFG v) SLU_CFG_DECAY = 0) ∧ ((s.valve v).decayFast = true) ∧ (vres < vbnk + 10000) ∧ ((s.reg (SLU_REC (bankOfValve v))).toNat + mj < 2 ^ 32) :=
  ⟨8, 33999, 24000, 7, (up |> State.setFld (SLU_STAT 8) SLU_STAT_STATE (4) |> (fun s => State.modValve 8 (fun x => { x with decayFast := true }) s)), by decide +kernel⟩

theorem test_ValveProtection_1 : ∃ (v : Fin 24) (x : Nat) (s : State),
    (Calm s) ∧ (kinkOpen s v = true) ∧ (s.fld (SLU_KINK v) SLU_KINK_KSRC = 0) ∧ ((s.valve v).samples = []) :=
  ⟨8, 1200, (up |> State.setFld (SLU_STAT 8) SLU_STAT_STATE (1) |> State.setFld (SLU_KINK 8) SLU_KINK_KW_START (0) |> State.setFld (SLU_KINK 8) SLU_KINK_KW_END (100) |> (fun s => State.modValve 8 (fun x => { x with watching := true, grant := 10000000000 }) s)), by decide +kernel⟩

theorem test_ValveProtection_2 : ∃ (v : Fin 24) (s : State),
    (Calm s) ∧ (sluState s v = sluPeak) ∧ ((s.valve v).watching = true) ∧ (kinkStart s v < kinkEnd s v) ∧ (kinkEnd s v ≤ s.now) :=
  ⟨8, (up |> State.setFld (SLU_STAT 8) SLU_STAT_STATE (1) |> State.setFld (SLU_KINK 8) SLU_KINK_KW_START (1) |> State.setFld (SLU_KINK 8) SLU_KINK_KW_END (10) |> (fun s => State.modValve 8 (fun x => { x with watching := true }) s)), by decide +kernel⟩

theorem test_ValveProtection_3 : ∃ (v : Fin 24) (duty ma dur : Nat) (s : State),
    (Calm s) ∧ (sluLive s v = true) ∧ (100 ≤ duty) ∧ (ma * 100 < sluTarget s v * 90) ∧ (5000000 ≤ dur) :=
  ⟨8, 100, 10, 5000000, (up |> State.setFld (SLU_STAT 8) SLU_STAT_STATE (2)), by decide +kernel⟩

theorem test_ValveProtection_4 : ∃ (v : Fin 24) (ma : Nat) (s : State),
    (Calm s) ∧ (openCheckDue s v = true) ∧ (s.fld (SLU_STAT v) SLU_STAT_CODE = 0) ∧ (ma * 10 < sluTarget s v) ∧ ((s.valve v).olCount = s.fld (SLU_DCFG v) SLU_DCFG_OL_CNT) :=
  ⟨8, 1, (up |> State.setFld (SLU_STAT 8) SLU_STAT_STATE (2) |> State.setFld (SLU_DCFG 8) SLU_DCFG_ON_EN (1) |> (fun s => State.modValve 8 (fun x => { x with olCount := (State.fld s (SLU_DCFG 8) SLU_DCFG_OL_CNT) }) s)), by decide +kernel⟩

theorem test_ValveProtection_5 : ∃ (v : Fin 24) (ma rise dur : Nat) (s : State),
    (Calm s) ∧ (sluLive s v = true) ∧ (6000 ≤ ma) ∧ (2000 ≤ dur) ∧ (2 * rise < ma) :=
  ⟨8, 6000, 2999, 2000, (up |> State.setFld (SLU_STAT 8) SLU_STAT_STATE (2)), by decide +kernel⟩

theorem test_ValveProtection_6 : ∃ (b : Fin 4) (ib sum dur : Nat) (s : State),
    (Calm s) ∧ (bankClosed s b = true) ∧ (sum + 300 ≤ ib) ∧ (100000 ≤ dur) ∧ (s.fld (SLU_BANK b) SLU_BANK_BAL_ACT = 0) ∧ (actingReact s (14 + b) = 0) ∧ (resetOverdue s = false) :=
  ⟨1, 300, 0, 100000, (up |> State.setFld (SLU_STAT 8) SLU_STAT_STATE (2)), by decide +kernel⟩

theorem test_ValveProtection_7 : ∃ (v : Fin 24) (pin vbnk : Nat) (s : State),
    (Calm s) ∧ (s.fld (SLU_DCFG v) SLU_DCFG_OFF_EN = 1) ∧ (sluState s v = sluOff) ∧ ((s.bank (6 + bankOfValve v)).moored = false) ∧ (bankClosed s (bankOfValve v) = false) ∧ (2000 ≤ vbnk) :=
  ⟨8, 0, 2000, (up |> State.setFld (SLU_DCFG 8) SLU_DCFG_OFF_EN (1)), by decide +kernel⟩

theorem test_ValveProtection_8 : ∃ (v : Fin 24) (tj : Int) (s : State),
    (Calm s) ∧ (170 ≤ tj) ∧ (tj ≤ 200) ∧ (s.fld (SLU_STAT v) SLU_STAT_VETO_T = 0) ∧ (sluLive s v = true) :=
  ⟨8, 170, (up |> State.setFld (SLU_STAT 8) SLU_STAT_STATE (2)), by decide +kernel⟩

theorem test_ValveProtection_9 : ∃ (v : Fin 24) (tj : Int) (s : State),
    (Calm s) ∧ (tj < 145) ∧ (s.fld (SLU_STAT v) SLU_STAT_VETO_T = 1) ∧ (sluState s v = sluVetoed) ∧ (sluDemand s v = false) :=
  ⟨8, 144, (up |> State.setFld (SLU_STAT 8) SLU_STAT_STATE (7) |> State.setFld (SLU_STAT 8) SLU_STAT_VETO_T (1)), by decide +kernel⟩

theorem test_ValveProtection_10 : ∃ (b : Fin 4) (ma dur : Nat) (x : Int) (s : State),
    (Calm s) ∧ (18000 ≤ ma) ∧ (10000 ≤ dur) ∧ (bankClosed s b = true) ∧ (actingReact s (14 + b) = 0) :=
  ⟨1, 18000, 10000, 25, (up |> State.setFld (SLU_STAT 8) SLU_STAT_STATE (2)), by decide +kernel⟩

theorem test_ValveProtection_11 : ∃ (m : Fin 12) (b : Fin 4) (s : State),
    (Calm s) ∧ (masterUp s m = true) ∧ (accessError s (SLU_BANK b + setView) = 0) ∧ (bswLatched s b = true) ∧ (s.fld (SLU_BSTAT b) SLU_BSTAT_BSW_VETO = 0) :=
  ⟨0, 1, (up |> State.setFld (SLU_BSTAT 1) SLU_BSTAT_BSW_LATCH (1)), by decide +kernel⟩

theorem test_MotorCommands_1 : ∃ (m : Fin 12) (h : Fin 16) (w : Word) (s : State),
    (Calm s) ∧ (limpBars s m = false) ∧ (brGovern s h = h.val) ∧ (serving s (10 + h / 4) = true) ∧ ((s.bank (10 + h / 4)).moored = false) ∧ (brDemand s h = false) ∧ (brState s h = brOff) ∧ (pinFirst s (297 + h) = true) ∧ (brVeto s h = false) ∧ (brNoSupply s = false) ∧ (fget BR_CMD_RUN w = 1) ∧ (fget BR_CMD_DUTY w ≠ 0) ∧ (fget BR_CMD_GOTO w = 0) :=
  ⟨1, 15, fput BR_CMD_RUN 1 (fput BR_CMD_DUTY 200 (fput BR_CMD_DIR 1 0#32)), (up), by decide +kernel⟩

theorem test_MotorCommands_2 : ∃ (m : Fin 12) (h : Fin 16) (w : Word) (s : State),
    (Calm s) ∧ (limpBars s m = false) ∧ (brGovern s h = h.val) ∧ (serving s (10 + h / 4) = true) ∧ (brState s h = brRun) ∧ (parkActive s h ≠ some false) ∧ (fget BR_CMD_RUN w = 0) :=
  ⟨1, 15, 0#32, (up |> State.setFld (BR_STAT 15) BR_STAT_STATE (1)), by decide +kernel⟩

theorem test_MotorCommands_3 : ∃ (m : Fin 12) (h : Fin 16) (s : State),
    (Calm s) ∧ (limpBars s m = false) ∧ (brGovern s h = h.val) ∧ (serving s (10 + h / 4) = true) ∧ ((s.bank (10 + h / 4)).moored = false) ∧ (brDemand s h = true) ∧ (s.fld (BR_CMD h) BR_CMD_GOTO = 0) ∧ (brState s h = brLatched) ∧ (pinFirst s (297 + h) = true) ∧ (brVeto s h = false) ∧ (brNoSupply s = false) :=
  ⟨1, 15, (up |> State.setFld (BR_STAT 15) BR_STAT_STATE (5) |> State.setFld (BR_CMD 15) BR_CMD_RUN (1) |> State.setFld (BR_CMD 15) BR_CMD_DUTY (9)), by decide +kernel⟩

theorem test_MotorCommands_4 : ∃ (h : Fin 16) (s : State),
    (Calm s) ∧ (brState s (brGovern s h) = brBrake) ∧ ((s.motor (brGovern s h)).brakeEnd ≤ s.now) ∧ ((s.motor (brGovern s h)).brakeTo = .stalled) ∧ (brDemand s (brGovern s h) = true) ∧ (s.fld (BR_STAT (brGovern s h)) BR_STAT_PEND = 0) :=
  ⟨15, (up |> State.setFld (BR_STAT 15) BR_STAT_STATE (2) |> State.setFld (BR_CMD 15) BR_CMD_RUN (1) |> State.setFld (BR_CMD 15) BR_CMD_DUTY (9) |> (fun s => State.modMotor 15 (fun x => { x with brakeTo := .stalled }) s)), by decide +kernel⟩

theorem test_MotorCommands_5 : ∃ (h : Fin 16) (s : State),
    (Calm s) ∧ (brState s (brGovern s h) = brBrake) ∧ ((s.motor (brGovern s h)).brakeEnd ≤ s.now) ∧ ((s.motor (brGovern s h)).brakeTo = .off) ∧ (brDemand s (brGovern s h) = false) :=
  ⟨15, (up |> State.setFld (BR_STAT 15) BR_STAT_STATE (2)), by decide +kernel⟩

theorem test_MotorCommands_6 : ∃ (h : Fin 16) (p : Fin 2) (level : Bool) (dur : Nat) (s : State),
    (Calm s) ∧ (brState s h = brParking) ∧ (2000000 ≤ dur) ∧ (s.fld (BR_CFG h) BR_CFG_PARK_SEL = p.val + 1) ∧ (s.fld (BR_CFG h) BR_CFG_PARK_LVL = b2n level) :=
  ⟨15, 1, true, 2000000, (up |> State.setFld (BR_STAT 15) BR_STAT_STATE (3) |> State.setFld (BR_CFG 15) BR_CFG_PARK_SEL (2) |> State.setFld (BR_CFG 15) BR_CFG_PARK_LVL (1)), by decide +kernel⟩

theorem test_MotorCommands_7 : ∃ (h : Fin 16) (e : Nat) (s : State),
    (Calm s) ∧ ((s.motor (brGovern s h)).parkEnd = some e) ∧ (e ≤ s.now) ∧ (brState s (brGovern s h) = brParking) :=
  ⟨15, 3, (up |> State.setFld (BR_STAT 15) BR_STAT_STATE (3) |> (fun s => State.modMotor 15 (fun x => { x with parkEnd := some 3 }) s)), by decide +kernel⟩

theorem test_MotorCommands_8 : ∃ (h : Fin 16) (rest : List Nat) (s : State),
    (Calm s) ∧ (s.bridges.queue = h.val :: rest) ∧ (s.bridges.slotDue ≤ s.now) ∧ (brNoSupply s = false) ∧ (brState s h = brSupply) ∧ ((s.motor h).cut = 3) ∧ (serving s (10 + h / 4) = true) ∧ (brDemand s h = true) :=
  ⟨15, [], (up |> State.setFld (BR_STAT 15) BR_STAT_STATE (9) |> State.setFld (BR_CMD 15) BR_CMD_RUN (1) |> State.setFld (BR_CMD 15) BR_CMD_DUTY (9) |> (fun s => State.modMotor 15 (fun x => { x with cut := 3 }) { s with bridges := { s.bridges with queue := [15] } })), by decide +kernel⟩

theorem test_MotorCommands_9 : ∃ (h : Fin 16) (rest : List Nat) (s : State),
    (Calm s) ∧ (s.bridges.queue = h.val :: rest) ∧ (s.bridges.slotDue ≤ s.now) ∧ (brNoSupply s = false) ∧ (brGovern s h = h.val) ∧ (brState s h = brSupply) ∧ ((s.motor h).cut = 0) ∧ (serving s (10 + h / 4) = true) ∧ ((s.bank (10 + h / 4)).moored = false) ∧ (brDemand s h = true) ∧ (s.fld (BR_CMD h) BR_CMD_GOTO = 0) ∧ (pinFirst s (297 + h) = true) ∧ (brVeto s h = false) :=
  ⟨15, [3], (up |> State.setFld (BR_STAT 15) BR_STAT_STATE (9) |> State.setFld (BR_CMD 15) BR_CMD_RUN (1) |> State.setFld (BR_CMD 15) BR_CMD_DUTY (100) |> (fun s => { s with bridges := { s.bridges with queue := [15, 3] } })), by decide +kernel⟩

theorem test_MotorProtection_1 : ∃ (h : Fin 16) (hs : Bool) (ma dur : Nat) (tj : Int) (s : State),
    (Calm s) ∧ (brMoving s (brGovern s h) = true) ∧ (brOcTh s (brGovern s h) ≤ ma) ∧ (2000 * 2 ^ (s.fld (BR_PROT (brGovern s h)) BR_PROT_OC_FILT) ≤ dur) ∧ (actingReact s (18 + brGovern s h / 4) = 0) ∧ (resetOverdue s = false) :=
  ⟨15, true, 12000, 1000000000, 25, (up |> State.setFld (BR_STAT 15) BR_STAT_STATE (1)), by decide +kernel⟩

theorem test_MotorProtection_2 : ∃ (h : Fin 16) (hs : Bool) (ma dur : Nat) (tj : Int) (s : State),
    (Calm s) ∧ (170 ≤ tj) ∧ (s.fld (BR_STAT h) BR_STAT_VETO_T = 0) ∧ (actingReact s (18 + brGovern s h / 4) = 0) ∧ (resetOverdue s = false) :=
  ⟨0, false, 0, 0, 170, (up), by decide +kernel⟩

theorem test_MotorProtection_3 : ∃ (h : Fin 16) (tj : Int) (s : State),
    (Calm s) ∧ (tj < 145) ∧ (s.fld (BR_STAT h) BR_STAT_VETO_T = 1) :=
  ⟨15, 144, (up |> State.setFld (BR_STAT 15) BR_STAT_VETO_T (1)), by decide +kernel⟩

theorem test_MotorProtection_4 : ∃ (h : Fin 16) (ma : Nat) (s : State),
    (Calm s) ∧ (brState s (brGovern s h) = brRun) ∧ ((s.motor (brGovern s h)).blankDone = false) ∧ ((s.motor (brGovern s h)).blankEnd ≤ s.now) ∧ (ma < 200) ∧ ((s.motor (brGovern s h)).olCount = s.fld (BR_RIP (brGovern s h)) BR_RIP_OL_CNT) :=
  ⟨15, 199, (up |> State.setFld (BR_STAT 15) BR_STAT_STATE (1) |> (fun s => State.modMotor 15 (fun x => { x with olCount := s.fld (BR_RIP 15) BR_RIP_OL_CNT }) s)), by decide +kernel⟩

theorem test_MotorProtection_5 : ∃ (h : Fin 16) (period : Nat) (s : State),
    (Calm s) ∧ (ripplesCount s (brGovern s h) = true) ∧ (brState s (brGovern s h) = brRun) ∧ ((s.motor (brGovern s h)).refCount < 16) ∧ (s.fld (BR_CMD (brGovern s h)) BR_CMD_GOTO = 0) :=
  ⟨15, 900000, (up |> State.setFld (BR_STAT 15) BR_STAT_STATE (1) |> State.setFld (BR_RIP 15) BR_RIP_RIP_EN (1)), by decide +kernel⟩

theorem test_MotorProtection_6 : ∃ (h : Fin 16) (ma dur : Nat) (s : State),
    (Calm s) ∧ (brState s (brGovern s h) = brRun) ∧ ((s.motor (brGovern s h)).blankEnd ≤ s.now) ∧ (s.fld (BR_PROT (brGovern s h)) BR_PROT_STALL_TH ≠ 0) ∧ ((s.fld (BR_PROT (brGovern s h)) BR_PROT_STALL_TH) * 50 ≤ ma) ∧ (stallTime s (brGovern s h) ≤ dur) ∧ (inTrapZone s (brGovern s h) = false) :=
  ⟨15, 500, 5000000, (up |> State.setFld (BR_STAT 15) BR_STAT_STATE (1) |> State.setFld (BR_PROT 15) BR_PROT_STALL_TH (10) |> State.setFld (BR_PROT 15) BR_PROT_STALL_T (5)), by decide +kernel⟩

theorem test_MotorProtection_7 : ∃ (a : Fin 6) (ma dur : Nat) (s : State),
    (Calm s) ∧ (s.fld (LF_STAT a) LF_STAT_ON = 1) ∧ (2500 ≤ ma) ∧ (5000 ≤ dur) :=
  ⟨5, 2500, 5000, (up |> State.setFld (LF_STAT 5) LF_STAT_ON (1)), by decide +kernel⟩

theorem test_Lighting_1 : ∃ (m : Fin 12) (k : Fin 52) (w : Word) (s : State),
    (Calm s) ∧ (limpBars s m = false) ∧ (serving s 14 = true) ∧ (isDirect s k = true) ∧ (ltDemand s k = false) ∧ (ltState s k = ltOff) ∧ (pinFirst s (pinOfLight k) = true) ∧ (inOver s = false) ∧ (lightTsd s = false) ∧ (Tab.get s.sup.blShed false (k - 48) = false) ∧ ((k.val < 48 ∨ resCarries s = true)) ∧ (ltFade s k = 0) ∧ (fget LC_CMD_ON w = 1) ∧ (fget LC_CMD_LVL w ≠ 0) :=
  ⟨1, 47, 0x8000FFFF#32, (up |> State.setFld (LC_CFG 47) LC_CFG_FADE_T (0)), by decide +kernel⟩

theorem test_Lighting_2 : ∃ (m : Fin 12) (k : Fin 52) (s : State),
    (Calm s) ∧ (limpBars s m = false) ∧ (serving s 14 = true) ∧ (isDirect s k = true) ∧ (ltDemand s k = true) ∧ (ltState s k = ltLatched) ∧ (pinFirst s (pinOfLight k) = true) ∧ (inOver s = false) ∧ (lightTsd s = false) ∧ (Tab.get s.sup.blShed false (k - 48) = false) ∧ ((k.val < 48 ∨ resCarries s = true)) ∧ (0 < ltFade s k) :=
  ⟨1, 51, (up |> (fun s => setLtState 51 4 s) |> State.setFld (BL_CMD 3) BL_CMD_ON (1) |> State.setFld (BL_CMD 3) BL_CMD_LVL (5) |> State.setFld (BL_CFG 3) BL_CFG_FADE_T (1)), by decide +kernel⟩

theorem test_Lighting_3 : ∃ (k : Fin 52) (s : State),
    (Calm s) ∧ (ltState s k = ltFadeIn) ∧ ((s.elem k).level ≤ ltApplied s k * 65536) ∧ (fadeSteps s k ≤ fadeIndex (s.elem k).level (ltApplied s k * 65536) (fadeSteps s k) + 1) :=
  ⟨0, (up |> (fun s => setLtState 0 1 s) |> State.setFld (LC_CMD 0) LC_CMD_LVL (100) |> (fun s => State.modElem 0 (fun e => { e with level := 90 * 65536 }) s)), by decide +kernel⟩

theorem test_Lighting_4 : ∃ (k : Fin 52) (s : State),
    (Calm s) ∧ (ltState s k = ltFadeOut) ∧ (fadeIndex (s.elem k).level ((s.elem k).top * 65536) (fadeSteps s k) ≤ 1) ∧ (s.fld (ltStat k) (ltPend k) = 0) :=
  ⟨0, (up |> (fun s => setLtState 0 3 s)), by decide +kernel⟩

theorem test_Lighting_5 : ∃ (k : Fin 48) (vsink ua : Nat) (s : State),
    (Calm s) ∧ (leaderOf s k 7 = k.val) ∧ (isColumn s k = false) ∧ (sinkObserved s k = true) ∧ (vsink < 300) ∧ (2 * ua < ltAmp s k) ∧ ((s.elem k).obsKind = 1) ∧ ((s.elem k).obsDone = false) ∧ ((s.elem k).obsCount = s.fld (LC_DCFG k) LC_DCFG_OL_CNT) :=
  ⟨3, 299, 49, (up |> (fun s => setLtState 3 2 s) |> State.setFld (LC_DCFG 3) LC_DCFG_DIAG_EN (1) |> (fun s => State.modElem 3 (fun e => { e with active := 60000, obsKind := 1, obsCount := s.fld (LC_DCFG 3) LC_DCFG_OL_CNT }) s)), by decide +kernel⟩

theorem test_Lighting_6 : ∃ (x : Int) (s : State),
    (Calm s) ∧ (x < 1450) ∧ (lightTsd s = false) :=
  ⟨1449, (up), by decide +kernel⟩

theorem test_Lighting_7 : ∃ (n : Fin 4) (vout ma dur vres : Nat) (s : State),
    (Calm s) ∧ (ltLit s (48 + n) = true) ∧ (shedLevel (6 + n) s ≤ vres) ∧ (2200 ≤ ma) ∧ (2000 ≤ dur) :=
  ⟨3, 20000, 2200, 2000, 80000, (up |> (fun s => setLtState 51 2 s)), by decide +kernel⟩

theorem test_Lighting_8 : ∃ (n : Fin 4) (ma dur : Nat) (s : State),
    (Calm s) ∧ (ltLit s (48 + n) = true) ∧ (ma * 10 * 65536 < blTarget s n * 9) ∧ (5000000 ≤ dur) :=
  ⟨3, 1000, 5000000, (up |> (fun s => setLtState 51 2 s) |> State.setFld (BL_CFG 3) BL_CFG_ISET (300) |> (fun s => State.modElem 51 (fun e => { e with level := 65535 * 65536 }) s)), by decide +kernel⟩

theorem test_Lighting_9 : ∃ (k : Fin 148) (s : State),
    (Calm s) ∧ (96 ≤ k.val) ∧ (isDirect s (k - 96) = true) ∧ (ltLit s (k - 96) = true) ∧ (ltAnalog (k - 96) ≤ (s.elem (k - 96)).level / 65536) :=
  ⟨147, (up |> (fun s => setLtState 51 2 s) |> (fun s => State.modElem 51 (fun e => { e with level := 65535 * 65536 }) s)), by decide +kernel⟩

theorem test_LoopsAndTrellis_1 : ∃ (p : Fin 4) (val : Nat) (s : State),
    (Calm s) ∧ (val < 10000000) :=
  ⟨3, 9999999, (up), by decide +kernel⟩

theorem test_LoopsAndTrellis_2 : ∃ (n : Fin 4) (data : BitVec 48) (ack arrived : Bool) (s : State),
    (Calm s) ∧ (s.fld (SNS_CFG n) SNS_CFG_EN = 1) ∧ (s.lock.lrst = false) ∧ (cvUp s 4 = true) ∧ ((s.die 4).silent = false) :=
  ⟨3, 0x060504030201#48, true, true, (up |> State.setFld (SNS_CFG 3) SNS_CFG_EN (1)), by decide +kernel⟩

theorem test_LoopsAndTrellis_3 : ∃ (n : Fin 4) (s : State),
    (Calm s) ∧ (s.fld (SNS_CFG n) SNS_CFG_EN = 1) ∧ (s.lock.lrst = false) :=
  ⟨3, (up |> State.setFld (SNS_CFG 3) SNS_CFG_EN (1) |> (fun s => State.modSource 7 (fun x => { x with reading := some (1, 2, 3) }) s)), by decide +kernel⟩

theorem test_LoopsAndTrellis_4 : ∃ (s : State),
    (Calm s) ∧ (serving s 14 = true) ∧ ((s.bank 14).moored = false) :=
  ⟨(up |> (fun s => State.modSource 7 (fun x => { x with reading := some (1, 2, 3) }) s)), by decide +kernel⟩

theorem test_LoopsAndTrellis_5 : ∃ (vtrsup : Nat) (s : State),
    (Calm s) ∧ (s.fld TR_STAT TR_STAT_STATE ≠ 2) ∧ (serving s 14 = true) ∧ ((s.bank 14).moored = false) ∧ (s.fld TR_CMD TR_CMD_RUN = 1) ∧ (inOver s = true) :=
  ⟨5000, (up |> State.setFld TR_CMD TR_CMD_RUN (1) |> State.setFld SUPPLY_STAT SUPPLY_STAT_BAND (3)), by decide +kernel⟩

theorem test_LoopsAndTrellis_6 : ∃ (vtrsup : Nat) (s : State),
    (Calm s) ∧ (s.fld TR_STAT TR_STAT_STATE ≠ 2) ∧ (serving s 14 = true) ∧ ((s.bank 14).moored = false) ∧ (s.fld TR_CMD TR_CMD_RUN = 1) ∧ (inOver s = false) ∧ (lightTsd s = false) :=
  ⟨5000, (up |> State.setFld TR_CMD TR_CMD_RUN (1)), by decide +kernel⟩

theorem test_LoopsAndTrellis_7 : ∃ (levels currents pres : List Nat) (s : State),
    (Calm s) ∧ (s.fld TR_STAT TR_STAT_STATE = 1) ∧ (0 < s.trellis.line) ∧ (s.trellis.line + 1 < trLines s) ∧ (s.trellis.sub ≤ s.fld TR_CFG TR_CFG_NSUB) ∧ (bitOf (s.fld TR_STAT TR_STAT_LLATCH) s.trellis.line = true) ∧ (s.fld TR_CMD TR_CMD_RUN = 1) ∧ (serving s 14 = true) ∧ ((s.bank 14).moored = false) :=
  ⟨[], [], [], (up |> State.setFld TR_CMD TR_CMD_RUN (1) |> State.setFld TR_STAT TR_STAT_STATE (1) |> State.setFld TR_CFG TR_CFG_NLINES (3) |> State.setFld TR_STAT TR_STAT_LLATCH (2) |> (fun s => { s with trellis := { s.trellis with line := 1 } })), by decide +kernel⟩

theorem test_LoopsAndTrellis_8 : ∃ (l : Fin 16) (ma dur : Nat) (x : Int) (s : State),
    (Calm s) ∧ (s.fld TR_STAT TR_STAT_STATE = 1) ∧ (3000 ≤ ma) ∧ (5000 ≤ dur) ∧ (actingReact s 22 = 0) ∧ (resetOverdue s = false) :=
  ⟨15, 3000, 5000, 25, (up |> State.setFld TR_STAT TR_STAT_STATE (1)), by decide +kernel⟩

theorem test_LoopsAndTrellis_9 : ∃ (m : Fin 12) (w : Word) (s : State),
    (Calm s) ∧ (limpBars s m = false) ∧ (fget TR_CMD_LCLR w = 0) :=
  ⟨1, fput TR_CMD_RUN 1 0#32, (up), by decide +kernel⟩

theorem test_LoopsAndTrellis_10 : ∃ (m : Fin 12) (s : State),
    (Calm s) ∧ (limpBars s m = false) ∧ (s.trellis.veto = 0) :=
  ⟨1, (up |> State.setFld TR_STAT TR_STAT_STATE (2) |> State.setFld TR_STAT TR_STAT_LLATCH (65535)), by decide +kernel⟩

theorem test_InputsAndOutputs_1 : ∃ (j : Fin 128) (mv : Int) (s : State),
    (Calm s) ∧ (lowPower s = false) ∧ (inputClaimed s j = true) ∧ ((s.input j).winEnd = none) ∧ (inLevel s j = false) ∧ ((inThresholds s j).1 < mv) :=
  ⟨127, 12001, (up), by decide +kernel⟩

theorem test_InputsAndOutputs_2 : ∃ (j : Fin 128) (mv : Int) (s : State),
    (Calm s) ∧ (lowPower s = false) ∧ (inputClaimed s j = true) ∧ ((s.input j).winEnd = none) ∧ (inLevel s j = true) ∧ ((mv < (inThresholds s j).1 ∧ mv < (inThresholds s j).2)) :=
  ⟨3, 1999, (up |> (fun s => setInBit (IN_LVL 0) 3 true s)), by decide +kernel⟩

theorem test_InputsAndOutputs_3 : ∃ (j : Fin 128) (e : Nat) (s : State),
    (Calm s) ∧ ((s.input j).winEnd = some e) ∧ (e ≤ s.now) ∧ (lowPower s = false) :=
  ⟨33, 5, (up |> (fun s => State.modInput 33 (fun x => { x with winEnd := some 5, level := true }) s)), by decide +kernel⟩

theorem test_InputsAndOutputs_4 : ∃ (j : Fin 128) (b : Bool) (rest : List Bool) (s : State),
    (Calm s) ∧ ((s.input j).waiting = b :: rest) ∧ (cvUp s 5 = true) ∧ (s.start.lodgeDown = false) :=
  ⟨33, true, [false], (up |> (fun s => State.modInput 33 (fun x => { x with waiting := [true, false] }) s)), by decide +kernel⟩

theorem test_InputsAndOutputs_5 : ∃ (j : Fin 128) (mv : Int) (s : State),
    (Calm s) ∧ (pollDue s j = true) ∧ ((s.input j).ref = false) ∧ ((inThresholds s j).1 < mv) ∧ (bitOf (s.fld (IN_CFG j) IN_CFG_WAKE) 0 = true) ∧ ((s.input j).polls < s.fld IN_POLL IN_POLL_WAKE_CNT) :=
  ⟨4, 15000, (up |> State.setFld POWER_STAT POWER_STAT_STATE (2) |> State.setFld (IN_CFG 4) IN_CFG_WAKE (3) |> State.setFld IN_POLL IN_POLL_WAKE_CNT (1)), by decide +kernel⟩

theorem test_InputsAndOutputs_6 : ∃ (m : Fin 12) (o : Fin 16) (w : Word) (s : State),
    (Calm s) ∧ (limpBars s m = false) ∧ (s.fld (FO_CFG o) FO_CFG_OWNER = 3) ∧ ((s.bank (6 + o / 4)).moored = false) ∧ (foServing s o = true) ∧ (foDemand s o = false) ∧ (foState s o = foOff) ∧ (pinFirst s (113 + o) = true) ∧ (s.fld (FO_STAT o) FO_STAT_VETO_T = 0) ∧ (inOver s = false) ∧ (fget FO_CMD_ON w = 1) :=
  ⟨1, 15, fput FO_CMD_ON 1 0#32, (up |> State.setFld (FO_CFG 15) FO_CFG_OWNER (3)), by decide +kernel⟩

theorem test_InputsAndOutputs_7 : ∃ (m : Fin 12) (o : Fin 16) (w : Word) (s : State),
    (Calm s) ∧ (limpBars s m = false) ∧ (s.fld (FO_CFG o) FO_CFG_OWNER = 3) ∧ (foServing s o = true) ∧ (foState s o = foOn) ∧ (fget FO_CMD_ON w = 0) :=
  ⟨1, 15, 0#32, (up |> State.setFld (FO_CFG 15) FO_CFG_OWNER (3) |> State.setFld (FO_STAT 15) FO_STAT_STATE (1)), by decide +kernel⟩

theorem test_InputsAndOutputs_8 : ∃ (m : Fin 12) (o : Fin 16) (w : Word) (s : State),
    (Calm s) ∧ (limpBars s m = false) ∧ (s.fld (FO_CFG o) FO_CFG_OWNER ≠ 3) ∧ (s.fld (FO_CFG o) FO_CFG_OWNER ≠ masterClass m) :=
  ⟨9, 15, 0#32, (up |> State.setFld (FO_CFG 15) FO_CFG_OWNER (0)), by decide +kernel⟩

theorem test_InputsAndOutputs_9 : ∃ (m : Fin 12) (o : Fin 16) (s : State),
    (Calm s) ∧ (limpBars s m = false) ∧ (s.fld (FO_CFG o) FO_CFG_OWNER = 3) ∧ ((s.bank (6 + o / 4)).moored = false) ∧ (foServing s o = true) ∧ (foDemand s o = true) ∧ (foState s o = foTherm) ∧ (s.fld (FO_CFG o) FO_CFG_AUTO = 0) ∧ (pinFirst s (113 + o) = true) ∧ (s.fld (FO_STAT o) FO_STAT_VETO_T = 0) ∧ (inOver s = false) :=
  ⟨1, 15, (up |> State.setFld (FO_CFG 15) FO_CFG_OWNER (3) |> State.setFld (FO_CFG 15) FO_CFG_AUTO (0) |> State.setFld (FO_STAT 15) FO_STAT_STATE (3) |> State.setFld (FO_CMD 15) FO_CMD_ON (1)), by decide +kernel⟩

theorem test_InputsAndOutputs_10 : ∃ (o : Fin 16) (pin : Int) (s : State),
    (Calm s) ∧ (foState s o = foDemag) ∧ (0 < pin) ∧ ((s.fo o).cause = .off) ∧ (s.fld (FO_STAT o) FO_STAT_PEND = 0) :=
  ⟨15, 1, (up |> State.setFld (FO_STAT 15) FO_STAT_STATE (2)), by decide +kernel⟩

theorem test_InputsAndOutputs_11 : ∃ (o : Fin 16) (x : Int) (s : State),
    (Calm s) ∧ (160 ≤ x) ∧ (x ≤ 200) ∧ (s.fld (FO_STAT o) FO_STAT_VETO_T = 0) ∧ (foState s o = foOn) :=
  ⟨15, 160, (up |> State.setFld (FO_STAT 15) FO_STAT_STATE (1)), by decide +kernel⟩

theorem test_InputsAndOutputs_12 : ∃ (o : Fin 16) (x : Int) (s : State),
    (Calm s) ∧ (x < 140) ∧ (s.fld (FO_STAT o) FO_STAT_VETO_T = 1) ∧ (foState s o = foTherm) ∧ (s.fld (FO_CFG o) FO_CFG_AUTO = 1) ∧ (foDemand s o = true) ∧ ((s.bank (6 + o / 4)).moored = false) ∧ (foServing s o = true) ∧ (pinFirst s (113 + o) = true) ∧ (inOver s = false) :=
  ⟨15, 139, (up |> State.setFld (FO_STAT 15) FO_STAT_STATE (3) |> State.setFld (FO_STAT 15) FO_STAT_VETO_T (1) |> State.setFld (FO_CFG 15) FO_CFG_AUTO (1) |> State.setFld (FO_CMD 15) FO_CMD_ON (1)), by decide +kernel⟩

theorem test_InputsAndOutputs_13 : ∃ (o : Fin 16) (ua mv dur : Nat) (s : State),
    (Calm s) ∧ (s.fld (FO_CFG o) FO_CFG_DIAG_EN = 1) ∧ ((s.bank (6 + o / 4)).moored = false) ∧ (foState s o = foOn) ∧ (ua < 5000) ∧ (10000000 ≤ dur) ∧ ((s.fo o).openNow = false) :=
  ⟨15, 4999, 0, 10000000, (up |> State.setFld (FO_STAT 15) FO_STAT_STATE (1) |> State.setFld (FO_CFG 15) FO_CFG_DIAG_EN (1)), by decide +kernel⟩

theorem test_InputsAndOutputs_14 : ∃ (o : Fin 16) (e : Nat) (s : State),
    (Calm s) ∧ ((s.fo o).ownEnd = some e) ∧ (e ≤ s.now) :=
  ⟨15, 6, (up |> (fun s => State.modFo 15 (fun x => { x with ownEnd := some 6 }) s)), by decide +kernel⟩

theorem test_InputsAndOutputs_15 : ∃ (o : Fin 16) (e : Nat) (s : State),
    (Calm s) ∧ ((s.fo o).limpEnd = some e) ∧ (e ≤ s.now) ∧ (s.fld (FO_CFG o) FO_CFG_SAFE = 2) ∧ (actingReact s 67 = 0) ∧ (resetOverdue s = false) :=
  ⟨15, 6, (up |> State.setFld (FO_CFG 15) FO_CFG_SAFE (2) |> (fun s => State.modFo 15 (fun x => { x with limpEnd := some 6 }) s)), by decide +kernel⟩

theorem test_InputsAndOutputs_16 : ∃ (o : Fin 16) (rest : List Nat) (s : State),
    (Calm s) ∧ (s.fieldBank.queue = o.val :: rest) ∧ (s.fieldBank.slotDue ≤ s.now) ∧ (inOver s = false) ∧ (foState s o = foSupply) ∧ (foDemand s o = false) :=
  ⟨15, [3], (up |> State.setFld (FO_STAT 15) FO_STAT_STATE (4) |> (fun s => { s with fieldBank := { s.fieldBank with queue := [15, 3] } })), by decide +kernel⟩

theorem test_InputsAndOutputs_17 : ∃ (o : Fin 16) (rest : List Nat) (s : State),
    (Calm s) ∧ (s.fieldBank.queue = o.val :: rest) ∧ (s.fieldBank.slotDue ≤ s.now) ∧ (inOver s = false) ∧ (foState s o = foSupply) ∧ (foDemand s o = true) ∧ ((s.bank (6 + o / 4)).moored = false) ∧ (foServing s o = true) ∧ (pinFirst s (113 + o) = true) ∧ (s.fld (FO_STAT o) FO_STAT_VETO_T = 0) :=
  ⟨15, [3], (up |> State.setFld (FO_STAT 15) FO_STAT_STATE (4) |> State.setFld (FO_CMD 15) FO_CMD_ON (1) |> (fun s => { s with fieldBank := { s.fieldBank with queue := [15, 3] } })), by decide +kernel⟩

theorem test_Culverts_1 : ∃ (cv : Fin 6) (frame : BitVec 80) (s : State),
    (Calm s) ∧ (cvUp s cv = true) ∧ (frameGood frame = true) ∧ (frameSeq frame = (s.cv cv).up.rxSeq) :=
  ⟨5, BitVec.ofNat 80 (crcBits 16 0x1021 64 0 0xFFFF), (up), by decide +kernel⟩

theorem test_Culverts_2 : ∃ (cv : Fin 6) (frame : BitVec 80) (s : State),
    (Calm s) ∧ (cvUp s cv = true) ∧ (frameGood frame = false) :=
  ⟨0, 0#80, (up), by decide +kernel⟩

theorem test_Culverts_3 : ∃ (cv : Fin 6) (d : Bool) (s : State),
    (Calm s) ∧ (cvUp s cv = true) ∧ (4 ≤ (laneOf s cv d).attempts) ∧ (actingReact s cv = 0) ∧ (resetOverdue s = false) :=
  ⟨5, true, (up |> (fun s => State.modCv 5 (fun c => { c with down := { c.down with attempts := 4 } }) s)), by decide +kernel⟩

theorem test_Culverts_4 : ∃ (cv : Fin 6) (s : State),
    (Calm s) ∧ (cvUp s cv = false) ∧ (s.start.lodgeDown = false) ∧ (cv.val < 5) ∧ ((s.die cv).silent = false) ∧ ((s.die cv).held = []) :=
  ⟨4, (up |> State.setFld (SYS_CV_STAT 4) SYS_CV_STAT_UP (0)), by decide +kernel⟩

theorem test_Culverts_5 : ∃ (cv : Fin 6) (s : State),
    (Calm s) ∧ (cvUp s cv = false) :=
  ⟨4, (up |> State.setFld (SYS_CV_STAT 4) SYS_CV_STAT_UP (0)), by decide +kernel⟩

theorem test_Culverts_6 : ∃ (cv : Fin 6) (d : Bool) (s : State),
    (Calm s) ∧ (cvUp s cv = true) ∧ (laneIdle s cv d = true) :=
  ⟨4, true, (up), by decide +kernel⟩

theorem test_LockStrobeSequence_1 : ∃ (s : State),
    (Calm s) ∧ (s.lock.closed = false) ∧ (cycleAt s 4000 = true) ∧ ((∀ d : Fin 5, domOff s (24 + d) = false)) :=
  ⟨(up |> (fun s => { s with lock := { s.lock with openSet := [{ target := 0x10003, word := 5 }] } })), by decide +kernel⟩

theorem test_LockStrobeSequence_2 : ∃ (cv : Fin 5) (n : Nat) (s : State),
    (Calm s) ∧ ((s.die cv).announced = some n) ∧ (n ≤ (s.die cv).received) :=
  ⟨2, 1, (up |> (fun s => State.modDie 2 (fun d => { d with announced := some 1, received := 1 }) s)), by decide +kernel⟩

theorem test_LockStrobeSequence_3 : ∃ (s : State),
    (Calm s) ∧ (s.lock.closed = true) ∧ (cycleAt s 1000 = true) ∧ ((∀ cv : Fin 5, owesAck s cv = false)) :=
  ⟨(up |> (fun s => { s with lock := { s.lock with closed := true } })), by decide +kernel⟩

theorem test_LockStrobeSequence_4 : ∃ (s : State),
    (Calm s) ∧ (larmHeld s = false) :=
  ⟨(up |> (fun s => { s with lock := { s.lock with larm := true } })), by decide +kernel⟩

theorem test_LockStrobeSequence_5 : ∃ (s : State),
    (Calm s) ∧ (s.start.lodgeDown = false) ∧ (cycleAt s 0 = true) :=
  ⟨(up), by decide +kernel⟩

theorem test_LockStrobeSequence_6 : ∃ (cv : Fin 5) (rest : List Payload) (s : State),
    (Calm s) ∧ (cvUp s cv = true) ∧ ((s.cv cv).down.queue = .immediate { target := 0x10000 + 0x300, word := 0 } :: rest) ∧ (moduleLimp s = true) :=
  ⟨4, [.heartbeat], (up |> State.setFld FAULT_STAT FAULT_STAT_MLIMP (1) |> (fun s => State.modCv 4 (fun c => { c with down := { c.down with queue := [.immediate { target := 0x10300, word := 0 }, .heartbeat] } }) s)), by decide +kernel⟩

theorem test_LockStrobeSequence_7 : ∃ (s : State),
    (Calm s) ∧ (cycleAt s 0 = false) :=
  ⟨(up |> (fun s => { s with lock := { s.lock with strobeAt := some (s.now - 1) } })), by decide +kernel⟩

theorem test_LockStrobeSequence_8 : ∃ (s : State),
    (Calm s) ∧ (s.lock.closed = true) :=
  ⟨(up |> (fun s => { s with lock := { s.lock with closed := true, larm := true } })), by decide +kernel⟩

theorem test_LockStrobeSequence_9 : ∃ (s : State),
    (Calm s) ∧ (s.start.lodgeDown = false) ∧ (cycleAt s 0 = true) ∧ (s.lock.larm = false) :=
  ⟨(up), by decide +kernel⟩

theorem test_LockStrobeSequence_10 : ∃ (cv : Fin 5) (ch : Nat) (w : Word) (rest : List Payload) (s : State),
    (Calm s) ∧ (ch < 96) ∧ (cv.val = dieOfPav (ch / 16)) ∧ (govern s ch = ch) ∧ (cvUp s cv = true) ∧ ((s.cv cv).down.queue = .immediate { target := 0x10000 + ch, word := w.toNat } :: rest) ∧ (limpBars s 1 = false) ∧ ((s.chan ch).hitAt ≠ some s.now) ∧ (serving s (ch / 16) = true) ∧ (fget PAV_CMD_ON w = 0) :=
  ⟨0, 3, 0#32, [.heartbeat], (up |> State.setFld (PAV_STAT 3) PAV_STAT_STATE (1) |> State.setFld (PAV_CMD 3) PAV_CMD_ON (1) |> (fun s => State.modCv 0 (fun c => { c with down := { c.down with queue := [.immediate { target := 0x10003, word := 0 }, .heartbeat] } }) s)), by decide +kernel⟩

theorem test_LockStrobeSequence_11 : ∃ (s : State),
    (Calm s) ∧ (s.start.lodgeDown = false) ∧ (cycleAt s 0 = true) ∧ (s.lock.larm = true) ∧ (s.reg KEEPER_LCC ≠ 0xFFFFFFFF#32) ∧ (inTrans s = false) :=
  ⟨(up |> (fun s => { s with lock := { s.lock with larm := true, closed := true } })), by decide +kernel⟩

theorem test_SilenceAndClaims_1 : ∃ (s : State),
    (Calm s) ∧ (s.lock.lrst = true) :=
  ⟨(up |> (fun s => { s with lock := { s.lock with lrst := true } })), by decide +kernel⟩

theorem test_SilenceAndClaims_2 : ∃ (d : Fin 5) (s : State),
    (Calm s) ∧ ((s.cv d).down.lastFrame + 64000 ≤ s.now) :=
  ⟨4, (up), by decide +kernel⟩

theorem test_SilenceAndClaims_3 : ∃ (d : Fin 5) (s : State),
    (Calm s) ∧ (s.lock.lrst = true) ∧ ((s.die d).silent = false) ∧ ((s.bank 14).moored = false) ∧ ((s.bank 14).limpStart = none) ∧ (d.val = 4) :=
  ⟨4, (up |> (fun s => { s with lock := { s.lock with lrst := true } })), by decide +kernel⟩

theorem test_SilenceAndClaims_4 : ∃ (b : Fin 15) (s : State),
    (Calm s) ∧ (limpDue s b = true) :=
  ⟨14, (up |> (fun s => State.modBank 14 (fun x => { x with limpEnd := some 4 }) s)), by decide +kernel⟩

theorem test_SilenceAndClaims_5 : ∃ (b : Fin 15) (s : State),
    (Calm s) ∧ (cvUp s (dieOfBank b) = true) ∧ (s.start.lodgeDown = false) ∧ (domOff s (24 + dieOfBank b) = false) ∧ ((s.cv (dieOfBank b)).down.queue = []) :=
  ⟨14, (up |> (fun s => State.modBank 14 (fun x => { x with limpStart := some 4 }) s)), by decide +kernel⟩

theorem test_SilenceAndClaims_6 : ∃ (d : Fin 5) (b : Fin 15) (s : State),
    (Calm s) ∧ (cvUp s d = true) ∧ (dieOfBank b = d.val) ∧ ((s.bank b).moored = false) :=
  ⟨3, 13, (up), by decide +kernel⟩

theorem test_SilenceAndClaims_7 : ∃ (d : Fin 5) (b : Fin 15) (s : State),
    (Calm s) ∧ (dieOfBank b = d.val) :=
  ⟨3, 6, (up), by decide +kernel⟩

theorem test_Measurement_1 : ∃ (ch : Fin 96) (i v : Nat) (s : State),
    (Calm s) ∧ (s.fld (MEAS_DCFG (govern s ch)) MEAS_DCFG_DIAG_EN = 1) ∧ (pavLive s (govern s ch) = true) ∧ (measRuns s (govern s ch) = true) ∧ (slotsOwn s ((govern s ch) / 16) (burstSpan s ((govern s ch) / 16) (slotNow s)) = true) ∧ (burstFits s (govern s ch) (burstSpan s ((govern s ch) / 16) (slotNow s)) = true) ∧ (i ≤ 65535) ∧ (v ≤ 4095) :=
  ⟨50, 65535, 4095, (up |> State.setFld (MEAS_DCFG 50) MEAS_DCFG_DIAG_EN (1) |> State.setFld (PAV_STAT 50) PAV_STAT_STATE (1)), by decide +kernel⟩

theorem test_Measurement_2 : ∃ (ch : Fin 96) (va vb : Nat) (s : State),
    (Calm s) ∧ (s.fld (MEAS_DCFG (govern s ch)) MEAS_DCFG_OFF_EN = 1) ∧ (offAllowed s (govern s ch) = true) ∧ (measRuns s (govern s ch) = true) ∧ ((offLong s (govern s ch) || offTimeFits s (govern s ch)) = true) ∧ (4000 ≤ vb) ∧ (s.fld (MEAS_DCFG (govern s ch)) MEAS_DCFG_OL_CNT = 0) ∧ ((s.mch (govern s ch)).offKind = 0) :=
  ⟨50, 0, 4000, (up |> State.setFld (MEAS_DCFG 50) MEAS_DCFG_OFF_EN (1) |> State.setFld (MEAS_DCFG 50) MEAS_DCFG_OL_CNT (0)), by decide +kernel⟩

theorem test_Measurement_3 : ∃ (ch : Fin 96) (v : Nat) (s : State),
    (Calm s) ∧ (pavState s (govern s ch) = pavLatched) ∧ ((s.chan (govern s ch)).capture = true) ∧ (measRuns s (govern s ch) = true) ∧ (v * 16 < 2000) :=
  ⟨50, 124, (up |> State.setFld (PAV_STAT 50) PAV_STAT_STATE (4) |> (fun s => State.modChan 50 (fun x => { x with capture := true }) s)), by decide +kernel⟩

theorem test_Measurement_4 : ∃ (ch : Fin 96) (ns period : Nat) (s : State),
    (Calm s) ∧ (pavPeriod s (govern s ch) false = some period) ∧ (s.fld (MEAS_DCFG (govern s ch)) MEAS_DCFG_STRETCH = 1) ∧ (s.fld (MEAS_DCFG (govern s ch)) MEAS_DCFG_DIAG_EN = 1) ∧ (pavState s (govern s ch) = pavOn) ∧ (measRuns s (govern s ch) = true) ∧ ((s.mch (govern s ch)).stretchLeft = 0) ∧ (onTimeOf (govern s ch / 16) period (s.chan (govern s ch)).duty < ns) ∧ (ns + pavMinOn (govern s ch / 16) ≤ period) :=
  ⟨50, 500000, 5000000, (up |> State.setFld (PAV_STAT 50) PAV_STAT_STATE (1) |> State.setFld (PAV_CFG 50) PAV_CFG_PWMF (2) |> State.setFld (MEAS_DCFG 50) MEAS_DCFG_DIAG_EN (1) |> State.setFld (MEAS_DCFG 50) MEAS_DCFG_STRETCH (1)), by decide +kernel⟩

theorem test_Measurement_5 : ∃ (b : Fin 6) (k : Fin 16) (i v : Nat) (ready : BitVec 16) (s : State),
    (Calm s) ∧ (bgMay s b = true) ∧ (measRuns s (16 * b + k) = true) ∧ (hhNext s b ready.toNat = some k.val) ∧ (hhEligible s (16 * b + k) i = true) :=
  ⟨3, 2, 10000, 1500, 4#16, (up |> State.setFld (MEAS_DCFG 50) MEAS_DCFG_LOADTYPE (1) |> State.setFld (PAV_STAT 50) PAV_STAT_STATE (1) |> (fun s => State.modMch 50 (fun x => { x with dieEn := true, dieImin := 1 }) s)), by decide +kernel⟩

theorem test_Measurement_6 : ∃ (d : Fin 3) (g : Fin 96) (s : State),
    (Calm s) ∧ (dieReports s d = true) ∧ (dieOfPav (g / 16) = d.val) ∧ ((s.mch g).count ≠ 0) :=
  ⟨2, 50, (up |> (fun s => State.modMch 50 (fun x => { x with sumVI := 5, sumII := 6, count := 7 }) s)), by decide +kernel⟩

theorem test_Measurement_7 : ∃ (ch : Fin 96) (b : Nat × Nat × Nat) (rest : List (Nat × Nat × Nat)) (s : State),
    (Calm s) ∧ ((s.mch (govern s ch)).sent = b :: rest) ∧ (dayOver s = false) :=
  ⟨50, (5, 6, 7), [], (up |> (fun s => State.modMch 50 (fun x => { x with sent := [(5, 6, 7)] }) s)), by decide +kernel⟩

theorem test_Measurement_8 : ∃ (m : Fin 12) (ch : Fin 128) (s : State),
    (Calm s) ∧ (masterUp s m = true) ∧ (privileged s m = true) ∧ (accessError s MEAS_HHCMD = 0) ∧ (ch.val < 96) ∧ (0 < s.fld MEAS_CFG MEAS_CFG_LEARN_DAYS) :=
  ⟨0, 95, (up |> State.setFld MEAS_CFG MEAS_CFG_LEARN_DAYS (7) |> State.setFld (MEAS_HHBASE 95) MEAS_HHBASE_LEARNED (1)), by decide +kernel⟩

theorem test_Measurement_9 : ∃ (m : Fin 12) (s : State),
    (Calm s) ∧ (masterUp s m = true) ∧ (privileged s m = true) ∧ (accessError s (MEAS_HHCMD + setView) = 0) :=
  ⟨0, (up), by decide +kernel⟩

theorem test_Measurement_10 : ∃ (s : State),
    (Calm s) ∧ (s.meas.dayOpen + dayLength ≤ s.wwt) :=
  ⟨(up |> (fun s => { s with wwt := dayLength })), by decide +kernel⟩

theorem test_Measurement_11 : ∃ (s : State),
    (Calm s) :=
  ⟨(up |> (fun s => State.modMch 50 (fun x => { x with wsum := 5, weight := 6, batches := 7 }) s)), by decide +kernel⟩

theorem test_CanTraffic_1 : ∃ (c : Fin 8) (f : CanFrame) (n : Nat) (s : State),
    (Calm s) ∧ (canHears s c f.sofAgo = true) ∧ (trimFrame f = f) ∧ (fmtAllowed s c f.fmt = true) ∧ ((List.range 128).find? (objAccepts s c f) = some n) :=
  ⟨7, { id := 0x1C40000, data := [1, 2, 3, 4, 255] }, 127, (up |> State.setFld (CAN_CTRL 7) CAN_CTRL_ON (1) |> (fun s => State.setReg (canWord 7 127 0) (fput OBJ_NEWDAT 1 (fput OBJ_EN 1 0#32)) s)), by decide +kernel⟩

theorem test_CanTraffic_2 : ∃ (c : Fin 8) (f : CanFrame) (s : State),
    (Calm s) ∧ (canHears s c f.sofAgo = true) ∧ (trimFrame f = f) ∧ (fmtAllowed s c f.fmt = true) ∧ (canAccepted s c f = false) :=
  ⟨7, { id := 0x1C40000, data := [1, 2] }, (up |> State.setFld (CAN_CTRL 7) CAN_CTRL_ON (1)), by decide +kernel⟩

theorem test_CanTraffic_3 : ∃ (c : Fin 8) (f : CanFrame) (s : State),
    (Calm s) ∧ (canHears s c f.sofAgo = true) ∧ (trimFrame f = f) ∧ (fmtAllowed s c f.fmt = false) :=
  ⟨7, { id := 0x1C40000, fmt := 1, data := [1, 2] }, (up |> State.setFld (CAN_CTRL 7) CAN_CTRL_ON (1)), by decide +kernel⟩

theorem test_CanTraffic_4 : ∃ (c : Fin 8) (n : Nat) (s : State),
    (Calm s) ∧ (canDrives s c = true) ∧ ((s.can c).frozen = none) ∧ (chosenObj s c = some n) :=
  ⟨7, 127, (up |> State.setFld (CAN_CTRL 7) CAN_CTRL_ON (1) |> State.setFld (CAN_CTRL 7) CAN_CTRL_MODE (0) |> (fun s => State.setReg (canWord 7 127 0) (fput OBJ_TXREQ 1 (fput OBJ_DIR 1 (fput OBJ_EN 1 0#32))) s)), by decide +kernel⟩

theorem test_CanTraffic_5 : ∃ (c : Fin 8) (n : Nat) (f : CanFrame) (s : State),
    (Calm s) ∧ (canRuns s c = true) ∧ (canBusOff s c = false) ∧ (n < 128) ∧ ((s.can c).frozen = some (n, f)) ∧ ((s.can c).cancel = false) ∧ ((s.can c).held = []) ∧ (canMode s c ≠ 3) :=
  ⟨7, 3, {}, (up |> State.setFld (CAN_CTRL 7) CAN_CTRL_ON (1) |> (fun s => State.modCan 7 (fun x => { x with frozen := some (3, {}) }) s) |> (fun s => State.setReg (canWord 7 3 0) (fput OBJ_TXREQ 1 (fput OBJ_DIR 1 (fput OBJ_EN 1 0#32))) s)), by decide +kernel⟩

theorem test_CanTraffic_6 : ∃ (m : Fin 12) (c : Fin 8) (n : Fin 128) (s : State),
    (Calm s) ∧ (masterUp s m = true) ∧ (accessError s (CAN_CANCEL c) = 0) ∧ (cvUp s 5 = true) ∧ (fget OBJ_TXREQ (objWord s c n) = 1) ∧ ((s.can c).frozen = none) :=
  ⟨0, 7, 3, (up |> (fun s => State.setReg (canWord 7 3 0) (fput OBJ_TXREQ 1 0#32) s)), by decide +kernel⟩

theorem test_CanTraffic_7 : ∃ (m : Fin 12) (c : Fin 8) (n : Fin 128) (f : CanFrame) (s : State),
    (Calm s) ∧ (masterUp s m = true) ∧ (accessError s (CAN_CANCEL c) = 0) ∧ (cvUp s 5 = true) ∧ (fget OBJ_TXREQ (objWord s c n) = 1) ∧ ((s.can c).frozen = some (n.val, f)) :=
  ⟨0, 7, 3, {}, (up |> (fun s => State.modCan 7 (fun x => { x with frozen := some (3, {}) }) s) |> (fun s => State.setReg (canWord 7 3 0) (fput OBJ_TXREQ 1 0#32) s)), by decide +kernel⟩

theorem test_CanTraffic_8 : ∃ (c : Fin 8) (n : Nat) (f : CanFrame) (s : State),
    (Calm s) ∧ (canRuns s c = true) ∧ (n < 128) ∧ ((s.can c).frozen = some (n, f)) ∧ ((s.can c).cancel = false) ∧ ((s.can c).held = []) :=
  ⟨7, 3, {}, (up |> State.setFld (CAN_CTRL 7) CAN_CTRL_ON (1) |> (fun s => State.modCan 7 (fun x => { x with frozen := some (3, {}) }) s) |> (fun s => State.setReg (canWord 7 3 0) (fput OBJ_TXREQ 1 (fput OBJ_DIR 1 (fput OBJ_EN 1 0#32))) s)), by decide +kernel⟩

theorem test_CanConfinement_1 : ∃ (c : Fin 8) (lec : Fin 7) (inData : Bool) (s : State),
    (Calm s) ∧ (canRuns s c = true) ∧ (canBusOff s c = false) ∧ ((s.can c).frozen = none) ∧ (s.fld (CAN_ERR c) CAN_ERR_TEC < 80) ∧ (s.fld (CAN_ERR c) CAN_ERR_REC < 80) :=
  ⟨7, 6, false, (up |> State.setFld (CAN_CTRL 7) CAN_CTRL_ON (1)), by decide +kernel⟩

theorem test_CanConfinement_2 : ∃ (c : Fin 8) (lec : Fin 7) (inData : Bool) (s : State),
    (Calm s) ∧ (canRuns s c = true) ∧ (canBusOff s c = false) ∧ ((s.can c).frozen = none) ∧ (247 < s.fld (CAN_ERR c) CAN_ERR_TEC) ∧ (s.fld (CAN_ERR c) CAN_ERR_TEC ≤ 255) ∧ (actingReact s (54 + c) = 0) ∧ (resetOverdue s = false) :=
  ⟨7, 3, false, (up |> State.setFld (CAN_CTRL 7) CAN_CTRL_ON (1) |> State.setFld (CAN_ERR 7) CAN_ERR_TEC (248)), by decide +kernel⟩

theorem test_CanConfinement_3 : ∃ (c : Fin 8) (lec : Fin 7) (inData : Bool) (s : State),
    (Calm s) ∧ (canRuns s c = true) ∧ (canBusOff s c = false) ∧ (s.fld (CAN_ERR c) CAN_ERR_REC < 80) ∧ (s.fld (CAN_ERR c) CAN_ERR_TEC < 96) :=
  ⟨7, 2, false, (up |> State.setFld (CAN_CTRL 7) CAN_CTRL_ON (1)), by decide +kernel⟩

theorem test_CanConfinement_4 : ∃ (m : Fin 12) (c : Fin 8) (s : State),
    (Calm s) ∧ (masterUp s m = true) ∧ (accessError s (CAN_CANCEL c) = 0) ∧ (cvUp s 5 = true) ∧ (canBusOff s c = true) ∧ (s.fld (CAN_CTRL c) CAN_CTRL_BO_MODE = 1) :=
  ⟨0, 7, (up |> State.setFld (CAN_ERR 7) CAN_ERR_STATE (2) |> State.setFld (CAN_CTRL 7) CAN_CTRL_BO_MODE (1)), by decide +kernel⟩

theorem test_CanConfinement_5 : ∃ (c : Fin 8) (s : State),
    (Calm s) ∧ (canRuns s c = true) ∧ (canBusOff s c = true) ∧ ((s.can c).recovering = true) :=
  ⟨7, (up |> State.setFld (CAN_CTRL 7) CAN_CTRL_ON (1) |> State.setFld (CAN_ERR 7) CAN_ERR_STATE (2) |> (fun s => State.modCan 7 (fun x => { x with recovering := true }) s)), by decide +kernel⟩

theorem test_CanConfinement_6 : ∃ (c : Fin 8) (s : State),
    (Calm s) :=
  ⟨7, (up), by decide +kernel⟩

theorem test_CanRateAndName_1 : ∃ (c : Fin 8) (minbit i : Nat) (s : State),
    (Calm s) ∧ (rdRuns s c = true) ∧ ((s.can c).rdCand = some i) ∧ (1 ≤ (s.can c).rdGood) ∧ (i < 8) :=
  ⟨7, 0, 5, (up |> State.setFld (CAN_CTRL 7) CAN_CTRL_ON (1) |> State.setFld (CAN_CTRL 7) CAN_CTRL_MODE (2) |> State.setFld (CAN_CTRL 7) CAN_CTRL_RD_AUTO (1) |> (fun s => State.modCan 7 (fun x => { x with rdCand := some 5, rdGood := 1 }) s)), by decide +kernel⟩

theorem test_CanRateAndName_2 : ∃ (c : Fin 8) (minbit : Nat) (s : State),
    (Calm s) ∧ (rdRuns s c = true) ∧ ((s.can c).rdCand = none) ∧ (minbit < 2 ^ CAN_RDET_MINBIT.w) :=
  ⟨7, 160, (up |> State.setFld (CAN_CTRL 7) CAN_CTRL_ON (1) |> State.setFld (CAN_CTRL 7) CAN_CTRL_MODE (2)), by decide +kernel⟩

theorem test_CanRateAndName_3 : ∃ (c : Fin 8) (s : State),
    (Calm s) ∧ (canRuns s c = true) ∧ (canMode s c = 2) ∧ (s.fld (CAN_RDET c) CAN_RDET_DONE = 0) ∧ (0 < s.fld (CAN_CTRL c) CAN_CTRL_RD_TO) ∧ ((s.can c).rdStart + s.fld (CAN_CTRL c) CAN_CTRL_RD_TO * 10000000 ≤ s.now) :=
  ⟨7, (up |> State.setFld (CAN_CTRL 7) CAN_CTRL_ON (1) |> State.setFld (CAN_CTRL 7) CAN_CTRL_MODE (2) |> State.setFld (CAN_CTRL 7) CAN_CTRL_RD_TO (1)), by decide +kernel⟩

theorem test_CanRateAndName_4 : ∃ (c : Fin 8) (s : State),
    (Calm s) ∧ (jServes s c = true) ∧ (jState s c = 0) :=
  ⟨7, (up |> State.setFld (CAN_CTRL 7) CAN_CTRL_ON (1) |> State.setFld (CAN_CTRL 7) CAN_CTRL_MODE (0) |> State.setFld (CAN_J1939 7) CAN_J1939_EN (1) |> State.setFld (CAN_J1939 7) CAN_J1939_PREF (33)), by decide +kernel⟩

theorem test_CanRateAndName_5 : ∃ (c : Fin 8) (s : State),
    (Calm s) ∧ (jServes s c = true) ∧ (jState s c = 1) ∧ ((s.can c).jEnd ≤ s.now) ∧ ((s.can c).jAddr < 256) :=
  ⟨7, (up |> State.setFld (CAN_CTRL 7) CAN_CTRL_ON (1) |> State.setFld (CAN_CTRL 7) CAN_CTRL_MODE (0) |> State.setFld (CAN_J1939 7) CAN_J1939_EN (1) |> State.setFld (CAN_J1939 7) CAN_J1939_STATE (1) |> (fun s => State.modCan 7 (fun x => { x with jAddr := 200 }) s)), by decide +kernel⟩

theorem test_CanRateAndName_6 : ∃ (c : Fin 8) (name sa : Nat) (s : State),
    (Calm s) ∧ (pausing s = false) ∧ (jServes s c = true) ∧ (jState s c = 2) ∧ (sa = s.fld (CAN_J1939 c) CAN_J1939_ADDR) ∧ (jName s c ≤ name) :=
  ⟨7, 5, 77, (up |> State.setFld (CAN_CTRL 7) CAN_CTRL_ON (1) |> State.setFld (CAN_CTRL 7) CAN_CTRL_MODE (0) |> State.setFld (CAN_J1939 7) CAN_J1939_EN (1) |> State.setFld (CAN_J1939 7) CAN_J1939_STATE (2) |> State.setFld (CAN_J1939 7) CAN_J1939_ADDR (77)), by decide +kernel⟩

theorem test_CanRateAndName_7 : ∃ (c : Fin 8) (name sa : Nat) (s : State),
    (Calm s) ∧ (pausing s = false) ∧ (jServes s c = true) ∧ (jState s c = 2) ∧ (sa = s.fld (CAN_J1939 c) CAN_J1939_ADDR) ∧ (name < jName s c) ∧ (s.fld (CAN_J1939 c) CAN_J1939_AAC = 0) :=
  ⟨7, 5, 77, (up |> State.setFld (CAN_CTRL 7) CAN_CTRL_ON (1) |> State.setFld (CAN_CTRL 7) CAN_CTRL_MODE (0) |> State.setFld (CAN_J1939 7) CAN_J1939_EN (1) |> State.setFld (CAN_J1939 7) CAN_J1939_STATE (2) |> State.setFld (CAN_J1939 7) CAN_J1939_ADDR (77) |> (fun s => State.setReg (CAN_J1939_NAME_HI 7) 1#32 s)), by decide +kernel⟩

theorem test_CanRateAndName_8 : ∃ (c : Fin 8) (s : State),
    (Calm s) ∧ (pausing s = false) ∧ (jServes s c = true) ∧ (jState s c = 2) :=
  ⟨7, (up |> State.setFld (CAN_CTRL 7) CAN_CTRL_ON (1) |> State.setFld (CAN_CTRL 7) CAN_CTRL_MODE (0) |> State.setFld (CAN_J1939 7) CAN_J1939_EN (1) |> State.setFld (CAN_J1939 7) CAN_J1939_STATE (2) |> State.setFld (CAN_J1939 7) CAN_J1939_ADDR (77)), by decide +kernel⟩

theorem test_LinSegmentsAndSensors_1 : ∃ (ch : Fin 12) (sl : LinSlot) (s : State),
    (Calm s) ∧ (linRuns s ch = true) ∧ (linCommander s ch = true) ∧ (s.pow.stage = 0) ∧ ((s.lin ch).slotEnd ≤ s.now) ∧ ((s.lin ch).switching = true) ∧ ((linTable s ch (s.fld (LIN_CFG ch) LIN_CFG_SCHED))[0]? = some sl) :=
  ⟨11, { kind := 0, id := 5, time := 100 }, (up |> State.setFld (LIN_CFG 11) LIN_CFG_ON (1) |> State.setFld (LIN_CFG 11) LIN_CFG_SCHED (3) |> (fun s => State.modLin 11 (fun x => { x with switching := true }) s) |> (fun s => { s with bus := { s.bus with linSched := Tab.put s.bus.linSched [] (4 * 11 + 3) [{ kind := 0, id := 5, time := 100 }] } })), by decide +kernel⟩

theorem test_LinSegmentsAndSensors_2 : ∃ (ch : Fin 12) (sl : LinSlot) (s : State),
    (Calm s) ∧ (linRuns s ch = true) ∧ (linCommander s ch = true) ∧ (s.pow.stage = 0) ∧ ((s.lin ch).slotEnd ≤ s.now) ∧ ((s.lin ch).switching = false) ∧ ((s.lin ch).next < 64) ∧ ((linTable s ch (s.lin ch).table)[(s.lin ch).next]? = some sl) ∧ (xcvState s (6 + ch) = 3) ∧ (sl.kind = 0) ∧ ((s.linFrame ch sl.id).dir = 2) :=
  ⟨11, { kind := 0, id := 5, time := 100 }, (up |> State.setFld (LIN_CFG 11) LIN_CFG_ON (1) |> (fun s => setXcv 17 3 s) |> (fun s => State.modLinFrame 11 5 (fun f => { f with dir := 2 }) s) |> (fun s => { s with bus := { s.bus with linSched := Tab.put s.bus.linSched [] (4 * 11) [{ kind := 0, id := 5, time := 100 }] } })), by decide +kernel⟩

theorem test_LinSegmentsAndSensors_3 : ∃ (ch : Fin 12) (id : Fin 64) (data : BitVec 64) (s : State),
    (Calm s) ∧ (linLive s ch = true) ∧ ((s.linFrame ch id).dir = 2) :=
  ⟨11, 63, 0x1122334455667788#64, (up |> State.setFld (LIN_CFG 11) LIN_CFG_ON (1) |> (fun s => setXcv 17 2 s) |> (fun s => State.modLinFrame 11 63 (fun f => { f with dir := 2, len := 3 }) s)), by decide +kernel⟩

theorem test_LinSegmentsAndSensors_4 : ∃ (ch : Fin 12) (data : BitVec 64) (s : State),
    (Calm s) ∧ (linLive s ch = true) ∧ (data.toNat % 256 = 0) :=
  ⟨11, 0xFFFFFFFFFFFFFF00#64, (up |> State.setFld (LIN_CFG 11) LIN_CFG_ON (1) |> (fun s => setXcv 17 2 s)), by decide +kernel⟩

theorem test_LinSegmentsAndSensors_5 : ∃ (ch : Fin 12) (id : Fin 64) (breakBits rate : Nat) (s : State),
    (Calm s) ∧ (linLive s ch = true) ∧ (linCommander s ch = false) ∧ (linTakes s ch breakBits rate = true) ∧ ((s.linFrame ch id).dir = 1) ∧ (xcvState s (6 + ch) = 3) :=
  ⟨11, 63, 13, 19200, (up |> State.setFld (LIN_CFG 11) LIN_CFG_ON (1) |> State.setFld (LIN_CFG 11) LIN_CFG_ROLE (1) |> (fun s => setXcv 17 3 s) |> (fun s => State.modLinFrame 11 63 (fun f => { f with dir := 1, len := 3 }) s)), by decide +kernel⟩

theorem test_LinSegmentsAndSensors_6 : ∃ (ch : Fin 12) (id : Fin 64) (dur : Nat) (s : State),
    (Calm s) ∧ (linLive s ch = true) ∧ ((s.linFrame ch id).dir ≠ 0) :=
  ⟨11, 63, 0, (up |> State.setFld (LIN_CFG 11) LIN_CFG_ON (1) |> (fun s => setXcv 17 2 s) |> (fun s => State.modLinFrame 11 63 (fun f => { f with dir := 2, len := 3 }) s)), by decide +kernel⟩

theorem test_LinSegmentsAndSensors_7 : ∃ (ch : Fin 12) (id : Fin 64) (dur : Nat) (s : State),
    (Calm s) ∧ (linLive s ch = true) ∧ (100000000 ≤ dur) ∧ (actingReact s (68 + ch) = 0) ∧ (resetOverdue s = false) :=
  ⟨11, 63, 100000000, (up |> State.setFld (LIN_CFG 11) LIN_CFG_ON (1) |> (fun s => setXcv 17 2 s)), by decide +kernel⟩

theorem test_LinSegmentsAndSensors_8 : ∃ (m : Fin 12) (ch : Fin 12) (v : Fin 4) (s : State),
    (Calm s) ∧ (masterUp s m = true) ∧ (accessError s (LIN_CFG ch + toggleView) = 0) :=
  ⟨0, 11, 3, (up), by decide +kernel⟩

theorem test_LinSegmentsAndSensors_9 : ∃ (p : Fin 2) (dest : Nat) (bytes : List Nat) (s : State),
    (Calm s) ∧ (t1sRuns s p (t1sTime bytes.length) = true) ∧ (t1sPasses s p dest = true) ∧ (bytes.length ≤ 1522) :=
  ⟨1, 77, [1, 2, 3], (up |> State.setFld (T1S_CFG 1) T1S_CFG_ON (1) |> (fun s => { s with bus := { s.bus with t1sUni := Tab.put s.bus.t1sUni 0 1 77 } })), by decide +kernel⟩

theorem test_LinSegmentsAndSensors_10 : ∃ (p : Fin 2) (dest : Nat) (bytes : List Nat) (s : State),
    (Calm s) ∧ (t1sRuns s p (t1sTime bytes.length) = true) :=
  ⟨1, 77, [1, 2, 3], (up |> State.setFld (T1S_CFG 1) T1S_CFG_ON (1)), by decide +kernel⟩

theorem test_LinSegmentsAndSensors_11 : ∃ (p : Fin 2) (s : State),
    (Calm s) ∧ (t1sRuns s p 0 = true) ∧ (s.fld (T1S_STAT p) T1S_STAT_PLCA_OK = 1) ∧ (actingReact s (84 + p) = 0) ∧ (resetOverdue s = false) :=
  ⟨1, (up |> State.setFld (T1S_CFG 1) T1S_CFG_ON (1) |> State.setFld (T1S_STAT 1) T1S_STAT_PLCA_OK (1)), by decide +kernel⟩

theorem test_LinSegmentsAndSensors_12 : ∃ (i : Fin 4) (cal status data ago : Nat) (s : State),
    (Calm s) ∧ (sentRuns s i = true) ∧ (sentCalOk s i cal = true) ∧ (status < 16) :=
  ⟨3, 16800, 15, 0xABCDEF, 12345, (up |> State.setFld (SENT_CFG 3) SENT_CFG_ON (1) |> State.setFld (SENT_CFG 3) SENT_CFG_TICK (300) |> State.setFld (SENT_CFG 3) SENT_CFG_NIBBLES (6)), by decide +kernel⟩

theorem test_LinSegmentsAndSensors_13 : ∃ (i : Fin 4) (cal status data ago : Nat) (s : State),
    (Calm s) ∧ (sentRuns s i = true) ∧ (sentCalOk s i cal = true) :=
  ⟨3, 16800, 15, 0xABCDEF, 12345, (up |> State.setFld (SENT_CFG 3) SENT_CFG_ON (1) |> State.setFld (SENT_CFG 3) SENT_CFG_TICK (300)), by decide +kernel⟩

theorem test_LinSegmentsAndSensors_14 : ∃ (i : Fin 4) (kind id data : Nat) (s : State),
    (Calm s) ∧ (sentRuns s i = true) ∧ (sentTakesSlow s i kind = true) ∧ (id < 256) ∧ (data < 65536) :=
  ⟨3, 3, 15, 65535, (up |> State.setFld (SENT_CFG 3) SENT_CFG_ON (1) |> State.setFld (SENT_CFG 3) SENT_CFG_SLOW (2)), by decide +kernel⟩

theorem test_LinSegmentsAndSensors_15 : ∃ (i : Fin 4) (s : State),
    (Calm s) ∧ (sentRuns s i = true) ∧ (0 < s.fld (SENT_CFG i) SENT_CFG_SENT_TO) ∧ ((s.sent i).timedOut = false) ∧ ((s.sent i).lastValid + s.fld (SENT_CFG i) SENT_CFG_SENT_TO * 1000000 ≤ s.now) ∧ (actingReact s (80 + i) = 0) ∧ (resetOverdue s = false) :=
  ⟨3, (up |> State.setFld (SENT_CFG 3) SENT_CFG_ON (1) |> State.setFld (SENT_CFG 3) SENT_CFG_SENT_TO (1)), by decide +kernel⟩

theorem test_NetworkWakesAndSleep_1 : ∃ (c : Fin 6) (p1 p2 p3 total : Nat) (s : State),
    (Calm s) ∧ (xcvArmed s c = true) ∧ (wuf s c ≤ p1) ∧ (wuf s c ≤ p2) ∧ (wuf s c ≤ p3) ∧ (total < wupTo s c) ∧ (lowPower s = true) ∧ (selectiveOn s c = false) ∧ (wakeListed s 2 c = true) ∧ (suppressed s c = false) :=
  ⟨5, 5000, 5000, 5000, 499999, (up |> State.setFld (NETPM_XCV 5) NETPM_XCV_ARMED (1) |> State.setFld POWER_STAT POWER_STAT_STATE (2)), by decide +kernel⟩

theorem test_NetworkWakesAndSleep_2 : ∃ (c : Fin 6) (p1 p2 p3 total : Nat) (s : State),
    (Calm s) ∧ (xcvArmed s c = true) ∧ ((p1 < wuf s c ∨ p2 < wuf s c ∨ p3 < wuf s c ∨ wupTo s c ≤ total)) :=
  ⟨5, 5000, 499, 5000, 499999, (up |> State.setFld (NETPM_XCV 5) NETPM_XCV_ARMED (1) |> State.setFld POWER_STAT POWER_STAT_STATE (2)), by decide +kernel⟩

theorem test_NetworkWakesAndSleep_3 : ∃ (ch : Fin 12) (dur : Nat) (s : State),
    (Calm s) ∧ (xcvArmed s (6 + ch) = true) ∧ (lwake s (6 + ch) ≤ dur) ∧ (lowPower s = true) ∧ (wakeListed s 4 ch = true) :=
  ⟨11, 150000, (up |> State.setFld (NETPM_XCV 17) NETPM_XCV_ARMED (1) |> State.setFld POWER_STAT POWER_STAT_STATE (2)), by decide +kernel⟩

theorem test_NetworkWakesAndSleep_4 : ∃ (c : Fin 6) (f : CanFrame) (rate : Fin 4) (s : State),
    (Calm s) ∧ (rate.val = s.fld (NETPM_PN_CFG c) NETPM_PN_CFG_RATE) ∧ (xcvArmed s c = true) ∧ (selectiveOn s c = true) ∧ (f.fmt = 0) ∧ (pnMatches s c f false = true) ∧ (s.fld (NETPM_PN_CFG c) NETPM_PN_CFG_FEC = 0) ∧ (lowPower s = true) ∧ (wakeListed s 3 c = true) ∧ (suppressed s c = false) :=
  ⟨5, {}, 2, (up |> State.setFld (NETPM_XCV 5) NETPM_XCV_ARMED (1) |> State.setFld (NETPM_PN_CFG 5) NETPM_PN_CFG_PN_EN (1) |> State.setFld (NETPM_PN_CFG 5) NETPM_PN_CFG_PN_DLC (0) |> State.setFld POWER_CFG POWER_CFG_PN_MOOR (32) |> State.setFld POWER_STAT POWER_STAT_STATE (2)), by decide +kernel⟩

theorem test_NetworkWakesAndSleep_5 : ∃ (c : Fin 6) (f : CanFrame) (rate : Fin 4) (s : State),
    (Calm s) ∧ (xcvArmed s c = true) ∧ (selectiveOn s c = true) ∧ (f.fmt = 0) ∧ (s.fld (NETPM_PN_CFG c) NETPM_PN_CFG_FEC < 31) :=
  ⟨5, {}, 2, (up |> State.setFld (NETPM_XCV 5) NETPM_XCV_ARMED (1) |> State.setFld (NETPM_PN_CFG 5) NETPM_PN_CFG_PN_EN (1) |> State.setFld (NETPM_PN_CFG 5) NETPM_PN_CFG_FEC (30)), by decide +kernel⟩

theorem test_NetworkWakesAndSleep_6 : ∃ (i : Fin 18) (s : State),
    (Calm s) ∧ (xcvArmed s i = true) ∧ (canBeWoken s = false) ∧ (xcvState s i < 2) ∧ (powState s < 2) ∧ (s.pow.stage = 0) ∧ (s.start.lodgeDown = false) :=
  ⟨17, (up |> State.setFld (NETPM_XCV 17) NETPM_XCV_ARMED (1) |> State.setFld (NETPM_XCV 17) NETPM_XCV_AUTO_NORMAL (1)), by decide +kernel⟩

theorem test_NetworkWakesAndSleep_7 : ∃ (m : Fin 12) (i : Fin 18) (w : Word) (s : State),
    (Calm s) ∧ (masterUp s m = true) ∧ (accessError s (NETPM_XCV i) = 0) ∧ (powState s < 2) ∧ (s.pow.stage = 0) ∧ (locking s 14 = false) :=
  ⟨0, 17, fput NETPM_XCV_REQ 3 0#32, (up |> State.setFld CHECK_EN CHECK_EN_ENABLE (0)), by decide +kernel⟩

theorem test_NetworkWakesAndSleep_8 : ∃ (m : Fin 12) (i : Fin 18) (s : State),
    (Calm s) ∧ (masterUp s m = true) ∧ (accessError s (NETPM_XCV i + setView) = 0) ∧ (6 ≤ i.val) ∧ (xcvState s i = 3) ∧ (locking s 14 = false) :=
  ⟨0, 17, (up |> State.setFld (NETPM_XCV 17) NETPM_XCV_STATE (3) |> State.setFld CHECK_EN CHECK_EN_ENABLE (0)), by decide +kernel⟩

theorem test_NetworkWakesAndSleep_9 : ∃ (ch : Fin 12) (s : State),
    (Calm s) ∧ (linFollows s ch = true) :=
  ⟨11, (up |> State.setFld (LIN_CFG 11) LIN_CFG_ON (1) |> State.setFld (LIN_CFG 11) LIN_CFG_ROLE (1) |> State.setFld (NETPM_XCV 17) NETPM_XCV_STATE (2) |> State.setFld (NETPM_XCV 17) NETPM_XCV_SLP_FOLLOW (1)), by decide +kernel⟩

theorem test_NetworkWakesAndSleep_10 : ∃ (c : Fin 6) (ide : Bool) (id : Nat) (s : State),
    (Calm s) ∧ (canHears s c 0 = true) ∧ (enabled s 14 = true) ∧ (keepMatches s c ide id = true) :=
  ⟨5, false, 0, (up |> State.setFld (CAN_CTRL 5) CAN_CTRL_ON (1) |> State.setFld (NETPM_XCV 5) NETPM_XCV_STATE (3) |> (fun s => State.setReg (NETPM_KMSK 5) 0x1FFFFFFF#32 s)), by decide +kernel⟩

theorem test_NetworkWakesAndSleep_11 : ∃ (c : Fin 6) (s : State),
    (Calm s) ∧ (bitOf (holding s) c = true) ∧ ((Tab.get s.net.keep (0, 0) c).1 + nmTo s ≤ s.now + 1) :=
  ⟨5, (up |> State.setFld NETPM_STAT NETPM_STAT_HOLDING (33)), by decide +kernel⟩

theorem test_NetworkWakesAndSleep_12 : ∃ (b : Nat) (s : State),
    (Calm s) ∧ (s.net.awakeStart = some b) ∧ (b + maxAwake s ≤ s.now) ∧ (localReason s = false) ∧ (holding s ≠ 0) ∧ (s.fld NETPM_AWAKE NETPM_AWAKE_MAX_AWAKE ≠ 0) ∧ (inTrans s = false) ∧ (powState s < 2) :=
  ⟨5, (up |> State.setFld NETPM_STAT NETPM_STAT_HOLDING (6) |> State.setFld NETPM_AWAKE NETPM_AWAKE_MAX_AWAKE (1) |> (fun s => { s with now := 60000000005, net := { s.net with awakeStart := some 5 } })), by decide +kernel⟩

theorem test_NetworkWakesAndSleep_13 : ∃ (e : Nat) (s : State),
    (Calm s) ∧ (s.net.holdEnd = some e) ∧ (e ≤ s.now) ∧ (holdoffOn s = true) :=
  ⟨5, (up |> State.setFld NETPM_STAT NETPM_STAT_HOLDOFF_ACT (1) |> (fun s => { s with net := { s.net with holdEnd := some 5 } })), by decide +kernel⟩

theorem test_PowerTransitions_1 : ∃ (s : State),
    (Calm s) ∧ (entering s = true) ∧ (s.pow.stage = 0) ∧ ((∀ c : Fin 8, (s.can c).frozen = none)) :=
  ⟨(up |> State.setFld POWER_STAT POWER_STAT_TRANS (1) |> State.setFld POWER_STAT POWER_STAT_TARGET (2)), by decide +kernel⟩

theorem test_PowerTransitions_2 : ∃ (s : State),
    (Calm s) ∧ (entering s = true) ∧ (s.pow.stage = 1) :=
  ⟨(up |> State.setFld POWER_STAT POWER_STAT_TRANS (1) |> State.setFld POWER_STAT POWER_STAT_TARGET (3) |> (fun s => { s with pow := { s.pow with stage := 1 } })), by decide +kernel⟩

theorem test_PowerTransitions_3 : ∃ (s : State),
    (Calm s) ∧ (entering s = true) ∧ (s.pow.stage = 2) ∧ (s.fld POWER_STAT POWER_STAT_TARGET = 2) ∧ (s.fld POWER_STAT POWER_STAT_PEND = 0) ∧ (s.pow.latched = none) :=
  ⟨(up |> State.setFld POWER_STAT POWER_STAT_TRANS (1) |> State.setFld POWER_STAT POWER_STAT_TARGET (2) |> (fun s => { s with pow := { s.pow with stage := 2 } })), by decide +kernel⟩

theorem test_PowerTransitions_4 : ∃ (s : State),
    (Calm s) ∧ (powState s = 2) ∧ (s.fld POWER_STAT POWER_STAT_PEND = 1) ∧ (s.fld POWER_STAT POWER_STAT_PEND_TGT = 3) :=
  ⟨(up |> State.setFld POWER_STAT POWER_STAT_STATE (2) |> State.setFld POWER_STAT POWER_STAT_PEND (1) |> State.setFld POWER_STAT POWER_STAT_PEND_TGT (3)), by decide +kernel⟩

theorem test_PowerTransitions_5 : ∃ (kind : Fin 16) (index : Nat) (s : State),
    (Calm s) ∧ (entering s = true) ∧ (s.pow.stage < 2) ∧ (commitNext s = false) ∧ (lowPower s = false) ∧ (kind.val ≠ 8) ∧ (wakeListed s kind index = true) ∧ ((kind.val = 2 ∨ kind.val = 3 → index < 6 ∧ suppressed s index = false)) ∧ ((kind.val = 2 → selectiveOn s index = false)) ∧ ((kind.val = 4 → index < 12)) ∧ (s.fld POWER_STAT POWER_STAT_PEND = 0) :=
  ⟨10, 0, (up |> State.setFld POWER_STAT POWER_STAT_TRANS (1) |> State.setFld POWER_STAT POWER_STAT_TARGET (3)), by decide +kernel⟩

theorem test_WakesAndRequests_1 : ∃ (kind : Fin 16) (index : Nat) (multi : Bool) (s : State),
    (Calm s) ∧ (lowPower s = true) ∧ (wakeListed s kind index = true) ∧ (kind.val ≠ 8) ∧ ((kind.val = 2 ∨ kind.val = 3 → index < 6 ∧ suppressed s index = false)) ∧ ((kind.val = 2 → selectiveOn s index = false)) ∧ ((kind.val = 4 → index < 12)) ∧ (index < 256) :=
  ⟨1, 127, true, (up |> State.setFld POWER_STAT POWER_STAT_STATE (2)), by decide +kernel⟩

theorem test_WakesAndRequests_2 : ∃ (s : State),
    (Calm s) ∧ (lowPower s = true) ∧ (s.fld POWER_CFG POWER_CFG_WAKE_TMR ≠ 0) ∧ (s.pow.entered + s.fld POWER_CFG POWER_CFG_WAKE_TMR * 1000000000 ≤ s.now) :=
  ⟨(up |> State.setFld POWER_STAT POWER_STAT_STATE (3) |> State.setFld POWER_CFG POWER_CFG_WAKE_TMR (1)), by decide +kernel⟩

theorem test_WakesAndRequests_3 : ∃ (st reqId origin apply : Nat) (s : State),
    (Calm s) ∧ (st < 4) :=
  ⟨3, 1, 7, 9, (up), by decide +kernel⟩

theorem test_WakesAndRequests_4 : ∃ (reqId origin apply : Nat) (s : State),
    (Calm s) :=
  ⟨1, 4, 9, (up |> (fun s => { s with pow := { s.pow with ackWait := [(4, 1, 9), (4, 2, 9)] } })), by decide +kernel⟩

theorem test_WakesAndRequests_5 : ∃ (w st : Nat) (s : State),
    (Calm s) ∧ (s.pow.apply = [(w, st)]) ∧ (w ≤ s.wwt) ∧ (heldByUpdate s st = false) ∧ (inTrans s = false) ∧ (st ≠ powState s) ∧ (st < 4) :=
  ⟨5, 1, (up |> (fun s => { s with pow := { s.pow with apply := [(5, 1)] } })), by decide +kernel⟩

theorem test_WakesAndRequests_6 : ∃ (s : State),
    (Calm s) :=
  ⟨(up |> (fun s => { s with pow := { s.pow with ackWait := [(4, 1, 9), (5, 1, 90000000000)] } })), by decide +kernel⟩

theorem test_PowerDomains_1 : ∃ (d : Fin 32) (n : Nat) (s : State),
    (Calm s) ∧ (domGoing s d = true) ∧ ((s.dom d).isolated = false) :=
  ⟨13, 3, (up |> State.setFld POWER_DOMOFF POWER_DOMOFF_OFF (8192)), by decide +kernel⟩

theorem test_PowerDomains_2 : ∃ (d : Fin 32) (s : State),
    (Calm s) ∧ ((s.dom d).barred = true) ∧ ((s.dom d).isolated = false) ∧ (s.now < (s.dom d).start + 50000) :=
  ⟨13, (up |> (fun s => State.modDom 13 (fun x => { x with barred := true, inFlight := 2, start := 9999999999 }) s)), by decide +kernel⟩

theorem test_PowerDomains_3 : ∃ (d : Fin 32) (engines hosts blocks : List OpenAccess) (s : State),
    (Calm s) ∧ ((s.dom d).barred = true) ∧ ((s.dom d).isolated = false) ∧ ((s.dom d).start + 50000 ≤ s.now) ∧ ((∀ a ∈ engines ++ hosts ++ blocks, a.took = false)) :=
  ⟨28, [], [], [], (up |> (fun s => State.modDom 28 (fun x => { x with barred := true, inFlight := 2, start := 9 }) s)), by decide +kernel⟩

theorem test_PowerDomains_4 : ∃ (m : Fin 12) (d : Fin 14) (s : State),
    (Calm s) ∧ (masterUp s m = true) ∧ (privileged s m = true) ∧ (accessError s POWER_DOMOFF = 0) ∧ (s.fld POWER_DOMOFF POWER_DOMOFF_OFF = 0) ∧ (domUsed s d = false) :=
  ⟨0, 13, (up), by decide +kernel⟩

theorem test_AqueductPortsAndTime_1 : ∃ (p : Fin 4) (peerMaster : Bool) (s : State),
    (Calm s) ∧ (phyMaster s p ≠ peerMaster) ∧ (s.fld (AQ_PCFG p) AQ_PCFG_EN = 1) ∧ (pinFirst s (189 + 2 * p) = true) ∧ (pinFirst s (190 + 2 * p) = true) ∧ (lstate s p < 2) :=
  ⟨3, true, (up |> State.setFld (AQ_PCFG 3) AQ_PCFG_EN (1) |> State.setFld (AQ_PSTAT 3) AQ_PSTAT_LSTATE (1)), by decide +kernel⟩

theorem test_AqueductPortsAndTime_2 : ∃ (p : Fin 4) (x : Hello) (s : State),
    (Calm s) ∧ (lstate s p = 2) ∧ (majorsMeet s x.major = true) ∧ (aqRunning s = false) ∧ (x.addr < 256) ∧ (x.port < 4) :=
  ⟨3, { hello0 with addr := 9, port := 2, major := 6 }, (up |> State.setFld (AQ_PSTAT 3) AQ_PSTAT_LSTATE (2) |> (fun s => { s with start := { s.start with fwMajor := Tab.put s.start.fwMajor 0 0 6 } })), by decide +kernel⟩

theorem test_AqueductPortsAndTime_3 : ∃ (p : Fin 4) (x : Hello) (s : State),
    (Calm s) ∧ ((lstate s p = 2 ∨ lstate s p = 3)) ∧ ((portUp s p = true → windowOver s p = false)) ∧ (majorsMeet s x.major = false) :=
  ⟨3, { hello0 with addr := 9, port := 2, major := 7 }, (up |> State.setFld (AQ_PSTAT 3) AQ_PSTAT_LSTATE (3) |> (fun s => State.modPort 3 (fun x => { x with lastRx := 9999999999 }) s) |> (fun s => { s with start := { s.start with fwMajor := Tab.put s.start.fwMajor 0 0 6 } })), by decide +kernel⟩

theorem test_AqueductPortsAndTime_4 : ∃ (p : Fin 4) (s : State),
    (Calm s) ∧ (portSends s p = true) ∧ ((s.aqPort p).lastTx + 100000 ≤ s.now) :=
  ⟨3, (up |> State.setFld (AQ_PSTAT 3) AQ_PSTAT_LSTATE (3)), by decide +kernel⟩

theorem test_AqueductPortsAndTime_5 : ∃ (p : Fin 4) (s : State),
    (Calm s) ∧ (portUp s p = true) ∧ ((s.aqPort p).lastRx + 400000 ≤ s.now) ∧ (aqRunning s = false) ∧ (s.fld (AQ_PCFG p) AQ_PCFG_EN = 1) ∧ (actingReact s (48 + p) = 0) ∧ (resetOverdue s = false) :=
  ⟨3, (up |> State.setFld (AQ_PCFG 3) AQ_PCFG_EN (1) |> State.setFld (AQ_PSTAT 3) AQ_PSTAT_LSTATE (3)), by decide +kernel⟩

theorem test_AqueductPortsAndTime_6 : ∃ (p : Fin 4) (b : Barge) (rest : List Barge) (s : State),
    (Calm s) ∧ (portSends s p = true) ∧ ((s.aqPort p).lastTx ≤ s.now) ∧ ((s.aqPort p).ql = b :: rest) :=
  ⟨3, barge0, [], (up |> State.setFld (AQ_PSTAT 3) AQ_PSTAT_LSTATE (3) |> (fun s => State.modPort 3 (fun x => { x with ql := [barge0], qf := [barge0] }) s)), by decide +kernel⟩

theorem test_AqueductPortsAndTime_7 : ∃ (s : State),
    (Calm s) ∧ (s.fld AQ_STAT AQ_STAT_ROOT = 1) ∧ (s.aq.nextSync ≤ s.now) :=
  ⟨(up |> State.setFld AQ_STAT AQ_STAT_ROOT (1) |> State.setFld (AQ_PSTAT 3) AQ_PSTAT_LSTATE (3)), by decide +kernel⟩

theorem test_AqueductPortsAndTime_8 : ∃ (p : Fin 4) (q depth time stamp res : Nat) (s : State),
    (Calm s) ∧ (givesTime s p = true) ∧ ((portUp s p = true → windowOver s p = false)) ∧ (starting s = false) ∧ (depth < 31) :=
  ⟨3, 0, 3, 1000, 900, 5, (up |> State.setFld (AQ_PSTAT 3) AQ_PSTAT_LSTATE (3) |> State.setFld (AQ_PSTAT 3) AQ_PSTAT_DELAY (100) |> (fun s => State.modPort 3 (fun x => { x with lastRx := 9999999999 }) s) |> (fun s => State.setReg (AQ_ROUTE 3) (fput AQ_ROUTE_VALID 1 (fput AQ_ROUTE_PORT 3 (fput AQ_ROUTE_HOPS 1 0#32))) s) |> (fun s => { s with aq := { s.aq with rootSerial := some 77, links := Tab.put s.aq.links {} 4 { serial := 77 } } })), by decide +kernel⟩

theorem test_AqueductPortsAndTime_9 : ∃ (p : Fin 4) (t1 t2 t3 t4 : Nat) (s : State),
    (Calm s) ∧ (portUp s p = true) ∧ ((s.aqPort p).nextDelay ≤ s.now) :=
  ⟨3, 10, 500, 600, 210, (up |> State.setFld (AQ_PSTAT 3) AQ_PSTAT_LSTATE (3)), by decide +kernel⟩

theorem test_AqueductPortsAndTime_10 : ∃ (s : State),
    (Calm s) ∧ (rootLost s = true) ∧ (s.fld AQ_STAT AQ_STAT_HOLDOVER = 0) ∧ (actingReact s 53 = 0) ∧ (resetOverdue s = false) :=
  ⟨(up |> State.setFld AQ_STAT AQ_STAT_STATE (2)), by decide +kernel⟩

theorem test_AqueductPortsAndTime_11 : ∃ (s : State),
    (Calm s) ∧ (s.fld AQ_STAT AQ_STAT_HOLDOVER = 1) ∧ ((parentPort s).isSome = true) :=
  ⟨(up |> State.setFld AQ_STAT AQ_STAT_HOLDOVER (1) |> (fun s => State.setReg (AQ_ROUTE 3) (fput AQ_ROUTE_VALID 1 (fput AQ_ROUTE_PORT 3 (fput AQ_ROUTE_HOPS 1 0#32))) s) |> (fun s => { s with aq := { s.aq with rootSerial := some 77, links := Tab.put s.aq.links {} 4 { serial := 77 } } })), by decide +kernel⟩

theorem test_AqueductPortsAndTime_12 : ∃ (s : State),
    (Calm s) ∧ (s.start.lodgeDown = false) ∧ (s.aq.nextFlush ≤ s.now) :=
  ⟨(up), by decide +kernel⟩

theorem test_AqueductTraffic_1 : ∃ (p : Fin 4) (bytes : List Nat) (s : State),
    (Calm s) ∧ (portSends s p = true) ∧ (8 ≤ bytes.length) ∧ (crcOf crcIeee (bytes.take (bytes.length - 4)) ≠ leAt bytes (bytes.length - 4) 4) :=
  ⟨3, [0, 0, 0, 0, 0, 0, 0, 0], (up |> State.setFld (AQ_PSTAT 3) AQ_PSTAT_LSTATE (3)), by decide +kernel⟩

theorem test_AqueductTraffic_2 : ∃ (p : Fin 4) (bytes : List Nat) (b : Barge) (len : Nat) (s : State),
    (Calm s) ∧ (portSends s p = true) ∧ ((portUp s p = true → windowOver s p = false)) ∧ (8 ≤ bytes.length) ∧ (crcOf crcIeee (bytes.take (bytes.length - 4)) = leAt bytes (bytes.length - 4) 4) ∧ (bargeOf (bytes.take (bytes.length - 4)) = (b, len)) ∧ (b.cls ≠ 3) ∧ (b.dkind = 0) ∧ (b.typ = 1) ∧ (len ≤ 64) ∧ (b.payload.length = len) ∧ (b.dst = aqAddr s) ∧ (b.flow ≠ 0xFD) ∧ (reservedFlow b.flow = false) ∧ (aqState s ≠ 3) ∧ ((Tab.get s.aq.rx {} (256 * b.src + b.flow)).last = none) :=
  ⟨3, [0x14, 1, 9, 4, 7, 1, 5, 0, 0, 0, 0, 0, 0, 0, 0, 0] ++ leBytes 4 (crcOf crcIeee [0x14, 1, 9, 4, 7, 1, 5, 0, 0, 0, 0, 0, 0, 0, 0, 0]), { ver := 1, cls := 1, dkind := 0, typ := 1, dst := 9, src := 4, flow := 7, hops := 1, seq := 5, payload := [], stamp := 0 }, 0, (up |> State.setFld (AQ_PSTAT 3) AQ_PSTAT_LSTATE (3) |> State.setFld AQ_STAT AQ_STAT_ADDR (9) |> (fun s => State.modPort 3 (fun x => { x with lastRx := 9999999999 }) s)), by decide +kernel⟩

theorem test_AqueductTraffic_3 : ∃ (p : Fin 4) (root len path : Nat) (s : State),
    (Calm s) ∧ (len ≤ 29) ∧ (portUp s p = true) ∧ (windowOver s p = false) ∧ ((candidate s).2.1 = root) ∧ (treeBetter s len path = true) :=
  ⟨3, 77, 4, 0x39, (up |> State.setFld (AQ_PSTAT 3) AQ_PSTAT_LSTATE (3) |> (fun s => State.modPort 3 (fun x => { x with lastRx := 9999999999 }) s) |> (fun s => { s with aq := { s.aq with rootSerial := some 77, tree := some (5, 0) } })), by decide +kernel⟩

theorem test_AqueductTraffic_4 : ∃ (p : Fin 4) (serial a pd len flags path hops : Nat) (s : State),
    (Calm s) ∧ (portUp s p = true) ∧ (windowOver s p = false) ∧ (floodTakes s a p = true) ∧ (serial ≠ ownSerial) ∧ (Tab.get s.aq.claims 0 a = 0) ∧ (a ≠ aqAddr s) :=
  ⟨3, ownSerial + 1, 4, 1, 2, 1, 3, 31, (up |> State.setFld (AQ_PSTAT 3) AQ_PSTAT_LSTATE (3) |> (fun s => State.modPort 3 (fun x => { x with lastRx := s.now }) s) |> State.setFld AQ_STAT AQ_STAT_ADDR (9)), by and_intros <;> first | decide +kernel | omega⟩

theorem test_AqueductTraffic_5 : ∃ (p : Fin 4) (a : Nat) (x : LinkState) (hops : Nat) (s : State),
    (Calm s) ∧ (portUp s p = true) ∧ (windowOver s p = false) ∧ (floodTakes s a p = true) ∧ (a ≠ 0) ∧ (a ≠ aqAddr s) ∧ (linkNewer s a x = true) :=
  ⟨3, 4, { lseq := 3, serial := 8 }, 31, (up |> State.setFld (AQ_PSTAT 3) AQ_PSTAT_LSTATE (3) |> (fun s => State.modPort 3 (fun x => { x with lastRx := s.now }) s) |> State.setFld AQ_STAT AQ_STAT_ADDR (9)), by decide +kernel⟩

theorem test_AqueductTraffic_6 : ∃ (s : State),
    (Calm s) ∧ (s.fld AQ_STAT AQ_STAT_RECOV = 1) ∧ (s.aq.recovEnd ≤ s.now) :=
  ⟨(up |> State.setFld AQ_STAT AQ_STAT_RECOV (1) |> State.setFld (AQ_PSTAT 3) AQ_PSTAT_LSTATE (4)), by decide +kernel⟩

theorem test_AqueductTraffic_7 : ∃ (i : Nat) (f : PlanFlow) (s : State),
    (Calm s) ∧ (s.aq.plan.flows[i]? = some f) ∧ (flowDue s i f = true) :=
  ⟨0, { src := 9, flow := 3, cls := 1, dkind := 0, dst := 4, nv := 1, owner := 0 }, (up |> State.setFld AQ_STAT AQ_STAT_STATE (2) |> State.setFld AQ_STAT AQ_STAT_ADDR (9) |> (fun s => { s with aq := { s.aq with plan := { s.aq.plan with flows := [{ src := 9, flow := 3, cls := 1, dkind := 0, dst := 4, nv := 1, owner := 0 }] } } })), by decide +kernel⟩

theorem test_AqueductTraffic_8 : ∃ (src : Nat) (s : State),
    (Calm s) ∧ ((Tab.get s.aq.tunnels {} src).parts ≠ []) ∧ ((Tab.get s.aq.tunnels {} src).start + tunTo s ≤ s.now) :=
  ⟨4, (up |> (fun s => { s with aq := { s.aq with tunnels := Tab.put s.aq.tunnels {} 4 { parts := Tab.put [] [] 0 [1, 2], start := 5 } } })), by decide +kernel⟩

theorem test_AqueductTraffic_9 : ∃ (src : Nat) (s : State),
    (Calm s) ∧ ((Tab.get s.aq.pieces {} src).parts ≠ []) ∧ ((Tab.get s.aq.pieces {} src).start + 10000000000 ≤ s.now) :=
  ⟨4, (up |> (fun s => { s with now := 10000000005, aq := { s.aq with pieces := Tab.put s.aq.pieces {} 4 { parts := Tab.put [] [] 0 [1, 2], start := 5 } } })), by decide +kernel⟩

theorem test_AqueductTraffic_10 : ∃ (src first count p h : Nat) (s : State),
    (Calm s) ∧ (logRecords s first (clampN 1 255 count) = []) ∧ (routeTo s src = some (p, h)) ∧ ((s.aqPort p).qt.length < 32) :=
  ⟨4, 0, 3, 2, 1, (up |> (fun s => State.setReg (AQ_ROUTE 3) (fput AQ_ROUTE_VALID 1 (fput AQ_ROUTE_PORT 2 (fput AQ_ROUTE_HOPS 1 0#32))) s)), by decide +kernel⟩

theorem test_FaultsAndLimp_1 : ∃ (s : State),
    (Calm s) ∧ (s.start.lodgeDown = false) ∧ (sticky s 37 = false) ∧ (inWindow s = false) ∧ (s.net.localHeld = false) ∧ (resetOverdue s = false) :=
  ⟨(up), by decide +kernel⟩

theorem test_FaultsAndLimp_2 : ∃ (s : State),
    (Calm s) ∧ (s.start.lodgeDown = false) ∧ (sticky s 62 = false) ∧ (inWindow s = false) ∧ (s.net.localHeld = false) ∧ (resetOverdue s = false) :=
  ⟨(up |> State.setFld (FAULT_CFG 62) FAULT_CFG_REACT (2)), by decide +kernel⟩

theorem test_FaultsAndLimp_3 : ∃ (s : State),
    (Calm s) ∧ (s.fld FAULT_STAT FAULT_STAT_REACTING = 1) ∧ (s.rep.windowEnd ≤ s.now) ∧ (s.rep.resetDue = false) :=
  ⟨(up |> State.setFld FAULT_STAT FAULT_STAT_REACTING (1)), by decide +kernel⟩

theorem test_FaultsAndLimp_4 : ∃ (s : State),
    (Calm s) ∧ (s.fld FAULT_STAT FAULT_STAT_REACTING = 1) ∧ (s.rep.windowEnd ≤ s.now) ∧ (s.rep.resetDue = true) :=
  ⟨(up |> State.setFld FAULT_STAT FAULT_STAT_REACTING (1) |> (fun s => { s with rep := { s.rep with resetDue := true } })), by decide +kernel⟩

theorem test_FaultsAndLimp_5 : ∃ (m : Fin 12) (s : State),
    (Calm s) ∧ (masterUp s m = true) ∧ (privileged s m = true) ∧ (accessError s (FAULT_CTRL + setView) = 0) ∧ (moduleLimp s = true) ∧ (limpHeld s = false) ∧ ((∀ u : Fin 4, s.fld (CU_STAT u) CU_STAT_BUSY = 0)) ∧ (s.upd.waiting = []) :=
  ⟨0, (up |> State.setFld FAULT_STAT FAULT_STAT_MLIMP (1)), by decide +kernel⟩

theorem test_FaultsAndLimp_6 : ∃ (m : Fin 12) (w : Fin 3) (bits : Word) (s : State),
    (Calm s) ∧ (masterUp s m = true) ∧ (privileged s m = true) ∧ (accessError s (FAULT_STICKY w) = 0) ∧ ((∀ u : Fin 4, s.fld (CU_STAT u) CU_STAT_BUSY = 0)) :=
  ⟨0, 1, 0x80000001#32, (up |> State.setFld (FAULT_STICKY 1) FAULT_STICKY_FLT (0x80000021)), by decide +kernel⟩

theorem test_LogbookAndMemories_1 : ∃ (r : LogRec) (rest : List LogRec) (s : State),
    (Calm s) ∧ (s.start.lodgeDown = false) ∧ (s.rep.clearMark = none) ∧ (s.rep.queue = r :: rest) ∧ (s.rep.lastWrite = none) ∧ (s.rep.overflow = 0) ∧ (s.rep.written + 1 < foundSlots) ∧ (s.upd.waiting = []) :=
  ⟨{ typ := 1, source := 9 }, [{ typ := 2 }], (up |> (fun s => { s with rep := { s.rep with head := 7, written := 7, queue := [{ typ := 1, source := 9 }, { typ := 2 }] } })), by decide +kernel⟩

theorem test_LogbookAndMemories_2 : ∃ (typ : Fin 9) (source index : Nat) (s : State),
    (Calm s) ∧ (64 ≤ s.rep.queue.length) ∧ (s.net.localHeld = false) :=
  ⟨3, 5, 6, (up |> (fun s => { s with rep := { s.rep with queue := List.replicate 64 { typ := 1 } } })), by decide +kernel⟩

theorem test_LogbookAndMemories_3 : ∃ (reader : Fin 10) (a : Word) (s : State),
    (Calm s) ∧ (s.start.lodgeDown = false) :=
  ⟨4, 0#32, (up), by decide +kernel⟩

theorem test_LogbookAndMemories_4 : ∃ (m : Bool) (a : Word) (s : State),
    (Calm s) ∧ (s.start.lodgeDown = false) ∧ (actingReact s (if m then 39 else 38) = 0) ∧ (resetOverdue s = false) :=
  ⟨false, 0x20000010#32, (up |> State.setFld (FAULT_CFG 38) FAULT_CFG_REACT (0)), by decide +kernel⟩

theorem test_LogbookAndMemories_5 : ∃ (s : State),
    (Calm s) ∧ (s.start.lodgeDown = false) :=
  ⟨(up |> (fun s => { s with scrub := { s.scrub with sram := 655359 } })), by decide +kernel⟩

theorem test_LogbookAndMemories_6 : ∃ (s : State),
    (Calm s) ∧ (s.start.lodgeDown = false) :=
  ⟨(up), by decide +kernel⟩

theorem test_CheckUnits_1 : ∃ (m : Fin 12) (u : Fin 4) (w : Word) (s : State),
    (Calm s) ∧ (masterUp s m = true) ∧ (accessError s (CU_CFG u) = 0) ∧ (fget CU_CFG_SRC w ≠ 0) ∧ (fget CU_CFG_SRC w ≠ 7) ∧ ((∀ u : Fin 4, s.fld (CU_STAT u) CU_STAT_BUSY = 0)) :=
  ⟨0, 3, fput CU_CFG_POLY 2 (fput CU_CFG_SRC 6 0#32), (up), by decide +kernel⟩

theorem test_CheckUnits_2 : ∃ (u : Fin 4) (s : State),
    (Calm s) ∧ (cuDone s u = true) ∧ (s.fld (CU_CFG u) CU_CFG_REPEAT = 0) ∧ (actingReact s (44 + u) = 0) :=
  ⟨3, (up |> State.setFld (CU_STAT 3) CU_STAT_BUSY (1)), by decide +kernel⟩

theorem test_GateSessionsAndIgnition_1 : ∃ (m : Fin 12) (w : Word) (s : State),
    (Calm s) ∧ (masterUp s m = true) ∧ (privileged s m = true) ∧ (accessError s GATE_CMD = 0) ∧ (enabled s 17 = true) ∧ (gateBusy s = false) ∧ (gateDelayed s = false) ∧ (kderSet s = true) ∧ (polVid s ≠ 0) ∧ (fget GATE_CMD_KIND w < 2) ∧ ((∀ u : Fin 4, s.fld (CU_STAT u) CU_STAT_BUSY = 0)) :=
  ⟨0, fput GATE_CMD_KIND 1 (fput GATE_CMD_ANT 5 0#32), (up |> (fun s => { s with start := { s.start with sections := [(9, 0, 0x400)] } }) |> State.setFld GATE_STAT GATE_STAT_KDER_SET (1) |> State.setFld GATE_STAT GATE_STAT_SESS (255)), by decide +kernel⟩

theorem test_GateSessionsAndIgnition_2 : ∃ (m : Fin 12) (w : Word) (s : State),
    (Calm s) ∧ (masterUp s m = true) ∧ (privileged s m = true) ∧ (accessError s GATE_CMD = 0) ∧ (enabled s 17 = true) ∧ (gateBusy s = true) :=
  ⟨0, 0#32, (up |> (fun s => { s with gate := { s.gate with phase := 3 } })), by decide +kernel⟩

theorem test_GateSessionsAndIgnition_3 : ∃ (s : State),
    (Calm s) ∧ (gateBroken s = false) ∧ (s.gate.phase = 1) ∧ (s.gate.phaseAt + 33100000 ≤ s.now) :=
  ⟨(up |> (fun s => { s with gate := { s.gate with phase := 1 } })), by decide +kernel⟩

theorem test_GateSessionsAndIgnition_4 : ∃ (s : State),
    (Calm s) ∧ (gateBroken s = false) ∧ (s.gate.phase = 2) ∧ (s.gate.phaseAt + (lfOrder s.gate.ant).length * 1000000 ≤ s.now) :=
  ⟨(up |> (fun s => { s with gate := { s.gate with phase := 2, ant := 63 } }) |> State.setFld (LF_STAT 5) LF_STAT_ON (1)), by decide +kernel⟩

theorem test_GateSessionsAndIgnition_5 : ∃ (s : State),
    (Calm s) ∧ (gateBroken s = false) ∧ (s.gate.phase = 3) ∧ (s.gate.ended + 1 < s.gate.slots.length) ∧ (s.gate.gridStart + (s.gate.ended + 1) * slotTime s ≤ s.now) :=
  ⟨(up |> (fun s => { s with gate := { s.gate with phase := 3, slots := [0, 5] } })), by decide +kernel⟩

theorem test_GateSessionsAndIgnition_6 : ∃ (b : Nat × Nat × Nat) (rest : List (Nat × Nat × Nat)) (s : State),
    (Calm s) ∧ (gateBroken s = false) ∧ (s.gate.phase = 4) ∧ (s.gate.gridStart + 23750000 + slotTime s ≤ s.now) ∧ (s.gate.branches = b :: rest) ∧ (s.gate.seen = 0) ∧ (s.gate.rounds + 1 < s.fld GATE_CFG GATE_CFG_ACOL_MAX) :=
  ⟨(0, 1, 0), [(0, 1, 1)], (up |> (fun s => { s with gate := { s.gate with phase := 4, branches := [(0, 1, 0), (0, 1, 1)] } }) |> State.setFld GATE_CFG GATE_CFG_ACOL_MAX (8)), by decide +kernel⟩

theorem test_GateSessionsAndIgnition_7 : ∃ (n : Fin 16) (z : Bool) (r : Nat) (s : State),
    (Calm s) ∧ (gateBroken s = false) ∧ (gateOver s = true) ∧ (s.gate.kind = 0) ∧ (s.gate.valid = [(n.val, z, r)]) ∧ (s.gate.revoke = []) :=
  ⟨15, true, 200, (up |> (fun s => { s with gate := { s.gate with phase := 3, valid := [(15, true, 200)] } }) |> State.setFld GATE_STAT GATE_STAT_FAIL_CNT (2)), by decide +kernel⟩

theorem test_GateSessionsAndIgnition_8 : ∃ (s : State),
    (Calm s) ∧ (gateBroken s = false) ∧ (gateOver s = true) ∧ (s.gate.kind < 2) ∧ (s.gate.valid = []) ∧ (s.gate.revoke = []) :=
  ⟨(up |> (fun s => { s with gate := { s.gate with phase := 3 } }) |> State.setFld GATE_STAT GATE_STAT_FAIL_CNT (2)), by decide +kernel⟩

theorem test_GateSessionsAndIgnition_9 : ∃ (s : State),
    (Calm s) ∧ (gateBroken s = true) ∧ (gateBusy s = true) ∧ (s.gate.revoke = []) :=
  ⟨(up |> (fun s => { s with gate := { s.gate with phase := 3 } }) |> State.setFld SUPPLY_STAT SUPPLY_STAT_BAND (3)), by decide +kernel⟩

theorem test_GateSessionsAndIgnition_10 : ∃ (s : State),
    (Calm s) ∧ (inLevel s (s.fld GATE_CFG GATE_CFG_IGN_IN) = true) ∧ (s.gate.ign = false) ∧ (relOn s = true) ∧ (kRel s ≠ 0) :=
  ⟨(up |> (fun s => { s with start := { s.start with sections := [(9, 0, 0x400)] } }) |> State.setFld GATE_CFG GATE_CFG_IGN_IN (5) |> (fun s => State.setReg (IN_LVL 0) 0x20#32 s)), by decide +kernel⟩

theorem test_GateSessionsAndIgnition_11 : ∃ (b : Nat) (s : State),
    (Calm s) ∧ (s.gate.ignOn = some b) ∧ (b + relTime s.gate.relCount ≤ s.now) ∧ (relOn s = true) ∧ (s.reg GATE_CTR ≠ 0xFFFFFFFF#32) :=
  ⟨5, (up |> (fun s => { s with start := { s.start with sections := [(9, 0, 0x400)] } }) |> (fun s => { s with gate := { s.gate with ignOn := some 5 } })), by decide +kernel⟩

theorem test_GateSessionsAndIgnition_12 : ∃ (s : State),
    (Calm s) ∧ (inLevel s (s.fld GATE_CFG GATE_CFG_IGN_IN) = false) :=
  ⟨(up |> State.setFld GATE_STAT GATE_STAT_AUTH (1) |> (fun s => { s with gate := { s.gate with ignOn := some 5 } })), by decide +kernel⟩

theorem test_GateAnswersAndModes_1 : ∃ (n slot : Nat) (frame : List Nat) (s : State),
    (Calm s) ∧ (gateBroken s = false) ∧ (uhfOn s = true) ∧ (lowPower s = false) ∧ (entering s = false) ∧ (n ≤ 32) ∧ (s.gate.phase = 3) ∧ (s.gate.gridStart ≤ s.now) ∧ (s.gate.slots[(s.now - s.gate.gridStart) / slotTime s]? = some slot) ∧ ((frame.getD 4 0 == s.fld GATE_STAT GATE_STAT_SESS) = false) :=
  ⟨21, 7, [1, 2, 3, 4, 9], (up |> (fun s => { s with gate := { s.gate with phase := 3, gridStart := 10000000000, slots := [7] } })), by decide +kernel⟩

theorem test_GateAnswersAndModes_2 : ∃ (n : Nat) (slot : Fin 16) (frame : List Nat) (s : State),
    (Calm s) ∧ (gateBroken s = false) ∧ (uhfOn s = true) ∧ (lowPower s = false) ∧ (entering s = false) ∧ (n ≤ 32) ∧ (s.gate.phase = 3) ∧ (s.gate.gridStart ≤ s.now) ∧ (s.gate.slots[(s.now - s.gate.gridStart) / slotTime s]? = some slot.val) ∧ (frame.getD 4 0 = s.fld GATE_STAT GATE_STAT_SESS) ∧ (leNat ((frame.drop 13).take 8) = respOf s (leNat (frame.take 4))) ∧ (tokEntry s (leNat (frame.take 4)) = some slot.val) :=
  ⟨21, 7, tokenFrame, (up |> (fun _ => tokenState)), by and_intros <;> first | exact answer_reads | decide +kernel⟩

theorem test_GateAnswersAndModes_3 : ∃ (n slot : Nat) (frame : List Nat) (s : State),
    (Calm s) ∧ (gateBroken s = false) ∧ (uhfOn s = true) ∧ (lowPower s = false) ∧ (entering s = false) ∧ (n ≤ 32) ∧ (s.gate.phase = 3) ∧ (s.gate.gridStart ≤ s.now) ∧ (s.gate.slots[(s.now - s.gate.gridStart) / slotTime s]? = some slot) :=
  ⟨21, 7, [], (up |> (fun s => { s with gate := { s.gate with phase := 3, gridStart := 10000000000, slots := [7] } })), by decide +kernel⟩

theorem test_GateAnswersAndModes_4 : ∃ (dur : Nat) (s : State),
    (Calm s) ∧ (uhfOn s = true) ∧ (10000000 ≤ dur) ∧ (gateBusy s = true) ∧ (s.gate.revoke = []) ∧ (actingReact s 65 = 0) ∧ (resetOverdue s = false) :=
  ⟨10000000, (up |> (fun s => { s with gate := { s.gate with phase := 3 } })), by decide +kernel⟩

theorem test_GateAnswersAndModes_5 : ∃ (m : Fin 12) (s : State),
    (Calm s) ∧ (masterUp s m = true) ∧ (privileged s m = true) ∧ (accessError s GATE_MODE = 0) ∧ (hostLevel s m = 2) ∧ (gMode s = 0) :=
  ⟨9, (up |> State.setFld GATE_STAT GATE_STAT_GMODE (0) |> (fun s => { s with hosts := Tab.put s.hosts {} 9 { level := 2 } })), by decide +kernel⟩

theorem test_GateAnswersAndModes_6 : ∃ (m : Fin 12) (s : State),
    (Calm s) ∧ (masterUp s m = true) ∧ (privileged s m = true) ∧ (accessError s GATE_MODE = 0) ∧ (2 ≤ gMode s) :=
  ⟨9, (up |> State.setFld GATE_STAT GATE_STAT_GMODE (2) |> (fun s => { s with hosts := Tab.put s.hosts {} 9 { level := 2 } })), by decide +kernel⟩

theorem test_GateAnswersAndModes_7 : ∃ (e : Nat) (s : State),
    (Calm s) ∧ (s.gate.modeEnd = some e) ∧ (s.fld GATE_STAT GATE_STAT_GMODE = 3) ∧ (e ≤ s.now) :=
  ⟨5, (up |> State.setFld GATE_STAT GATE_STAT_GMODE (3) |> (fun s => { s with gate := { s.gate with modeEnd := some 5 } })), by decide +kernel⟩

theorem test_GateAnswersAndModes_8 : ∃ (m : Fin 12) (hi : Word) (s : State),
    (Calm s) ∧ (masterUp s m = true) ∧ (privileged s m = true) ∧ (accessError s GATE_LCODE_HI = 0) ∧ (gateDelayed s = false) ∧ (gMode s ≠ 0) ∧ (hostLevel s m = 2) ∧ (kLearn s ≠ 0) ∧ (s.gate.lcodeLo.toNat + 2 ^ 32 * hi.toNat = serviceCode s) :=
  ⟨9, BitVec.ofNat 32 (serviceCode codeState / 2 ^ 32), (up |> (fun _ => codeState)), by and_intros <;> first | decide +kernel | exact code_reads⟩

theorem test_GateAnswersAndModes_9 : ∃ (m : Fin 12) (s : State),
    (Calm s) ∧ (masterUp s m = true) ∧ (privileged s m = true) ∧ (accessError s GATE_EOL = 0) ∧ (Tab.get s.wlSet false (32 * GATE_EOL) = false) ∧ (gMode s = 1) :=
  ⟨0, (up |> State.setFld GATE_STAT GATE_STAT_GMODE (1)), by decide +kernel⟩

theorem test_GateAnswersAndModes_10 : ∃ (m : Fin 12) (n : Fin 16) (s : State),
    (Calm s) ∧ (masterUp s m = true) ∧ (privileged s m = true) ∧ (accessError s GATE_MODE = 0) ∧ (accessError s (GATE_MODE + setView) = 0) ∧ (gateBusy s = false) :=
  ⟨0, 15, (up |> State.setFld (GATE_TOK 15) GATE_TOK_VALID (1) |> State.setFld (GATE_TOK 14) GATE_TOK_VALID (1)), by decide +kernel⟩

theorem test_GateAnswersAndModes_11 : ∃ (e : Nat) (s : State),
    (Calm s) ∧ (s.gate.delayEnd = some e) ∧ (e ≤ s.now) :=
  ⟨5, (up |> (fun s => { s with gate := { s.gate with delayEnd := some 5 } })), by decide +kernel⟩

theorem test_TillerRegisterInstructions_1 : ∃ (e : Fin 9) (rd rs1 rs2 : Fin 32) (s : State),
    (Calm s) ∧ (Issues s e) :=
  ⟨4, 3, 1, 2, (engUp), by decide +kernel⟩

theorem test_TillerRegisterInstructions_2 : ∃ (e : Fin 9) (rd rs1 rs2 : Fin 32) (s : State),
    (Calm s) ∧ (Issues s e) :=
  ⟨4, 3, 1, 2, (engUp), by decide +kernel⟩

theorem test_TillerRegisterInstructions_3 : ∃ (e : Fin 9) (rd rs1 rs2 : Fin 32) (s : State),
    (Calm s) ∧ (Issues s e) :=
  ⟨4, 3, 1, 2, (engUp), by decide +kernel⟩

theorem test_TillerRegisterInstructions_4 : ∃ (e : Fin 9) (rd rs1 rs2 : Fin 32) (s : State),
    (Calm s) ∧ (Issues s e) :=
  ⟨4, 3, 1, 2, (engUp), by decide +kernel⟩

theorem test_TillerRegisterInstructions_5 : ∃ (e : Fin 9) (rd rs1 rs2 : Fin 32) (s : State),
    (Calm s) ∧ (Issues s e) :=
  ⟨4, 3, 1, 2, (engUp), by decide +kernel⟩

theorem test_TillerRegisterInstructions_6 : ∃ (e : Fin 9) (rd rs1 rs2 : Fin 32) (s : State),
    (Calm s) ∧ (Issues s e) :=
  ⟨4, 3, 1, 2, (engUp), by decide +kernel⟩

theorem test_TillerRegisterInstructions_7 : ∃ (e : Fin 9) (rd rs1 rs2 : Fin 32) (s : State),
    (Calm s) ∧ (Issues s e) :=
  ⟨4, 3, 1, 2, (engUp), by decide +kernel⟩

theorem test_TillerRegisterInstructions_8 : ∃ (e : Fin 9) (rd rs1 rs2 : Fin 32) (s : State),
    (Calm s) ∧ (Issues s e) :=
  ⟨4, 3, 1, 2, (engUp), by decide +kernel⟩

theorem test_TillerRegisterInstructions_9 : ∃ (e : Fin 9) (rd rs1 rs2 : Fin 32) (s : State),
    (Calm s) ∧ (Issues s e) :=
  ⟨4, 3, 1, 2, (engUp), by decide +kernel⟩

theorem test_TillerRegisterInstructions_10 : ∃ (e : Fin 9) (rd rs1 rs2 : Fin 32) (s : State),
    (Calm s) ∧ (Issues s e) :=
  ⟨4, 3, 1, 2, (engUp), by decide +kernel⟩

theorem test_TillerRegisterInstructions_11 : ∃ (e : Fin 9) (rd rs1 rs2 : Fin 32) (s : State),
    (Calm s) ∧ (Issues s e) :=
  ⟨4, 3, 1, 2, (engUp), by decide +kernel⟩

theorem test_TillerRegisterInstructions_12 : ∃ (e : Fin 9) (rd rs1 rs2 : Fin 32) (s : State),
    (Calm s) ∧ (Issues s e) :=
  ⟨4, 3, 1, 2, (engUp), by decide +kernel⟩

theorem test_TillerRegisterInstructions_13 : ∃ (e : Fin 9) (rd rs1 rs2 : Fin 32) (s : State),
    (Calm s) ∧ (Issues s e) :=
  ⟨4, 3, 1, 2, (engUp), by decide +kernel⟩

theorem test_TillerRegisterInstructions_14 : ∃ (e : Fin 9) (rd rs1 rs2 : Fin 32) (s : State),
    (Calm s) ∧ (Issues s e) :=
  ⟨4, 3, 1, 2, (engUp), by decide +kernel⟩

theorem test_TillerRegisterInstructions_15 : ∃ (e : Fin 9) (rd rs1 rs2 : Fin 32) (s : State),
    (Calm s) ∧ (Issues s e) :=
  ⟨4, 3, 1, 2, (engUp), by decide +kernel⟩

theorem test_TillerRegisterInstructions_16 : ∃ (e : Fin 9) (rd rs1 rs2 : Fin 32) (s : State),
    (Calm s) ∧ (Issues s e) :=
  ⟨4, 3, 1, 2, (engUp), by decide +kernel⟩

theorem test_TillerRegisterInstructions_17 : ∃ (e : Fin 9) (rd rs1 rs2 : Fin 32) (s : State),
    (Calm s) ∧ (Issues s e) :=
  ⟨4, 3, 1, 2, (engUp), by decide +kernel⟩

theorem test_TillerRegisterInstructions_18 : ∃ (e : Fin 9) (rd rs1 rs2 : Fin 32) (s : State),
    (Calm s) ∧ (Issues s e) :=
  ⟨4, 3, 1, 2, (engUp), by decide +kernel⟩

theorem test_TillerRegisterInstructions_19 : ∃ (e : Fin 9) (rd rs1 rs2 : Fin 32) (s : State),
    (Calm s) ∧ (Issues s e) :=
  ⟨4, 3, 1, 2, (engUp), by decide +kernel⟩

theorem test_TillerRegisterInstructions_20 : ∃ (e : Fin 9) (rd rs1 : Fin 32) (imm : BitVec 16) (s : State),
    (Calm s) ∧ (Issues s e) :=
  ⟨8, 3, 1, 0x8001#16, (engUp), by decide +kernel⟩

theorem test_TillerRegisterInstructions_21 : ∃ (e : Fin 9) (rd rs1 : Fin 32) (imm : BitVec 16) (s : State),
    (Calm s) ∧ (Issues s e) :=
  ⟨8, 3, 1, 0x8001#16, (engUp), by decide +kernel⟩

theorem test_TillerRegisterInstructions_22 : ∃ (e : Fin 9) (rd rs1 : Fin 32) (imm : BitVec 16) (s : State),
    (Calm s) ∧ (Issues s e) :=
  ⟨8, 3, 1, 0x8001#16, (engUp), by decide +kernel⟩

theorem test_TillerRegisterInstructions_23 : ∃ (e : Fin 9) (rd rs1 : Fin 32) (imm : BitVec 16) (s : State),
    (Calm s) ∧ (Issues s e) :=
  ⟨8, 3, 1, 0x8001#16, (engUp), by decide +kernel⟩

theorem test_TillerRegisterInstructions_24 : ∃ (e : Fin 9) (rd rs1 : Fin 32) (imm : BitVec 16) (s : State),
    (Calm s) ∧ (Issues s e) :=
  ⟨8, 3, 1, 0x8001#16, (engUp), by decide +kernel⟩

theorem test_TillerRegisterInstructions_25 : ∃ (e : Fin 9) (rd rs1 : Fin 32) (imm : BitVec 16) (s : State),
    (Calm s) ∧ (Issues s e) :=
  ⟨8, 3, 1, 0x8001#16, (engUp), by decide +kernel⟩

theorem test_TillerRegisterInstructions_26 : ∃ (e : Fin 9) (rd rs1 amt : Fin 32) (s : State),
    (Calm s) ∧ (Issues s e) :=
  ⟨0, 3, 2, 31, (engUp), by decide +kernel⟩

theorem test_TillerRegisterInstructions_27 : ∃ (e : Fin 9) (rd rs1 amt : Fin 32) (s : State),
    (Calm s) ∧ (Issues s e) :=
  ⟨0, 3, 2, 31, (engUp), by decide +kernel⟩

theorem test_TillerRegisterInstructions_28 : ∃ (e : Fin 9) (rd rs1 amt : Fin 32) (s : State),
    (Calm s) ∧ (Issues s e) :=
  ⟨0, 3, 1, 31, (engUp), by decide +kernel⟩

theorem test_TillerRegisterInstructions_29 : ∃ (e : Fin 9) (rd : Fin 32) (imm : BitVec 16) (s : State),
    (Calm s) ∧ (Issues s e) :=
  ⟨7, 31, 0x8001#16, (engUp), by decide +kernel⟩

theorem test_TillerRegisterInstructions_30 : ∃ (e : Fin 9) (rd rs1 amt : Fin 32) (s : State),
    (Calm s) ∧ (Issues s e) ∧ ((s.eng e).ctx.trap.inh = false) ∧ ((s.eng e).evec ≠ absentEntry) :=
  ⟨0, 3, 1, 31, (engUp), by decide +kernel⟩

theorem test_TillerMemory_1 : ∃ (e : Fin 9) (rd rs1 : Fin 32) (imm : BitVec 16) (k : Nat) (s : State),
    (Calm s) ∧ (Issues s e) ∧ ((sees s e rs1 + imm.signExtend 32).toNat % 4 = 0) ∧ (ramKey s e (sees s e rs1 + imm.signExtend 32).toNat = some k) :=
  ⟨4, 3, 28, 8#16, 5 * 0x100000000 + 0x10000048, (engUp |> (fun s => State.setBytesLE (engKey s 4 0x10000048) 4 0x8182F3F4 s)), by decide +kernel⟩

theorem test_TillerMemory_2 : ∃ (e : Fin 9) (rd rs1 : Fin 32) (imm : BitVec 16) (k : Nat) (s : State),
    (Calm s) ∧ (Issues s e) ∧ ((sees s e rs1 + imm.signExtend 32).toNat % 2 = 0) ∧ (ramKey s e (sees s e rs1 + imm.signExtend 32).toNat = some k) :=
  ⟨4, 3, 28, 8#16, 5 * 0x100000000 + 0x10000048, (engUp |> (fun s => State.setBytesLE (engKey s 4 0x10000048) 4 0x8182F3F4 s)), by decide +kernel⟩

theorem test_TillerMemory_3 : ∃ (e : Fin 9) (rd rs1 : Fin 32) (imm : BitVec 16) (k : Nat) (s : State),
    (Calm s) ∧ (Issues s e) ∧ ((sees s e rs1 + imm.signExtend 32).toNat % 2 = 0) ∧ (ramKey s e (sees s e rs1 + imm.signExtend 32).toNat = some k) :=
  ⟨4, 3, 28, 8#16, 5 * 0x100000000 + 0x10000048, (engUp |> (fun s => State.setBytesLE (engKey s 4 0x10000048) 4 0x8182F3F4 s)), by decide +kernel⟩

theorem test_TillerMemory_4 : ∃ (e : Fin 9) (rd rs1 : Fin 32) (imm : BitVec 16) (k : Nat) (s : State),
    (Calm s) ∧ (Issues s e) ∧ ((sees s e rs1 + imm.signExtend 32).toNat % 1 = 0) ∧ (ramKey s e (sees s e rs1 + imm.signExtend 32).toNat = some k) :=
  ⟨4, 3, 28, 8#16, 5 * 0x100000000 + 0x10000048, (engUp |> (fun s => State.setBytesLE (engKey s 4 0x10000048) 4 0x8182F3F4 s)), by decide +kernel⟩

theorem test_TillerMemory_5 : ∃ (e : Fin 9) (rd rs1 : Fin 32) (imm : BitVec 16) (k : Nat) (s : State),
    (Calm s) ∧ (Issues s e) ∧ ((sees s e rs1 + imm.signExtend 32).toNat % 1 = 0) ∧ (ramKey s e (sees s e rs1 + imm.signExtend 32).toNat = some k) :=
  ⟨4, 3, 28, 8#16, 5 * 0x100000000 + 0x10000048, (engUp |> (fun s => State.setBytesLE (engKey s 4 0x10000048) 4 0x8182F3F4 s)), by decide +kernel⟩

theorem test_TillerMemory_6 : ∃ (e : Fin 9) (rd rs1 : Fin 32) (imm : BitVec 16) (s : State),
    (Calm s) ∧ (Issues s e) ∧ ((sees s e rs1 + imm.signExtend 32).toNat % 4 ≠ 0) ∧ ((s.eng e).ctx.trap.inh = false) ∧ ((s.eng e).tvec ≠ absentEntry) :=
  ⟨4, 3, 28, 2#16, (engUp), by decide +kernel⟩

theorem test_TillerMemory_7 : ∃ (e : Fin 9) (rs2 rs1 : Fin 32) (imm : BitVec 16) (k : Nat) (s : State),
    (Calm s) ∧ (Issues s e) ∧ ((sees s e rs1 + imm.signExtend 32).toNat % 4 = 0) ∧ (ramKey s e (sees s e rs1 + imm.signExtend 32).toNat = some k) :=
  ⟨4, 2, 28, 8#16, 5 * 0x100000000 + 0x10000048, (engUp |> (fun s => State.setBytesLE (engKey s 4 0x10000048) 4 0x8182F3F4 s)), by decide +kernel⟩

theorem test_TillerMemory_8 : ∃ (e : Fin 9) (rs2 rs1 : Fin 32) (imm : BitVec 16) (k : Nat) (s : State),
    (Calm s) ∧ (Issues s e) ∧ ((sees s e rs1 + imm.signExtend 32).toNat % 2 = 0) ∧ (ramKey s e (sees s e rs1 + imm.signExtend 32).toNat = some k) :=
  ⟨4, 2, 28, 8#16, 5 * 0x100000000 + 0x10000048, (engUp |> (fun s => State.setBytesLE (engKey s 4 0x10000048) 4 0x8182F3F4 s)), by decide +kernel⟩

theorem test_TillerMemory_9 : ∃ (e : Fin 9) (rs2 rs1 : Fin 32) (imm : BitVec 16) (k : Nat) (s : State),
    (Calm s) ∧ (Issues s e) ∧ ((sees s e rs1 + imm.signExtend 32).toNat % 1 = 0) ∧ (ramKey s e (sees s e rs1 + imm.signExtend 32).toNat = some k) :=
  ⟨4, 2, 28, 8#16, 5 * 0x100000000 + 0x10000048, (engUp |> (fun s => State.setBytesLE (engKey s 4 0x10000048) 4 0x8182F3F4 s)), by decide +kernel⟩

theorem test_TillerMemory_10 : ∃ (e : Fin 9) (rs2 rs1 : Fin 32) (imm : BitVec 16) (s : State),
    (Calm s) ∧ (Issues s e) ∧ ((sees s e rs1 + imm.signExtend 32).toNat % 2 ≠ 0) ∧ ((s.eng e).ctx.trap.inh = false) ∧ ((s.eng e).tvec ≠ absentEntry) :=
  ⟨4, 3, 28, 1#16, (engUp), by decide +kernel⟩

theorem test_TillerBranches_1 : ∃ (e : Fin 9) (rs1 rs2 : Fin 32) (off : BitVec 16) (s : State),
    (Calm s) ∧ (Issues s e) ∧ ((s.eng e).ctx.ds = false) :=
  ⟨4, 1, 2, 0xFFF0#16, (engUp), by decide +kernel⟩

theorem test_TillerBranches_2 : ∃ (e : Fin 9) (rs1 rs2 : Fin 32) (off : BitVec 16) (s : State),
    (Calm s) ∧ (Issues s e) ∧ ((s.eng e).ctx.ds = false) :=
  ⟨4, 1, 2, 0xFFF0#16, (engUp), by decide +kernel⟩

theorem test_TillerBranches_3 : ∃ (e : Fin 9) (rs1 rs2 : Fin 32) (off : BitVec 16) (s : State),
    (Calm s) ∧ (Issues s e) ∧ ((s.eng e).ctx.ds = false) :=
  ⟨4, 1, 2, 0xFFF0#16, (engUp), by decide +kernel⟩

theorem test_TillerBranches_4 : ∃ (e : Fin 9) (rs1 rs2 : Fin 32) (off : BitVec 16) (s : State),
    (Calm s) ∧ (Issues s e) ∧ ((s.eng e).ctx.ds = false) :=
  ⟨4, 1, 2, 0xFFF0#16, (engUp), by decide +kernel⟩

theorem test_TillerBranches_5 : ∃ (e : Fin 9) (rs1 rs2 : Fin 32) (off : BitVec 16) (s : State),
    (Calm s) ∧ (Issues s e) ∧ ((s.eng e).ctx.ds = false) :=
  ⟨4, 1, 2, 0xFFF0#16, (engUp), by decide +kernel⟩

theorem test_TillerBranches_6 : ∃ (e : Fin 9) (rs1 rs2 : Fin 32) (off : BitVec 16) (s : State),
    (Calm s) ∧ (Issues s e) ∧ ((s.eng e).ctx.ds = false) :=
  ⟨4, 1, 2, 0xFFF0#16, (engUp), by decide +kernel⟩

theorem test_TillerBranches_7 : ∃ (e : Fin 9) (rs1 : Fin 32) (k : BitVec 8) (off : BitVec 13) (s : State),
    (Calm s) ∧ (Issues s e) ∧ ((s.eng e).ctx.ds = false) :=
  ⟨4, 2, 0xFF#8, 0x10#13, (engUp), by decide +kernel⟩

theorem test_TillerBranches_8 : ∃ (e : Fin 9) (rs1 : Fin 32) (k : BitVec 8) (off : BitVec 13) (s : State),
    (Calm s) ∧ (Issues s e) ∧ ((s.eng e).ctx.ds = false) :=
  ⟨4, 2, 0xFF#8, 0x10#13, (engUp), by decide +kernel⟩

theorem test_TillerBranches_9 : ∃ (e : Fin 9) (rs1 : Fin 32) (k : BitVec 8) (off : BitVec 13) (s : State),
    (Calm s) ∧ (Issues s e) ∧ ((s.eng e).ctx.ds = false) :=
  ⟨4, 2, 0xFF#8, 0x10#13, (engUp), by decide +kernel⟩

theorem test_TillerBranches_10 : ∃ (e : Fin 9) (rs1 : Fin 32) (k : BitVec 8) (off : BitVec 13) (s : State),
    (Calm s) ∧ (Issues s e) ∧ ((s.eng e).ctx.ds = false) :=
  ⟨4, 2, 0xFF#8, 0x10#13, (engUp), by decide +kernel⟩

theorem test_TillerBranches_11 : ∃ (e : Fin 9) (rs1 : Fin 32) (k : BitVec 8) (off : BitVec 13) (s : State),
    (Calm s) ∧ (Issues s e) ∧ ((s.eng e).ctx.ds = false) :=
  ⟨4, 2, 0xFF#8, 0x10#13, (engUp), by decide +kernel⟩

theorem test_TillerBranches_12 : ∃ (e : Fin 9) (rs1 : Fin 32) (k : BitVec 8) (off : BitVec 13) (s : State),
    (Calm s) ∧ (Issues s e) ∧ ((s.eng e).ctx.ds = false) :=
  ⟨4, 2, 0xFF#8, 0x10#13, (engUp), by decide +kernel⟩

theorem test_TillerBranches_13 : ∃ (e : Fin 9) (off : BitVec 26) (s : State),
    (Calm s) ∧ (Issues s e) ∧ ((s.eng e).ctx.ds = false) :=
  ⟨8, 0x3FFFFF0#26, (engUp), by decide +kernel⟩

theorem test_TillerBranches_14 : ∃ (e : Fin 9) (off : BitVec 26) (s : State),
    (Calm s) ∧ (Issues s e) ∧ ((s.eng e).ctx.ds = false) :=
  ⟨8, 0x40#26, (engUp), by decide +kernel⟩

theorem test_TillerBranches_15 : ∃ (e : Fin 9) (rs1 : Fin 32) (s : State),
    (Calm s) ∧ (Issues s e) ∧ ((s.eng e).ctx.ds = false) :=
  ⟨0, 2, (engUp), by decide +kernel⟩

theorem test_TillerBranches_16 : ∃ (e : Fin 9) (rd rs1 : Fin 32) (s : State),
    (Calm s) ∧ (Issues s e) ∧ ((s.eng e).ctx.ds = false) :=
  ⟨0, 2, 2, (engUp), by decide +kernel⟩

theorem test_TillerBranches_17 : ∃ (e : Fin 9) (rs1 : Fin 32) (s : State),
    (Calm s) ∧ (Issues s e) ∧ ((s.eng e).ctx.ds = false) :=
  ⟨0, 3, (engUp), by decide +kernel⟩

theorem test_TillerPortAndControl_1 : ∃ (e : Fin 9) (r rs1 : Fin 32) (sp : Fin 16) (off : BitVec 11) (v : Word) (s : State),
    (Calm s) ∧ (Issues s e) ∧ (r ≠ 0) ∧ (chrWord s e sp (((sees s e rs1).toNat + off.toNat) % 65536) = some v) :=
  ⟨4, 5, 3, 7, 5#11, 77#32, (engUp |> (fun s => { s with kp := { s.kp with snap := { s.kp.snap with shared := Tab.put s.kp.snap.shared 0#32 12 77#32 } } })), by decide +kernel⟩

theorem test_TillerPortAndControl_2 : ∃ (e : Fin 9) (rs1 : Fin 32) (sp : Fin 16) (off : BitVec 11) (s : State),
    (Calm s) ∧ (Issues s e) :=
  ⟨4, 3, 15, 5#11, (engUp), by decide +kernel⟩

theorem test_TillerPortAndControl_3 : ∃ (e : Fin 9) (r rs1 : Fin 32) (off : BitVec 11) (s : State),
    (Calm s) ∧ (Issues s e) ∧ (moduleLimp s = false) ∧ (((sees s e rs1).toNat + off.toNat) % 65536 < 256) :=
  ⟨4, 2, 3, 5#11, (engUp), by decide +kernel⟩

theorem test_TillerPortAndControl_4 : ∃ (e : Fin 9) (r rs1 : Fin 32) (off : BitVec 11) (i : Nat) (s : State),
    (Calm s) ∧ (Issues s e) ∧ (i = ((sees s e rs1).toNat + off.toNat) % 65536) ∧ (commandAddr i ≠ none) ∧ (wrongOwner s e 1 i = false) ∧ (moduleLimp s = false) ∧ (setSize s.lock.openSet < 512) :=
  ⟨4, 2, 0, 0x040#11, 64, (engUp), by decide +kernel⟩

theorem test_TillerPortAndControl_5 : ∃ (e : Fin 8) (r rs1 : Fin 32) (off : BitVec 11) (i : Nat) (s : State),
    (Calm s) ∧ (Issues s e) ∧ (i = ((sees s e rs1).toNat + off.toNat) % 65536) ∧ (moduleLimp s = false) ∧ (commandAddr i ≠ none) ∧ (wrongOwner s e 1 i = true) :=
  ⟨4, 2, 0, 0x040#11, 64, (engUp |> (fun s => { s with kp := { s.kp with owners := Tab.put s.kp.owners 0 64 4 } })), by decide +kernel⟩

theorem test_TillerPortAndControl_6 : ∃ (e : Fin 9) (r : Fin 32) (cr : BitVec 8) (s : State),
    (Calm s) ∧ (Issues s e) ∧ (crKnown e cr.toNat = true) ∧ (cr ≠ 0x0C#8) :=
  ⟨4, 2, 6#8, (engUp), by decide +kernel⟩

theorem test_TillerPortAndControl_7 : ∃ (e : Fin 8) (r : Fin 32) (s : State),
    (Calm s) ∧ (Issues s e) :=
  ⟨4, 2, (engUp), by decide +kernel⟩

theorem test_TillerPortAndControl_8 : ∃ (e : Fin 9) (r : Fin 32) (s : State),
    (Calm s) ∧ (Issues s e) :=
  ⟨4, 2, (engUp), by decide +kernel⟩

theorem test_TillerPortAndControl_9 : ∃ (r : Fin 32) (s : State),
    (Calm s) ∧ (Issues s 8) :=
  ⟨2, (engUp), by decide +kernel⟩

theorem test_TillerPortAndControl_10 : ∃ (e : Fin 8) (r : Fin 32) (s : State),
    (Calm s) ∧ (Issues s e) :=
  ⟨4, 2, (engUp), by decide +kernel⟩

theorem test_TillerPortAndControl_11 : ∃ (e : Fin 9) (r : Fin 32) (cr : BitVec 8) (s : State),
    (Calm s) ∧ (Issues s e) ∧ (crKnown e cr.toNat = false) ∧ ((s.eng e).ctx.trap.inh = false) ∧ ((s.eng e).evec ≠ absentEntry) :=
  ⟨8, 2, 8#8, (engUp), by decide +kernel⟩

theorem test_TillerTraps_1 : ∃ (e : Fin 9) (c : Fin 16) (w : Word) (s : State),
    (Calm s) ∧ (engRuns s e = true) ∧ (2 ≤ c.val) ∧ (c.val ≤ 6) ∧ ((s.eng e).ctx.trap.inh = false) ∧ ((s.eng e).tvec ≠ absentEntry) :=
  ⟨8, 2, 5#32, (engUp), by decide +kernel⟩

theorem test_TillerTraps_2 : ∃ (e : Fin 8) (c : Fin 16) (w : Word) (s : State),
    (Calm s) ∧ (engRuns s e = true) ∧ (2 ≤ c.val) ∧ (c.val ≤ 6) ∧ ((s.eng e).ctx.trap.inh = false) ∧ ((s.eng e).tvec ≠ absentEntry) :=
  ⟨7, 6, 5#32, (engUp), by decide +kernel⟩

theorem test_TillerTraps_3 : ∃ (e : Fin 8) (c : Fin 16) (w : Word) (s : State),
    (Calm s) ∧ (engRuns s e = true) ∧ (2 ≤ c.val) ∧ (c.val ≤ 6) ∧ ((s.eng e).ctx.trap.inh = true) ∧ (actingReact s (28 + e) = 0) ∧ (resetOverdue s = false) :=
  ⟨7, 6, 5#32, (engUp |> (fun s => State.modEng 7 (fun g => g.mapCtx (fun c => { c with trap := { c.trap with inh := true } })) s)), by decide +kernel⟩

theorem test_TillerTraps_4 : ∃ (e : Fin 8) (s : State),
    (Calm s) ∧ (Issues s e) ∧ ((s.eng e).ctx.ds = false) ∧ ((s.eng e).ctx.trap.inh = false) ∧ ((s.eng e).inF = false) ∧ ((s.eng e).fDone = true) ∧ (s.pow.stage = 0) :=
  ⟨7, (engUp), by decide +kernel⟩

theorem test_TillerTraps_5 : ∃ (e : Fin 8) (s : State),
    (Calm s) ∧ (Issues s e) ∧ ((s.eng e).ctx.ds = false) ∧ ((s.eng e).ctx.trap.inh = false) ∧ ((s.eng e).inF = false) ∧ ((s.eng e).fDone = false) ∧ (s.pow.stage = 0) ∧ ((s.eng e).fentry ≠ absentEntry) :=
  ⟨7, (engUp |> (fun s => State.modEng 7 (fun g => { g with fDone := false, fentry := 0x800#32 }) s)), by decide +kernel⟩

theorem test_TillerTraps_6 : ∃ (e : Fin 8) (s : State),
    (Calm s) ∧ (Issues s e) ∧ ((s.eng e).ctx.ds = false) ∧ ((s.eng e).ctx.trap.inh = false) ∧ ((s.eng e).inF = true) :=
  ⟨7, (engUp |> (fun s => State.modEng 7 (fun g => { g with inF := true, fDone := false }) s)), by decide +kernel⟩

theorem test_TillerTraps_7 : ∃ (k : Fin 8) (s : State),
    (Calm s) ∧ (engRuns s k = true) ∧ ((s.eng k).inF = false) ∧ (10 * s.fld (KEEPER_CTRL k) KEEPER_CTRL_L_BUDGET ≤ (s.eng k).lUsed) ∧ (actingReact s (28 + k) = 0) ∧ (resetOverdue s = false) :=
  ⟨7, (engUp |> State.setFld (KEEPER_CTRL 7) KEEPER_CTRL_L_BUDGET (1) |> (fun s => State.modEng 7 (fun g => { g with lUsed := 10 }) s)), by decide +kernel⟩

theorem test_TillerTraps_8 : ∃ (k : Fin 8) (s : State),
    (Calm s) ∧ (0 < s.fld (KEEPER_CTRL k) KEEPER_CTRL_F_WD) ∧ (16 * s.fld (KEEPER_CTRL k) KEEPER_CTRL_F_WD < (s.eng k).fCount) ∧ ((s.eng k).fReported = false) ∧ ((s.eng k).present = true) ∧ (kState s k ≠ 0) ∧ (kState s k ≠ 5) ∧ (actingReact s (28 + k) = 0) ∧ (resetOverdue s = false) :=
  ⟨7, (engUp |> State.setFld (KEEPER_CTRL 7) KEEPER_CTRL_F_WD (1) |> State.setFld (KEEPER_CTRL 7) KEEPER_CTRL_F_WD_ACT (1) |> (fun s => State.modEng 7 (fun g => { g with fCount := 17 }) s)), by decide +kernel⟩

theorem test_MaskedCall_1 : ∃ (off : BitVec 26) (mask top : Nat) (s : State),
    (Calm s) ∧ (Issues s 8) ∧ ((s.eng 8).ctx.ds = false) ∧ (((s.eng 8).ctx.pc + 4#32).toNat < codeTop 8) ∧ (mask = s.bytesLE (engKey s 8 ((s.eng 8).ctx.pc + 4#32).toNat) 4) ∧ (top = (sees s 8 30).toNat) ∧ (top % 4 = 0) ∧ (0x10000000 + 4 * ((maskRegs mask).length + 2) ≤ top) ∧ (top ≤ dataTop 8) :=
  ⟨0x40#26, 0x4000000E, 0x10000400, (engUp |> (fun s => State.setBytesLE (engKey s 8 0x104) 4 0x4000000E s)), by decide +kernel⟩

theorem test_MaskedCall_2 : ∃ (mask sp : Nat) (s : State),
    (Calm s) ∧ (Issues s 8) ∧ ((s.eng 8).ctx.ds = false) ∧ (sp = (sees s 8 30).toNat) ∧ (sp % 4 = 0) ∧ (0x10000000 ≤ sp) ∧ (mask = s.bytesLE sp 4) ∧ (sp + 4 * ((maskRegs mask).length + 2) ≤ dataTop 8) :=
  ⟨0x2000000A, 0x10000400, (engUp |> (fun s => State.setBytesLE 0x10000400 4 0x2000000A (State.setBytesLE 0x10000404 4 0x210 (State.setBytesLE 0x10000408 4 0x55 (State.setBytesLE 0x10000410 4 0x77 s))))), by decide +kernel⟩

theorem test_MaskedCall_3 : ∃ (e : Fin 8) (off : BitVec 26) (s : State),
    (Calm s) ∧ (Issues s e) ∧ ((s.eng e).ctx.trap.inh = false) ∧ ((s.eng e).evec ≠ absentEntry) :=
  ⟨7, 5#26, (engUp), by decide +kernel⟩

theorem test_MaskedCall_4 : ∃ (m : Fin 12) (k : Fin 8) (keep : Bool) (s : State),
    (Calm s) ∧ (masterUp s m = true) ∧ (privileged s m = true) ∧ (accessError s (KEEPER_CTRL k) = 0) ∧ (locking s 11 = false) ∧ ((s.eng k).data.2 ≤ 0x8000) ∧ ((∀ u : Fin 4, s.fld (CU_STAT u) CU_STAT_BUSY = 0)) :=
  ⟨0, 7, false, (engUp |> State.setFld CHECK_EN CHECK_EN_ENABLE (0) |> (fun s => State.modEng 7 (fun g => { g with data := (16, 3) }) s)), by decide +kernel⟩

theorem test_MaskedCall_5 : ∃ (addr : Word) (w : Bool) (k : Nat) (h : HostHdr) (s : State),
    (Calm s) ∧ (masterUp s 0 = true) ∧ (s.fld SYS_BUSERR_STAT SYS_BUSERR_STAT_VALID = 0) ∧ ((s.eng 8).present = true) ∧ ((s.eng 8).ctx.trap.inh = false) ∧ ((s.eng 8).tvec ≠ absentEntry) ∧ (s.upd.waiting = []) :=
  ⟨0x40040000#32, true, 0, {}, (engUp), by decide +kernel⟩

theorem test_HostAccess_1 : ∃ (h : HostHdr) (addr : Word) (r : RegRow) (i : Nat) (s : State),
    (Calm s) ∧ (PlainFrame s h) ∧ (accessError s addr.toNat = 0) ∧ (canWindow addr.toNat = none) ∧ (regAt (normalOf addr.toNat) = some (r, i)) ∧ (allPr r.fields = false) ∧ ((∀ u : Fin 4, s.fld (CU_STAT u) CU_STAT_BUSY = 0)) :=
  ⟨plainHdr, BitVec.ofNat 32 SYS_LOCK_STAT, ((regAt SYS_LOCK_STAT).getD (⟨0, 0, 0, 0, 0, false, .lodge, .none, []⟩, 0)).1, 0, (up |> (fun s => State.setReg SYS_LOCK_STAT 0x00120000#32 s)), by decide +kernel⟩

theorem test_HostAccess_2 : ∃ (h : HostHdr) (addr : Word) (s : State),
    (Calm s) ∧ (PlainFrame s h) ∧ (accessError s addr.toNat ≠ 0) :=
  ⟨plainHdr, 3#32, (up), by decide +kernel⟩

theorem test_HostAccess_3 : ∃ (h : HostHdr) (data : Word) (s : State),
    (Calm s) ∧ (PlainFrame s h) ∧ (h.same = false) ∧ (accessError s SYS_LOCK_STAT = 0) ∧ ((∀ u : Fin 4, s.fld (CU_STAT u) CU_STAT_BUSY = 0)) :=
  ⟨plainHdr, 0xFFFFFFFF#32, (up), by decide +kernel⟩

theorem test_HostAccess_4 : ∃ (h : HostHdr) (addr data : Word) (s : State),
    (Calm s) ∧ (PlainFrame s h) ∧ (accessError s addr.toNat ≠ 0) :=
  ⟨plainHdr, 3#32, 1#32, (up), by decide +kernel⟩

theorem test_HostAccess_5 : ∃ (h : HostHdr) (addr : Word) (count : Nat) (s : State),
    (Calm s) ∧ (PlainFrame s h) ∧ (0 < count) ∧ (count ≤ 256) ∧ ((∀ i < count, accessError s (addr.toNat + 4 * i) = 0)) ∧ ((readWords (pathCode h.path) count addr.toNat 0 s).1 = none) ∧ ((readWords (pathCode h.path) count addr.toNat 0 s).2.2.rep.capture = []) :=
  ⟨plainHdr, BitVec.ofNat 32 SYS_ID, 2, (up), by decide +kernel⟩

theorem test_HostAccess_6 : ∃ (h : HostHdr) (addr : Word) (count : Nat) (s : State),
    (Calm s) ∧ (PlainFrame s h) ∧ ((count = 0 ∨ 256 < count)) :=
  ⟨plainHdr, 3#32, 257, (up), by decide +kernel⟩

theorem test_HostRefusals_1 : ∃ (h : HostHdr) (addr data : Word) (s : State),
    (Calm s) ∧ (pathOff s h = false) ∧ (h.path ≠ 1) ∧ (4 ≤ outstanding s (pathCode h.path)) ∧ (pausing s = true) :=
  ⟨plainHdr, 3#32, 1#32, (up |> (fun s => { s with upd := { s.upd with pause := some 5, waiting := List.replicate 4 (.read plainHdr 0#32) } })), by decide +kernel⟩

theorem test_HostRefusals_2 : ∃ (h : HostHdr) (addr data : Word) (s : State),
    (Calm s) ∧ (pathOff s h = false) ∧ (h.path ≠ 1) ∧ (outstanding s (pathCode h.path) = 0) ∧ (pausing s = false) ∧ (h.dest = 0) ∧ ((s.host (pathCode h.path)).level = 0) ∧ (h.enc = false) ∧ (h.fits = false) ∧ (s.upd.waiting = []) :=
  ⟨{ plainHdr with fits := false, len := 9 }, 3#32, 1#32, (up), by decide +kernel⟩

theorem test_HostRefusals_3 : ∃ (h : HostHdr) (addr data : Word) (s : State),
    (Calm s) ∧ (pathOff s h = false) ∧ (h.path ≠ 1) ∧ (outstanding s (pathCode h.path) = 0) ∧ (pausing s = false) ∧ (h.dest = 0) ∧ (0 < (s.host (pathCode h.path)).level) ∧ (sessionOver s (pathCode h.path) = false) ∧ (h.enc = false) ∧ (s.upd.waiting = []) :=
  ⟨plainHdr, 3#32, 1#32, (up |> (fun _ => sessionState)), by decide +kernel⟩

theorem test_HostRefusals_4 : ∃ (h : HostHdr) (addr data : Word) (s : State),
    (Calm s) ∧ (pathOff s h = false) ∧ (h.path ≠ 1) ∧ (outstanding s (pathCode h.path) = 0) ∧ (pausing s = false) ∧ (h.dest = 0) ∧ (0 < (s.host (pathCode h.path)).level) ∧ (sessionOver s (pathCode h.path) = false) ∧ (h.enc = true) ∧ (h.seq ≤ (s.host (pathCode h.path)).lastSeq) ∧ (s.upd.waiting = []) :=
  ⟨{ sealedHdr with seq := 0 }, 3#32, 1#32, (up |> (fun _ => sessionState)), by decide +kernel⟩

theorem test_HostRefusals_5 : ∃ (h : HostHdr) (addr data : Word) (s : State),
    (Calm s) ∧ (pathOff s h = false) ∧ (h.path ≠ 1) ∧ (outstanding s (pathCode h.path) = 0) ∧ (pausing s = false) ∧ (h.dest ≠ 0) ∧ (h.dest ≠ aqAddr s) ∧ (enabled s 15 = false) ∧ (s.upd.waiting = []) :=
  ⟨{ plainHdr with dest := 4 }, 3#32, 1#32, (up |> State.setFld CHECK_EN CHECK_EN_ENABLE (0)), by decide +kernel⟩

theorem test_HostRefusals_6 : ∃ (h : HostHdr) (sub val : Nat) (s : State),
    (Calm s) ∧ (PlainFrame s h) :=
  ⟨plainHdr, 3, 1, (up), by decide +kernel⟩

theorem test_HostRefusals_7 : ∃ (h : HostHdr) (typ : Nat) (s : State),
    (Calm s) ∧ (PlainFrame s h) :=
  ⟨plainHdr, 0x33, (up), by decide +kernel⟩

theorem test_HostRefusals_8 : ∃ (h : HostHdr) (addr data : Word) (s : State),
    (Calm s) ∧ (pathOff s h = false) ∧ (outstanding s (pathCode h.path) < 4) ∧ (pausing s = true) :=
  ⟨plainHdr, 3#32, 1#32, (up |> (fun s => { s with upd := { s.upd with pause := some 5 } })), by decide +kernel⟩

theorem test_HostSessions_1 : ∃ (h : HostHdr) (keyIndex nonce pub sig : Nat) (s : State),
    (Calm s) ∧ (PlainFrame s h) :=
  ⟨plainHdr, 0, 5, 6, 7, (up), by decide +kernel⟩

theorem test_HostSessions_2 : ∃ (h : HostHdr) (keyIndex nonce pub sig : Nat) (s : State),
    (Calm s) ∧ (PlainFrame s h) ∧ ((s.host (pathCode h.path)).holdEnd ≤ s.now) :=
  ⟨plainHdr, 4, 5, 6, 7, (up), by decide +kernel⟩

theorem test_HostSessions_3 : ∃ (h : HostHdr) (keyIndex nonce pub sig : Nat) (s : State),
    (Calm s) ∧ (PlainFrame s h) ∧ (s.now < (s.host (pathCode h.path)).holdEnd) :=
  ⟨plainHdr, 4, 5, 6, 7, (up |> (fun s => { s with hosts := Tab.put s.hosts {} 11 { holdEnd := 10000000001 } })), by decide +kernel⟩

theorem test_HostSessions_4 : ∃ (h : HostHdr) (keyIndex nonce pub sig : Nat) (s : State),
    (Calm s) ∧ (pathOff s h = false) ∧ (h.path ≠ 1) ∧ (outstanding s (pathCode h.path) = 0) ∧ (pausing s = false) ∧ (h.dest = 0) ∧ (h.fits = true) ∧ (0 < (s.host (pathCode h.path)).level) ∧ (startState s ≠ 5) ∧ (s.upd.waiting = []) :=
  ⟨plainHdr, 4, 5, 6, 7, (up |> (fun _ => sessionState)), by decide +kernel⟩

theorem test_HostSessions_5 : ∃ (h : HostHdr) (level keyIndex nonce pub sig : Nat) (s : State),
    (Calm s) ∧ (PlainFrame s h) ∧ (2 < level) :=
  ⟨plainHdr, 3, 4, 5, 6, 7, (up), by decide +kernel⟩

theorem test_HostSessions_6 : ∃ (p : Fin 3) (s : State),
    (Calm s) ∧ ((s.host (pathCode p)).holdEnd ≤ s.now) :=
  ⟨2, (up |> (fun s => { s with hosts := Tab.put s.hosts {} 11 { holdEnd := 10000000000 } })), by decide +kernel⟩

theorem test_HostSessions_7 : ∃ (p : Fin 3) (s : State),
    (Calm s) ∧ (s.now < (s.host (pathCode p)).holdEnd) :=
  ⟨2, (up |> (fun s => { s with hosts := Tab.put s.hosts {} 11 { holdEnd := 10000000001 } })), by decide +kernel⟩

theorem test_HostSessions_8 : ∃ (p : Fin 3) (s : State),
    (Calm s) ∧ ((s.host (pathCode p)).level ≠ 0) ∧ ((s.host (pathCode p)).lastCommand + 60000000000 ≤ s.now) :=
  ⟨2, (up |> (fun _ => sessionState) |> (fun s => { s with now := 70000000000 })), by decide +kernel⟩

theorem test_HostSessions_9 : ∃ (p : Fin 3) (s : State),
    (Calm s) ∧ (s.now < (s.host (pathCode p)).lastCommand + 60000000000) :=
  ⟨2, (up |> (fun _ => sessionState)), by decide +kernel⟩

theorem test_HostServices_1 : ∃ (h : HostHdr) (target : Nat) (s : State),
    (Calm s) ∧ (PlainFrame s h) ∧ (startState s = 0) ∧ (powersBehind s = []) ∧ (s.pow.sameCycle = []) ∧ (s.fld POWER_CFG POWER_CFG_NEEDS_SESSION = 0) ∧ (target < 4) ∧ (heldByUpdate s target = false) ∧ (inTrans s = false) ∧ (target ≠ powState s) ∧ (s.pow.apply = []) :=
  ⟨plainHdr, 2, (up), by decide +kernel⟩

theorem test_HostServices_2 : ∃ (h : HostHdr) (target scope : Nat) (s : State),
    (Calm s) ∧ (PlainFrame s h) ∧ (startState s = 0) ∧ (powersBehind s = []) ∧ (s.pow.sameCycle = []) ∧ (s.fld POWER_CFG POWER_CFG_NEEDS_SESSION = 0) ∧ ((3 < target ∨ 1 < scope)) :=
  ⟨plainHdr, 1, 2, (up), by decide +kernel⟩

theorem test_HostServices_3 : ∃ (h : HostHdr) (id p : Nat) (l : List Nat) (s : State),
    (Calm s) ∧ (PlainFrame s h) ∧ (updState s = 0) ∧ (id ≠ 0) ∧ (id < 2 ^ 32) ∧ (p < 1024) ∧ ((p = 0 → 2 ≤ l.getD 6 0 % 256)) ∧ (l.length ≤ 4096) ∧ ((s.fld AQ_STAT AQ_STAT_STATE = 0)) :=
  ⟨plainHdr, 9, 3, [1, 2, 300], (up), by decide +kernel⟩

theorem test_HostServices_4 : ∃ (h : HostHdr) (id p : Nat) (l : List Nat) (ok : Bool) (s : State),
    (Calm s) ∧ (PlainFrame s h) ∧ (1 ≤ updState s) ∧ (updState s < 4) ∧ (id ≠ 0) ∧ ((s.reg UPD_ID).toNat ≠ id) :=
  ⟨plainHdr, 9, 3, [1, 2, 3], true, (up |> State.setFld UPD_STAT UPD_STAT_STATE (3)), by decide +kernel⟩

theorem test_HostServices_5 : ∃ (h : HostHdr) (id p : Nat) (l : List Nat) (ok : Bool) (s : State),
    (Calm s) ∧ (PlainFrame s h) ∧ (updState s = 1) ∧ (id ≠ 0) ∧ ((s.reg UPD_ID).toNat = id) ∧ (p < 1024) ∧ (manifestGood s = false) ∧ (pieceHeld s p = true) :=
  ⟨plainHdr, 9, 3, [1, 2, 3], true, (up |> State.setFld UPD_STAT UPD_STAT_STATE (1) |> (fun s => State.setReg UPD_ID 9#32 (setHeld 3 true s))), by decide +kernel⟩

theorem test_HostServices_6 : ∃ (h : HostHdr) (id p : Nat) (l : List Nat) (s : State),
    (Calm s) ∧ (PlainFrame s h) ∧ (updState s = 1) ∧ (id ≠ 0) ∧ ((s.reg UPD_ID).toNat = id) ∧ (p < 1024) ∧ (manifestGood s = false) ∧ (pieceHeld s p = false) ∧ (actingReact s 42 = 0) ∧ (resetOverdue s = false) :=
  ⟨plainHdr, 9, 3, [1, 2, 3], (up |> State.setFld UPD_STAT UPD_STAT_STATE (1) |> (fun s => State.setReg UPD_ID 9#32 s)), by decide +kernel⟩

theorem test_HostServices_7 : ∃ (h : HostHdr) (start count : Nat) (s : State),
    (Calm s) ∧ (PlainFrame s h) ∧ (0 < count) ∧ (count ≤ 64) :=
  ⟨plainHdr, 0, 5, (up |> (fun s => { s with rep := { s.rep with head := 3, written := 2, slots := Tab.put (Tab.put [] {} 0 { seq := 2 }) {} 1 { seq := 3 } } })), by decide +kernel⟩

theorem test_HostServices_8 : ∃ (h : HostHdr) (start count : Nat) (s : State),
    (Calm s) ∧ (PlainFrame s h) ∧ ((count = 0 ∨ 64 < count)) :=
  ⟨plainHdr, 0, 65, (up), by decide +kernel⟩

theorem test_HostServices_9 : ∃ (h : HostHdr) (code : Nat) (s : State),
    (Calm s) ∧ (SealedFrame s h) ∧ ((sectionOf s 9).isSome = true) ∧ (s.rep.clearMark = none) ∧ (code = clearCode s) :=
  ⟨sealedHdr, clearCode (sessionState |> (fun s => { s with start := { s.start with sections := [(9, 0, 0x400)] } })), (up |> (fun _ => sessionState) |> (fun s => { s with start := { s.start with sections := [(9, 0, 0x400)] } })), by and_intros <;> first | decide +kernel | rfl | exact Nat.succ_ne_self _⟩

theorem test_HostServices_10 : ∃ (h : HostHdr) (code : Nat) (whole : Bool) (s : State),
    (Calm s) ∧ (SealedFrame s h) ∧ (s.rep.clearMark = none) ∧ (sectionOf s 9 = none) :=
  ⟨sealedHdr, 5, false, (up |> (fun _ => sessionState)), by and_intros <;> first | decide +kernel | rfl | exact Nat.succ_ne_self _⟩

theorem test_HostServices_11 : ∃ (h : HostHdr) (sub : Fin 17) (s : State),
    (Calm s) ∧ (SealedFrame s h) ∧ (startState s = 0) ∧ (enabled s sub = false) ∧ (sub.val ∉ s.start.checkQueue) :=
  ⟨sealedHdr, 3, (up |> (fun _ => sessionState) |> State.setFld CHECK_EN CHECK_EN_ENABLE (0)), by and_intros <;> first | decide +kernel | rfl | exact Nat.succ_ne_self _⟩

theorem test_HostServices_12 : ∃ (h : HostHdr) (sub : Fin 17) (s : State),
    (Calm s) ∧ (SealedFrame s h) ∧ (startState s = 0) ∧ (enabled s sub = true) :=
  ⟨sealedHdr, 3, (up |> (fun _ => sessionState)), by and_intros <;> first | decide +kernel | rfl | exact Nat.succ_ne_self _⟩

theorem test_HostServices_13 : ∃ (h : HostHdr) (s : State),
    (Calm s) ∧ (SealedFrame s h) ∧ (startState s = 0) ∧ (enabled s 0 = true) ∧ ((∃ k : Fin 10, enabled s (k + 1) = true)) :=
  ⟨sealedHdr, (up |> (fun _ => sessionState)), by and_intros <;> first | decide +kernel | rfl | exact Nat.succ_ne_self _⟩

theorem test_HostServices_14 : ∃ (h : HostHdr) (s : State),
    (Calm s) ∧ (SealedFrame s h) ∧ (startState s = 0) ∧ (enabled s 13 = true) :=
  ⟨sealedHdr, (up |> (fun _ => sessionState)), by and_intros <;> first | decide +kernel | rfl | exact Nat.succ_ne_self _⟩

theorem test_HostServices_15 : ∃ (h : HostHdr) (sub val : Nat) (s : State),
    (Calm s) ∧ (SealedFrame s h) ∧ (startState s = 0) ∧ ((17 < sub ∨ 1 < val)) :=
  ⟨sealedHdr, 18, 1, (up |> (fun _ => sessionState)), by and_intros <;> first | decide +kernel | rfl | exact Nat.succ_ne_self _⟩

theorem test_HostServices_16 : ∃ (h : HostHdr) (code : Nat) (whole : Bool) (s : State),
    (Calm s) ∧ (SealedFrame s h) ∧ (s.rep.clearMark = none) ∧ (code ≠ clearCode s) :=
  ⟨sealedHdr, clearCode (sessionState |> (fun s => { s with start := { s.start with sections := [(9, 0, 0x400)] } })) + 1, true, (up |> (fun _ => sessionState) |> (fun s => { s with start := { s.start with sections := [(9, 0, 0x400)] } })), by and_intros <;> first | decide +kernel | rfl | exact Nat.succ_ne_self _⟩

theorem test_HostServices_17 : ∃ (h : HostHdr) (target : Nat) (s : State),
    (Calm s) ∧ (PlainFrame s h) ∧ (startState s = 0) ∧ (powersBehind s = []) ∧ (s.pow.sameCycle = []) ∧ (s.fld POWER_CFG POWER_CFG_NEEDS_SESSION = 0) ∧ (target < 4) :=
  ⟨plainHdr, 2, (up), by decide +kernel⟩

theorem test_RegisterWrites_1 : ∃ (m : Fin 12) (d : Fin 6) (view : Fin 4) (data : Word) (s : State),
    (Calm s) ∧ (masterUp s m = true) ∧ (accessError s (SYS_CV_STAT d + 0x4000 * view.val) = 0) ∧ ((∀ u : Fin 4, s.fld (CU_STAT u) CU_STAT_BUSY = 0)) ∧ (s.upd.waiting = []) :=
  ⟨3, 5, 3, 0xFFFFFFFF#32, (up |> State.setFld (SYS_CV_STAT 5) SYS_CV_STAT_LOST (1) |> State.setFld (SYS_CV_STAT 5) SYS_CV_STAT_RETRANS (6)), by decide +kernel⟩

theorem test_RegisterWrites_2 : ∃ (m : Fin 12) (p : Fin 2) (data : Word) (s : State),
    (Calm s) ∧ (masterUp s m = true) ∧ (accessError s (T1S_CFG p) = 0) ∧ ((∀ u : Fin 4, s.fld (CU_STAT u) CU_STAT_BUSY = 0)) ∧ (privileged s m = true) ∧ (locking s 16 = false) ∧ (s.upd.waiting = []) :=
  ⟨0, 1, 0xFFFFFFFF#32, (up |> State.setFld CHECK_EN CHECK_EN_ENABLE (0)), by decide +kernel⟩

theorem test_RegisterWrites_3 : ∃ (m : Fin 12) (p : Fin 2) (data : Word) (s : State),
    (Calm s) ∧ (masterUp s m = true) ∧ (accessError s (T1S_CFG p) = 0) ∧ ((∀ u : Fin 4, s.fld (CU_STAT u) CU_STAT_BUSY = 0)) ∧ (privileged s m = true) ∧ (locking s 16 = true) ∧ (fget T1S_CFG_ON data ≠ s.fld (T1S_CFG p) T1S_CFG_ON) ∧ (s.upd.waiting = []) :=
  ⟨0, 1, 0xFFFFFFFF#32, (up), by decide +kernel⟩

theorem test_RegisterWrites_4 : ∃ (m : Fin 12) (p : Fin 2) (data : Word) (s : State),
    (Calm s) ∧ (masterUp s m = true) ∧ (accessError s (T1S_CFG p) = 0) ∧ ((∀ u : Fin 4, s.fld (CU_STAT u) CU_STAT_BUSY = 0)) ∧ (privileged s m = false) ∧ (fget T1S_CFG_ON data = 1) ∧ (s.upd.waiting = []) :=
  ⟨3, 1, 0xFFFFFFFF#32, (up |> State.setFld CHECK_EN CHECK_EN_ENABLE (0)), by decide +kernel⟩

theorem test_RegisterWrites_5 : ∃ (m : Fin 12) (n : Fin 96) (data : Word) (s : State),
    (Calm s) ∧ (masterUp s m = true) ∧ (accessError s (FAULT_CFG n) = 0) ∧ ((∀ u : Fin 4, s.fld (CU_STAT u) CU_STAT_BUSY = 0)) ∧ (Tab.get s.wlSet false (32 * FAULT_CFG n + FAULT_CFG_REACT.lo) = false) ∧ (Tab.get s.wlSet false (32 * FAULT_CFG n + FAULT_CFG_BANK.lo) = false) ∧ (s.upd.waiting = []) :=
  ⟨0, 95, 0xFFFFFFFF#32, (up), by decide +kernel⟩

theorem test_RegisterWrites_6 : ∃ (m : Fin 12) (n : Fin 96) (data : Word) (s : State),
    (Calm s) ∧ (masterUp s m = true) ∧ (accessError s (FAULT_CFG n) = 0) ∧ ((∀ u : Fin 4, s.fld (CU_STAT u) CU_STAT_BUSY = 0)) ∧ (Tab.get s.wlSet false (32 * FAULT_CFG n + FAULT_CFG_REACT.lo) = true) ∧ (Tab.get s.wlSet false (32 * FAULT_CFG n + FAULT_CFG_BANK.lo) = true) ∧ (fget FAULT_CFG_REACT data ≠ s.fld (FAULT_CFG n) FAULT_CFG_REACT) ∧ (s.upd.waiting = []) :=
  ⟨0, 95, 0xFFFFFFFF#32, (up |> (fun s => { s with wlSet := Tab.put (Tab.put s.wlSet false (32 * FAULT_CFG 95 + FAULT_CFG_REACT.lo) true) false (32 * FAULT_CFG 95 + FAULT_CFG_BANK.lo) true })), by decide +kernel⟩

theorem test_RegisterWrites_7 : ∃ (m : Fin 12) (addr data : Word) (s : State),
    (Calm s) ∧ (masterUp s m = true) ∧ (accessError s addr.toNat ≠ 0) ∧ (s.fld SYS_BUSERR_STAT SYS_BUSERR_STAT_VALID = 0) ∧ (s.upd.waiting = []) :=
  ⟨11, 0x40000002#32, 1#32, (up), by decide +kernel⟩

theorem test_RegisterWrites_8 : ∃ (m : Fin 12) (addr data : Word) (s : State),
    (Calm s) ∧ (masterUp s m = false) ∧ (s.upd.waiting = []) :=
  ⟨11, 0x40000002#32, 1#32, (up |> (fun s => { s with start := { s.start with lodgeDown := true } })), by decide +kernel⟩

theorem test_RegisterWrites_9 : ∃ (m : Fin 12) (i : Fin 4) (s : State),
    (Calm s) ∧ (masterUp s m = true) ∧ (accessError s (SENT_FAST i) = 0) ∧ ((∀ u : Fin 4, s.fld (CU_STAT u) CU_STAT_BUSY = 0)) :=
  ⟨3, 3, (up |> State.setFld (SENT_FAST 3) SENT_FAST_FRESH (1) |> State.setFld (SENT_FAST 3) SENT_FAST_DATA (0x123456)), by decide +kernel⟩

theorem test_RegisterWrites_10 : ∃ (m : Fin 12) (i : Fin 4) (view : Fin 3) (s : State),
    (Calm s) ∧ (masterUp s m = true) ∧ (accessError s (SENT_FAST i + 0x4000 * (view + 1)) = 0) ∧ ((∀ u : Fin 4, s.fld (CU_STAT u) CU_STAT_BUSY = 0)) :=
  ⟨3, 3, 2, (up |> State.setFld (SENT_FAST 3) SENT_FAST_FRESH (1)), by decide +kernel⟩

theorem test_EnableAndChecks_1 : ∃ (m : Fin 12) (sub : Fin 18) (s : State),
    (Calm s) ∧ (masterUp s m = true) ∧ (privileged s m = true) ∧ (accessError s (CHECK_EN + setView) = 0) ∧ (enabled s sub = false) ∧ (sub.val ∉ s.start.checkQueue) ∧ ((∀ u : Fin 4, s.fld (CU_STAT u) CU_STAT_BUSY = 0)) ∧ (s.upd.waiting = []) :=
  ⟨0, 3, (up |> State.setFld CHECK_EN CHECK_EN_ENABLE (0) |> (fun s => { s with start := { s.start with checkQueue := [4, 2] } })), by decide +kernel⟩

theorem test_EnableAndChecks_2 : ∃ (m : Fin 12) (sub : Fin 18) (s : State),
    (Calm s) ∧ (masterUp s m = true) ∧ (privileged s m = false) ∧ (accessError s (CHECK_EN + setView) = 0) ∧ ((∀ u : Fin 4, s.fld (CU_STAT u) CU_STAT_BUSY = 0)) ∧ (s.upd.waiting = []) :=
  ⟨3, 3, (up), by decide +kernel⟩

theorem test_EnableAndChecks_3 : ∃ (m : Fin 12) (s : State),
    (Calm s) ∧ (masterUp s m = true) ∧ (privileged s m = true) ∧ (accessError s (CHECK_EN + clearView) = 0) ∧ (enabled s 13 = true) ∧ ((∀ u : Fin 4, s.fld (CU_STAT u) CU_STAT_BUSY = 0)) ∧ (s.upd.waiting = []) :=
  ⟨0, (up), by decide +kernel⟩

theorem test_EnableAndChecks_4 : ∃ (m : Fin 12) (sub : Fin 18) (s : State),
    (Calm s) ∧ (masterUp s m = true) ∧ (privileged s m = true) ∧ (accessError s (CHECK_EN + clearView) = 0) ∧ (0 < sub.val) ∧ (enabled s sub = true) ∧ ((∀ u : Fin 4, s.fld (CU_STAT u) CU_STAT_BUSY = 0)) ∧ (s.upd.waiting = []) :=
  ⟨0, 11, (up), by decide +kernel⟩

theorem test_EnableAndChecks_5 : ∃ (m : Fin 12) (sub : Fin 18) (s : State),
    (Calm s) ∧ (masterUp s m = true) ∧ (privileged s m = true) ∧ (accessError s (CHECK_EN + clearView) = 0) ∧ (enabled s sub = false) ∧ (sub.val ∈ s.start.checkQueue) ∧ (s.start.askers = []) ∧ ((∀ u : Fin 4, s.fld (CU_STAT u) CU_STAT_BUSY = 0)) ∧ (s.upd.waiting = []) :=
  ⟨0, 3, (up |> State.setFld CHECK_EN CHECK_EN_ENABLE (0) |> (fun s => { s with start := { s.start with checkQueue := [4, 3, 2] } })), by decide +kernel⟩

theorem test_EnableAndChecks_6 : ∃ (m : Fin 12) (k : Fin 10) (s : State),
    (Calm s) ∧ (masterUp s m = true) ∧ (privileged s m = true) ∧ (accessError s (CHECK_EN + clearView) = 0) ∧ (enabled s 0 = true) ∧ (enabled s (k + 1) = true) ∧ ((∀ u : Fin 4, s.fld (CU_STAT u) CU_STAT_BUSY = 0)) ∧ (s.upd.waiting = []) :=
  ⟨0, 9, (up), by decide +kernel⟩

theorem test_EnableAndChecks_7 : ∃ (sub : Fin 18) (rest : List Nat) (s : State),
    (Calm s) ∧ (s.upd.pause = none) ∧ (s.start.lodgeDown = false) ∧ (s.start.checkQueue = sub.val :: rest) ∧ (sub.val ∉ rest) ∧ (startState s ≠ 4) ∧ (checkRefuses s sub = none) ∧ (enabled s 15 = false) ∧ (s.start.askers = []) ∧ (s.upd.waiting = []) :=
  ⟨16, [2], (up |> State.setFld CHECK_EN CHECK_EN_ENABLE (0) |> (fun s => { s with start := { s.start with checkQueue := [16, 2], pins := [], sections := [(1, 0, 0), (2, 0, 0), (13, 0, 0)] } })), by decide +kernel⟩

theorem test_EnableAndChecks_8 : ∃ (sub : Fin 18) (rest : List Nat) (code detail : Nat) (s : State),
    (Calm s) ∧ (s.upd.pause = none) ∧ (s.start.lodgeDown = false) ∧ (s.start.checkQueue = sub.val :: rest) ∧ (sub.val ∉ rest) ∧ (startState s ≠ 4) ∧ (checkRefuses s sub = some (code, detail)) ∧ (s.start.askers = []) ∧ (code < 64) ∧ (detail < 256) ∧ (s.upd.waiting = []) :=
  ⟨16, [2], 40, 0, (up |> State.setFld CHECK_EN CHECK_EN_ENABLE (0) |> State.setFld (SENT_CFG 0) SENT_CFG_TICK (200) |> (fun s => { s with start := { s.start with checkQueue := [16, 2], pins := [], sections := [(1, 0, 0), (2, 0, 0), (13, 0, 0)] } })), by decide +kernel⟩

theorem test_EnableAndChecks_9 : ∃ (sub : Fin 18) (rest : List Nat) (s : State),
    (Calm s) ∧ (s.upd.pause = none) ∧ (s.start.lodgeDown = false) ∧ (s.start.checkQueue = sub.val :: rest) ∧ (sub.val ∉ rest) ∧ (startState s = 4) ∧ (sub.val ∈ s.start.essential) ∧ (s.upd.waiting = []) :=
  ⟨16, [2], (up |> State.setFld CHECK_EN CHECK_EN_ENABLE (0) |> State.setFld CHECK_START CHECK_START_STATE (4) |> (fun s => { s with start := { s.start with checkQueue := [16, 2], essential := [16] } })), by decide +kernel⟩

theorem test_NoticesAndLink_1 : ∃ (m : Nat) (f : FaultNote) (s : State),
    (Calm s) ∧ (s.start.lodgeDown = false) ∧ (lowPower s = false) ∧ (s.upd.pause = none) ∧ (notePath s = some m) ∧ (m ≠ 10) ∧ (firstFault s.rep.faultNotes = some f) :=
  ⟨11, ⟨7, 2, 8⟩, (up |> State.setFld HOST_CFG HOST_CFG_NOTE_PORT (1) |> (fun s => { s with rep := { s.rep with faultNotes := [⟨40, 1, 9⟩, ⟨7, 2, 8⟩] } })), by decide +kernel⟩

theorem test_NoticesAndLink_2 : ∃ (m : Nat) (w : Nat × Nat) (s : State),
    (Calm s) ∧ (s.start.lodgeDown = false) ∧ (lowPower s = false) ∧ (s.upd.pause = none) ∧ (notePath s = some m) ∧ (m ≠ 10) ∧ (s.rep.faultNotes = []) ∧ (s.rep.wakeNote = some w) :=
  ⟨11, (3, 9), (up |> State.setFld HOST_CFG HOST_CFG_NOTE_PORT (1) |> (fun s => { s with rep := { s.rep with wakeNote := some (3, 9), noteRef := 255 } })), by decide +kernel⟩

theorem test_NoticesAndLink_3 : ∃ (m n : Nat) (r : Nat × Nat) (rest : Tab (Nat × Nat)) (s : State),
    (Calm s) ∧ (s.start.lodgeDown = false) ∧ (lowPower s = false) ∧ (s.upd.pause = none) ∧ (notePath s = some m) ∧ (m ≠ 10) ∧ (s.rep.faultNotes = []) ∧ (s.rep.wakeNote = none) ∧ (s.rep.checkNotes = (n, r) :: rest) :=
  ⟨11, 3, (2, 40), [(5, (1, 0))], (up |> State.setFld HOST_CFG HOST_CFG_NOTE_PORT (1) |> (fun s => { s with rep := { s.rep with checkNotes := [(3, (2, 40)), (5, (1, 0))] } })), by decide +kernel⟩

theorem test_NoticesAndLink_4 : ∃ (m : Nat) (u : Nat × Nat × Nat) (s : State),
    (Calm s) ∧ (s.start.lodgeDown = false) ∧ (lowPower s = false) ∧ (s.upd.pause = none) ∧ (notePath s = some m) ∧ (m ≠ 10) ∧ (s.rep.faultNotes = []) ∧ (s.rep.wakeNote = none) ∧ (s.rep.checkNotes = []) ∧ (s.rep.updateNote = some u) :=
  ⟨11, (9, 6, 3), (up |> State.setFld HOST_CFG HOST_CFG_NOTE_PORT (1) |> (fun s => { s with rep := { s.rep with updateNote := some (9, 6, 3) } })), by decide +kernel⟩

theorem test_NoticesAndLink_5 : ∃ (m : Nat) (n : Fin 256) (s : State),
    (Calm s) ∧ (s.start.lodgeDown = false) ∧ (lowPower s = false) ∧ (s.upd.pause = none) ∧ (notePath s = some m) ∧ (m ≠ 10) ∧ (s.rep.faultNotes = []) ∧ (s.rep.wakeNote = none) ∧ (s.rep.checkNotes = []) ∧ (s.rep.updateNote = none) ∧ (nextEvent s = some n.val) ∧ (s.net.localHeld = false) :=
  ⟨11, 41, (up |> State.setFld HOST_CFG HOST_CFG_NOTE_PORT (1) |> State.setFld (HOST_EVCFG 40) HOST_EVCFG_HOLD (3) |> (fun s => State.setReg (HOST_EVPEND 2) 0x300#32 s) |> (fun s => { s with rep := { s.rep with evLast := 40, ev := Tab.put s.rep.ev {} 41 { count := 3, first := 5, last := 7 } } })), by decide +kernel⟩

theorem test_NoticesAndLink_6 : ∃ (s : State),
    (Calm s) ∧ (notePath s = none) :=
  ⟨(up |> State.setFld HOST_CFG HOST_CFG_TP_EN (0) |> (fun s => { s with rep := { s.rep with faultNotes := [⟨40, 1, 9⟩, ⟨7, 2, 8⟩] } })), by decide +kernel⟩

theorem test_NoticesAndLink_7 : ∃ (n : Fin 256) (s : State),
    (Calm s) ∧ ((Tab.get s.rep.ev {} n.val).holdEnd ≤ s.now) ∧ (notePath s = none) ∧ (s.net.localHeld = false) :=
  ⟨41, (up |> State.setFld HOST_CFG HOST_CFG_TP_EN (0) |> (fun s => { s with rep := { s.rep with ev := Tab.put s.rep.ev {} 41 { holdEnd := 10000000000 } } })), by decide +kernel⟩

theorem test_NoticesAndLink_8 : ∃ (n : Fin 256) (m : Nat) (s : State),
    (Calm s) ∧ ((Tab.get s.rep.ev {} n.val).holdEnd ≤ s.now) ∧ (s.start.lodgeDown = false) ∧ (lowPower s = false) ∧ (s.upd.pause = none) ∧ (notePath s = some m) ∧ (m ≠ 10) ∧ (s.rep.faultNotes = []) ∧ (s.rep.wakeNote = none) ∧ (s.rep.checkNotes = []) ∧ (s.rep.updateNote = none) ∧ ((∀ k : Fin 256, bitOf (s.reg (HOST_EVPEND (k / 16))).toNat (k % 16) = (k == n))) ∧ (s.net.localHeld = false) :=
  ⟨41, 11, (up |> State.setFld HOST_CFG HOST_CFG_NOTE_PORT (1) |> State.setFld (HOST_EVCFG 41) HOST_EVCFG_HOLD (3) |> (fun s => State.setReg (HOST_EVPEND 2) 0x200#32 s) |> (fun s => { s with rep := { s.rep with ev := Tab.put s.rep.ev {} 41 { holdEnd := 10000000000, count := 3, first := 5, last := 7 } } })), by decide +kernel⟩

theorem test_NoticesAndLink_9 : ∃ (n : Fin 256) (s : State),
    (Calm s) ∧ (s.now < (Tab.get s.rep.ev {} n.val).holdEnd) ∧ (s.net.localHeld = false) :=
  ⟨41, (up |> (fun s => { s with rep := { s.rep with ev := Tab.put s.rep.ev {} 41 { holdEnd := 10000000001 } } })), by decide +kernel⟩

theorem test_NoticesAndLink_10 : ∃ (p : Fin 3) (s : State),
    (Calm s) ∧ (pathOff s { path := p } = false) :=
  ⟨2, (up |> State.setFld HOST_STAT HOST_STAT_CRC_CNT (255)), by decide +kernel⟩

theorem test_NoticesAndLink_11 : ∃ (p : Fin 3) (s : State),
    (Calm s) ∧ (pathOff s { path := p } = true) :=
  ⟨0, (up |> State.setFld HOST_CFG HOST_CFG_TP_EN (0)), by decide +kernel⟩

theorem test_NoticesAndLink_12 : ∃ (up : Bool) (s : State),
    (Calm s) ∧ (s.start.lodgeDown = false) ∧ (lowPower s = false) :=
  ⟨true, (up), by decide +kernel⟩

theorem test_TunnelAndPieces_1 : ∃ (src : Nat) (f : List Nat) (ok : Bool) (s : State),
    (Calm s) ∧ (s.start.lodgeDown = false) ∧ (pausing s = false) ∧ (tunnelFrame s src = some f) ∧ (f.length = leAt f 4 2 + 10) ∧ (leAt f 4 2 ≤ 4160) ∧ (leAt f (6 + leAt f 4 2) 4 = crcOf crcC (f.take (6 + leAt f 4 2))) ∧ (0x7F ≤ leAt f 0 1) ∧ (s.upd.waiting = []) :=
  ⟨4, ([0x81, 7, 0, 4, 4, 0, 1, 2, 3, 4] ++ leBytes 4 (crcOf crcC [0x81, 7, 0, 4, 4, 0, 1, 2, 3, 4])), true, (up |> (fun s => { s with aq := { s.aq with fwdPath := 11, tunnels := Tab.put s.aq.tunnels {} 4 { parts := Tab.put [] [] 0 ([0x81, 7, 0, 4, 4, 0, 1, 2, 3, 4] ++ leBytes 4 (crcOf crcC [0x81, 7, 0, 4, 4, 0, 1, 2, 3, 4])), last := some 0 } } })), by decide +kernel⟩

theorem test_TunnelAndPieces_2 : ∃ (src : Nat) (f : List Nat) (ok : Bool) (s : State),
    (Calm s) ∧ (s.start.lodgeDown = false) ∧ (pausing s = false) ∧ (tunnelFrame s src = some f) ∧ (f.length = leAt f 4 2 + 10) ∧ (leAt f 4 2 ≤ 4160) ∧ (leAt f (6 + leAt f 4 2) 4 = crcOf crcC (f.take (6 + leAt f 4 2))) ∧ (leAt f 0 1 = 1) ∧ (s.upd.waiting = []) :=
  ⟨4, ([1, 7, 0, 4, 4, 0, 0, 0, 0, 0x40] ++ leBytes 4 (crcOf crcC [1, 7, 0, 4, 4, 0, 0, 0, 0, 0x40])), true, (up |> (fun s => { s with aq := { s.aq with fwdPath := 11, tunnels := Tab.put s.aq.tunnels {} 4 { parts := Tab.put [] [] 0 ([1, 7, 0, 4, 4, 0, 0, 0, 0, 0x40] ++ leBytes 4 (crcOf crcC [1, 7, 0, 4, 4, 0, 0, 0, 0, 0x40])), last := some 0 } } })), by decide +kernel⟩

theorem test_TunnelAndPieces_3 : ∃ (src : Nat) (f : List Nat) (ok : Bool) (s : State),
    (Calm s) ∧ (s.start.lodgeDown = false) ∧ (pausing s = false) ∧ (tunnelFrame s src = some f) ∧ ((f.length ≠ leAt f 4 2 + 10 ∨ leAt f (6 + leAt f 4 2) 4 ≠ crcOf crcC (f.take (6 + leAt f 4 2)))) ∧ (s.upd.waiting = []) :=
  ⟨4, [0x81, 7, 0, 4, 4, 0, 1, 2, 3, 4], true, (up |> (fun s => { s with aq := { s.aq with fwdPath := 11, tunnels := Tab.put s.aq.tunnels {} 4 { parts := Tab.put [] [] 0 [0x81, 7, 0, 4, 4, 0, 1, 2, 3, 4], last := some 0 } } })), by decide +kernel⟩

theorem test_TunnelAndPieces_4 : ∃ (src : Nat) (f : List Nat) (ok : Bool) (s : State),
    (Calm s) ∧ (s.start.lodgeDown = false) ∧ (pausing s = true) ∧ (tunnelFrame s src = some f) :=
  ⟨4, [0x81, 7, 0, 4, 4, 0, 1, 2, 3, 4], true, (up |> (fun s => { s with aq := { s.aq with fwdPath := 11, tunnels := Tab.put s.aq.tunnels {} 4 { parts := Tab.put [] [] 0 [0x81, 7, 0, 4, 4, 0, 1, 2, 3, 4], last := some 0 } } }) |> (fun s => { s with upd := { s.upd with pause := some 5 } })), by decide +kernel⟩

theorem test_TunnelAndPieces_5 : ∃ (src p : Nat) (s : State),
    (Calm s) ∧ (s.start.lodgeDown = false) ∧ (pausing s = false) ∧ (pieceWhole s src = true) ∧ (updState s = 0) ∧ (p = (Tab.get s.aq.pieces {} src).piece) ∧ (0 < p) ∧ (p < 1024) ∧ (s.upd.waiting = []) :=
  ⟨4, 3, (up |> (fun s => { s with aq := { s.aq with pieces := Tab.put s.aq.pieces {} 4 { update := 9, piece := 3, parts := (List.range 17).map (fun k => (k, [k, 2])) } } })), by decide +kernel⟩

theorem test_Starts_1 : ∃ (fw : FwSeen) (s : State),
    (Calm s) ∧ (lowPower s = false) ∧ (s.start.lodgeDown = true) ∧ (s.start.warmNext = false) ∧ (5 ≤ startFail s + s.start.failures) :=
  ⟨{ a := some 3 }, (up |> (fun s => { s with start := { s.start with lodgeDown := true, failures := 3 } }) |> State.setFld CHECK_START CHECK_START_START_FAIL (2)), by decide +kernel⟩

theorem test_Starts_2 : ∃ (fw : FwSeen) (s : State),
    (Calm s) ∧ (lowPower s = false) ∧ (s.start.lodgeDown = true) ∧ (s.start.warmValid = false) ∧ (startFail s + s.start.failures < 5) ∧ (fw.a = none) ∧ (fw.b = none) ∧ (s.sup.lvLow = false) ∧ (resetOverdue s = false) :=
  ⟨{}, (up |> (fun s => { s with start := { s.start with lodgeDown := true, failures := 1 } })), by decide +kernel⟩

theorem test_Starts_3 : ∃ (fw : FwSeen) (v : BitVec 32) (s : State),
    (Calm s) ∧ (lowPower s = false) ∧ (s.start.lodgeDown = true) ∧ (s.start.warmNext = false) ∧ (startFail s + s.start.failures < 5) ∧ (s.start.fwSlot = false) ∧ (fw.a = some v) :=
  ⟨{ a := some 3, b := some 4 }, 3#32, (up |> (fun s => { s with start := { s.start with lodgeDown := true, failures := 1 } }) |> (fun s => State.setByte (flashBase + 0x100003) 7#8 s)), by decide +kernel⟩

theorem test_Starts_4 : ∃ (fw : FwSeen) (s : State),
    (Calm s) ∧ (lowPower s = true) :=
  ⟨{}, (up |> State.setFld POWER_STAT POWER_STAT_STATE (2)), by decide +kernel⟩

theorem test_Starts_5 : ∃ (fw : FwSeen) (s : State),
    (Calm s) ∧ (lowPower s = false) ∧ (s.start.lodgeDown = true) ∧ (s.start.warmNext = true) ∧ (s.start.warmValid = true) ∧ (fw.a = none) ∧ (fw.b = none) ∧ (s.sup.lvLow = false) :=
  ⟨{}, (up |> (fun s => { s with start := { s.start with lodgeDown := true, warmNext := true, warmValid := true } })), by decide +kernel⟩

theorem test_Starts_6 : ∃ (fw : FwSeen) (v : BitVec 32) (s : State),
    (Calm s) ∧ (lowPower s = false) ∧ (s.start.lodgeDown = true) ∧ (s.start.warmNext = true) ∧ (s.start.warmValid = true) ∧ (s.start.fwSlot = false) ∧ (fw.a = some v) :=
  ⟨{ a := some 3 }, 3#32, (up |> (fun s => { s with start := { s.start with lodgeDown := true, warmNext := true, warmValid := true } }) |> (fun s => State.setBytesLE (flashBase + 0x400008) 4 16 (State.setBytesLE (flashBase + 0x800008) 4 16 s))), by decide +kernel⟩

theorem test_Starts_7 : ∃ (fw : FwSeen) (topo : Option Word) (s : State),
    (Calm s) ∧ (lowPower s = false) ∧ (s.start.lodgeDown = true) ∧ (s.start.warmValid = false) :=
  ⟨{ a := some 3 }, none, (up |> (fun s => { s with start := { s.start with lodgeDown := true, warmNext := true } })), by decide +kernel⟩

theorem test_ClaimAndLimits_1 : ∃ (s : State),
    (Calm s) ∧ (claimReady s = true) ∧ (s.start.claims < 2 ^ 15) ∧ ((∀ d : Fin 6, cvUp s d = true)) ∧ ((∀ d : Fin 5, domOff s (24 + d) = false)) ∧ ((∀ d : Fin 6, (s.cv d).down.queue = [])) :=
  ⟨(up |> State.setFld CHECK_START CHECK_START_STATE (4) |> State.setFld CHECK_START CHECK_START_START_FAIL (3) |> (fun s => { s with start := { s.start with trigger := 9000000000 } }) |> (fun s => { s with banks := [] })), by decide +kernel⟩

theorem test_ClaimAndLimits_2 : ∃ (s : State),
    (Calm s) ∧ (claimReady s = false) :=
  ⟨(up |> State.setFld CHECK_START CHECK_START_STATE (4) |> (fun s => { s with start := { s.start with checkQueue := [3] } })), by decide +kernel⟩

theorem test_ClaimAndLimits_3 : ∃ (s : State),
    (Calm s) ∧ (s.start.lodgeDown = false) ∧ (startState s ≠ 0) ∧ (startState s ≠ 5) ∧ (s.start.trigger + 2000000000 ≤ s.now) :=
  ⟨(up |> State.setFld CHECK_START CHECK_START_STATE (3) |> (fun s => { s with start := { s.start with trigger := 8000000000 } })), by decide +kernel⟩

theorem test_ClaimAndLimits_4 : ∃ (s : State),
    (Calm s) ∧ ((startState s = 0 ∨ s.now < s.start.trigger + 2000000000)) :=
  ⟨(up |> State.setFld CHECK_START CHECK_START_STATE (3) |> (fun s => { s with start := { s.start with trigger := 8000000001 } })), by decide +kernel⟩

theorem test_ClaimAndLimits_5 : ∃ (m : Fin 12) (s : State),
    (Calm s) ∧ (masterUp s m = true) ∧ (privileged s m = true) ∧ (accessError s (CHECK_STARTCTL + setView) = 0) ∧ (startState s = 5) ∧ (updState s ≠ 2) ∧ (updState s ≠ 3) ∧ ((∀ u : Fin 4, s.fld (CU_STAT u) CU_STAT_BUSY = 0)) ∧ (s.upd.waiting = []) :=
  ⟨11, (up |> State.setFld CHECK_START CHECK_START_STATE (5) |> State.setFld CHECK_START CHECK_START_START_FAIL (5) |> (fun s => { s with hosts := Tab.put s.hosts {} 11 { level := 2 } })), by decide +kernel⟩

theorem test_ClaimAndLimits_6 : ∃ (m : Fin 12) (c : Comp) (s : State),
    (Calm s) ∧ (masterUp s m = true) ∧ (privileged s m = true) ∧ (accessError s (CHECK_STARTCTL + setView) = 0) ∧ (startState s = 5) ∧ (updState s = 3) ∧ (comps s = [c]) ∧ (c.typ = 1) ∧ ((∀ u : Fin 4, s.fld (CU_STAT u) CU_STAT_BUSY = 0)) ∧ (((bootRecord s).getD (0, 0, false, false)).2.1 < 0xFFFFFFFF) ∧ (s.upd.waiting = []) :=
  ⟨11, ⟨1, 0xFFFFFFFF, 0xFFFFFFFF, 0xFFFFFFFF, 0xFFFFFFFF, 0xFFFFFFFF⟩, (up |> State.setFld CHECK_START CHECK_START_STATE (5) |> State.setFld UPD_STAT UPD_STAT_STATE (3) |> (fun s => { s with hosts := Tab.put s.hosts {} 11 { level := 2 } }) |> (fun s => State.setBytesLE (flashBase + basin + 20) 4 1 s)), by decide +kernel⟩

theorem test_ClaimAndLimits_7 : ∃ (m : Fin 12) (s : State),
    (Calm s) ∧ (masterUp s m = true) ∧ (privileged s m = true) ∧ (accessError s (CHECK_STARTCTL + setView) = 0) ∧ (startState s ≠ 5) ∧ ((∀ u : Fin 4, s.fld (CU_STAT u) CU_STAT_BUSY = 0)) ∧ (s.upd.waiting = []) :=
  ⟨0, (up), by decide +kernel⟩

theorem test_DiscoverySteps_1 : ∃ (s : State),
    (Calm s) ∧ (startState s = 3) ∧ (s.start.lodgeDown = false) ∧ (s.start.disc = 0) ∧ (discDue s 1 = true) :=
  ⟨(up |> State.setFld CHECK_START CHECK_START_STATE (3) |> State.setFld (AQ_PSTAT 3) AQ_PSTAT_LSTATE (2)), by decide +kernel⟩

theorem test_DiscoverySteps_2 : ∃ (s : State),
    (Calm s) ∧ (startState s = 3) ∧ (s.start.lodgeDown = false) ∧ (s.start.disc = 2) ∧ (discDue s 3 = true) ∧ ((∀ p : Fin 4, portUp s p = false)) ∧ ((∀ e ∈ s.start.auto, e.1 < 17 ∧ enabled s e.1 = false)) ∧ ((List.map (fun e => e.1) s.start.auto).Nodup) ∧ (s.start.checkQueue = []) :=
  ⟨(up |> State.setFld CHECK_START CHECK_START_STATE (3) |> State.setFld CHECK_EN CHECK_EN_ENABLE (0) |> (fun s => { s with start := { s.start with disc := 2, auto := [(3, true), (0, false)] } })), by decide +kernel⟩

theorem test_DiscoverySteps_3 : ∃ (p : Fin 4) (s : State),
    (Calm s) ∧ (startState s = 3) ∧ (s.start.lodgeDown = false) ∧ (s.start.disc = 2) ∧ (discDue s 3 = true) ∧ (portUp s p = true) ∧ (runningPort s = none) :=
  ⟨3, (up |> State.setFld CHECK_START CHECK_START_STATE (3) |> State.setFld (AQ_PSTAT 3) AQ_PSTAT_LSTATE (3) |> (fun s => { s with start := { s.start with disc := 2 } }) |> (fun s => { s with aq := { s.aq with rootSerial := some 77, rootHops := 2 } })), by and_intros <;> decide +kernel⟩

theorem test_DiscoverySteps_4 : ∃ (s : State),
    (Calm s) ∧ (startState s = 3) ∧ (s.start.lodgeDown = false) ∧ (s.start.disc = 6) ∧ (discDue s 7 = true) ∧ (runningPort s = none) ∧ ((∀ e ∈ s.start.auto, e.1 < 17 ∧ enabled s e.1 = false)) ∧ ((List.map (fun e => e.1) s.start.auto).Nodup) ∧ (s.start.checkQueue = []) ∧ (enabled s 15 = false) :=
  ⟨(up |> State.setFld CHECK_START CHECK_START_STATE (3) |> State.setFld CHECK_EN CHECK_EN_ENABLE (0) |> State.setFld AQ_STAT AQ_STAT_STATE (1) |> State.setFld AQ_STAT AQ_STAT_ADDR (9) |> (fun s => { s with start := { s.start with disc := 6, auto := [(3, true), (0, false)] } })), by decide +kernel⟩

theorem test_DiscoverySteps_5 : ∃ (s : State),
    (Calm s) ∧ (startState s ≠ 3) :=
  ⟨(up), by decide +kernel⟩

theorem test_DiscoverySteps_6 : ∃ (p : Nat) (x : Hello) (len path : Nat) (e : PathEntry) (s : State),
    (Calm s) ∧ (startState s = 3) ∧ (s.start.lodgeDown = false) ∧ (runningPort s = some p) ∧ ((s.aqPort p).hello = some x) ∧ (s.aq.tree = some (len, path)) ∧ (x.plan = s.aq.plan.digest) ∧ (planEntry s len path = some e) ∧ (heldByOther s e.addr = false) ∧ (e.addr < 256) ∧ ((∀ e ∈ s.start.auto, e.1 < 17 ∧ enabled s e.1 = false)) ∧ ((List.map (fun e => e.1) s.start.auto).Nodup) ∧ (s.start.checkQueue = []) :=
  ⟨3, { hello0 with flags := 2, plan := 5 }, 1, 3, ⟨1, 17, 2, 3⟩, (up |> State.setFld CHECK_START CHECK_START_STATE (3) |> State.setFld CHECK_EN CHECK_EN_ENABLE (0) |> State.setFld (AQ_PSTAT 3) AQ_PSTAT_LSTATE (3) |> (fun s => State.modPort 3 (fun x => { x with hello := some { hello0 with flags := 2, plan := 5 } }) s) |> (fun s => { s with aq := { s.aq with tree := some (1, 3), plan := { s.aq.plan with digest := 5, paths := [⟨1, 17, 2, 3⟩] } } })), by decide +kernel⟩

theorem test_DiscoverySteps_7 : ∃ (p : Nat) (x : Hello) (len path : Nat) (s : State),
    (Calm s) ∧ (startState s = 3) ∧ (s.start.lodgeDown = false) ∧ (runningPort s = some p) ∧ ((s.aqPort p).hello = some x) ∧ (s.aq.tree = some (len, path)) ∧ (x.plan ≠ s.aq.plan.digest) ∧ (heldByOther s 241 = false) ∧ (planEntry s len path = none) ∧ (actingReact s 52 = 0) ∧ ((∀ e ∈ s.start.auto, e.1 < 17 ∧ enabled s e.1 = false)) ∧ ((List.map (fun e => e.1) s.start.auto).Nodup) ∧ (s.start.checkQueue = []) ∧ (resetOverdue s = false) :=
  ⟨3, { hello0 with flags := 2, plan := 6 }, 1, 3, (up |> State.setFld CHECK_START CHECK_START_STATE (3) |> State.setFld CHECK_EN CHECK_EN_ENABLE (0) |> State.setFld (AQ_PSTAT 3) AQ_PSTAT_LSTATE (3) |> (fun s => State.modPort 3 (fun x => { x with hello := some { hello0 with flags := 2, plan := 6 } }) s) |> (fun s => { s with aq := { s.aq with tree := some (1, 3), plan := { s.aq.plan with digest := 5 } } })), by decide +kernel⟩

theorem test_DiscoverySteps_8 : ∃ (s : State),
    (Calm s) ∧ (startState s = 3) ∧ (s.start.lodgeDown = false) ∧ (runningPort s = none) :=
  ⟨(up |> State.setFld CHECK_START CHECK_START_STATE (3)), by decide +kernel⟩

theorem test_UpdateCompletion_1 : ∃ (c : Comp) (s : State),
    (Calm s) ∧ (wardenServes s = true) ∧ (updState s = 2) ∧ (comps s = [c]) ∧ (c.typ = 2) ∧ (c.len ≤ 0x100000) ∧ (s.start.fwSlot = false) :=
  ⟨⟨2, 0, 6, 0xFFFFFFFF, 0, 0xFFFFFFFF⟩, (up |> State.setFld UPD_STAT UPD_STAT_STATE (2) |> (fun s => State.setBytesLE (flashBase + basin + 4) 2 1 s) |> (fun s => State.setBytesLE (flashBase + basin + 6) 1 1 s) |> (fun s => State.setBytesLE (flashBase + basin + 7) 2 2 s) |> (fun s => State.setBytesLE (flashBase + basin + 16) 4 ((s.reg SYS_ID).toNat) s) |> (fun s => State.setBytesLE (flashBase + basin + 20) 4 2 s) |> (fun s => State.setBytesLE (flashBase + basin + 24) 4 0 s) |> (fun s => State.setBytesLE (flashBase + basin + 28) 4 6 s) |> (fun s => State.setBytesLE (flashBase + basin + 36) 4 0 s) |> (fun s => State.setBytesLE (flashBase + basin + 4096) 4 67305985 s)), by decide +kernel⟩

theorem test_UpdateCompletion_2 : ∃ (s : State),
    (Calm s) ∧ ((updState s ≠ 2 ∨ wardenServes s = false)) :=
  ⟨(up |> State.setFld UPD_STAT UPD_STAT_STATE (1)), by decide +kernel⟩

theorem test_UpdateCompletion_3 : ∃ (p : Fin 4) (s : State),
    (Calm s) ∧ (wardenServes s = true) ∧ (s.upd.nextRecord ≤ s.now) ∧ (enabled s 15 = true) ∧ (aqState s = 2) ∧ (portUp s p = true) ∧ (treeLeaves (topology s) (aqAddr s) (aqAddr s) p = true) ∧ ((s.aqPort p).qf.length < 64) :=
  ⟨3, (up |> State.setFld AQ_STAT AQ_STAT_STATE (2) |> State.setFld AQ_STAT AQ_STAT_ADDR (9) |> State.setFld (AQ_PSTAT 3) AQ_PSTAT_LSTATE (3) |> State.setFld (AQ_PSTAT 3) AQ_PSTAT_NADDR (4) |> (fun s => State.modPort 3 (fun x => { x with hello := some hello0 }) s) |> (fun s => { s with aq := { s.aq with lseq := 1, links := [(4, { ports := [{ lstate := 3, naddr := 9, nport := 3 }, {}, {}, {}] }), (9, { ports := [{}, {}, {}, { lstate := 3, naddr := 4, nport := 0 }] })] } })), by decide +kernel⟩

theorem test_UpdateCompletion_4 : ∃ (s : State),
    (Calm s) ∧ (wardenServes s = true) ∧ ((enabled s 15 = false ∨ aqState s ≠ 2)) :=
  ⟨(up), by decide +kernel⟩

theorem test_UpdateCompletion_5 : ∃ (m : Fin 12) (s : State),
    (Calm s) ∧ (masterUp s m = true) ∧ (privileged s m = true) ∧ (accessError s (UPD_CTRL + setView) = 0) ∧ (updState s ≠ 0) ∧ (updState s ≠ 4) ∧ ((∀ u : Fin 4, s.fld (CU_STAT u) CU_STAT_BUSY = 0)) ∧ (s.upd.waiting = []) :=
  ⟨0, (up |> State.setFld UPD_STAT UPD_STAT_STATE (3) |> (fun s => { s with upd := { s.upd with armed := some 5 } }) |> (fun s => setHeld 3 true s)), by decide +kernel⟩

theorem test_UpdateCompletion_6 : ∃ (m : Fin 12) (s : State),
    (Calm s) ∧ (masterUp s m = true) ∧ (privileged s m = true) ∧ (accessError s (UPD_CTRL + setView) = 0) ∧ ((updState s = 0 ∨ updState s = 4)) ∧ (s.upd.waiting = []) ∧ ((∀ u : Fin 4, s.fld (CU_STAT u) CU_STAT_BUSY = 0)) :=
  ⟨0, (up |> State.setFld UPD_STAT UPD_STAT_STATE (4) |> (fun s => { s with upd := { s.upd with todo := [(1, true)] } })), by decide +kernel⟩

theorem test_Arming_1 : ∃ (m : Fin 12) (c : Comp) (s : State),
    (Calm s) ∧ (masterUp s m = true) ∧ (privileged s m = true) ∧ (accessError s (UPD_CTRL + setView) = 0) ∧ ((∀ u : Fin 4, s.fld (CU_STAT u) CU_STAT_BUSY = 0)) ∧ (updState s = 3) ∧ (armRefuses s = none) ∧ (comps s = [c]) ∧ (c.typ = 1) ∧ (isHot s c = true) ∧ (s.upd.waiting = []) :=
  ⟨0, ⟨1, 0, 6, 0xFFFFFFFF, 0, 0xFFFFFFFF⟩, (up |> (fun _ => hotState)), by decide +kernel⟩

theorem test_Arming_2 : ∃ (m : Fin 12) (c : Comp) (s : State),
    (Calm s) ∧ (masterUp s m = true) ∧ (privileged s m = true) ∧ (accessError s (UPD_CTRL + setView) = 0) ∧ ((∀ u : Fin 4, s.fld (CU_STAT u) CU_STAT_BUSY = 0)) ∧ (updState s = 3) ∧ (armRefuses s = none) ∧ (comps s = [c]) ∧ (c.typ = 1) ∧ (isHot s c = false) ∧ (((bootRecord s).getD (0, 0, false, false)).2.1 < 0xFFFFFFFF) ∧ (s.upd.waiting = []) :=
  ⟨0, ⟨1, 0, 6, 0xFFFFFFFF, 0, 0xFFFFFFFF⟩, (up |> (fun _ => coldState)), by decide +kernel⟩

theorem test_Arming_3 : ∃ (m : Fin 12) (r d p : Nat) (s : State),
    (Calm s) ∧ (masterUp s m = true) ∧ (privileged s m = true) ∧ (accessError s (UPD_CTRL + setView) = 0) ∧ ((∀ u : Fin 4, s.fld (CU_STAT u) CU_STAT_BUSY = 0)) ∧ (updState s = 3) ∧ (armRefuses s = some (r, d, p)) ∧ (r < 16) ∧ (d < 256) ∧ (p < 256) ∧ (actingReact s 66 = 0) ∧ (resetOverdue s = false) ∧ (s.upd.waiting = []) :=
  ⟨0, 3, 0, 0, (up |> State.setFld UPD_STAT UPD_STAT_STATE (3)), by decide +kernel⟩

theorem test_Arming_4 : ∃ (m : Fin 12) (s : State),
    (Calm s) ∧ (masterUp s m = true) ∧ (privileged s m = true) ∧ (accessError s (UPD_CTRL + setView) = 0) ∧ ((∀ u : Fin 4, s.fld (CU_STAT u) CU_STAT_BUSY = 0)) ∧ (updState s ≠ 3) ∧ (s.upd.waiting = []) :=
  ⟨0, (up |> State.setFld UPD_STAT UPD_STAT_STATE (2)), by decide +kernel⟩

theorem test_Arming_5 : ∃ (t0 : Nat) (s : State),
    (Calm s) ∧ (wardenServes s = true) ∧ (s.upd.armed = some t0) ∧ (quiet s = true) ∧ (s.now < t0 + quietTo s) ∧ (s.upd.todo = [(1, true)]) ∧ (s.upd.waiting = []) :=
  ⟨9999999999, (up |> State.setFld UPD_STAT UPD_STAT_STATE (3) |> (fun s => { s with upd := { s.upd with armed := some 9999999999, todo := [(1, true)] } }) |> (fun s => State.setReg KEEPER_LCC 0xFFFFFFFF#32 s)), by decide +kernel⟩

theorem test_Arming_6 : ∃ (t0 : Nat) (c : Comp) (rest : List (Nat × Bool)) (s : State),
    (Calm s) ∧ (wardenServes s = true) ∧ (s.upd.armed = some t0) ∧ (quiet s = true) ∧ (s.now < t0 + quietTo s) ∧ (s.upd.todo = (2, true) :: rest) ∧ (compOf s 2 = some c) ∧ (c.len ≤ 0x40000) ∧ (s.fld UPD_CODE UPD_CODE_CODE_BANK = 0) ∧ (s.start.fwSlot = false) ∧ (s.upd.waiting = []) :=
  ⟨9999999999, ⟨2, 0, 6, 0xFFFFFFFF, 0, 0xFFFFFFFF⟩, [(1, true)], (up |> State.setFld UPD_STAT UPD_STAT_STATE (3) |> (fun s => { s with upd := { s.upd with armed := some 9999999999, todo := [(2, true), (1, true)] } }) |> (fun s => State.setBytesLE (flashBase + basin + 4) 2 1 s) |> (fun s => State.setBytesLE (flashBase + basin + 6) 1 1 s) |> (fun s => State.setBytesLE (flashBase + basin + 7) 2 2 s) |> (fun s => State.setBytesLE (flashBase + basin + 16) 4 ((s.reg SYS_ID).toNat) s) |> (fun s => State.setBytesLE (flashBase + basin + 20) 4 2 s) |> (fun s => State.setBytesLE (flashBase + basin + 24) 4 0 s) |> (fun s => State.setBytesLE (flashBase + basin + 28) 4 6 s) |> (fun s => State.setBytesLE (flashBase + basin + 36) 4 0 s) |> (fun s => State.setBytesLE (flashBase + basin + 4096) 4 67305985 s) |> (fun s => State.setBytesLE (flashBase + 0x200000) 4 0x04030201 s)), by decide +kernel⟩

theorem test_Arming_7 : ∃ (s : State),
    (Calm s) ∧ ((s.upd.armed = none ∨ quiet s = false)) ∧ (s.upd.waiting = []) :=
  ⟨(up |> State.setFld UPD_STAT UPD_STAT_STATE (3) |> (fun s => { s with upd := { s.upd with armed := some 9999999999, todo := [(1, true)] } }) |> (fun s => { s with start := { s.start with checkQueue := [3] } })), by decide +kernel⟩

theorem test_Arming_8 : ∃ (t0 : Nat) (s : State),
    (Calm s) ∧ (s.upd.armed = some t0) ∧ (t0 + quietTo s ≤ s.now) ∧ (s.start.lodgeDown = false) ∧ (actingReact s 66 = 0) :=
  ⟨9000000000, (up |> State.setFld UPD_STAT UPD_STAT_STATE (3) |> (fun s => { s with upd := { s.upd with armed := some 9000000000, todo := [(1, true)] } }) |> State.setFld UPD_CTRL UPD_CTRL_QUIET_TO (1)), by decide +kernel⟩

theorem test_Arming_9 : ∃ (t0 : Nat) (s : State),
    (Calm s) ∧ (s.upd.armed = some t0) ∧ (s.now < t0 + quietTo s) :=
  ⟨9000000001, (up |> State.setFld UPD_STAT UPD_STAT_STATE (3) |> (fun s => { s with upd := { s.upd with armed := some 9000000001, todo := [(1, true)] } }) |> State.setFld UPD_CTRL UPD_CTRL_QUIET_TO (1)), by decide +kernel⟩

theorem test_HandOver_1 : ∃ (t0 : Nat) (s : State),
    (Calm s) ∧ (s.upd.pause = some t0) ∧ (s.upd.switched = true) ∧ (s.upd.clash = false) ∧ (s.now < t0 + 1500000) ∧ (s.upd.todo = [(2, true)]) ∧ (s.upd.waiting = []) ∧ (((bootRecord s).getD (0, 0, false, false)).2.1 < 0xFFFFFFFF) :=
  ⟨9999000000, (up |> State.setFld UPD_STAT UPD_STAT_STATE (4) |> State.setFld UPD_CODE UPD_CODE_CODE_BANK (1) |> (fun s => { s with upd := { s.upd with pause := some 9999000000, switched := true, todo := [(2, true)] } })), by decide +kernel⟩

theorem test_HandOver_2 : ∃ (t0 : Nat) (s : State),
    (Calm s) ∧ (s.upd.pause = some t0) ∧ (t0 + 1500000 ≤ s.now) ∧ (s.upd.waiting = []) :=
  ⟨9998500000, (up |> (fun s => { s with upd := { s.upd with pause := some 9998500000, todo := [(2, true)] } })), by decide +kernel⟩

theorem test_HandOver_3 : ∃ (t0 : Nat) (s : State),
    (Calm s) ∧ (s.upd.pause = some t0) ∧ (t0 + 1500000 ≤ s.now) ∧ (s.upd.switched = true) ∧ (s.upd.waiting = []) ∧ (s.fld UPD_CODE UPD_CODE_CODE_BANK < 2) ∧ (actingReact s 66 = 0) ∧ (resetOverdue s = false) :=
  ⟨9998500000, (up |> State.setFld UPD_STAT UPD_STAT_STATE (4) |> (fun s => { s with upd := { s.upd with pause := some 9998500000, switched := true, todo := [(2, true)] } })), by decide +kernel⟩

theorem test_HandOver_4 : ∃ (s : State),
    (Calm s) ∧ (s.upd.swap = true) ∧ (s.reg KEEPER_LCC = s.reg UPD_SWAP) ∧ (s.start.lodgeDown = false) ∧ (s.upd.todo = [(1, true)]) ∧ (s.upd.newSections = []) ∧ (s.upd.pause = none) ∧ (s.upd.waiting = []) :=
  ⟨(up |> State.setFld UPD_STAT UPD_STAT_STATE (4) |> (fun s => { s with upd := { s.upd with swap := true, todo := [(1, true)] } }) |> (fun s => State.setBytesLE (flashBase + 0x800008) 4 16 s) |> (fun s => State.setBytesLE (flashBase + basin + 264) 64 0 s)), by decide +kernel⟩

theorem test_HandOver_5 : ∃ (s : State),
    (Calm s) ∧ ((s.upd.swap = false ∨ s.reg KEEPER_LCC ≠ s.reg UPD_SWAP)) ∧ (s.upd.waiting = []) :=
  ⟨(up |> (fun s => { s with upd := { s.upd with swap := true, todo := [(1, true)] } }) |> (fun s => State.setReg UPD_SWAP 7#32 s)), by decide +kernel⟩

theorem test_DelaySlotWords_1 : ∃ (e : Fin 9) (rs1 rs2 : Fin 32) (off : BitVec 16) (s : State),
    (Calm s) ∧ (Issues s e) ∧ ((s.eng e).ctx.ds = true) ∧ ((s.eng e).ctx.trap.inh = false) ∧ ((s.eng e).evec ≠ absentEntry) :=
  ⟨4, 1, 2, 5#16, (engUp |> (fun s => State.modEng 4 (fun g => g.mapCtx (fun c => { c with ds := true })) s)), by decide +kernel⟩

theorem test_DelaySlotWords_2 : ∃ (e : Fin 9) (rs1 rs2 : Fin 32) (off : BitVec 16) (s : State),
    (Calm s) ∧ (Issues s e) ∧ ((s.eng e).ctx.ds = true) ∧ ((s.eng e).ctx.trap.inh = false) ∧ ((s.eng e).evec ≠ absentEntry) :=
  ⟨4, 1, 2, 5#16, (engUp |> (fun s => State.modEng 4 (fun g => g.mapCtx (fun c => { c with ds := true })) s)), by decide +kernel⟩

theorem test_DelaySlotWords_3 : ∃ (e : Fin 9) (rs1 rs2 : Fin 32) (off : BitVec 16) (s : State),
    (Calm s) ∧ (Issues s e) ∧ ((s.eng e).ctx.ds = true) ∧ ((s.eng e).ctx.trap.inh = false) ∧ ((s.eng e).evec ≠ absentEntry) :=
  ⟨4, 1, 2, 5#16, (engUp |> (fun s => State.modEng 4 (fun g => g.mapCtx (fun c => { c with ds := true })) s)), by decide +kernel⟩

theorem test_DelaySlotWords_4 : ∃ (e : Fin 9) (rs1 rs2 : Fin 32) (off : BitVec 16) (s : State),
    (Calm s) ∧ (Issues s e) ∧ ((s.eng e).ctx.ds = true) ∧ ((s.eng e).ctx.trap.inh = false) ∧ ((s.eng e).evec ≠ absentEntry) :=
  ⟨4, 1, 2, 5#16, (engUp |> (fun s => State.modEng 4 (fun g => g.mapCtx (fun c => { c with ds := true })) s)), by decide +kernel⟩

theorem test_DelaySlotWords_5 : ∃ (e : Fin 9) (rs1 rs2 : Fin 32) (off : BitVec 16) (s : State),
    (Calm s) ∧ (Issues s e) ∧ ((s.eng e).ctx.ds = true) ∧ ((s.eng e).ctx.trap.inh = false) ∧ ((s.eng e).evec ≠ absentEntry) :=
  ⟨4, 1, 2, 5#16, (engUp |> (fun s => State.modEng 4 (fun g => g.mapCtx (fun c => { c with ds := true })) s)), by decide +kernel⟩

theorem test_DelaySlotWords_6 : ∃ (e : Fin 9) (rs1 rs2 : Fin 32) (off : BitVec 16) (s : State),
    (Calm s) ∧ (Issues s e) ∧ ((s.eng e).ctx.ds = true) ∧ ((s.eng e).ctx.trap.inh = false) ∧ ((s.eng e).evec ≠ absentEntry) :=
  ⟨4, 1, 2, 5#16, (engUp |> (fun s => State.modEng 4 (fun g => g.mapCtx (fun c => { c with ds := true })) s)), by decide +kernel⟩

theorem test_DelaySlotWords_7 : ∃ (e : Fin 9) (rs1 : Fin 32) (k : BitVec 8) (off : BitVec 13) (s : State),
    (Calm s) ∧ (Issues s e) ∧ ((s.eng e).ctx.ds = true) ∧ ((s.eng e).ctx.trap.inh = false) ∧ ((s.eng e).evec ≠ absentEntry) :=
  ⟨4, 1, 2#8, 5#13, (engUp |> (fun s => State.modEng 4 (fun g => g.mapCtx (fun c => { c with ds := true })) s)), by decide +kernel⟩

theorem test_DelaySlotWords_8 : ∃ (e : Fin 9) (rs1 : Fin 32) (k : BitVec 8) (off : BitVec 13) (s : State),
    (Calm s) ∧ (Issues s e) ∧ ((s.eng e).ctx.ds = true) ∧ ((s.eng e).ctx.trap.inh = false) ∧ ((s.eng e).evec ≠ absentEntry) :=
  ⟨4, 1, 2#8, 5#13, (engUp |> (fun s => State.modEng 4 (fun g => g.mapCtx (fun c => { c with ds := true })) s)), by decide +kernel⟩

theorem test_DelaySlotWords_9 : ∃ (e : Fin 9) (rs1 : Fin 32) (k : BitVec 8) (off : BitVec 13) (s : State),
    (Calm s) ∧ (Issues s e) ∧ ((s.eng e).ctx.ds = true) ∧ ((s.eng e).ctx.trap.inh = false) ∧ ((s.eng e).evec ≠ absentEntry) :=
  ⟨4, 1, 2#8, 5#13, (engUp |> (fun s => State.modEng 4 (fun g => g.mapCtx (fun c => { c with ds := true })) s)), by decide +kernel⟩

theorem test_DelaySlotWords_10 : ∃ (e : Fin 9) (rs1 : Fin 32) (k : BitVec 8) (off : BitVec 13) (s : State),
    (Calm s) ∧ (Issues s e) ∧ ((s.eng e).ctx.ds = true) ∧ ((s.eng e).ctx.trap.inh = false) ∧ ((s.eng e).evec ≠ absentEntry) :=
  ⟨4, 1, 2#8, 5#13, (engUp |> (fun s => State.modEng 4 (fun g => g.mapCtx (fun c => { c with ds := true })) s)), by decide +kernel⟩

theorem test_DelaySlotWords_11 : ∃ (e : Fin 9) (rs1 : Fin 32) (k : BitVec 8) (off : BitVec 13) (s : State),
    (Calm s) ∧ (Issues s e) ∧ ((s.eng e).ctx.ds = true) ∧ ((s.eng e).ctx.trap.inh = false) ∧ ((s.eng e).evec ≠ absentEntry) :=
  ⟨4, 1, 2#8, 5#13, (engUp |> (fun s => State.modEng 4 (fun g => g.mapCtx (fun c => { c with ds := true })) s)), by decide +kernel⟩

theorem test_DelaySlotWords_12 : ∃ (e : Fin 9) (rs1 : Fin 32) (k : BitVec 8) (off : BitVec 13) (s : State),
    (Calm s) ∧ (Issues s e) ∧ ((s.eng e).ctx.ds = true) ∧ ((s.eng e).ctx.trap.inh = false) ∧ ((s.eng e).evec ≠ absentEntry) :=
  ⟨4, 1, 2#8, 5#13, (engUp |> (fun s => State.modEng 4 (fun g => g.mapCtx (fun c => { c with ds := true })) s)), by decide +kernel⟩

theorem test_DelaySlotWords_13 : ∃ (e : Fin 9) (off : BitVec 26) (s : State),
    (Calm s) ∧ (Issues s e) ∧ ((s.eng e).ctx.ds = true) ∧ ((s.eng e).ctx.trap.inh = false) ∧ ((s.eng e).evec ≠ absentEntry) :=
  ⟨4, 5#26, (engUp |> (fun s => State.modEng 4 (fun g => g.mapCtx (fun c => { c with ds := true })) s)), by decide +kernel⟩

theorem test_DelaySlotWords_14 : ∃ (e : Fin 9) (off : BitVec 26) (s : State),
    (Calm s) ∧ (Issues s e) ∧ ((s.eng e).ctx.ds = true) ∧ ((s.eng e).ctx.trap.inh = false) ∧ ((s.eng e).evec ≠ absentEntry) :=
  ⟨4, 5#26, (engUp |> (fun s => State.modEng 4 (fun g => g.mapCtx (fun c => { c with ds := true })) s)), by decide +kernel⟩

theorem test_DelaySlotWords_15 : ∃ (e : Fin 9) (rs1 : Fin 32) (s : State),
    (Calm s) ∧ (Issues s e) ∧ ((s.eng e).ctx.ds = true) ∧ ((s.eng e).ctx.trap.inh = false) ∧ ((s.eng e).evec ≠ absentEntry) :=
  ⟨4, 5, (engUp |> (fun s => State.modEng 4 (fun g => g.mapCtx (fun c => { c with ds := true })) s)), by decide +kernel⟩

theorem test_DelaySlotWords_16 : ∃ (e : Fin 9) (rd rs1 : Fin 32) (s : State),
    (Calm s) ∧ (Issues s e) ∧ ((s.eng e).ctx.ds = true) ∧ ((s.eng e).ctx.trap.inh = false) ∧ ((s.eng e).evec ≠ absentEntry) :=
  ⟨4, 31, 5, (engUp |> (fun s => State.modEng 4 (fun g => g.mapCtx (fun c => { c with ds := true })) s)), by decide +kernel⟩

theorem test_DelaySlotWords_17 : ∃ (e : Fin 9) (rs1 : Fin 32) (s : State),
    (Calm s) ∧ (Issues s e) ∧ ((s.eng e).ctx.ds = true) ∧ ((s.eng e).ctx.trap.inh = false) ∧ ((s.eng e).evec ≠ absentEntry) :=
  ⟨4, 31, (engUp |> (fun s => State.modEng 4 (fun g => g.mapCtx (fun c => { c with ds := true })) s)), by decide +kernel⟩

theorem test_DelaySlotWords_18 : ∃ (e : Fin 9) (off : BitVec 26) (s : State),
    (Calm s) ∧ (Issues s e) ∧ ((s.eng e).ctx.ds = true) ∧ ((s.eng e).ctx.trap.inh = false) ∧ ((s.eng e).evec ≠ absentEntry) :=
  ⟨8, 5#26, (engUp |> (fun s => State.modEng 8 (fun g => g.mapCtx (fun c => { c with ds := true })) s)), by decide +kernel⟩

theorem test_DelaySlotWords_19 : ∃ (e : Fin 9) (s : State),
    (Calm s) ∧ (Issues s e) ∧ ((s.eng e).ctx.ds = true) ∧ ((s.eng e).ctx.trap.inh = false) ∧ ((s.eng e).evec ≠ absentEntry) :=
  ⟨8, (engUp |> (fun s => State.modEng 8 (fun g => g.mapCtx (fun c => { c with ds := true })) s)), by decide +kernel⟩

theorem test_DelaySlotWords_20 : ∃ (e : Fin 9) (skip : Bool) (s : State),
    (Calm s) ∧ (Issues s e) ∧ ((s.eng e).ctx.ds = true) ∧ ((s.eng e).ctx.trap.inh = false) ∧ ((s.eng e).evec ≠ absentEntry) :=
  ⟨4, true, (engUp |> (fun s => State.modEng 4 (fun g => g.mapCtx (fun c => { c with ds := true })) s)), by decide +kernel⟩

theorem test_DelaySlotWords_21 : ∃ (e : Fin 9) (s : State),
    (Calm s) ∧ (Issues s e) ∧ ((s.eng e).ctx.ds = true) ∧ ((s.eng e).ctx.trap.inh = false) ∧ ((s.eng e).evec ≠ absentEntry) :=
  ⟨4, (engUp |> (fun s => State.modEng 4 (fun g => g.mapCtx (fun c => { c with ds := true })) s)), by decide +kernel⟩

theorem test_ReturnFromTrap_1 : ∃ (e : Fin 9) (s : State),
    (Calm s) ∧ (Issues s e) ∧ ((s.eng e).ctx.ds = false) ∧ ((s.eng e).ctx.trap.inh = true) :=
  ⟨7, (engUp |> (fun s => State.modEng 7 (fun g => g.mapCtx (fun c => { c with trap := { c.trap with inh := true, tpc := 0x203#32, tnpc := 0x300#32 } })) s)), by decide +kernel⟩

theorem test_ReturnFromTrap_2 : ∃ (e : Fin 9) (s : State),
    (Calm s) ∧ (Issues s e) ∧ ((s.eng e).ctx.ds = false) ∧ ((s.eng e).ctx.trap.inh = true) :=
  ⟨7, (engUp |> (fun s => State.modEng 7 (fun g => g.mapCtx (fun c => { c with trap := { c.trap with inh := true, tpc := 0x203#32, tnpc := 0x300#32 } })) s)), by decide +kernel⟩

theorem test_ReturnFromTrap_3 : ∃ (e : Fin 9) (skip : Bool) (s : State),
    (Calm s) ∧ (Issues s e) ∧ ((s.eng e).ctx.trap.inh = false) ∧ ((s.eng e).evec ≠ absentEntry) :=
  ⟨7, false, (engUp), by decide +kernel⟩

theorem test_StepRunsFront_1 : State.reset.pending = [] ∧ State.reset.aq.slew = 0 ∧ State.reset.aq.rate = 0 ∧ State.reset.aq.ratePart = 0 := by decide +kernel

theorem test_CalmKept_1 : Calm State.reset ∧ step State.reset = .next State.reset.tick := ⟨by decide +kernel, rfl⟩

theorem test_MemoryKept_1 : MemoryOk State.reset ∧ step State.reset = .next State.reset.tick := ⟨by decide +kernel, rfl⟩

theorem test_CommandFrame_1 : mayStore (.lodgeRestart 0 0) = false := by decide +kernel

end Sys2Proof.Tests
end

section
/-! Running the words of a Tiller engine that change where it goes on: what an issue does to the banks of an
engine, the trap with RESERVED_OP (R283, R292), and RTE (R293). -/

namespace Sys2Proof.Machine

/-! ### The engines of the state -/

@[simp] theorem State.eng_modEng_same (e : Nat) (f : Engine → Engine) (s : State) :
    (State.modEng e f s).eng e = f (s.eng e) := Tab.get_mod_same _ _ _ _

@[simp] theorem State.eng_setReg (a : Nat) (v : Word) (s : State) (k : Nat) : (State.setReg a v s).eng k = s.eng k := rfl

@[simp] theorem State.eng_setFld (a : Nat) (f : Fld) (x : Nat) (s : State) (k : Nat) :
    (State.setFld a f x s).eng k = s.eng k := rfl

@[simp] theorem State.eng_incFld (a : Nat) (f : Fld) (s : State) (k : Nat) : (State.incFld a f s).eng k = s.eng k := rfl

@[simp] theorem eng_raiseEvData (n i : Nat) (l : List Nat) (s : State) (k : Nat) :
    (raiseEvData n i l s).eng k = s.eng k := rfl

@[simp] theorem State.eng_drawn (s : State) (k : Nat) : s.drawn.eng k = s.eng k := rfl

/-- STATE of a Keeper stands in its KEEPER_STAT; nothing else changes with it. -/
theorem setKState_frame (k x : Nat) (s : State) : setKState k x s = { s with regs := (setKState k x s).regs } := by
  unfold setKState
  split <;> rfl

@[simp] theorem eng_setKState (j x : Nat) (s : State) (k : Nat) : (setKState j x s).eng k = s.eng k := by
  rw [setKState_frame]; rfl

@[simp] theorem mem_setKState (j x : Nat) (s : State) : (setKState j x s).mem = s.mem := by
  rw [setKState_frame]

theorem reg_setKState_other (k x : Nat) (s : State) {a : Nat} (h : a ≠ KEEPER_STAT k) :
    (setKState k x s).reg a = s.reg a := by
  unfold setKState
  split
  · exact State.reg_setFld_other s _ _ h
  · rfl

/-! ### The running bank of an engine -/

@[simp] theorem Engine.ctx_mapCtx (f : Ctx → Ctx) (g : Engine) : (g.mapCtx f).ctx = f g.ctx := by
  unfold Engine.mapCtx Engine.ctx
  split <;> simp_all

@[simp] theorem Engine.flight_mapCtx (f : Ctx → Ctx) (g : Engine) : (g.mapCtx f).flight = g.flight := by
  unfold Engine.mapCtx
  split <;> rfl

@[simp] theorem Engine.ctx_spend (n : Nat) (g : Engine) : (g.spend n).ctx = g.ctx := rfl

@[simp] theorem Engine.flight_spend (n : Nat) (g : Engine) : (g.spend n).flight = g.flight := rfl

@[simp] theorem Engine.evec_spend (n : Nat) (g : Engine) : (g.spend n).evec = g.evec := rfl

@[simp] theorem Engine.ctx_land (r : Nat) (v : Word) (g : Engine) :
    (g.land r v).ctx = { g.ctx with regs := Tab.put g.ctx.regs 0#32 r v } := Engine.ctx_mapCtx _ g

/-- The registers of a bank after the results `l` have landed in order. -/
def landedIn (l : List (Nat × Word × Nat)) (regs : Tab Word) : Tab Word :=
  l.foldl (fun rs w => Tab.put rs 0#32 w.1 w.2.1) regs

/-- Results that land change the registers of the running bank and nothing else of it. -/
theorem Engine.ctx_foldl_land (l : List (Nat × Word × Nat)) (g : Engine) :
    (l.foldl (fun h w => h.land w.1 w.2.1) g).ctx = { g.ctx with regs := landedIn l g.ctx.regs } := by
  induction l generalizing g with
  | nil => rfl
  | cons w rest ih => rw [List.foldl_cons, ih, Engine.ctx_land]; rfl

/-- The results in flight, one instruction nearer. -/
def Engine.aged (g : Engine) : List (Nat × Word × Nat) := g.flight.map fun w => (w.1, w.2.1, w.2.2 - 1)

theorem Engine.flight_issue (g : Engine) : g.issue.flight = g.aged.filter fun w => w.2.2 != 0 := rfl

/-- An issue lands what is due in the running bank (R285, R286). -/
theorem Engine.ctx_issue (g : Engine) :
    g.issue.ctx = { g.ctx with regs := landedIn (g.aged.filter fun w => w.2.2 == 0) g.ctx.regs } :=
  Engine.ctx_foldl_land _ g

/-- R288: every result lands in the running bank. -/
theorem Engine.ctx_landAll (g : Engine) : g.landAll.ctx = { g.ctx with regs := landedIn g.flight g.ctx.regs } :=
  Engine.ctx_foldl_land _ g

/-! ### What the registers of an engine read as -/

/-- Two engines whose running banks hold the same registers, with the same results in flight. -/
def Engine.SameFile (g h : Engine) : Prop := g.flight = h.flight ∧ g.ctx.regs = h.ctx.regs

theorem Engine.SameFile.x {g h : Engine} (H : g.SameFile h) (r : Fin 32) : g.x r = h.x r := by
  unfold Engine.x
  rw [H.2]

theorem Engine.SameFile.issue {g h : Engine} (H : g.SameFile h) : g.issue.SameFile h.issue := by
  obtain ⟨hf, hr⟩ := H
  simp [Engine.SameFile, Engine.flight_issue, Engine.ctx_issue, Engine.aged, hf, hr]

theorem Engine.SameFile.agedBy {g h : Engine} (H : g.SameFile h) (n : Nat) : (g.agedBy n).SameFile (h.agedBy n) := by
  induction n generalizing g h with
  | zero => exact H
  | succ n ih => exact ih H.issue

/-- An instruction that leaves the registers and the results in flight as its issue found them gives nothing. -/
theorem gives_nothing {s t : State} {e : Nat} (H : (t.eng e).SameFile (s.eng e).issue) : Gives s t e 0 1 0#32 :=
  ⟨fun n hn => by obtain rfl : n = 0 := by omega
                  exact H.x 0,
   fun h => absurd rfl h,
   fun n r _ => (H.agedBy n).x r⟩

/-! ### Issuing a word -/

/-- A word that is barred where the engine stands traps with RESERVED_OP. -/
theorem issueBy_of_barred {age : Engine → Engine} {e : Nat} {w : Word} {bars : Engine → Bool} {f : State → State}
    {s : State} (hi : Issues s e) (hb : bars (s.eng e) = true) :
    issueBy age e w bars f s = trapIssued e 1 w s := by
  obtain ⟨hrun, hspent, hbudget, hpc⟩ := hi
  simp [issueBy, hrun, hspent, hbudget, Nat.not_le.2 hpc, hb]

/-- A word that is not barred has its effect after the issue. -/
theorem issueBy_of_not_barred {age : Engine → Engine} {e : Nat} {w : Word} {bars : Engine → Bool} {f : State → State}
    {s : State} (hi : Issues s e) (hb : bars (s.eng e) = false) :
    issueBy age e w bars f s = f (State.modEng e (fun g => (age g).spend 1) s) := by
  obtain ⟨hrun, hspent, hbudget, hpc⟩ := hi
  simp [issueBy, hrun, hspent, hbudget, Nat.not_le.2 hpc, hb]

/-! ### Traps that reach their handler (R292) -/

/-- The vector through which a trap of `cause` leaves. -/
def Engine.vector (cause : Nat) (g : Engine) : Word := if cause = 1 then g.evec else g.tvec

/-- The engine that a trap leaves at its handler, `n` core cycles later. -/
def Engine.enterHandler (e cause : Nat) (inst vec : Word) (n : Nat) (g : Engine) : Engine :=
  (g.landAll.mapCtx (Ctx.trapped (decide (e < 8) && g.inF) cause inst vec)).spend n

/-- What KEEPER_STAT, KEEPER_TRAP, KEEPER_TPC and EV112 show of a Keeper's trap; the Warden shows nothing. -/
def showTrap (e cause : Nat) (pc : Word) (t : State) : State :=
  if e < 8 then
    raiseEvData 112 e (cause :: leBytes 4 pc.toNat)
      (State.incFld (KEEPER_STAT e) KEEPER_STAT_TRAP_CNT
        (setKState e 4 (State.setReg (KEEPER_TPC e) pc (State.setFld (KEEPER_TRAP e) KEEPER_TRAP_K_TRAP cause t))))
  else t

/-- Outside a handler and with its vector present, a trap enters the handler. -/
theorem trap_of_vectored {e cause : Nat} {inst : Word} {s : State} (hh : (s.eng e).ctx.trap.inh = false)
    (hv : (s.eng e).vector cause ≠ absentEntry) :
    trap e cause inst s = showTrap e cause (s.eng e).ctx.pc
      (State.modEng e (Engine.enterHandler e cause inst ((s.eng e).vector cause) (trapCycles s)) s.drawn) := by
  unfold Engine.vector at hv
  simp only [trap, hh, Bool.false_eq_true, if_false, if_neg hv]
  rfl

/-- From `s` to `t` engine `e` has trapped with cause `n` at the word `w` and stands at its handler. -/
structure TookTrap (s t : State) (e n : Nat) (w : Word) : Prop where
  cause : (t.eng e).ctx.trap.cause = n
  inst : (t.eng e).ctx.trap.inst = w
  tpc : (t.eng e).ctx.trap.tpc = (s.eng e).ctx.pc
  tds : (t.eng e).ctx.trap.tds = (s.eng e).ctx.ds
  pc : (t.eng e).ctx.pc = (s.eng e).vector n
  mem : t.mem = s.mem
  regs : OnlyRegs [KEEPER_STAT e, KEEPER_TRAP e, KEEPER_TPC e] s t

@[simp] theorem eng_showTrap (e cause : Nat) (pc : Word) (t : State) (k : Nat) :
    (showTrap e cause pc t).eng k = t.eng k := by
  unfold showTrap
  split
  · simp
  · rfl

@[simp] theorem mem_showTrap (e cause : Nat) (pc : Word) (t : State) : (showTrap e cause pc t).mem = t.mem := by
  unfold showTrap
  split
  · exact mem_setKState _ _ _
  · rfl

theorem showTrap_calm (e cause : Nat) (pc : Word) (t : State) (h : Calm t) : Calm (showTrap e cause pc t) := by
  unfold showTrap
  split
  · apply raiseEvData_calm
    rw [setKState_frame]
    exact h
  · exact h

theorem reg_showTrap_other (e cause : Nat) (pc : Word) (t : State) {a : Nat}
    (ha : a ∉ [KEEPER_STAT e, KEEPER_TRAP e, KEEPER_TPC e]) (hr : reportReg a = false) :
    (showTrap e cause pc t).reg a = t.reg a := by
  simp only [List.mem_cons, List.not_mem_nil, or_false, not_or] at ha
  obtain ⟨hstat, htrap, htpc⟩ := ha
  unfold showTrap
  split
  · rw [raiseEvData_regs 112 _ _ _ (by decide) a hr, State.incFld, State.reg_setFld_other _ _ _ hstat,
      reg_setKState_other _ _ _ hstat, State.reg_setReg_other _ _ htpc, State.reg_setFld_other _ _ _ htrap]
  · rfl

/-- A trap that reaches its handler leaves no capture. -/
theorem trap_calm {e cause : Nat} {inst : Word} {s : State} (hc : Calm s) (hh : (s.eng e).ctx.trap.inh = false)
    (hv : (s.eng e).vector cause ≠ absentEntry) : Calm (trap e cause inst s) := by
  rw [trap_of_vectored hh hv]
  exact showTrap_calm _ _ _ _ hc

/-- What a trap that reaches its handler does, and that it does nothing else (R292). -/
theorem trap_tookTrap {e cause : Nat} {inst : Word} {s : State} (hh : (s.eng e).ctx.trap.inh = false)
    (hv : (s.eng e).vector cause ≠ absentEntry) : TookTrap s (trap e cause inst s) e cause inst := by
  rw [trap_of_vectored hh hv]
  constructor
  case mem => exact mem_showTrap _ _ _ _
  case regs => exact fun a ha hr _ => reg_showTrap_other _ _ _ _ ha hr
  all_goals simp [Engine.enterHandler, Engine.ctx_landAll, Ctx.trapped]

/-! ### The end of an instruction -/

/-- The end `u` of an instruction whose effect `t` is a trap shows that trap. -/
theorem TookTrap.of_end {s t u : State} {e cause : Nat} {inst : Word} (H : TookTrap s t e cause inst)
    (hk : u.kp = t.kp) (hm : u.mem = s.mem) (hr : ∀ a, reportReg a = false → a ≠ NETPM_STAT → u.reg a = t.reg a) :
    TookTrap s u e cause inst := by
  have he : u.eng e = t.eng e := by unfold State.eng; rw [hk]
  constructor
  case mem => exact hm
  case regs => exact fun a ha h1 h2 => (hr a h1 h2).trans (H.regs a ha h1 h2)
  all_goals rw [he]
  exacts [H.cause, H.inst, H.tpc, H.tds, H.pc]

section
variable {s : State} {e : Nat} {w : Word}
  (hc : Calm s) (hh : (s.eng e).ctx.trap.inh = false) (hv : (s.eng e).evec ≠ absentEntry)
include hc hh hv

/-- The trap of an issued word that is reserved where it stands. -/
theorem trapIssued_reserved : Calm (trapIssued e 1 w s) ∧ TookTrap s (trapIssued e 1 w s) e 1 w := by
  have hh' : ((State.modEng e (fun g => g.spend 1) s).eng e).ctx.trap.inh = false := by simpa using hh
  have hv' : ((State.modEng e (fun g => g.spend 1) s).eng e).vector 1 ≠ absentEntry := by simpa [Engine.vector] using hv
  obtain ⟨cause, inst, tpc, tds, pc, mem, regs⟩ := trap_tookTrap (inst := w) hh' hv'
  simp at tpc tds pc
  exact ⟨trap_calm hc hh' hv', cause, inst, tpc, tds, pc, mem, regs⟩

/-- An instruction that stores to no memory and ends in a trap with RESERVED_OP. -/
theorem finish_trapIssued_reserved : ∃ u, finish s (trapIssued e 1 w s) = .next u ∧ TookTrap s u e 1 w := by
  obtain ⟨hcalm, H⟩ := trapIssued_reserved (w := w) hc hh hv
  obtain ⟨u, hu, hr, hf⟩ := finish_of_calm s _ hcalm
  exact ⟨u, hu, H.of_end (by rw [hf]) (by rw [hf]) hr⟩

/-- An instruction that may store and ends in a trap with RESERVED_OP. -/
theorem finishMem_trapIssued_reserved : ∃ u, finishMem s (trapIssued e 1 w s) = .next u ∧ TookTrap s u e 1 w := by
  obtain ⟨hcalm, H⟩ := trapIssued_reserved (w := w) hc hh hv
  obtain ⟨u, hu, hr, hf⟩ := finishMem_of_calm s _ hcalm
  exact ⟨u, hu, H.of_end (by rw [hf]) (by rw [hf]; exact H.mem) hr⟩

end

/-! ### Control transfers in a delay slot (R283) -/

section
variable {s : State} {e : Fin 9} {c : Instr} {w : Word} {age : Engine → Engine} {bars : Engine → Bool}
  {f : State → State}
  (hc : Calm s) (hi : Issues s e) (hd : (s.eng e).ctx.ds = true) (hh : (s.eng e).ctx.trap.inh = false)
  (hv : (s.eng e).evec ≠ absentEntry)
include hd

/-- Where the trap found a delay slot, TDS is 1. -/
theorem TookTrap.trapsReserved {u : State} (H : TookTrap s u e 1 w) (hu : exec c s = .next u) : TrapsReserved c s e w :=
  ⟨u, hu, H.cause, H.inst, H.tds.trans hd, H.pc, H.mem, H.regs⟩

include hc hi hh hv

/-- A word that stores to no memory and is barred in the delay slot traps there. -/
theorem trapsReserved_of_finish (hx : exec c s = finish s (issueBy age e w bars f s)) (hb : bars (s.eng e) = true) :
    TrapsReserved c s e w := by
  rw [issueBy_of_barred hi hb] at hx
  obtain ⟨u, hu, H⟩ := finish_trapIssued_reserved (w := w) hc hh hv
  exact H.trapsReserved hd (hx.trans hu)

/-- A word that may store and is barred in the delay slot traps there. -/
theorem trapsReserved_of_finishMem (hx : exec c s = finishMem s (issueBy age e w bars f s))
    (hb : bars (s.eng e) = true) : TrapsReserved c s e w := by
  rw [issueBy_of_barred hi hb] at hx
  obtain ⟨u, hu, H⟩ := finishMem_trapIssued_reserved (w := w) hc hh hv
  exact H.trapsReserved hd (hx.trans hu)

/-- Compare-and-branch of two registers. -/
theorem brReg_trapsReserved {op : Nat} {rs1 rs2 : Fin 32} {off : BitVec 16} {k : Word → Word → Bool}
    (hx : exec c s = finish s (brReg e op rs1 rs2 off k s)) : TrapsReserved c s e (encI op rs1 rs2 off) :=
  trapsReserved_of_finish hc hi hd hh hv hx hd

/-- Compare-and-branch of a register with a constant. -/
theorem brConst_trapsReserved {op : Nat} {rs1 : Fin 32} {b : BitVec 8} {off : BitVec 13} {k : Word → Bool}
    (hx : exec c s = finish s (brConst e op rs1 b off k s)) : TrapsReserved c s e (encBK op rs1 b off) :=
  trapsReserved_of_finish hc hi hd hh hv hx hd

/-- J, JAL, JX, JALX and RET. -/
theorem jumpOn_trapsReserved {link : Option (Fin 32)} {target : Engine → Word}
    (hx : exec c s = finish s (jumpOn e w link target s)) : TrapsReserved c s e w :=
  trapsReserved_of_finish hc hi hd hh hv hx hd

theorem callm_trapsReserved (off : BitVec 26) : TrapsReserved (.callm e off) s e (encJ 0x3A off) :=
  trapsReserved_of_finishMem hc hi hd hh hv (bars := fun g => e != 8 || g.ctx.ds) rfl (by simp [hd])

theorem retm_trapsReserved : TrapsReserved (.retm e) s e 0x3B#32 :=
  trapsReserved_of_finish hc hi hd hh hv (bars := fun g => e != 8 || g.ctx.ds) rfl (by simp [hd])

theorem rte_trapsReserved (skip : Bool) : TrapsReserved (.rte e skip) s e (encSys 2 0 skip 0#8) :=
  trapsReserved_of_finish hc hi hd hh hv (bars := fun g => g.ctx.ds || !g.ctx.trap.inh) rfl (by simp [hd])

theorem yield_trapsReserved : TrapsReserved (.yield e) s e (encSys 3 0 false 0#8) :=
  trapsReserved_of_finish hc hi hd hh hv (bars := fun g => g.ctx.ds || g.ctx.trap.inh || e == 8) rfl (by simp [hd])

end

/-- Settles O52: every word of R283 is barred in a delay slot, and a barred word traps with RESERVED_OP. -/
theorem delaySlotWords : Obligations.DelaySlotWords :=
  ⟨fun _ _ _ _ _ hc hi hd hh hv => brReg_trapsReserved hc hi hd hh hv rfl,
   fun _ _ _ _ _ hc hi hd hh hv => brReg_trapsReserved hc hi hd hh hv rfl,
   fun _ _ _ _ _ hc hi hd hh hv => brReg_trapsReserved hc hi hd hh hv rfl,
   fun _ _ _ _ _ hc hi hd hh hv => brReg_trapsReserved hc hi hd hh hv rfl,
   fun _ _ _ _ _ hc hi hd hh hv => brReg_trapsReserved hc hi hd hh hv rfl,
   fun _ _ _ _ _ hc hi hd hh hv => brReg_trapsReserved hc hi hd hh hv rfl,
   fun _ _ _ _ _ hc hi hd hh hv => brConst_trapsReserved hc hi hd hh hv rfl,
   fun _ _ _ _ _ hc hi hd hh hv => brConst_trapsReserved hc hi hd hh hv rfl,
   fun _ _ _ _ _ hc hi hd hh hv => brConst_trapsReserved hc hi hd hh hv rfl,
   fun _ _ _ _ _ hc hi hd hh hv => brConst_trapsReserved hc hi hd hh hv rfl,
   fun _ _ _ _ _ hc hi hd hh hv => brConst_trapsReserved hc hi hd hh hv rfl,
   fun _ _ _ _ _ hc hi hd hh hv => brConst_trapsReserved hc hi hd hh hv rfl,
   fun _ _ _ hc hi hd hh hv => jumpOn_trapsReserved hc hi hd hh hv rfl,
   fun _ _ _ hc hi hd hh hv => jumpOn_trapsReserved hc hi hd hh hv rfl,
   fun _ _ _ hc hi hd hh hv => jumpOn_trapsReserved hc hi hd hh hv rfl,
   fun _ _ _ _ hc hi hd hh hv => jumpOn_trapsReserved hc hi hd hh hv rfl,
   fun _ _ _ hc hi hd hh hv => jumpOn_trapsReserved hc hi hd hh hv rfl,
   fun _ off _ hc hi hd hh hv => callm_trapsReserved hc hi hd hh hv off,
   fun _ _ hc hi hd hh hv => retm_trapsReserved hc hi hd hh hv,
   fun _ skip _ hc hi hd hh hv => rte_trapsReserved hc hi hd hh hv skip,
   fun _ _ hc hi hd hh hv => yield_trapsReserved hc hi hd hh hv⟩

/-! ### RTE (R293) -/

/-- RTE captures no fault. -/
theorem rteBody_calm (e : Nat) (skip : Bool) {s : State} (h : Calm s) : Calm (rteBody e skip s) := by
  unfold rteBody
  rw [setKState_frame]
  exact h

theorem eng_rteBody (e : Nat) (skip : Bool) (s : State) :
    (rteBody e skip s).eng e = (s.eng e).mapCtx (Ctx.returned skip) := by
  simp [rteBody]

theorem reg_rteBody_other (e : Nat) (skip : Bool) (s : State) {a : Nat} (h : a ≠ KEEPER_STAT e) :
    (rteBody e skip s).reg a = s.reg a := reg_setKState_other _ _ _ h

/-- A returned engine reads its registers as the issue of RTE left them. -/
theorem sameFile_returned (skip : Bool) (g : Engine) : ((g.spend 1).mapCtx (Ctx.returned skip)).SameFile g := by
  simp [Engine.SameFile, Ctx.returned]

/-- RTE in a handler, outside a delay slot, returns the running bank of its engine; of the registers of the map only
STATE of a Keeper changes with it, and memory stands. -/
theorem rte_returns {s : State} {e : Fin 9} (skip : Bool) (hc : Calm s) (hi : Issues s e)
    (hd : (s.eng e).ctx.ds = false) (hh : (s.eng e).ctx.trap.inh = true) :
    Runs (.rte e skip) s fun t =>
      t.eng e = ((s.eng e).issue.spend 1).mapCtx (Ctx.returned skip) ∧ t.mem = s.mem ∧ OnlyRegs [KEEPER_STAT e] s t := by
  have hx : exec (.rte e skip) s =
      finish s (rteBody e skip (State.modEng e (fun g => g.issue.spend 1) s)) :=
    congrArg (finish s) (issueBy_of_not_barred hi (by simp [hd, hh]))
  obtain ⟨u, hu, hr, hf⟩ := finish_of_calm s (rteBody e skip (State.modEng e (fun g => g.issue.spend 1) s))
    (rteBody_calm e skip hc)
  refine ⟨u, hx.trans hu, ?_, by rw [hf], fun a ha h1 h2 => ?_⟩
  · rw [hf]
    exact (eng_rteBody e skip _).trans (by rw [State.eng_modEng_same])
  · exact (hr a h1 h2).trans (reg_rteBody_other e skip _ (by simpa using ha))

/-- RTE outside a handler traps as a reserved opcode, in a delay slot or not. -/
theorem rte_outside_handler {s : State} {e : Fin 9} (skip : Bool) (hc : Calm s) (hi : Issues s e)
    (hh : (s.eng e).ctx.trap.inh = false) (hv : (s.eng e).evec ≠ absentEntry) :
    Runs (.rte e skip) s fun t => TookTrap s t e 1 (encSys 2 0 skip 0#8) := by
  have hx : exec (.rte e skip) s = finish s (trapIssued e 1 (encSys 2 0 skip 0#8) s) :=
    congrArg (finish s) (issueBy_of_barred hi (by simp [hh]))
  obtain ⟨u, hu, H⟩ := finish_trapIssued_reserved hc hh hv
  exact ⟨u, hx.trans hu, H⟩

/-- Settles O53: RTE puts `Ctx.returned` in the place of the running bank, whose fields the clauses read off. -/
theorem returnFromTrap : Obligations.ReturnFromTrap := by
  refine ⟨fun e s hc hi hd hh => ?resumeTpc, fun e s hc hi hd hh => ?resumeTnpc, fun e skip s hc hi hh hv => ?reserved⟩
  case resumeTpc =>
    obtain ⟨t, ht, he, hm, hr⟩ := rte_returns false hc hi hd hh
    refine ⟨t, ht, ?_, ?_, ?_, ?_, gives_nothing (he ▸ sameFile_returned false _), hm, hr⟩
    all_goals simp [he, Ctx.returned, Engine.ctx_issue]
  case resumeTnpc =>
    obtain ⟨t, ht, he, hm, hr⟩ := rte_returns true hc hi hd hh
    refine ⟨t, ht, ?_, ?_, ?_, ?_, gives_nothing (he ▸ sameFile_returned true _), hm, hr⟩
    all_goals simp [he, Ctx.returned, Engine.ctx_issue]
  case reserved =>
    obtain ⟨t, ht, H⟩ := rte_outside_handler skip hc hi hh hv
    exact ⟨t, ht, H.cause, H.inst, H.tpc, H.pc, H.mem, H.regs⟩

end Sys2Proof.Machine
end

section
/-! How every command and every tick ends: the command's effect settled, with the queue and the clock as they were; and
what no tick touches. -/

namespace Sys2Proof.Machine

/-- What each step of a fold leaves as it is, the fold leaves as it is. -/
theorem proj_foldl {β γ : Type} (π : State → γ) {g : State → β → State} (h : ∀ t x, π (g t x) = π t) (l : List β)
    (s : State) : π (l.foldl g s) = π s := by
  induction l generalizing s with
  | nil => rfl
  | cons x l ih => rw [List.foldl_cons, ih, h]

/-! ### The end of a command -/

/-- Every command ends as one that stores to no memory or as one that may. -/
theorem exec_ends (c : Instr) (s : State) : ∃ u, exec c s = finish s u ∨ exec c s = finishMem s u := by
  cases c <;> first | exact ⟨_, .inl rfl⟩ | exact ⟨_, .inr rfl⟩

/-- A command answers its effect settled, but for the queue, the clock, the registers of the instant before and,
where it stores to none, memory. -/
theorem exec_settles (c : Instr) (s : State) :
    ∃ u m, exec c s = .next { settle u with pending := s.pending, now := s.now, mem := m, prev := s.regs } := by
  obtain ⟨u, h | h⟩ := exec_ends c s
  · exact ⟨u, s.mem, h⟩
  · exact ⟨u, (settle u).mem, h⟩

/-- A step is a command on the rest of the queue, or a tick. -/
theorem step_cases {s t : State} (h : step s = .next t) :
    (s.pending = [] ∧ t = s.tick) ∨ ∃ c rest, s.pending = c :: rest ∧ exec c { s with pending := rest } = .next t := by
  unfold step at h
  split at h
  case h_1 hp => exact .inl ⟨hp, by cases h; rfl⟩
  case h_2 c rest hp => exact .inr ⟨c, rest, hp, h⟩

/-! ### What a tick leaves alone -/

/-- The parts of the state that the units that run with the clock leave alone. -/
def State.tickless (s : State) : List Instr × Nat × Nat × List Host.Cell × Report := (s.pending, s.now, s.wwt, s.mem, s.rep)

theorem tickless_slotsDone (s : State) : (slotsDone s).tickless = s.tickless :=
  proj_foldl State.tickless (fun t b => by split <;> rfl) _ s

theorem tickless_ditherTick (s : State) : (ditherTick s).tickless = s.tickless :=
  proj_foldl State.tickless (fun t e => by split <;> [split <;> rfl; rfl]) _ s

theorem tickless_sendBeacons (s : State) : (sendBeacons s).tickless = s.tickless :=
  proj_foldl State.tickless (fun t p => by split <;> rfl) _ s

theorem tickless_measured (s : State) : (measured s).tickless = s.tickless := by
  unfold measured
  split <;> rfl

/-- A HELLO barge is of class F: a port queues it, or counts that it has no room. -/
theorem tickless_sendHello (p : Nat) (s : State) : (sendHello p s).tickless = s.tickless := by
  simp only [sendHello, queueBarge, localBarge, mkBarge]
  split <;> rfl

theorem tickless_hellosDue (s : State) : (hellosDue s).tickless = s.tickless :=
  proj_foldl State.tickless (fun t p => by split; exact tickless_sendHello p t; rfl) _ s

theorem tickless_firmwareSwitch (s : State) : (firmwareSwitch s).tickless = s.tickless := by
  unfold firmwareSwitch
  split <;> [split <;> rfl; rfl]

/-- A tick moves the clock and waterway time on, and leaves the queue, memory and what was reported. -/
theorem tickless_tick (s : State) :
    s.tick.tickless = (s.pending, s.now + tickNs, (s.wwt + tickNs + slewNs (mirrorPush s)).toNat, s.mem, s.rep) := by
  rw [State.tick, tickless_firmwareSwitch, tickless_hellosDue, tickless_measured, tickless_sendBeacons,
    tickless_ditherTick, tickless_slotsDone]
  rfl

/-! ### The registers that a tick writes -/

/-- A register that no tick writes: neither a slot counter, nor a counter of a port, nor the code bank. -/
def Tickless (a : Nat) : Prop := (∀ b : Fin 6, a ≠ MEAS_SCNT b) ∧ (∀ p : Fin 4, a ≠ AQ_PCNT p) ∧ a ≠ UPD_CODE

section
variable {a : Nat} (h : Tickless a)
include h

theorem reg_slotsDone (s : State) : (slotsDone s).reg a = s.reg a := by
  refine List.foldlRecOn _ _ (motive := fun t : State => t.reg a = s.reg a) rfl fun t ht b hb => ?_
  split
  · exact (State.reg_setReg_other t _ (h.1 ⟨b, List.mem_range.1 hb⟩)).trans ht
  · exact ht

theorem reg_sendHello {p : Nat} (hp : p < 4) (s : State) : (sendHello p s).reg a = s.reg a := by
  simp only [sendHello, queueBarge, localBarge, mkBarge]
  split
  · rfl
  · exact State.reg_setFld_other _ _ _ (h.2.1 ⟨p, hp⟩)

theorem reg_hellosDue (s : State) : (hellosDue s).reg a = s.reg a := by
  refine List.foldlRecOn _ _ (motive := fun t : State => t.reg a = s.reg a) rfl fun t ht p hp => ?_
  have h4 : p < 4 := by simp [aqPorts] at hp; omega
  split
  · exact (reg_sendHello h h4 t).trans ht
  · exact ht

theorem reg_firmwareSwitch (s : State) : (firmwareSwitch s).reg a = s.reg a := by
  unfold firmwareSwitch
  split
  · split
    · exact State.reg_setFld_other _ _ _ h.2.2
    · rfl
  · rfl

theorem reg_tick (s : State) : s.tick.reg a = s.reg a := by
  rw [State.tick, reg_firmwareSwitch h, reg_hellosDue h]
  have hm : ∀ t : State, (measured t).reg a = t.reg a := fun t => by unfold measured; split <;> rfl
  have hb : ∀ t : State, (sendBeacons t).reg a = t.reg a :=
    proj_foldl (fun t => t.reg a) (fun t p => by split <;> rfl) _
  have hd : ∀ t : State, (ditherTick t).reg a = t.reg a := fun t =>
    proj_foldl (fun t => t.reg a) (fun t e => by split <;> [split <;> rfl; rfl]) _ t
  rw [hm, hb, hd, reg_slotsDone h]
  rfl

end

/-! ### The statements -/

/-- Settles O56: a tick leaves the capture alone, and every command ends settled. -/
theorem calmKept : Obligations.CalmKept := by
  intro s t hs ht
  rcases step_cases ht with ⟨_, rfl⟩ | ⟨c, rest, _, he⟩
  · have h : s.tick.rep = s.rep := congrArg (·.2.2.2.2) (tickless_tick s)
    rw [Calm, h]
    exact hs
  · obtain ⟨u, m, hu⟩ := exec_settles c { s with pending := rest }
    rw [hu] at he
    cases he
    exact settle_calm u

/-- Settles O54: a step is `exec` by definition, and the empty queue leaves a tick. -/
theorem stepRunsFront : Obligations.StepRunsFront := by
  refine ⟨fun c rest s => rfl, fun s hp => ⟨s.tick, by unfold step; rw [hp], ?_⟩⟩
  have h := tickless_tick s
  simp only [State.tickless, Prod.mk.injEq] at h
  obtain ⟨hpending, hnow, hwwt, hmem, _⟩ := h
  refine ⟨hnow, hmem, hpending.trans hp, fun h1 h2 h3 => ?_, fun a h1 h2 h3 => reg_tick ⟨h1, h2, h3⟩ s⟩
  have hc : slewNs (mirrorPush s) = 0 := by simp [slewNs, slewPpm, mirrorPush, h1, h2, h3]
  rw [hwwt, hc]
  rfl

/-- Settles O55: an empty table reads as the Reset column of its registers, which the clauses evaluate. -/
theorem resetValues : Obligations.ResetValues := by
  refine ⟨⟨rfl, rfl, rfl, rfl, rfl⟩, ⟨?sysId, ?boot, ?enables, ?run, ?naks⟩, ?t1s, ?regs⟩
  case regs => intro e r; unfold Engine.x; split <;> rfl
  all_goals decide +kernel

end Sys2Proof.Machine
end

section
/-! What each function of the model does to memory: `mem_f` where it leaves memory as it was, `memOk_f` where it may store
and keeps memory's canonical form. In the order of the definitions. -/

namespace Sys2Proof.Machine

@[simp] theorem mem_foldl {β : Type} {g : State → β → State} (h : ∀ t x, (g t x).mem = t.mem) (l : List β) (s : State) :
    (l.foldl g s).mem = s.mem :=
  proj_foldl State.mem h l s

@[simp] theorem mem_ite (c : Prop) [Decidable c] (t u : State) : (if c then t else u).mem = if c then t.mem else u.mem :=
  apply_ite State.mem c t u

@[simp] theorem memOk_foldl {β : Type} {g : State → β → State} (hg : ∀ t x, Memory.wf t.mem = true → Memory.wf (g t x).mem = true)
    (l : List β) (s : State) (h : Memory.wf s.mem = true) : Memory.wf (l.foldl g s).mem = true :=
  List.foldlRecOn l g (motive := fun t : State => Memory.wf t.mem = true) h fun t ht x _ => hg t x ht

@[simp] theorem memOk_ite (c : Prop) [Decidable c] (m n : List Host.Cell) : Memory.wf (if c then m else n) = if c then Memory.wf m else Memory.wf n :=
  apply_ite Memory.wf c m n

@[simp] theorem mem_lodgeReset (s : State) : (lodgeReset s).mem = s.mem :=
  (rfl)

@[simp] theorem mem_writeWarmRecord (s : State) : (writeWarmRecord s).mem = s.mem :=
  (rfl)

@[simp] theorem mem_lodgeResetWarm (s : State) : (lodgeResetWarm s).mem = s.mem := by
  simp [lodgeResetWarm]

@[simp] theorem mem_resetAfter (due : Bool) (s : State) : (resetAfter due s).mem = s.mem := by
  simp [resetAfter]

@[simp] theorem State.mem_setReg (a : Nat) (v : Word) (s : State) : (State.setReg a v s).mem = s.mem :=
  (rfl)

@[simp] theorem State.mem_setFld (a : Nat) (f : Fld) (x : Nat) (s : State) : (State.setFld a f x s).mem = s.mem :=
  (rfl)

@[simp] theorem State.mem_setFlag (a : Nat) (f : Fld) (b : Bool) (s : State) : (State.setFlag a f b s).mem = s.mem :=
  (rfl)

@[simp] theorem mem_showCapture (caps : List Nat) (r : Nat) (s : State) : (showCapture caps r s).mem = s.mem :=
  (rfl)

@[simp] theorem State.mem_incFld (a : Nat) (f : Fld) (s : State) : (State.incFld a f s).mem = s.mem :=
  (rfl)

@[simp] theorem mem_evCount (n : Nat) (s : State) : (evCount n s).mem = s.mem :=
  (rfl)

@[simp] theorem mem_raiseAgain (n : Nat) (s : State) : (raiseAgain n s).mem = s.mem :=
  (rfl)

@[simp] theorem mem_countDrop (s : State) : (countDrop s).mem = s.mem :=
  (rfl)

@[simp] theorem mem_pushQuiet (r : LogRec) (s : State) : (pushQuiet r s).mem = s.mem := by
  simp [pushQuiet]

@[simp] theorem mem_raiseQuiet (n : Nat) (index : Nat) (data : List Nat) (s : State) : (raiseQuiet n index data s).mem = s.mem := by
  simp [raiseQuiet]

@[simp] theorem mem_captureRegs (n : Nat) (s : State) : (captureRegs n s).mem = s.mem :=
  (rfl)

@[simp] theorem mem_raiseFault64 (s : State) : (raiseFault64 s).mem = s.mem := by
  unfold raiseFault64
  split
  · rfl
  split
  · rfl
  · simp only
    split <;> simp

@[simp] theorem mem_pushRec (r : LogRec) (s : State) : (pushRec r s).mem = s.mem := by
  simp [pushRec]

@[simp] theorem mem_raiseEvCore (n : Nat) (index : Nat) (data : List Nat) (s : State) : (raiseEvCore n index data s).mem = s.mem := by
  simp [raiseEvCore]

@[simp] theorem mem_raiseEv (n : Nat) (index : Nat) (s : State) : (raiseEv n index s).mem = s.mem :=
  (rfl)

@[simp] theorem State.mem_modDie (d : Nat) (f : Die → Die) (s : State) : (State.modDie d f s).mem = s.mem :=
  (rfl)

@[simp] theorem mem_dieEv (d : Nat) (n : Nat) (index : Nat) (s : State) : (dieEv d n index s).mem = s.mem := by
  simp [dieEv]

@[simp] theorem State.mem_modUv (p : Nat) (f : Uv → Uv) (s : State) : (State.modUv p f s).mem = s.mem :=
  (rfl)

@[simp] theorem mem_checkRestarted (p : Nat) (s : State) : (checkRestarted p s).mem = s.mem := by
  simp [checkRestarted]

@[simp] theorem State.mem_modChan (i : Nat) (f : Chan → Chan) (s : State) : (State.modChan i f s).mem = s.mem :=
  (rfl)

@[simp] theorem mem_retargetSoft (g : Nat) (duty : Nat) (old : Nat) (s : State) : (retargetSoft g duty old s).mem = s.mem :=
  (rfl)

@[simp] theorem mem_setPavState (g : Nat) (st : Nat) (s : State) : (setPavState g st s).mem = s.mem := by
  simp [setPavState]

@[simp] theorem mem_goOff (g : Nat) (s : State) : (goOff g s).mem = s.mem :=
  (rfl)

@[simp] theorem mem_enterVetoed (g : Nat) (retry : Bool) (s : State) : (enterVetoed g retry s).mem = s.mem := by
  simp [enterVetoed]

@[simp] theorem mem_setClamp (g : Nat) (duty : Nat) (soft : Bool) (s : State) : (setClamp g duty soft s).mem = s.mem := by
  unfold setClamp
  split <;> rfl

@[simp] theorem mem_turnOn (g : Nat) (soft : Bool) (s : State) : (turnOn g soft s).mem = s.mem := by
  simp [turnOn]

@[simp] theorem mem_turnOnDue (g : Nat) (soft : Bool) (s : State) : (turnOnDue g soft s).mem = s.mem := by
  simp [turnOnDue]

@[simp] theorem mem_safeChannel (g : Nat) (s : State) : (safeChannel g s).mem = s.mem := by
  simp [safeChannel]

@[simp] theorem mem_pavSafeState (p : Nat) (s : State) : (pavSafeState p s).mem = s.mem := by
  simp [pavSafeState]

@[simp] theorem State.mem_modFo (o : Nat) (f : FieldOut → FieldOut) (s : State) : (State.modFo o f s).mem = s.mem :=
  (rfl)

@[simp] theorem mem_setFoState (o : Nat) (st : Nat) (s : State) : (setFoState o st s).mem = s.mem :=
  (rfl)

@[simp] theorem mem_foTurnOff (o : Nat) (c : DemagCause) (s : State) : (foTurnOff o c s).mem = s.mem :=
  (rfl)

@[simp] theorem mem_foTurnOn (o : Nat) (s : State) : (foTurnOn o s).mem = s.mem := by
  simp [foTurnOn]

@[simp] theorem mem_foDemandSet (o : Nat) (on : Bool) (clr : Bool) (s : State) : (foDemandSet o on clr s).mem = s.mem := by
  simp [foDemandSet]

@[simp] theorem mem_foSafe (o : Nat) (s : State) : (foSafe o s).mem = s.mem := by
  unfold foSafe
  split <;> simp

@[simp] theorem mem_foSafeState (b : Nat) (s : State) : (foSafeState b s).mem = s.mem := by
  simp [foSafeState]

@[simp] theorem mem_setSluState (v : Nat) (st : Nat) (s : State) : (setSluState v st s).mem = s.mem :=
  (rfl)

@[simp] theorem State.mem_modValve (v : Nat) (f : Valve → Valve) (s : State) : (State.modValve v f s).mem = s.mem :=
  (rfl)

@[simp] theorem mem_ditherStart (v : Nat) (s : State) : (ditherStart v s).mem = s.mem :=
  (rfl)

@[simp] theorem mem_valveTurnOn (v : Nat) (bounded : Bool) (s : State) : (valveTurnOn v bounded s).mem = s.mem := by
  simp [valveTurnOn]

@[simp] theorem mem_closeKink (v : Nat) (s : State) : (closeKink v s).mem = s.mem := by
  simp [closeKink]

@[simp] theorem mem_releasePeak (v : Nat) (s : State) : (releasePeak v s).mem = s.mem := by
  simp [releasePeak]

@[simp] theorem mem_startDecay (v : Nat) (c : DecayCause) (s : State) : (startDecay v c s).mem = s.mem := by
  simp [startDecay]

@[simp] theorem mem_valveToOff (v : Nat) (s : State) : (valveToOff v s).mem = s.mem :=
  (rfl)

@[simp] theorem mem_safeValve (v : Nat) (s : State) : (safeValve v s).mem = s.mem := by
  simp [safeValve]

@[simp] theorem mem_sluSafeState (b : Nat) (s : State) : (sluSafeState b s).mem = s.mem := by
  simp [sluSafeState]

@[simp] theorem State.mem_modMotor (h : Nat) (f : Motor → Motor) (s : State) : (State.modMotor h f s).mem = s.mem :=
  (rfl)

@[simp] theorem mem_setBrState (h : Nat) (st : Nat) (s : State) : (setBrState h st s).mem = s.mem :=
  (rfl)

@[simp] theorem mem_brPark (h : Nat) (s : State) : (brPark h s).mem = s.mem :=
  (rfl)

@[simp] theorem mem_brBrakeTo (h : Nat) (c : BrakeTo) (s : State) : (brBrakeTo h c s).mem = s.mem :=
  (rfl)

@[simp] theorem mem_brStop (h : Nat) (s : State) : (brStop h s).mem = s.mem := by
  unfold brStop
  split <;> rfl

@[simp] theorem mem_safeMotor (h : Nat) (s : State) : (safeMotor h s).mem = s.mem := by
  simp [safeMotor]

@[simp] theorem mem_brSafeState (g : Nat) (s : State) : (brSafeState g s).mem = s.mem := by
  simp [brSafeState]

@[simp] theorem State.mem_modElem (k : Nat) (f : Elem → Elem) (s : State) : (State.modElem k f s).mem = s.mem :=
  (rfl)

@[simp] theorem mem_ltRelevel (k : Nat) (s : State) : (ltRelevel k s).mem = s.mem := by
  simp [ltRelevel]

@[simp] theorem mem_holdGains (k : Nat) (s : State) : (holdGains k s).mem = s.mem := by
  unfold holdGains
  split
  · refine mem_foldl (fun t i => ?_) _ s
    simp only
    split
    · split <;> simp
    · rfl
  · rfl

@[simp] theorem mem_setLtState (k : Nat) (st : Nat) (s : State) : (setLtState k st s).mem = s.mem :=
  (rfl)

@[simp] theorem mem_clearRun (k : Nat) (s : State) : (clearRun k s).mem = s.mem := by
  refine mem_foldl (fun t j => ?_) _ s
  rfl

@[simp] theorem mem_ltDark (k : Nat) (st : Nat) (s : State) : (ltDark k st s).mem = s.mem := by
  simp [ltDark]

@[simp] theorem mem_ltFadeDown (k : Nat) (a : Nat) (s : State) : (ltFadeDown k a s).mem = s.mem := by
  simp [ltFadeDown]

@[simp] theorem mem_ltLeave (k : Nat) (t s : State) : (ltLeave k t s).mem = t.mem := by
  simp [ltLeave]

@[simp] theorem mem_ltTurnOn (k : Nat) (s : State) : (ltTurnOn k s).mem = s.mem := by
  simp [ltTurnOn]

@[simp] theorem mem_applyLtCmd (k : Nat) (on : Bool) (lvl : Nat) (clr : Bool) (s : State) : (applyLtCmd k on lvl clr s).mem = s.mem := by
  simp [applyLtCmd]

@[simp] theorem mem_safeElem (k : Nat) (s : State) : (safeElem k s).mem = s.mem := by
  simp [safeElem]

@[simp] theorem mem_trSafeState (s : State) : (trSafeState s).mem = s.mem := by
  simp only [trSafeState]
  split
  · simp
  · split <;> simp

@[simp] theorem mem_bankSafe (b : Nat) (s : State) : (bankSafe b s).mem = s.mem := by
  simp [bankSafe]

@[simp] theorem mem_raiseEvData (n : Nat) (index : Nat) (data : List Nat) (s : State) : (raiseEvData n index data s).mem = s.mem :=
  (rfl)

@[simp] theorem mem_reactBank (n : Nat) (b : Nat) (s : State) : (reactBank n b s).mem = s.mem := by
  simp [reactBank]

@[simp] theorem State.mem_modEng (e : Nat) (f : Engine → Engine) (s : State) : (State.modEng e f s).mem = s.mem :=
  (rfl)

@[simp] theorem mem_haltKeepers (s : State) : (haltKeepers s).mem = s.mem := by
  simp [haltKeepers]

@[simp] theorem mem_enterModuleLimp (s : State) : (enterModuleLimp s).mem = s.mem := by
  simp [enterModuleLimp]

@[simp] theorem mem_react (caps : List Nat) (s : State) : (react caps s).mem = s.mem := by
  simp [react]

@[simp] theorem mem_awakeEval (s : State) : (awakeEval s).mem = s.mem := by
  simp [awakeEval]

@[simp] theorem mem_settle (s : State) : (settle s).mem = s.mem := by
  unfold settle
  split <;> simp

@[simp] theorem mem_withSeq (b : Barge) (s : State) : (withSeq b s).2.mem = s.mem :=
  (rfl)

@[simp] theorem State.mem_modPort (p : Nat) (f : AqPort → AqPort) (s : State) : (State.modPort p f s).mem = s.mem :=
  (rfl)

@[simp] theorem mem_queueBarge (p : Nat) (b : Barge) (s : State) : (queueBarge p b s).mem = s.mem := by
  unfold queueBarge
  split <;> simp

@[simp] theorem mem_dropBarge (b : Barge) (s : State) : (dropBarge b s).mem = s.mem :=
  (rfl)

@[simp] theorem mem_routeBarge (b : Barge) (s : State) : (routeBarge b s).mem = s.mem := by
  unfold routeBarge
  split <;> simp

@[simp] theorem mem_spreadBarge (b : Barge) (skip : Option Nat) (s : State) : (spreadBarge b skip s).mem = s.mem := by
  simp [spreadBarge]

@[simp] theorem mem_sendBarge (b : Barge) (s : State) : (sendBarge b s).mem = s.mem := by
  simp [sendBarge]

@[simp] theorem mem_sendTunnel (dst : Nat) (bytes : List Nat) (s : State) : (sendTunnel dst bytes s).mem = s.mem := by
  simp [sendTunnel]

@[simp] theorem State.mem_modHost (m : Nat) (f : HostPath → HostPath) (s : State) : (State.modHost m f s).mem = s.mem :=
  (rfl)

@[simp] theorem State.mem_send (o : Out) (s : State) : (State.send o s).mem = s.mem :=
  (rfl)

@[simp] theorem mem_sendFrame (m : Nat) (dst : Nat) (typ : Nat) (ref : Nat) (payload : List Nat) (s : State) : (sendFrame m dst typ ref payload s).mem = s.mem := by
  simp [sendFrame]

@[simp] theorem mem_nak (m : Nat) (ref : Nat) (reason : Nat) (detail : Nat) (s : State) : (nak m ref reason detail s).mem = s.mem := by
  simp [nak]

@[simp] theorem mem_forwardFrame (m : Nat) (h : HostHdr) (s : State) : (forwardFrame m h s).mem = s.mem := by
  simp [forwardFrame]

@[simp] theorem mem_leaveMode (s : State) : (leaveMode s).mem = s.mem := by
  simp [leaveMode]

@[simp] theorem mem_onSessionEnd (m : Nat) (s : State) : (onSessionEnd m s).mem = s.mem := by
  simp [onSessionEnd]

@[simp] theorem mem_endSession (m : Nat) (s : State) : (endSession m s).mem = s.mem := by
  simp [endSession]

@[simp] theorem memOk_admitted (m : Nat) (k : CmdKind) (h : HostHdr) (run : State → State)
    (hr : ∀ t, Memory.wf t.mem = true → Memory.wf (run t).mem = true) (s : State) (hm : Memory.wf s.mem = true) :
    Memory.wf (admitted m k h run s).mem = true := by
  simp [admitted, hm, hr]

@[simp] theorem mem_acceptCommand (m : Nat) (h : HostHdr) (s : State) : (acceptCommand m h s).mem = s.mem := by
  simp [acceptCommand]

@[simp] theorem memOk_served (k : CmdKind) (h : HostHdr) (run : State → State)
    (hr : ∀ t, Memory.wf t.mem = true → Memory.wf (run t).mem = true) (s : State) (hm : Memory.wf s.mem = true) :
    Memory.wf (served k h run s).mem = true := by
  unfold served
  split
  · simp [hm]
  · simp only
    split
    · simp [hm]
    · exact memOk_admitted _ _ _ run hr _ (by simp [hm])

@[simp] theorem mem_busError (m : Nat) (full : Nat) (write : Bool) (kind : Nat) (s : State) : (busError m full write kind s).mem = s.mem := by
  simp [busError]

@[simp] theorem mem_raiseFaultCore (n : Nat) (s : State) : (raiseFaultCore n s).mem = s.mem := by
  simp [raiseFaultCore]

@[simp] theorem mem_raiseFault (n : Nat) (s : State) : (raiseFault n s).mem = s.mem :=
  (rfl)

@[simp] theorem State.mem_modCu (u : Nat) (f : Cu → Cu) (s : State) : (State.modCu u f s).mem = s.mem :=
  (rfl)

@[simp] theorem mem_cuArm (u : Nat) (s : State) : (cuArm u s).mem = s.mem :=
  (rfl)

@[simp] theorem mem_cuResult (u : Nat) (s : State) : (cuResult u s).mem = s.mem := by
  simp [cuResult]

@[simp] theorem mem_cuTake (u : Nat) (bytes : List Nat) (s : State) : (cuTake u bytes s).mem = s.mem := by
  simp [cuTake]

@[simp] theorem mem_cuBus (write : Bool) (a : Nat) (v : Word) (s : State) : (cuBus write a v s).mem = s.mem := by
  simp [cuBus]

@[simp] theorem mem_readLatch (r : RegRow) (s : State) : (readLatch r s).mem = s.mem := by
  simp [readLatch]

@[simp] theorem mem_privViol (m : Nat) (full : Nat) (s : State) : (privViol m full s).mem = s.mem := by
  simp [privViol]

@[simp] theorem mem_readRow (m : Nat) (full : Nat) (r : RegRow) (i : Nat) (s : State) : (readRow m full r i s).2.mem = s.mem := by
  simp [readRow]

@[simp] theorem State.mem_modBank (b : Nat) (f : Bank → Bank) (s : State) : (State.modBank b f s).mem = s.mem :=
  (rfl)

@[simp] theorem mem_limpExpires (b : Nat) (s : State) : (limpExpires b s).mem = s.mem := by
  simp [limpExpires]

@[simp] theorem mem_syncEnable (n : Nat) (s : State) : (syncEnable n s).mem = s.mem :=
  (rfl)

@[simp] theorem mem_pavDisable (p : Nat) (s : State) : (pavDisable p s).mem = s.mem := by
  simp [pavDisable]

@[simp] theorem mem_sluAllOff (b : Nat) (s : State) : (sluAllOff b s).mem = s.mem := by
  simp [sluAllOff]

@[simp] theorem mem_foDisable (o : Nat) (s : State) : (foDisable o s).mem = s.mem := by
  simp [foDisable]

@[simp] theorem mem_foBankOff (b : Nat) (s : State) : (foBankOff b s).mem = s.mem := by
  simp [foBankOff]

@[simp] theorem mem_brDisable (h : Nat) (s : State) : (brDisable h s).mem = s.mem := by
  simp [brDisable]

@[simp] theorem mem_brGroupOff (g : Nat) (s : State) : (brGroupOff g s).mem = s.mem := by
  simp [brGroupOff]

@[simp] theorem mem_lightDisable (s : State) : (lightDisable s).mem = s.mem := by
  simp [lightDisable]

@[simp] theorem State.mem_modRail (n : Nat) (f : CamRail → CamRail) (s : State) : (State.modRail n f s).mem = s.mem :=
  (rfl)

@[simp] theorem mem_railOff (n : Nat) (s : State) : (railOff n s).mem = s.mem :=
  (rfl)

@[simp] theorem mem_railsOff (s : State) : (railsOff s).mem = s.mem :=
  mem_foldl (fun t n => mem_railOff n t) _ s

@[simp] theorem mem_bankOffService (b : Nat) (n : Nat) (s : State) : (bankOffService b n s).mem = s.mem := by
  simp [bankOffService]

@[simp] theorem mem_takeEnable (b : Nat) (n : Nat) (s : State) : (takeEnable b n s).mem = s.mem := by
  simp [takeEnable]

@[simp] theorem mem_railStart (n : Nat) (s : State) : (railStart n s).mem = s.mem :=
  (rfl)

@[simp] theorem mem_railDue (n : Nat) (s : State) : (railDue n s).mem = s.mem := by
  simp [railDue]

@[simp] theorem mem_railsOn (s : State) : (railsOn s).mem = s.mem := by
  simp [railsOn]

@[simp] theorem mem_pavEnable (p : Nat) (s : State) : (pavEnable p s).mem = s.mem := by
  simp [pavEnable]

@[simp] theorem mem_sluAllOn (b : Nat) (bounded : Bool) (s : State) : (sluAllOn b bounded s).mem = s.mem := by
  refine mem_foldl (fun t v => ?_) _ s
  cases h : (t.valve v).cause <;> simp

@[simp] theorem mem_brEnterRun (h : Nat) (rev : Bool) (s : State) : (brEnterRun h rev s).mem = s.mem :=
  (rfl)

@[simp] theorem mem_brTurnOn (h : Nat) (rev : Bool) (s : State) : (brTurnOn h rev s).mem = s.mem := by
  simp [brTurnOn]

@[simp] theorem mem_lightAllOn (s : State) : (lightAllOn s).mem = s.mem :=
  mem_foldl (fun t k => by simp) _ s

@[simp] theorem mem_bankFirstClaim (b : Nat) (s : State) : (bankFirstClaim b s).mem = s.mem := by
  simp [bankFirstClaim]

@[simp] theorem mem_writeBack (h : Nat) (s : State) : (writeBack h s).mem = s.mem := by
  simp [writeBack]

@[simp] theorem mem_brUnmoor (g : Nat) (s : State) : (brUnmoor g s).mem = s.mem := by
  simp [brUnmoor]

@[simp] theorem mem_doRetry (g : Nat) (s : State) : (doRetry g s).mem = s.mem := by
  simp [doRetry]

@[simp] theorem mem_heldRetry (g : Nat) (s : State) : (heldRetry g s).mem = s.mem := by
  simp [heldRetry]

@[simp] theorem mem_pavUnmoor (p : Nat) (s : State) : (pavUnmoor p s).mem = s.mem := by
  simp [pavUnmoor]

@[simp] theorem mem_foUnmoor (b : Nat) (s : State) : (foUnmoor b s).mem = s.mem := by
  simp [foUnmoor]

@[simp] theorem mem_lightUnmoor (s : State) : (lightUnmoor s).mem = s.mem := by
  have h : (s.trellis.savedGains.foldl (fun t e =>
      State.setFld (LOOP_STAT (e.1 / 3) (e.1 % 3)) LOOP_STAT_GAIN e.2 t) s).mem = s.mem :=
    mem_foldl (fun t e => State.mem_setFld _ _ _ t) _ s
  simp [lightUnmoor, h]

@[simp] theorem mem_bankUnmoor (b : Nat) (s : State) : (bankUnmoor b s).mem = s.mem := by
  simp [bankUnmoor]

@[simp] theorem mem_foResume (b : Nat) (s : State) : (foResume b s).mem = s.mem := by
  simp [foResume]

@[simp] theorem State.mem_modMch (g : Nat) (f : MeasCh → MeasCh) (s : State) : (State.modMch g f s).mem = s.mem :=
  (rfl)

@[simp] theorem mem_copyHh (g : Nat) (s : State) : (copyHh g s).mem = s.mem := by
  simp [copyHh]

@[simp] theorem mem_deliver (h : Held) (s : State) : (deliver h s).mem = s.mem := by
  unfold deliver
  split <;> rfl

@[simp] theorem mem_deliverHeld (d : Nat) (s : State) : (deliverHeld d s).mem = s.mem := by
  simp [deliverHeld]

@[simp] theorem mem_limpReports (b : Nat) (s : State) : (limpReports b s).mem = s.mem := by
  simp [limpReports]

@[simp] theorem mem_claimBank (b : Nat) (s : State) : (claimBank b s).mem = s.mem := by
  simp [claimBank]

@[simp] theorem mem_claimTaken (b : Nat) (s : State) : (claimTaken b s).mem = s.mem := by
  simp [claimTaken]

@[simp] theorem mem_dropDiag (p : Nat) (s : State) : (dropDiag p s).mem = s.mem := by
  refine mem_foldl (fun t k => ?_) _ s
  rfl

@[simp] theorem mem_pavMoor (p : Nat) (s : State) : (pavMoor p s).mem = s.mem := by
  simp [pavMoor]

@[simp] theorem mem_foMoor (b : Nat) (s : State) : (foMoor b s).mem = s.mem := by
  simp [foMoor]

@[simp] theorem mem_sluMoor (b : Nat) (s : State) : (sluMoor b s).mem = s.mem := by
  simp [sluMoor]

@[simp] theorem mem_brMoor (g : Nat) (s : State) : (brMoor g s).mem = s.mem := by
  simp [brMoor]

@[simp] theorem mem_trStop (st : Nat) (s : State) : (trStop st s).mem = s.mem :=
  (rfl)

@[simp] theorem mem_lightMoor (s : State) : (lightMoor s).mem = s.mem := by
  simp [lightMoor]

@[simp] theorem mem_dieMoor (d : Nat) (s : State) : (dieMoor d s).mem = s.mem := by
  simp [dieMoor]

@[simp] theorem mem_consumeCommand (i : Nat) (w : Word) (s : State) : (consumeCommand i w s).mem = s.mem := by
  simp [consumeCommand]

@[simp] theorem mem_staticClamp (g : Nat) (s : State) : (staticClamp g s).mem = s.mem := by
  simp [staticClamp]

@[simp] theorem mem_applyPavCmd (ch : Nat) (on : Bool) (duty : Nat) (clr : Bool) (s : State) : (applyPavCmd ch on duty clr s).mem = s.mem := by
  simp [applyPavCmd]

@[simp] theorem mem_undoTurnOn (ch : Nat) (w : Word) (s : State) : (undoTurnOn ch w s).mem = s.mem := by
  simp [undoTurnOn]

@[simp] theorem mem_applySluCmd (v : Nat) (on : Bool) (setpt : Nat) (clr : Bool) (s : State) : (applySluCmd v on setpt clr s).mem = s.mem := by
  simp [applySluCmd]

@[simp] theorem mem_brRetarget (h : Nat) (d : Nat) (s : State) : (brRetarget h d s).mem = s.mem :=
  (rfl)

@[simp] theorem mem_gotoStop (h : Nat) (s : State) : (gotoStop h s).mem = s.mem := by
  simp [gotoStop]

@[simp] theorem mem_brPend (h : Nat) (rev : Bool) (s : State) : (brPend h rev s).mem = s.mem :=
  (rfl)

@[simp] theorem mem_brReact (h : Nat) (clr : Bool) (s : State) (t : State) : (brReact h clr s t).mem = t.mem := by
  simp [brReact]

@[simp] theorem mem_applyBrCmd (same : Bool) (h : Nat) (w : Word) (clr : Bool) (s : State) : (applyBrCmd same h w clr s).mem = s.mem := by
  simp [applyBrCmd]

@[simp] theorem mem_trLclr (s : State) : (trLclr s).mem = s.mem := by
  simp [trLclr]

@[simp] theorem mem_applyTrCmd (run : Bool) (show' : Bool) (lclr : Bool) (s : State) : (applyTrCmd run show' lclr s).mem = s.mem := by
  simp [applyTrCmd]

@[simp] theorem mem_foEnterLimp (o : Nat) (s : State) : (foEnterLimp o s).mem = s.mem := by
  simp [foEnterLimp]

@[simp] theorem mem_dieFault (d : Nat) (n : Nat) (s : State) : (dieFault d n s).mem = s.mem := by
  simp [dieFault]

@[simp] theorem mem_foOwnerSafe (o : Nat) (s : State) : (foOwnerSafe o s).mem = s.mem := by
  simp [foOwnerSafe]

@[simp] theorem mem_foOwnerSettle (o : Nat) (s : State) : (foOwnerSettle o s).mem = s.mem := by
  simp only [foOwnerSettle, mem_ite, mem_dieEv, State.mem_modFo, State.mem_setFlag, ite_self]
  split
  · simp only [mem_ite, mem_foOwnerSafe, ite_self]
    split <;> simp
  · split <;> simp

@[simp] theorem mem_applyFoCmd (taken : Bool) (c : Nat) (o : Nat) (on : Bool) (clr : Bool) (s : State) : (applyFoCmd taken c o on clr s).mem = s.mem := by
  simp [applyFoCmd]

@[simp] theorem mem_applyCommand (same : Bool) (m : Nat) (i : Nat) (w : Word) (s : State) : (applyCommand same m i w s).mem = s.mem := by
  simp [applyCommand]

@[simp] theorem mem_applyImmediate (cv : Nat) (w : LockWrite) (s : State) : (applyImmediate cv w s).mem = s.mem := by
  simp [applyImmediate]

@[simp] theorem State.mem_modCv (cv : Nat) (f : Culvert → Culvert) (s : State) : (State.modCv cv f s).mem = s.mem :=
  (rfl)

@[simp] theorem mem_takeDown (cv : Nat) (p : Payload) (s : State) : (takeDown cv p s).mem = s.mem := by
  unfold takeDown
  split <;> simp

@[simp] theorem mem_modLane (cv : Nat) (toDie : Bool) (f : Lane → Lane) (s : State) : (modLane cv toDie f s).mem = s.mem :=
  (rfl)

@[simp] theorem mem_drainLane (cv : Nat) (s : State) : (drainLane cv s).mem = s.mem := by
  simp [drainLane]

@[simp] theorem mem_framesFirst (dies : List Nat) (s : State) : (framesFirst dies s).mem = s.mem := by
  simp [framesFirst]

@[simp] theorem mem_keepRisen (s : State) (r : RegRow) (i : Nat) (t : State) : (keepRisen s r i t).mem = t.mem :=
  (rfl)

@[simp] theorem mem_dieHeard (dies : List Nat) (s : State) : (dieHeard dies s).mem = s.mem := by
  simp [dieHeard]

@[simp] theorem mem_busReadIn (same : Bool) (m : Nat) (full : Nat) (s : State) : (busReadIn same m full s).st.mem = s.mem := by
  simp only [busReadIn]
  split
  · simp
  split
  · simp
  split
  · simp
  · split <;> simp

@[simp] theorem mem_respond (m : Nat) (code : Nat) (ref : Nat) (payload : List Nat) (s : State) : (respond m code ref payload s).mem = s.mem := by
  simp [respond]

@[simp] theorem memOk_hostReadNow (h : HostHdr) (addr : Word) (s : State) (hm : Memory.wf s.mem = true) :
    Memory.wf (hostReadNow h addr s).mem = true := by
  simp [hostReadNow, hm]

@[simp] theorem mem_storeCan (m : Nat) (full : Nat) (off : Nat) (v : Word) (s : State) : (storeCan m full off v s).mem = s.mem :=
  (rfl)

@[simp] theorem mem_countCoincident (full : Nat) (r : RegRow) (i : Nat) (v : Word) (s : State) (t : State) : (countCoincident full r i v s t).mem = t.mem := by
  refine mem_foldl (fun t f => ?_) _ t
  split
  · rfl
  · simp

@[simp] theorem mem_requestCheck (n : Nat) (s : State) : (requestCheck n s).mem = s.mem := by
  simp [requestCheck]

@[simp] theorem mem_answerAskers (n : Nat) (result : Nat) (code : Nat) (s : State) : (answerAskers n result code s).mem = s.mem := by
  simp [answerAskers]

@[simp] theorem mem_checkResult (n : Nat) (result : Nat) (code : Nat) (detail : Nat) (s : State) : (checkResult n result code detail s).mem = s.mem := by
  simp [checkResult]

@[simp] theorem mem_brAllOff (s : State) : (brAllOff s).mem = s.mem := by
  simp [brAllOff]

@[simp] theorem mem_foAllOff (s : State) : (foAllOff s).mem = s.mem := by
  simp [foAllOff]

@[simp] theorem mem_noteOff (n : Nat) (s : State) : (noteOff n s).mem = s.mem :=
  (rfl)

@[simp] theorem State.mem_drawn (s : State) : (State.drawn s).mem = s.mem :=
  (rfl)

@[simp] theorem mem_lfOff (a : Nat) (s : State) : (lfOff a s).mem = s.mem := by
  simp [lfOff]

@[simp] theorem mem_lfStop (s : State) : (lfStop s).mem = s.mem := by
  simp [lfStop]

@[simp] theorem mem_freeToken (n : Nat) (s : State) : (freeToken n s).mem = s.mem := by
  simp [freeToken]

@[simp] theorem mem_gateClose (s : State) : (gateClose s).mem = s.mem := by
  simp [gateClose]

@[simp] theorem mem_lfCarrier (m : Nat) (on : Bool) (s : State) : (lfCarrier m on s).mem = s.mem := by
  simp [lfCarrier]

@[simp] theorem mem_gateAbandon (s : State) : (gateAbandon s).mem = s.mem := by
  simp [gateAbandon]

@[simp] theorem mem_gateDisable (s : State) : (gateDisable s).mem = s.mem := by
  simp [gateDisable]

@[simp] theorem mem_disableEffect (n : Nat) (s : State) : (disableEffect n s).mem = s.mem := by
  unfold disableEffect
  split <;> simp

@[simp] theorem mem_setEnable (n : Nat) (b : Bool) (s : State) : (setEnable n b s).mem = s.mem :=
  (rfl)

@[simp] theorem mem_cancelAccepted (n : Nat) (s : State) : (cancelAccepted n s).mem = s.mem := by
  simp [cancelAccepted]

@[simp] theorem mem_dropCheck (n : Nat) (s : State) : (dropCheck n s).mem = s.mem :=
  (rfl)

@[simp] theorem mem_writeZero (n : Nat) (s : State) : (writeZero n s).2.mem = s.mem := by
  unfold writeZero
  split
  · split <;> simp
  · split <;> simp

@[simp] theorem mem_enableBits (same : Bool) (full : Nat) (v : Word) (ns : List Nat) (s : State) : (enableBits same full v ns s).2.mem = s.mem := by
  induction ns generalizing s with
  | nil => rfl
  | cons n rest ih =>
    simp only [enableBits, ih]
    split
    · rfl
    · split <;> simp
    · split <;> simp

@[simp] theorem mem_logOther (r : LogRec) (s : State) : (logOther r s).mem = s.mem :=
  (rfl)

@[simp] theorem mem_lockViol (m : Nat) (full : Nat) (v : Word) (s : State) : (lockViol m full v s).mem = s.mem := by
  simp [lockViol]

@[simp] theorem mem_writeEnable (same : Bool) (m : Nat) (full : Nat) (v : Word) (s : State) : (writeEnable same m full v s).mem = s.mem := by
  simp [writeEnable]

@[simp] theorem mem_writeRow (m : Nat) (full : Nat) (r : RegRow) (i : Nat) (v : Word) (s : State) : (writeRow m full r i v s).mem = s.mem := by
  simp [writeRow]

@[simp] theorem mem_onKder (w : Nat) (v : Word) (s : State) : (onKder w v s).mem = s.mem := by
  simp [onKder]

@[simp] theorem mem_storeKder (m : Nat) (full : Nat) (r : RegRow) (i : Nat) (v : Word) (s : State) : (storeKder m full r i v s).mem = s.mem := by
  simp [storeKder]

@[simp] theorem mem_clearKeeper (k : Nat) (s : State) : (clearKeeper k s).mem = s.mem := by
  simp [clearKeeper]

@[simp] theorem mem_cuFlash (a : Nat) (bytes : List Nat) (s : State) : (cuFlash a bytes s).mem = s.mem := by
  simp [cuFlash]

@[simp] theorem mem_flashRead (a : Nat) (n : Nat) (s : State) : (flashRead a n s).mem = s.mem := by
  simp [flashRead]

@[simp] theorem State.memOk_setByte (k : Nat) (b : Byte) (s : State) (hm : Memory.wf s.mem = true) :
    Memory.wf (State.setByte k b s).mem = true :=
  State.setByte_wf s k b hm

@[simp] theorem State.memOk_copyBytes (src : Nat) (dst : Nat) (n : Nat) (s : State) (hm : Memory.wf s.mem = true) :
    Memory.wf (State.copyBytes src dst n s).mem = true := by
  induction n generalizing src dst s with
  | zero => exact hm
  | succ n ih => exact ih _ _ _ (State.setByte_wf s dst _ hm)

@[simp] theorem State.memOk_clearRange (k : Nat) (n : Nat) (s : State) (hm : Memory.wf s.mem = true) :
    Memory.wf (State.clearRange k n s).mem = true :=
  Tab.wf_filter memDefault _ s.mem hm

@[simp] theorem memOk_reloadData (k : Nat) (s : State) (hm : Memory.wf s.mem = true) :
    Memory.wf (reloadData k s).mem = true := by
  simp [reloadData, hm]

@[simp] theorem memOk_restartKeeper (k : Nat) (keep : Bool) (s : State) (hm : Memory.wf s.mem = true) :
    Memory.wf (restartKeeper k keep s).mem = true := by
  simp [restartKeeper, hm]

@[simp] theorem State.mem_modCan (c : Nat) (f : CanCtl → CanCtl) (s : State) : (State.modCan c f s).mem = s.mem :=
  (rfl)

@[simp] theorem mem_rdEnter (c : Nat) (s : State) : (rdEnter c s).mem = s.mem :=
  (rfl)

@[simp] theorem mem_boStart (c : Nat) (s : State) : (boStart c s).mem = s.mem := by
  simp [boStart]

@[simp] theorem mem_onCanCtrl (full : Nat) (c : Nat) (v : Word) (old : Word) (s : State) : (onCanCtrl full c v old s).mem = s.mem := by
  simp [onCanCtrl]

@[simp] theorem mem_canCancel (c : Nat) (n : Nat) (s : State) : (canCancel c n s).mem = s.mem := by
  simp [canCancel]

@[simp] theorem State.mem_modLin (ch : Nat) (f : LinCtl → LinCtl) (s : State) : (State.modLin ch f s).mem = s.mem :=
  (rfl)

@[simp] theorem mem_onLinSched (ch : Nat) (old : Nat) (new : Nat) (s : State) : (onLinSched ch old new s).mem = s.mem := by
  simp [onLinSched]

@[simp] theorem mem_setLstate (p : Nat) (x : Nat) (s : State) : (setLstate p x s).mem = s.mem :=
  (rfl)

@[simp] theorem mem_installRoute (t : Tab LinkState) (a : Nat) (s : State) : (installRoute t a s).mem = s.mem := by
  simp only [installRoute]
  split <;> simp

@[simp] theorem mem_showLoads (s : State) : (showLoads s).mem = s.mem :=
  (rfl)

@[simp] theorem mem_installRoutes (s : State) : (installRoutes s).mem = s.mem := by
  simp [installRoutes]

@[simp] theorem mem_recover (s : State) : (recover s).mem = s.mem := by
  simp [recover]

@[simp] theorem mem_floodBarge (b : Barge) (skip : Option Nat) (s : State) : (floodBarge b skip s).mem = s.mem := by
  simp [floodBarge]

@[simp] theorem mem_floodLinks (s : State) : (floodLinks s).mem = s.mem := by
  simp [floodLinks]

@[simp] theorem mem_portFalls (p : Nat) (s : State) : (portFalls p s).mem = s.mem := by
  simp [portFalls]

@[simp] theorem mem_linkLost (p : Nat) (phyLost : Bool) (s : State) : (linkLost p phyLost s).mem = s.mem := by
  simp [linkLost]

@[simp] theorem mem_onPortEn (p : Nat) (was : Bool) (s : State) : (onPortEn p was s).mem = s.mem := by
  simp [onPortEn]

@[simp] theorem mem_driftDay (g : Nat) (mean : Nat) (s : State) : (driftDay g mean s).mem = s.mem := by
  simp [driftDay]

@[simp] theorem mem_learnDay (g : Nat) (mean : Nat) (s : State) : (learnDay g mean s).mem = s.mem := by
  simp [learnDay]

@[simp] theorem mem_closeChannel (g : Nat) (s : State) : (closeChannel g s).mem = s.mem := by
  simp [closeChannel]

@[simp] theorem mem_closeDay (s : State) : (closeDay s).mem = s.mem := by
  simp [closeDay]

@[simp] theorem mem_startLearn (g : Nat) (s : State) : (startLearn g s).mem = s.mem :=
  (rfl)

@[simp] theorem mem_onHhcmd (full : Nat) (v : Word) (s : State) : (onHhcmd full v s).mem = s.mem := by
  simp [onHhcmd]

@[simp] theorem mem_onHhcfg (g : Nat) (old : Word) (s : State) : (onHhcfg g old s).mem = s.mem := by
  simp [onHhcfg]

@[simp] theorem mem_onEvpend (g : Nat) (old : Word) (s : State) : (onEvpend g old s).mem = s.mem := by
  simp [onEvpend]

@[simp] theorem mem_releaseErrn (s : State) : (releaseErrn s).mem = s.mem := by
  simp [releaseErrn]

@[simp] theorem memOk_restartKeepers (s : State) (hm : Memory.wf s.mem = true) :
    Memory.wf (restartKeepers s).mem = true := by
  refine memOk_foldl (fun t k ht => ?_) _ s hm
  split <;> simp [ht]

@[simp] theorem memOk_leaveModuleLimp (m : Nat) (full : Nat) (v : Word) (s : State) (hm : Memory.wf s.mem = true) :
    Memory.wf (leaveModuleLimp m full v s).mem = true := by
  simp [leaveModuleLimp, hm]

@[simp] theorem mem_gateRefuse (r : Nat) (s : State) : (gateRefuse r s).mem = s.mem :=
  (rfl)

@[simp] theorem mem_lfSend (m : Nat) (frame : List Bool) (s : State) : (lfSend m frame s).mem = s.mem := by
  simp [lfSend]

@[simp] theorem mem_gateStart (s : State) : (gateStart s).mem = s.mem := by
  simp [gateStart]

@[simp] theorem mem_gateGo (m : Nat) (s : State) : (gateGo m s).mem = s.mem := by
  unfold gateGo
  split
  · simp
  · split <;> simp

@[simp] theorem mem_drawNonce (s : State) : (drawNonce s).mem = s.mem :=
  (rfl)

@[simp] theorem mem_enterMode (m : Nat) (x : Nat) (s : State) : (enterMode m x s).mem = s.mem :=
  (rfl)

@[simp] theorem mem_onModeReq (m : Nat) (x : Nat) (s : State) : (onModeReq m x s).mem = s.mem := by
  simp [onModeReq]

@[simp] theorem mem_revokeToken (n : Nat) (s : State) : (revokeToken n s).mem = s.mem := by
  simp [revokeToken]

@[simp] theorem mem_onGateMode (m : Nat) (full : Nat) (v : Word) (s : State) : (onGateMode m full v s).mem = s.mem := by
  simp [onGateMode]

@[simp] theorem mem_startDelay (s : State) : (startDelay s).mem = s.mem := by
  simp [startDelay]

@[simp] theorem mem_gateFailed (s : State) : (gateFailed s).mem = s.mem := by
  simp [gateFailed]

@[simp] theorem mem_submitCode (m : Nat) (hi : Nat) (s : State) : (submitCode m hi s).mem = s.mem := by
  simp [submitCode]

@[simp] theorem mem_onEol (s : State) : (onEol s).mem = s.mem := by
  simp [onEol]

@[simp] theorem State.mem_modDom (d : Nat) (f : Domain → Domain) (s : State) : (State.modDom d f s).mem = s.mem :=
  (rfl)

@[simp] theorem mem_domBit (d : Nat) (old : Bool) (new : Bool) (s : State) : (domBit d old new s).mem = s.mem := by
  simp [domBit]

@[simp] theorem mem_onDomoff (m : Nat) (full : Nat) (old : Nat) (v : Word) (s : State) : (onDomoff m full old v s).mem = s.mem := by
  simp [onDomoff]

@[simp] theorem memOk_lodgeHook (m : Nat) (full : Nat) (base : Nat) (i : Nat) (v : Word) (old : Word) (s : State) (hm : Memory.wf s.mem = true) :
    Memory.wf (lodgeHook m full base i v old s).mem = true := by
  simp [lodgeHook, hm]

@[simp] theorem mem_setResState (x : Nat) (s : State) : (setResState x s).mem = s.mem :=
  (rfl)

@[simp] theorem mem_enterRide (s : State) : (enterRide s).mem = s.mem := by
  simp [enterRide]

@[simp] theorem mem_setBoost (s : State) : (setBoost s).mem = s.mem :=
  (rfl)

@[simp] theorem mem_resTo (x : Nat) (s : State) : (resTo x s).mem = s.mem := by
  simp [resTo]

@[simp] theorem mem_resLevel (s : State) : (resLevel s).mem = s.mem := by
  simp [resLevel]

@[simp] theorem mem_onBoostEn (new : Bool) (s : State) : (onBoostEn new s).mem = s.mem := by
  simp [onBoostEn]

@[simp] theorem mem_onRailVset (n : Nat) (now : Nat) (s : State) : (onRailVset n now s).mem = s.mem := by
  simp [onRailVset]

@[simp] theorem mem_onRailEn (n : Nat) (old : Bool) (new : Bool) (s : State) : (onRailEn n old new s).mem = s.mem := by
  simp [onRailEn]

@[simp] theorem mem_onRailCfg (n : Nat) (now : Nat) (old : Word) (s : State) : (onRailCfg n now old s).mem = s.mem := by
  simp [onRailCfg]

@[simp] theorem mem_onTbase (was : Bool) (s : State) : (onTbase was s).mem = s.mem := by
  simp [onTbase]

@[simp] theorem mem_vetoCleared (g : Nat) (s : State) : (vetoCleared g s).mem = s.mem := by
  simp [vetoCleared]

@[simp] theorem mem_latchState (g : Nat) (c : LatchCause) (s : State) : (latchState g c s).mem = s.mem :=
  (rfl)

@[simp] theorem mem_checkEndured (g : Nat) (s : State) : (checkEndured g s).mem = s.mem := by
  simp [checkEndured]

@[simp] theorem mem_latchFirst (g : Nat) (c : LatchCause) (s : State) : (latchFirst g c s).mem = s.mem := by
  simp only [latchFirst]
  split <;> simp

@[simp] theorem mem_latchToo (g : Nat) (c : LatchCause) (s : State) : (latchToo g c s).mem = s.mem := by
  simp only [latchToo]
  split <;> simp

@[simp] theorem mem_latch (g : Nat) (c : LatchCause) (s : State) : (latch g c s).mem = s.mem := by
  simp [latch]

@[simp] theorem mem_wireTrip (g : Nat) (s : State) : (wireTrip g s).mem = s.mem := by
  simp [wireTrip]

@[simp] theorem mem_wireTick (g : Nat) (i2 : Nat) (s : State) : (wireTick g i2 s).mem = s.mem := by
  simp [wireTick]

@[simp] theorem mem_onWire (g : Nat) (old : Word) (s : State) : (onWire g old s).mem = s.mem := by
  simp [onWire]

@[simp] theorem mem_onUvseen (same : Bool) (full : Nat) (c : Nat) (v : Word) (s : State) : (onUvseen same full c v s).mem = s.mem := by
  simp [onUvseen]

@[simp] theorem mem_supplyRestart (b : Nat) (s : State) : (supplyRestart b s).mem = s.mem := by
  simp [supplyRestart]

@[simp] theorem mem_onBclr (b : Nat) (s : State) : (onBclr b s).mem = s.mem := by
  simp [onBclr]

@[simp] theorem mem_posWritten (h : Nat) (s : State) : (posWritten h s).mem = s.mem := by
  simp [posWritten]

@[simp] theorem mem_setWoken (t : Nat) (b : Bool) (s : State) : (setWoken t b s).mem = s.mem :=
  (rfl)

@[simp] theorem mem_setXcv (t : Nat) (x : Nat) (s : State) : (setXcv t x s).mem = s.mem := by
  simp [setXcv]

@[simp] theorem mem_onXcvWrite (t : Nat) (send : Bool) (req : Bool) (s : State) : (onXcvWrite t send req s).mem = s.mem := by
  simp [onXcvWrite]

@[simp] theorem mem_dieHook (same : Bool) (full : Nat) (base : Nat) (i : Nat) (now : Nat) (v : Word) (old : Word) (was : Bool) (s : State) : (dieHook same full base i now v old was s).mem = s.mem := by
  simp [dieHook]

@[simp] theorem memOk_storeRow (same : Bool) (m : Nat) (full : Nat) (r : RegRow) (i : Nat) (v : Word) (s : State) (hm : Memory.wf s.mem = true) :
    Memory.wf (storeRow same m full r i v s).mem = true := by
  simp only [storeRow]
  split
  · simp [hm]
  split
  · simp [hm]
  split <;> simp [hm]

@[simp] theorem memOk_copyComp (c : Comp) (s : State) (hm : Memory.wf s.mem = true) :
    Memory.wf (copyComp c s).mem = true := by
  simp [copyComp, hm]

@[simp] theorem memOk_copyComps (s : State) (hm : Memory.wf s.mem = true) :
    Memory.wf (copyComps s).mem = true :=
  memOk_foldl (fun t c ht => memOk_copyComp c t ht) _ s hm

@[simp] theorem mem_sendRecord (s : State) : (sendRecord s).mem = s.mem := by
  simp [sendRecord]

@[simp] theorem mem_updTo (st : Nat) (reason : Nat) (detail : Nat) (s : State) : (updTo st reason detail s).mem = s.mem := by
  simp [updTo]

@[simp] theorem State.memOk_setBytesLE (k : Nat) (n : Nat) (v : Nat) (s : State) (hm : Memory.wf s.mem = true) :
    Memory.wf (State.setBytesLE k n v s).mem = true :=
  State.setBytesLE_wf s k n v hm

@[simp] theorem memOk_writeBoot (s : State) (hm : Memory.wf s.mem = true) :
    Memory.wf (writeBoot s).mem = true := by
  simp only [writeBoot]
  exact State.setBytesLE_wf _ _ _ _ (State.setBytesLE_wf _ _ _ _ (State.setBytesLE_wf _ _ _ _ hm))

@[simp] theorem memOk_activate (typ : Nat) (s : State) (hm : Memory.wf s.mem = true) :
    Memory.wf (activate typ s).mem = true := by
  simp [activate, hm]

@[simp] theorem mem_abortUpdate (s : State) : (abortUpdate s).mem = s.mem := by
  simp [abortUpdate]

@[simp] theorem mem_setInBit (base : Nat) (j : Nat) (b : Bool) (s : State) : (setInBit base j b s).mem = s.mem :=
  (rfl)

@[simp] theorem mem_dropUnclaimed (s : State) : (dropUnclaimed s).mem = s.mem := by
  simp [dropUnclaimed]

@[simp] theorem mem_loadPins (p : Nat) (s : State) : (loadPins p s).mem = s.mem := by
  simp [loadPins]

@[simp] theorem mem_loadProgram (p : Nat) (k : Nat) (s : State) : (loadProgram p k s).mem = s.mem :=
  (rfl)

@[simp] theorem mem_loadOwners (p : Nat) (s : State) : (loadOwners p s).mem = s.mem := by
  simp [loadOwners]

@[simp] theorem mem_loadPrograms (p : Nat) (s : State) : (loadPrograms p s).mem = s.mem := by
  simp [loadPrograms]

@[simp] theorem State.mem_modLinFrame (ch : Nat) (id : Nat) (f : LinFrame → LinFrame) (s : State) : (State.modLinFrame ch id f s).mem = s.mem :=
  (rfl)

@[simp] theorem mem_loadSchedules (n : Nat) (p : Nat) (s : State) : (loadSchedules n p s).mem = s.mem := by
  induction n generalizing p s with
  | zero => rfl
  | succ n ih => rw [loadSchedules, ih]

@[simp] theorem mem_loadLin (p : Nat) (s : State) : (loadLin p s).mem = s.mem := by
  simp [loadLin]

@[simp] theorem mem_loadFilters (p : Nat) (s : State) : (loadFilters p s).mem = s.mem := by
  simp [loadFilters]

@[simp] theorem mem_loadLayout (typ : Nat) (p : Nat) (len : Nat) (s : State) : (loadLayout typ p len s).mem = s.mem := by
  unfold loadLayout
  split <;> simp

@[simp] theorem memOk_loadWord (typ : Nat) (warm : Bool) (run : Bool) (a : Nat) (mask : Word) (v : Word) (s : State) (hm : Memory.wf s.mem = true) :
    Memory.wf (loadWord typ warm run a mask v s).2.mem = true := by
  simp only [loadWord]
  split
  · split
    · exact hm
    split <;> simp [hm]
  · split
    · exact hm
    split
    · exact hm
    split
    · exact hm
    split <;> simp [hm]

@[simp] theorem memOk_loadBody (typ : Nat) (warm : Bool) (run : Bool) (n : Nat) (a : Nat) (p : Nat) (s : State) (hm : Memory.wf s.mem = true) :
    Memory.wf (loadBody typ warm run n a p s).2.mem = true := by
  induction n generalizing a p s with
  | zero => exact hm
  | succ n ih =>
    have hw : ∀ x : Bool × State, Memory.wf x.2.mem = true →
        Memory.wf (match x with
          | (false, t) => (false, t)
          | (true, t) => loadBody typ warm run n (a + 4) (p + (if run then 4 else 8)) t).2.mem = true := by
      rintro ⟨_ | _, t⟩ ht
      · exact ht
      · exact ih _ _ _ ht
    refine hw _ ?_
    split
    · exact memOk_loadWord _ _ _ _ _ _ _ hm
    · exact memOk_loadWord _ _ _ _ _ _ _ hm

@[simp] theorem memOk_loadRecords (typ : Nat) (warm : Bool) (fuel : Nat) (p : Nat) (left : Nat) (s : State) (hm : Memory.wf s.mem = true) :
    Memory.wf (loadRecords typ warm fuel p left s).2.mem = true := by
  induction fuel generalizing p left s with
  | zero => exact hm
  | succ fuel ih =>
    simp only [loadRecords]
    generalize (if fl s p 1 = 1 then 4 * fl s (p + 2) 2 else 8 * fl s (p + 2) 2) = size
    split
    · exact hm
    split
    · exact hm
    split
    · exact hm
    have hb := memOk_loadBody typ warm (decide (fl s p 1 = 1)) (fl s (p + 2) 2) (fl s (p + 4) 4) (p + 8) s hm
    split
    · next t ht => rwa [ht] at hb
    · next t ht => rw [ht] at hb; exact ih _ _ _ hb

@[simp] theorem memOk_loadSection (warm : Bool) (e : Nat × Nat × Nat) (s : State) (hm : Memory.wf s.mem = true) :
    Memory.wf (loadSection warm e s).2.mem = true := by
  simp only [loadSection]
  split
  · exact hm
  split
  · exact hm
  split <;> simp [hm]

@[simp] theorem memOk_loadSections (warm : Bool) (es : List (Nat × Nat × Nat)) (s : State) (hm : Memory.wf s.mem = true) :
    Memory.wf (loadSections warm es s).2.mem = true := by
  induction es generalizing s with
  | nil => exact hm
  | cons e rest ih =>
    have hb := memOk_loadSection warm e s hm
    simp only [loadSections]
    split
    · next t ht => rw [ht] at hb; exact ih _ hb
    · next t ht => rwa [ht] at hb

@[simp] theorem memOk_loadHot (es : List (Nat × Nat × Nat)) (s : State) (hm : Memory.wf s.mem = true) :
    Memory.wf (loadHot es s).2.mem = true := by
  simp [loadHot, hm]

@[simp] theorem mem_updRefuse (st : Nat) (reason : Nat) (detail : Nat) (peer : Nat) (s : State) : (updRefuse st reason detail peer s).mem = s.mem := by
  simp [updRefuse]

@[simp] theorem mem_handoverDone (s : State) : (handoverDone s).mem = s.mem := by
  simp [handoverDone]

@[simp] theorem mem_busRead (m : Nat) (full : Nat) (s : State) : (busRead m full s).st.mem = s.mem := by
  simp [busRead]

@[simp] theorem mem_openSession (m : Nat) (ref : Nat) (level : Nat) (keyIndex : Nat) (nonce : Nat) (pub : Nat) (sig : Nat) (s : State) : (openSession m ref level keyIndex nonce pub sig s).mem = s.mem := by
  simp [openSession]

@[simp] theorem mem_sessionOpen (m : Nat) (h : HostHdr) (level : Nat) (keyIndex : Nat) (nonce : Nat) (pub : Nat) (sig : Nat) (s : State) : (sessionOpen m h level keyIndex nonce pub sig s).mem = s.mem := by
  simp [sessionOpen]

@[simp] theorem memOk_hostOpenNow (h : HostHdr) (level : Nat) (keyIndex : Nat) (nonce : Nat) (pub : Nat) (sig : Nat) (s : State) (hm : Memory.wf s.mem = true) :
    Memory.wf (hostOpenNow h level keyIndex nonce pub sig s).mem = true := by
  simp [hostOpenNow, hm]

@[simp] theorem mem_powerForward (st : Nat) (s : State) : (powerForward st s).mem = s.mem := by
  simp [powerForward]

@[simp] theorem mem_lateEv (n : Nat) (index : Nat) (s : State) : (lateEv n index s).mem = s.mem := by
  simp [lateEv]

@[simp] theorem mem_startTransition (st : Nat) (s : State) : (startTransition st s).mem = s.mem :=
  (rfl)

@[simp] theorem mem_requestState (st : Nat) (s : State) : (requestState st s).mem = s.mem := by
  simp [requestState]

@[simp] theorem mem_requestOrHold (st : Nat) (s : State) : (requestOrHold st s).mem = s.mem := by
  simp [requestOrHold]

@[simp] theorem mem_applyDue (s : State) : (applyDue s).mem = s.mem := by
  simp [applyDue]

@[simp] theorem mem_powerTaken (target : Nat) (scope : Nat) (s : State) : (powerTaken target scope s).mem = s.mem := by
  simp [powerTaken]

@[simp] theorem mem_powerInTurn (m : Nat) (target : Nat) (scope : Nat) (s : State) : (powerInTurn m target scope s).mem = s.mem := by
  simp [powerInTurn]

@[simp] theorem memOk_hostPowerNow (h : HostHdr) (target : Nat) (scope : Nat) (s : State) (hm : Memory.wf s.mem = true) :
    Memory.wf (hostPowerNow h target scope s).mem = true := by
  simp [hostPowerNow, hm]

@[simp] theorem mem_deferCmd (c : Instr) (s : State) : (deferCmd c s).mem = s.mem :=
  (rfl)

@[simp] theorem memOk_updBegin (id : Nat) (s : State) (hm : Memory.wf s.mem = true) :
    Memory.wf (updBegin id s).mem = true := by
  simp [updBegin, hm]

@[simp] theorem mem_setHeld (p : Nat) (b : Bool) (s : State) : (setHeld p b s).mem = s.mem :=
  (rfl)

@[simp] theorem memOk_programPiece (p : Nat) (l : List Nat) (s : State) (hm : Memory.wf s.mem = true) :
    Memory.wf (programPiece p l s).mem = true :=
  memOk_foldl (fun t e ht => State.setByte_wf t _ _ ht) _ _ (Tab.wf_filter memDefault _ s.mem hm)

@[simp] theorem mem_noteComplete (s : State) : (noteComplete s).mem = s.mem := by
  simp [noteComplete]

@[simp] theorem mem_recheckPieces (s : State) : (recheckPieces s).mem = s.mem := by
  simp [recheckPieces]

@[simp] theorem memOk_storePiece (p : Nat) (l : List Nat) (ok : Bool) (s : State) (hm : Memory.wf s.mem = true) :
    Memory.wf (storePiece p l ok s).2.mem = true := by
  simp only [storePiece]
  split
  · simp [hm]
  split
  · simp [hm]
  split
  · split <;> simp [hm]
  · simp [hm]

@[simp] theorem memOk_takePiece (id : Nat) (p : Nat) (l : List Nat) (ok : Bool) (s : State) (hm : Memory.wf s.mem = true) :
    Memory.wf (takePiece id p l ok s).2.mem = true := by
  have h1 : Memory.wf (if ((s.reg UPD_ID).toNat == id && updState s != 0) = true then s else updBegin id s).mem = true := by
    simp [hm]
  simp only [takePiece]
  generalize (if ((s.reg UPD_ID).toNat == id && updState s != 0) = true then s else updBegin id s) = t at h1 ⊢
  split
  · exact hm
  split
  · exact hm
  split
  · exact h1
  split
  · exact h1
  split
  · exact h1
  split
  · simp [h1]
  · exact memOk_storePiece _ _ _ _ h1

@[simp] theorem memOk_hostPieceNow (h : HostHdr) (id : Nat) (piece : Nat) (data : List Nat) (flashOk : Bool) (s : State) (hm : Memory.wf s.mem = true) :
    Memory.wf (hostPieceNow h id piece data flashOk s).mem = true := by
  unfold hostPieceNow
  split
  · exact hm
  · refine memOk_served _ _ _ (fun t ht => ?_) s hm
    simp [ht]

@[simp] theorem memOk_hostLogReadNow (h : HostHdr) (start : Nat) (count : Nat) (s : State) (hm : Memory.wf s.mem = true) :
    Memory.wf (hostLogReadNow h start count s).mem = true := by
  simp [hostLogReadNow, hm]

@[simp] theorem mem_logClearFrom (old : Nat) (s : State) : (logClearFrom old s).mem = s.mem :=
  (rfl)

@[simp] theorem mem_logClearEnds (s : State) : (logClearEnds s).mem = s.mem := by
  unfold logClearEnds
  split
  · simp
  · split <;> simp

@[simp] theorem mem_logClearBegins (m : Nat) (ref : Nat) (s : State) : (logClearBegins m ref s).mem = s.mem :=
  (rfl)

@[simp] theorem memOk_hostLogClearNow (h : HostHdr) (c : ClearCode) (s : State) (hm : Memory.wf s.mem = true) :
    Memory.wf (hostLogClearNow h c s).mem = true := by
  simp [hostLogClearNow, hm]

@[simp] theorem mem_enableOne (m : Nat) (ref : Nat) (sub : Nat) (s : State) : (enableOne m ref sub s).mem = s.mem := by
  simp [enableOne]

@[simp] theorem mem_enableZero (m : Nat) (ref : Nat) (sub : Nat) (s : State) : (enableZero m ref sub s).mem = s.mem := by
  simp [enableZero]

@[simp] theorem memOk_hostEnableNow (h : HostHdr) (sub : Nat) (val : Nat) (s : State) (hm : Memory.wf s.mem = true) :
    Memory.wf (hostEnableNow h sub val s).mem = true := by
  simp [hostEnableNow, hm]

@[simp] theorem memOk_hostUnknownNow (h : HostHdr) (typ : Nat) (s : State) (hm : Memory.wf s.mem = true) :
    Memory.wf (hostUnknownNow h typ s).mem = true := by
  simp [hostUnknownNow, hm]

@[simp] theorem mem_discardFrame (s : State) : (discardFrame s).mem = s.mem :=
  (rfl)

@[simp] theorem memOk_arrives (c : Instr) (h : HostHdr) (run : State → State)
    (hr : ∀ t, Memory.wf t.mem = true → Memory.wf (run t).mem = true) (s : State) (hm : Memory.wf s.mem = true) :
    Memory.wf (arrives c h run s).mem = true := by
  simp [arrives, hm, hr]

@[simp] theorem mem_takeWaiting (s : State) : (takeWaiting s).mem = s.mem := by
  simp [takeWaiting]

@[simp] theorem mem_dropTunnel (src : Nat) (s : State) : (dropTunnel src s).mem = s.mem :=
  (rfl)

@[simp] theorem mem_dropPiece (src : Nat) (s : State) : (dropPiece src s).mem = s.mem :=
  (rfl)

@[simp] theorem memOk_pieceAssembled (src : Nat) (flashOk : Bool) (s : State) (hm : Memory.wf s.mem = true) :
    Memory.wf (pieceAssembled src flashOk s).mem = true := by
  simp [pieceAssembled, hm]

@[simp] theorem mem_jClaim (c : Nat) (a : Nat) (s : State) : (jClaim c a s).mem = s.mem :=
  (rfl)

@[simp] theorem mem_jCannot (c : Nat) (s : State) : (jCannot c s).mem = s.mem :=
  (rfl)

@[simp] theorem mem_jChoose (c : Nat) (s : State) : (jChoose c s).mem = s.mem := by
  simp only [jChoose]
  split
  · split <;> simp
  · simp

@[simp] theorem mem_jContend (c : Nat) (name : Nat) (sa : Nat) (s : State) : (jContend c name sa s).mem = s.mem := by
  simp [jContend]

@[simp] theorem mem_jWindowEnd (c : Nat) (s : State) : (jWindowEnd c s).mem = s.mem := by
  simp [jWindowEnd]

@[simp] theorem mem_j1939Contention (c : Fin 8) (name : Nat) (sa : Nat) (s : State) : (j1939Contention c name sa s).mem = s.mem := by
  simp [j1939Contention]

@[simp] theorem mem_stall (e : Nat) (cause : Nat) (s : State) : (stall e cause s).mem = s.mem := by
  simp [stall]

@[simp] theorem mem_trap (e : Nat) (cause : Nat) (inst : Word) (s : State) : (trap e cause inst s).mem = s.mem := by
  simp [trap]

@[simp] theorem mem_busTrap (e : Nat) (a : Nat) (write : Bool) (kind : Nat) (w : Word) (s : State) : (busTrap e a write kind w s).mem = s.mem := by
  simp [busTrap]

@[simp] theorem mem_engineBusError (m : Nat) (addr : Nat) (write : Bool) (kind : Nat) (s : State) : (engineBusError m addr write kind s).mem = s.mem := by
  simp [engineBusError]

@[simp] theorem mem_recordLUse (k : Nat) (s : State) : (recordLUse k s).mem = s.mem := by
  simp [recordLUse]

@[simp] theorem mem_lOverrun (k : Nat) (s : State) : (lOverrun k s).mem = s.mem := by
  simp [lOverrun]

@[simp] theorem mem_trapIssued (e : Nat) (cause : Nat) (w : Word) (s : State) : (trapIssued e cause w s).mem = s.mem := by
  simp [trapIssued]

@[simp] theorem mem_stopCycles (e : Nat) (s : State) : (stopCycles e s).mem = s.mem := by
  simp [stopCycles]

/-- `readBoot` as a function: the kernel compares it whole, where at a state it would read the boot record. -/
theorem readBoot_fun : readBoot = fun s => match bootRecord s with
  | some (_, _, c, f) => { s with start := { s.start with chartSlot := c, fwSlot := f } }
  | none => s := rfl

theorem readBoot_cases (s : State) :
    readBoot s = s ∨ ∃ c f, readBoot s = { s with start := { s.start with chartSlot := c, fwSlot := f } } := by
  rw [readBoot_fun]
  beta_reduce
  generalize bootRecord s = x
  rcases x with _ | ⟨_, _, c, f⟩
  · exact .inl rfl
  · exact .inr ⟨_, _, rfl⟩

@[simp] theorem mem_readBoot (s : State) : (readBoot s).mem = s.mem := by
  rcases readBoot_cases s with h | ⟨c, f, h⟩ <;> rw [h]

@[simp] theorem mem_foSuspend (b : Nat) (s : State) : (foSuspend b s).mem = s.mem := by
  simp [foSuspend]

@[simp] theorem mem_bankLimp (b : Nat) (s : State) : (bankLimp b s).mem = s.mem := by
  simp [bankLimp]

@[simp] theorem mem_dieSilent (d : Nat) (s : State) : (dieSilent d s).mem = s.mem := by
  simp [dieSilent]

@[simp] theorem mem_releaseLrst (s : State) : (releaseLrst s).mem = s.mem := by
  simp [releaseLrst]

@[simp] theorem State.mem_modInput (j : Nat) (f : Input → Input) (s : State) : (State.modInput j f s).mem = s.mem :=
  (rfl)

@[simp] theorem mem_imageTakes (j : Nat) (b : Bool) (s : State) : (imageTakes j b s).mem = s.mem :=
  (rfl)

@[simp] theorem mem_resendLevels (s : State) : (resendLevels s).mem = s.mem := by
  simp [resendLevels]

@[simp] theorem mem_claimDie (d : Nat) (s : State) : (claimDie d s).mem = s.mem := by
  simp [claimDie]

@[simp] theorem mem_linkTrained (cv : Nat) (s : State) : (linkTrained cv s).mem = s.mem := by
  simp [linkTrained]

@[simp] theorem mem_logStart (s : State) : (logStart s).mem = s.mem := by
  simp only [logStart]
  split <;> simp

/-- The start that leaves reset, once the boot record has been read into `b`. -/
def leaveResetFrom (b s : State) : State :=
  let n := s.start.failures
  let t := { b with
    start := { b.start with lodgeDown := false, failures := 0 }
    aq := { b.aq with nextFlush := s.now + 600000000000 } }
  let t := [0, 1, 2, 3, 4, 5].foldl (fun t cv => if cvUp t cv then t else linkTrained cv t) t
  let t := State.setFld CHECK_START CHECK_START_START_FAIL (clampN 0 0xFF (startFail t + n)) t
  let t := logStart t
  let t := if updState t = 4 then updTo 3 0 0 t else t
  if n = 0 then t else raiseFault 41 t

theorem leaveReset_eq (s : State) : leaveReset s = leaveResetFrom (readBoot (releaseLrst s)) s := rfl

theorem memOk_dropRanges (keep : Nat → Bool) (n : Nat) (bank start : Nat → Nat) (size : Nat) (s : State)
    (hm : Memory.wf s.mem = true) :
    Memory.wf ((List.range n).foldl (fun t b => if keep (bank b) then t else State.clearRange (start b) size t) s).mem = true := by
  refine memOk_foldl (fun t b ht => ?_) _ s hm
  split <;> simp [ht]

@[simp] theorem memOk_dropSram (keep : Nat → Bool) (s : State) (hm : Memory.wf s.mem = true) :
    Memory.wf (dropSram keep s).mem = true := by
  unfold dropSram
  extract_lets drop t1 t2 t3 t4
  have h1 : Memory.wf t1.mem = true :=
    memOk_dropRanges keep 8 (fun b => b) (fun b => 0x10000 * b) 0x10000 s hm
  have h2 : Memory.wf t2.mem = true :=
    memOk_dropRanges keep 4 (fun b => 8 + b) (fun b => 0x10000000 + 0x10000 * b) 0x10000 t1 h1
  have h3 : Memory.wf t3.mem = true :=
    memOk_dropRanges keep 8 (fun b => 12 + b) (fun k => (k + 1) * 0x100000000) 0x10000 t2 h2
  have h4 : Memory.wf t4.mem = true :=
    memOk_dropRanges keep 8 (fun k => 20 + k / 2) (fun k => (k + 1) * 0x100000000 + 0x10000000) 0x8000 t3 h3
  exact memOk_dropRanges keep 16 (fun b => 24 + b) (fun b => 0x20000000 + 0x10000 * b) 0x10000 t4 h4

@[simp] theorem memOk_coldClear (s : State) (hm : Memory.wf s.mem = true) :
    Memory.wf (coldClear s).mem = true := by
  unfold coldClear
  exact memOk_dropSram _ _ hm

@[simp] theorem mem_dieCold (s : State) : (dieCold s).mem = s.mem := by
  simp [dieCold]

@[simp] theorem mem_forwardWake (s : State) : (forwardWake s).mem = s.mem := by
  simp [forwardWake]

@[simp] theorem mem_coldReservoir (s : State) : (coldReservoir s).mem = s.mem := by
  simp [coldReservoir]

@[simp] theorem mem_setStart (x : Nat) (s : State) : (setStart x s).mem = s.mem :=
  (rfl)

@[simp] theorem mem_gateStarts (s : State) : (gateStarts s).mem = s.mem := by
  simp [gateStarts]

@[simp] theorem mem_firmwareStarts (x : Bool × Nat) (s : State) : (firmwareStarts x s).mem = s.mem := by
  simp [firmwareStarts]

@[simp] theorem mem_noteRescue (slotB : Bool) (typ : Nat) (s : State) : (noteRescue slotB typ s).mem = s.mem :=
  (rfl)

@[simp] theorem mem_checkSections (slotB : Bool) (es : List DirEntry) (s : State) : (checkSections slotB es s).2.mem = s.mem := by
  induction es generalizing s with
  | nil => rfl
  | cons e rest ih =>
    unfold checkSections
    split
    · exact ih s
    split
    · rw [ih, mem_noteRescue]
    · rfl

@[simp] theorem mem_verifyChart (slotB : Bool) (fw : Nat) (signed : Bool) (s : State) : (verifyChart slotB fw signed s).2.mem = s.mem := by
  have hb := mem_checkSections slotB (directory s (chartBase slotB)) s
  have hc : (match checkSections slotB (directory s (chartBase slotB)) s with
      | (some typ, t) => (some (2, typ), t)
      | (none, t) => (tillerFault t (chartBase slotB), t)).2.mem = s.mem := by
    split
    · next t ht => rwa [ht] at hb
    · next t ht => rwa [ht] at hb
  simp only [verifyChart]
  split
  · split
    · exact hc
    · rfl
  · exact hc

@[simp] theorem mem_showChart (slotB : Bool) (s : State) : (showChart slotB s).mem = s.mem := by
  simp [showChart]

@[simp] theorem memOk_reloadCode (k : Nat) (s : State) (hm : Memory.wf s.mem = true) :
    Memory.wf (reloadCode k s).mem = true := by
  simp [reloadCode, hm]

@[simp] theorem memOk_loadKeepers (keep : Nat → Bool) (s : State) (hm : Memory.wf s.mem = true) :
    Memory.wf (loadKeepers keep s).mem = true := by
  refine memOk_foldl (fun t k ht => ?_) _ s hm
  have h1 : Memory.wf (if keep (12 + k) then t else reloadCode k t).mem = true := by simp [ht]
  simp only
  split
  · exact h1
  · exact memOk_reloadData k _ h1

@[simp] theorem memOk_chartCold (slotB : Bool) (fw : Nat) (keep : Nat → Bool) (s : State) (hm : Memory.wf s.mem = true) :
    Memory.wf (chartCold slotB fw keep s).2.mem = true := by
  have hb := mem_verifyChart slotB fw true s
  simp only [chartCold]
  split
  · next t ht =>
      rw [ht] at hb
      exact (congrArg Memory.wf hb).trans hm
  · next t ht =>
      rw [ht] at hb
      have hs : Memory.wf (showChart slotB t).mem = true := by rw [mem_showChart]; exact (congrArg Memory.wf hb).trans hm
      have hl := memOk_loadSections false (showChart slotB t).start.sections _ hs
      split
      · next u hu => rwa [hu] at hl
      · next u hu =>
          rw [hu] at hl
          exact memOk_loadKeepers keep u hl

@[simp] theorem mem_chartFails (e : Nat × Nat) (s : State) : (chartFails e s).mem = s.mem :=
  (rfl)

@[simp] theorem memOk_chartsCold (slots : List Bool) (fw : Nat) (keep : Nat → Bool) (s : State) (hm : Memory.wf s.mem = true) :
    Memory.wf (chartsCold slots fw keep s).2.mem = true := by
  induction slots generalizing s with
  | nil => exact hm
  | cons b rest ih =>
    have hb := memOk_chartCold b fw keep s hm
    simp only [chartsCold]
    split
    · next t ht => rwa [ht] at hb
    · next e t ht =>
        rw [ht] at hb
        exact ih _ (by simpa using hb)

@[simp] theorem mem_failStart (s : State) : (failStart s).mem = s.mem :=
  (rfl)

@[simp] theorem mem_trainPorts (s : State) : (trainPorts s).mem = s.mem :=
  (rfl)

@[simp] theorem mem_startDiscovery (s : State) : (startDiscovery s).mem = s.mem := by
  simp [startDiscovery]

@[simp] theorem mem_thawWires (s : State) : (thawWires s).mem = s.mem := by
  simp [thawWires]

@[simp] theorem mem_leaveHeld (s : State) : (leaveHeld s).mem = s.mem := by
  simp [leaveHeld]

@[simp] theorem mem_brAllOn (s : State) : (brAllOn s).mem = s.mem := by
  simp [brAllOn]

@[simp] theorem mem_foAllOn (s : State) : (foAllOn s).mem = s.mem := by
  simp [foAllOn]

@[simp] theorem State.mem_modSent (i : Nat) (f : SentIn → SentIn) (s : State) : (State.modSent i f s).mem = s.mem :=
  (rfl)

@[simp] theorem memOk_enableEffect (n : Nat) (s : State) (hm : Memory.wf s.mem = true) :
    Memory.wf (enableEffect n s).mem = true := by
  unfold enableEffect
  split <;> simp [hm]

@[simp] theorem mem_autoEntry (e : Nat × Bool) (s : State) : (autoEntry e s).mem = s.mem := by
  simp [autoEntry]

@[simp] theorem mem_autoEnable (s : State) : (autoEnable s).mem = s.mem := by
  simp [autoEnable]

@[simp] theorem mem_ownTime (s : State) : (ownTime s).mem = s.mem :=
  (rfl)

@[simp] theorem mem_aqForget (s : State) : (aqForget s).mem = s.mem := by
  simp [aqForget]

@[simp] theorem mem_aqAlone (s : State) : (aqAlone s).mem = s.mem := by
  simp [aqAlone]

@[simp] theorem mem_setLccByTime (s : State) : (setLccByTime s).mem = s.mem :=
  (rfl)

@[simp] theorem mem_portsBack (s : State) : (portsBack s).mem = s.mem := by
  unfold portsBack
  rw [mem_showLoads]
  refine mem_foldl (fun t p => ?_) _ s
  split
  · split <;> simp
  · simp

@[simp] theorem mem_aqWarm (topo : Option Word) (s : State) : (aqWarm topo s).mem = s.mem := by
  unfold aqWarm
  split
  · simp
  · split <;> simp

@[simp] theorem memOk_acceptCheck (n : Nat) (s : State) (hm : Memory.wf s.mem = true) :
    Memory.wf (acceptCheck n s).mem = true := by
  simp [acceptCheck, hm]

@[simp] theorem mem_takePending (s : State) : (takePending s).2.mem = s.mem := by
  unfold takePending
  split <;> rfl

@[simp] theorem mem_endHoldoff (s : State) : (endHoldoff s).mem = s.mem := by
  simp [endHoldoff]

@[simp] theorem mem_doWake (kind : Nat) (index : Nat) (multi : Bool) (s : State) : (doWake kind index multi s).mem = s.mem := by
  simp only [doWake]
  split <;> simp

@[simp] theorem mem_reached (pend : Option Nat) (s : State) : (reached pend s).mem = s.mem := by
  unfold reached
  split <;> simp

@[simp] theorem mem_reachMoored (s : State) : (reachMoored s).mem = s.mem := by
  simp [reachMoored]

@[simp] theorem mem_dropCommands (s : State) : (dropCommands s).mem = s.mem :=
  (rfl)

@[simp] theorem mem_reachBerthed (s : State) : (reachBerthed s).mem = s.mem := by
  simp [reachBerthed]

@[simp] theorem memOk_lodgePowerDown (s : State) (hm : Memory.wf s.mem = true) :
    Memory.wf (lodgePowerDown s).mem = true := by
  simp [lodgePowerDown, hm]

@[simp] theorem mem_xcvAll (x : Nat) (st : Nat) (s : State) : (xcvAll x st s).mem = s.mem := by
  simp [xcvAll]

@[simp] theorem mem_fadeKept (s : State) : (fadeKept s).mem = s.mem := by
  simp [fadeKept]

@[simp] theorem mem_turnKeptOff (s : State) : (turnKeptOff s).mem = s.mem := by
  simp [turnKeptOff]

@[simp] theorem memOk_mooredToBerthed (s : State) (hm : Memory.wf s.mem = true) :
    Memory.wf (mooredToBerthed s).mem = true := by
  simp [mooredToBerthed, hm]

@[simp] theorem mem_logWrite (r : LogRec) (s : State) : (logWrite r s).mem = s.mem := by
  simp [logWrite]

@[simp] theorem mem_logOverflow (s : State) : (logOverflow s).mem = s.mem := by
  simp [logOverflow]

@[simp] theorem mem_logNext (s : State) : (logNext s).mem = s.mem := by
  unfold logNext
  split <;> simp

@[simp] theorem mem_logControl (s : State) : (logControl s).mem = s.mem := by
  simp [logControl]

@[simp] theorem memOk_updComplete (s : State) (hm : Memory.wf s.mem = true) :
    Memory.wf (updComplete s).mem = true := by
  simp only [updComplete]
  split <;> simp [hm]

@[simp] theorem memOk_stageFirmware (s : State) (hm : Memory.wf s.mem = true) :
    Memory.wf (stageFirmware s).mem = true := by
  simp [stageFirmware, hm]

@[simp] theorem mem_stageChart (s : State) : (stageChart s).mem = s.mem :=
  (rfl)

@[simp] theorem memOk_nextComponent (s : State) (hm : Memory.wf s.mem = true) :
    Memory.wf (nextComponent s).mem = true := by
  unfold nextComponent
  split <;> simp [hm]

@[simp] theorem memOk_quietPoint (s : State) (hm : Memory.wf s.mem = true) :
    Memory.wf (quietPoint s).mem = true := by
  simp [quietPoint, hm]

@[simp] theorem memOk_quietComes (s : State) (hm : Memory.wf s.mem = true) :
    Memory.wf (quietComes s).mem = true := by
  unfold quietComes
  split <;> simp [hm]

@[simp] theorem mem_flipCode (s : State) : (flipCode s).mem = s.mem :=
  (rfl)

@[simp] theorem mem_endPause (s : State) : (endPause s).mem = s.mem := by
  unfold endPause
  split <;> rfl

@[simp] theorem mem_rollBack (s : State) : (rollBack s).mem = s.mem := by
  simp [rollBack]

@[simp] theorem memOk_componentDone (typ : Nat) (s : State) (hm : Memory.wf s.mem = true) :
    Memory.wf (componentDone typ s).mem = true := by
  simp [componentDone, hm]

@[simp] theorem memOk_firmwareRuns (s : State) (hm : Memory.wf s.mem = true) :
    Memory.wf (firmwareRuns s).mem = true := by
  simp [firmwareRuns, hm]

@[simp] theorem memOk_resumed (s : State) (hm : Memory.wf s.mem = true) :
    Memory.wf (resumed s).mem = true := by
  unfold resumed
  split <;> simp [hm]

@[simp] theorem mem_rolledBack (s : State) : (rolledBack s).mem = s.mem := by
  unfold rolledBack
  split <;> simp

@[simp] theorem mem_carryF (k : Nat) (s : State) : (carryF k s).mem = s.mem := by
  simp [carryF]

@[simp] theorem mem_endL (k : Nat) (s : State) : (endL k s).mem = s.mem := by
  simp [endL]

@[simp] theorem mem_release (k : Nat) (s : State) : (release k s).mem = s.mem := by
  simp [release]

@[simp] theorem memOk_rewriteCrc (slotB : Bool) (typ : Nat) (s : State) (hm : Memory.wf s.mem = true) :
    Memory.wf (rewriteCrc slotB typ s).mem = true := by
  simp only [rewriteCrc]
  split
  · exact State.setBytesLE_wf _ _ _ _ hm
  · exact hm

@[simp] theorem memOk_doRewrites (s : State) (hm : Memory.wf s.mem = true) :
    Memory.wf (doRewrites s).mem = true :=
  memOk_foldl (fun t _ ht => memOk_rewriteCrc _ _ t ht) _ s hm

@[simp] theorem memOk_activates (cs : List Comp) (s : State) (hm : Memory.wf s.mem = true) :
    Memory.wf (cs.foldl (fun t c => activate c.typ t) s).mem = true :=
  memOk_foldl (fun t c ht => memOk_activate c.typ t ht) cs s hm

@[simp] theorem memOk_leaveHarbourLimp (s : State) (hm : Memory.wf s.mem = true) :
    Memory.wf (leaveHarbourLimp s).mem = true := by
  simp only [leaveHarbourLimp]
  split
  · exact hm
  have h1 : Memory.wf (if updState s = 2 then copyComps s else s).mem = true := by simp [hm]
  generalize (if updState s = 2 then copyComps s else s) = t at h1 ⊢
  simp [h1]

@[simp] theorem memOk_armed (cs : List Comp) (s : State) (hm : Memory.wf s.mem = true) :
    Memory.wf (cs.foldl (fun t c => State.setFlag UPD_STAT UPD_STAT_COLD true (activate c.typ t)) s).mem = true :=
  memOk_foldl (fun t c ht => by simp [ht]) cs s hm

@[simp] theorem memOk_arm (s : State) (hm : Memory.wf s.mem = true) :
    Memory.wf (arm s).mem = true := by
  simp only [arm]
  split
  · exact hm
  split <;> simp [hm]

@[simp] theorem memOk_onUpdCtrl (m : Nat) (full : Nat) (v : Word) (s : State) (hm : Memory.wf s.mem = true) :
    Memory.wf (onUpdCtrl m full v s).mem = true := by
  have h1 : Memory.wf (if woSet full v UPD_CTRL_ABORT then abortUpdate s else s).mem = true := by simp [hm]
  simp only [onUpdCtrl]
  split
  · exact hm
  split
  · exact memOk_arm _ h1
  · exact h1

@[simp] theorem memOk_topStore (same : Bool) (m : Nat) (full : Nat) (r : RegRow) (i : Nat) (v : Word) (s : State) (hm : Memory.wf s.mem = true) :
    Memory.wf (topStore same m full r i v s).mem = true := by
  simp [topStore, hm]

@[simp] theorem memOk_storeSame (m : Nat) (full : Nat) (r : RegRow) (i : Nat) (v : Word) (s : State) (hm : Memory.wf s.mem = true) :
    Memory.wf (storeSame m full r i v s).mem = true := by
  simp [storeSame, hm]

@[simp] theorem mem_linksTrained (l : List Nat) (s : State) :
    (l.foldl (fun t cv => if cvUp t cv then t else linkTrained cv t) s).mem = s.mem :=
  mem_foldl (fun t cv => by simp) l s

theorem mem_leaveResetFrom (b s : State) : (leaveResetFrom b s).mem = b.mem := by
  unfold leaveResetFrom
  extract_lets n st a t2 t3 t4 t5 t6
  have h4 : t4.mem = t3.mem := rfl
  have h6 : t6.mem = t5.mem := by simp only [t6, mem_ite, mem_updTo, ite_self]
  rw [mem_ite, mem_raiseFault, ite_self, h6]
  exact (mem_logStart t4).trans (h4.trans (mem_linksTrained _ t2))

@[simp] theorem mem_leaveReset (s : State) : (leaveReset s).mem = s.mem := by
  rw [leaveReset_eq, mem_leaveResetFrom, mem_readBoot, mem_releaseLrst]

@[simp] theorem memOk_loadFirmware (slotB : Bool) (s : State) (hm : Memory.wf s.mem = true) :
    Memory.wf (loadFirmware slotB s).mem = true := by
  unfold loadFirmware
  simp only [State.mem_setFld]
  exact State.memOk_copyBytes _ _ _ _ (State.memOk_clearRange _ _ s hm)

@[simp] theorem memOk_warmLoad (slotB same : Bool) (s : State) (hm : Memory.wf s.mem = true) :
    Memory.wf (warmLoad slotB same s).2.mem = true := by
  have hl := memOk_loadSections true (showChart slotB s).start.sections (showChart slotB s) (by simpa using hm)
  simp only [warmLoad]
  split
  · next u hu => rwa [hu] at hl
  · next u hu =>
      rw [hu] at hl
      have hk := memOk_loadKeepers (fun b => retained u b) u hl
      split
      · refine memOk_foldl (fun v n hv => ?_) _ _ ?_
        · exact memOk_enableEffect n v hv
        · simpa using hk
      · exact hk

@[simp] theorem memOk_chartWarm (slotB : Bool) (fw : Nat) (s : State) (hm : Memory.wf s.mem = true) :
    Memory.wf (chartWarm slotB fw s).2.mem = true := by
  have hb := mem_verifyChart slotB fw
    (!(decide (fl s (chartBase slotB) 4 = 0x54484359) && chDigest s (chartBase slotB) == s.start.warmDigest)) s
  simp only [chartWarm]
  split
  · next e t ht =>
      rw [ht] at hb
      exact (congrArg Memory.wf hb).trans hm
  · next t ht =>
      rw [ht] at hb
      exact memOk_warmLoad _ _ t ((congrArg Memory.wf hb).trans hm)

@[simp] theorem memOk_chartsWarm (slots : List Bool) (fw : Nat) (s : State) (hm : Memory.wf s.mem = true) :
    Memory.wf (chartsWarm slots fw s).2.mem = true := by
  induction slots generalizing s with
  | nil => exact hm
  | cons b rest ih =>
    have hb := memOk_chartWarm b fw s hm
    simp only [chartsWarm]
    split
    · next t ht => rwa [ht] at hb
    · next e t ht =>
        rw [ht] at hb
        exact ih _ (by simpa using hb)

@[simp] theorem memOk_busWriteIn (same : Bool) (m full : Nat) (v : Word) (s : State) (hm : Memory.wf s.mem = true) :
    Memory.wf (busWriteIn same m full v s).st.mem = true := by
  simp only [busWriteIn]
  split
  · simp [hm]
  split
  · simp [hm]
  split
  · simp [hm]
  · split <;> simp [hm]

@[simp] theorem memOk_hostWriteNow (h : HostHdr) (addr data : Word) (s : State) (hm : Memory.wf s.mem = true) :
    Memory.wf (hostWriteNow h addr data s).mem = true := by
  refine memOk_served _ _ _ (fun t ht => ?_) s hm
  simp [ht]

@[simp] theorem mem_readWords (m n a i : Nat) (s : State) : (readWords m n a i s).2.2.mem = s.mem := by
  induction n generalizing a i s with
  | zero => rfl
  | succ n ih =>
    simp only [readWords]
    split
    · exact mem_busRead m a s
    · exact (ih _ _ _).trans (mem_busRead m a s)

@[simp] theorem memOk_hostBlockNow (h : HostHdr) (addr : Word) (count : Nat) (s : State) (hm : Memory.wf s.mem = true) :
    Memory.wf (hostBlockNow h addr count s).mem = true := by
  refine memOk_served _ _ _ (fun t ht => ?_) s hm
  simp only
  split
  · simp [ht]
  · split <;> simp [ht]

@[simp] theorem memOk_hostCutNow (kind : Nat) (m : Fin 12) (h : HostHdr) (addr : Word) (write : Bool) (index : Nat) (s : State)
    (hm : Memory.wf s.mem = true) : Memory.wf (hostCutNow kind m h addr write index s).mem = true := by
  refine memOk_served _ _ _ (fun t ht => ?_) s hm
  cases write
  · simp only [Bool.false_eq_true, if_false]
    split <;> simp [ht]
  · simp [ht]

@[simp] theorem memOk_hostRead (h : HostHdr) (addr : Word) (s : State) (hm : Memory.wf s.mem = true) :
    Memory.wf (hostRead h addr s).mem = true :=
  memOk_arrives _ _ _ (memOk_hostReadNow h addr) s hm

@[simp] theorem memOk_hostWrite (h : HostHdr) (addr data : Word) (s : State) (hm : Memory.wf s.mem = true) :
    Memory.wf (hostWrite h addr data s).mem = true :=
  memOk_arrives _ _ _ (memOk_hostWriteNow h addr data) s hm

@[simp] theorem memOk_hostBlock (h : HostHdr) (addr : Word) (count : Nat) (s : State) (hm : Memory.wf s.mem = true) :
    Memory.wf (hostBlock h addr count s).mem = true :=
  memOk_arrives _ _ _ (memOk_hostBlockNow h addr count) s hm

@[simp] theorem memOk_hostOpen (h : HostHdr) (level keyIndex nonce pub sig : Nat) (s : State) (hm : Memory.wf s.mem = true) :
    Memory.wf (hostOpen h level keyIndex nonce pub sig s).mem = true :=
  memOk_arrives _ _ _ (memOk_hostOpenNow h level keyIndex nonce pub sig) s hm

@[simp] theorem memOk_hostPower (h : HostHdr) (target scope : Nat) (s : State) (hm : Memory.wf s.mem = true) :
    Memory.wf (hostPower h target scope s).mem = true := by
  have h1 := memOk_arrives (.power h target scope) h _ (memOk_hostPowerNow h target scope) s hm
  simp only [hostPower]
  split
  · simpa using h1
  · exact h1

@[simp] theorem memOk_hostPiece (h : HostHdr) (id piece : Nat) (data : List Nat) (flashOk : Bool) (s : State) (hm : Memory.wf s.mem = true) :
    Memory.wf (hostPiece h id piece data flashOk s).mem = true :=
  memOk_arrives _ _ _ (memOk_hostPieceNow h id piece data flashOk) s hm

@[simp] theorem memOk_hostLogRead (h : HostHdr) (start count : Nat) (s : State) (hm : Memory.wf s.mem = true) :
    Memory.wf (hostLogRead h start count s).mem = true :=
  memOk_arrives _ _ _ (memOk_hostLogReadNow h start count) s hm

@[simp] theorem memOk_hostLogClear (h : HostHdr) (c : ClearCode) (s : State) (hm : Memory.wf s.mem = true) :
    Memory.wf (hostLogClear h c s).mem = true :=
  memOk_arrives _ _ _ (memOk_hostLogClearNow h c) s hm

@[simp] theorem memOk_hostEnable (h : HostHdr) (sub val : Nat) (s : State) (hm : Memory.wf s.mem = true) :
    Memory.wf (hostEnable h sub val s).mem = true :=
  memOk_arrives _ _ _ (memOk_hostEnableNow h sub val) s hm

@[simp] theorem memOk_hostUnknown (h : HostHdr) (typ : Nat) (s : State) (hm : Memory.wf s.mem = true) :
    Memory.wf (hostUnknown h typ s).mem = true :=
  memOk_arrives _ _ _ (memOk_hostUnknownNow h typ) s hm

@[simp] theorem memOk_tunnelCommand (typ : Nat) (h : HostHdr) (l : List Nat) (flashOk : Bool) (s : State) (hm : Memory.wf s.mem = true) :
    Memory.wf (tunnelCommand typ h l flashOk s).mem = true := by
  simp only [tunnelCommand]
  split <;> simp [hm]

@[simp] theorem memOk_tunnelRuns (src : Nat) (f : List Nat) (flashOk : Bool) (s : State) (hm : Memory.wf s.mem = true) :
    Memory.wf (tunnelRuns src f flashOk s).mem = true := by
  simp only [tunnelRuns]
  split
  · simp [hm]
  split
  · simp [hm]
  · exact memOk_tunnelCommand _ _ _ _ _ hm

@[simp] theorem memOk_tunnelComplete (src : Nat) (flashOk : Bool) (s : State) (hm : Memory.wf s.mem = true) :
    Memory.wf (tunnelComplete src flashOk s).mem = true := by
  simp only [tunnelComplete]
  split
  · exact hm
  split
  · exact hm
  split <;> simp [hm]

@[simp] theorem mem_j1939Request (c : Fin 8) (s : State) : (j1939Request c s).mem = s.mem := by
  simp only [j1939Request]
  split
  · rfl
  split
  · split <;> simp
  · rfl

@[simp] theorem memOk_runWaiting (c : Instr) (s : State) (hm : Memory.wf s.mem = true) :
    Memory.wf (runWaiting c s).mem = true := by
  unfold runWaiting
  split <;> simp [hm]

@[simp] theorem memOk_serveAll (kept rest : List Instr) (s : State) (hm : Memory.wf s.mem = true) :
    Memory.wf (serveAll kept rest s).mem = true := by
  induction rest generalizing kept s with
  | nil => exact hm
  | cons c more ih =>
    simp only [serveAll]
    split
    · exact ih _ _ hm
    · have h1 : Memory.wf (runWaiting c { s with upd := { s.upd with waiting := kept ++ more } }).mem = true :=
        memOk_runWaiting c _ hm
      split
      · exact h1
      · exact ih _ _ h1

@[simp] theorem memOk_replay (s : State) (hm : Memory.wf s.mem = true) : Memory.wf (replay s).mem = true := by
  simp [replay, hm]

@[simp] theorem memOk_wroteIn (same : Bool) (m full : Nat) (v : Word) (s : State) (hm : Memory.wf s.mem = true) :
    Memory.wf (wroteIn same m full v s).mem = true := by
  simp [wroteIn, hm]

@[simp] theorem memOk_hostTimeout (m : Fin 12) (h : HostHdr) (addr : Word) (w : CutWord) (s : State) (hm : Memory.wf s.mem = true) :
    Memory.wf (hostTimeout m h addr w s).mem = true :=
  memOk_arrives _ _ _ (memOk_hostCutNow 6 m h addr w.write w.index) s hm

@[simp] theorem memOk_accessTimeout (m : Fin 12) (addr : Word) (w : CutWord) (h : HostHdr) (s : State) (hm : Memory.wf s.mem = true) :
    Memory.wf (accessTimeout m addr w h s).mem = true := by
  simp [accessTimeout, hm]

@[simp] theorem memOk_wrote (m full : Nat) (v : Word) (s : State) (hm : Memory.wf s.mem = true) :
    Memory.wf (wrote m full v s).mem = true :=
  memOk_wroteIn false m full v s hm

/-! ### Instructions of the engines that store -/

theorem memOk_issueBy (age : Engine → Engine) (e : Nat) (w : Word) (bars : Engine → Bool) (f : State → State)
    (hf : ∀ t, Memory.wf t.mem = true → Memory.wf (f t).mem = true) (s : State) (hm : Memory.wf s.mem = true) :
    Memory.wf (issueBy age e w bars f s).mem = true := by
  simp [issueBy, hm, hf]

@[simp] theorem memOk_busWrite (m full : Nat) (v : Word) (s : State) (hm : Memory.wf s.mem = true) :
    Memory.wf (busWrite m full v s).st.mem = true :=
  memOk_busWriteIn false m full v s hm

theorem memOk_engStore (e n : Nat) (w : Word) (rs2 rs1 : Fin 32) (imm : BitVec 16) (s : State) (hm : Memory.wf s.mem = true) :
    Memory.wf (engStore e n w rs2 rs1 imm s).mem = true := by
  simp only [engStore]
  split
  · simp [hm]
  split
  · split
    · simp [hm]
    · simp [hm]
  · split
    · simp [hm]
    split
    · simp [hm]
    split
    · simp [hm]
    · have h1 := memOk_busWrite (engMaster e) (accessAddr s e rs1 imm) ((s.eng e).x rs2) s hm
      generalize busWrite (engMaster e) (accessAddr s e rs1 imm) ((s.eng e).x rs2) s = x at h1 ⊢
      simp [h1]

theorem memOk_storeOn (e op n : Nat) (rs2 rs1 : Fin 32) (imm : BitVec 16) (s : State) (hm : Memory.wf s.mem = true) :
    Memory.wf (storeOn e op n rs2 rs1 imm s).mem = true :=
  memOk_issueBy _ _ _ _ _ (memOk_engStore e n _ rs2 rs1 imm) s hm

theorem memOk_callmBody (e : Nat) (w : Word) (off : BitVec 26) (s : State) (hm : Memory.wf s.mem = true) :
    Memory.wf (callmBody e w off s).mem = true := by
  simp only [callmBody]
  split
  · simp [hm]
  split
  · simp [hm]
  split
  · simp [hm]
  · exact memOk_foldl (fun t r ht => State.setBytesLE_wf t _ _ _ ht) _ _
      (State.setBytesLE_wf _ _ _ _ (State.setBytesLE_wf _ _ _ _ hm))

/-! ### Starts, hand-overs and low power -/

theorem memOk_coldStart (fw : FwSeen) (s : State) (hm : Memory.wf s.mem = true) : Memory.wf (coldStart fw s).mem = true := by
  unfold coldStart
  extract_lets trig src t1 t2 t3 keys src3 t4
  have h1 : Memory.wf t1.mem = true := by
    simp only [t1]; rw [mem_leaveReset]; exact memOk_coldClear _ hm
  have h2 : Memory.wf t2.mem = true := by simp only [t2]; split <;> simp [h1]
  have h3 : Memory.wf t3.mem = true := by simp [t3, h2]
  have h4 : Memory.wf t4.mem = true := by simp [t4, h3]
  split
  · simp [h3]
  split
  · exact h4
  · next x hx =>
    extract_lets t5
    have h5 : Memory.wf t5.mem = true := by simp [t5, h4]
    have h6 := memOk_chartsCold (chartSlots t5) x.2 (fun _ => false) t5 h5
    split
    · next u hu =>
        rw [hu] at h6
        simpa using h6
    · next u hu =>
        rw [hu] at h6
        simpa using h6

theorem memOk_warmStart (fw : FwSeen) (topo : Option Word) (s : State) (hm : Memory.wf s.mem = true) :
    Memory.wf (warmStart fw topo s).mem = true := by
  unfold warmStart
  extract_lets woken trig src t1 t2 t3
  have h1 : Memory.wf t1.mem = true := memOk_dropSram _ _ hm
  have h2 : Memory.wf t2.mem = true := by
    simp [t2, h1]
  have h3 : Memory.wf t3.mem = true := by simp [t3, h2]
  split
  · exact h3
  · next x hx =>
    extract_lets t5
    have h5 : Memory.wf t5.mem = true := by simp only [t5]; split <;> simp [h3]
    have h6 := memOk_chartsWarm (chartSlots t5) x.2 t5 h5
    split
    · next u hu =>
        rw [hu] at h6
        simpa using h6
    · next u hu =>
        rw [hu] at h6
        simpa using h6

@[simp] theorem memOk_setBits (m a : Nat) (f : Fld) (s : State) (hm : Memory.wf s.mem = true) :
    Memory.wf (setBits m a f s).mem = true :=
  memOk_wrote _ _ _ s hm

@[simp] theorem memOk_checkCompletes (flash : Nat) (s : State) (hm : Memory.wf s.mem = true) :
    Memory.wf (checkCompletes flash s).mem = true := by
  simp only [checkCompletes]
  split
  · exact hm
  split
  · exact hm
  split
  · simp [hm]
  · split <;> simp [hm]

@[simp] theorem memOk_checkAtStart (flash : Nat) (s : State) (hm : Memory.wf s.mem = true) :
    Memory.wf (checkAtStart flash s).mem = true := by
  simp only [checkAtStart]
  split
  · simp [hm]
  · simp [hm]

@[simp] theorem memOk_carried (k : Nat) (ws : List (Nat × Nat)) (s : State) (hm : Memory.wf s.mem = true) :
    Memory.wf (ws.foldl (fun t w => if w.1 + 4 ≤ 0x8000 then
      State.setBytesLE ((k + 1) * 0x100000000 + 0x10000000 + w.1) 4 w.2 t else t) s).mem = true :=
  memOk_foldl (fun t w ht => by split <;> simp [ht]) ws s hm

theorem mem_modEng (e : Nat) (f : Engine → Engine) (s : State) : (State.modEng e f s).mem = s.mem := (rfl)

@[simp] theorem memOk_swapKeeper (k : Nat) (ws : List (Nat × Nat)) (s : State) (hm : Memory.wf s.mem = true) :
    Memory.wf (swapKeeper k ws s).mem = true := by
  have h1 : Memory.wf (reloadData k (reloadCode k s)).mem = true := by simp [hm]
  have h2 := memOk_carried k ws _ h1
  unfold swapKeeper
  extract_lets t1 t2 t3
  have h3 : Memory.wf t3.mem = true := by simp only [t3, mem_modEng]; exact h2
  clear_value t3
  split
  · rw [mem_modEng, mem_release]; exact h3
  · rw [mem_setKState]; exact h3

theorem memOk_swapKeepers (l : List (List (Nat × Nat) × Nat)) (s : State) (hm : Memory.wf s.mem = true) :
    Memory.wf (l.foldl (fun t e => swapKeeper e.2 e.1 t) s).mem = true :=
  memOk_foldl (fun t e ht => memOk_swapKeeper e.2 e.1 t ht) l s hm

@[simp] theorem memOk_keeperSwap (s : State) (hm : Memory.wf s.mem = true) : Memory.wf (keeperSwap s).mem = true := by
  unfold keeperSwap
  extract_lets words t u v
  have ht : Memory.wf t.mem = true := memOk_loadHot _ _ (memOk_componentDone 1 s hm)
  clear_value t
  have hu : Memory.wf u.mem = true := memOk_swapKeepers _ t ht
  clear_value u
  have hv : Memory.wf v.mem = true := by simp only [v, mem_showChart]; exact hu
  clear_value v
  rw [mem_handoverDone]
  exact memOk_doRewrites _ hv

@[simp] theorem memOk_swapStrobe (s : State) (hm : Memory.wf s.mem = true) : Memory.wf (swapStrobe s).mem = true := by
  unfold swapStrobe
  split
  · exact memOk_keeperSwap s hm
  · exact hm

end Sys2Proof.Machine
end

section
/-! Memory over the commands: its canonical form is kept (O57); a command outside the list of those that may store does
store (O58, refuted). -/

namespace Sys2Proof.Machine

/-- A command that is not one of those that may store, and is not the writing of a Logbook record (which serves what
waits for it), ends as one that stores to no memory. -/
theorem exec_ends_off_memory (c : Instr) (s : State) (hn : mayStore c = false) (hl : c ≠ .logbookRecordWrite) :
    ∃ u, exec c s = finish s u := by
  cases c
  case logbookRecordWrite => exact absurd rfl hl
  all_goals first | exact ⟨_, rfl⟩ | cases hn

theorem wf_of_finishMem {s t u : State} (h : finishMem s u = .next t) (hu : Memory.wf u.mem = true) :
    Memory.wf t.mem = true := by
  cases h
  exact (congrArg Memory.wf (mem_settle u)).trans hu

theorem wf_of_finishHost {s t u : State} (h : finishHost s u = .next t) (hu : Memory.wf u.mem = true) :
    Memory.wf t.mem = true :=
  wf_of_finishMem h (memOk_replay u hu)

theorem memOk_ifElse {P : Prop} [Decidable P] (f : State → State) (s : State)
    (hf : Memory.wf s.mem = true → Memory.wf (f s).mem = true) (hs : Memory.wf s.mem = true) :
    Memory.wf (if P then f s else s).mem = true := by
  split
  · exact hf hs
  · exact hs

/-- What a command that may store leaves in memory is in canonical form where it found it so. -/
theorem wf_of_storing (c : Instr) (s t : State) (hs : Memory.wf s.mem = true) (hm : mayStore c = true)
    (h : exec c s = .next t) : Memory.wf t.mem = true := by
  cases c
  case read hd a => exact wf_of_finishHost h (memOk_hostRead hd a s hs)
  case write hd a d => exact wf_of_finishHost h (memOk_hostWrite hd a d s hs)
  case blockRead hd a n => exact wf_of_finishHost h (memOk_hostBlock hd a n s hs)
  case sessionOpen hd l k n p g => exact wf_of_finishHost h (memOk_hostOpen hd l k n p g s hs)
  case power hd x y => exact wf_of_finishHost h (memOk_hostPower hd x y s hs)
  case piece hd i p d f => exact wf_of_finishHost h (memOk_hostPiece hd i p d f s hs)
  case logRead hd x y => exact wf_of_finishHost h (memOk_hostLogRead hd x y s hs)
  case logClear hd x => exact wf_of_finishHost h (memOk_hostLogClear hd x s hs)
  case enable hd x y => exact wf_of_finishHost h (memOk_hostEnable hd x y s hs)
  case unknownType hd x => exact wf_of_finishHost h (memOk_hostUnknown hd x s hs)
  case tunnelFrameComplete x f => exact wf_of_finishHost h (memOk_tunnelComplete x f s hs)
  case pieceBargeAssembly x f => exact wf_of_finishHost h (memOk_pieceAssembled x f s hs)
  case lodgePowerDown => exact wf_of_finishMem h (memOk_ifElse lodgePowerDown s (memOk_lodgePowerDown s) hs)
  case mooredToBerthed => exact wf_of_finishMem h (memOk_ifElse mooredToBerthed s (memOk_mooredToBerthed s) hs)
  case coldStart fw => exact wf_of_finishMem h (memOk_ifElse (coldStart fw) s (memOk_coldStart fw s) hs)
  case warmStart fw x => exact wf_of_finishMem h (memOk_ifElse (warmStart fw x) s (memOk_warmStart fw x s) hs)
  case checkComplete f => exact wf_of_finishHost h (memOk_checkAtStart f s hs)
  case stw e a b i => exact wf_of_finishMem h (memOk_storeOn e _ _ a b i s hs)
  case sth e a b i => exact wf_of_finishMem h (memOk_storeOn e _ _ a b i s hs)
  case stb e a b i => exact wf_of_finishMem h (memOk_storeOn e _ _ a b i s hs)
  case callm e o => exact wf_of_finishMem h (memOk_issueBy _ _ _ _ _ (memOk_callmBody e _ o) s hs)
  case updateComplete => exact wf_of_finishMem h (memOk_ifElse updComplete s (memOk_updComplete s) hs)
  case quietPoint => exact wf_of_finishHost h (memOk_quietComes s hs)
  case firmwareResumed => exact wf_of_finishHost h (memOk_resumed s hs)
  case handoverRollback => exact wf_of_finishHost h ((congrArg Memory.wf (mem_rolledBack s)).trans hs)
  case keeperSwapStrobe => exact wf_of_finishHost h (memOk_swapStrobe s hs)
  case registerWrite m a d => exact wf_of_finishHost h (memOk_wroteIn _ _ _ _ s hs)
  case checkEnRequest m x => exact wf_of_finishHost h (memOk_wrote _ _ _ s hs)
  case checkEnDisable m x => exact wf_of_finishHost h (memOk_wrote _ _ _ s hs)
  case limpClr m => exact wf_of_finishHost h (memOk_setBits _ _ _ s hs)
  case mlimpClr m => exact wf_of_finishHost h (memOk_setBits _ _ _ s hs)
  case arm m => exact wf_of_finishHost h (memOk_setBits _ _ _ s hs)
  case abort m => exact wf_of_finishHost h (memOk_setBits _ _ _ s hs)
  case keeperRestart m k x => exact wf_of_finishMem h (memOk_wrote _ _ _ s hs)
  case dieAccessTimeout m a w hd => exact wf_of_finishHost h (memOk_accessTimeout m a w hd s hs)
  all_goals cases hm

theorem wf_exec (c : Instr) (s t : State) (hs : Memory.wf s.mem = true) (h : exec c s = .next t) :
    Memory.wf t.mem = true := by
  cases hm : mayStore c
  case true => exact wf_of_storing c s t hs hm h
  case false =>
    by_cases hl : c = .logbookRecordWrite
    · subst hl
      exact wf_of_finishHost h (by simp [hs])
    · obtain ⟨u, hu⟩ := exec_ends_off_memory c s hm hl
      rw [hu] at h
      cases h
      exact hs

/-- Settles O57: a tick leaves memory, and each command stores by the functions that keep its form. -/
theorem memoryKept : Obligations.MemoryKept := by
  intro s t hs h
  obtain ⟨_, rfl⟩ | ⟨c, rest, _, hx⟩ := step_cases h
  · have hk := congrArg (fun x => x.2.2.2.1) (tickless_tick s)
    exact (congrArg Memory.wf hk).trans hs
  · exact wf_exec c { s with pending := rest } t hs hx

theorem basinTop_pos : 0 < basinTop := by
  unfold basinTop clampN
  split
  · decide
  split
  · decide
  · omega

/-- A piece of a new update that the flash does not take: the area of pieces is erased first, and stays so. -/
theorem mem_takePiece_new (id : Nat) (l : List Nat) (s : State) (h : updState s = 0) :
    (takePiece id 0 l false s).2.mem = (updBegin id s).mem := by
  have hb := basinTop_pos
  have hstore : ∀ t, (storePiece 0 l false t).2.mem = t.mem := fun t => mem_raiseFault 42 t
  have hn : ((s.reg UPD_ID).toNat == id && (0 : Nat) != 0) = false := by simp
  have hi : (!false && !((0 : Nat) == 0 || decide (5 ≤ 0))) = false := rfl
  simp only [takePiece, h, hn, hi, Bool.false_eq_true, if_false]
  rw [if_neg (by omega)]
  split
  · rfl
  rw [if_neg (by simp)]
  split
  · rfl
  split
  · exact mem_raiseEv ..
  · exact hstore _

theorem mem_updBegin (id : Nat) (s : State) :
    (updBegin id s).mem = (State.clearRange (flashBase + basin) (4096 * basinTop) s).mem := by
  have hw : ∀ t, (updTo 1 0 0 t).mem = t.mem := fun t => by simp
  simp only [updBegin, mem_raiseEv]
  rw [hw]
  generalize List.range 128 = l
  exact proj_foldl State.mem (g := fun t w => State.setReg (UPD_BITMAP w) 0#32 t) (fun t w => rfl) l _

/-- One command waits and nothing holds it back: serving the queue runs it. -/
theorem mem_serveAll_single (c : Instr) (s : State) (h : waitsOn [] s c = false) :
    (serveAll [] [c] s).mem = (runWaiting c { s with upd := { s.upd with waiting := [] } }).mem := by
  simp only [serveAll, h, Bool.false_eq_true, if_false, List.nil_append]
  split <;> rfl

/-- A PIECE from a path without a session that no rule holds back is stored, and answered. -/
theorem mem_hostPieceNow_plain (id : Nat) (l : List Nat) (flashOk : Bool) (s : State) (hid : id ≠ 0)
    (hu : updState s = 0) (hl : (s.host 9).level = 0) (hp : (s.host 9).prov = false) :
    (hostPieceNow {} id 0 l flashOk s).mem = (takePiece id 0 l flashOk s).2.mem := by
  have hx : pathCode ({} : HostHdr).path = 9 := rfl
  have ho : sessionOver s 9 = false := by simp [sessionOver, hl]
  have hr : sessionRefuses s {} false = none := by simp [sessionRefuses, hx, hl]
  simp [hostPieceNow, hu, served, hx, ho, hr, acceptCommand, hl, admitted, hp, hid]

/-- A Warden with a PIECE waiting, and one byte of an earlier update in the area of pieces. -/
def pieceWaits : State :=
  { State.reset with
    mem := [(flashBase + basin, 1#8)]
    upd := { State.reset.upd with waiting := [.piece {} 1 0 [] false] } }

theorem mem_replay_pieceWaits : (replay pieceWaits).mem = [] := by
  have h1 : replay pieceWaits = serveAll [] [.piece {} 1 0 [] false] pieceWaits :=
    if_neg (by decide)
  rw [h1, mem_serveAll_single _ _ (by decide)]
  show (hostPieceNow {} 1 0 [] false _).mem = []
  rw [mem_hostPieceNow_plain _ _ _ _ (by decide) (by decide) (by decide) (by decide),
    mem_takePiece_new _ _ _ (by decide), mem_updBegin]
  have hb : 0 < basinTop := basinTop_pos
  simp [State.clearRange, pieceWaits, hb]

theorem mem_of_finishHost {s t u : State} (h : finishHost s u = .next t) : t.mem = (replay u).mem := by
  cases h
  exact mem_settle (replay u)

theorem exec_logbookRecordWrite_pieceWaits : exec .logbookRecordWrite pieceWaits = finishHost pieceWaits pieceWaits := rfl

/-- Refutes O58: the writing of a Logbook record is not listed among the commands that may store, and yet it serves the
host commands that wait: a PIECE that waits erases the area of pieces. -/
theorem not_commandFrame : ¬ Obligations.CommandFrame := by
  intro ⟨_, h⟩
  obtain ⟨u, hu⟩ : ∃ t, finishHost pieceWaits pieceWaits = .next t := ⟨_, rfl⟩
  have hkept : u.mem = pieceWaits.mem := h .logbookRecordWrite pieceWaits u rfl (exec_logbookRecordWrite_pieceWaits.trans hu)
  rw [mem_of_finishHost hu, mem_replay_pieceWaits] at hkept
  cases hkept

end Sys2Proof.Machine
end

section
/-! The effects of commands: which registers a function of the model may write, which faults it may capture, and how a
command's effect shows in the state it ends in. Lemmas `acts_f` carry an effect on over one more function. -/

namespace Sys2Proof.Machine

/-! ### A Lodge reset that is due -/

/-- The clock stands, and a Lodge reset that was not overdue is not: reports move the end of the reaction window into the
future, if they move it. -/
def NotLater (s t : State) : Prop := t.now = s.now ∧ (resetOverdue s = false → resetOverdue t = false)

theorem NotLater.refl (s : State) : NotLater s s := ⟨rfl, id⟩

theorem NotLater.trans {s t u : State} (h : NotLater s t) (h' : NotLater t u) : NotLater s u :=
  ⟨h'.1.trans h.1, h'.2 ∘ h.2⟩

theorem notLater_pushQuiet (r : LogRec) (s : State) : NotLater s (pushQuiet r s) := by
  unfold pushQuiet
  split <;> exact .refl s

theorem notLater_raiseQuiet (n i : Nat) (d : List Nat) (s : State) : NotLater s (raiseQuiet n i d s) := by
  unfold raiseQuiet
  split
  · extract_lets t
    split
    · exact notLater_pushQuiet _ t
    · exact .refl s
  · exact .refl s

theorem notLater_raiseFault64 (s : State) : NotLater s (raiseFault64 s) := by
  unfold raiseFault64
  split
  · exact .refl s
  split
  · exact .refl s
  extract_lets t
  have ht : NotLater s t :=
    (notLater_pushQuiet (mkRec s 2 64 0xFFFF [0]) (captureRegs 64 s)).trans (notLater_raiseQuiet 201 0xFFFF [] _)
  split
  · have he : ¬ s.now + 1290 ≤ t.now := by rw [ht.1]; omega
    exact ⟨ht.1, fun _ => by simp only [resetOverdue, he, decide_false, Bool.and_false]⟩
  · exact ht

theorem notLater_pushRec (r : LogRec) (s : State) : NotLater s (pushRec r s) := by
  unfold pushRec
  split
  · exact .refl s
  · exact (notLater_raiseQuiet 208 0xFFFF [] (countDrop s)).trans (notLater_raiseFault64 _)

theorem notLater_raiseEvCore (n i : Nat) (d : List Nat) (s : State) : NotLater s (raiseEvCore n i d s) := by
  unfold raiseEvCore
  split
  · extract_lets t
    split
    · exact notLater_pushRec _ t
    · exact .refl s
  · exact .refl s

/-- An occurrence keeps the report section and the registers of what it computes from, and the clock of `s`. -/
theorem NotLater.frame {s t : State} (h : NotLater s t) : NotLater s { s with regs := t.regs, rep := t.rep } := by
  obtain ⟨hn, ho⟩ := h
  refine ⟨rfl, fun hs => ?_⟩
  have h' := ho hs
  unfold resetOverdue at h' ⊢
  rwa [hn] at h'

theorem notLater_raiseFaultCore (n : Nat) (s : State) : NotLater s (raiseFaultCore n s) := by
  unfold raiseFaultCore
  split
  · exact .refl s
  split
  · exact .refl s
  · exact (notLater_pushRec _ (captureRegs n s)).trans (notLater_raiseEvCore 201 0xFFFF [] _).frame

/-! ### Registers and captured faults -/

/-- From `s` to `t` only registers of `l`, reports and NETPM_STAT were written, and only faults of `F` (and FLT64, which
reports itself) were captured; nothing where `F` is empty. No Lodge reset became overdue. -/
def Acts (F l : List Nat) (s t : State) : Prop :=
  OnlyRegs l s t ∧ (F = [] → Calm s → Calm t) ∧ (∀ n ∈ t.rep.capture, n ∈ s.rep.capture ∨ n = 64 ∨ n ∈ F) ∧
    NotLater s t

section
variable {F l : List Nat} {s t : State}

theorem Acts.refl (F l : List Nat) (s : State) : Acts F l s s :=
  ⟨fun _ _ _ _ => rfl, fun _ h => h, fun _ h => .inl h, .refl s⟩

theorem Acts.only (h : Acts F l s t) : OnlyRegs l s t := h.1

theorem Acts.reg (h : Acts F l s t) {a : Nat} (hl : a ∉ l := by decide) (hr : reportReg a = false := by decide)
    (hn : a ≠ NETPM_STAT := by decide) : t.reg a = s.reg a := h.1 a hl hr hn

theorem Acts.fld (h : Acts F l s t) {a : Nat} (f : Fld) (hl : a ∉ l := by decide)
    (hr : reportReg a = false := by decide) (hn : a ≠ NETPM_STAT := by decide) : t.fld a f = s.fld a f :=
  congrArg (fget f) (h.reg hl hr hn)

theorem Acts.calm (h : Acts [] l s t) (hs : Calm s) : Calm t := h.2.1 rfl hs

theorem Acts.trans {u : State} (h : Acts F l s t) (h' : Acts F l t u) : Acts F l s u := by
  obtain ⟨ho, hc, hf, hl⟩ := h
  obtain ⟨ho', hc', hf', hl'⟩ := h'
  refine ⟨fun a ha hr hn => (ho' a ha hr hn).trans (ho a ha hr hn), fun hF hs => hc' hF (hc hF hs), fun n hn => ?_,
    hl.trans hl'⟩
  rcases hf' n hn with h | h
  · exact hf n h
  · exact .inr h

theorem Acts.mono {l' : List Nat} (h : Acts F l s t) (hl : ∀ a ∈ l, a ∈ l') : Acts F l' s t :=
  ⟨fun a ha => h.1 a fun hx => ha (hl a hx), h.2⟩

/-- What captures nothing acts for any list of faults. -/
theorem Acts.widen (h : Acts [] l s t) : Acts F l s t :=
  by
  obtain ⟨ho, hc, hf, hl⟩ := h
  exact ⟨ho, fun _ => hc rfl, fun n hn => (hf n hn).imp id (Or.imp id fun x => absurd x List.not_mem_nil), hl⟩

/-- Every captured fault was captured before or is FLT64 or is in `F`: all of them are notice-only where those in `F`
are. -/
theorem Acts.noticed (h : Acts F l s t) (hs : Calm s) (hF : ∀ n ∈ F, n < 96 ∧ FAULT_CFG n ∉ l ∧ actingReact s n = 0) :
    Noticed t := by
  intro n hn
  obtain ⟨ho, -, hf, -⟩ := h
  rcases hf n hn with hx | rfl | hx
  · rw [hs] at hx
    cases hx
  · exact ⟨by decide, rfl⟩
  · obtain ⟨h96, hl, hr⟩ := hF n hx
    refine ⟨h96, Eq.trans ?_ hr⟩
    unfold actingReact State.fld
    rw [ho _ hl (reportReg_faultCfg h96) (by simp only [FAULT_CFG, NETPM_STAT]; omega)]

theorem Acts.now (h : Acts F l s t) : t.now = s.now := h.2.2.2.1

theorem Acts.notOverdue (h : Acts F l s t) (hs : resetOverdue s = false) : resetOverdue t = false := h.2.2.2.2 hs

theorem acts_foldl {β : Type} {g : State → β → State} (L : List β) (hg : ∀ u, ∀ x ∈ L, Acts F l s u → Acts F l s (g u x))
    (h : Acts F l s t) : Acts F l s (L.foldl g t) :=
  List.foldlRecOn L g (motive := Acts F l s) h fun u hu x hx => hg u x hx hu

theorem acts_ite {c : Prop} [Decidable c] {u : State} (ht : c → Acts F l s t) (hu : ¬ c → Acts F l s u) :
    Acts F l s (if c then t else u) := by
  split
  · exact ht ‹_›
  · exact hu ‹_›

section
variable (h : Acts F l s t)
include h

theorem acts_setReg {a : Nat} (v : Word) (ha : a ∈ l) : Acts F l s (State.setReg a v t) :=
  h.trans ⟨fun _ hb _ _ => State.reg_setReg_other t v fun e => hb (e ▸ ha), fun _ h => h, fun _ h => .inl h,
    .refl t⟩

theorem acts_setFld {a : Nat} (f : Fld) (x : Nat) (ha : a ∈ l) : Acts F l s (State.setFld a f x t) := acts_setReg h _ ha

theorem acts_setFlag {a : Nat} (f : Fld) (b : Bool) (ha : a ∈ l) : Acts F l s (State.setFlag a f b t) :=
  acts_setFld h f _ ha

theorem acts_incFld {a : Nat} (f : Fld) (ha : a ∈ l) : Acts F l s (State.incFld a f t) := acts_setFld h f _ ha

theorem acts_raiseEv {n : Nat} (i : Nat) (hn : n < 256) : Acts F l s (raiseEv n i t) :=
  h.trans ⟨fun a _ hr _ => raiseEv_regs n i t hn a hr, fun _ hc => raiseEv_calm n i t hc,
    fun _ hx => (mem_capture_raiseEv n i t hx).symm.imp id .inl,
    (notLater_raiseEvCore n i [] t).frame⟩

theorem acts_raiseEvData {n : Nat} (i : Nat) (d : List Nat) (hn : n < 256) : Acts F l s (raiseEvData n i d t) :=
  h.trans ⟨fun a _ hr _ => raiseEvData_regs n i d t hn a hr, fun _ hc => raiseEvData_calm n i d t hc,
    fun _ hx => (mem_capture_raiseEvCore n i d t hx).symm.imp id .inl,
    (notLater_raiseEvCore n i d t).frame⟩

theorem acts_logOther (r : LogRec) : Acts F l s (logOther r t) :=
  h.trans ⟨fun a _ hr _ => logOther_regs r t a hr, fun _ hc => logOther_calm r t hc,
    fun _ hx => (mem_capture_pushRec r t hx).symm.imp id .inl,
    (notLater_pushRec r t).frame⟩

theorem acts_dieEv (d : Nat) {n : Nat} (i : Nat) (hn : n < 256) : Acts F l s (dieEv d n i t) := by
  unfold dieEv
  split
  · exact acts_raiseEv h i hn
  · exact h

theorem acts_dieEvData (d : Nat) {n : Nat} (i : Nat) (x : List Nat) (hn : n < 256) :
    Acts F l s (dieEvData d n i x t) := by
  unfold dieEvData
  split
  · exact acts_raiseEvData h i x hn
  · exact h

theorem acts_raiseFault {n : Nat} (hn : n < 96) (hF : n ∈ F) : Acts F l s (raiseFault n t) :=
  h.trans ⟨fun a _ hr _ => raiseFault_regs n t hn a hr, fun e _ => absurd hF (by simp [e]),
    fun m hm => (mem_capture_raiseFault n t hm).elim (fun e => .inr (.inr (e ▸ hF)))
      fun hx => hx.symm.imp id .inl, (notLater_raiseFaultCore n t).frame⟩

theorem acts_dieFault (d : Nat) {n : Nat} (hn : n < 96) (hF : n ∈ F) : Acts F l s (dieFault d n t) := by
  unfold dieFault
  split
  · exact acts_raiseFault h hn hF
  · exact h

end
end

/-! ### The state a command ends in -/

/-- The state that command `c` ends in at `s`. -/
def stateAfter (c : Instr) (s : State) : State :=
  match exec c s with
  | .next t => t
  | _ => s

theorem Runs.after {c : Instr} {s : State} {P : State → Prop} (h : Runs c s P) : P (stateAfter c s) := by
  obtain ⟨t, ht, hP⟩ := h
  unfold stateAfter
  rwa [ht]

/-- A command that began at `s` with the effect `u` has ended in `t`: as `u` but for reports, the maximum-awake timer, the
queue, the clock, memory and the registers of the instant before. -/
structure Settled (s u t : State) : Prop where
  regs : ∀ a, reportReg a = false → a ≠ NETPM_STAT → t.reg a = u.reg a
  frame : t = { u with regs := t.regs, rep := t.rep, net := t.net, pending := s.pending, now := s.now, mem := t.mem, prev := s.regs }

section
variable {c : Instr} {s u : State} {P : State → Prop}

theorem runs_of_calm (hx : exec c s = finish s u) (hu : Calm u) (hP : ∀ t, Settled s u t → t.mem = s.mem → P t) :
    Runs c s P := by
  obtain ⟨t, ht, hr, hf⟩ := finish_of_calm s u hu
  have hm : t.mem = s.mem := by rw [hf]
  exact ⟨t, hx.trans ht, hP t ⟨hr, hf.trans (by rw [hm])⟩ hm⟩

theorem runsMem_of_calm (hx : exec c s = finishMem s u) (hu : Calm u) (hP : ∀ t, Settled s u t → t.mem = u.mem → P t) :
    Runs c s P := by
  obtain ⟨t, ht, hr, hf⟩ := finishMem_of_calm s u hu
  have hm : t.mem = u.mem := by rw [hf]
  exact ⟨t, hx.trans ht, hP t ⟨hr, hf.trans (by rw [hm])⟩ hm⟩

theorem runs_of_noticed (hx : exec c s = finish s u) (hu : Noticed u) (hd : resetOverdue u = false)
    (hP : ∀ t, Settled s u t → t.mem = s.mem → P t) : Runs c s P := by
  obtain ⟨t, ht, hr, hf⟩ := finish_of_noticed s u hu hd
  have hm : t.mem = s.mem := by rw [hf]
  exact ⟨t, hx.trans ht, hP t ⟨hr, hf.trans (by rw [hm])⟩ hm⟩

end

namespace Settled
variable {s u t : State} (h : Settled s u t)
include h

theorem fld {a : Nat} (f : Fld) (hr : reportReg a = false := by decide) (hn : a ≠ NETPM_STAT := by decide) :
    t.fld a f = u.fld a f := by
  unfold State.fld
  rw [h.regs a hr hn]

theorem onlyRegs {F l : List Nat} (ha : Acts F l s u) : OnlyRegs l s t :=
  fun a hl hr hn => (h.regs a hr hn).trans (ha.only a hl hr hn)

theorem sup : t.sup = u.sup := by rw [h.frame]
theorem start : t.start = u.start := by rw [h.frame]
theorem lock : t.lock = u.lock := by rw [h.frame]

end Settled
end Sys2Proof.Machine
end

section
/-! The supply: bands of VBAT, reverse battery, LV and the reservoir (§03). -/

namespace Sys2Proof.Machine

section
variable {F l : List Nat} {s t : State} (h : Acts F l s t)
include h

theorem acts_seeVolts (vbat vres : Nat) (hl : SUPPLY_VOLT ∈ l) : Acts F l s (seeVolts vbat vres t) :=
  acts_setFld (acts_setFld h _ _ hl) _ _ hl

theorem acts_setBoost : Acts F l s (setBoost t) := h

theorem acts_enterRide (hs : SUPPLY_RES_STAT ∈ l) (hc : SUPPLY_RIDE_CNT ∈ l) : Acts F l s (enterRide t) :=
  acts_dieEv (acts_setFld (acts_incFld (acts_setFld h _ _ hs) _ hc) _ _ hc) _ _ (by decide)

theorem acts_resTo (x : Nat) (hs : SUPPLY_RES_STAT ∈ l) (hc : SUPPLY_RIDE_CNT ∈ l) : Acts F l s (resTo x t) := by
  have hx : Acts F l s (if x = resRide then enterRide t else setResState x t) :=
    acts_ite (fun _ => acts_enterRide h hs hc) fun _ => acts_setFld h _ _ hs
  unfold resTo
  extract_lets was t1 sup t2
  split
  · exact h
  have h2 : Acts F l s t2 := by
    simp only [t2]
    split
    · exact hx
    split <;> exact hx
  refine acts_setBoost (acts_ite (fun _ => acts_dieEv h2 _ _ (by decide)) fun _ => h2)

theorem acts_ridesOn (hs : SUPPLY_RES_STAT ∈ l) (hc : SUPPLY_RIDE_CNT ∈ l) : Acts F l s (ridesOn t) :=
  acts_setBoost (acts_ite (fun _ => acts_resTo h _ hs hc) fun _ => h)

end

theorem seeVolts_band (vbat vres : Nat) (s : State) :
    (seeVolts vbat vres s).fld SUPPLY_STAT SUPPLY_STAT_BAND = s.fld SUPPLY_STAT SUPPLY_STAT_BAND :=
  (acts_seeVolts (.refl [] [SUPPLY_VOLT] s) vbat vres List.mem_cons_self).fld _

theorem nextBand_of_short (s : State) {mv dur : Nat} (h : dur < 5000) :
    nextBand s mv dur = s.fld SUPPLY_STAT SUPPLY_STAT_BAND := by
  have hb : s.fld SUPPLY_STAT SUPPLY_STAT_BAND < 4 := BitVec.isLt _
  unfold nextBand
  split
  case h_4 h3 h2 h1 =>
    rw [if_neg (by omega)]
    change ¬ _ at h1 h2 h3
    omega
  all_goals simp only [*]
  · rw [if_neg (by omega)]
  · rw [if_neg (by omega), if_neg (by omega)]
  · rw [if_neg (by omega), if_neg (by omega)]

/-- The registers that a change between Full and Reduced may write. -/
abbrev bandRegs : List Nat := [SUPPLY_STAT, SUPPLY_VOLT, SUPPLY_RES_STAT, SUPPLY_RIDE_CNT]

/-- VBAT takes the band from `a` to `b`, whose entry writes the reservoir's registers only. -/
theorem vbat_moves {s : State} {mv dur a b : Nat} (ha : s.fld SUPPLY_STAT SUPPLY_STAT_BAND = a)
    (hn : nextBand (seeVolts mv s.sup.vres s) mv dur = b) (hab : b ≠ a) (hb : b < 4)
    (he : ∀ t, Acts [] [SUPPLY_RES_STAT, SUPPLY_RIDE_CNT] t (enterBand a b t)) :
    Acts [] bandRegs s (vbatBandChange mv dur s) ∧ (vbatBandChange mv dur s).fld SUPPLY_STAT SUPPLY_STAT_BAND = b := by
  have hv := (seeVolts_band mv s.sup.vres s).trans ha
  have h0 := acts_setFld (acts_seeVolts (.refl [] bandRegs s) mv s.sup.vres (by decide)) SUPPLY_STAT_BAND b
    (show SUPPLY_STAT ∈ bandRegs by decide)
  have hx : vbatBandChange mv dur s = enterBand a b (dieEv 5 0 0xFFFF
      (State.setFld SUPPLY_STAT SUPPLY_STAT_BAND b (seeVolts mv s.sup.vres s))) := by
    simp only [vbatBandChange, bandTo, hn, hv, if_neg hab]
  rw [hx]
  refine ⟨(acts_dieEv h0 5 (n := 0) 0xFFFF (by decide)).trans ((he _).mono (by decide)), ?_⟩
  rw [(he _).fld, (acts_dieEv (.refl [] [] _) 5 (n := 0) 0xFFFF (by decide)).fld,
    State.fld_setFld_same _ _ _ _ (by decide)]
  exact Nat.mod_eq_of_lt hb

theorem vbat_falls {s : State} {mv dur : Nat} (hb : s.fld SUPPLY_STAT SUPPLY_STAT_BAND = 2) (hm : mv < 8000)
    (hd : 10000 ≤ dur) : Acts [] bandRegs s (vbatBandChange mv dur s) ∧
      (vbatBandChange mv dur s).fld SUPPLY_STAT SUPPLY_STAT_BAND = 1 := by
  have hv := (seeVolts_band mv s.sup.vres s).trans hb
  have hn : nextBand (seeVolts mv s.sup.vres s) mv dur = 1 := by
    simp only [nextBand, hv]
    rw [if_neg (by omega), if_pos ⟨hm, hd⟩]
  exact vbat_moves hb hn (by decide) (by decide) fun t => acts_ridesOn (.refl _ _ t) (by decide) (by decide)

theorem vbat_rises {s : State} {mv dur : Nat} (hb : s.fld SUPPLY_STAT SUPPLY_STAT_BAND = 1) (hm : 8500 < mv)
    (hd : 10000 ≤ dur) : Acts [] bandRegs s (vbatBandChange mv dur s) ∧
      (vbatBandChange mv dur s).fld SUPPLY_STAT SUPPLY_STAT_BAND = 2 := by
  have hv := (seeVolts_band mv s.sup.vres s).trans hb
  have hn : nextBand (seeVolts mv s.sup.vres s) mv dur = 2 := by
    simp only [nextBand, hv]
    rw [if_pos ⟨hm, hd⟩]
  exact vbat_moves hb hn (by decide) (by decide) fun t =>
    acts_ite (fun _ => acts_setBoost (acts_resTo (.refl _ _ t) _ (by decide) (by decide))) fun _ => .refl _ _ t

theorem vbat_short {s : State} {mv dur : Nat} (hd : dur < 5000) : vbatBandChange mv dur s = seeVolts mv s.sup.vres s := by
  simp only [vbatBandChange, nextBand_of_short _ hd]
  exact if_pos rfl

theorem reverseDetected_band0 {s : State} {mv : Int} {dur : Nat} (hm : mv < -300) (hd : 2000 ≤ dur)
    (hr : s.fld SUPPLY_STAT SUPPLY_STAT_RVACT = 0) (hb : s.fld SUPPLY_STAT SUPPLY_STAT_BAND = 0) :
    reverseDetected mv dur s = dieFault 5 26 (dieEv 5 1 0xFFFF (State.setFlag SUPPLY_STAT SUPPLY_STAT_RVACT true
      (State.setFlag SUPPLY_STAT SUPPLY_STAT_REVERSE true { s with sup := { s.sup with gate := false } }))) := by
  unfold reverseDetected
  rw [if_pos ⟨hm, hd, by simp [State.flag, hr]⟩]
  refine if_pos ?_
  rw [(acts_dieFault (acts_dieEv (.refl [26] [] _) 5 0xFFFF _) 5 _ _).fld]
  · simp (disch := decide) only [State.setFlag, State.fld_setFld_field]
    exact hb.symm
  all_goals decide

/-- Asserting LRST resets the Lodge. -/
theorem lvUndervoltage_resets {s : State} {mv dur : Nat} (hm : mv < 4200) (hd : 2000 ≤ dur) (hp : lowPower s = false)
    (hl : s.start.lodgeDown = false) : lvUndervoltage mv dur s =
      { lodgeResetWarm s with sup := { (lodgeResetWarm s).sup with lvLow := true } } := by
  unfold lvUndervoltage
  rw [if_pos ⟨hm, hd, by rw [hp]; rfl⟩]
  simp only [hl]
  rfl

/-- What a released LRST shows. -/
theorem releaseLrst_lrst (s : State) : (releaseLrst s).lock.lrst = false := by
  unfold releaseLrst
  split
  · rfl
  · next h => exact Bool.eq_false_iff.2 h

/-! ### What a die that falls silent leaves alone -/

theorem rep_lfStop (s : State) : (lfStop s).rep = s.rep :=
  proj_foldl State.rep (fun t a => by unfold lfOff; split <;> rfl) _ _

theorem rep_bankLimp (b : Nat) (s : State) : (bankLimp b s).rep = s.rep := by
  unfold bankLimp
  split
  · rfl
  extract_lets t u
  split
  · unfold foSuspend
    exact proj_foldl State.rep (fun t o => (by rfl)) _ u
  · rfl

theorem rep_dieSilent (d : Nat) (s : State) : (dieSilent d s).rep = s.rep := by
  unfold dieSilent
  split
  · rfl
  extract_lets t u
  have hu : u.rep = s.rep := (proj_foldl State.rep (fun t b => rep_bankLimp b t) (banksOf d) t).trans rfl
  split
  · exact (rep_lfStop u).trans hu
  · exact hu

theorem rep_releaseLrst (s : State) : (releaseLrst s).rep = s.rep := by
  unfold releaseLrst
  split
  · exact proj_foldl State.rep (fun t d => rep_dieSilent d t) [0, 1, 2, 3, 4] s
  · rfl

/-- Settles O1, command by command: each effect with the registers it may write, then the end of the command. -/
theorem supplyBands : Obligations.SupplyBands := by
  refine ⟨fun mv dur s hc hb hm hd => ?_, fun mv dur s hc hb hm hd => ?_, fun mv dur s hc hd => ?_,
    fun mv dur s hc hm hd hv hb hr ho => ?_, fun mv dur s hc hm hd => ?_, fun mv dur s hc hm hd hp hl => ?_,
    fun mv dur s hc hm hd hl hp => ?_⟩
  · obtain ⟨ha, hf⟩ := vbat_falls hb hm hd
    exact runs_of_calm rfl (ha.calm hc) fun t ht _ => ⟨(ht.fld _).trans hf, ht.onlyRegs ha⟩
  · obtain ⟨ha, hf⟩ := vbat_rises hb hm hd
    exact runs_of_calm rfl (ha.calm hc) fun t ht _ => ⟨(ht.fld _).trans hf, ht.onlyRegs ha⟩
  · have ha := acts_seeVolts (.refl [] bandRegs s) mv s.sup.vres (by decide)
    have hx : exec (.vbatBandChange mv dur) s = finish s (seeVolts mv s.sup.vres s) :=
      congrArg (finish s) (vbat_short hd)
    exact runs_of_calm hx (ha.calm hc) fun t ht _ => ⟨(ht.fld _).trans (seeVolts_band _ _ _), ht.onlyRegs ha⟩
  · have hx : exec (.reverseDetected mv dur) s = finish s _ := congrArg (finish s) (reverseDetected_band0 hm hd hv hb)
    generalize hw : State.setFlag SUPPLY_STAT SUPPLY_STAT_RVACT true (State.setFlag SUPPLY_STAT SUPPLY_STAT_REVERSE true
      { s with sup := { s.sup with gate := false } }) = w at hx
    have hw' : Acts [26] [SUPPLY_STAT] s w :=
      hw ▸ acts_setFlag (acts_setFlag (.refl [26] [SUPPLY_STAT] s) _ _ (by decide)) _ _ (by decide)
    have ha := acts_dieFault (acts_dieEv hw' 5 (n := 1) 0xFFFF (by decide)) 5 (n := 26) (by decide) (by decide)
    have hk := acts_dieFault (acts_dieEv (.refl [26] [] w) 5 (n := 1) 0xFFFF (by decide)) 5 (n := 26) (by decide) (by decide)
    refine runs_of_noticed hx (ha.noticed hc (by simpa [FAULT_CFG, SUPPLY_STAT] using hr)) (ha.notOverdue ho) fun t ht _ => ?_
    · refine ⟨(ht.fld _).trans ?_, (ht.fld _).trans ?_, (ht.fld _).trans ?_, ?_, ht.onlyRegs ha⟩
      · rw [hk.fld, ← hw]
        simp (disch := decide) only [State.setFlag, State.fld_setFld_same]
        rfl
      · rw [hk.fld, ← hw]
        simp (disch := decide) only [State.setFlag, State.fld_setFld_field, State.fld_setFld_same]
        rfl
      · rw [hk.fld, ← hw]
        simp (disch := decide) only [State.setFlag, State.fld_setFld_field]
        exact hb
      · rw [ht.sup, dieFault_frame, dieEv_frame, ← hw]
        rfl
  · have hx : exec (.reverseCleared mv dur) s = finish s _ := congrArg (finish s) (if_pos ⟨hm, hd⟩)
    have ha := acts_setFlag (.refl [] [SUPPLY_STAT] s) SUPPLY_STAT_RVACT false (List.mem_cons_self)
    refine runs_of_calm hx (ha.calm hc) fun t ht _ => ⟨(ht.fld _).trans ?_, by rw [ht.sup]; rfl, ht.onlyRegs ha⟩
    exact State.fld_setFld_same _ _ _ _ (by decide)
  · have hx : exec (.lvUndervoltageReset mv dur) s = finish s _ := congrArg (finish s) (lvUndervoltage_resets hm hd hp hl)
    exact runs_of_calm hx rfl fun t ht _ => ⟨by rw [ht.start]; rfl, by rw [ht.lock]; rfl⟩
  · have hx : exec (.lodgeRestart mv dur) s = finish s _ :=
      congrArg (finish s) (if_pos ⟨hm, hd, hl, by rw [hp]; rfl⟩)
    refine runs_of_calm hx ?_ fun t ht _ => ⟨by rw [ht.lock]; exact releaseLrst_lrst s, by rw [ht.start]⟩
    exact (congrArg Report.capture (rep_releaseLrst s)).trans hc

end Sys2Proof.Machine
end

section
-- Kernel evaluations in the background would each hold a thread with its stack.
set_option Elab.async false
/-! Commands that write a register over the Lodge bus while a check unit listens: before it takes the access, a unit whose
run has taken its bytes stores its result (R461, R462), so registers of the unit change that the statements' lists of
registers leave out. -/

namespace Sys2Proof.Machine
open Sys2Proof.Tests (up)

/-- A register outside the list that the command changes. -/
theorem not_onlyRegs_of_changed {s t : State} {l : List Nat} (a : Nat) (hne : t.reg a ≠ s.reg a) (hl : a ∉ l)
    (hr : reportReg a = false) (hn : a ≠ NETPM_STAT) : ¬ OnlyRegs l s t :=
  fun ho => hne (ho a hl hr hn)

/-- Check unit 0 runs over the writes of address `a` and has taken the 4 bytes of its run. -/
def listening (a : Nat) (s : State) : State :=
  State.modCu 0 (fun x => { x with taken := 4 }) (State.setReg (CU_BASE 0) (BitVec.ofNat 32 a)
    (State.setReg (CU_LEN 0) 4#32 (State.setFld (CU_STAT 0) CU_STAT_BUSY 1 s)))

/-- No subsystem is enabled. -/
def idle : State := State.setFld CHECK_EN CHECK_EN_ENABLE 0 up

/-- Refutes O2: the write of BOOST_EN is an access that a check unit may take, whose result then goes into CU_STAT. -/
theorem not_reservoirStates : ¬ Obligations.ReservoirStates := by
  intro ⟨h, _⟩
  obtain ⟨_, ho⟩ := (h 0 true (listening (SUPPLY_RES_CFG + setView) idle) (by decide +kernel) (by decide +kernel)
    (by decide +kernel) (by decide +kernel) (by decide +kernel) (by decide +kernel)).after
  exact not_onlyRegs_of_changed (CU_STAT 0) (by decide +kernel) (by decide) (by decide) (by decide) ho

/-- Refutes O3: the write that turns a camera rail off is an access that a check unit may take. -/
theorem not_shedAndRails : ¬ Obligations.ShedAndRails := by
  intro ⟨_, _, _, h, _⟩
  obtain ⟨_, _, _, _, ho⟩ := (h 0 2 (listening (CR_CFG 2 + clearView) idle) (by decide +kernel) (by decide +kernel)
    (by decide +kernel) (by decide +kernel) (by decide +kernel)).after
  exact not_onlyRegs_of_changed (CU_STAT 0) (by decide +kernel) (by decide) (by decide) (by decide) ho

/-- Controller 7 is in bus-off, in manual mode. -/
def manualBusOff : State := State.setFld (CAN_CTRL 7) CAN_CTRL_BO_MODE 1 (State.setFld (CAN_ERR 7) CAN_ERR_STATE 2 up)

/-- Refutes O18: the write of BO_REQ is an access that a check unit may take. -/
theorem not_canConfinement : ¬ Obligations.CanConfinement := by
  intro ⟨_, _, _, h, _⟩
  obtain ⟨_, ho⟩ := (h 0 7 (listening (CAN_CTRL 7 + setView) manualBusOff) (by decide +kernel) (by decide +kernel)
    (by decide +kernel) (by decide +kernel) (by decide +kernel) (by decide +kernel)).after
  exact not_onlyRegs_of_changed (CU_STAT 0) (by decide +kernel) (by decide) (by decide) (by decide) ho

/-- Refutes O21: the write of REQ of a transceiver is an access that a check unit may take. -/
theorem not_networkWakesAndSleep : ¬ Obligations.NetworkWakesAndSleep := by
  intro ⟨_, _, _, _, _, _, h, _⟩
  obtain ⟨_, _, ho⟩ := (h 0 17 (fput NETPM_XCV_REQ 3 0#32) (listening (NETPM_XCV 17) idle) (by decide +kernel)
    (by decide +kernel) (by decide +kernel) (by decide +kernel) (by decide +kernel) (by decide +kernel)).after
  exact not_onlyRegs_of_changed (CU_STAT 0) (by decide +kernel) (by decide) (by decide) (by decide) ho

end Sys2Proof.Machine
end

section
-- Kernel evaluations in the background would each hold a thread with its stack.
set_option Elab.async false
/-! Silence, claims and moor frames (§01, §04, §12). -/

namespace Sys2Proof.Machine
open Sys2Proof.Tests (up)

/-- A running module with no bank moored whose claim of bank 0 still waits in the send queue of Culvert 0. -/
def claimWaits : State := { up with cvs := Tab.put up.cvs {} 0 { down := { queue := [.claim 0] } } }

/-- Refutes O15: a moor frame queues behind a frame that waits in its lane, so the bank is not moored by the command. -/
theorem not_silenceAndClaims : ¬ Obligations.SilenceAndClaims := by
  intro ⟨_, _, _, _, _, h, _⟩
  obtain ⟨hm, _⟩ := (h 0 0 claimWaits (by decide +kernel) (by decide +kernel) (by decide +kernel) (by decide +kernel)).after
  exact absurd hm (by decide +kernel)

end Sys2Proof.Machine
end

section
/-! The registers of a Tiller engine over the instructions that follow: what a result in flight reads as until and when
it lands (R285 to R287), and the instructions that only compute (§11). -/

namespace Sys2Proof.Machine

/-! ### One register and the results on their way to it -/

/-- The results in flight for register `r`. -/
def Engine.flightOf (r : Fin 32) (g : Engine) : List (Nat × Word × Nat) := g.flight.filter fun w => w.1 == r.val

/-- Register `r` reads alike in `g` and `h`, with the same results on their way to it. -/
def Engine.SameAt (r : Fin 32) (g h : Engine) : Prop := g.x r = h.x r ∧ g.flightOf r = h.flightOf r

/-- Only the results for register `r` count for what it reads as after they have landed. -/
theorem get_landedIn (r : Nat) (l : List (Nat × Word × Nat)) {regs regs' : Tab Word}
    (h : Tab.get regs 0#32 r = Tab.get regs' 0#32 r) :
    Tab.get (landedIn l regs) 0#32 r = Tab.get (landedIn (l.filter fun w => w.1 == r) regs') 0#32 r := by
  induction l generalizing regs regs' with
  | nil => exact h
  | cons w rest ih =>
    by_cases hw : w.1 = r
    · subst hw
      simp only [List.filter_cons, beq_self_eq_true, if_true, landedIn, List.foldl_cons]
      exact ih (by rw [Tab.get_put_same, Tab.get_put_same])
    · simp only [List.filter_cons, beq_eq_false_iff_ne.2 hw, Bool.false_eq_true, if_false]
      exact ih ((Tab.get_put_other _ _ _ _ (Ne.symm hw)).trans h)

theorem Engine.x_zero (g : Engine) : g.x 0 = 0#32 := rfl

theorem Engine.x_of_ne (g : Engine) {r : Fin 32} (h : r ≠ 0) : g.x r = Tab.get g.ctx.regs 0#32 r.val :=
  if_neg fun h0 => h (Fin.ext h0)

/-- A result in flight, one instruction nearer. -/
def nearer (w : Nat × Word × Nat) : Nat × Word × Nat := (w.1, w.2.1, w.2.2 - 1)

/-- What an issue lands in register `r`. -/
theorem Engine.x_issue (g : Engine) {r : Fin 32} (h : r ≠ 0) : g.issue.x r =
    Tab.get (landedIn (((g.flightOf r).map nearer).filter fun w => w.2.2 == 0) g.ctx.regs) 0#32 r.val := by
  rw [x_of_ne _ h, Engine.ctx_issue]
  refine (get_landedIn r.val _ rfl).trans ?_
  rw [List.filter_filter]
  unfold aged flightOf
  rw [List.filter_map, List.filter_map, List.filter_filter]
  simp only [nearer, Function.comp_def, Bool.and_comm]
  rfl

theorem Engine.flightOf_issue (g : Engine) (r : Fin 32) :
    g.issue.flightOf r = ((g.flightOf r).map nearer).filter fun w => w.2.2 != 0 := by
  unfold flightOf
  rw [Engine.flight_issue, List.filter_filter]
  unfold aged
  rw [List.filter_map, List.filter_map, List.filter_filter]
  simp only [nearer, Function.comp_def, Bool.and_comm]
  rfl

theorem Engine.SameAt.issue {r : Fin 32} {g h : Engine} (H : g.SameAt r h) : g.issue.SameAt r h.issue := by
  obtain ⟨hx, hf⟩ := H
  refine ⟨?_, by rw [flightOf_issue, flightOf_issue, hf]⟩
  by_cases h0 : r = 0
  · subst h0
    rfl
  · rw [x_issue _ h0, x_issue _ h0, hf]
    rw [x_of_ne _ h0, x_of_ne _ h0] at hx
    exact (get_landedIn r.val _ hx).trans (get_landedIn r.val _ rfl).symm

theorem Engine.SameAt.agedBy {r : Fin 32} {g h : Engine} (H : g.SameAt r h) (n : Nat) :
    (g.agedBy n).SameAt r (h.agedBy n) := by
  induction n generalizing g h with
  | zero => exact H
  | succ n ih => exact ih H.issue

/-! ### A result on its way -/

/-- Until the `d`-th later instruction a result leaves its register as it reads; then it is there. -/
theorem Engine.x_agedBy_of_flightOf {r : Fin 32} (h0 : r ≠ 0) {v : Word} (d : Nat) {g : Engine}
    (h : g.flightOf r = [(r.val, v, d + 1)]) :
    (∀ n, n < d + 1 → (g.agedBy n).x r = g.x r) ∧ (g.agedBy (d + 1)).x r = v := by
  induction d generalizing g with
  | zero =>
    refine ⟨fun n hn => by obtain rfl : n = 0 := by omega
                           rfl, ?_⟩
    show g.issue.x r = v
    rw [x_issue g h0, h]
    exact Tab.get_put_same _ _ _ _
  | succ d ih =>
    have hf : g.issue.flightOf r = [(r.val, v, d + 1)] := by rw [flightOf_issue, h]; rfl
    have hx : g.issue.x r = g.x r := by
      rw [x_issue g h0, h, x_of_ne g h0]
      rfl
    obtain ⟨hbefore, hat⟩ := ih hf
    refine ⟨fun n hn => ?_, hat⟩
    cases n with
    | zero => rfl
    | succ n => exact (hbefore n (by omega)).trans hx

/-- `g` with a result for `rd` of distance `d`, in whatever place it goes on. -/
def Engine.gets (g h : Engine) (rd : Fin 32) (d : Nat) (v : Word) : Prop :=
  h.flight = (g.result rd v d).flight ∧ h.ctx.regs = g.ctx.regs

theorem Engine.ctx_result (r : Fin 32) (v : Word) (d : Nat) (g : Engine) : (g.result r v d).ctx = g.ctx := by
  unfold result
  split <;> rfl

theorem Engine.x_gets {g h : Engine} {rd : Fin 32} {d : Nat} {v : Word} (H : g.gets h rd d v) (r : Fin 32) :
    h.x r = g.x r := by
  unfold Engine.x
  rw [H.2]

theorem Engine.flightOf_result_same {g : Engine} {rd : Fin 32} (h0 : rd ≠ 0) (v : Word) (d : Nat) :
    (g.result rd v d).flightOf rd = [(rd.val, v, d)] := by
  have h : rd.val ≠ 0 := fun e => h0 (Fin.ext e)
  simp only [flightOf, result, if_neg h, List.filter_append, List.filter_filter]
  have hn : (g.flight.filter fun w => (w.1 == rd.val) && (w.1 != rd.val)) = [] := by
    simp [List.filter_eq_nil_iff]
  rw [hn]
  simp

theorem Engine.flightOf_result_other {g : Engine} {rd r : Fin 32} (h : r ≠ rd) (v : Word) (d : Nat) :
    (g.result rd v d).flightOf r = g.flightOf r := by
  have hv : rd.val ≠ r.val := fun e => h (Fin.ext e.symm)
  unfold result
  split
  · rfl
  · simp only [flightOf, List.filter_append, List.filter_filter]
    have hs : (g.flight.filter fun w => (w.1 == r.val) && (w.1 != rd.val)) = g.flight.filter fun w => w.1 == r.val := by
      refine List.filter_congr fun w _ => ?_
      by_cases hw : w.1 = r.val
      · simp [hw, Ne.symm hv]
      · simp [hw]
    rw [hs]
    simp [hv]

/-- An engine that an instruction leaves with a result for `rd` of distance `d`, and with nothing else for its registers,
gives `v` to `rd`. -/
theorem gives_of_gets {s t : State} {e : Nat} {rd : Fin 32} {d : Nat} {v : Word} (hd : 0 < d)
    (H : (s.eng e).issue.gets (t.eng e) rd d v) : Gives s t e rd d v := by
  obtain ⟨d, rfl⟩ : ∃ n, d = n + 1 := ⟨d - 1, by omega⟩
  have hx := Engine.x_gets H
  have hfl : ∀ r, (t.eng e).flightOf r = ((s.eng e).issue.result rd v (d + 1)).flightOf r := fun r => by
    unfold Engine.flightOf
    rw [H.1]
  have hother : ∀ r, r ≠ rd → (t.eng e).SameAt r (s.eng e).issue := fun r hr =>
    ⟨hx r, (hfl r).trans (Engine.flightOf_result_other hr v _)⟩
  by_cases h0 : rd = 0
  · subst h0
    exact ⟨fun n _ => rfl, fun h => absurd rfl h, fun n r hr => ((hother r hr).agedBy n).1⟩
  · obtain ⟨hbefore, hat⟩ := Engine.x_agedBy_of_flightOf h0 d ((hfl rd).trans (Engine.flightOf_result_same h0 v _))
    exact ⟨fun n hn => (hbefore n hn).trans (hx rd), fun _ => hat, fun n r hr => ((hother r hr).agedBy n).1⟩

/-! ### Instructions that only compute -/

/-- The engine after an instruction that gives `v` to `rd` and goes on. -/
def Engine.computed (rd : Fin 32) (d : Nat) (v : Engine → Word) (g : Engine) : Engine :=
  ((g.issue.spend 1).result rd (v (g.issue.spend 1)) d).advance

theorem Engine.gets_computed (rd : Fin 32) (d : Nat) (v : Engine → Word) (g : Engine) :
    g.issue.gets (g.computed rd d v) rd d (v (g.issue.spend 1)) := by
  refine ⟨?_, ?_⟩
  · unfold computed advance
    rw [Engine.flight_mapCtx]
    unfold result
    split <;> rfl
  · unfold computed advance
    rw [Engine.ctx_mapCtx, Engine.ctx_result]
    rfl

theorem Engine.ctx_computed (rd : Fin 32) (d : Nat) (v : Engine → Word) (g : Engine) :
    (g.computed rd d v).ctx.pc = g.ctx.npc ∧ (g.computed rd d v).ctx.npc = g.ctx.npc + 4#32 ∧
      (g.computed rd d v).ctx.ds = false := by
  unfold computed advance
  rw [Engine.ctx_mapCtx, Engine.ctx_result, Engine.ctx_spend, Engine.ctx_issue]
  exact ⟨rfl, rfl, rfl⟩

theorem State.eng_modEng_other {e k : Nat} (h : k ≠ e) (f : Engine → Engine) (s : State) :
    (State.modEng e f s).eng k = s.eng k := Tab.get_mod_other _ _ _ h

theorem Settled.eng {s u t : State} (h : Settled s u t) (k : Nat) : t.eng k = u.eng k := by
  unfold State.eng
  rw [h.frame]

/-- An instruction that issues, is not barred and computes `v` for `rd`, yields it. -/
theorem yields_of_issue {c : Instr} {s : State} {e : Fin 9} {w : Word} {bars : Engine → Bool} {rd : Fin 32} {d : Nat}
    {v : Engine → Word} (hc : Calm s) (hi : Issues s e) (hd : 0 < d) (hb : bars (s.eng e) = false)
    (hx : exec c s = finish s (issueOn e w bars (State.modEng e fun g => (g.result rd (v g) d).advance) s)) :
    Yields c s e rd d (v ((s.eng e).issue.spend 1)) := by
  unfold issueOn at hx
  rw [issueBy_of_not_barred hi hb] at hx
  refine runs_of_calm hx hc fun t ht hm => ?_
  have he : t.eng e = (s.eng e).computed rd d v := by
    rw [ht.eng, State.eng_modEng_same, State.eng_modEng_same]
    rfl
  obtain ⟨hpc, hnpc, hds⟩ := Engine.ctx_computed rd d v (s.eng e)
  refine ⟨⟨by rw [he, hpc], by rw [he, hnpc], by rw [he, hds], fun k hk => ?_, ht.onlyRegs (.refl [] [] s), hm⟩, ?_⟩
  · rw [ht.eng, State.eng_modEng_other hk, State.eng_modEng_other hk]
  · exact gives_of_gets hd (he ▸ Engine.gets_computed rd d v (s.eng e))

section
variable {c : Instr} {s : State} {e : Fin 9} {rd : Fin 32}

theorem yields_of_regAlu {sub : Nat} {rs1 rs2 : Fin 32} {d : Nat} {f : Word → Word → Word} {v : Word} (hc : Calm s)
    (hi : Issues s e) (hd : 0 < d) (hx : exec c s = finish s (regAlu e sub rd rs1 rs2 d f s))
    (hv : f (sees s e rs1) (sees s e rs2) = v) : Yields c s e rd d v :=
  hv ▸ yields_of_issue (v := fun g => f (g.x rs1) (g.x rs2)) hc hi hd rfl hx

theorem yields_of_immAlu {op : Nat} {rs1 : Fin 32} {imm : BitVec 16} {f : Word → Word} {v : Word} (hc : Calm s)
    (hi : Issues s e) (hx : exec c s = finish s (immAlu e op rd rs1 imm f s)) (hv : f (sees s e rs1) = v) :
    Yields c s e rd 1 v :=
  hv ▸ yields_of_issue (v := fun g => f (g.x rs1)) hc hi (by decide) rfl hx

end

/-! ### The model's operations against those of R279 and R280 -/

theorem boolWord_ltS (a b : Word) : boolWord (ltS a b) = if a.toInt < b.toInt then 1#32 else 0#32 := by
  simp [boolWord, ltS, BitVec.slt]

theorem boolWord_ltU (a b : Word) : boolWord (ltU a b) = if a.toNat < b.toNat then 1#32 else 0#32 := by
  simp [boolWord, ltU, BitVec.ult]

theorem min_signed (a b : Word) : (if ltS b a then b else a) = BitVec.ofInt 32 (min a.toInt b.toInt) := by
  unfold ltS BitVec.slt
  split
  · next h => rw [min_eq_right (le_of_lt (of_decide_eq_true h)), BitVec.ofInt_toInt]
  · next h => rw [min_eq_left (not_lt.1 (of_decide_eq_false (Bool.eq_false_iff.2 h))), BitVec.ofInt_toInt]

theorem max_signed (a b : Word) : (if ltS a b then b else a) = BitVec.ofInt 32 (max a.toInt b.toInt) := by
  unfold ltS BitVec.slt
  split
  · next h => rw [max_eq_right (le_of_lt (of_decide_eq_true h)), BitVec.ofInt_toInt]
  · next h => rw [max_eq_left (not_lt.1 (of_decide_eq_false (Bool.eq_false_iff.2 h))), BitVec.ofInt_toInt]

theorem mul_eq_ofNat (a b : Word) : a * b = BitVec.ofNat 32 (a.toNat * b.toNat) :=
  BitVec.eq_of_toNat_eq (by simp [BitVec.toNat_mul])

theorem divU_eq (a b : Word) : divU a b = if b = 0#32 then 0#32 else BitVec.ofNat 32 (a.toNat / b.toNat) := by
  unfold divU
  split
  · next h => subst h; simp
  · rfl

/-- A signed comparison with an immediate is one with its value. -/
theorem boolWord_ltS_imm (a : Word) (imm : BitVec 16) :
    boolWord (ltS a (imm.signExtend 32)) = if a.toInt < imm.toInt then 1#32 else 0#32 := by
  rw [boolWord_ltS, BitVec.toInt_signExtend_of_le (by decide)]

theorem boolWord_ltU_imm (a : Word) (imm : BitVec 16) :
    boolWord (ltU a (imm.setWidth 32)) = if a.toNat < imm.toNat then 1#32 else 0#32 := by
  rw [boolWord_ltU, BitVec.toNat_setWidth_of_le (by decide)]

/-- SHK with the kinds 0 to 2. -/
theorem yields_of_shk {s : State} {e : Fin 9} {rd rs1 amt : Fin 32} (kind : Fin 4) (hc : Calm s) (hi : Issues s e)
    (hk : kind ≠ 3) : Yields (.shk e rd rs1 kind amt) s e rd 1 (shiftBy kind (sees s e rs1) amt) :=
  yields_of_issue (bars := fun _ => kind == 3) (v := fun g => shiftBy kind (g.x rs1) amt) hc hi (by decide)
    (by simpa using hk) rfl

/-- SHK with kind 3 traps as a reserved opcode. -/
theorem shk_reserved {s : State} {e : Fin 9} (rd rs1 amt : Fin 32) (hc : Calm s) (hi : Issues s e)
    (hh : (s.eng e).ctx.trap.inh = false) (hv : (s.eng e).evec ≠ absentEntry) :
    Runs (.shk e rd rs1 3 amt) s fun t => ∃ w, TookTrap s t e 1 w := by
  have hx : exec (.shk e rd rs1 3 amt) s = finish s (trapIssued e 1 _ s) :=
    congrArg (finish s) (issueBy_of_barred hi rfl)
  obtain ⟨u, hu, H⟩ := finish_trapIssued_reserved hc hh hv
  exact ⟨u, hx.trans hu, _, H⟩

/-- Settles O32: each instruction issues and gives `rd` the model's operation, which is that of R279 or R280. -/
theorem tillerRegisterInstructions : Obligations.TillerRegisterInstructions := by
  have h32 : ∀ a : Fin 32, a.val % 32 = a.val := fun a => Nat.mod_eq_of_lt a.isLt
  refine ⟨?add, ?sub, ?and, ?or, ?xor, ?shl, ?shr, ?sha, ?lts, ?ltu, ?min, ?max, ?mul, ?mhs, ?mhu, ?divs, ?divu, ?mods, ?modu,
    ?addk, ?andk, ?ork, ?xork, ?ltsk, ?ltuk, ?shk0, ?shk1, ?shk2, ?hi, ?shk3⟩
  case add => exact fun _ _ _ _ _ hc hi => yields_of_regAlu hc hi (by decide) rfl rfl
  case sub => exact fun _ _ _ _ _ hc hi => yields_of_regAlu hc hi (by decide) rfl rfl
  case and => exact fun _ _ _ _ _ hc hi => yields_of_regAlu hc hi (by decide) rfl rfl
  case or => exact fun _ _ _ _ _ hc hi => yields_of_regAlu hc hi (by decide) rfl rfl
  case xor => exact fun _ _ _ _ _ hc hi => yields_of_regAlu hc hi (by decide) rfl rfl
  case shl => exact fun _ _ _ _ _ hc hi => yields_of_regAlu hc hi (by decide) rfl rfl
  case shr => exact fun _ _ _ _ _ hc hi => yields_of_regAlu hc hi (by decide) rfl rfl
  case sha => exact fun _ _ _ _ _ hc hi => yields_of_regAlu hc hi (by decide) rfl rfl
  case lts => exact fun _ _ _ _ _ hc hi => yields_of_regAlu hc hi (by decide) rfl (boolWord_ltS _ _)
  case ltu => exact fun _ _ _ _ _ hc hi => yields_of_regAlu hc hi (by decide) rfl (boolWord_ltU _ _)
  case min => exact fun _ _ _ _ _ hc hi => yields_of_regAlu hc hi (by decide) rfl (min_signed _ _)
  case max => exact fun _ _ _ _ _ hc hi => yields_of_regAlu hc hi (by decide) rfl (max_signed _ _)
  case mul => exact fun _ _ _ _ _ hc hi => yields_of_regAlu hc hi (by decide) rfl (mul_eq_ofNat _ _)
  case mhs => exact fun _ _ _ _ _ hc hi => yields_of_regAlu hc hi (by decide) rfl rfl
  case mhu => exact fun _ _ _ _ _ hc hi => yields_of_regAlu hc hi (by decide) rfl rfl
  case divs => exact fun _ _ _ _ _ hc hi => yields_of_regAlu hc hi (by decide) rfl rfl
  case divu => exact fun _ _ _ _ _ hc hi => yields_of_regAlu hc hi (by decide) rfl (divU_eq _ _)
  case mods => exact fun _ _ _ _ _ hc hi => yields_of_regAlu hc hi (by decide) rfl rfl
  case modu => exact fun _ _ _ _ _ hc hi => yields_of_regAlu hc hi (by decide) rfl rfl
  case addk => exact fun _ _ _ _ _ hc hi => yields_of_immAlu hc hi rfl rfl
  case andk => exact fun _ _ _ _ _ hc hi => yields_of_immAlu hc hi rfl rfl
  case ork => exact fun _ _ _ _ _ hc hi => yields_of_immAlu hc hi rfl rfl
  case xork => exact fun _ _ _ _ _ hc hi => yields_of_immAlu hc hi rfl rfl
  case ltsk => exact fun _ _ _ _ _ hc hi => yields_of_immAlu hc hi rfl (boolWord_ltS_imm _ _)
  case ltuk => exact fun _ _ _ _ _ hc hi => yields_of_immAlu hc hi rfl (boolWord_ltU_imm _ _)
  case shk0 => exact fun e rd rs1 amt s hc hi => h32 amt ▸ yields_of_shk 0 hc hi (by decide)
  case shk1 => exact fun e rd rs1 amt s hc hi => h32 amt ▸ yields_of_shk 1 hc hi (by decide)
  case shk2 => exact fun e rd rs1 amt s hc hi => h32 amt ▸ yields_of_shk 2 hc hi (by decide)
  case hi => exact fun _ _ _ _ hc hi => yields_of_immAlu hc hi rfl rfl
  case shk3 =>
    intro e rd rs1 amt s hc hi hh hv
    obtain ⟨t, ht, _, H⟩ := shk_reserved rd rs1 amt hc hi hh hv
    exact ⟨t, ht, H.cause, H.tpc, H.pc, H.mem, H.regs⟩

end Sys2Proof.Machine
end

section
-- Kernel evaluations in the background would each hold a thread with its stack.
set_option Elab.async false
/-! The memory of a Tiller engine (§11). -/

namespace Sys2Proof.Machine
open Sys2Proof.Tests (engUp)

/-- Engine 0 runs, and the power domain of its data SRAM is barred. -/
def memoryBarred : State := State.modDom 0 (fun d => { d with barred := true }) engUp

/-- Refutes O33: in a barred power domain an aligned address of the data map does not answer, and the load traps with
BUS (R281, R350) instead of yielding its word. -/
theorem not_tillerMemory : ¬ Obligations.TillerMemory := by
  intro ⟨h, _⟩
  obtain ⟨⟨hpc, _⟩, _⟩ := (h 0 4 28 0#16 0x110000040 memoryBarred (by decide +kernel) (by decide +kernel)
    (by decide +kernel) (by decide +kernel)).after
  exact absurd hpc (by decide +kernel)

end Sys2Proof.Machine
end

section
-- Kernel evaluations in the background would each hold a thread with its stack.
set_option Elab.async false
/-! Commands whose effect captures a fault while a Lodge reset is due and its reaction window has ended: the reaction to
the fault performs the reset (R443, R444), which clears what the command wrote. The fault of a check unit comes with any
access that a listening unit takes (R461, R462). -/

namespace Sys2Proof.Machine
open Sys2Proof.Tests (up)

/-- A Lodge reset is due and the reaction window has ended. -/
def resetWaits (s : State) : State := { s with rep := { s.rep with resetDue := true, windowEnd := 0 } }

/-- Check unit 0 reports that its next result does not match as FLT44. -/
def mismatches (s : State) : State :=
  State.setReg (CU_EXP_LO 0) 0xDEADBEEF#32 (State.setFld (CU_CFG 0) CU_CFG_FLT_EN 1 s)

/-- A write of address `a` makes check unit 0 report a mismatch, and that the Lodge reset. -/
def writeResets (a : Nat) (s : State) : State := resetWaits (mismatches (listening a s))

/-- Object 3 of controller 7 requests a transmission. -/
def requests : State := State.setReg (canWord 7 3 0) (fput OBJ_TXREQ 1 0#32) up

/-- Refutes O17: the cancel is an access that a check unit may take, whose fault may reset the Lodge and with it the
object. -/
theorem not_canTraffic : ¬ Obligations.CanTraffic := by
  intro ⟨_, _, _, _, _, h, _⟩
  obtain ⟨_, hres⟩ := (h 0 7 3 (writeResets (CAN_CANCEL 7) requests) (by decide +kernel) (by decide +kernel)
    (by decide +kernel) (by decide +kernel) (by decide +kernel) (by decide +kernel)).after
  exact absurd hres (by decide +kernel)

/-- Refutes O20: the write of SCHED is an access that a check unit may take, whose result goes into CU_STAT. -/
theorem not_linSegmentsAndSensors : ¬ Obligations.LinSegmentsAndSensors := by
  intro ⟨_, _, _, _, _, _, _, h, _⟩
  obtain ⟨_, ho⟩ := (h 0 11 3 (listening (LIN_CFG 11 + toggleView) up) (by decide +kernel) (by decide +kernel)
    (by decide +kernel)).after
  exact not_onlyRegs_of_changed (CU_STAT 0) (by decide +kernel) (by decide) (by decide) (by decide) ho

/-- Refutes O24: the write of POWER_DOMOFF is an access that a check unit may take, whose fault may reset the Lodge. -/
theorem not_powerDomains : ¬ Obligations.PowerDomains := by
  intro ⟨_, _, _, h⟩
  obtain ⟨hoff, _⟩ := (h 0 13 (writeResets POWER_DOMOFF up) (by decide +kernel) (by decide +kernel) (by decide +kernel)
    (by decide +kernel) (by decide +kernel) (by decide +kernel)).after
  exact absurd hoff (by decide +kernel)

/-- Refutes O29: a result that does not match captures FLT44, and a Lodge reset that was due clears the result. -/
theorem not_checkUnits : ¬ Obligations.CheckUnits := by
  intro ⟨_, h⟩
  obtain ⟨_, hdone, _⟩ := (h 0 (writeResets 0 up) (by decide +kernel) (by decide +kernel) (by decide +kernel)
    (by decide +kernel)).after
  exact absurd hdone (by decide +kernel)

/-- A session of the Gatehouse is under way. -/
def sessionRuns : State := { up with gate := { up.gate with phase := 3 } }

/-- Refutes O30: GO is an access that a check unit may take, whose fault may reset the Lodge and end the session. -/
theorem not_gateSessionsAndIgnition : ¬ Obligations.GateSessionsAndIgnition := by
  intro ⟨_, h, _⟩
  obtain ⟨hres, _⟩ := (h 0 0#32 (writeResets GATE_CMD sessionRuns) (by decide +kernel) (by decide +kernel)
    (by decide +kernel) (by decide +kernel) (by decide +kernel) (by decide +kernel)).after
  exact absurd hres (by decide +kernel)

end Sys2Proof.Machine
end

section
-- Kernel evaluations in the background would each hold a thread with its stack.
set_option Elab.async false
/-! Register accesses over the Lodge bus (R36, R38): what a write that can be performed does, and the Gatehouse's mode
register (R469). -/

namespace Sys2Proof.Machine
open Sys2Proof.Tests (up)

/-- A write of a register that can be performed: the frames that wait for its dies first, then the row, then the dies
and the check units see the access. -/
theorem wrote_eq_topStore {s : State} {m a i : Nat} {r : RegRow} (v : Word) (hm : masterUp s m = true)
    (he : masterError m s a = 0) (hw : canWindow a = none) (hr : regAt (normalOf a) = some (r, i)) :
    wrote m a v s =
      cuBus true a v (dieHeard (homeDies r i) (topStore false m a r i v (framesFirst (homeDies r i) s))) := by
  unfold wrote wroteIn busWriteIn
  rw [if_pos hm, he, hw, hr]
  rfl

/-- The row of GATE_MODE. -/
def gateModeRow : RegRow × Nat := (regAt GATE_MODE).getD (⟨0, 0, 0, 0, 0, false, .lodge, .none, []⟩, 0)

/-- A write of GATE_MODE that can be performed. -/
theorem wrote_gateMode {s : State} {m : Nat} (v : Word) (hm : masterUp s m = true) (he : masterError m s GATE_MODE = 0) :
    wrote m GATE_MODE v s = cuBus true GATE_MODE v (onGateMode m GATE_MODE v (writeRow m GATE_MODE gateModeRow.1 0 v s)) :=
  wrote_eq_topStore v hm he (by decide) (r := gateModeRow.1) (i := 0) (by decide +kernel)

/-- MODE_REQ 0 leaves the mode, where the part has a Gatehouse. -/
theorem onGateMode_zero {s : State} {m full : Nat} {v : Word} (hp : privileged s m = true)
    (hc : counts full v GATE_MODE_MODE_REQ = true) (hx : s.fld GATE_MODE GATE_MODE_MODE_REQ = 0)
    (hr : woSet full v GATE_MODE_REVOKE = false) :
    onGateMode m full v s = if gateFused then s else leaveMode s := by
  unfold onGateMode onModeReq
  rw [hp, hc, hx, hr]
  simp

/-- A service session holds the Gatehouse in TEST. -/
def inTest : State := State.setFld GATE_STAT GATE_STAT_GMODE 2 { up with hosts := Tab.put up.hosts {} 9 { level := 2 } }

/-- Refutes O31: the write of MODE_REQ is an access that a check unit may take, whose result goes into CU_STAT. -/
theorem not_gateAnswersAndModes : ¬ Obligations.GateAnswersAndModes := by
  intro ⟨_, _, _, _, _, h, _⟩
  obtain ⟨_, _, ho⟩ := (h 9 (listening GATE_MODE inTest) (by decide +kernel) (by decide +kernel)
    (by decide +kernel) (by decide +kernel) (by decide +kernel)).after
  refine not_onlyRegs_of_changed (CU_STAT 0) ?_ (by decide) (by decide) (by decide) ho
  have hx : exec (.modeReq 9 0) (listening GATE_MODE inTest) = finish (listening GATE_MODE inTest)
      (wrote 9 GATE_MODE 0#32 (listening GATE_MODE inTest)) := congrArg (fun v => finish _ (wrote 9 GATE_MODE v _))
    (by decide +kernel)
  unfold stateAfter
  rw [hx, wrote_gateMode _ (by decide +kernel) (by decide +kernel), onGateMode_zero (by decide +kernel) (by decide +kernel)
    (by decide +kernel) (by decide +kernel)]
  cases gateFused <;> decide +kernel

end Sys2Proof.Machine
end

section
-- Kernel evaluations in the background would each hold a thread with its stack.
set_option Elab.async false
/-! Traffic of the Aqueduct (§16). -/

namespace Sys2Proof.Machine
open Sys2Proof.Tests (up)

/-- Where the effect of a command captures nothing, the command ends in that effect, settled. -/
theorem settled_stateAfter {c : Instr} {s u : State} (hx : exec c s = finish s u) (hu : Calm u) :
    Settled s u (stateAfter c s) :=
  Runs.after (P := Settled s u) (runs_of_calm hx hu fun _ ht _ => ht)

theorem Settled.aq {s u t : State} (h : Settled s u t) : t.aq = u.aq := by rw [h.frame]

/-- Port 3 is UP and hears its neighbour, in a module whose waterway does not run. -/
def port3Up : State :=
  State.modPort 3 (fun x => { x with lastRx := up.now }) (State.setFld (AQ_PSTAT 3) AQ_PSTAT_LSTATE 3
    (State.setFld AQ_STAT AQ_STAT_STATE 0 up))

/-- Refutes O26: a first LINKSTATE with LSEQ 0, SERIAL 0 and no ports is what a module without one reads as, and leaves no
entry. -/
theorem not_aqueductTraffic : ¬ Obligations.AqueductTraffic := by
  intro ⟨_, _, _, _, h, _⟩
  have hl := (h 3 4 {} 31 port3Up (by decide +kernel) (by decide +kernel) (by decide +kernel) (by decide +kernel)
    (by decide) (by decide +kernel) (by decide +kernel)).after
  rw [(settled_stateAfter (u := portHears 3 (linkArrives 3 4 {} 31) port3Up) rfl (by decide +kernel)).aq] at hl
  exact absurd hl (by decide +kernel)

end Sys2Proof.Machine
end

section
/-! Branches and jumps of a Tiller engine (R279, R282 to R284). -/

namespace Sys2Proof.Machine

/-- The engine after a transfer of control that gives `v` to `rd`. -/
def Engine.transferred (rd : Fin 32) (v : Engine → Word) (taken : Engine → Bool) (target : Engine → Word) (g : Engine) :
    Engine :=
  ((g.issue.spend 1).result rd (v (g.issue.spend 1)) 1).branch (taken (g.issue.spend 1)) (target (g.issue.spend 1))

theorem Engine.gets_transferred (rd : Fin 32) (v : Engine → Word) (taken : Engine → Bool) (target : Engine → Word)
    (g : Engine) : g.issue.gets (g.transferred rd v taken target) rd 1 (v (g.issue.spend 1)) := by
  refine ⟨?_, ?_⟩
  · unfold transferred branch
    rw [Engine.flight_mapCtx]
    unfold result
    split <;> rfl
  · unfold transferred branch
    rw [Engine.ctx_mapCtx, Engine.ctx_result]
    rfl

theorem Engine.ctx_transferred (rd : Fin 32) (v : Engine → Word) (taken : Engine → Bool) (target : Engine → Word)
    (g : Engine) :
    (g.transferred rd v taken target).ctx.pc = g.ctx.npc ∧
      (g.transferred rd v taken target).ctx.npc =
        (if taken (g.issue.spend 1) then target (g.issue.spend 1) &&& 0xFFFFFFFC#32 else g.ctx.npc + 4#32) ∧
      (g.transferred rd v taken target).ctx.ds = true := by
  unfold transferred branch
  rw [Engine.ctx_mapCtx, Engine.ctx_result, Engine.ctx_spend, Engine.ctx_issue]
  exact ⟨rfl, rfl, rfl⟩

/-- A transfer of control outside a delay slot enters its delay slot. -/
theorem jumped_of_issue {c : Instr} {s : State} {e : Fin 9} {w : Word} {rd : Fin 32} {v : Engine → Word}
    {taken : Engine → Bool} {target : Engine → Word} (hc : Calm s) (hi : Issues s e) (hd : (s.eng e).ctx.ds = false)
    (hx : exec c s = finish s (issueOn e w (fun g => g.ctx.ds)
      (State.modEng e fun g => (g.result rd (v g) 1).branch (taken g) (target g)) s)) :
    Runs c s fun t => Jumped s t e (if taken ((s.eng e).issue.spend 1)
      then target ((s.eng e).issue.spend 1) &&& 0xFFFFFFFC#32 else (s.eng e).ctx.npc + 4#32) rd
      (v ((s.eng e).issue.spend 1)) := by
  unfold issueOn at hx
  rw [issueBy_of_not_barred hi hd] at hx
  refine runs_of_calm hx hc fun t ht hm => ?_
  have he : t.eng e = (s.eng e).transferred rd v taken target := by
    rw [ht.eng, State.eng_modEng_same, State.eng_modEng_same]
    rfl
  obtain ⟨hpc, hnpc, hds⟩ := Engine.ctx_transferred rd v taken target (s.eng e)
  refine ⟨by rw [he, hpc], by rw [he, hnpc], by rw [he, hds],
    gives_of_gets (by decide) (he ▸ Engine.gets_transferred rd v taken target (s.eng e)), fun k hk => ?_,
    ht.onlyRegs (.refl [] [] s), hm⟩
  rw [ht.eng, State.eng_modEng_other hk, State.eng_modEng_other hk]

/-- The pc that an issued instruction finds. -/
theorem Engine.pc_issue_spend (g : Engine) (n : Nat) : (g.issue.spend n).ctx.pc = g.ctx.pc := by
  rw [Engine.ctx_spend, Engine.ctx_issue]

theorem relTarget_issue_spend (g : Engine) (n : Nat) (off : Word) :
    relTarget (g.issue.spend n) off = g.ctx.pc + off * 4#32 := by
  unfold relTarget
  rw [Engine.pc_issue_spend]

section
variable {c : Instr} {s : State} {e : Fin 9} {rs1 rs2 : Fin 32} {op : Nat}
  (hc : Calm s) (hi : Issues s e) (hd : (s.eng e).ctx.ds = false)
include hc hi hd

/-- A compare-and-branch goes to its target where its comparison holds. -/
theorem branches_of_branchOn {w : Word} {k : Engine → Bool} {off : Word} {p : Prop} [Decidable p]
    (hx : exec c s = finish s (branchOn e w k (fun g => relTarget g off) s))
    (hp : k ((s.eng e).issue.spend 1) = true ↔ p) : Branches c s e p ((s.eng e).ctx.pc + off * 4#32) := by
  obtain ⟨t, ht, H⟩ := jumped_of_issue (rd := 0) (v := fun _ => 0#32) (taken := k) (target := fun g => relTarget g off)
    hc hi hd hx
  rw [relTarget_issue_spend] at H
  refine ⟨t, ht, ?_⟩
  simpa only [hp] using H

theorem branches_of_brReg {off : BitVec 16} {k : Word → Word → Bool} {p : Prop} [Decidable p]
    (hx : exec c s = finish s (brReg e op rs1 rs2 off k s)) (hp : k (sees s e rs1) (sees s e rs2) = true ↔ p) :
    Branches c s e p ((s.eng e).ctx.pc + off.signExtend 32 * 4#32) :=
  branches_of_branchOn hc hi hd hx hp

theorem branches_of_brConst {b : BitVec 8} {off : BitVec 13} {k : Word → Bool} {p : Prop} [Decidable p]
    (hx : exec c s = finish s (brConst e op rs1 b off k s)) (hp : k (sees s e rs1) = true ↔ p) :
    Branches c s e p ((s.eng e).ctx.pc + off.signExtend 32 * 4#32) :=
  branches_of_branchOn hc hi hd hx hp

/-- A jump without a link register. -/
theorem jumped_of_jumpOn {w : Word} {target : Engine → Word} (hx : exec c s = finish s (jumpOn e w none target s)) :
    Runs c s fun t => Jumped s t e (target ((s.eng e).issue.spend 1) &&& 0xFFFFFFFC#32) 0 0#32 :=
  jumped_of_issue (rd := 0) (v := fun _ => 0#32) (taken := fun _ => true) hc hi hd hx

/-- A jump that gives the address of its delay slot to `rd`. -/
theorem jumped_of_link {w : Word} {rd : Fin 32} {target : Engine → Word}
    (hx : exec c s = finish s (jumpOn e w (some rd) target s)) :
    Runs c s fun t =>
      Jumped s t e (target ((s.eng e).issue.spend 1) &&& 0xFFFFFFFC#32) rd ((s.eng e).ctx.pc + 4#32) := by
  have H := jumped_of_issue (v := fun g => g.ctx.pc + 4#32) (taken := fun _ => true) hc hi hd hx
  rwa [Engine.pc_issue_spend] at H

end

/-! ### The comparisons against those of R279 -/

theorem ltS_iff (a b : Word) : ltS a b = true ↔ a.toInt < b.toInt := by simp [ltS, BitVec.slt]

theorem not_ltS_iff (a b : Word) : (!ltS a b) = true ↔ b.toInt ≤ a.toInt := by simp [ltS, BitVec.slt]

theorem ltU_iff (a b : Word) : ltU a b = true ↔ a.toNat < b.toNat := by simp [ltU, BitVec.ult]

theorem not_ltU_iff (a b : Word) : (!ltU a b) = true ↔ b.toNat ≤ a.toNat := by simp [ltU, BitVec.ult]

/-- Settles O34: every branch and jump enters its delay slot, with the model's comparison that of R279. -/
theorem tillerBranches : Obligations.TillerBranches := by
  refine ⟨?breq, ?brne, ?brlt, ?brge, ?brlo, ?brhs, ?bkeq, ?bkne, ?bklt, ?bkge, ?bklo, ?bkhs, ?j, ?jal, ?jx, ?jalx, ?ret⟩
  case breq => exact fun _ _ _ _ _ hc hi hd => branches_of_brReg hc hi hd rfl beq_iff_eq
  case brne => exact fun _ _ _ _ _ hc hi hd => branches_of_brReg hc hi hd rfl bne_iff_ne
  case brlt => exact fun _ _ _ _ _ hc hi hd => branches_of_brReg hc hi hd rfl (ltS_iff _ _)
  case brge => exact fun _ _ _ _ _ hc hi hd => branches_of_brReg hc hi hd rfl (not_ltS_iff _ _)
  case brlo => exact fun _ _ _ _ _ hc hi hd => branches_of_brReg hc hi hd rfl (ltU_iff _ _)
  case brhs => exact fun _ _ _ _ _ hc hi hd => branches_of_brReg hc hi hd rfl (not_ltU_iff _ _)
  case bkeq => exact fun _ _ _ _ _ hc hi hd => branches_of_brConst hc hi hd rfl beq_iff_eq
  case bkne => exact fun _ _ _ _ _ hc hi hd => branches_of_brConst hc hi hd rfl bne_iff_ne
  case bklt => exact fun _ _ _ _ _ hc hi hd => branches_of_brConst hc hi hd rfl (ltS_iff _ _)
  case bkge => exact fun _ _ _ _ _ hc hi hd => branches_of_brConst hc hi hd rfl (not_ltS_iff _ _)
  case bklo => exact fun _ _ _ _ _ hc hi hd => branches_of_brConst hc hi hd rfl (ltU_iff _ _)
  case bkhs => exact fun _ _ _ _ _ hc hi hd => branches_of_brConst hc hi hd rfl (not_ltU_iff _ _)
  case j =>
    intro e off s hc hi hd
    have H := jumped_of_jumpOn hc hi hd (c := .j e off) rfl
    rwa [relTarget_issue_spend] at H
  case jal =>
    intro e off s hc hi hd
    have H := jumped_of_link hc hi hd (c := .jal e off) rfl
    rwa [relTarget_issue_spend] at H
  case jx => exact fun e rs1 s hc hi hd => jumped_of_jumpOn hc hi hd (target := fun g => g.x rs1) rfl
  case jalx => exact fun e rd rs1 s hc hi hd => jumped_of_link hc hi hd (target := fun g => g.x rs1) rfl
  case ret => exact fun e rs1 s hc hi hd => jumped_of_jumpOn hc hi hd (target := fun g => g.x rs1 + 4#32) rfl

end Sys2Proof.Machine
end

section
-- Kernel evaluations in the background would each hold a thread with its stack.
set_option Elab.async false
/-! Commands that reach a barred power domain, a Lodge reset or a strobe that has passed (§10, §02, §19). -/

namespace Sys2Proof.Machine
open Sys2Proof.Tests (up engUp)

/-- Engine 4 runs, and the power domain of the Culvert of Pavilion A is barred; a bus error stands recorded. -/
def culvertBarred : State :=
  State.modDom 0x18 (fun d => { d with barred := true }) (State.setFld SYS_BUSERR_STAT SYS_BUSERR_STAT_VALID 1 engUp)

/-- Refutes O35: a command word is streamed to its die at once, and the frame to a barred domain is recorded as a bus
error (R349). -/
theorem not_tillerPortAndControl : ¬ Obligations.TillerPortAndControl := by
  intro ⟨_, _, _, h, _⟩
  obtain ⟨_, _, _, ho⟩ := (h 4 2 0 0#11 0 culvertBarred (by decide +kernel) (by decide +kernel) (by decide +kernel)
    (by decide +kernel) (by decide +kernel) (by decide +kernel) (by decide +kernel)).after
  exact not_onlyRegs_of_changed SYS_BUSERR_STAT (by decide +kernel) (by decide) (by decide) (by decide) ho

/-- The frame of a READ of SYS_ID, as it comes through the tunnel. -/
def tunnelledRead : List Nat :=
  [1, 7, 0, 4, 4, 0, 0, 0, 0, 0x40] ++ leBytes 4 (crcOf crcC [1, 7, 0, 4, 4, 0, 0, 0, 0, 0x40])

/-- All parts of that frame have come from module 4. -/
def readCame : State :=
  { up with aq := { up.aq with
      tunnels := Tab.put up.aq.tunnels {} 4 { parts := Tab.put [] [] 0 tunnelledRead, last := some 0 } } }

/-- A read of address `a` makes check unit 0 report a mismatch, and that the Lodge reset. -/
def readResets (a : Nat) (s : State) : State := State.setReg (CU_FILT 0) 1#32 (writeResets a s)

/-- Refutes O45: a tunnelled READ is an access that a check unit may take, whose fault may reset the Lodge, and with it
what names the source of the tunnel. -/
theorem not_tunnelAndPieces : ¬ Obligations.TunnelAndPieces := by
  intro ⟨_, h, _⟩
  obtain ⟨hsrc, _⟩ := (h 4 tunnelledRead true (readResets 0x40000000 readCame) (by decide +kernel) (by decide +kernel)
    (by decide +kernel) (by decide +kernel) (by decide +kernel) (by decide +kernel) (by decide +kernel)
    (by decide +kernel) (by decide +kernel)).after
  exact absurd hsrc (by decide +kernel)

/-- Two components wait for the swap strobe, whose cycle has passed. -/
def strobePast : State :=
  { (State.setReg KEEPER_LCC 1#32 up) with upd := { up.upd with swap := true, todo := [(1, true), (2, true)] } }

/-- Where the effect of a command that may store captures nothing, the command ends in that effect, settled. -/
theorem settledMem_stateAfter {c : Instr} {s u : State} (hx : exec c s = finishMem s u) (hu : Calm u) :
    Settled s u (stateAfter c s) :=
  Runs.after (P := Settled s u) (runsMem_of_calm hx hu fun _ ht _ => ht)

/-- A command that may answer hosts ends in its effect where no command waits. -/
theorem finishHost_of_none_waits (s : State) {u : State} (h : u.upd.waiting = []) : finishHost s u = finishMem s u :=
  congrArg (finishMem s) (if_pos (.inr h))

theorem Settled.upd {s u t : State} (h : Settled s u t) : t.upd = u.upd := by rw [h.frame]

/-- Refutes O51: a strobe past UPD_SWAP swaps too (cycles compare in their order), although KEEPER_LCC is not UPD_SWAP. -/
theorem not_handOver : ¬ Obligations.HandOver := by
  intro ⟨_, _, _, _, h⟩
  obtain ⟨hupd, _⟩ := (h strobePast (by decide +kernel) (by decide +kernel) (by decide +kernel)).after
  have hs : swapStrobe strobePast = keeperSwap strobePast := if_pos (by decide +kernel)
  have hx : exec .keeperSwapStrobe strobePast = finishMem strobePast (keeperSwap strobePast) :=
    hs ▸ finishHost_of_none_waits strobePast (hs ▸ by decide +kernel)
  rw [(settledMem_stateAfter hx (by decide +kernel)).upd] at hupd
  exact absurd (congrArg Upd.swap hupd) (by decide +kernel)

end Sys2Proof.Machine
end

section
/-! Traps, stalls and the ends of the lists of a Tiller engine (R258 to R260, R270 to R275, R288, R292). -/

namespace Sys2Proof.Machine

/-! ### Engines and the state -/

theorem Settled.kp {s u t : State} (h : Settled s u t) : t.kp = u.kp := by rw [h.frame]
theorem Settled.aq' {s u t : State} (h : Settled s u t) : t.aq = u.aq := by rw [h.frame]

/-- The state that the effect of an issued word finds (R281). -/
def State.issued (e : Nat) (s : State) : State := State.modEng e (fun g => g.issue.spend 1) s

theorem issueOn_of_not_barred {e : Nat} {w : Word} {bars : Engine → Bool} {f : State → State} {s : State}
    (hi : Issues s e) (hb : bars (s.eng e) = false) : issueOn e w bars f s = f (s.issued e) :=
  issueBy_of_not_barred hi hb

@[simp] theorem State.eng_issued (e : Nat) (s : State) : (s.issued e).eng e = (s.eng e).issue.spend 1 :=
  State.eng_modEng_same e _ s

section
variable {F l : List Nat} {s t : State} (h : Acts F l s t)
include h

theorem acts_modEng (e : Nat) (f : Engine → Engine) : Acts F l s (State.modEng e f t) := h

theorem acts_setKState (k x : Nat) (hk : KEEPER_STAT k ∈ l) : Acts F l s (setKState k x t) :=
  acts_ite (fun _ => acts_setFld h _ _ hk) fun _ => h

theorem acts_recordLUse (k : Nat) (hk : KEEPER_LUSE k ∈ l) : Acts F l s (recordLUse k t) := by
  unfold recordLUse
  extract_lets u t1
  have h1 : Acts F l s t1 := acts_setFld h _ _ hk
  exact acts_ite (fun _ => acts_setFld h1 _ _ hk) fun _ => h1

end

theorem acts_issued (l : List Nat) (e : Nat) (s : State) : Acts [] l s (s.issued e) := acts_modEng (.refl [] l s) e _

/-! ### Results that land -/

/-- Results that land change the registers of the running bank. -/
theorem Engine.foldl_land (l : List (Nat × Word × Nat)) (g : Engine) :
    l.foldl (fun h w => h.land w.1 w.2.1) g = g.mapCtx fun c => { c with regs := landedIn l c.regs } := by
  induction l generalizing g with
  | nil =>
    unfold mapCtx
    split <;> rfl
  | cons w rest ih =>
    rw [List.foldl_cons, ih]
    unfold land mapCtx
    by_cases h : g.inF <;> simp [h, landedIn]

theorem Engine.issue_eq (g : Engine) : g.issue =
    { (g.mapCtx fun c => { c with regs := landedIn (g.aged.filter fun w => w.2.2 == 0) c.regs }) with
      flight := g.aged.filter fun w => w.2.2 != 0 } :=
  congrArg (fun h : Engine => { h with flight := g.aged.filter fun w => w.2.2 != 0 }) (foldl_land _ g)

theorem Engine.mapCtx_of_inL {g : Engine} (h : g.inF = false) (f : Ctx → Ctx) : g.mapCtx f = { g with l := f g.l } :=
  if_neg (by simp [h])

section
variable {g : Engine} (h : g.inF = false)
include h

/-- Outside class F an issue changes the bank of class L and what is in flight. -/
theorem Engine.issue_frame : g.issue = { g with l := g.issue.l, flight := g.issue.flight } := by
  rw [issue_eq, mapCtx_of_inL h]

/-- Outside class F the results that land change the bank of class L. -/
theorem Engine.landAll_frame : g.landAll = { g with l := g.landAll.l, flight := [] } := by
  unfold Engine.landAll
  rw [foldl_land, mapCtx_of_inL h]

end

theorem Engine.flight_landAll (g : Engine) : g.landAll.flight = [] := rfl

/-- What a class L list that ends leaves of its engine. -/
theorem Engine.frame_landAll_issue {g : Engine} (h : g.inF = false) (n : Nat) :
    (g.issue.spend n).landAll =
      { g with l := (g.issue.spend n).landAll.l, flight := [], slots := g.slots + n, lUsed := g.lUsed + n } := by
  have hi : (g.issue.spend n).inF = false := by
    rw [issue_frame h]
    exact h
  rw [landAll_frame hi]
  unfold spend
  rw [issue_frame h]
  simp [h]

/-! ### Registers of a Keeper -/

theorem keeperStat_ne_trap (k : Nat) : KEEPER_STAT k ≠ KEEPER_TRAP k := by unfold KEEPER_STAT KEEPER_TRAP; omega
theorem keeperStat_ne_tpc (k : Nat) : KEEPER_STAT k ≠ KEEPER_TPC k := by unfold KEEPER_STAT KEEPER_TPC; omega
theorem keeperTrap_ne_tpc (k : Nat) : KEEPER_TRAP k ≠ KEEPER_TPC k := by unfold KEEPER_TRAP KEEPER_TPC; omega

theorem fld_setKState_state {k x : Nat} (hk : k < 8) (hx : x < 8) (s : State) : kState (setKState k x s) k = x := by
  unfold kState setKState
  rw [if_pos hk, State.fld_setFld_same _ _ _ _ (by decide)]
  exact Nat.mod_eq_of_lt hx

theorem fld_setKState_other (k x : Nat) (s : State) {a : Nat} (f : Fld) (h : a ≠ KEEPER_STAT k) :
    (setKState k x s).fld a f = s.fld a f := congrArg (fget f) (reg_setKState_other k x s h)

theorem satInc_lt (w x : Nat) : satInc (2 ^ w - 1) x < 2 ^ w := by
  have := Nat.two_pow_pos w
  unfold satInc
  split <;> omega

theorem fld_incFld_same (s : State) (a : Nat) (f : Fld) (h : f.lo + f.w ≤ 32) :
    (State.incFld a f s).fld a f = satInc (2 ^ f.w - 1) (s.fld a f) :=
  (State.fld_setFld_same _ _ _ _ h).trans (Nat.mod_eq_of_lt (satInc_lt _ _))

theorem fld_raiseEvData {n : Nat} (i : Nat) (d : List Nat) (t : State) (hn : n < 256) {a : Nat} (f : Fld)
    (hr : reportReg a = false) : (raiseEvData n i d t).fld a f = t.fld a f :=
  congrArg (fget f) (raiseEvData_regs n i d t hn a hr)

theorem fld_raiseFault {n : Nat} (t : State) (hn : n < 96) {a : Nat} (f : Fld) (hr : reportReg a = false) :
    (raiseFault n t).fld a f = t.fld a f := congrArg (fget f) (raiseFault_regs n t hn a hr)

theorem not_reportReg_keeper {k a : Nat} (hk : k < 8)
    (ha : a ∈ [KEEPER_STAT k, KEEPER_TRAP k, KEEPER_TPC k, KEEPER_LUSE k]) :
    reportReg a = false ∧ a ≠ NETPM_STAT := by
  have h : ∀ k : Fin 8, ∀ a ∈ [KEEPER_STAT k, KEEPER_TRAP k, KEEPER_TPC k, KEEPER_LUSE k],
      reportReg a = false ∧ a ≠ NETPM_STAT := by decide
  exact h ⟨k, hk⟩ a ha

/-- Cause and place of a Keeper's trap or stall, as its registers show them with STATE `st`. -/
def shown (k st cause : Nat) (pc : Word) (t : State) : State :=
  setKState k st (State.setReg (KEEPER_TPC k) pc (State.setFld (KEEPER_TRAP k) KEEPER_TRAP_K_TRAP cause t))

section
variable {k st cause : Nat} (pc : Word) (t : State)

theorem kState_shown (hk : k < 8) (hst : st < 8) : kState (shown k st cause pc t) k = st :=
  fld_setKState_state hk hst _

theorem trap_shown (hc : cause < 16) : (shown k st cause pc t).fld (KEEPER_TRAP k) KEEPER_TRAP_K_TRAP = cause := by
  unfold shown
  rw [fld_setKState_other _ _ _ _ (keeperStat_ne_trap k).symm]
  refine (congrArg (fget _) (State.reg_setReg_other _ _ (keeperTrap_ne_tpc k))).trans ?_
  exact (State.fld_setFld_same _ _ _ _ (by decide)).trans (Nat.mod_eq_of_lt hc)

theorem tpc_shown : (shown k st cause pc t).reg (KEEPER_TPC k) = pc := by
  unfold shown
  rw [reg_setKState_other _ _ _ (keeperStat_ne_tpc k).symm, State.reg_setReg_same]

theorem trapCnt_shown :
    (shown k st cause pc t).fld (KEEPER_STAT k) KEEPER_STAT_TRAP_CNT = t.fld (KEEPER_STAT k) KEEPER_STAT_TRAP_CNT := by
  have h : (shown k st cause pc t).fld (KEEPER_STAT k) KEEPER_STAT_TRAP_CNT =
      (State.setReg (KEEPER_TPC k) pc (State.setFld (KEEPER_TRAP k) KEEPER_TRAP_K_TRAP cause t)).fld (KEEPER_STAT k)
        KEEPER_STAT_TRAP_CNT := by
    unfold shown setKState
    split
    · exact State.fld_setFld_field _ _ _ _ _ (by decide)
    · rfl
  refine h.trans ((congrArg (fget _) (State.reg_setReg_other _ _ (keeperStat_ne_tpc k))).trans ?_)
  exact State.fld_setFld_other _ _ _ _ (keeperStat_ne_trap k)

theorem acts_shown {F l : List Nat} {s t : State} (h : Acts F l s t) (hs : KEEPER_STAT k ∈ l) (ht : KEEPER_TRAP k ∈ l)
    (hp : KEEPER_TPC k ∈ l) : Acts F l s (shown k st cause pc t) :=
  acts_setKState (acts_setReg (acts_setFld h _ _ ht) _ hp) _ _ hs

end

/-! ### Stalls (R271) -/

/-- A Keeper stalls: its registers show it, and it is reported as EV115 and FLT28 to FLT35. -/
theorem stall_of_keeper {k : Nat} (hk : k < 8) (cause : Nat) (t : State) :
    stall k cause t = raiseFault (28 + k)
      (raiseEvData 115 k (cause :: leBytes 4 (t.eng k).ctx.pc.toNat) (shown k 5 cause (t.eng k).ctx.pc t)) := if_pos hk

section
variable {k cause : Nat} (hk : k < 8) (t : State)
include hk

theorem acts_stall {F l : List Nat} {s t : State} (h : Acts F l s t) (hF : 28 + k ∈ F) (hs : KEEPER_STAT k ∈ l)
    (ht : KEEPER_TRAP k ∈ l) (hp : KEEPER_TPC k ∈ l) : Acts F l s (stall k cause t) := by
  rw [stall_of_keeper hk]
  exact acts_raiseFault (acts_raiseEvData (acts_shown _ h hs ht hp) _ _ (by decide)) (by omega) hF

/-- What the registers of a Keeper show of its stall. -/
theorem stall_shows (hc : cause < 16) :
    kState (stall k cause t) k = 5 ∧ (stall k cause t).fld (KEEPER_TRAP k) KEEPER_TRAP_K_TRAP = cause ∧
      (stall k cause t).reg (KEEPER_TPC k) = (t.eng k).ctx.pc := by
  rw [stall_of_keeper hk]
  have hr : ∀ a ∈ [KEEPER_STAT k, KEEPER_TRAP k, KEEPER_TPC k, KEEPER_LUSE k],
      (raiseFault (28 + k) (raiseEvData 115 k (cause :: leBytes 4 (t.eng k).ctx.pc.toNat)
        (shown k 5 cause (t.eng k).ctx.pc t))).reg a = (shown k 5 cause (t.eng k).ctx.pc t).reg a := fun a ha =>
    (raiseFault_regs _ _ (by omega) a (not_reportReg_keeper hk ha).1).trans
      (raiseEvData_regs _ _ _ _ (by decide) a (not_reportReg_keeper hk ha).1)
  exact ⟨(congrArg (fget _) (hr _ (by simp))).trans (kState_shown _ _ hk (by decide)),
    (congrArg (fget _) (hr _ (by simp))).trans (trap_shown _ _ hc), (hr _ (by simp)).trans (tpc_shown _ _)⟩

end

end Sys2Proof.Machine
end

section
/-! The obligation on traps, stalls, YIELD and the list limits (R258 to R260, R270 to R275, R292). -/

namespace Sys2Proof.Machine

/-! ### Traps outside a handler -/

/-- The registers of a Keeper show its trap. -/
theorem showTrap_shows {e cause : Nat} (he : e < 8) (hc : cause < 16) (pc : Word) (t : State) :
    kState (showTrap e cause pc t) e = 4 ∧ (showTrap e cause pc t).fld (KEEPER_TRAP e) KEEPER_TRAP_K_TRAP = cause ∧
      (showTrap e cause pc t).reg (KEEPER_TPC e) = pc ∧
      (showTrap e cause pc t).fld (KEEPER_STAT e) KEEPER_STAT_TRAP_CNT =
        satInc (2 ^ KEEPER_STAT_TRAP_CNT.w - 1) (t.fld (KEEPER_STAT e) KEEPER_STAT_TRAP_CNT) := by
  have hr : ∀ a ∈ [KEEPER_STAT e, KEEPER_TRAP e, KEEPER_TPC e, KEEPER_LUSE e], (showTrap e cause pc t).reg a =
      (State.incFld (KEEPER_STAT e) KEEPER_STAT_TRAP_CNT (shown e 4 cause pc t)).reg a := fun a ha => by
    unfold showTrap
    rw [if_pos he]
    exact raiseEvData_regs _ _ _ _ (by decide) a (not_reportReg_keeper he ha).1
  refine ⟨(congrArg (fget _) (hr _ (by simp))).trans ?state, (congrArg (fget _) (hr _ (by simp))).trans ?trap,
    (hr _ (by simp)).trans ?tpc, (congrArg (fget _) (hr _ (by simp))).trans ?cnt⟩
  case state => exact (State.fld_setFld_field _ _ _ _ _ (by decide)).trans (kState_shown pc t he (by decide))
  case trap => exact (State.fld_setFld_other _ _ _ _ (keeperStat_ne_trap e).symm).trans (trap_shown pc t hc)
  case tpc => exact (State.reg_setFld_other _ _ _ (keeperStat_ne_tpc e).symm).trans (tpc_shown pc t)
  case cnt => rw [← trapCnt_shown (st := 4) (cause := cause) pc t]; exact fld_incFld_same _ _ _ (by decide)

theorem Engine.flight_enterHandler (e cause : Nat) (inst vec : Word) (n : Nat) (g : Engine) :
    (g.enterHandler e cause inst vec n).flight = [] := by
  unfold enterHandler
  rw [flight_spend, flight_mapCtx, flight_landAll]

/-- A handler finds the registers with every result landed (R288). -/
theorem Engine.x_enterHandler (e cause : Nat) (inst vec : Word) (n : Nat) (g : Engine) (r : Fin 32) :
    (g.enterHandler e cause inst vec n).x r = g.landAll.x r := by
  unfold Engine.x enterHandler
  rw [ctx_spend, ctx_mapCtx]
  rfl

theorem Engine.x_landAll_spend (n : Nat) (g : Engine) (r : Fin 32) : (g.spend n).landAll.x r = g.landAll.x r := by
  unfold Engine.x
  rw [ctx_landAll, ctx_landAll]
  rfl

section
variable {e c : Nat} {w : Word} {s : State}

/-- TRAP_ENTRY with one of the causes 2 to 6. -/
theorem trapEntry_traps (hr : engRuns s e = true) (h2 : 2 ≤ c) (h6 : c ≤ 6) :
    trapEntry e c w s = trap e c w (State.modEng e (fun g => g.spend 1) s) := by
  unfold trapEntry
  rw [hr, if_neg (by decide), if_neg (by omega), if_pos ⟨h2, h6⟩]
  rfl

variable (hh : (s.eng e).ctx.trap.inh = false) (hv : (s.eng e).tvec ≠ absentEntry) (h2 : 2 ≤ c)
include hh hv h2

/-- The effect of such a trap outside a handler. -/
theorem trap_spent_of_vectored : trap e c w (State.modEng e (fun g => g.spend 1) s) =
    showTrap e c (s.eng e).ctx.pc (State.modEng e (Engine.enterHandler e c w (s.eng e).tvec (trapCycles s))
      (State.modEng e (fun g => g.spend 1) s).drawn) := by
  have hvec : ((State.modEng e (fun g => g.spend 1) s).eng e).vector c = (s.eng e).tvec := by
    rw [State.eng_modEng_same]
    exact if_neg (by omega)
  rw [trap_of_vectored (by rw [State.eng_modEng_same]; exact hh) (by rw [hvec]; exact hv), hvec, State.eng_modEng_same]
  rfl

theorem calm_trap_spent (hc : Calm s) : Calm (trap e c w (State.modEng e (fun g => g.spend 1) s)) := by
  rw [trap_spent_of_vectored hh hv h2]
  exact showTrap_calm _ _ _ _ hc

/-- Its engine stands in the handler. -/
theorem eng_trap_spent : (trap e c w (State.modEng e (fun g => g.spend 1) s)).eng e =
    ((s.eng e).spend 1).enterHandler e c w (s.eng e).tvec (trapCycles s) := by
  rw [trap_spent_of_vectored hh hv h2, eng_showTrap, State.eng_modEng_same]
  exact congrArg _ (State.eng_modEng_same e _ s)

theorem regs_trap_spent :
    OnlyRegs [KEEPER_STAT e, KEEPER_TRAP e, KEEPER_TPC e] s (trap e c w (State.modEng e (fun g => g.spend 1) s)) := by
  rw [trap_spent_of_vectored hh hv h2]
  exact fun a ha hr _ => reg_showTrap_other _ _ _ _ ha hr

end

/-- Settles the clause on what a trap keeps in the bank it interrupts. -/
theorem trapEntry_enters {e : Fin 9} {c : Fin 16} {w : Word} {s : State} (hc : Calm s) (hr : engRuns s e = true)
    (h2 : 2 ≤ c.val) (h6 : c.val ≤ 6) (hh : (s.eng e).ctx.trap.inh = false) (hv : (s.eng e).tvec ≠ absentEntry) :
    Runs (.trapEntry e c w) s fun t =>
      t.eng e = ((s.eng e).spend 1).enterHandler e c w (s.eng e).tvec (trapCycles s) ∧ t.mem = s.mem ∧
        OnlyRegs [KEEPER_STAT e, KEEPER_TRAP e, KEEPER_TPC e] s t :=
  runs_of_calm (congrArg (finish s) (trapEntry_traps hr h2 h6)) (calm_trap_spent hh hv h2 hc) fun _ ht hm =>
    ⟨(ht.eng e).trans (eng_trap_spent hh hv h2), hm,
      fun a ha h1 hn => (ht.regs a h1 hn).trans (regs_trap_spent hh hv h2 a ha h1 hn)⟩

/-! ### YIELD -/

section
variable {k : Nat} {s : State}

@[simp] theorem State.eng_recordLUse (k : Nat) (s : State) (j : Nat) : (recordLUse k s).eng j = s.eng j := by
  unfold recordLUse
  extract_lets u t
  split <;> rfl

theorem pow_recordLUse (k : Nat) (s : State) : (recordLUse k s).pow = s.pow := by
  unfold recordLUse
  extract_lets u t
  split <;> rfl

/-- The class L list of `k` has ended: its use is recorded, its results have landed, and class F is next. -/
def lEnded (k : Nat) (s : State) : State :=
  let t := recordLUse k (State.modEng k Engine.landAll s)
  State.modEng k (fun g => { g with inF := true }) { t with aq := { t.aq with listEnded := Tab.put t.aq.listEnded false k true } }

theorem eng_lEnded (k : Nat) (s : State) : (lEnded k s).eng k = { (s.eng k).landAll with inF := true } := by
  unfold lEnded
  rw [State.eng_modEng_same]
  refine congrArg (fun g : Engine => { g with inF := true }) ?_
  exact (State.eng_recordLUse k _ k).trans (State.eng_modEng_same k _ s)

theorem listEnded_lEnded (k : Nat) (s : State) : Tab.get (lEnded k s).aq.listEnded false k = true :=
  Tab.get_put_same (recordLUse k (State.modEng k Engine.landAll s)).aq.listEnded false k true

theorem acts_lEnded {l : List Nat} {s t : State} (h : Acts [] l s t) (hk : KEEPER_LUSE k ∈ l) : Acts [] l s (lEnded k t) := acts_recordLUse (acts_modEng h k _) k hk

/-- Outside a transition the engine goes on with class F, where there is something to run. -/
theorem endL_eq (hp : s.pow.stage = 0) : endL k s = setKState k
    (if ((s.eng k).landAll.fDone || (s.eng k).landAll.fentry == absentEntry) = true then 3
      else ((lEnded k s).eng k).runState) (lEnded k s) := by
  have hg : (recordLUse k (State.modEng k Engine.landAll s)).eng k = (s.eng k).landAll :=
    (State.eng_recordLUse k _ k).trans (State.eng_modEng_same k _ s)
  have hs : (recordLUse k (State.modEng k Engine.landAll s)).pow.stage = 0 := by
    rw [pow_recordLUse]
    exact hp
  unfold endL
  extract_lets t1 src t2 g u
  have h2 : t2.eng k = (s.eng k).landAll := hg
  rw [if_neg (show ¬ (t2.pow.stage != 0) = true by rw [show t2.pow.stage = 0 from hs]; decide)]
  simp only [g, h2]
  split <;> rfl

end

/-- What a class L list that ends leaves of an engine outside class F. -/
theorem eng_lEnded_issued {k : Nat} {s : State} (hf : (s.eng k).inF = false) :
    ∃ l, (lEnded k (s.issued k)).eng k =
      { s.eng k with l := l, inF := true, flight := [], slots := (s.eng k).slots + 1, lUsed := (s.eng k).lUsed + 1 } := by
  rw [eng_lEnded, State.eng_issued, Engine.frame_landAll_issue hf]
  exact ⟨_, rfl⟩

theorem castLE_ne_warden : ∀ k : Fin 8, ((k.castLE (by decide) : Fin 9) == 8) = false := by decide

section
variable {k : Fin 8} {s : State} (hc : Calm s) (hi : Issues s k) (hd : (s.eng k).ctx.ds = false)
  (hh : (s.eng k).ctx.trap.inh = false)
include hi hd hh

/-- YIELD of a Keeper outside a delay slot and a handler. -/
theorem exec_yield : exec (.yield (k.castLE (by decide))) s =
    finish s (if (s.eng k).issue.inF then endF k (s.issued k) else endL k (s.issued k)) := by
  have hx : exec (.yield (k.castLE (by decide))) s = finish s (if ((s.issued k).eng k).inF then endF k (s.issued k)
      else endL k (s.issued k)) :=
    congrArg (finish s) (issueOn_of_not_barred hi (bars := fun g => g.ctx.ds || g.ctx.trap.inh || k.castLE (by decide) == (8 : Fin 9))
      (by change ((s.eng k).ctx.ds || (s.eng k).ctx.trap.inh || _) = false; rw [hd, hh, castLE_ne_warden]; rfl))
  rw [hx, State.eng_issued]
  rfl

include hc

/-- The class L list ends, and there is no class F list to run. -/
theorem yield_ends (hf : (s.eng k).inF = false) (hp : s.pow.stage = 0) (hF : (s.eng k).fDone = true) :
    Runs (.yield (k.castLE (by decide))) s fun t =>
      kState t k = 3 ∧ (t.eng k).inF = true ∧ (t.eng k).flight = [] ∧ Tab.get t.aq.listEnded false k = true := by
  have hg := Engine.frame_landAll_issue hf 1
  have hx := exec_yield hi hd hh
  rw [Engine.issue_frame hf, if_neg (by simp [hf]), endL_eq (by exact hp), State.eng_issued, hg,
    if_pos (by simp [hF])] at hx
  refine runs_of_calm hx ((acts_setKState (acts_lEnded (l := [KEEPER_LUSE k, KEEPER_STAT k]) (acts_issued _ _ s)
    (by simp)) _ _ (by simp)).calm hc) fun t ht _ => ?_
  have he : t.eng k = (lEnded k (s.issued k)).eng k := (ht.eng k).trans (eng_setKState _ _ _ _)
  obtain ⟨l, hl⟩ := eng_lEnded_issued hf
  refine ⟨?state, by rw [he, hl], by rw [he, hl], ?ended⟩
  case state =>
    exact (ht.fld _ (not_reportReg_keeper k.isLt (by simp)).1 (not_reportReg_keeper k.isLt (by simp)).2).trans
      (fld_setKState_state k.isLt (by decide) _)
  case ended =>
    rw [ht.aq', setKState_frame]
    exact listEnded_lEnded _ _

/-- The class L list ends, and the engine goes on with the class F list. -/
theorem yield_goesOn (hf : (s.eng k).inF = false) (hp : s.pow.stage = 0) (hF : (s.eng k).fDone = false)
    (hv : (s.eng k).fentry ≠ absentEntry) :
    Runs (.yield (k.castLE (by decide))) s fun t =>
      (t.eng k).inF = true ∧ kState t k = (if (s.eng k).f.trap.inh then 4 else 2) ∧ (t.eng k).ctx.pc = (s.eng k).f.pc ∧
        (t.eng k).ctx.npc = (s.eng k).f.npc ∧ OnlyRegs [KEEPER_STAT k, KEEPER_LUSE k] s t := by
  have hg := Engine.frame_landAll_issue hf 1
  have hx := exec_yield hi hd hh
  rw [Engine.issue_frame hf, if_neg (by simp [hf]), endL_eq (by exact hp), State.eng_issued, hg,
    if_neg (by simp [hF, hv])] at hx
  have ha : Acts [] [KEEPER_STAT k, KEEPER_LUSE k] s
      (setKState k ((lEnded k (s.issued k)).eng k).runState (lEnded k (s.issued k))) :=
    acts_setKState (acts_lEnded (acts_issued _ _ s) (by simp)) _ _ (by simp)
  refine runs_of_calm hx (ha.calm hc) fun t ht _ => ?_
  have he : t.eng k = (lEnded k (s.issued k)).eng k := (ht.eng k).trans (eng_setKState _ _ _ _)
  obtain ⟨l, hl⟩ := eng_lEnded_issued hf
  refine ⟨by rw [he, hl], ?state, by rw [he, hl]; rfl, by rw [he, hl]; rfl, ht.onlyRegs ha⟩
  have hr : ((lEnded k (s.issued k)).eng k).runState = if (s.eng k).f.trap.inh then 4 else 2 := by rw [hl]; rfl
  refine (ht.fld _ (not_reportReg_keeper k.isLt (by simp)).1 (not_reportReg_keeper k.isLt (by simp)).2).trans ?_
  rw [← hr]
  refine fld_setKState_state k.isLt ?_ _
  rw [hr]
  split <;> decide

/-- The class F list ends and waits for the next cycle. -/
theorem yield_classF (hf : (s.eng k).inF = true) :
    Runs (.yield (k.castLE (by decide))) s fun t =>
      kState t k = 3 ∧ (t.eng k).fDone = true ∧ (t.eng k).fCount = 0 ∧ (t.eng k).flight = [] ∧
        OnlyRegs [KEEPER_STAT k] s t := by
  have hx := exec_yield hi hd hh
  have hF : (s.eng k).issue.inF = true := by
    rw [Engine.issue_eq]
    unfold Engine.mapCtx
    rw [if_pos hf]
    exact hf
  rw [if_pos hF] at hx
  have ha : Acts [] [KEEPER_STAT k] s (endF k (s.issued k)) :=
    acts_setKState (acts_modEng (acts_issued _ _ s) _ _) _ _ (by simp)
  refine runs_of_calm hx (ha.calm hc) fun t ht _ => ?_
  have he : t.eng k = { ((s.eng k).issue.spend 1).landAll with fDone := true, fCount := 0, fReported := false } := by
    refine (ht.eng k).trans ((eng_setKState _ _ _ _).trans ?_)
    rw [State.eng_modEng_same, State.eng_issued]
  refine ⟨?state, by rw [he], by rw [he], by rw [he]; rfl, ht.onlyRegs ha⟩
  exact (ht.fld _ (not_reportReg_keeper k.isLt (by simp)).1 (not_reportReg_keeper k.isLt (by simp)).2).trans
    (fld_setKState_state k.isLt (by decide) _)

end

/-! ### The list limits (R258, R260) -/

/-- L_LAST after the use of a class L list is recorded. -/
theorem lLast_recordLUse (k : Nat) (s : State) :
    (recordLUse k s).fld (KEEPER_LUSE k) KEEPER_LUSE_L_LAST = slotUnits (s.eng k).lUsed := by
  have hu : slotUnits (s.eng k).lUsed < 2 ^ 16 := by
    unfold slotUnits clampN
    split <;> (try split) <;> omega
  have h1 : (State.setFld (KEEPER_LUSE k) KEEPER_LUSE_L_LAST (slotUnits (s.eng k).lUsed) s).fld (KEEPER_LUSE k)
      KEEPER_LUSE_L_LAST = slotUnits (s.eng k).lUsed :=
    (State.fld_setFld_same _ _ _ _ (by decide)).trans (Nat.mod_eq_of_lt hu)
  unfold recordLUse
  extract_lets u t
  split
  · exact (State.fld_setFld_field _ _ _ _ _ (by decide)).trans h1
  · exact h1

theorem faultCfg_not_keeper {k : Nat} (hk : k < 8) :
    FAULT_CFG (28 + k) ∉ [KEEPER_TRAP k, KEEPER_TPC k, KEEPER_STAT k, KEEPER_LUSE k] := by
  have h : ∀ k : Fin 8, FAULT_CFG (28 + k) ∉ [KEEPER_TRAP k, KEEPER_TPC k, KEEPER_STAT k, KEEPER_LUSE k] := by decide
  exact h ⟨k, hk⟩

section
variable {c : Instr} {s u : State} {k cause : Nat} {l : List Nat} {P : State → Prop}

/-- A command that stalls a Keeper whose fault is not to be reacted to. -/
theorem runs_of_stall (hk : k < 8) (hc : Calm s) (hr : actingReact s (28 + k) = 0) (hd : resetOverdue s = false)
    (hx : exec c s = finish s (stall k cause u)) (hcause : cause < 16) (ha : Acts [28 + k] l s u)
    (hl : ∀ a ∈ [KEEPER_TRAP k, KEEPER_TPC k, KEEPER_STAT k], a ∈ l) (hn : FAULT_CFG (28 + k) ∉ l)
    (hP : ∀ t, Settled s (stall k cause u) t → kState t k = 5 ∧ t.fld (KEEPER_TRAP k) KEEPER_TRAP_K_TRAP = cause ∧
      t.reg (KEEPER_TPC k) = (u.eng k).ctx.pc → OnlyRegs l s t → P t) : Runs c s P := by
  have hs : Acts [28 + k] l s (stall k cause u) :=
    acts_stall hk ha (by simp) (hl _ (by simp)) (hl _ (by simp)) (hl _ (by simp))
  have hF : ∀ n ∈ [28 + k], n < 96 ∧ FAULT_CFG n ∉ l ∧ actingReact s n = 0 := fun n hm => by
    obtain rfl := List.mem_singleton.1 hm
    exact ⟨by omega, hn, hr⟩
  obtain ⟨hst, htrap, htpc⟩ := stall_shows hk u hcause
  have hrep : ∀ a ∈ [KEEPER_STAT k, KEEPER_TRAP k, KEEPER_TPC k, KEEPER_LUSE k], reportReg a = false ∧ a ≠ NETPM_STAT :=
    fun a h => not_reportReg_keeper hk h
  refine runs_of_noticed hx (hs.noticed hc hF) (hs.notOverdue hd) fun t ht _ => hP t ht ⟨?_, ?_, ?_⟩ (ht.onlyRegs hs)
  · exact (ht.fld _ (hrep _ (by simp)).1 (hrep _ (by simp)).2).trans hst
  · exact (ht.fld _ (hrep _ (by simp)).1 (hrep _ (by simp)).2).trans htrap
  · exact (ht.regs _ (hrep _ (by simp)).1 (hrep _ (by simp)).2).trans htpc

/-- A trap in a handler stalls with DOUBLE. -/
theorem trap_of_handler {e cause : Nat} {w : Word} {s : State} (hh : (s.eng e).ctx.trap.inh = true) :
    trap e cause w s = stall e 8 s := if_pos hh

end

/-! ### The class F watchdog (R260) -/

theorem eng_stall {k : Nat} (hk : k < 8) (cause : Nat) (t : State) (j : Nat) : (stall k cause t).eng j = t.eng j := by
  rw [stall_of_keeper hk]
  exact eng_setKState k 5 _ j

/-- The watchdog has found a class F list past its limit. -/
def fReports (k : Nat) (s : State) : State :=
  raiseEvData 114 k [k] (State.modEng k (fun g => { g with fReported := true }) s)

theorem fWatchdog_reports {k : Nat} {s : State} (h0 : 0 < s.fld (KEEPER_CTRL k) KEEPER_CTRL_F_WD)
    (hn : 16 * s.fld (KEEPER_CTRL k) KEEPER_CTRL_F_WD < (s.eng k).fCount) (hr : (s.eng k).fReported = false)
    (hp : (s.eng k).present = true) (hs : kState s k ≠ 0) (h5 : kState s k ≠ 5) :
    fWatchdog k s = if s.flag (KEEPER_CTRL k) KEEPER_CTRL_F_WD_ACT then stall k 0xA (fReports k s) else fReports k s := by
  unfold fWatchdog
  extract_lets n g t
  rw [if_neg]
  · rfl
  · simp only [n, g, hr, hp]
    simp [hs, h5]
    omega

theorem acts_fReports {F : List Nat} (l : List Nat) (k : Nat) (s : State) : Acts F l s (fReports k s) :=
  acts_raiseEvData (acts_modEng (.refl F l s) k _) _ _ (by decide)

theorem eng_fReports (k : Nat) (s : State) : ((fReports k s).eng k).fReported = true := by
  unfold fReports
  rw [eng_raiseEvData, State.eng_modEng_same]

theorem reg_fReports (k : Nat) (s : State) {a : Nat} (hr : reportReg a = false) : (fReports k s).reg a = s.reg a :=
  raiseEvData_regs _ _ _ _ (by decide) a hr

/-- Settles O36: a trap enters the handler that `Engine.enterHandler` describes or stalls; YIELD ends a list as `lEnded`
and `endF` say; the list limits stall with what they record. -/
theorem tillerTraps : Obligations.TillerTraps := by
  refine ⟨?enters, ?shows, ?double, ?lEnds, ?lGoesOn, ?fEnds, ?overrun, ?watchdog⟩
  case enters =>
    intro e c w s hc hr h2 h6 hh hv
    obtain ⟨t, ht, he, hm, ho⟩ := trapEntry_enters (w := w) hc hr h2 h6 hh hv
    refine ⟨t, ht, ?_, ?_, ?_, ?_, ?_, ?_, ?_, ?_, fun r => ?_, hm, ho⟩
    case refine_8 => rw [he, Engine.flight_enterHandler]
    case refine_9 => rw [he, Engine.x_enterHandler, Engine.x_landAll_spend]
    all_goals simp [he, Engine.enterHandler, Engine.ctx_landAll, Ctx.trapped]
  case shows =>
    intro e c w s hc hr h2 h6 hh hv
    have hrep : ∀ a ∈ [KEEPER_STAT e, KEEPER_TRAP e, KEEPER_TPC e, KEEPER_LUSE e], reportReg a = false ∧ a ≠ NETPM_STAT :=
      fun a h => not_reportReg_keeper e.isLt h
    refine runs_of_calm (c := .trapEntry (e.castLE (by decide)) c w) (congrArg (finish s) (trapEntry_traps hr h2 h6))
      (calm_trap_spent hh hv h2 hc) fun t ht _ => ?_
    obtain ⟨hst, htrap, htpc, hcnt⟩ := showTrap_shows e.isLt (Nat.lt_of_le_of_lt h6 (by decide)) (s.eng e).ctx.pc
      (State.modEng e (Engine.enterHandler e c w (s.eng e).tvec (trapCycles s)) (State.modEng e (fun g => g.spend 1) s).drawn)
    rw [← trap_spent_of_vectored hh hv h2] at hst htrap htpc hcnt
    exact ⟨(ht.fld _ (hrep _ (by simp)).1 (hrep _ (by simp)).2).trans hst,
      (ht.fld _ (hrep _ (by simp)).1 (hrep _ (by simp)).2).trans htrap,
      (ht.regs _ (hrep _ (by simp)).1 (hrep _ (by simp)).2).trans htpc,
      (ht.fld _ (hrep _ (by simp)).1 (hrep _ (by simp)).2).trans hcnt⟩
  case double =>
    intro e c w s hc hr h2 h6 hh hreact hd
    have hx : exec (.trapEntry (e.castLE (by decide)) c w) s = finish s (stall e 8 (State.modEng e (fun g => g.spend 1) s)) :=
      congrArg (finish s) ((trapEntry_traps hr h2 h6).trans (trap_of_handler (by rw [State.eng_modEng_same]; exact hh)))
    refine runs_of_stall e.isLt hc hreact hd hx (by decide) (acts_modEng (.refl _ _ s) _ _) (fun a h => h)
      (fun h => faultCfg_not_keeper e.isLt (by simp at h ⊢; tauto)) fun t _ hsh ho => ?_
    obtain ⟨hst, htrap, htpc⟩ := hsh
    refine ⟨hst, htrap, ?_, ho⟩
    rw [htpc, State.eng_modEng_same]
    rfl
  case lEnds => exact fun k s hc hi hd hh hf hF hp => yield_ends hc hi hd hh hf hp hF
  case lGoesOn => exact fun k s hc hi hd hh hf hF hp hv => yield_goesOn hc hi hd hh hf hp hF hv
  case fEnds => exact fun k s hc hi hd hh hf => yield_classF hc hi hd hh hf
  case overrun =>
    intro k s hc hr hf hl hreact hd
    have hx : exec (.lOverrun k) s = finish s (stall k 7 (raiseEvData 113 k [k.val] (recordLUse k s))) :=
      congrArg (finish s) (if_pos (by simp [overBudget, hr, hf, hl]))
    refine runs_of_stall (l := [KEEPER_TRAP k, KEEPER_TPC k, KEEPER_STAT k, KEEPER_LUSE k]) k.isLt hc hreact hd hx
      (by decide) (acts_raiseEvData (acts_recordLUse (.refl _ _ s) k (by simp)) _ _ (by decide))
      (fun a h => by simp at h ⊢; tauto) (faultCfg_not_keeper k.isLt) fun t ht hsh ho => ?_
    obtain ⟨hst, htrap, htpc⟩ := hsh
    obtain ⟨hrep, hnet⟩ := not_reportReg_keeper k.isLt (show KEEPER_LUSE k ∈ _ by simp)
    refine ⟨hst, ?_, htrap, ?_, ho⟩
    · refine (ht.fld _ hrep hnet).trans (.trans ?_ (lLast_recordLUse k s))
      have hstall : OnlyRegs [KEEPER_STAT k, KEEPER_TRAP k, KEEPER_TPC k] (raiseEvData 113 k [k.val] (recordLUse k s))
          (stall k 7 (raiseEvData 113 k [k.val] (recordLUse k s))) :=
        (acts_stall (F := [28 + k]) k.isLt (.refl _ _ _) (by simp) (by simp) (by simp) (by simp)).only
      exact (congrArg (fget _) (hstall _ (by simp) hrep hnet)).trans
        (fld_raiseEvData _ _ _ (by decide) _ hrep)
    · rw [htpc, eng_raiseEvData, State.eng_recordLUse]
  case watchdog =>
    intro k s hc h0 hn hrep hp hs h5 hreact hd
    have hw := fWatchdog_reports h0 hn hrep hp hs h5
    by_cases hact : s.flag (KEEPER_CTRL k) KEEPER_CTRL_F_WD_ACT
    · rw [if_pos hact] at hw
      refine runs_of_stall (l := [KEEPER_TRAP k, KEEPER_TPC k, KEEPER_STAT k, KEEPER_LUSE k]) k.isLt hc hreact hd
        (congrArg (finish s) hw) (by decide) (acts_fReports _ k s) (fun a h => by simp at h ⊢; tauto)
        (faultCfg_not_keeper k.isLt) fun t ht hsh _ => ?_
      obtain ⟨hst, htrap, _⟩ := hsh
      refine ⟨by rw [ht.eng, eng_stall k.isLt, eng_fReports], fun _ => ⟨hst, htrap⟩, fun hzero => ?_⟩
      simp [State.flag, hzero] at hact
    · rw [if_neg hact] at hw
      refine runs_of_calm (c := .classFWatchdog k) (congrArg (finish s) hw) ((acts_fReports [] k s).calm hc) fun t ht _ => ?_
      obtain ⟨hrep, hnet⟩ := not_reportReg_keeper k.isLt (show KEEPER_STAT k ∈ _ by simp)
      refine ⟨by rw [ht.eng, eng_fReports], fun hone => ?_, fun _ => ?_⟩
      · simp [State.flag, hone] at hact
      · exact (ht.fld _ hrep hnet).trans (congrArg (fget _) (reg_fReports _ _ hrep))

end Sys2Proof.Machine
end

section
/-! Writes of register rows (R36, R42, R43): what the fields of a row make of a written word, and accesses that no check
unit takes. -/

namespace Sys2Proof.Machine

/-! ### Accesses that no check unit takes -/

/-- No check unit runs. -/
abbrev CuIdle (s : State) : Prop := ∀ u : Fin 4, s.fld (CU_STAT u) CU_STAT_BUSY = 0

theorem cuSees_of_idle {s : State} (h : CuIdle s) {u : Nat} (hu : u < 4) (src : Nat) : cuSees s u src = false := by
  have h0 : s.flag (CU_STAT u) CU_STAT_BUSY = false := by
    unfold State.flag
    rw [h ⟨u, hu⟩]
    rfl
  unfold cuSees
  rw [h0]
  rfl

theorem cuBus_of_idle {s : State} (h : CuIdle s) (write : Bool) (a : Nat) (v : Word) : cuBus write a v s = s := by
  unfold cuBus
  refine List.foldlRecOn (motive := fun t => t = s) _ _ rfl fun t ht u hu => ?_
  subst ht
  rw [cuSees_of_idle h (List.mem_range.1 hu)]
  rfl

theorem flashRead_of_idle {s : State} (h : CuIdle s) (a n : Nat) : flashRead a n s = s := by
  unfold flashRead
  rw [if_neg]
  simp only [List.any_eq_true, List.mem_range, not_exists, not_and]
  intro u hu
  simp [cuSees_of_idle h hu]

/-- Idle check units are idle while their registers stand. -/
theorem CuIdle.of_regs {s t : State} (h : CuIdle s) (hr : ∀ u : Fin 4, t.reg (CU_STAT u) = s.reg (CU_STAT u)) : CuIdle t :=
  fun u => (congrArg (fget _) (hr u)).trans (h u)

theorem masterError_of_register {s : State} {a : Nat} (m : Nat) (hw : canWindow a = none) :
    masterError m s a = accessError s a := by
  unfold masterError
  rw [if_neg]
  simp [hw]

/-! ### The word that the fields of a row make -/

/-- Fields that share no bit. -/
def Fld.apart (f g : Fld) : Bool := decide (g.lo + g.w ≤ f.lo ∨ f.lo + f.w ≤ g.lo)

/-- The word after a write of `v` through `view` that every field takes (R36). -/
def writtenWord (fs : List FInfo) (view : Nat) (v old : Word) : Word :=
  fs.foldl (fun w f => fput f.fld (viewBits f.acc view (fget f.fld w) (fget f.fld v)) w) old

/-- A field apart from those of the row stands. -/
theorem fget_writtenWord_apart {fs : List FInfo} {g : Fld} (h : ∀ f ∈ fs, f.fld.apart g = true) (view : Nat) (v old : Word) :
    fget g (writtenWord fs view v old) = fget g old := by
  induction fs generalizing old with
  | nil => rfl
  | cons f rest ih =>
    refine (ih (fun x hx => h x (List.mem_cons_of_mem _ hx)) _).trans ?_
    exact fget_fput_other _ _ _ _ (of_decide_eq_true (h f List.mem_cons_self))

/-- A field of the row takes what its access code and the view make of the written value. -/
theorem fget_writtenWord {fs : List FInfo} {f : FInfo} (hf : f ∈ fs)
    (hd : fs.Pairwise fun x y => y.fld.apart x.fld = true) (h32 : f.fld.lo + f.fld.w ≤ 32) (view : Nat) (v old : Word) :
    fget f.fld (writtenWord fs view v old) =
      viewBits f.acc view (fget f.fld old) (fget f.fld v) % 2 ^ f.fld.w := by
  induction fs generalizing old with
  | nil => cases hf
  | cons g rest ih =>
    obtain ⟨hg, hrest⟩ := List.pairwise_cons.1 hd
    rcases List.mem_cons.1 hf with rfl | hmem
    · exact (fget_writtenWord_apart hg view v _).trans (fget_fput_same _ _ _ h32)
    · refine (ih hmem hrest _).trans ?_
      have hap := of_decide_eq_true (hg f hmem)
      rw [fget_fput_other _ _ _ _ (by omega)]

/-- Master `m` may write every field of the row, and nothing locks it. -/
def FieldsOpen (s : State) (m : Nat) (locked : Bool) (fs : List FInfo) : Prop :=
  ∀ f ∈ fs, f.acc ≠ .wl ∧ (f.pr = true → privileged s m = true ∧ locked = false)

theorem writeField_open {s : State} {m a view : Nat} {locked : Bool} {v : Word} {f : FInfo} (w : WriteAcc)
    (h : f.acc ≠ .wl ∧ (f.pr = true → privileged s m = true ∧ locked = false)) :
    writeField s m a view locked v w f =
      { w with word := fput f.fld (viewBits f.acc view (fget f.fld w.word) (fget f.fld v)) w.word } := by
  obtain ⟨hwl, hpr⟩ := h
  unfold writeField
  extract_lets x old new
  have h1 : ¬ (f.pr && !privileged s m) = true := by
    cases hp : f.pr
    · simp
    · simp [(hpr hp).1]
  have h3 : ¬ (locked && f.pr && f.acc == .rw) = true := by
    cases hp : f.pr
    · simp
    · simp [(hpr hp).2]
  rw [if_neg h1, if_neg (by simpa using hwl), if_neg h3]

theorem foldl_writeField_open {s : State} {m a view : Nat} {locked : Bool} {v : Word} {fs : List FInfo}
    (h : FieldsOpen s m locked fs) (w : WriteAcc) :
    fs.foldl (fun w f => writeField s m a view locked v w f) w = { w with word := writtenWord fs view v w.word } := by
  induction fs generalizing w with
  | nil => rfl
  | cons f rest ih =>
    rw [List.foldl_cons, writeField_open w (h f List.mem_cons_self), ih fun x hx => h x (List.mem_cons_of_mem _ hx)]
    rfl

/-- A write that every field of its row takes. -/
theorem writeRow_open {s : State} {m full i : Nat} {r : RegRow} {v : Word}
    (h : FieldsOpen s m (lockedBy s r.lock i) (entryFields r i)) :
    writeRow m full r i v s =
      State.setReg (r.addrOf i) (writtenWord (entryFields r i) (viewOf full) v (s.reg (r.addrOf i))) s := by
  unfold writeRow
  extract_lets a locked w t t1 t2
  have hw : w = ⟨writtenWord (entryFields r i) (viewOf full) v (s.reg (r.addrOf i)), false, false, []⟩ :=
    foldl_writeField_open h _
  simp only [t2, t1, t, hw]
  rfl

end Sys2Proof.Machine
end

section
/-! Data memory and the masked call of the Warden: CALLM and RETM (R299), and the bus error that traps (R39, R281). -/

namespace Sys2Proof.Machine

/-! ### Bytes of memory -/

theorem State.bytesLE_lt (s : State) (k n : Nat) : s.bytesLE k n < 256 ^ n := by
  induction n generalizing k with
  | zero => exact Nat.one_pos
  | succ n ih =>
    have h := ih (k + 1)
    have hb : (s.byte k).toNat < 256 := (s.byte k).isLt
    unfold State.bytesLE
    rw [Nat.pow_succ]
    omega

theorem State.bytesLE_congr {s t : State} {k n : Nat} (h : ∀ a, k ≤ a → a < k + n → t.byte a = s.byte a) :
    t.bytesLE k n = s.bytesLE k n := by
  induction n generalizing k with
  | zero => rfl
  | succ n ih =>
    unfold State.bytesLE
    rw [h k (by omega) (by omega), ih fun a h1 h2 => h a (by omega) (by omega)]

theorem State.bytesLE_setBytesLE_same (s : State) (k n v : Nat) :
    (State.setBytesLE k n v s).bytesLE k n = v % 256 ^ n := by
  induction n generalizing s k v with
  | zero => simp [State.bytesLE, Nat.mod_one]
  | succ n ih =>
    have hb : (State.setBytesLE (k + 1) n (v / 256) (State.setByte k (BitVec.ofNat 8 v) s)).byte k = BitVec.ofNat 8 v := by
      rw [State.byte_setBytesLE_other _ _ _ _ _ (by omega), State.byte_setByte_same]
    unfold State.setBytesLE State.bytesLE
    rw [hb, ih, Nat.pow_succ', Nat.mod_mul]
    rfl

theorem SameBytes.refl (s : State) (lo hi : Nat) : SameBytes s s lo hi := fun _ _ => rfl

theorem SameBytes.trans {s t u : State} {lo hi : Nat} (h : SameBytes s t lo hi) (h' : SameBytes t u lo hi) :
    SameBytes s u lo hi := fun a ha => (h' a ha).trans (h a ha)

theorem SameBytes.widen {s t : State} {lo hi lo' hi' : Nat} (h : SameBytes s t lo hi) (hl : lo' ≤ lo) (hh : hi ≤ hi') :
    SameBytes s t lo' hi' := fun a ha => h a (by omega)

theorem sameBytes_setBytesLE (s : State) (k n v : Nat) : SameBytes s (State.setBytesLE k n v s) k (k + n) :=
  fun a ha => State.byte_setBytesLE_other s a k n v ha

/-- Bytes that stand read as before. -/
theorem SameBytes.bytesLE {s t : State} {lo hi k n : Nat} (h : SameBytes s t lo hi) (hk : k + n ≤ lo ∨ hi ≤ k) :
    t.bytesLE k n = s.bytesLE k n := State.bytesLE_congr fun a h1 h2 => h a (by omega)

/-- From `s` to `t` only memory has changed. -/
def OnlyMem (s t : State) : Prop := t = { s with mem := t.mem }

theorem OnlyMem.trans {s t u : State} (h : OnlyMem s t) (h' : OnlyMem t u) : OnlyMem s u := by
  unfold OnlyMem at *
  rw [h] at h'
  exact h'

theorem onlyMem_setBytesLE {s t : State} (h : OnlyMem s t) (k n v : Nat) : OnlyMem s (State.setBytesLE k n v t) :=
  h.trans (State.setBytesLE_frame t k n v)

theorem OnlyMem.eng {s t : State} (h : OnlyMem s t) (k : Nat) : t.eng k = s.eng k := by rw [h]; rfl

theorem OnlyMem.reg {s t : State} (h : OnlyMem s t) (a : Nat) : t.reg a = s.reg a := by
  rw [h]
  rfl

theorem OnlyMem.acts {F l : List Nat} {r s t : State} (h : OnlyMem s t) (ha : Acts F l r s) : Acts F l r t := by
  rw [h]
  exact ha

/-! ### Registers that CALLM stores -/

/-- The words of the registers of `l`, numbered, go to the addresses from `base` on. -/
def wordsSaved (base : Nat) (x : Fin 32 → Word) (l : List (Fin 32 × Nat)) (t : State) : State :=
  l.foldl (fun t r => State.setBytesLE (base + 4 * r.2) 4 (x r.1).toNat t) t

theorem onlyMem_wordsSaved {s t : State} (h : OnlyMem s t) (base : Nat) (x : Fin 32 → Word) (l : List (Fin 32 × Nat)) :
    OnlyMem s (wordsSaved base x l t) :=
  List.foldlRecOn l _ h fun _ hu _ _ => onlyMem_setBytesLE hu _ _ _

/-- Each word stands at its address, and no other byte has changed. -/
theorem wordsSaved_spec (base : Nat) (x : Fin 32 → Word) (l : List (Fin 32)) (j : Nat) (t : State) :
    (∀ e ∈ l.zipIdx j, (wordsSaved base x (l.zipIdx j) t).bytesLE (base + 4 * e.2) 4 = (x e.1).toNat) ∧
      SameBytes t (wordsSaved base x (l.zipIdx j) t) (base + 4 * j) (base + 4 * (j + l.length)) := by
  induction l generalizing j t with
  | nil => exact ⟨fun e he => absurd he List.not_mem_nil, SameBytes.refl _ _ _⟩
  | cons r rest ih =>
    obtain ⟨hval, hsame⟩ := ih (j + 1) (State.setBytesLE (base + 4 * j) 4 (x r).toNat t)
    have hfold : wordsSaved base x ((r :: rest).zipIdx j) t =
        wordsSaved base x (rest.zipIdx (j + 1)) (State.setBytesLE (base + 4 * j) 4 (x r).toNat t) := rfl
    rw [hfold]
    refine ⟨fun e he => ?_, ?_⟩
    · rcases List.mem_cons.1 he with rfl | he
      · rw [hsame.bytesLE (.inl (by omega)), State.bytesLE_setBytesLE_same]
        exact Nat.mod_eq_of_lt (x r).isLt
      · exact hval e he
    · refine ((sameBytes_setBytesLE t _ 4 _).widen (by omega) ?_).trans (hsame.widen (by omega) ?_) <;>
        simp only [List.length_cons] <;> omega

/-- The frame of a masked call at `sp` (R299): the mask, the return address and the words of the registers of `l`. -/
def frameSaved (sp mask : Nat) (ra : Word) (x : Fin 32 → Word) (l : List (Fin 32)) (t : State) : State :=
  wordsSaved (sp + 8) x l.zipIdx (State.setBytesLE (sp + 4) 4 ra.toNat (State.setBytesLE sp 4 mask t))

theorem onlyMem_frameSaved (sp mask : Nat) (ra : Word) (x : Fin 32 → Word) (l : List (Fin 32)) (t : State) :
    OnlyMem t (frameSaved sp mask ra x l t) :=
  onlyMem_wordsSaved (onlyMem_setBytesLE (State.setBytesLE_frame t _ _ _) _ _ _) _ _ _

theorem frameSaved_spec (sp mask : Nat) (ra : Word) (x : Fin 32 → Word) (l : List (Fin 32)) (t : State)
    (hmask : mask < 256 ^ 4) :
    (frameSaved sp mask ra x l t).bytesLE sp 4 = mask ∧
      (frameSaved sp mask ra x l t).bytesLE (sp + 4) 4 = ra.toNat ∧
      (∀ e ∈ l.zipIdx, (frameSaved sp mask ra x l t).bytesLE (sp + 8 + 4 * e.2) 4 = (x e.1).toNat) ∧
      SameBytes t (frameSaved sp mask ra x l t) sp (sp + 4 * (l.length + 2)) := by
  obtain ⟨hwords, hsame⟩ := wordsSaved_spec (sp + 8) x l 0
    (State.setBytesLE (sp + 4) 4 ra.toNat (State.setBytesLE sp 4 mask t))
  have hhead := (sameBytes_setBytesLE (State.setBytesLE sp 4 mask t) (sp + 4) 4 ra.toNat)
  refine ⟨?_, ?_, hwords, ?_⟩
  · exact (hsame.bytesLE (.inl (by omega))).trans ((hhead.bytesLE (.inl (by omega))).trans
      ((State.bytesLE_setBytesLE_same ..).trans (Nat.mod_eq_of_lt hmask)))
  · exact (hsame.bytesLE (.inl (by omega))).trans
      ((State.bytesLE_setBytesLE_same ..).trans (Nat.mod_eq_of_lt ra.isLt))
  · exact (((sameBytes_setBytesLE t sp 4 mask).widen (by omega) (by omega)).trans
      (hhead.widen (by omega) (by omega))).trans (hsame.widen (by omega) (by omega))

/-! ### CALLM -/

theorem issueStill_of_not_barred {e : Nat} {w : Word} {bars : Engine → Bool} {f : State → State} {s : State}
    (hi : Issues s e) (hb : bars (s.eng e) = false) :
    issueStill e w bars f s = f (State.modEng e (fun g => g.spend 1) s) := issueBy_of_not_barred hi hb

theorem engKey_data {a : Nat} (s : State) (h : 0x80000 ≤ a) : engKey s 8 a = a := by
  unfold engKey
  rw [if_neg (by decide), if_neg (by omega)]

theorem Engine.x_issue_spend (g : Engine) (n : Nat) (r : Fin 32) : (g.spend n).issue.x r = g.issue.x r := by
  unfold Engine.x
  rw [ctx_issue, ctx_issue]
  rfl

/-- The engine after CALLM: its frame lies at `sp`, `n` registers were stored, and it goes on at `target`
after the delay slot at `next`. -/
def Engine.called (sp : Word) (n : Nat) (next target : Word) (g : Engine) : Engine :=
  (((g.result 30 sp 1).result 29 sp 1).spend (2 + n)).mapCtx fun c => { c with
    pc := next, npc := target, ds := true }

theorem Engine.flightOf_mapCtx_spend (g : Engine) (n : Nat) (f : Ctx → Ctx) (r : Fin 32) :
    ((g.spend n).mapCtx f).flightOf r = g.flightOf r := by
  unfold flightOf
  rw [flight_mapCtx, flight_spend]

theorem Engine.x_called (sp next target : Word) (n : Nat) (g : Engine) :
    ((g.called sp n next target).agedBy 1).x 30 = sp ∧ ((g.called sp n next target).agedBy 1).x 29 = sp := by
  refine ⟨(x_agedBy_of_flightOf (by decide) 0 ?_).2, (x_agedBy_of_flightOf (by decide) 0 ?_).2⟩ <;>
    unfold called <;> rw [flightOf_mapCtx_spend]
  · rw [flightOf_result_other (by decide), flightOf_result_same (by decide)]
  · rw [flightOf_result_same (by decide)]

theorem Engine.ctx_called (sp next target : Word) (n : Nat) (g : Engine) :
    (g.called sp n next target).ctx.pc = next ∧ (g.called sp n next target).ctx.npc = target ∧
      (g.called sp n next target).ctx.ds = true := by
  unfold called
  rw [ctx_mapCtx]
  exact ⟨rfl, rfl, rfl⟩

/-- Where CALLM can store below the Warden's x30, it stores the mask, the return address and the registers, and enters
its delay slot. -/
theorem callmBody_calls {w : Word} {off : BitVec 26} {s : State} {mask top : Nat}
    (hcode : ((s.eng 8).ctx.pc + 4#32).toNat < codeTop 8)
    (hmask : mask = s.bytesLE (engKey s 8 ((s.eng 8).ctx.pc + 4#32).toNat) 4) (htop : top = (sees s 8 30).toNat)
    (halign : top % 4 = 0) (hlo : 0x10000000 + 4 * ((maskRegs mask).length + 2) ≤ top) (hhi : top ≤ dataTop 8) :
    callmBody 8 w off s =
      let sp := top - 4 * ((maskRegs mask).length + 2)
      State.modEng 8 (fun g => g.called (BitVec.ofNat 32 sp) (maskRegs mask).length
          ((s.eng 8).ctx.pc + 8#32) (relTarget g (off.signExtend 32) &&& 0xFFFFFFFC#32))
        (frameSaved sp mask ((s.eng 8).ctx.pc + 12#32) (sees s 8) (maskRegs mask) s) := by
  have hfar : 0x80000 ≤ top - 4 * ((maskRegs mask).length + 2) := by omega
  subst hmask htop
  unfold callmBody
  extract_lets g pc m rs size x top sp put t1 t2
  have hput : ∀ i v t, put i v t = State.setBytesLE (sp + i) 4 v t := fun i v t =>
    congrArg (fun k => State.setBytesLE k 4 v t) (engKey_data s (hfar.trans (Nat.le_add_right _ i)))
  have hfold : t2 = wordsSaved (sp + 8) x.x rs.zipIdx t1 := congrArg (fun f => rs.zipIdx.foldl f t1) (funext fun t =>
    funext fun r => by rw [hput, ← Nat.add_assoc])
  have ht1 : t1 = State.setBytesLE (sp + 4) 4 (pc + 12#32).toNat (State.setBytesLE sp 4 m s) := by
    show put 4 _ (put 0 m s) = _
    rw [hput, hput]
    rfl
  rw [if_neg (Nat.not_le.2 hcode), if_neg (not_not.2 halign), if_neg (not_or.2 ⟨Nat.not_lt.2 hlo, Nat.not_lt.2 hhi⟩), hfold,
    ht1]
  rfl

theorem State.byte_of_mem {t u : State} (h : t.mem = u.mem) (k : Nat) : t.byte k = u.byte k := by
  unfold State.byte
  rw [h]

theorem State.bytesLE_of_mem {t u : State} (h : t.mem = u.mem) (k n : Nat) : t.bytesLE k n = u.bytesLE k n :=
  State.bytesLE_congr fun a _ _ => byte_of_mem h a

/-- CALLM on the Warden outside a delay slot, with room below x30 (R299). -/
theorem callm_calls {off : BitVec 26} {mask top : Nat} {s : State} (hc : Calm s) (hi : Issues s 8)
    (hds : (s.eng 8).ctx.ds = false) (hcode : ((s.eng 8).ctx.pc + 4#32).toNat < codeTop 8)
    (hmask : mask = s.bytesLE (engKey s 8 ((s.eng 8).ctx.pc + 4#32).toNat) 4) (htop : top = (sees s 8 30).toNat)
    (halign : top % 4 = 0) (hlo : 0x10000000 + 4 * ((maskRegs mask).length + 2) ≤ top) (hhi : top ≤ dataTop 8) :
    Runs (.callm 8 off) s fun t =>
      (t.eng 8).ctx.pc = (s.eng 8).ctx.pc + 8#32 ∧
      (t.eng 8).ctx.npc = ((s.eng 8).ctx.pc + off.signExtend 32 * 4#32) &&& 0xFFFFFFFC#32 ∧
      (t.eng 8).ctx.ds = true ∧
      ((t.eng 8).agedBy 1).x 30 = BitVec.ofNat 32 (top - 4 * ((maskRegs mask).length + 2)) ∧
      ((t.eng 8).agedBy 1).x 29 = BitVec.ofNat 32 (top - 4 * ((maskRegs mask).length + 2)) ∧
      t.bytesLE (top - 4 * ((maskRegs mask).length + 2)) 4 = mask ∧
      t.bytesLE (top - 4 * ((maskRegs mask).length + 2) + 4) 4 = ((s.eng 8).ctx.pc + 12#32).toNat ∧
      (∀ e ∈ (maskRegs mask).zipIdx, t.bytesLE (top - 4 * ((maskRegs mask).length + 2) + 8 + 4 * e.2) 4 = (sees s 8 e.1).toNat) ∧
      SameBytes s t (top - 4 * ((maskRegs mask).length + 2)) top ∧
      OnlyRegs [] s t := by
  have hx : exec (.callm 8 off) s = finishMem s (callmBody 8 (encJ 0x3A off) off (State.modEng 8 (fun g => g.spend 1) s)) :=
    congrArg (finishMem s) (issueStill_of_not_barred hi (by simp [hds]))
  have he : (State.modEng 8 (fun g => g.spend 1) s).eng 8 = (s.eng 8).spend 1 := State.eng_modEng_same ..
  have hsees : sees (State.modEng 8 (fun g => g.spend 1) s) 8 = sees s 8 := funext fun r => by
    rw [sees, he]
    exact Engine.x_issue_spend _ _ _
  have hcall := callmBody_calls (w := encJ 0x3A off) (off := off) (s := State.modEng 8 (fun g => g.spend 1) s) (mask := mask)
    (top := top) (by rw [he]; exact hcode) (by rw [he]; exact hmask) (by rw [hsees]; exact htop) halign hlo hhi
  rw [hsees, he, Engine.ctx_spend] at hcall
  obtain ⟨sp, hsp⟩ : ∃ sp, sp = top - 4 * ((maskRegs mask).length + 2) := ⟨_, rfl⟩
  rw [← hsp] at hcall ⊢
  obtain ⟨hm0, hm4, hwords, hrest⟩ := frameSaved_spec sp mask ((s.eng 8).ctx.pc + 12#32) (sees s 8) (maskRegs mask)
    (State.modEng 8 (fun g => g.spend 1) s) (hmask ▸ State.bytesLE_lt ..)
  have hmem := onlyMem_frameSaved sp mask ((s.eng 8).ctx.pc + 12#32) (sees s 8) (maskRegs mask)
    (State.modEng 8 (fun g => g.spend 1) s)
  have ha : Acts [] [] s (callmBody 8 (encJ 0x3A off) off (State.modEng 8 (fun g => g.spend 1) s)) :=
    hcall ▸ acts_modEng (hmem.acts (acts_modEng (.refl [] [] s) _ _)) _ _
  refine runsMem_of_calm hx (ha.calm hc) fun t ht hm => ?_
  rw [hcall] at hm
  have hg : t.eng 8 = ((s.eng 8).spend 1).called (BitVec.ofNat 32 sp) (maskRegs mask).length ((s.eng 8).ctx.pc + 8#32)
      (relTarget (s.eng 8) (off.signExtend 32) &&& 0xFFFFFFFC#32) := by
    rw [ht.eng, hcall]
    refine (State.eng_modEng_same ..).trans ?_
    rw [hmem.eng, he]
    rfl
  obtain ⟨h30, h29⟩ := Engine.x_called (BitVec.ofNat 32 sp) ((s.eng 8).ctx.pc + 8#32)
    (relTarget (s.eng 8) (off.signExtend 32) &&& 0xFFFFFFFC#32) (maskRegs mask).length ((s.eng 8).spend 1)
  obtain ⟨hpc, hnpc, hdst⟩ := Engine.ctx_called (BitVec.ofNat 32 sp) ((s.eng 8).ctx.pc + 8#32)
    (relTarget (s.eng 8) (off.signExtend 32) &&& 0xFFFFFFFC#32) (maskRegs mask).length ((s.eng 8).spend 1)
  have hbytes : ∀ k n, t.bytesLE k n = _ := State.bytesLE_of_mem hm
  refine ⟨by rw [hg, hpc], by rw [hg, hnpc]; rfl, by rw [hg, hdst], by rw [hg, h30], by rw [hg, h29],
    (hbytes _ _).trans hm0, (hbytes _ _).trans hm4, fun e h => (hbytes _ _).trans (hwords e h), fun a h => ?_,
    ht.onlyRegs ha⟩
  exact (State.byte_of_mem hm a).trans (hrest a (by omega))

/-! ### RETM -/

theorem ramKey_warden {s : State} {a : Nat} (hlo : 0x10000000 ≤ a) (hhi : a < dataTop 8) : ramKey s 8 a = some a := by
  unfold ramKey
  rw [if_pos ⟨hlo, hhi⟩, engKey_data s (by omega)]

theorem mem_maskRegs {mask : Nat} {r : Fin 32} (h : r ∈ maskRegs mask) : r ≠ 0 ∧ r ≠ 30 := by
  have h := (List.mem_filter.1 h).2
  simp only [Bool.and_eq_true, bne_iff_ne] at h
  exact ⟨h.1.2, h.2⟩

theorem nodup_maskRegs (mask : Nat) : (maskRegs mask).Nodup := (List.nodup_finRange 32).filter _

/-- Results of distance 1 for the registers of `l`, numbered. -/
def Engine.results (v : Nat → Word) (l : List (Fin 32 × Nat)) (g : Engine) : Engine :=
  l.foldl (fun h r => h.result r.1 (v r.2) 1) g

theorem Engine.ctx_results (v : Nat → Word) (l : List (Fin 32 × Nat)) (g : Engine) : (g.results v l).ctx = g.ctx :=
  List.foldlRecOn (motive := fun h => Engine.ctx h = g.ctx) l _ rfl fun h hh r _ => (ctx_result r.1 _ 1 h).trans hh

theorem Engine.flightOf_results_other (v : Nat → Word) {l : List (Fin 32)} {r : Fin 32} (h : r ∉ l) (j : Nat) (g : Engine) :
    (g.results v (l.zipIdx j)).flightOf r = g.flightOf r := by
  induction l generalizing j g with
  | nil => rfl
  | cons q l ih =>
    rw [List.mem_cons, not_or] at h
    exact (ih h.2 (j + 1) (g.result q (v j) 1)).trans (flightOf_result_other h.1 _ _)

/-- Each register of a list that repeats none has its own result on its way. -/
theorem Engine.flightOf_results (v : Nat → Word) {l : List (Fin 32)} (hn : l.Nodup) (h0 : ∀ r ∈ l, r ≠ 0) (j : Nat)
    (g : Engine) : ∀ e ∈ l.zipIdx j, (g.results v (l.zipIdx j)).flightOf e.1 = [(e.1.val, v e.2, 1)] := by
  induction l generalizing j g with
  | nil => exact fun e he => absurd he List.not_mem_nil
  | cons q l ih =>
    obtain ⟨hq, hl⟩ := List.nodup_cons.1 hn
    intro e he
    rcases List.mem_cons.1 he with rfl | he
    · exact (flightOf_results_other v hq (j + 1) _).trans (flightOf_result_same (h0 q List.mem_cons_self) _ _)
    · exact ih hl (fun r hr => h0 r (List.mem_cons_of_mem q hr)) (j + 1) _ e he

/-- The engine after RETM: registers restored, x30 above the frame, on its way to `target`. -/
def Engine.returned (l : List (Fin 32)) (v : Nat → Word) (sp target : Word) (g : Engine) : Engine :=
  (((g.results v l.zipIdx).result 30 sp 1).spend (2 + l.length)).branch true target

theorem Engine.ctx_returned (l : List (Fin 32)) (v : Nat → Word) (sp target : Word) (g : Engine) :
    (g.returned l v sp target).ctx.pc = g.ctx.npc ∧
      (g.returned l v sp target).ctx.npc = target &&& 0xFFFFFFFC#32 ∧
      (g.returned l v sp target).ctx.ds = true := by
  unfold returned branch
  rw [ctx_mapCtx, ctx_spend, ctx_result, ctx_results]
  exact ⟨rfl, rfl, rfl⟩

theorem Engine.x_returned {l : List (Fin 32)} (hn : l.Nodup) (h0 : ∀ r ∈ l, r ≠ 0 ∧ r ≠ 30) (v : Nat → Word)
    (sp target : Word) (g : Engine) :
    ((g.returned l v sp target).agedBy 1).x 30 = sp ∧
      ∀ e ∈ l.zipIdx, ((g.returned l v sp target).agedBy 1).x e.1 = v e.2 := by
  refine ⟨(x_agedBy_of_flightOf (by decide) 0 ?_).2, fun e he => ?_⟩
  · unfold returned branch
    rw [flightOf_mapCtx_spend, flightOf_result_same (by decide)]
  · obtain ⟨hz, h30⟩ := h0 e.1 (List.fst_mem_of_mem_zipIdx he)
    refine (x_agedBy_of_flightOf hz 0 ?_).2
    unfold returned branch
    rw [flightOf_mapCtx_spend, flightOf_result_other h30, flightOf_results v hn (fun r hr => (h0 r hr).1) 0 g e he]

/-- The word at `a`, as a load reads it. -/
def State.wordAt (s : State) (a : Nat) : Word := BitVec.ofNat 32 (s.bytesLE a 4)

/-- With its frame in data memory RETM restores the registers that the mask names. -/
theorem retmBody_returns {w : Word} {s : State} {mask sp : Nat} (hsp : sp = (sees s 8 30).toNat) (halign : sp % 4 = 0)
    (hlo : 0x10000000 ≤ sp) (hmask : mask = s.bytesLE sp 4) (hhi : sp + 4 * ((maskRegs mask).length + 2) ≤ dataTop 8) :
    retmBody 8 w s = State.modEng 8 (fun g => g.returned (maskRegs mask) (fun i => s.wordAt (sp + 8 + 4 * i))
      (BitVec.ofNat 32 (sp + 4 * ((maskRegs mask).length + 2))) (s.wordAt (sp + 4))) s := by
  have hkey : ∀ o, o < 4 * ((maskRegs mask).length + 2) → ramKey s 8 (sp + o) = some (sp + o) := fun o ho =>
    ramKey_warden (by omega) (by omega)
  have hsp0 : ramKey s 8 sp = some sp := hkey 0 (by omega)
  have hfind : ((List.range ((maskRegs mask).length + 2)).map fun i => sp + 4 * i).find?
      (fun a => (ramKey s 8 a).isNone) = none := by
    simp only [List.find?_eq_none, List.mem_map, List.mem_range]
    rintro _ ⟨i, hi, rfl⟩
    simp [hkey (4 * i) (by omega)]
  have hfold : ∀ g : Engine, (maskRegs mask).zipIdx.foldl (fun h r => h.result r.1 (match ramKey s 8 (sp + (8 + 4 * r.2)) with
      | some j => BitVec.ofNat 32 (s.bytesLE j 4)
      | none => 0#32) 1) g = g.results (fun i => s.wordAt (sp + 8 + 4 * i)) (maskRegs mask).zipIdx := fun g =>
    List.foldl_ext _ _ g fun h r hr => by
      have hlt := List.snd_lt_of_mem_zipIdx hr
      rw [hkey _ (by omega), ← Nat.add_assoc]
      rfl
  unfold retmBody
  rw [← hsp, if_neg (not_not.2 halign), hsp0]
  simp only [← hmask, hfind, hkey 4 (by omega)]
  exact congrArg (fun f => State.modEng 8 f s) (funext fun g => congrArg (fun h : Engine => ((h.result 30
    (BitVec.ofNat 32 (sp + 4 * ((maskRegs mask).length + 2))) 1).spend (2 + (maskRegs mask).length)).branch true
    (s.wordAt (sp + 4))) (hfold g))

/-- RETM on the Warden outside a delay slot, with its frame in data memory (R299). -/
theorem retm_returns {mask sp : Nat} {s : State} (hc : Calm s) (hi : Issues s 8) (hds : (s.eng 8).ctx.ds = false)
    (hsp : sp = (sees s 8 30).toNat) (halign : sp % 4 = 0) (hlo : 0x10000000 ≤ sp) (hmask : mask = s.bytesLE sp 4)
    (hhi : sp + 4 * ((maskRegs mask).length + 2) ≤ dataTop 8) :
    Runs (.retm 8) s fun t =>
      (t.eng 8).ctx.pc = (s.eng 8).ctx.npc ∧
      (t.eng 8).ctx.npc = BitVec.ofNat 32 (s.bytesLE (sp + 4) 4) &&& 0xFFFFFFFC#32 ∧
      (t.eng 8).ctx.ds = true ∧
      ((t.eng 8).agedBy 1).x 30 = BitVec.ofNat 32 (sp + 4 * ((maskRegs mask).length + 2)) ∧
      (∀ e ∈ (maskRegs mask).zipIdx, ((t.eng 8).agedBy 1).x e.1 = BitVec.ofNat 32 (s.bytesLE (sp + 8 + 4 * e.2) 4)) ∧
      t.mem = s.mem ∧
      OnlyRegs [] s t := by
  have hx : exec (.retm 8) s = finish s (retmBody 8 0x3B#32 (State.modEng 8 (fun g => g.spend 1) s)) :=
    congrArg (finish s) (issueStill_of_not_barred hi (by simp [hds]))
  have he : (State.modEng 8 (fun g => g.spend 1) s).eng 8 = (s.eng 8).spend 1 := State.eng_modEng_same ..
  have hsees : sees (State.modEng 8 (fun g => g.spend 1) s) 8 30 = sees s 8 30 := by
    rw [sees, he]
    exact Engine.x_issue_spend _ _ _
  have hret := retmBody_returns (w := 0x3B#32) (s := State.modEng 8 (fun g => g.spend 1) s) (mask := mask)
    (by rw [hsees]; exact hsp) halign hlo hmask hhi
  rw [hret] at hx
  have ha : Acts [] [] s (State.modEng 8 (fun g => g.spend 1) s) := acts_modEng (.refl [] [] s) _ _
  refine runs_of_calm hx ((acts_modEng ha 8 _).calm hc) fun t ht hm => ?_
  have hg : t.eng 8 = ((s.eng 8).spend 1).returned (maskRegs mask) (fun i => s.wordAt (sp + 8 + 4 * i))
      (BitVec.ofNat 32 (sp + 4 * ((maskRegs mask).length + 2))) (s.wordAt (sp + 4)) := by
    rw [ht.eng]
    refine (State.eng_modEng_same ..).trans ?_
    rw [he]
    rfl
  obtain ⟨hpc, hnpc, hdst⟩ := Engine.ctx_returned (maskRegs mask) (fun i => s.wordAt (sp + 8 + 4 * i))
    (BitVec.ofNat 32 (sp + 4 * ((maskRegs mask).length + 2))) (s.wordAt (sp + 4)) ((s.eng 8).spend 1)
  obtain ⟨h30, hregs⟩ := Engine.x_returned (nodup_maskRegs mask) (fun r => mem_maskRegs)
    (fun i => s.wordAt (sp + 8 + 4 * i)) (BitVec.ofNat 32 (sp + 4 * ((maskRegs mask).length + 2))) (s.wordAt (sp + 4))
    ((s.eng 8).spend 1)
  exact ⟨by rw [hg, hpc, Engine.ctx_spend], by rw [hg, hnpc]; rfl, by rw [hg, hdst], by rw [hg, h30],
    fun e h => by rw [hg, hregs e h]; rfl, hm, ht.onlyRegs (acts_modEng ha 8 _)⟩

/-! ### A bus error that traps the Warden (R39, R281) -/

theorem acts_busError {F l : List Nat} {s t : State} (h : Acts F l s t) (m full : Nat) (write : Bool) (kind : Nat)
    (h1 : SYS_BUSERR_STAT ∈ l) (h2 : SYS_BUSERR_ADDR ∈ l) : Acts F l s (busError m full write kind t) := by
  unfold busError
  extract_lets t1 w t2
  have ht1 : Acts F l s t1 := acts_incFld h _ h1
  have ht2 : Acts F l s t2 := acts_ite (fun _ => ht1) fun _ => acts_setReg (acts_setReg ht1 _ h1) _ h2
  exact acts_raiseEv ht2 _ (by decide)

/-- The first bus error since VALID was cleared is kept (R48). -/
theorem busError_records {s : State} {m kind : Nat} (full : Nat) (write : Bool)
    (hv : s.fld SYS_BUSERR_STAT SYS_BUSERR_STAT_VALID = 0) (hm : m < 16) (hk : kind < 16) :
    (busError m full write kind s).fld SYS_BUSERR_STAT SYS_BUSERR_STAT_VALID = 1 ∧
      (busError m full write kind s).fld SYS_BUSERR_STAT SYS_BUSERR_STAT_MASTER = m ∧
      (busError m full write kind s).fld SYS_BUSERR_STAT SYS_BUSERR_STAT_KIND = kind ∧
      (busError m full write kind s).fld SYS_BUSERR_STAT SYS_BUSERR_STAT_WRITE = b2n write ∧
      (busError m full write kind s).reg SYS_BUSERR_ADDR = BitVec.ofNat 32 full := by
  have hflag : s.flag SYS_BUSERR_STAT SYS_BUSERR_STAT_VALID = false := by
    unfold State.flag
    rw [hv]
    rfl
  unfold busError
  rw [hflag]
  extract_lets t w t2
  have hstat : (raiseEv 246 0xFFFF t2).reg SYS_BUSERR_STAT = w := by
    rw [raiseEv_regs _ _ _ (by decide) _ (by decide)]
    exact (State.reg_setReg_other _ _ (by decide)).trans (State.reg_setReg_same ..)
  have haddr : (raiseEv 246 0xFFFF t2).reg SYS_BUSERR_ADDR = BitVec.ofNat 32 full := by
    rw [raiseEv_regs _ _ _ (by decide) _ (by decide)]
    exact State.reg_setReg_same ..
  unfold State.fld
  rw [hstat]
  refine ⟨?_, ?_, ?_, ?_, haddr⟩
  · exact fget_fput_same _ _ _ (by decide)
  · rw [fget_fput_other _ _ _ _ (by decide), fget_fput_same _ _ _ (by decide)]
    exact Nat.mod_eq_of_lt hm
  · rw [fget_fput_other _ _ _ _ (by decide), fget_fput_other _ _ _ _ (by decide), fget_fput_same _ _ _ (by decide)]
    exact Nat.mod_eq_of_lt hk
  · rw [fget_fput_other _ _ _ _ (by decide), fget_fput_other _ _ _ _ (by decide), fget_fput_other _ _ _ _ (by decide),
      fget_fput_same _ _ _ (by decide)]
    cases write <;> rfl

theorem kp_busError (m full : Nat) (write : Bool) (kind : Nat) (s : State) : (busError m full write kind s).kp = s.kp := by
  unfold busError
  split <;> rfl

theorem eng_busError (m full : Nat) (write : Bool) (kind : Nat) (s : State) (k : Nat) :
    (busError m full write kind s).eng k = s.eng k := by
  unfold State.eng
  rw [kp_busError]

theorem upd_busError (m full : Nat) (write : Bool) (kind : Nat) (s : State) :
    (busError m full write kind s).upd = s.upd := by
  unfold busError
  split <;> rfl

/-- A trap of the Warden that reaches its handler changes its engine alone. -/
theorem trap_warden {cause : Nat} {inst : Word} {s : State} (hh : (s.eng 8).ctx.trap.inh = false)
    (hv : (s.eng 8).vector cause ≠ absentEntry) : trap 8 cause inst s =
      State.modEng 8 (Engine.enterHandler 8 cause inst ((s.eng 8).vector cause) (trapCycles s)) s.drawn := by
  rw [trap_of_vectored hh hv]
  rfl

/-- An access of the Warden that its die does not answer (R39). -/
theorem dieAccessTimeout_traps {addr : Word} {w : CutWord} {h : HostHdr} {s : State} (hc : Calm s)
    (hm : masterUp s 0 = true) (hv : s.fld SYS_BUSERR_STAT SYS_BUSERR_STAT_VALID = 0) (hp : (s.eng 8).present = true)
    (hh : (s.eng 8).ctx.trap.inh = false) (ht : (s.eng 8).tvec ≠ absentEntry) (hu : s.upd.waiting = []) :
    Runs (.dieAccessTimeout 0 addr w h) s fun t =>
      t.fld SYS_BUSERR_STAT SYS_BUSERR_STAT_VALID = 1 ∧
      t.fld SYS_BUSERR_STAT SYS_BUSERR_STAT_MASTER = 0 ∧
      t.fld SYS_BUSERR_STAT SYS_BUSERR_STAT_KIND = 6 ∧
      t.fld SYS_BUSERR_STAT SYS_BUSERR_STAT_WRITE = b2n w.write ∧
      t.reg SYS_BUSERR_ADDR = addr ∧
      (t.eng 8).ctx.trap.cause = 2 ∧
      (t.eng 8).ctx.trap.tpc = (s.eng 8).ctx.pc ∧
      (t.eng 8).ctx.pc = (s.eng 8).tvec ∧
      OnlyRegs [SYS_BUSERR_STAT, SYS_BUSERR_ADDR] s t := by
  obtain ⟨u, hu'⟩ : ∃ u, u = busError 0 addr.toNat w.write 6 s := ⟨_, rfl⟩
  have he : u.eng 8 = s.eng 8 := hu' ▸ eng_busError ..
  have hx0 : accessTimeout 0 addr w h s = trap 8 2 (instAt s 8) u := by
    have hr : engRuns s 8 = true := hp
    unfold accessTimeout engineBusError
    rw [if_neg (by decide)]
    exact (if_pos hm).trans ((if_pos ⟨by decide, hr⟩).trans (congrArg _ hu'.symm))
  have hinh : (u.eng 8).ctx.trap.inh = false := he ▸ hh
  have hvec : (u.eng 8).vector 2 ≠ absentEntry := he ▸ ht
  have hx : exec (.dieAccessTimeout 0 addr w h) s = finishMem s (trap 8 2 (instAt s 8) u) := by
    refine (congrArg (finishHost s) hx0).trans (finishHost_of_none_waits s ?_)
    rw [trap_warden hinh hvec]
    have hupd : u.upd = s.upd := by rw [hu', upd_busError]
    show u.upd.waiting = []
    rw [hupd, hu]
  have ha : Acts [] [SYS_BUSERR_STAT, SYS_BUSERR_ADDR] s (trap 8 2 (instAt s 8) u) := by
    rw [trap_warden hinh hvec, hu']
    have hb : Acts [] [SYS_BUSERR_STAT, SYS_BUSERR_ADDR] s (busError 0 addr.toNat w.write 6 s) :=
      acts_busError (.refl _ _ s) _ _ _ _ (by simp) (by simp)
    exact hb
  have H := trap_tookTrap (inst := instAt s 8) hinh hvec
  refine runsMem_of_calm hx (ha.calm hc) fun t ht hmem => ?_
  obtain ⟨hvalid, hmaster, hkind, hwrite, haddr⟩ := busError_records (m := 0) (kind := 6) addr.toNat w.write hv (by decide) (by decide)
  rw [← hu'] at hvalid hmaster hkind hwrite haddr
  have hreg : ∀ a, reportReg a = false → a ≠ NETPM_STAT → t.reg a = u.reg a := fun a hr hn => by
    rw [ht.regs a hr hn, trap_warden hinh hvec]
    rfl
  have hstat := hreg SYS_BUSERR_STAT (by decide) (by decide)
  unfold State.fld at *
  rw [hstat]
  refine ⟨hvalid, hmaster, hkind, hwrite, ?_, ?_, ?_, ?_, ht.onlyRegs ha⟩
  · rw [hreg _ (by decide) (by decide), haddr, BitVec.ofNat_toNat, BitVec.setWidth_eq]
  · rw [ht.eng, H.cause]
  · rw [ht.eng, H.tpc, he]
  · rw [ht.eng, H.pc, he]
    rfl

/-! ### The restart of a Keeper (R272) -/

theorem Tab.find_filter {α : Type} (t : Tab α) {p : Nat × α → Bool} {k : Nat} (h : ∀ v, p (k, v) = true) :
    Tab.find (t.filter p) k = Tab.find t k := by
  induction t with
  | nil => rfl
  | cons e rest ih =>
    obtain ⟨j, v⟩ := e
    by_cases hj : j = k
    · subst hj
      rw [List.filter_cons_of_pos (h v)]
      simp [Tab.find]
    · by_cases hp : p (j, v) = true
      · rw [List.filter_cons_of_pos hp]
        simp [Tab.find, hj, ih]
      · rw [List.filter_cons_of_neg hp]
        simp [Tab.find, hj, ih]

theorem sameBytes_clearRange (k n : Nat) (s : State) : SameBytes s (State.clearRange k n s) k (k + n) := fun a ha => by
  unfold State.byte State.clearRange Tab.get
  rw [Tab.find_filter _ fun _ => decide_eq_true (show a < k ∨ k + n ≤ a by omega)]

theorem onlyMem_copyBytes (src dst n : Nat) {s t : State} (h : OnlyMem s t) : OnlyMem s (State.copyBytes src dst n t) := by
  induction n generalizing src dst t with
  | zero => exact h
  | succ n ih => exact ih (src + 1) (dst + 1) (h.trans rfl)

/-- Bytes that are copied to below where they stand read there as they did. -/
theorem byte_copyBytes {src dst n : Nat} (s : State) (h : dst + n ≤ src) :
    (∀ i, i < n → (State.copyBytes src dst n s).byte (dst + i) = s.byte (src + i)) ∧
      SameBytes s (State.copyBytes src dst n s) dst (dst + n) := by
  induction n generalizing src dst s with
  | zero => exact ⟨fun i hi => absurd hi (Nat.not_lt_zero i), .refl _ _ _⟩
  | succ n ih =>
    obtain ⟨hval, hsame⟩ := ih (State.setByte dst (s.byte src) s) (src := src + 1) (dst := dst + 1) (by omega)
    refine ⟨fun i hi => ?_, fun a ha => (hsame a (by omega)).trans (State.byte_setByte_other _ _ (by omega))⟩
    cases i with
    | zero => exact (hsame dst (by omega)).trans (State.byte_setByte_same ..)
    | succ i =>
      have h1 := hval i (by omega)
      rw [State.byte_setByte_other _ _ (by omega)] at h1
      rwa [show dst + 1 + i = dst + (i + 1) by omega, show src + 1 + i = src + (i + 1) by omega] at h1

/-- The data memory of Keeper `k` begins here. -/
def keeperData (k : Nat) : Nat := (k + 1) * 0x100000000 + 0x10000000

/-- The row of KEEPER_CTRL. -/
def keeperCtrlRow : RegRow := ((regAt (KEEPER_CTRL 0)).getD (⟨0, 0, 0, 0, 0, false, .lodge, .none, []⟩, 0)).1

theorem regAt_keeperCtrl : ∀ k : Fin 8, canWindow (KEEPER_CTRL k) = none ∧
    regAt (normalOf (KEEPER_CTRL k)) = some (keeperCtrlRow, k.val) ∧ viewOf (KEEPER_CTRL k) = 0 ∧
    keeperCtrlRow.addrOf k = KEEPER_CTRL k := by decide +kernel

/-- A write of a row of the Lodge that has no command and no entry that stands for another. -/
theorem storeRow_lodge {same : Bool} {m full i : Nat} {r : RegRow} {v : Word} {s : State}
    (hc : commandIndex r.base i = none) (hk : r.base ≠ GATE_KDER 0) (he : r.base ≠ PAV_STAT 0 ∧ r.base ≠ BR_STAT 0)
    (hl : r.home = .lodge) :
    storeRow same m full r i v s = lodgeHook m full r.base i v (s.reg (r.addrOf i)) (writeRow m full r i v s) := by
  obtain ⟨h1, h2⟩ := he
  unfold storeRow
  simp only [hc, if_neg hk, writeEntry, if_neg h1, if_neg h2, hl]
  rfl

theorem topStore_row {same : Bool} {m full i : Nat} {r : RegRow} {v : Word} {s : State}
    (h : r.base ≠ CHECK_EN ∧ r.base ≠ CHECK_STARTCTL ∧ r.base ≠ UPD_CTRL) :
    topStore same m full r i v s = storeRow same m full r i v s := by
  obtain ⟨h1, h2, h3⟩ := h
  unfold topStore
  rw [if_neg h1]
  exact (if_neg h2).trans (if_neg h3)

/-- A write of a row of the Lodge that every field takes and no check unit sees is the row's word, then its hook. -/
theorem wrote_lodgeRow {m a i : Nat} {r : RegRow} {v : Word} {s : State} (hm : masterUp s m = true)
    (he : accessError s a = 0) (hw : canWindow a = none) (hr : regAt (normalOf a) = some (r, i))
    (htop : r.base ≠ CHECK_EN ∧ r.base ≠ CHECK_STARTCTL ∧ r.base ≠ UPD_CTRL) (hc : commandIndex r.base i = none)
    (hk : r.base ≠ GATE_KDER 0) (hst : r.base ≠ PAV_STAT 0 ∧ r.base ≠ BR_STAT 0) (hl : r.home = .lodge)
    (hopen : FieldsOpen s m (lockedBy s r.lock i) (entryFields r i)) :
    wrote m a v s = cuBus true a v (lodgeHook m a r.base i v (s.reg (r.addrOf i))
      (State.setReg (r.addrOf i) (writtenWord (entryFields r i) (viewOf a) v (s.reg (r.addrOf i))) s)) := by
  have hdies : homeDies r i = [] := by
    unfold homeDies
    rw [hl]
  rw [wrote_eq_topStore v hm ((masterError_of_register m hw).trans he) hw hr, hdies, topStore_row htop,
    storeRow_lodge hc hk hst hl, show framesFirst [] s = s from rfl, writeRow_open hopen]
  rfl

/-- KEEPER_CTRL as it stands after a write of `v`. -/
def keeperCtrlWritten (k : Nat) (v : Word) (s : State) : State :=
  State.setReg (KEEPER_CTRL k) (writtenWord keeperCtrlRow.fields 0 v (s.reg (KEEPER_CTRL k))) s

theorem flag_keeperCtrlWritten (k : Nat) {v : Word} {keep : Bool} (s : State) (h : fget KEEPER_CTRL_KEEP v = b2n keep) :
    (keeperCtrlWritten k v s).flag (KEEPER_CTRL k) KEEPER_CTRL_KEEP = keep := by
  have hf := fget_writtenWord (fs := keeperCtrlRow.fields) (f := ⟨KEEPER_CTRL_KEEP, .rw, true, 0⟩) (by decide +kernel)
    (by decide +kernel) (by decide) 0 v (s.reg (KEEPER_CTRL k))
  unfold State.flag State.fld keeperCtrlWritten
  rw [State.reg_setReg_same, hf]
  show (fget KEEPER_CTRL_KEEP v % 2 == 1) = keep
  rw [h]
  cases keep <;> rfl

/-- The restart of a Keeper that no check unit watches. -/
def restarted (k : Nat) (keep : Bool) (s : State) : State :=
  if keep then clearKeeper k s
  else State.copyBytes (flashBase + (s.eng k).data.1) (keeperData k) (s.eng k).data.2
    (State.clearRange (keeperData k) 0x8000 (clearKeeper k s))

theorem acts_clearKeeper {F l : List Nat} {s t : State} (h : Acts F l s t) (k : Nat) (hk : KEEPER_STAT k ∈ l) :
    Acts F l s (clearKeeper k t) := acts_setKState (acts_modEng h _ _) _ _ hk

theorem onlyMem_restarted (k : Nat) (keep : Bool) (s : State) : OnlyMem (clearKeeper k s) (restarted k keep s) := by
  unfold restarted
  split
  · rfl
  · exact onlyMem_copyBytes _ _ _ rfl

theorem data_clearKeeper (k : Nat) (s : State) : ((clearKeeper k s).eng k).data = (s.eng k).data := by
  unfold clearKeeper
  rw [eng_setKState, State.eng_modEng_same]

theorem CuIdle.clearKeeper {s : State} (h : CuIdle s) (k : Fin 8) : CuIdle (clearKeeper k s) :=
  h.of_regs fun u => (acts_clearKeeper (.refl [] [KEEPER_STAT k] s) k (by simp)).reg
    (by revert u k; decide) (by revert u; decide) (by revert u; decide)

theorem CuIdle.restarted {s : State} (h : CuIdle s) (k : Fin 8) (keep : Bool) : CuIdle (restarted k keep s) :=
  (h.clearKeeper k).of_regs fun _ => (onlyMem_restarted k keep s).reg _

theorem restartKeeper_of_idle {s : State} (h : CuIdle s) (k : Fin 8) (keep : Bool) :
    restartKeeper k keep s = restarted k keep s := by
  unfold restartKeeper
  cases keep
  · show reloadData k (clearKeeper k s) = restarted k false s
    unfold reloadData
    rw [data_clearKeeper]
    exact flashRead_of_idle (h.restarted k false) _ _
  · rfl

theorem wrote_keeperCtrl {m : Nat} {k : Fin 8} {keep : Bool} {v : Word} {s : State} (hm : masterUp s m = true)
    (hp : privileged s m = true) (ha : accessError s (KEEPER_CTRL k) = 0) (hl : locking s 11 = false) (hcu : CuIdle s)
    (hr : fget KEEPER_CTRL_RESTART v = 1) (hk : fget KEEPER_CTRL_KEEP v = b2n keep) :
    wrote m (KEEPER_CTRL k) v s = restarted k keep (keeperCtrlWritten k v s) := by
  obtain ⟨hwin, hrow, hview, haddr⟩ := regAt_keeperCtrl k
  have hopen : FieldsOpen s m (lockedBy s keeperCtrlRow.lock k) (entryFields keeperCtrlRow k) :=
    fun f hf => ⟨(by decide +kernel : ∀ f ∈ keeperCtrlRow.fields, f.acc ≠ .wl) f hf, fun _ => ⟨hp, hl⟩⟩
  have hwr : State.setReg (KEEPER_CTRL k)
      (writtenWord (entryFields keeperCtrlRow k) 0 v (s.reg (KEEPER_CTRL k))) s = keeperCtrlWritten k v s := rfl
  have hidle : CuIdle (keeperCtrlWritten k v s) := hcu.of_regs fun u =>
    State.reg_setReg_other _ _ ((by decide : ∀ (u : Fin 4) (k : Fin 8), CU_STAT u ≠ KEEPER_CTRL k) u k)
  have hpriv : privileged (keeperCtrlWritten k v s) m = true := hp
  have hset : woSet (KEEPER_CTRL k) v KEEPER_CTRL_RESTART = true := by
    unfold woSet
    rw [hview, hr]
    rfl
  rw [wrote_lodgeRow hm ha hwin hrow (by decide +kernel) (by rfl) (by decide +kernel) (by decide +kernel) (by decide +kernel)
    hopen, hview, haddr, hwr]
  unfold lodgeHook
  rw [if_pos (show keeperCtrlRow.base = KEEPER_CTRL 0 by decide +kernel), hpriv, hset, flag_keeperCtrlWritten k s hk]
  refine (congrArg _ (restartKeeper_of_idle hidle k keep)).trans (cuBus_of_idle (hidle.restarted k keep) _ _ _)

theorem eng_clearKeeper (k : Nat) (s : State) : (clearKeeper k s).eng k = { s.eng k with
    l := {}, f := {}, inF := false, flight := [], slots := 0, lUsed := 0, fDone := true, fCount := 0,
    fReported := false, waiting := (s.eng k).present, restarted := (s.eng k).present } := by
  unfold clearKeeper
  rw [eng_setKState, State.eng_modEng_same]

/-- Without KEEP the data memory of the Keeper holds its image (R272, R315). -/
theorem byte_restarted {k i : Nat} (hk : k < 8) (s : State) (hn : (s.eng k).data.2 ≤ 0x8000) (hi : i < (s.eng k).data.2) :
    (restarted k false s).byte (keeperData k + i) = s.byte (flashBase + (s.eng k).data.1 + i) := by
  have hfar : keeperData k + 0x8000 ≤ flashBase + (s.eng k).data.1 := by
    unfold keeperData flashBase
    omega
  have hcopy := (byte_copyBytes (dst := keeperData k) (n := (s.eng k).data.2)
    (State.clearRange (keeperData k) 0x8000 (clearKeeper k s)) (by omega : _ ≤ flashBase + (s.eng k).data.1)).1 i hi
  refine hcopy.trans ((sameBytes_clearRange _ _ _ _ (by omega)).trans ?_)
  exact State.byte_of_mem (by unfold clearKeeper; exact mem_setKState _ _ _) _

/-- RESTART by a master that may (R272). -/
theorem keeperRestart_restarts {m : Fin 12} {k : Fin 8} {keep : Bool} {s : State} (hc : Calm s)
    (hm : masterUp s m = true) (hp : privileged s m = true) (ha : accessError s (KEEPER_CTRL k) = 0)
    (hl : locking s 11 = false) (hn : (s.eng k).data.2 ≤ 0x8000) (hcu : CuIdle s) :
    Runs (.keeperRestart m k keep) s fun t =>
      kState t k = 0 ∧
      (t.eng k).waiting = (s.eng k).present ∧
      (t.eng k).flight = [] ∧
      (∀ r, (t.eng k).x r = 0#32) ∧
      (keep = true → t.mem = s.mem) ∧
      (keep = false → ∀ i < (s.eng k).data.2, t.byte ((k + 1) * 0x100000000 + 0x10000000 + i) = s.byte (flashBase + (s.eng k).data.1 + i)) := by
  obtain ⟨v, hv⟩ : ∃ v, v = fput KEEPER_CTRL_RESTART 1 (fput KEEPER_CTRL_KEEP (b2n keep) (s.reg (KEEPER_CTRL k))) := ⟨_, rfl⟩
  have hr : fget KEEPER_CTRL_RESTART v = 1 := hv ▸ fget_fput_same _ _ _ (by decide)
  have hk : fget KEEPER_CTRL_KEEP v = b2n keep := by
    rw [hv, fget_fput_other _ _ _ _ (by decide), fget_fput_same _ _ _ (by decide)]
    cases keep <;> rfl
  have hx : exec (.keeperRestart m k keep) s = finishMem s (restarted k keep (keeperCtrlWritten k v s)) :=
    congrArg (finishMem s) ((congrArg (fun v => wrote m (KEEPER_CTRL k) v s) hv.symm).trans
      (wrote_keeperCtrl hm hp ha hl hcu hr hk))
  have hacts : Acts [] [KEEPER_CTRL k, KEEPER_STAT k] s (restarted k keep (keeperCtrlWritten k v s)) :=
    (onlyMem_restarted k keep _).acts (acts_clearKeeper (acts_setReg (.refl _ _ s) _ (by simp)) k (by simp))
  have he : (restarted k keep (keeperCtrlWritten k v s)).eng k = (clearKeeper k (keeperCtrlWritten k v s)).eng k :=
    (onlyMem_restarted k keep _).eng k
  rw [eng_clearKeeper] at he
  refine runsMem_of_calm hx (hacts.calm hc) fun t ht hmem => ⟨?_, ?_, ?_, fun r => ?_, fun hkeep => ?_, fun hkeep i hi => ?_⟩
  · refine (ht.fld _ (not_reportReg_keeper k.isLt (by simp)).1 (not_reportReg_keeper k.isLt (by simp)).2).trans ?_
    unfold State.fld
    rw [(onlyMem_restarted k keep _).reg]
    exact fld_setKState_state k.isLt (by decide) _
  · rw [ht.eng, he]
    rfl
  · rw [ht.eng, he]
  · rw [ht.eng, he]
    unfold Engine.x
    split <;> rfl
  · subst hkeep
    exact hmem.trans (by unfold restarted clearKeeper; exact mem_setKState _ _ _)
  · subst hkeep
    exact (State.byte_of_mem hmem _).trans (byte_restarted k.isLt (keeperCtrlWritten k v s) hn hi)

/-- Settles O37, a clause per lemma above. -/
theorem maskedCall : Obligations.MaskedCall := by
  refine ⟨fun _ _ _ _ => callm_calls, fun _ _ _ => retm_returns, fun e off s hc hi hh hv => ?keeper,
    fun _ _ _ _ => keeperRestart_restarts, fun _ _ _ _ _ => dieAccessTimeout_traps⟩
  case keeper =>
    have hx : exec (.callm (e.castLE (by decide)) off) s = finishMem s (trapIssued e 1 (encJ 0x3A off) s) :=
      congrArg (finishMem s) (issueBy_of_barred hi (by simp [castLE_ne_warden, bne]))
    obtain ⟨t, ht, H⟩ := finishMem_trapIssued_reserved hc hh hv
    exact ⟨t, hx.trans ht, H.cause, H.pc, H.mem, H.regs⟩

end Sys2Proof.Machine
end

section
-- Kernel evaluations in the background would each hold a thread with its stack.
set_option Elab.async false
/-! A start that captures a fault while a Lodge reset is due (§12, §17), and an access of a Keeper to the CAN window (§14). -/

namespace Sys2Proof.Machine
open Sys2Proof.Tests (up)

/-- The Lodge is down after 3 failed starts, with 2 recorded. -/
def startsFailed : State :=
  State.setFld CHECK_START CHECK_START_START_FAIL 2
    { up with start := { up.start with lodgeDown := true, failures := 3 } }

/-- Refutes O46: a start after failures captures FLT41 (R436), and the collector then performs a Lodge reset that was due
(R443, R444), so the Lodge is down again. -/
theorem not_starts : ¬ Obligations.Starts := by
  intro ⟨h, _⟩
  obtain ⟨_, _, _, hdown, _⟩ := (h {} (resetWaits startsFailed) (by decide +kernel) (by decide +kernel)
    (by decide +kernel) (by decide +kernel) (by decide +kernel)).after
  exact absurd hdown (by decide +kernel)

/-- The power domain of the CAN controllers is barred. -/
def canBarred : State := State.modDom 0x12 (fun d => { d with barred := true }) up

/-- Refutes O42: an access of a Keeper to the CAN window has KIND 1, whatever the state of the window's power domain
(R356), where that of another master has KIND 3. -/
theorem not_registerWrites : ¬ Obligations.RegisterWrites := by
  intro ⟨_, _, _, _, _, _, h, _⟩
  obtain ⟨_, _, hkind, _⟩ := (h 1 0x50000000#32 0#32 canBarred (by decide +kernel) (by decide +kernel)
    (by decide +kernel) (by decide +kernel) (by decide +kernel)).after
  exact absurd hkind (by decide +kernel)

end Sys2Proof.Machine
end

section
/-! The Logbook (R445 to R448), memory errors (R452) and the scrubber (R453). What a report leaves of the Logbook: records
only join the queue, and what has been captured or dropped stays. -/

namespace Sys2Proof.Machine

/-! ### What reports keep -/

theorem bitOf_eq_testBit (x i : Nat) : bitOf x i = x.testBit i := by
  unfold bitOf
  rw [Nat.testBit_eq_decide_div_mod_eq]
  rfl

theorem testBit_setBitN (x i j : Nat) : (setBitN x i).testBit j = (x.testBit j || decide (i = j)) := by
  unfold setBitN
  rw [bitOf_eq_testBit]
  by_cases hb : x.testBit i = true
  · rw [if_pos hb]
    by_cases h : i = j
    · subst h
      simp [hb]
    · simp [h]
  · rw [if_neg hb]
    have hb0 : x.testBit i = false := by simpa using hb
    rcases Nat.lt_trichotomy j i with h | h | h
    · rw [Nat.add_comm, Nat.testBit_two_pow_add_gt h]
      simp [Nat.ne_of_gt h]
    · subst h
      rw [Nat.add_comm, Nat.testBit_two_pow_add_eq]
      simp [hb0]
    · have hdiv : (x + 2 ^ i) / 2 ^ (i + 1) = x / 2 ^ (i + 1) := by
        rw [Nat.testBit_eq_decide_div_mod_eq, decide_eq_false_iff_not] at hb0
        have h2 := Nat.two_pow_pos i
        have hq := Nat.div_add_mod x (2 ^ i)
        have hr := Nat.mod_lt x h2
        rw [Nat.pow_succ, ← Nat.div_div_eq_div_mul, ← Nat.div_div_eq_div_mul, Nat.add_div_right _ h2]
        omega
      obtain ⟨k, rfl⟩ : ∃ k, j = i + 1 + k := ⟨j - (i + 1), by omega⟩
      have h1 := Nat.testBit_div_two_pow (n := i + 1) (x + 2 ^ i) k
      rw [hdiv, Nat.testBit_div_two_pow] at h1
      rw [Nat.add_comm (i + 1) k, ← h1]
      simp; omega

theorem setBitN_lt {x i w : Nat} (hx : x < 2 ^ w) (hi : i < w) : setBitN x i < 2 ^ w := by
  refine Nat.lt_pow_two_of_testBit _ fun j hj => ?_
  rw [testBit_setBitN, Nat.testBit_lt_two_pow (Nat.lt_of_lt_of_le hx (Nat.pow_le_pow_right (by decide) hj))]
  simp; omega

/-- From `s` to `t` reports were made: captured faults stay captured, the count of dropped records does not fall, records
join the queue behind those that wait, and none is written. -/
structure Logged (s t : State) : Prop where
  drop : s.fld LOG_STAT LOG_STAT_DROP_CNT ≤ t.fld LOG_STAT LOG_STAT_DROP_CNT
  sticky : ∀ n < 96, sticky s n = true → sticky t n = true
  queue : ∃ l, t.rep.queue = s.rep.queue ++ l
  log : t.rep.head = s.rep.head ∧ t.rep.written = s.rep.written ∧ t.rep.slots = s.rep.slots ∧
    t.rep.lastWrite = s.rep.lastWrite

theorem Logged.refl (s : State) : Logged s s := ⟨le_refl _, fun _ _ h => h, ⟨[], (List.append_nil _).symm⟩, rfl, rfl, rfl, rfl⟩

theorem Logged.trans {s t u : State} (h : Logged s t) (h' : Logged t u) : Logged s u := by
  obtain ⟨hd, hs, ⟨l, hq⟩, hh, hw, hsl, hl⟩ := h
  obtain ⟨hd', hs', ⟨l', hq'⟩, hh', hw', hsl', hl'⟩ := h'
  exact ⟨hd.trans hd', fun n hn h => hs' n hn (hs n hn h), ⟨l ++ l', by rw [hq', hq, List.append_assoc]⟩, hh'.trans hh,
    hw'.trans hw, hsl'.trans hsl, hl'.trans hl⟩

theorem sticky_eq_testBit (s : State) (n : Nat) :
    sticky s n = (s.fld (FAULT_STICKY (n / 32)) FAULT_STICKY_FLT).testBit (n % 32) := bitOf_eq_testBit _ _

/-- The registers that `Logged` speaks of. -/
def logRegs : List Nat := [LOG_STAT, FAULT_STICKY 0, FAULT_STICKY 1, FAULT_STICKY 2]

theorem faultSticky_mem {n : Nat} (hn : n < 96) : FAULT_STICKY (n / 32) ∈ logRegs := by
  have : n / 32 = 0 ∨ n / 32 = 1 ∨ n / 32 = 2 := by omega
  rcases this with h | h | h <;> rw [h] <;> decide

/-- What writes no sticky bit and no count of drops, and makes no record. -/
theorem logged_of_regs {s t : State} (h : ∀ a ∈ logRegs, t.reg a = s.reg a)
    (hr : t.rep.queue = s.rep.queue ∧ t.rep.head = s.rep.head ∧ t.rep.written = s.rep.written ∧
      t.rep.slots = s.rep.slots ∧ t.rep.lastWrite = s.rep.lastWrite) : Logged s t := by
  have hf : ∀ a ∈ logRegs, ∀ f, t.fld a f = s.fld a f := fun a ha f => congrArg (fget f) (h a ha)
  obtain ⟨hq, hl⟩ := hr
  refine ⟨(hf _ (by decide) _).ge, fun n hn hs => ?_, ⟨[], by rw [hq, List.append_nil]⟩, hl⟩
  unfold sticky at *
  rwa [hf _ (faultSticky_mem hn) _]

theorem fget_lt (f : Fld) (v : Word) : fget f v < 2 ^ f.w := BitVec.isLt _

theorem le_satInc {x m : Nat} (h : x ≤ m) : x ≤ satInc m x := by
  unfold satInc
  split <;> omega

theorem logged_countDrop (s : State) : Logged s (countDrop s) := by
  have hother : ∀ a, a ≠ LOG_STAT → (countDrop s).reg a = s.reg a := fun a ha => State.reg_setReg_other s _ ha
  refine ⟨?_, fun n hn hs => ?_, ⟨[], (List.append_nil _).symm⟩, rfl, rfl, rfl, rfl⟩
  · have hlt : s.fld LOG_STAT LOG_STAT_DROP_CNT < 2 ^ LOG_STAT_DROP_CNT.w := fget_lt _ _
    exact (le_satInc (by omega)).trans (fld_incFld_same s LOG_STAT _ (by decide)).ge
  · unfold sticky State.fld at *
    rwa [hother _ (by unfold FAULT_STICKY LOG_STAT; omega)]

theorem logged_evCount {n : Nat} (hn : n < 256) (s : State) : Logged s (evCount n s) := by
  refine logged_of_regs (fun a ha => ?_) ⟨rfl, rfl, rfl, rfl, rfl⟩
  have h1 : a ≠ HOST_EVCNT n ∧ a ≠ HOST_EVPEND (n / 16) := by
    simp only [logRegs, List.mem_cons, List.not_mem_nil, or_false] at ha
    unfold HOST_EVCNT HOST_EVPEND
    unfold LOG_STAT FAULT_STICKY at ha
    omega
  obtain ⟨hc, hp⟩ := h1
  unfold evCount
  extract_lets cls kr x t t1
  have ht : t.reg a = s.reg a := State.reg_setFld_other _ _ _ hc
  have ht1 : t1.reg a = s.reg a := by
    show (if _ then _ else _ : State).reg a = _
    split
    · exact (State.reg_setFld_other _ _ _ hp).trans ht
    · exact ht
  exact ht1

theorem logged_pushQuiet (r : LogRec) (s : State) : Logged s (pushQuiet r s) := by
  unfold pushQuiet
  split
  · exact ⟨le_refl _, fun _ _ h => h, ⟨[r], rfl⟩, rfl, rfl, rfl, rfl⟩
  · exact logged_countDrop s

theorem logged_raiseQuiet {n : Nat} (hn : n < 256) (i : Nat) (d : List Nat) (s : State) :
    Logged s (raiseQuiet n i d s) := by
  unfold raiseQuiet
  split
  · extract_lets t
    split
    · exact (logged_evCount hn s).trans (logged_pushQuiet _ t)
    · exact logged_evCount hn s
  · exact .refl s

/-- The registers after fault `m` is captured. -/
theorem reg_captureRegs (m : Nat) (s : State) {a : Nat} (ha : a ∈ logRegs) :
    (captureRegs m s).reg a = (State.setFld (FAULT_STICKY (m / 32)) FAULT_STICKY_FLT
      (setBitN (s.fld (FAULT_STICKY (m / 32)) FAULT_STICKY_FLT) (m % 32)) s).reg a := by
  have hne : a ≠ FAULT_STAT := by revert a; decide
  exact (State.reg_setFld_other _ _ _ hne).trans (State.reg_setFld_other _ _ _ hne)

theorem sticky_captureRegs {m n : Nat} (hn : n < 96) (s : State) :
    sticky (captureRegs m s) n = (sticky s n || decide (m = n)) := by
  have hreg := reg_captureRegs m s (faultSticky_mem hn)
  rw [sticky_eq_testBit, sticky_eq_testBit]
  unfold State.fld at *
  rw [hreg]
  by_cases h : m / 32 = n / 32
  · have hlt : setBitN (fget FAULT_STICKY_FLT (s.reg (FAULT_STICKY (m / 32)))) (m % 32) < 2 ^ FAULT_STICKY_FLT.w :=
      setBitN_lt (fget_lt _ _) (Nat.mod_lt m (by decide))
    have hmn : decide (m % 32 = n % 32) = decide (m = n) := decide_eq_decide.2 (by omega)
    rw [← h, State.setFld, State.reg_setReg_same, fget_fput_same _ _ _ (by decide), Nat.mod_eq_of_lt hlt, testBit_setBitN,
      hmn]
  · have hmn : m ≠ n := fun e => h (e ▸ rfl)
    rw [State.reg_setFld_other _ _ _ (by unfold FAULT_STICKY; omega)]
    simp [hmn]

theorem logged_captureRegs {m : Nat} (hm : m < 96) (s : State) : Logged s (captureRegs m s) := by
  refine ⟨(congrArg (fget _) ?_).ge, fun n hn h => by rw [sticky_captureRegs hn, h, Bool.true_or],
    ⟨[], (List.append_nil _).symm⟩, rfl, rfl, rfl, rfl⟩
  exact (reg_captureRegs m s (by decide)).trans (State.reg_setFld_other _ _ _ (by unfold FAULT_STICKY LOG_STAT; omega))

/-- A report of a first fault, shown in FAULT_LAST. -/
theorem logged_shown {s t : State} {caps : List Nat} {r : Nat} (hr : t.regs = (State.setFlag FAULT_STAT
    FAULT_STAT_REACTING true (showCapture caps r s)).regs)
    (hl : t.rep.queue = s.rep.queue ∧ t.rep.head = s.rep.head ∧ t.rep.written = s.rep.written ∧
      t.rep.slots = s.rep.slots ∧ t.rep.lastWrite = s.rep.lastWrite) : Logged s t := by
  refine logged_of_regs (fun a ha => ?_) hl
  have hne : a ≠ FAULT_LAST ∧ a ≠ FAULT_STAT := by revert a; decide
  have h : t.reg a = (State.setFlag FAULT_STAT FAULT_STAT_REACTING true (showCapture caps r s)).reg a := by
    unfold State.reg
    rw [hr]
  exact h.trans ((State.reg_setFld_other _ _ _ hne.2).trans (State.reg_setReg_other _ _ hne.1))

theorem raiseFault64_first {s : State} (hw : inWindow s = false) (hs : sticky s 64 = false) :
    Logged (captureRegs 64 s) (raiseFault64 s) := by
  have ht := (logged_pushQuiet (mkRec s 2 64 0xFFFF [0]) (captureRegs 64 s)).trans
    (logged_raiseQuiet (n := 201) (by decide) 0xFFFF [] _)
  unfold raiseFault64
  rw [hw, hs]
  extract_lets t u
  show Logged _ (match s.rep.capture with | [] => _ | _ => t)
  split
  · exact ht.trans (logged_shown rfl ⟨rfl, rfl, rfl, rfl, rfl⟩)
  · exact ht

theorem logged_raiseFault64 (s : State) : Logged s (raiseFault64 s) := by
  by_cases hw : inWindow s = true
  · have h : raiseFault64 s = s := if_pos hw
    rw [h]
    exact .refl s
  · rw [Bool.not_eq_true] at hw
    by_cases hs : sticky s 64 = true
    · have h : raiseFault64 s = raiseAgain 64 s := by
        unfold raiseFault64
        rw [hw, hs]
        rfl
      exact h ▸ logged_of_regs (fun _ _ => rfl) ⟨rfl, rfl, rfl, rfl, rfl⟩
    · rw [Bool.not_eq_true] at hs
      exact (logged_captureRegs (by decide) s).trans (raiseFault64_first hw hs)

theorem logged_pushRec (r : LogRec) (s : State) : Logged s (pushRec r s) := by
  unfold pushRec
  split
  · exact ⟨le_refl _, fun _ _ h => h, ⟨[r], rfl⟩, rfl, rfl, rfl, rfl⟩
  · exact ((logged_countDrop s).trans (logged_raiseQuiet (by decide) _ _ _)).trans (logged_raiseFault64 _)

theorem logged_raiseEvCore {n : Nat} (hn : n < 256) (i : Nat) (d : List Nat) (s : State) :
    Logged s (raiseEvCore n i d s) := by
  unfold raiseEvCore
  split
  · extract_lets t
    split
    · exact (logged_evCount hn s).trans (logged_pushRec _ t)
    · exact logged_evCount hn s
  · exact .refl s

theorem logged_raiseEv {n : Nat} (hn : n < 256) (i : Nat) (s : State) : Logged s (raiseEv n i s) := by
  obtain ⟨hd, hs, hq, hl⟩ := logged_raiseEvCore hn i [] s
  exact ⟨hd, hs, hq, hl⟩

theorem logged_awakeEval (s : State) : Logged s (awakeEval s) := by
  unfold awakeEval
  extract_lets loc run start t net t1
  have ht : Logged s t1 := logged_of_regs (fun a ha => State.reg_setFld_other _ _ _ (by revert a; decide))
    ⟨rfl, rfl, rfl, rfl, rfl⟩
  split
  · exact ht.trans (logged_raiseEv (by decide) _ _)
  · exact ht

section
variable {c : Instr} {s u : State} {P : State → Prop}

/-- `runs_of_calm` with what the evaluation of the maximum-awake timer leaves of the Logbook. -/
theorem runs_of_calm_logged (hx : exec c s = finish s u) (hu : Calm u)
    (hP : ∀ t, Settled s u t → Logged u t → t.mem = s.mem → P t) : Runs c s P := by
  refine ⟨_, hx, ?_⟩
  rw [settle_of_calm u hu]
  obtain ⟨hd, hs, hq, hl⟩ := logged_awakeEval u
  refine hP _ ⟨fun a hr hn => awakeEval_regs u a hr hn, ?_⟩ ⟨hd, hs, hq, hl⟩ rfl
  rw [awakeEval_frame u]

theorem runsMem_of_calm_logged (hx : exec c s = finishMem s u) (hu : Calm u)
    (hP : ∀ t, Settled s u t → Logged u t → t.mem = u.mem → P t) : Runs c s P := by
  refine ⟨_, hx, ?_⟩
  rw [settle_of_calm u hu]
  obtain ⟨hd, hs, hq, hl⟩ := logged_awakeEval u
  refine hP _ ⟨fun a hr hn => awakeEval_regs u a hr hn, ?_⟩ ⟨hd, hs, hq, hl⟩ ?_ <;> rw [awakeEval_frame u]

end

/-! ### The Logbook -/

/-- The first record of the queue is written in the founding area (R445, R447). -/
theorem logWrite_founding {r : LogRec} {s : State} (h : s.rep.written + 1 < foundSlots) :
    logWrite r s = { s with rep := { s.rep with
      head := (s.rep.head + 1) % 2 ^ 48, ring := ringPut s ((s.rep.head + 1) % 2 ^ 48), written := s.rep.written + 1,
      slots := Tab.put s.rep.slots {} s.rep.written { r with seq := (s.rep.head + 1) % 2 ^ 48 } } } := by
  have hslot : logSlot s.rep.written = s.rep.written := if_pos (by omega)
  refine ((if_neg (by omega)).trans (if_neg (by omega))).trans ?_
  rw [hslot]

/-- The queue without its first record, which is being written. -/
def dequeued (rest : List LogRec) (s : State) : State :=
  { s with rep := { s.rep with queue := rest, lastWrite := some s.now } }

theorem logbookRecordWrite_writes {r : LogRec} {rest : List LogRec} {s : State} (hc : Calm s)
    (hd : s.start.lodgeDown = false) (hm : s.rep.clearMark = none) (hq : s.rep.queue = r :: rest)
    (hl : s.rep.lastWrite = none) (ho : s.rep.overflow = 0) (hw : s.rep.written + 1 < foundSlots)
    (hu : s.upd.waiting = []) :
    Runs (.logbookRecordWrite) s fun t =>
      t.rep.head = (s.rep.head + 1) % 2 ^ 48 ∧
      t.rep.written = s.rep.written + 1 ∧
      Tab.get t.rep.slots {} s.rep.written = { r with seq := (s.rep.head + 1) % 2 ^ 48 } ∧
      t.rep.lastWrite = some s.now ∧
      t.rep.queue.take rest.length = rest ∧
      OnlyRegs [] s t := by
  have hnext : logControl s = logWrite r (dequeued rest s) := by
    unfold logControl logNext
    rw [hm, hq, hl]
    show logWrite r (logOverflow (dequeued rest s)) = _
    rw [logOverflow, if_pos (.inl ho)]
  have hx : exec .logbookRecordWrite s = finishMem s (logWrite r (dequeued rest s)) := by
    have h : (if s.start.lodgeDown then s else logControl s) = logWrite r (dequeued rest s) := by
      rw [hd, ← hnext]
      rfl
    refine (congrArg (finishHost s) h).trans (finishHost_of_none_waits s ?_)
    rw [logWrite_founding (s := dequeued rest s) hw]
    exact hu
  rw [logWrite_founding (s := dequeued rest s) hw] at hx
  refine runsMem_of_calm_logged hx hc fun t ht hlog _ => ?_
  obtain ⟨-, -, ⟨l, hqueue⟩, hhead, hwritten, hslots, hlast⟩ := hlog
  refine ⟨hhead, hwritten, by rw [hslots]; exact Tab.get_put_same _ _ _ _, hlast, ?_, fun a _ hr hn => ht.regs a hr hn⟩
  rw [hqueue]
  exact List.take_left' rfl

theorem inWindow_of_rep {s t : State} (hw : t.rep.windowEnd = s.rep.windowEnd) (hn : t.now = s.now) :
    inWindow t = inWindow s := by
  unfold inWindow
  rw [hw, hn]

theorem windowEnd_pushQuiet (r : LogRec) (s : State) : (pushQuiet r s).rep.windowEnd = s.rep.windowEnd := by
  unfold pushQuiet
  split <;> rfl

theorem windowEnd_raiseQuiet (n i : Nat) (d : List Nat) (s : State) :
    (raiseQuiet n i d s).rep.windowEnd = s.rep.windowEnd := by
  unfold raiseQuiet
  split
  · extract_lets t
    split
    · exact windowEnd_pushQuiet _ t
    · rfl
  · rfl

/-- Outside a window FLT64 is captured, or was (R446, R439). -/
theorem sticky_raiseFault64 {s : State} (h : inWindow s = false) : sticky (raiseFault64 s) 64 = true := by
  by_cases hs : sticky s 64 = true
  · exact (logged_raiseFault64 s).sticky 64 (by decide) hs
  · rw [Bool.not_eq_true] at hs
    refine (raiseFault64_first h hs).sticky 64 (by decide) ?_
    rw [sticky_captureRegs (by decide)]
    exact Bool.or_true _

theorem logbookRecordDrop_drops {typ : Fin 9} {source index : Nat} {s : State} (hc : Calm s)
    (hq : 64 ≤ s.rep.queue.length) :
    Runs (.logbookRecordDrop typ source index) s fun t =>
      satInc (2 ^ LOG_STAT_DROP_CNT.w - 1) (s.fld LOG_STAT LOG_STAT_DROP_CNT) ≤ t.fld LOG_STAT LOG_STAT_DROP_CNT ∧
      (inWindow s = false → sticky t 64 = true) ∧
      t.rep.queue.take s.rep.queue.length = s.rep.queue := by
  have hx : exec (.logbookRecordDrop typ source index) s = finish s (logOther (mkRec s typ source index []) s) :=
    congrArg (finish s) (if_neg (by omega))
  have hpush : pushRec (mkRec s typ source index []) s = raiseFault64 (raiseQuiet 208 0xFFFF [] (countDrop s)) :=
    if_neg (by omega)
  refine runs_of_calm_logged hx (logOther_calm _ s hc) fun t ht hlog hm => ?_
  have hall : Logged (countDrop s) (pushRec (mkRec s typ source index []) s) := by
    rw [hpush]
    exact (logged_raiseQuiet (by decide) _ _ _).trans (logged_raiseFault64 _)
  have hrest : Logged (pushRec (mkRec s typ source index []) s) t := by
    obtain ⟨hd, hs, hq, hl⟩ := hlog
    exact ⟨hd, hs, hq, hl⟩
  obtain ⟨hdrop, -, ⟨l, hqueue⟩, -⟩ := hall.trans hrest
  refine ⟨(fld_incFld_same s LOG_STAT _ (by decide)).ge.trans hdrop, fun hw => ?_, ?_⟩
  · refine hrest.sticky 64 (by decide) ?_
    rw [hpush]
    refine sticky_raiseFault64 ((inWindow_of_rep ?_ ?_).trans hw)
    · exact windowEnd_raiseQuiet _ _ _ _
    · exact (notLater_raiseQuiet _ _ _ _).1
  · rw [hqueue]
    exact List.take_left' rfl

/-! ### Memory errors and the scrubber -/

theorem acts_eccCorrect {F l : List Nat} {s t : State} (h : Acts F l s t) (hl : CHECK_ECC ∈ l) (m : Bool) :
    Acts F l s (eccCorrect m t) :=
  acts_ite (fun _ => acts_raiseEv (acts_incFld h _ hl) _ (by decide)) fun _ => acts_raiseEv (acts_incFld h _ hl) _ (by decide)

theorem fld_raiseEv {n : Nat} (i : Nat) (t : State) (hn : n < 256) {a : Nat} (f : Fld) (hr : reportReg a = false) :
    (raiseEv n i t).fld a f = t.fld a f := congrArg (fget f) (raiseEv_regs n i t hn a hr)

/-- A corrected error counts in the counter of its memory alone (R452). -/
theorem eccCorrect_counts (s : State) :
    (eccCorrect false s).fld CHECK_ECC CHECK_ECC_CE_SRAM =
        satInc (2 ^ CHECK_ECC_CE_SRAM.w - 1) (s.fld CHECK_ECC CHECK_ECC_CE_SRAM) ∧
      (eccCorrect false s).fld CHECK_ECC CHECK_ECC_CE_MRAM = s.fld CHECK_ECC CHECK_ECC_CE_MRAM :=
  ⟨(fld_raiseEv _ _ (by decide) _ (by decide)).trans (fld_incFld_same _ _ _ (by decide)),
    (fld_raiseEv _ _ (by decide) _ (by decide)).trans (State.fld_setFld_field _ _ _ _ _ (by decide))⟩

theorem scrub_eccCorrect (m : Bool) (s : State) : (eccCorrect m s).scrub = s.scrub := by
  unfold eccCorrect
  split <;> rfl

/-- The effect of an uncorrectable error that no engine reads (R452). -/
theorem eccUncorrectable_host (m : Bool) (a : Word) (s : State) :
    eccUncorrectable 9 m a s = raiseFault (if m then 39 else 38)
      (raiseEv 199 0xFFFF (State.incFld CHECK_ECC CHECK_ECC_UE_CNT (State.setReg CHECK_ECCADDR a s))) := by
  unfold eccUncorrectable
  rw [if_neg (by omega)]
  exact (if_neg (by omega)).trans (if_neg (by decide))

theorem eccReadError_counts {m : Bool} {a : Word} {s : State} (hc : Calm s) (hd : s.start.lodgeDown = false)
    (hr : actingReact s (if m then 39 else 38) = 0) (ho : resetOverdue s = false) :
    Runs (.eccReadError 9 m true a) s fun t =>
      t.fld CHECK_ECC CHECK_ECC_UE_CNT = satInc (2 ^ CHECK_ECC_UE_CNT.w - 1) (s.fld CHECK_ECC CHECK_ECC_UE_CNT) ∧
      t.reg CHECK_ECCADDR = a ∧
      OnlyRegs [CHECK_ECC, CHECK_ECCADDR] s t := by
  have hn : (if m then 39 else 38) < 96 := by cases m <;> decide
  have hx : exec (.eccReadError 9 m true a) s = finish s (eccUncorrectable 9 m a s) := by
    show finish s (if s.start.lodgeDown then s else eccUncorrectable 9 m a s) = _
    rw [hd]
    rfl
  rw [eccUncorrectable_host] at hx
  have hacts : Acts [if m then 39 else 38] [CHECK_ECC, CHECK_ECCADDR] s (raiseFault (if m then 39 else 38)
      (raiseEv 199 0xFFFF (State.incFld CHECK_ECC CHECK_ECC_UE_CNT (State.setReg CHECK_ECCADDR a s)))) :=
    acts_raiseFault (acts_raiseEv (acts_incFld (acts_setReg (.refl _ _ s) _ (by decide)) _ (by decide)) _ (by decide)) hn
      (by simp)
  refine runs_of_noticed hx (hacts.noticed hc fun n h => ?_) (hacts.notOverdue ho) fun t ht _ => ⟨?_, ?_, ht.onlyRegs hacts⟩
  · obtain rfl := List.mem_singleton.1 h
    exact ⟨hn, by cases m <;> decide, hr⟩
  · rw [ht.fld, fld_raiseFault _ hn _ (by decide), fld_raiseEv _ _ (by decide) _ (by decide),
      fld_incFld_same _ _ _ (by decide)]
    exact congrArg (fun w => satInc _ (fget _ w)) (State.reg_setReg_other s a (by decide))
  · rw [ht.regs _ (by decide) (by decide), raiseFault_regs _ _ hn _ (by decide), raiseEv_regs _ _ _ (by decide) _ (by decide)]
    exact (State.reg_setFld_other _ _ _ (by decide)).trans (State.reg_setReg_same ..)

/-- The scrubber has gone on by a word, in the MRAM or in the SRAM (R453). -/
def scrubMoved (mram : Bool) (s : State) : State :=
  { s with scrub := if mram then { s.scrub with mram := (s.scrub.mram + 1) % mramWords }
    else { s.scrub with sram := (s.scrub.sram + 1) % sramWords } }

theorem acts_scrubMoved (F l : List Nat) (mram : Bool) (s : State) : Acts F l s (scrubMoved mram s) := .refl F l s

theorem Settled.scrub {s u t : State} (h : Settled s u t) : t.scrub = u.scrub := by rw [h.frame]

/-- Settles O28, the Logbook's clauses by what reports keep of it. -/
theorem logbookAndMemories : Obligations.LogbookAndMemories := by
  refine ⟨fun _ _ _ => logbookRecordWrite_writes, fun _ _ _ _ hc hq _ => logbookRecordDrop_drops hc hq,
    fun reader a s hc hd => ?corrected, fun _ _ _ => eccReadError_counts, fun s hc hd => ?sram, fun s hc hd => ?mram⟩
  case corrected =>
    have hx : exec (.eccReadError reader false false a) s = finish s (eccCorrect false s) := by
      show finish s (if s.start.lodgeDown then s else eccCorrect false s) = _
      rw [hd]
      rfl
    have hacts : Acts [] [CHECK_ECC] s (eccCorrect false s) := acts_eccCorrect (.refl _ _ s) (by decide) false
    obtain ⟨hs, hm⟩ := eccCorrect_counts s
    exact runs_of_calm hx (hacts.calm hc) fun t ht _ => ⟨(ht.fld _).trans hs, (ht.fld _).trans hm, ht.onlyRegs hacts⟩
  case sram =>
    have hx : exec (.scrub false 1) s = finish s (eccCorrect false (scrubMoved false s)) := by
      show finish s (if s.start.lodgeDown then s else scrubWord false 1 s) = _
      rw [hd]
      rfl
    have hacts := acts_eccCorrect (acts_scrubMoved [] [CHECK_ECC] false s) (by decide) false
    have hscrub := scrub_eccCorrect false (scrubMoved false s)
    exact runs_of_calm hx (hacts.calm hc) fun t ht _ => ⟨by rw [ht.scrub, hscrub]; rfl, by rw [ht.scrub, hscrub]; rfl,
      (ht.fld _).trans (eccCorrect_counts _).1, ht.onlyRegs hacts⟩
  case mram =>
    have hx : exec (.scrub true 0) s = finish s (scrubMoved true s) := by
      show finish s (if s.start.lodgeDown then s else scrubWord true 0 s) = _
      rw [hd]
      rfl
    exact runs_of_calm hx hc fun t ht _ => ⟨by rw [ht.scrub]; rfl, by rw [ht.scrub]; rfl, ht.fld _⟩

end Sys2Proof.Machine
end

section
-- Kernel evaluations in the background would each hold a thread with its stack.
set_option Elab.async false
/-! A fault that is captured in the cycle of another (§17), and an
event of the maximum-awake timer that finds the Logbook's queue full (§15). -/

namespace Sys2Proof.Machine
open Sys2Proof.Tests (up)

/-- FLT5 was captured in this cycle. -/
def capturesNow : State :=
  State.setReg FAULT_LAST (fput FAULT_LAST_FLT 5 (fput FAULT_LAST_NCAP 1 0#32))
    (State.setFlag FAULT_STAT FAULT_STAT_REACTING true { up with rep := { up.rep with windowEnd := up.now + 1290 } })

/-- Refutes O27: FAULT_LAST names the lowest of the faults captured in one cycle (R458), here the one before FLT37. -/
theorem not_faultsAndLimp : ¬ Obligations.FaultsAndLimp := by
  intro ⟨h, _⟩
  obtain ⟨_, hlast, _⟩ := (h capturesNow (by decide +kernel) (by decide +kernel) (by decide +kernel) (by decide +kernel)
    (by decide +kernel) (by decide +kernel)).after
  exact absurd hlast (by decide +kernel)

/-- The last local reason to stay awake has gone while channel 0 holds the network, EV167 goes into the Logbook, whose
queue is full, and no notice can leave. -/
def reasonGone : State :=
  State.setFld (HOST_EVCFG 167) HOST_EVCFG_EN 1 (State.setFld (HOST_EVCFG 167) HOST_EVCFG_CLASS 2
    (State.setFld NETPM_STAT NETPM_STAT_HOLDING 1 (State.setFld HOST_CFG HOST_CFG_NOTE_PORT 3
      { up with net := { up.net with localHeld := true }, rep := { up.rep with queue := List.replicate 64 {} } })))

/-- Refutes O44: the record of EV167 is dropped, which is FLT64 (R446) and a FAULT notice more. -/
theorem not_noticesAndLink : ¬ Obligations.NoticesAndLink := by
  intro ⟨_, _, _, _, _, h, _⟩
  obtain ⟨_, hnotes, _⟩ := (h reasonGone (by decide +kernel) (by decide +kernel)).after
  exact absurd hnotes (by decide +kernel)

end Sys2Proof.Machine
end

section
-- Kernel evaluations in the background would each hold a thread with its stack.
set_option Elab.async false
/-! Frames that wait for a die and take effect with the command (R18, R22): what they do, and the faults they report. -/

namespace Sys2Proof.Machine
open Sys2Proof.Tests (up plainHdr)

/-- A moor frame waits for the die of Pavilions 0 to 15. -/
def moorWaits : State :=
  State.modCv 0 (fun c => { c with down := { c.down with queue := [.moor] } }) (State.setFlag (PAV_CFG 0) PAV_CFG_MOOR_KEEP true up)

/-- Refutes O38: the moor frame reaches the die before the READ does (R18), so the host sees the bank moored. -/
theorem not_hostAccess : ¬ Obligations.HostAccess := by
  intro ⟨h, _⟩
  obtain ⟨hout, _⟩ := (h plainHdr (BitVec.ofNat 32 (PAV_BSTAT 0)) ((regAt (PAV_BSTAT 0)).getD (⟨0, 0, 0, 0, 0, false, .lodge, .none, []⟩, 0)).1
    0 moorWaits (by decide +kernel) (by decide +kernel) (by decide +kernel) (by decide +kernel)
    (by decide +kernel) (by decide +kernel) (by decide +kernel)).after
  exact absurd hout (by decide +kernel)

/-- On the way into Moored, the claim of Pavilion 0 waits for its die, which reports FLT5 when it is claimed. -/
def claimComes : State :=
  State.modDie 0 (fun d => { d with held := [.fault 5] })
    (State.modCv 0 (fun c => { c with down := { c.down with queue := [.claim 0] } })
      (State.setFld POWER_STAT POWER_STAT_TRANS 1 (State.setFld POWER_STAT POWER_STAT_TARGET 3
        { up with pow := { up.pow with stage := 1 } })))

/-- Refutes O22: the fault that the die reports lets the Lodge reset that was due happen, which ends the entry. -/
theorem not_powerTransitions : ¬ Obligations.PowerTransitions := by
  intro ⟨_, h, _⟩
  obtain ⟨hstage, _⟩ := (h (resetWaits claimComes) (by decide +kernel) (by decide +kernel) (by decide +kernel)).after
  exact absurd hstage (by decide +kernel)

/-- With LARM high, the shadow of the Field's die turns output 0 off for owner 1, whose limp time has ended. -/
def limpEnds : State :=
  State.setFld (FO_CFG 0) FO_CFG_OWNER 1 (State.modFo 0 (fun x => { x with limpEnd := some 0 })
    (State.modDie 3 (fun d => { d with shadow := [{ master := 0, target := 0x400, word := 0 }] })
      { up with lock := { up.lock with larm := true } }))

/-- Refutes O14: FLT67 of that output lets the Lodge reset that was due happen, after which no strobe has been. -/
theorem not_lockStrobeSequence : ¬ Obligations.LockStrobeSequence := by
  intro ⟨_, _, _, _, h, _⟩
  obtain ⟨_, hat⟩ := (h (resetWaits limpEnds) (by decide +kernel) (by decide +kernel) (by decide +kernel)).after
  exact absurd hat (by decide +kernel)

end Sys2Proof.Machine
end

section
/-! Culverts: frames, attempts, training and heartbeats (R18 to R21). -/

namespace Sys2Proof.Machine

/-! ### Parts of the state that a command's end leaves -/

namespace Settled
variable {s u t : State} (h : Settled s u t)
include h

theorem cv (k : Nat) : t.cv k = u.cv k := by
  rw [h.frame]
  rfl

theorem die (k : Nat) : t.die k = u.die k := by
  rw [h.frame]
  rfl

theorem laneOf (k : Nat) (d : Bool) : laneOf t k d = laneOf u k d := by
  unfold Machine.laneOf
  rw [h.cv]

theorem out : t.out = u.out := by rw [h.frame]

theorem flag {a : Nat} (f : Fld) (hr : reportReg a = false := by decide) (hn : a ≠ NETPM_STAT := by decide) :
    t.flag a f = u.flag a f := congrArg (· == 1) (h.fld f hr hn)

end Settled

/-! ### Flags and lanes -/

theorem State.fld_setFlag_same (s : State) (a : Nat) (f : Fld) (b : Bool) (h : f.lo + f.w ≤ 32)
    (hw : 0 < f.w) : (State.setFlag a f b s).fld a f = b2n b := by
  refine (fld_setFld_same s a f (b2n b) h).trans (Nat.mod_eq_of_lt ?_)
  have h2 := Nat.one_lt_two_pow (Nat.ne_of_gt hw)
  cases b
  · exact Nat.zero_lt_of_lt h2
  · exact h2

theorem State.flag_setFlag_same (s : State) (a : Nat) (f : Fld) (b : Bool) (h : f.lo + f.w ≤ 32)
    (hw : 0 < f.w) : (State.setFlag a f b s).flag a f = b := by
  unfold State.flag
  rw [fld_setFlag_same s a f b h hw]
  cases b <;> rfl

@[simp] theorem State.cv_modCv_same (k : Nat) (f : Culvert → Culvert) (s : State) : (State.modCv k f s).cv k = f (s.cv k) :=
  Tab.get_mod_same _ _ _ _

@[simp] theorem State.die_modDie_same (k : Nat) (f : Die → Die) (s : State) : (State.modDie k f s).die k = f (s.die k) :=
  Tab.get_mod_same _ _ _ _

theorem laneOf_modLane_same (k : Nat) (d : Bool) (f : Lane → Lane) (s : State) :
    laneOf (modLane k d f s) k d = f (laneOf s k d) := by
  unfold laneOf modLane
  rw [State.cv_modCv_same]
  cases d <;> rfl

theorem cvStat_plain : ∀ d : Fin 6, reportReg (SYS_CV_STAT d) = false ∧ SYS_CV_STAT d ≠ NETPM_STAT := by decide

section
variable {F l : List Nat} {s t : State} (h : Acts F l s t)
include h

theorem acts_modCv (k : Nat) (f : Culvert → Culvert) : Acts F l s (State.modCv k f t) := h

theorem acts_modLane (k : Nat) (d : Bool) (f : Lane → Lane) : Acts F l s (modLane k d f t) := h

theorem acts_dropBatches (d : Nat) : Acts F l s (dropBatches d t) := h

theorem acts_modDie (k : Nat) (f : Die → Die) : Acts F l s (State.modDie k f t) := h

end

theorem cvUp_modLane (k : Nat) (d : Bool) (f : Lane → Lane) (s : State) (j : Nat) : cvUp (modLane k d f s) j = cvUp s j :=
  rfl

/-! ### Frames towards the Lodge -/

section
variable {s : State} {cv : Fin 6} {frame : BitVec 80} (hc : Calm s) (hup : cvUp s cv = true)
include hc hup

theorem culvertFrame_good (hg : frameGood frame = true) (hs : frameSeq frame = (s.cv cv).up.rxSeq) :
    Runs (.culvertFrameReceive cv false frame) s fun t =>
      (t.cv cv).up.rxSeq = ((s.cv cv).up.rxSeq + 1) % 256 ∧ (t.cv cv).up.lastFrame = s.now ∧ (t.cv cv).up.attempts = 0 := by
  have hx : exec (.culvertFrameReceive cv false frame) s =
      finish s (modLane cv false (fun l => laneTakes l s.now) s) := by
    refine congrArg (finish s) ?_
    unfold culvertFrame
    rw [hup, hg]
    exact if_pos hs
  refine runs_of_calm hx hc fun t ht _ => ?_
  have hl : (t.cv cv).up = laneTakes (s.cv cv).up s.now := (ht.laneOf cv false).trans (laneOf_modLane_same ..)
  rw [hl]
  exact ⟨rfl, rfl, rfl⟩

theorem culvertFrame_bad (hg : frameGood frame = false) :
    Runs (.culvertFrameReceive cv false frame) s fun t =>
      (t.cv cv).up.attempts = (s.cv cv).up.attempts + 1 ∧ (t.cv cv).up.rxSeq = (s.cv cv).up.rxSeq ∧
        t.fld (SYS_CV_STAT cv) SYS_CV_STAT_CRCERR =
          satInc (2 ^ SYS_CV_STAT_CRCERR.w - 1) (s.fld (SYS_CV_STAT cv) SYS_CV_STAT_CRCERR) := by
  obtain ⟨u, hu⟩ : ∃ u, u = modLane cv false (fun l => { l with attempts := (s.cv cv).up.attempts + 1 }) s := ⟨_, rfl⟩
  have hx : exec (.culvertFrameReceive cv false frame) s =
      finish s (State.incFld (SYS_CV_STAT cv) SYS_CV_STAT_CRCERR u) := by
    refine congrArg (finish s) ?_
    unfold culvertFrame
    rw [hup, hg, hu]
    rfl
  have hacts : Acts [] [SYS_CV_STAT cv] s (State.incFld (SYS_CV_STAT cv) SYS_CV_STAT_CRCERR u) :=
    acts_incFld (hu ▸ acts_modLane (.refl _ _ s) _ _ _) _ (by simp)
  refine runs_of_calm hx (hacts.calm hc) fun t ht _ => ?_
  have hlu : laneOf u cv false = { (s.cv cv).up with attempts := (s.cv cv).up.attempts + 1 } := by
    rw [hu, laneOf_modLane_same]
    rfl
  have hl : (t.cv cv).up = { (s.cv cv).up with attempts := (s.cv cv).up.attempts + 1 } :=
    (ht.laneOf cv false).trans hlu
  rw [hl, ht.fld _ (cvStat_plain cv).1 (cvStat_plain cv).2, fld_incFld_same _ _ _ (by decide), hu]
  exact ⟨rfl, rfl, rfl⟩

end

/-! ### Links -/

/-- The lanes of a link that is down. -/
def Culvert.dropped (c : Culvert) : Culvert :=
  { c with
    down := { c.down with queue := [], attempts := 0 }
    up := { c.up with queue := [], attempts := 0 }
    downSinceOpen := true, trainFails := 0, stale := 0 }

theorem linkDown_eq (k : Nat) (s : State) : linkDown k s = raiseFault k (State.setFlag (SYS_CV_STAT k) SYS_CV_STAT_UP false
    (State.setFlag (SYS_CV_STAT k) SYS_CV_STAT_LOST true (State.modCv k Culvert.dropped (dropBatches k s)))) := rfl

/-- Four attempts without an answer take a link down (R20). -/
theorem culvertLinkDown_falls {s : State} {cv : Fin 6} {d : Bool} (hc : Calm s) (hup : cvUp s cv = true)
    (ha : 4 ≤ (laneOf s cv d).attempts) (hr : actingReact s cv = 0) (ho : resetOverdue s = false) :
    Runs (.culvertLinkDown cv d) s fun t =>
      cvUp t cv = false ∧ t.fld (SYS_CV_STAT cv) SYS_CV_STAT_LOST = 1 ∧ (t.cv cv).down.queue = [] ∧
        (t.cv cv).downSinceOpen = true := by
  obtain ⟨u, hu⟩ : ∃ u, u = State.modCv cv Culvert.dropped (dropBatches cv s) := ⟨_, rfl⟩
  obtain ⟨v, hv⟩ : ∃ v, v = State.setFlag (SYS_CV_STAT cv) SYS_CV_STAT_UP false
    (State.setFlag (SYS_CV_STAT cv) SYS_CV_STAT_LOST true u) := ⟨_, rfl⟩
  have hx : exec (.culvertLinkDown cv d) s = finish s (raiseFault cv v) := by
    refine (congrArg (finish s) (if_pos ⟨hup, ha⟩)).trans ?_
    rw [linkDown_eq, hv, hu]
  have hcvu : u.cv cv = (s.cv cv).dropped := hu ▸ State.cv_modCv_same ..
  have hactu : Acts [cv.val] [SYS_CV_STAT cv] s u := hu ▸ acts_modCv (acts_dropBatches (.refl _ _ s) _) _ _
  have hacts : Acts [cv.val] [SYS_CV_STAT cv] s (raiseFault cv v) :=
    acts_raiseFault (hv ▸ acts_setFlag (acts_setFlag hactu _ _ (by simp)) _ _ (by simp)) (by omega) (by simp)
  obtain ⟨hrep, hnet⟩ := cvStat_plain cv
  have h96 : cv.val < 96 := by omega
  refine runs_of_noticed hx (hacts.noticed hc fun n h => ?_) (hacts.notOverdue ho) fun t ht _ => ?_
  · obtain rfl := List.mem_singleton.1 h
    exact ⟨h96, (by decide : ∀ cv : Fin 6, FAULT_CFG cv ∉ [SYS_CV_STAT cv]) cv, hr⟩
  · have hcv : t.cv cv = (s.cv cv).dropped := by
      have hvu : v.cv cv = u.cv cv := by
        rw [hv]
        rfl
      rw [ht.cv, ← hcvu, ← hvu]
      rfl
    have hf : ∀ f, t.fld (SYS_CV_STAT cv) f = v.fld (SYS_CV_STAT cv) f := fun f =>
      (ht.fld f hrep hnet).trans (fld_raiseFault v h96 f hrep)
    rw [hcv, hf, hv, State.setFlag, State.fld_setFld_field _ _ _ _ _ (by decide),
      State.fld_setFlag_same _ _ _ _ (by decide) (by decide)]
    refine ⟨?_, rfl, rfl, rfl⟩
    unfold cvUp State.flag
    rw [hf, hv, State.fld_setFlag_same _ _ _ _ (by decide) (by decide)]
    rfl

/-- The link and the die after training (R21). -/
theorem linkTrained_heard {k : Nat} {s : State} (h5 : k < 5) (hs : (s.die k).silent = false) : linkTrained k s =
    deliverHeld k (State.modDie k (fun d => { d with shadow := [], received := 0, announced := none })
      (State.modCv k (fun c => { c with
        down := { lastFrame := s.now }, up := { lastFrame := s.now }, count := 0, acked := false, trainFails := 0, stale := 0 })
        (State.setFlag (SYS_CV_STAT k) SYS_CV_STAT_UP true s))) := by
  unfold linkTrained
  extract_lets t1 t2 t3
  have h3 : (t3.die k).silent = false := by
    rw [State.die_modDie_same]
    exact hs
  rw [if_neg (by omega), h3]
  rfl

theorem culvertLinkTrained_up {s : State} {cv : Fin 6} (hc : Calm s) (hup : cvUp s cv = false)
    (hd : s.start.lodgeDown = false) (h5 : cv.val < 5) (hs : (s.die cv).silent = false) (hh : (s.die cv).held = []) :
    Runs (.culvertLinkTrained cv) s fun t =>
      cvUp t cv = true ∧ (t.cv cv).down.rxSeq = 0 ∧ (t.cv cv).up.lastFrame = s.now ∧ (t.die cv).shadow = [] := by
  obtain ⟨u, hu⟩ : ∃ u, u = State.modCv cv (fun c => { c with
    down := { lastFrame := s.now }, up := { lastFrame := s.now }, count := 0, acked := false, trainFails := 0, stale := 0 })
    (State.setFlag (SYS_CV_STAT cv) SYS_CV_STAT_UP true s) := ⟨_, rfl⟩
  obtain ⟨v, hv⟩ : ∃ v, v = State.modDie cv (fun d => { d with held := [] }) (State.modDie cv (fun d => { d with
    shadow := [], received := 0, announced := none }) u) := ⟨_, rfl⟩
  have hx : exec (.culvertLinkTrained cv) s = finish s v := by
    have hg : ¬ (cvUp s cv = true ∨ s.start.lodgeDown = true) := by simp [hup, hd]
    refine (congrArg (finish s) (if_neg hg)).trans (congrArg (finish s) ?_)
    rw [linkTrained_heard h5 hs, ← hu, deliverHeld, State.die_modDie_same, hv]
    have hheld : (u.die cv).held = [] := by
      rw [hu]
      exact hh
    rw [hheld]
    rfl
  have hactu : Acts [] [SYS_CV_STAT cv] s u := hu ▸ acts_modCv (acts_setFlag (.refl _ _ s) _ _ (by simp)) _ _
  have hacts : Acts [] [SYS_CV_STAT cv] s v := hv ▸ acts_modDie (acts_modDie hactu _ _) _ _
  refine runs_of_calm hx (hacts.calm hc) fun t ht _ => ?_
  have hcv : t.cv cv = { s.cv cv with
      down := { lastFrame := s.now }, up := { lastFrame := s.now }, count := 0, acked := false, trainFails := 0, stale := 0 } := by
    have hvu : v.cv cv = u.cv cv := by
      rw [hv]
      rfl
    rw [ht.cv, hvu, hu, State.cv_modCv_same]
    rfl
  refine ⟨?_, by rw [hcv], by rw [hcv], by rw [ht.die, hv, State.die_modDie_same, State.die_modDie_same]⟩
  unfold cvUp
  rw [ht.flag _ (cvStat_plain cv).1 (cvStat_plain cv).2, hv, ← State.flag_setFlag_same s (SYS_CV_STAT cv) SYS_CV_STAT_UP true
    (by decide) (by decide), hu]
  rfl

/-- Settles O13, a clause per lemma above; the others change one Culvert and no register. -/
theorem culverts : Obligations.Culverts := by
  refine ⟨fun _ _ _ => culvertFrame_good, fun _ _ _ => culvertFrame_bad, fun _ _ _ => culvertLinkDown_falls,
    fun _ _ => culvertLinkTrained_up, fun cv s hc hup => ?trainingFails, fun cv d s hc hup hi => ?heartbeat⟩
  case trainingFails =>
    have hx : exec (.culvertTrainingAttemptFail cv) s =
        finish s (State.modCv cv (fun c => { c with trainFails := c.trainFails + 1 }) s) :=
      congrArg (finish s) (if_neg (by simp [hup]))
    refine runs_of_calm hx hc fun t ht _ => ⟨?_, ?_⟩
    · rw [ht.cv, State.cv_modCv_same]
    · exact (ht.flag _ (cvStat_plain cv).1 (cvStat_plain cv).2).trans hup
  case heartbeat =>
    have hx : exec (.heartbeat cv d) s = finish s (modLane cv d (fun l => laneHears l s.now) s) :=
      congrArg (finish s) (if_pos ⟨hup, hi⟩)
    refine runs_of_calm hx hc fun t ht _ => ?_
    rw [ht.laneOf, laneOf_modLane_same]
    exact ⟨rfl, rfl⟩

end Sys2Proof.Machine
end

section
/-! Commands of a host: how they arrive, what is answered and what is turned away (R50 to R59). -/

namespace Sys2Proof.Machine

/-! ### Answers -/

section
variable {m : Nat} (hm : m ≠ 10)
include hm

theorem sendFrame_direct (dst typ ref : Nat) (payload : List Nat) (s : State) :
    sendFrame m dst typ ref payload s = State.send (.frame m typ ref (originAddr s) (sealed m typ ref payload s).1
      (sealed m typ ref payload s).2)
      (if (sealed m typ ref payload s).1 then s.modHost m (fun x => { x with txSeq := x.txSeq + 1 }) else s) := by
  unfold sendFrame
  exact if_neg hm

theorem out_sendFrame (dst typ ref : Nat) (payload : List Nat) (s : State) :
    (sendFrame m dst typ ref payload s).out = s.out ++ [.frame m typ ref (originAddr s) (sealed m typ ref payload s).1
      (sealed m typ ref payload s).2] := by
  rw [sendFrame_direct hm]
  split <;> rfl

theorem acts_sendFrame {F l : List Nat} {s t : State} (h : Acts F l s t) (dst typ ref : Nat) (payload : List Nat) :
    Acts F l s (sendFrame m dst typ ref payload t) := by
  rw [sendFrame_direct hm]
  split <;> exact h

/-- Answers touch nothing but the queue of frames and the sequence number of the session. -/
theorem sendFrame_frame (dst typ ref : Nat) (payload : List Nat) (s : State) :
    sendFrame m dst typ ref payload s = { s with
      out := (sendFrame m dst typ ref payload s).out, hosts := (sendFrame m dst typ ref payload s).hosts } := by
  rw [sendFrame_direct hm]
  split <;> rfl

end

theorem pathCode_ne_tunnel {h : HostHdr} (hp : h.path ≠ 1) : pathCode h.path ≠ 10 := by
  unfold pathCode
  omega

theorem originAddr_incFld {a : Nat} (f : Fld) (s : State) (ha : AQ_STAT ≠ a) :
    originAddr (State.incFld a f s) = originAddr s := by
  unfold originAddr aqRunning aqState aqAddr
  rw [State.incFld, State.fld_setFld_other _ _ _ _ ha, State.fld_setFld_other _ _ _ _ ha]

theorem sealed_incFld {a : Nat} (f : Fld) (s : State) (ha : AQ_STAT ≠ a) (m typ ref : Nat) (payload : List Nat) :
    sealed m typ ref payload (State.incFld a f s) = sealed m typ ref payload s := by
  unfold sealed
  rw [originAddr_incFld f s ha]
  rfl

/-! ### Commands that are turned away -/

/-- What a command refused by `nak` leaves: the answer, the count of refusals, and of everything else only the session's
sequence number. -/
structure Refused (m ref reason detail : Nat) (s t : State) : Prop where
  naks : Naks s t m ref reason detail
  acts : OnlyRegs [HOST_STAT] s t
  mem : t.mem = s.mem
  start : t.start = s.start

theorem Settled.naks {m ref r d : Nat} {s u t : State} (h : Settled s u t) (hn : Naks s u m ref r d) :
    Naks s t m ref r d := by
  obtain ⟨hs, hcnt⟩ := hn
  exact ⟨h.out.trans hs, (h.fld _).trans hcnt⟩

theorem replay_of_pausing {s : State} (h : pausing s = true) : replay s = s := if_pos (.inl h)

theorem replay_of_none_waits {s : State} (h : s.upd.waiting = []) : replay s = s := if_pos (.inr h)

section
variable {m : Nat} {s : State} (hm : m ≠ 10)
include hm

theorem acts_nak {F l : List Nat} {t : State} (h : Acts F l s t) (hl : HOST_STAT ∈ l) (ref r d : Nat) :
    Acts F l s (nak m ref r d t) := acts_sendFrame hm (acts_incFld h _ hl) _ _ _ _

theorem upd_nak (ref r d : Nat) : (nak m ref r d s).upd = s.upd := by
  unfold nak
  rw [sendFrame_frame hm]
  rfl

theorem naks_nak (ref r d : Nat) (s : State) : Naks s (nak m ref r d s) m ref r d := by
  have hf : nak m ref r d s = { State.incFld HOST_STAT HOST_STAT_NAK_CNT s with
      out := (nak m ref r d s).out, hosts := (nak m ref r d s).hosts } := sendFrame_frame hm _ _ _ _ _
  refine ⟨?_, ?_⟩
  · rw [Sends, nak, out_sendFrame hm, sealed_incFld _ _ (by decide), originAddr_incFld _ _ (by decide)]
    rfl
  · rw [← fld_incFld_same _ _ _ (by decide), hf]
    rfl

/-- A command that ends in a refusal, where nothing that waits is served after it. -/
theorem refused_of_nak {c : Instr} {ref r d : Nat} (hc : Calm s) (hw : pausing s = true ∨ s.upd.waiting = [])
    (hx : exec c s = finishHost s (nak m ref r d s)) : Runs c s (Refused m ref r d s) := by
  have hacts : Acts [] [HOST_STAT] s (nak m ref r d s) := acts_nak hm (.refl _ _ s) (by simp) ref r d
  have hu : (nak m ref r d s).upd = s.upd := upd_nak hm ref r d
  have hr : replay (nak m ref r d s) = nak m ref r d s := by
    rcases hw with hp | hw
    · refine replay_of_pausing ?_
      unfold pausing
      rw [hu]
      exact hp
    · exact replay_of_none_waits (hu ▸ hw)
  rw [finishHost, hr] at hx
  refine runsMem_of_calm hx (hacts.calm hc) fun t ht hmem => ?_
  have hf : nak m ref r d s = { State.incFld HOST_STAT HOST_STAT_NAK_CNT s with
      out := (nak m ref r d s).out, hosts := (nak m ref r d s).hosts } := sendFrame_frame hm _ _ _ _ _
  refine ⟨ht.naks (naks_nak hm ref r d s), ht.onlyRegs hacts, ?_, ?_⟩
  · rw [hmem, hf]
    rfl
  · rw [ht.start, hf]
    rfl

end

section
variable {s : State} {h : HostHdr} {c : Instr} {run : State → State}

theorem arrives_full (hp : pathOff s h = false) (ho : 4 ≤ outstanding s (pathCode h.path)) :
    arrives c h run s = nak (pathCode h.path) h.ref 0xB 0 s := by
  unfold arrives
  rw [hp]
  exact if_pos ho

theorem arrives_waits (hp : pathOff s h = false) (ho : outstanding s (pathCode h.path) < 4) (hu : pausing s = true) :
    arrives c h run s = deferCmd c s := by
  unfold arrives
  rw [hp]
  exact (if_neg (Nat.not_le.2 ho)).trans (if_pos (.inl hu))

theorem arrives_served (hp : pathOff s h = false) (ho : outstanding s (pathCode h.path) = 0) (hu : pausing s = false) :
    arrives c h run s = run s := by
  unfold arrives
  dsimp only
  rw [hp, ho, hu]
  rfl

variable {k : CmdKind}

theorem served_here (hd : h.dest = 0) (hs : sessionOver s (pathCode h.path) = false) : served k h run s =
    match sessionRefuses s h k.isOpen with
    | some r => nak (pathCode h.path) h.ref r 0 s
    | none => admitted (pathCode h.path) k h run (acceptCommand (pathCode h.path) h s) := by
  unfold served
  dsimp only
  rw [hs, hd]
  rfl

theorem sessionOver_of_plain {m : Nat} (hl : (s.host m).level = 0) : sessionOver s m = false := by
  unfold sessionOver
  rw [hl]
  rfl

theorem served_plain (hd : h.dest = 0) (hl : (s.host (pathCode h.path)).level = 0) (he : h.enc = false) :
    served k h run s = admitted (pathCode h.path) k h run s := by
  have hr : sessionRefuses s h k.isOpen = none := by
    unfold sessionRefuses
    dsimp only
    rw [hl, he]
    exact ite_self _
  rw [served_here hd (sessionOver_of_plain hl), hr, acceptCommand, if_pos hl]

section
variable (hl : 0 < (s.host (pathCode h.path)).level)
include hl

theorem sessionRefuses_plain (he : h.enc = false) : sessionRefuses s h false = some 0xA := by
  unfold sessionRefuses
  dsimp only
  rw [he, if_neg Bool.false_ne_true, if_neg (Nat.ne_of_gt hl), Bool.not_false, if_pos rfl]

theorem sessionRefuses_replayed (he : h.enc = true) (hq : h.seq ≤ (s.host (pathCode h.path)).lastSeq) :
    sessionRefuses s h false = some 8 := by
  unfold sessionRefuses
  dsimp only
  rw [he, if_neg Bool.false_ne_true, if_neg (Nat.ne_of_gt hl), Bool.not_true, if_neg Bool.false_ne_true, if_pos hq]

end

theorem served_refused {r : Nat} (hd : h.dest = 0) (hs : sessionOver s (pathCode h.path) = false)
    (hr : sessionRefuses s h k.isOpen = some r) : served k h run s = nak (pathCode h.path) h.ref r 0 s := by
  rw [served_here hd hs, hr]

theorem served_without_route (hd : h.dest ≠ 0) (ha : h.dest ≠ aqAddr s) (he : enabled s 15 = false) :
    served k h run s = nak (pathCode h.path) h.ref 0xD h.dest s := by
  unfold served
  rw [if_pos ⟨hd, ha⟩, forwardFrame, he, Bool.false_and, Bool.false_and, if_neg Bool.false_ne_true]

theorem admitted_plain {m : Nat} (hf : h.fits = true) (hst : startState s ≠ 5) (hp : (s.host m).prov = false) :
    admitted m k h run s = if (s.host m).level < k.level then nak m h.ref 5 k.level s else run s := by
  unfold admitted
  rw [hf, hp]
  exact (if_neg (by simp)).trans ((if_neg fun x => hst x.1).trans (if_neg (by simp)))

/-- A plain frame on a path in order reaches what its command does, or is refused for want of a session (R52, R54). -/
theorem served_of_plainFrame (hf : PlainFrame s h) : served k h run s =
    if 0 < k.level then nak (pathCode h.path) h.ref 5 k.level s else run s := by
  obtain ⟨-, -, -, -, hd, hfits, -, he, hl, hp, hst⟩ := hf
  rw [served_plain hd hl he, admitted_plain hfits hst hp, hl]

theorem arrives_of_plainFrame (hf : PlainFrame s h) : arrives c h run s = run s := by
  obtain ⟨hp, ho, hu, -⟩ := hf
  exact arrives_served hp ho hu

end

theorem PlainFrame.path_ne {s : State} {h : HostHdr} (hf : PlainFrame s h) : pathCode h.path ≠ 10 := by
  obtain ⟨-, -, -, -, -, -, hp, -⟩ := hf
  exact pathCode_ne_tunnel hp

theorem PlainFrame.none_waits {s : State} {h : HostHdr} (hf : PlainFrame s h) : s.upd.waiting = [] := by
  obtain ⟨-, -, -, hw, -⟩ := hf
  exact hw

/-- What Runs shows may be weakened. -/
theorem Runs.mono {c : Instr} {s : State} {P Q : State → Prop} (h : Runs c s P) (hPQ : ∀ t, P t → Q t) : Runs c s Q := by
  obtain ⟨t, ht, hP⟩ := h
  exact ⟨t, ht, hPQ t hP⟩

theorem exec_write (h : HostHdr) (addr data : Word) (s : State) : exec (.write h addr data) s =
    finishHost s (arrives (.write h addr data) h (hostWriteNow h addr data) s) := rfl

theorem exec_enable (h : HostHdr) (sub val : Nat) (s : State) : exec (.enable h sub val) s =
    finishHost s (arrives (.enable h sub val) h (hostEnableNow h sub val) s) := rfl

theorem exec_unknownType (h : HostHdr) (typ : Nat) (s : State) : exec (.unknownType h typ) s =
    finishHost s (arrives (.unknownType h typ) h (hostUnknownNow h typ) s) := rfl

/-- Settles O39: each clause reaches its refusal, or the queue of waiting commands. -/
theorem hostRefusals : Obligations.HostRefusals := by
  have hwrite : ∀ {m ref r d : Nat} {s t : State}, Refused m ref r d s t →
      Naks s t m ref r d ∧ OnlyRegs [HOST_STAT] s t ∧ t.mem = s.mem := fun hx => ⟨hx.naks, hx.acts, hx.mem⟩
  refine ⟨fun h addr data s hc hp hm ho hu => ?busy, fun h addr data s hc hp hm ho hu hd hl he hf hw => ?length,
    fun h addr data s hc hp hm ho hu hd hl hs he hw => ?plain, fun h addr data s hc hp hm ho hu hd hl hs he hq hw => ?replayed,
    fun h addr data s hc hp hm ho hu hd ha he hw => ?route, fun h sub val s hc hf => ?auth, fun h typ s hc hf => ?type,
    fun h addr data s hc hp ho hu => ?waits⟩
  case busy =>
    exact (refused_of_nak (pathCode_ne_tunnel hm) hc (.inl hu) ((exec_write h addr data s).trans
      (congrArg (finishHost s) (arrives_full hp ho)))).mono fun _ => hwrite
  case length =>
    refine (refused_of_nak (pathCode_ne_tunnel hm) hc (.inr hw) ((exec_write h addr data s).trans
      (congrArg (finishHost s) ?_))).mono fun _ => hwrite
    rw [arrives_served hp ho hu, hostWriteNow, served_plain hd hl he, admitted, hf, Bool.not_false, if_pos rfl]
  case plain =>
    refine (refused_of_nak (pathCode_ne_tunnel hm) hc (.inr hw) ((exec_write h addr data s).trans
      (congrArg (finishHost s) ?_))).mono fun _ => hwrite
    exact (arrives_served hp ho hu).trans (served_refused hd hs (sessionRefuses_plain hl he))
  case replayed =>
    refine (refused_of_nak (pathCode_ne_tunnel hm) hc (.inr hw) ((exec_write h addr data s).trans
      (congrArg (finishHost s) ?_))).mono fun _ => hwrite
    exact (arrives_served hp ho hu).trans (served_refused hd hs (sessionRefuses_replayed hl he hq))
  case route =>
    exact (refused_of_nak (pathCode_ne_tunnel hm) hc (.inr hw) ((exec_write h addr data s).trans
      (congrArg (finishHost s) ((arrives_served hp ho hu).trans (served_without_route hd ha he))))).mono fun _ => hwrite
  case auth =>
    refine (refused_of_nak hf.path_ne hc (.inr hf.none_waits) (r := 5) (d := 2) ((exec_enable h sub val s).trans
      (congrArg (finishHost s) ?_))).mono fun _ hx => ⟨hx.naks, hx.acts, hx.start⟩
    rw [arrives_of_plainFrame hf, hostEnableNow, served_of_plainFrame hf, if_pos (by decide)]
  case type =>
    refine (refused_of_nak hf.path_ne hc (.inr hf.none_waits) (r := 1) (d := typ) ((exec_unknownType h typ s).trans
      (congrArg (finishHost s) ?_))).mono fun _ hx => ⟨hx.naks, hx.acts⟩
    have hf' : PlainFrame s { h with fits := true } := by
      obtain ⟨hp, ho, hu, hw, hd, -, h1, he, hl, hv, hst⟩ := hf
      exact ⟨hp, ho, hu, hw, hd, rfl, h1, he, hl, hv, hst⟩
    rw [arrives_of_plainFrame hf, hostUnknownNow]
    exact (served_of_plainFrame hf').trans (if_neg (by decide))
  case waits =>
    have hx : exec (.write h addr data) s = finishMem s (deferCmd (.write h addr data) s) := by
      rw [exec_write, arrives_waits hp ho hu, finishHost, replay_of_pausing (s := deferCmd (.write h addr data) s) hu]
    refine runsMem_of_calm hx hc fun t ht hmem => ⟨?_, ?_, hmem, ?_⟩
    · rw [ht.upd]
      rfl
    · rw [ht.out]
      rfl
    · exact ht.onlyRegs (F := []) (.refl _ _ s)

end Sys2Proof.Machine
end

section
/-! Sessions of a host: how they open, what holds a path, how they end (R53 to R56). -/

namespace Sys2Proof.Machine

theorem State.host_modHost_same (m : Nat) (f : HostPath → HostPath) (s : State) :
    (s.modHost m f).host m = f (s.host m) := Tab.get_mod_same _ _ _ _

theorem State.host_modHost_other {j m : Nat} (f : HostPath → HostPath) (s : State) (h : j ≠ m) :
    (s.modHost m f).host j = s.host j := Tab.get_mod_other _ _ _ h

theorem State.host_of_hosts {s t : State} (h : t.hosts = s.hosts) (m : Nat) : t.host m = s.host m := by
  unfold State.host
  rw [h]

theorem Settled.host {s u t : State} (h : Settled s u t) (m : Nat) : t.host m = u.host m := by
  rw [h.frame]
  rfl

theorem Settled.hosts {s u t : State} (h : Settled s u t) : t.hosts = u.hosts := by rw [h.frame]

theorem State.host_raiseEv (n i : Nat) (t : State) (m : Nat) : (raiseEv n i t).host m = t.host m := rfl

theorem acts_modHost {F l : List Nat} {s t : State} (h : Acts F l s t) (m : Nat) (f : HostPath → HostPath) :
    Acts F l s (t.modHost m f) := h

/-! ### Frames of a path without a session -/

theorem sealed_plain {m : Nat} {s : State} (hl : (s.host m).level = 0) (typ ref : Nat) (payload : List Nat) :
    sealed m typ ref payload s = (false, payload) := by
  have h0 : sessionLevel s m = 0 := by
    unfold sessionLevel
    exact (congrArg (ite _ · 0) hl).trans (ite_self 0)
  unfold sealed
  exact if_pos h0

theorem sendFrame_plain {m : Nat} {s : State} (hm : m ≠ 10) (hl : (s.host m).level = 0) (dst typ ref : Nat)
    (payload : List Nat) :
    sendFrame m dst typ ref payload s = State.send (.frame m typ ref (originAddr s) false payload) s := by
  rw [sendFrame_direct hm, sealed_plain hl]
  rfl

theorem sends_plain {m typ ref : Nat} {payload : List Nat} {s t : State} (hl : (s.host m).level = 0)
    (h : t.out = s.out ++ [.frame m typ ref (originAddr s) false payload]) : Sends s t m typ ref payload := by
  rw [Sends, sealed_plain hl]
  exact h

theorem hosts_nak {m : Nat} {s : State} (hm : m ≠ 10) (hl : (s.host m).level = 0) (ref r d : Nat) :
    (nak m ref r d s).hosts = s.hosts := by
  rw [nak, sendFrame_plain (s := State.incFld _ _ s) hm hl]
  rfl

/-! ### The end of a session -/

/-- From `s` to `t` only the session of path `m`, and the mode of the Gatehouse it served, came to an end or moved on. -/
structure Carried (m : Nat) (s t : State) : Prop where
  hold : (t.host m).holdEnd = (s.host m).holdEnd
  others : ∀ j, j ≠ m → t.host j = s.host j
  out : t.out = s.out
  upd : t.upd = s.upd
  acts : Acts [] [GATE_STAT] s t

theorem Carried.refl (m : Nat) (s : State) : Carried m s s := ⟨rfl, fun _ _ => rfl, rfl, rfl, .refl _ _ s⟩

theorem Carried.trans {m : Nat} {s t u : State} (h : Carried m s t) (h' : Carried m t u) : Carried m s u :=
  ⟨h'.hold.trans h.hold, fun j hj => (h'.others j hj).trans (h.others j hj), h'.out.trans h.out, h'.upd.trans h.upd,
    h.acts.trans h'.acts⟩

theorem Carried.originAddr {m : Nat} {s t : State} (h : Carried m s t) : originAddr t = originAddr s := by
  unfold Machine.originAddr aqRunning aqState aqAddr
  rw [h.acts.fld (a := AQ_STAT), h.acts.fld (a := AQ_STAT)]

theorem carried_acceptCommand (m : Nat) (h : HostHdr) (s : State) : Carried m s (acceptCommand m h s) := by
  unfold acceptCommand
  split
  · exact .refl m s
  · refine ⟨?_, fun j hj => State.host_modHost_other _ s hj, rfl, rfl, .refl _ _ s⟩
    rw [State.host_modHost_same]

theorem leaveMode_frame (s : State) : leaveMode s = { s with regs := (leaveMode s).regs, gate := (leaveMode s).gate } := by
  unfold leaveMode
  split <;> rfl

theorem acts_leaveMode (s : State) : Acts [] [GATE_STAT] s (leaveMode s) := by
  unfold leaveMode
  split
  · exact acts_setFld (.refl _ _ s) GATE_STAT_GMODE 0 (by simp)
  · exact .refl _ _ s

/-- What leaves the hosts, the answers and the queue of waiting commands alone carries a path on. -/
theorem Carried.of_hosts {m : Nat} {s t : State} (hh : t.hosts = s.hosts) (ho : t.out = s.out) (hu : t.upd = s.upd)
    (ha : Acts [] [GATE_STAT] s t) : Carried m s t := by
  have h : ∀ j, t.host j = s.host j := State.host_of_hosts hh
  exact ⟨congrArg HostPath.holdEnd (h m), fun j _ => h j, ho, hu, ha⟩

theorem hosts_onSessionEnd (m : Nat) (s : State) : (onSessionEnd m s).hosts = s.hosts := by
  unfold onSessionEnd
  split
  · rw [leaveMode_frame]
  · rfl

theorem carried_onSessionEnd (m : Nat) (s : State) : Carried m s (onSessionEnd m s) := by
  refine .of_hosts (hosts_onSessionEnd m s) ?_ ?_ ?_ <;> unfold onSessionEnd <;> split
  · rw [leaveMode_frame]
  · rfl
  · rw [leaveMode_frame]
  · rfl
  · exact acts_leaveMode s
  · exact .refl _ _ s

theorem endSession_of_none {m : Nat} {s : State} (h : (s.host m).level = 0) : endSession m s = s := if_pos h

theorem carried_endSession (m : Nat) (s : State) : Carried m s (endSession m s) := by
  unfold endSession
  split
  · exact .refl m s
  · obtain ⟨t, ht⟩ : ∃ t, t = s.modHost m (fun x => { holdEnd := x.holdEnd }) := ⟨_, rfl⟩
    rw [← ht]
    have h1 : Carried m s t := by
      rw [ht]
      refine ⟨?_, fun j hj => State.host_modHost_other _ s hj, rfl, rfl, acts_modHost (.refl _ _ s) _ _⟩
      rw [State.host_modHost_same]
    have h2 : Carried m t (raiseEv 243 0xFFFF t) :=
      .of_hosts rfl rfl rfl (acts_raiseEv (.refl _ _ t) _ (by decide))
    exact (h1.trans h2).trans (carried_onSessionEnd m _)

theorem level_endSession (m : Nat) (s : State) : ((endSession m s).host m).level = 0 := by
  unfold endSession
  split
  · assumption
  · obtain ⟨t, ht⟩ : ∃ t, t = s.modHost m (fun x => { holdEnd := x.holdEnd }) := ⟨_, rfl⟩
    have hl : (t.host m).level = 0 := by rw [ht, State.host_modHost_same]
    rw [← ht, State.host_of_hosts (hosts_onSessionEnd m _)]
    exact hl

/-! ### The opening of a session -/

theorem length_leBytes (n x : Nat) : (leBytes n x).length = n := by
  unfold leBytes
  rw [List.length_map, List.length_range]

/-- A session just opened. -/
structure Fresh (lv keyIndex now : Nat) (x : HostPath) : Prop where
  level : x.level = lv
  prov : x.prov = (lv == 2 && keyIndex == 0x80)
  lastSeq : x.lastSeq = 0
  txSeq : x.txSeq = 1
  lastCommand : x.lastCommand = now

theorem openSession_eq (m ref level keyIndex nonce pub sig : Nat) (s : State) : ∃ p x, p.length = 144 ∧
    Fresh level keyIndex s.now x ∧ openSession m ref level keyIndex nonce pub sig s =
      raiseEv 242 0xFFFF ((respond m 4 ref p s.drawn.drawn).modHost m (fun _ => x)) := by
  unfold openSession
  extract_lets own priv t ownPub fields proof d
  refine ⟨leBytes 16 own ++ leBytes 64 ownPub ++ leBytes 64 proof, _, ?_, ?_, rfl⟩
  · rw [List.length_append, List.length_append, length_leBytes, length_leBytes, length_leBytes]
  · exact ⟨rfl, rfl, rfl, rfl, rfl⟩

/-- What a session's opening on a plain path leaves behind. -/
structure Opened (m ref level keyIndex : Nat) (s t : State) : Prop where
  fresh : Fresh level keyIndex s.now (t.host m)
  others : ∀ j, j ≠ m → t.host j = s.host j
  answer : ∃ p, Sends s t m 0x84 ref p ∧ p.length = 144
  only : OnlyRegs [HOST_STAT] s t

theorem Settled.opened {m ref level keyIndex : Nat} {s u t : State} (h : Settled s u t)
    (ho : Opened m ref level keyIndex s u) : Opened m ref level keyIndex s t := by
  obtain ⟨hfresh, hothers, ⟨p, hp, hlen⟩, honly⟩ := ho
  exact ⟨h.host m ▸ hfresh, fun j hj => (h.host j).trans (hothers j hj), ⟨p, h.out.trans hp, hlen⟩,
    fun a hl hr hn => (h.regs a hr hn).trans (honly a hl hr hn)⟩

theorem opened_openSession {m : Nat} {s : State} (hm : m ≠ 10) (hl : (s.host m).level = 0)
    (ref level keyIndex nonce pub sig : Nat) :
    Opened m ref level keyIndex s (openSession m ref level keyIndex nonce pub sig s) ∧
      (openSession m ref level keyIndex nonce pub sig s).upd = s.upd ∧
      (Calm s → Calm (openSession m ref level keyIndex nonce pub sig s)) := by
  obtain ⟨p, x, hp, hx, he⟩ := openSession_eq m ref level keyIndex nonce pub sig s
  have hr : respond m 4 ref p s.drawn.drawn = State.send (.frame m 0x84 ref (originAddr s) false p) s.drawn.drawn :=
    sendFrame_plain (s := s.drawn.drawn) hm hl _ _ _ _
  rw [hr] at he
  obtain ⟨u, hu⟩ : ∃ u, u = (State.send (.frame m 0x84 ref (originAddr s) false p) s.drawn.drawn).modHost m (fun _ => x) :=
    ⟨_, rfl⟩
  have hact : Acts [] [HOST_STAT] s u := by
    rw [hu]
    exact acts_modHost (.refl _ _ s) m fun _ => x
  rw [he, ← hu]
  have hend : Acts [] [HOST_STAT] s (raiseEv 242 0xFFFF u) := acts_raiseEv hact _ (by decide)
  refine ⟨⟨?_, fun j hj => ?_, ⟨p, sends_plain hl ?_, hp⟩, hend.only⟩, ?_, hend.calm⟩
  · have h : (raiseEv 242 0xFFFF u).host m = x := by
      rw [State.host_raiseEv, hu, State.host_modHost_same]
    rwa [h]
  · rw [State.host_raiseEv, hu]
    exact State.host_modHost_other _ s hj
  · rw [hu]
    rfl
  · rw [hu]
    rfl

theorem exec_sessionOpen (h : HostHdr) (level keyIndex nonce pub sig : Nat) (s : State) :
    exec (.sessionOpen h level keyIndex nonce pub sig) s = finishHost s
      (arrives (.sessionOpen h level keyIndex nonce pub sig) h (hostOpenNow h level keyIndex nonce pub sig) s) := rfl

/-- A command's end, where nothing waits to be served after it. -/
theorem runsHost_of_calm {c : Instr} {s u : State} {P : State → Prop} (hx : exec c s = finishHost s u)
    (hw : u.upd.waiting = []) (hu : Calm u) (hP : ∀ t, Settled s u t → t.mem = u.mem → P t) : Runs c s P :=
  runsMem_of_calm (hx.trans (finishHost_of_none_waits s hw)) hu hP

section
variable {h : HostHdr} {level keyIndex nonce pub sig : Nat} {s : State} (hf : PlainFrame s h)
include hf

theorem exec_sessionOpen_plain : exec (.sessionOpen h level keyIndex nonce pub sig) s =
    finishHost s (sessionOpen (pathCode h.path) h level keyIndex nonce pub sig s) := by
  rw [exec_sessionOpen, arrives_of_plainFrame hf, hostOpenNow, served_of_plainFrame hf, if_neg (by decide)]

theorem PlainFrame.level_eq : (s.host (pathCode h.path)).level = 0 := by
  obtain ⟨-, -, -, -, -, -, -, -, hl, -⟩ := hf
  exact hl

variable (hc : Calm s)
include hc

theorem runs_opened (he : sessionOpen (pathCode h.path) h level keyIndex nonce pub sig s =
      openSession (pathCode h.path) h.ref level keyIndex nonce pub sig s) :
    Runs (.sessionOpen h level keyIndex nonce pub sig) s (Opened (pathCode h.path) h.ref level keyIndex s) := by
  obtain ⟨ho, hupd, hcalm⟩ := opened_openSession hf.path_ne hf.level_eq h.ref level keyIndex nonce pub sig
  exact runsHost_of_calm ((exec_sessionOpen_plain hf).trans (congrArg (finishHost s) he)) (hupd ▸ hf.none_waits)
    (hcalm hc) fun t ht _ => ht.opened ho

theorem runs_sessionRefused {r d : Nat} (he : sessionOpen (pathCode h.path) h level keyIndex nonce pub sig s =
      nak (pathCode h.path) h.ref r d s) : Runs (.sessionOpen h level keyIndex nonce pub sig) s fun t =>
    Naks s t (pathCode h.path) h.ref r d ∧ t.hosts = s.hosts ∧ OnlyRegs [HOST_STAT] s t := by
  have hacts : Acts [] [HOST_STAT] s (nak (pathCode h.path) h.ref r d s) :=
    acts_nak hf.path_ne (.refl _ _ s) (by simp) _ _ _
  refine runsHost_of_calm ((exec_sessionOpen_plain hf).trans (congrArg (finishHost s) he))
    ((congrArg Upd.waiting (upd_nak hf.path_ne _ _ _)).trans hf.none_waits) (hacts.calm hc) fun t ht _ => ?_
  exact ⟨ht.naks (naks_nak hf.path_ne _ _ _ s), ht.hosts.trans (hosts_nak hf.path_ne hf.level_eq _ _ _), ht.onlyRegs hacts⟩

/-- A level 2 session that the host does not prove holds its path for 1 s (R56). -/
theorem runs_sessionUnproved (hh : (s.host (pathCode h.path)).holdEnd ≤ s.now)
    (hp : hostProved s 2 keyIndex nonce pub sig = false) : Runs (.sessionOpen h 2 keyIndex nonce pub sig) s fun t =>
    ((t.host (pathCode h.path)).level = 0 ∧ (t.host (pathCode h.path)).holdEnd = s.now + 1000000000 ∧
      Naks s t (pathCode h.path) h.ref 6 0) ∧ OnlyRegs [HOST_STAT] s t := by
  have hm := hf.path_ne
  have hl := hf.level_eq
  obtain ⟨v, hv⟩ : ∃ v, v = s.modHost (pathCode h.path) (fun x => { x with holdEnd := s.now + 1000000000 }) := ⟨_, rfl⟩
  have hvh : v.host (pathCode h.path) = { s.host (pathCode h.path) with holdEnd := s.now + 1000000000 } := by
    rw [hv, State.host_modHost_same]
  obtain ⟨u, hu⟩ : ∃ u, u = raiseEv 244 0xFFFF v := ⟨_, rfl⟩
  have huh : u.host (pathCode h.path) = v.host (pathCode h.path) := by
    rw [hu, State.host_raiseEv]
  have hul : (u.host (pathCode h.path)).level = 0 := by
    rw [huh, hvh]
    exact hl
  have hs : sessionOpen (pathCode h.path) h 2 keyIndex nonce pub sig s = nak (pathCode h.path) h.ref 6 0 u := by
    unfold sessionOpen
    rw [endSession_of_none hl, if_neg (by decide), if_neg (by decide), if_neg (fun x => absurd x.2 (Nat.not_lt.2 hh)),
      if_pos ⟨rfl, hp⟩, hu, hv]
  have hactv : Acts [] [HOST_STAT] s v := by
    rw [hv]
    exact acts_modHost (.refl _ _ s) _ _
  have hactu : Acts [] [HOST_STAT] s u := hu ▸ acts_raiseEv hactv _ (by decide)
  have hacts : Acts [] [HOST_STAT] s (nak (pathCode h.path) h.ref 6 0 u) := acts_nak hm hactu (by simp) _ _ _
  have hupd : u.upd = s.upd := by
    rw [hu, hv]
    rfl
  have hsent : u.out = s.out := by
    rw [hu, hv]
    rfl
  have horigin : originAddr u = originAddr s := by
    unfold originAddr aqRunning aqState aqAddr
    rw [hactu.fld (a := AQ_STAT), hactu.fld (a := AQ_STAT)]
  have hend : Naks s (nak (pathCode h.path) h.ref 6 0 u) (pathCode h.path) h.ref 6 0 := by
    obtain ⟨hn, hcnt⟩ := naks_nak hm h.ref 6 0 u
    refine ⟨sends_plain hl ?_, hcnt.trans ?_⟩
    · rw [hn, sealed_plain hul, horigin, hsent]
    · rw [hu, fld_raiseEv _ _ (by decide) _ (by decide), hv]
      rfl
  refine runsHost_of_calm ((exec_sessionOpen_plain hf).trans (congrArg (finishHost s) hs))
    ((congrArg Upd.waiting ((upd_nak hm _ _ _).trans hupd)).trans hf.none_waits) (hacts.calm hc) fun t ht _ => ?_
  have hhost : t.host (pathCode h.path) = u.host (pathCode h.path) :=
    (ht.host _).trans (State.host_of_hosts (hosts_nak hm hul _ _ _) _)
  refine ⟨⟨?_, ?_, ht.naks hend⟩, ht.onlyRegs hacts⟩
  · rw [hhost]
    exact hul
  · rw [hhost, huh, hvh]

end

/-- A command of level 0 ends the session of its path, which answers in plain (R53). -/
theorem runs_sessionLeft {h : HostHdr} {keyIndex nonce pub sig : Nat} {s : State} (hc : Calm s) (hp : pathOff s h = false)
    (hm : h.path ≠ 1) (ho : outstanding s (pathCode h.path) = 0) (hu : pausing s = false) (hd : h.dest = 0)
    (hfits : h.fits = true) (hw : s.upd.waiting = []) : Runs (.sessionOpen h 0 keyIndex nonce pub sig) s fun t =>
    (t.host (pathCode h.path)).level = 0 ∧
      (t.host (pathCode h.path)).holdEnd = (s.host (pathCode h.path)).holdEnd ∧
      t.out = s.out ++ [.frame (pathCode h.path) 0x84 h.ref (originAddr s) false []] := by
  obtain ⟨m, hpm⟩ : ∃ m, m = pathCode h.path := ⟨_, rfl⟩
  have hm10 : m ≠ 10 := hpm ▸ pathCode_ne_tunnel hm
  obtain ⟨v, hv⟩ : ∃ v, v = acceptCommand m h (if sessionOver s m then endSession m s else s) := ⟨_, rfl⟩
  have hcv : Carried m s v := by
    rw [hv]
    refine .trans ?_ (carried_acceptCommand m h _)
    split
    · exact carried_endSession m s
    · exact .refl m s
  obtain ⟨u, hu'⟩ : ∃ u, u = endSession m v := ⟨_, rfl⟩
  have hcu : Carried m s u := hu' ▸ hcv.trans (carried_endSession m v)
  have hlu : (u.host m).level = 0 := hu' ▸ level_endSession m v
  have hs : arrives (.sessionOpen h 0 keyIndex nonce pub sig) h (hostOpenNow h 0 keyIndex nonce pub sig) s =
      State.send (.frame m 0x84 h.ref (originAddr u) false []) u := by
    rw [arrives_served hp ho hu, hostOpenNow, served, hd, ← hpm, ← sendFrame_plain hm10 hlu u.aq.tunHost]
    dsimp only
    rw [if_neg fun x => x.1 rfl, sessionRefuses, if_pos rfl]
    dsimp only
    rw [← hv, admitted, hfits, Bool.not_true, if_neg Bool.false_ne_true, if_neg (by simp), if_neg (by simp),
      if_neg (Nat.not_lt_zero _), sessionOpen, if_neg (by decide), if_pos rfl, ← hu', respond]
  have hacts : Acts [] [GATE_STAT] s (State.send (.frame m 0x84 h.ref (originAddr u) false []) u) := hcu.acts
  refine runsHost_of_calm ((exec_sessionOpen ..).trans (congrArg (finishHost s) hs))
    ((congrArg Upd.waiting hcu.upd).trans hw) (hacts.calm hc) fun t ht _ => ?_
  rw [← hpm, ht.host, ht.out, ← hcu.hold, ← hcu.originAddr, ← hcu.out]
  exact ⟨hlu, rfl, rfl⟩

/-- Settles O40, a clause per lemma above; the clauses on time touch one path and no register. -/
theorem hostSessions : Obligations.HostSessions := by
  refine ⟨fun h keyIndex nonce pub sig s hc hf => ?level1, fun h keyIndex nonce pub sig s hc hf hh => ?level2,
    fun h keyIndex nonce pub sig s hc hf hh => ?held, fun h keyIndex nonce pub sig s hc hp hm ho hu hd hfits hl hst hw => ?left,
    fun h level keyIndex nonce pub sig s hc hf hlv => ?level, fun p s hc hh => ?holdOver, fun p s hc hh => ?holds,
    fun p s hc hl ho => ?ended, fun p s hc hn => ?lasts⟩
  case level1 =>
    have he : sessionOpen (pathCode h.path) h 1 keyIndex nonce pub sig s =
        openSession (pathCode h.path) h.ref 1 keyIndex nonce pub sig s := by
      unfold sessionOpen
      rw [endSession_of_none hf.level_eq, if_neg (by decide), if_neg (by decide), if_neg (fun x => absurd x.1 (by decide)),
        if_neg (fun x => absurd x.1 (by decide))]
    refine (runs_opened hf hc he).mono fun t ⟨hfresh, hothers, hanswer, _⟩ => ?_
    exact ⟨hfresh.level, hfresh.lastSeq, hfresh.txSeq, hfresh.lastCommand, hothers, hanswer⟩
  case level2 =>
    cases hp : hostProved s 2 keyIndex nonce pub sig with
    | true =>
      have he : sessionOpen (pathCode h.path) h 2 keyIndex nonce pub sig s =
          openSession (pathCode h.path) h.ref 2 keyIndex nonce pub sig s := by
        unfold sessionOpen
        rw [endSession_of_none hf.level_eq, if_neg (by decide), if_neg (by decide),
          if_neg (fun x => absurd x.2 (Nat.not_lt.2 hh)), if_neg (fun x => absurd x.2 (by simp [hp]))]
      refine (runs_opened hf hc he).mono fun t ⟨hfresh, _, hanswer, honly⟩ => ?_
      exact ⟨fun _ => ⟨hfresh.level, hfresh.prov, hanswer⟩, Bool.noConfusion, honly⟩
    | false => exact (runs_sessionUnproved hf hc hh hp).mono fun t ⟨hx, honly⟩ => ⟨Bool.noConfusion, fun _ => hx, honly⟩
  case held =>
    refine runs_sessionRefused hf hc ?_
    unfold sessionOpen
    rw [if_neg (by decide), if_neg (by decide)]
    exact if_pos ⟨rfl, hh⟩
  case left => exact runs_sessionLeft hc hp hm ho hu hd hfits hw
  case level =>
    refine (runs_sessionRefused (r := 3) (d := 0) hf hc ?_).mono fun t ⟨hn, hhosts, _⟩ => ⟨hn, hhosts⟩
    unfold sessionOpen
    exact if_pos hlv
  case holdOver =>
    have hx : exec (.authFailHoldExpiry p) s = finish s (s.modHost (pathCode p) (fun x => { x with holdEnd := 0 })) :=
      congrArg (finish s) (if_pos hh)
    refine runs_of_calm hx hc fun t ht _ => ⟨?_, ht.onlyRegs (F := []) (acts_modHost (.refl _ _ s) _ _)⟩
    rw [ht.host, State.host_modHost_same]
  case holds =>
    have hx : exec (.authFailHoldExpiry p) s = finish s s := congrArg (finish s) (if_neg (Nat.not_le.2 hh))
    exact runs_of_calm hx hc fun t ht _ => ⟨ht.hosts, ht.onlyRegs (F := []) (.refl _ _ s)⟩
  case ended =>
    have hover : sessionOver s (pathCode p) = true := by simp [sessionOver, hl, ho]
    have hx : exec (.sessionTimeout p) s = finish s (endSession (pathCode p) s) := congrArg (finish s) (if_pos hover)
    obtain ⟨hhold, hothers, hout, -, hacts⟩ := carried_endSession (pathCode p) s
    refine runs_of_calm hx (hacts.calm hc) fun t ht _ => ?_
    rw [ht.host, ht.out]
    exact ⟨level_endSession _ s, hhold, fun j hj => (ht.host j).trans (hothers j hj), hout⟩
  case lasts =>
    have hover : ¬ sessionOver s (pathCode p) = true := by simp [sessionOver, hn]
    have hx : exec (.sessionTimeout p) s = finish s s := congrArg (finish s) (if_neg hover)
    exact runs_of_calm hx hc fun t ht _ => ⟨ht.hosts, ht.onlyRegs (F := []) (.refl _ _ s)⟩

end Sys2Proof.Machine
end

section
-- Kernel evaluations in the background would each hold a thread with its stack.
set_option Elab.async false
/-! A barge that finds its queue full is counted in AQ_PCNT (R402), which the frames of these statements leave out. -/

namespace Sys2Proof.Machine
open Sys2Proof.Tests (up plainHdr)

/-- Port 3 is UP and its queue of class F is full. -/
def queueFull : State :=
  State.modPort 3 (fun x => { x with qf := List.replicate 64 (localBarge up 0x1A 0xF1 []) })
    (State.setFld (AQ_PSTAT 3) AQ_PSTAT_LSTATE 3 up)

/-- Refutes O25: the request that begins the next exchange of a link delay meets a full queue. -/
theorem not_aqueductPortsAndTime : ¬ Obligations.AqueductPortsAndTime := by
  intro ⟨_, _, _, _, _, _, _, _, h, _⟩
  obtain ⟨-, -, ho⟩ := (h 3 10 500 600 210 queueFull (by decide +kernel) (by decide +kernel) (by decide +kernel)).after
  exact not_onlyRegs_of_changed (AQ_PCNT 3) (by decide +kernel) (by decide) (by decide) (by decide) ho

/-- Module 1, with module 2 as its neighbour at port 3 and no room in that port's queue of class F. -/
def neighbourBehindFullQueue : State :=
  let s := State.setFld (AQ_PSTAT 3) AQ_PSTAT_NADDR 2 (State.setFld AQ_STAT AQ_STAT_ADDR 1
    (State.modPort 3 (fun x => { x with hello := some ⟨0, 0, 1, 0, 0, 0, 2, 0, 0, 0, 0, 0, 0, 0⟩ }) queueFull))
  { s with aq := { s.aq with lseq := 1, links := [(2, { ports := [{ naddr := 1, nport := 3, lstate := 3 }] })] } }

/-- Refutes O41: a request for the waterway that meets a full queue. -/
theorem not_hostServices : ¬ Obligations.HostServices := by
  intro ⟨_, _, _, _, _, _, _, _, _, _, _, _, _, _, _, _, h⟩
  obtain ⟨-, -, -, -, ho⟩ := (h plainHdr 2 neighbourBehindFullQueue (by decide +kernel) (by decide +kernel) (by decide +kernel)
    (by decide +kernel) (by decide +kernel) (by decide +kernel) (by decide)).after
  exact not_onlyRegs_of_changed (AQ_PCNT 3) (by decide +kernel) (by decide) (by decide) (by decide) ho

end Sys2Proof.Machine
end

section
-- Kernel evaluations in the background would each hold a thread with its stack.
set_option Elab.async false
/-! The check of the Keepers (R322): it reloads their data from flash, which a check unit may take. -/

namespace Sys2Proof.Machine
open Sys2Proof.Tests (up)

/-- Keeper 0 has a program, its budget and its sections stand in order, and the check of the Keepers is asked for. -/
def keepersAsk : State :=
  let s := State.modEng 0 (fun g => { g with present := true }) (State.setFld CHECK_EN CHECK_EN_ENABLE 0 up)
  { s with
    mem := (List.range 384).map (fun i => (flashBase + 4 + i, 0#8))
    aq := { s.aq with plan := { s.aq.plan with wlock := 10 } }
    start := { s.start with
      checkQueue := [11], pins := [], sections := [(1, 0, 0), (2, 0, 0), (13, 0, 0), (4, 0, 0), (7, 0, 0), (8, 0, 0)] } }

/-- A read of flash makes check unit 0 report a mismatch, and that the Lodge reset. -/
def reloadResets : State := State.setFld (CU_CFG 0) CU_CFG_SRC 6 (writeResets 0 keepersAsk)

/-- Refutes O43: the check that accepts the Keepers reloads the data of one, the check unit that takes the flash read
reports a fault, and the Lodge reset that follows clears ENABLE. -/
theorem not_enableAndChecks : ¬ Obligations.EnableAndChecks := by
  intro ⟨_, _, _, _, _, _, h, _⟩
  obtain ⟨hen, _⟩ := (h 11 [] reloadResets (by decide +kernel) (by decide +kernel) (by decide +kernel) (by decide +kernel)
    (by decide +kernel) (by decide +kernel) (by decide +kernel) (by decide +kernel) (by decide +kernel)
    (by decide +kernel)).after
  exact absurd hen (by decide +kernel)

end Sys2Proof.Machine
end

section
-- Kernel evaluations in the background would each hold a thread with its stack.
set_option Elab.async false
/-! The quiet point of firmware (R486, R488): the read of its slot is one that a check unit may take. -/

namespace Sys2Proof.Machine
open Sys2Proof.Tests (up)

/-- An armed update hands over firmware of 6 bytes. -/
def firmwareArmed : State :=
  let s := State.setFld UPD_STAT UPD_STAT_STATE 3 (State.setBytesLE (flashBase + basin + 20) 4 2
    (State.setBytesLE (flashBase + basin + 24) 4 0 (State.setBytesLE (flashBase + basin + 28) 4 6 up)))
  { s with upd := { s.upd with armed := some 9999999999, todo := [(2, true)] } }

/-- Refutes O50: the check unit that takes the bytes of the firmware reports a fault, and the Lodge reset that follows
ends the pause of the Warden. -/
theorem not_arming : ¬ Obligations.Arming := by
  intro ⟨_, _, _, _, _, h, _⟩
  obtain ⟨-, hpause, -⟩ := (h 9999999999 ⟨2, 0, 6, 0xFFFFFFFF, 0xFFFFFFFF, 0xFFFFFFFF⟩ []
    (State.setFld (CU_CFG 0) CU_CFG_SRC 6 (writeResets 0 firmwareArmed)) (by decide +kernel) (by decide +kernel)
    (by decide +kernel) (by decide +kernel) (by decide +kernel) (by decide +kernel) (by decide +kernel) (by decide +kernel)
    (by decide +kernel) (by decide +kernel) (by decide +kernel)).after
  exact absurd hpause (by decide +kernel)

end Sys2Proof.Machine
end

section
-- Kernel evaluations in the background would each hold a thread with its stack.
set_option Elab.async false
/-! The claim (R29, R335): what a silent die has held is reported as its bank is claimed. -/

namespace Sys2Proof.Machine
open Sys2Proof.Tests (up)

/-- The claim of every bank is due, and die 0 has held a fault. -/
def claimDue : State :=
  let s := State.modDie 0 (fun x => { x with held := [.fault 70] }) (State.setFld CHECK_START CHECK_START_STATE 4 up)
  { s with start := { s.start with trigger := 9000000000 }, banks := [] }

/-- Refutes O47: a fault that a die has held may reset the Lodge, and with it the start. -/
theorem not_claimAndLimits : ¬ Obligations.ClaimAndLimits := by
  intro ⟨h, _⟩
  obtain ⟨-, -, hms, -⟩ := (h (resetWaits claimDue) (by decide +kernel) (by decide +kernel) (by decide +kernel)
    (by decide +kernel) (by decide +kernel) (by decide +kernel)).after
  exact absurd hms (by decide +kernel)

end Sys2Proof.Machine
end

section
-- Kernel evaluations in the background would each hold a thread with its stack.
set_option Elab.async false
/-! Discovery (R412): ROOT shows the root once its candidate has stood for 10 ms. -/

namespace Sys2Proof.Machine
open Sys2Proof.Tests (up)

/-- The third step of discovery is due with a neighbour at port 3, and the candidate is this module's own and new. -/
def candidateNew : State :=
  let s := State.setFld CHECK_START CHECK_START_STATE 3 (State.setFld (AQ_PSTAT 3) AQ_PSTAT_LSTATE 3 up)
  { s with start := { s.start with disc := 2 }, aq := { s.aq with candAt := s.now } }

theorem isRoot_of_own {s : State} (h : s.aq.rootSerial = none) : isRoot s = true := by
  unfold isRoot candidate
  rw [h]
  exact beq_self_eq_true _

/-- What the third step does while the candidate is new: ROOT is not shown. -/
def rootPending (s : State) : State :=
  helloAll (State.setFlag AQ_STAT AQ_STAT_ROOT false { s with
    start := { s.start with disc := 3 }
    aq := { s.aq with rootSerial := some (candidate s).2.1, rootEn := (candidate s).1, rootHops := (candidate s).2.2 } })

theorem discover_candidateNew : discover candidateNew = rootPending candidateNew := by
  have hnew : (isRoot { candidateNew with start := { candidateNew.start with disc := 3 } } &&
      decide (candidateNew.aq.candAt + 10000000 ≤ candidateNew.now)) = false := by
    rw [(by decide +kernel : decide (candidateNew.aq.candAt + 10000000 ≤ candidateNew.now) = false), Bool.and_false]
  unfold discover
  rw [if_neg (by decide +kernel)]
  extract_lets n t
  rw [if_neg (by decide +kernel), if_neg (by decide +kernel)]
  exact congrArg (fun b => helloAll (State.setFlag AQ_STAT AQ_STAT_ROOT b { candidateNew with
    start := { candidateNew.start with disc := 3 }
    aq := { candidateNew.aq with
      rootSerial := some (candidate candidateNew).2.1, rootEn := (candidate candidateNew).1
      rootHops := (candidate candidateNew).2.2 } })) hnew

/-- Refutes O48: a module that is its own candidate for less than 10 ms is root by that candidate, and does not show ROOT. -/
theorem not_discoverySteps : ¬ Obligations.DiscoverySteps := by
  intro ⟨_, _, h, _⟩
  obtain ⟨-, -, -, hroot⟩ := (h 3 candidateNew (by decide +kernel) (by decide +kernel) (by decide +kernel)
    (by decide +kernel) (by decide +kernel) (by decide +kernel) (by decide +kernel)).after
  have hs : Settled candidateNew (rootPending candidateNew) (stateAfter .discovery candidateNew) :=
    settled_stateAfter (congrArg (finish candidateNew) discover_candidateNew) (by decide +kernel)
  rw [isRoot_of_own (by decide +kernel), hs.fld] at hroot
  exact absurd hroot (by decide +kernel)

end Sys2Proof.Machine
end

section
/-! Wakes, the wake timer and power requests (R341 to R348). -/

namespace Sys2Proof.Machine

theorem Settled.pow {s u t : State} (h : Settled s u t) : t.pow = u.pow := by rw [h.frame]

theorem State.fld_of_regs {s t : State} (h : t.regs = s.regs) (a : Nat) (f : Fld) : t.fld a f = s.fld a f := by
  unfold State.fld State.reg
  rw [h]

/-- An effect shows in the registers and reports alone. -/
theorem Acts.of_same {F l : List Nat} {s t u : State} (h : Acts F l s t) (hr : u.regs = t.regs) (hp : u.rep = t.rep)
    (hn : u.now = t.now) : Acts F l s u := by
  obtain ⟨ho, hc, hf, hlater, hdue⟩ := h
  refine ⟨fun a hl hra hna => ?_, fun hF hs => ?_, fun n hx => hf n (hp ▸ hx), hn.trans hlater, fun hs => ?_⟩
  · unfold State.reg
    rw [hr]
    exact ho a hl hra hna
  · unfold Calm
    rw [hp]
    exact hc hF hs
  · unfold resetOverdue
    rw [hp, hn]
    exact hdue hs

/-! ### Events that wait for the Lodge -/

theorem acts_lateEv {F l : List Nat} {s t : State} (h : Acts F l s t) {n : Nat} (i : Nat) (hn : n < 256) :
    Acts F l s (lateEv n i t) := by
  unfold lateEv
  split
  · exact h
  · exact acts_raiseEv h i hn

theorem start_lateEv (n i : Nat) (s : State) : (lateEv n i s).start = s.start := by
  unfold lateEv
  split <;> rfl

theorem acts_endHoldoff {F l : List Nat} {s t : State} (h : Acts F l s t) (hl : NETPM_STAT ∈ l) :
    Acts F l s (endHoldoff t) := by
  unfold endHoldoff
  split
  · obtain ⟨u, hu⟩ : ∃ u, u = State.setFlag NETPM_STAT NETPM_STAT_HOLDOFF_ACT false t := ⟨_, rfl⟩
    have h1 : Acts F l s u := hu ▸ acts_setFlag h _ _ hl
    rw [← hu]
    exact acts_lateEv (t := { u with net := { u.net with holdEnd := none } }) h1 _ (by decide)
  · exact h

theorem start_endHoldoff (s : State) : (endHoldoff s).start = s.start := by
  unfold endHoldoff
  split
  · rw [start_lateEv]
    rfl
  · rfl

theorem acts_takePending {F l : List Nat} {s t : State} (h : Acts F l s t) (hl : POWER_STAT ∈ l) :
    Acts F l s (takePending t).2 := by
  unfold takePending
  split
  · exact acts_setFlag (acts_setFld h POWER_STAT_PEND_TGT 0 hl) POWER_STAT_PEND false hl
  · exact h

theorem start_takePending (s : State) : (takePending s).2.start = s.start := by
  unfold takePending
  split <;> rfl

/-- What was pending is taken, and a request that was is reported as dropped. -/
def pendingDropped (s : State) : State :=
  match (takePending s).1 with
  | some st => lateEv 249 st (takePending s).2
  | none => (takePending s).2

theorem acts_pendingDropped {F l : List Nat} {s t : State} (h : Acts F l s t) (hl : POWER_STAT ∈ l) :
    Acts F l s (pendingDropped t) := by
  unfold pendingDropped
  split
  · exact acts_lateEv (acts_takePending h hl) _ (by decide)
  · exact acts_takePending h hl

theorem start_pendingDropped (s : State) : (pendingDropped s).start = s.start := by
  unfold pendingDropped
  split
  · rw [start_lateEv, start_takePending]
  · exact start_takePending s

/-! ### A wake from low power -/

/-- The word that a wake stores in WAKE_SOURCE. -/
def wakeWord (kind index : Nat) (multi : Bool) : Word :=
  fput WAKE_SOURCE_INDEX index (fput WAKE_SOURCE_MULTI (b2n multi) (fput WAKE_SOURCE_KIND kind 0#32))

/-- The wake is recorded, and the hold-off ended by it. -/
def wakeNoted (kind index : Nat) (multi : Bool) (s : State) : State :=
  endHoldoff { State.setReg WAKE_SOURCE (wakeWord kind index multi) s with net := { s.net with
    holdOver := if holdoffOn s then some s.now else s.net.holdOver } }

/-- The module's state is Run again. -/
def wakeRuns (s : State) : State :=
  State.setFlag POWER_STAT POWER_STAT_TRANS false (State.setFld POWER_STAT POWER_STAT_STATE 0 (pendingDropped s))

/-- What a wake leaves behind of `s`. -/
structure Woken (kind index : Nat) (multi : Bool) (s t : State) : Prop where
  source : t.reg WAKE_SOURCE = wakeWord kind index multi
  state : t.fld POWER_STAT POWER_STAT_STATE = 0
  down : t.start.lodgeDown = true
  warm : t.start.warmNext = (s.fld POWER_STAT POWER_STAT_STATE == 2 && s.start.warmValid)

theorem Settled.woken {kind index : Nat} {multi : Bool} {s s' u t : State} (h : Settled s u t)
    (hw : Woken kind index multi s' u) : Woken kind index multi s' t := by
  obtain ⟨hsrc, hst, hd, hwarm⟩ := hw
  exact ⟨(h.regs _ (by decide) (by decide)).trans hsrc, (h.fld _).trans hst, h.start ▸ hd, h.start ▸ hwarm⟩

theorem doWake_wakes (kind index : Nat) (multi : Bool) {s : State} (hc : Calm s) :
    Woken kind index multi s (doWake kind index multi s) ∧ Calm (doWake kind index multi s) := by
  obtain ⟨a, ha⟩ : ∃ a, a = wakeNoted kind index multi s := ⟨_, rfl⟩
  obtain ⟨b, hb⟩ : ∃ b, b = wakeRuns a := ⟨_, rfl⟩
  have hnote : Acts [] [NETPM_STAT, WAKE_SOURCE] s a := by
    rw [ha]
    exact acts_endHoldoff (acts_setReg (.refl _ _ s) _ (by simp)) (by simp)
  have hruns : Acts [] [NETPM_STAT, POWER_STAT] a b := by
    rw [hb]
    exact acts_setFlag (acts_setFld (acts_pendingDropped (.refl _ _ a) (by simp)) _ _ (by simp)) _ _ (by simp)
  have hstart : b.start = s.start := by
    rw [hb]
    refine (start_pendingDropped a).trans ?_
    rw [ha]
    exact start_endHoldoff _
  have hsrc : a.reg WAKE_SOURCE = wakeWord kind index multi := by
    have h : Acts [] [NETPM_STAT] (State.setReg WAKE_SOURCE (wakeWord kind index multi) s) a := by
      rw [ha]
      exact acts_endHoldoff (.refl _ _ _) (by simp)
    rw [h.reg, State.reg_setReg_same]
  have hcb : Calm b := hruns.calm (hnote.calm hc)
  have hend : doWake kind index multi s = { b with
      pow := (doWake kind index multi s).pow, net := (doWake kind index multi s).net
      inputs := (doWake kind index multi s).inputs, start := (doWake kind index multi s).start } := by
    rw [hb, ha]
    rfl
  have hwarm : (doWake kind index multi s).start.warmNext = (powState a == 2 && b.start.warmValid) := by
    rw [hb, ha]
    rfl
  refine ⟨⟨?_, ?_, rfl, ?_⟩, ?_⟩
  · rw [hend]
    exact (hruns.reg (by decide)).trans hsrc
  · have hst : b.fld POWER_STAT POWER_STAT_STATE = 0 := by
      rw [hb, wakeRuns, State.setFlag, State.fld_setFld_field _ _ _ _ _ (by decide), State.fld_setFld_same _ _ _ _ (by decide)]
      rfl
    rw [hend]
    exact hst
  · rw [hwarm, hstart]
    unfold powState
    rw [hnote.fld]
  · rw [hend]
    exact hcb

theorem wakeEvent_of_lowPower {s : State} (h : lowPower s = true) (kind index : Nat) (multi : Bool) :
    wakeEvent kind index multi s = doWake kind index multi s := if_pos h

theorem fld_latchWkf (n : Nat) (s : State) {a : Nat} (f : Fld) (h : a ≠ NETPM_XCV n) : (latchWkf n s).fld a f = s.fld a f := by
  rw [latchWkf, State.setFlag, State.fld_setFld_other _ _ _ _ h]
  rfl

section
variable {n : Nat} (s : State) (hn : n < 18)
include hn

theorem lowPower_latchWkf : lowPower (latchWkf n s) = lowPower s := by
  unfold lowPower
  rw [fld_latchWkf n s _ (by unfold POWER_STAT NETPM_XCV; omega)]

theorem suppressed_latchWkf (c : Nat) : suppressed (latchWkf n s) c = suppressed s c := by
  unfold suppressed holdoffOn State.flag
  rw [fld_latchWkf n s _ (by unfold NETPM_STAT NETPM_XCV; omega), fld_latchWkf n s _ (by unfold NETPM_STAT NETPM_XCV; omega)]
  rfl

theorem Woken.of_latchWkf {kind index : Nat} {multi : Bool} {s t : State} (h : Woken kind index multi (latchWkf n s) t) :
    Woken kind index multi s t := by
  obtain ⟨hsrc, hst, hd, hwarm⟩ := h
  refine ⟨hsrc, hst, hd, ?_⟩
  rw [hwarm, fld_latchWkf n s _ (by unfold POWER_STAT NETPM_XCV; omega)]
  rfl

end

/-- In low power a wake on a transceiver changes nothing but its flag before it wakes the module. -/
theorem runWake_of_lowPower {s : State} (h : lowPower s = true) (n kind : Nat) : runWake n kind s = s := by
  have h2 : (powState s < 2 : Bool) = false := by
    unfold lowPower at h
    unfold powState
    simp only [decide_eq_true_eq] at h
    simp only [decide_eq_false_iff_not]
    omega
  unfold runWake
  rw [h2]
  rfl

theorem canBeWoken_of_lowPower {s : State} (h : lowPower s = true) : canBeWoken s = true := by
  unfold canBeWoken
  rw [h]
  rfl

/-- A listed wake on a transceiver that is not held back wakes the module (R347, R385). -/
theorem xcvWakeIn_wakes {n kind i : Nat} {multi : Bool} {s : State} (hn : n < 18) (hl : lowPower s = true)
    (hi : i = if n < 6 then n else n - 6) (hlist : wakeListed s kind i = true) (hs : n < 6 → suppressed s i = false) :
    xcvWakeIn n kind multi s = doWake kind i multi (latchWkf n s) := by
  have hlu : lowPower (latchWkf n s) = true := (lowPower_latchWkf s hn).trans hl
  unfold xcvWakeIn
  dsimp only
  rw [← hi, canBeWoken_of_lowPower hl, hlist, runWake_of_lowPower hlu]
  split
  · rename_i hx
    exact absurd hx (by decide)
  · split
    · rename_i h6
      rw [canWake, suppressed_latchWkf s hn, hs h6, wakeEvent_of_lowPower hlu]
      rfl
    · exact wakeEvent_of_lowPower hlu kind i multi

/-- A listed wake wakes a module in low power, from the state as it is or with the flag of a transceiver set. -/
theorem wakeArrives_wakes {kind : Fin 16} {index : Nat} {multi : Bool} {s : State} (hl : lowPower s = true)
    (hlist : wakeListed s kind index = true) (h8 : kind.val ≠ 8)
    (hcan : kind.val = 2 ∨ kind.val = 3 → index < 6 ∧ suppressed s index = false)
    (hsel : kind.val = 2 → selectiveOn s index = false) (hlin : kind.val = 4 → index < 12) :
    wakeArrives kind index multi s = doWake kind index multi s ∨
      ∃ n < 18, wakeArrives kind index multi s = doWake kind index multi (latchWkf n s) := by
  unfold wakeArrives
  rw [canBeWoken_of_lowPower hl, hlist, if_neg (by simpa using h8), if_neg (fun x => by simp [hsel x.1] at x)]
  by_cases h23 : kind.val = 2 ∨ kind.val = 3
  · obtain ⟨h6, hs⟩ := hcan h23
    have hx : wakeXcv kind index = some index := if_pos ⟨h23, h6⟩
    rw [hx]
    exact .inr ⟨index, by omega, xcvWakeIn_wakes (by omega) hl (if_pos h6).symm hlist fun _ => hs⟩
  · by_cases h4 : kind.val = 4
    · have h12 := hlin h4
      have hx : wakeXcv kind index = some (6 + index) := (if_neg fun x => h23 x.1).trans (if_pos ⟨h4, h12⟩)
      rw [hx]
      refine .inr ⟨6 + index, by omega, xcvWakeIn_wakes (by omega) hl ?_ hlist fun x => absurd x (by omega)⟩
      rw [if_neg (by omega), Nat.add_sub_cancel_left]
    · have hx : wakeXcv kind index = none := (if_neg fun x => h23 x.1).trans (if_neg fun x => h4 x.1)
      rw [hx]
      refine .inl ((if_neg ?_).trans (wakeEvent_of_lowPower hl kind index multi))
      rintro (h | h | h)
      · exact h23 (.inl h)
      · exact h23 (.inr h)
      · exact h4 h

theorem acts_latchWkf {n : Nat} (hn : n < 18) (s : State) : Acts [] ((List.range 18).map NETPM_XCV) s (latchWkf n s) := by
  obtain ⟨v, hv⟩ : ∃ v, v = setWoken n true s := ⟨_, rfl⟩
  have h : Acts [] ((List.range 18).map NETPM_XCV) s v := by
    rw [hv]
    exact .refl _ _ s
  rw [latchWkf, ← hv]
  exact acts_setFlag h _ _ (List.mem_map.2 ⟨n, List.mem_range.2 hn, rfl⟩)

theorem runs_wake {kind : Fin 16} {index : Nat} {multi : Bool} {s : State} (hc : Calm s) (hl : lowPower s = true)
    (hlist : wakeListed s kind index = true) (h8 : kind.val ≠ 8)
    (hcan : kind.val = 2 ∨ kind.val = 3 → index < 6 ∧ suppressed s index = false)
    (hsel : kind.val = 2 → selectiveOn s index = false) (hlin : kind.val = 4 → index < 12) :
    Runs (.wake kind index multi) s (Woken kind index multi s) := by
  rcases wakeArrives_wakes hl hlist h8 hcan hsel hlin with hx | ⟨n, hn, hx⟩
  · obtain ⟨hw, hcalm⟩ := doWake_wakes kind index multi hc
    exact runs_of_calm (congrArg (finish s) hx) hcalm fun t ht _ => ht.woken hw
  · obtain ⟨hw, hcalm⟩ := doWake_wakes kind index multi ((acts_latchWkf hn s).calm hc)
    exact runs_of_calm (congrArg (finish s) hx) hcalm fun t ht _ => ht.woken (hw.of_latchWkf hn)

/-! ### The word of WAKE_SOURCE -/

theorem wakeWord_kind {kind : Nat} (h : kind < 16) (index : Nat) (multi : Bool) :
    fget WAKE_SOURCE_KIND (wakeWord kind index multi) = kind := by
  rw [wakeWord, fget_fput_other _ _ _ _ (by decide), fget_fput_other _ _ _ _ (by decide), fget_fput_same _ _ _ (by decide)]
  exact Nat.mod_eq_of_lt h

theorem wakeWord_index (kind : Nat) {index : Nat} (h : index < 2 ^ 16) (multi : Bool) :
    fget WAKE_SOURCE_INDEX (wakeWord kind index multi) = index := by
  rw [wakeWord, fget_fput_same _ _ _ (by decide)]
  exact Nat.mod_eq_of_lt h

theorem wakeWord_multi (kind index : Nat) (multi : Bool) :
    fget WAKE_SOURCE_MULTI (wakeWord kind index multi) = b2n multi := by
  rw [wakeWord, fget_fput_other _ _ _ _ (by decide), fget_fput_same _ _ _ (by decide)]
  cases multi <;> rfl

/-! ### Power requests over the waterway -/

section
variable {s : State} (h : Calm s)
include h

theorem calm_queueBarge (p : Nat) (b : Barge) : Calm (queueBarge p b s) := by
  unfold queueBarge
  dsimp only
  split <;> split
  · exact raiseEv_calm _ _ _ h
  all_goals exact h

theorem calm_routeBarge (b : Barge) : Calm (routeBarge b s) := by
  unfold routeBarge
  split
  · exact calm_queueBarge h _ b
  · exact raiseEv_calm _ _ _ h

theorem calm_spreadBarge (b : Barge) (skip : Option Nat) : Calm (spreadBarge b skip s) := by
  unfold spreadBarge
  refine List.foldlRecOn _ _ (motive := Calm) h fun u hu p _ => ?_
  split
  · exact calm_queueBarge hu p b
  · exact hu

theorem calm_sendBarge (b : Barge) : Calm (sendBarge b s) := by
  unfold sendBarge
  dsimp only
  split
  · exact h
  · split
    · exact calm_routeBarge (s := (withSeq b s).2) h _
    · exact calm_spreadBarge (s := (withSeq b s).2) h _ _

end

theorem pow_queueBarge (p : Nat) (b : Barge) (s : State) : (queueBarge p b s).pow = s.pow := by
  unfold queueBarge
  dsimp only
  split <;> split <;> rfl

theorem pow_routeBarge (b : Barge) (s : State) : (routeBarge b s).pow = s.pow := by
  unfold routeBarge
  split
  · exact pow_queueBarge _ b s
  · rfl

theorem pow_spreadBarge (b : Barge) (skip : Option Nat) (s : State) : (spreadBarge b skip s).pow = s.pow := by
  unfold spreadBarge
  refine List.foldlRecOn _ _ (motive := fun u : State => u.pow = s.pow) rfl fun u hu p _ => ?_
  split
  · exact (pow_queueBarge p b u).trans hu
  · exact hu

theorem pow_sendBarge (b : Barge) (s : State) : (sendBarge b s).pow = s.pow := by
  unfold sendBarge
  dsimp only
  split
  · rfl
  · split
    · exact pow_routeBarge _ (withSeq b s).2
    · exact pow_spreadBarge _ _ (withSeq b s).2

theorem pow_raiseEvRec (n i : Nat) (d : List Nat) (s : State) : (raiseEvRec n i d s).pow = s.pow := by
  unfold raiseEvRec
  dsimp only
  split <;> rfl

theorem acts_raiseEvRec {F l : List Nat} {s t : State} (h : Acts F l s t) {n : Nat} (i : Nat) (d : List Nat) (hn : n < 256) :
    Acts F l s (raiseEvRec n i d t) := by
  have h1 : Acts F l s (raiseEvData n i d t) := acts_raiseEvData h i d hn
  unfold raiseEvRec
  dsimp only
  split
  · exact h1
  · exact acts_logOther h1 _

/-- A request for a state that is neither held back nor taken begins its transition (R341). -/
theorem requestState_starts {st : Nat} {s : State} (ht : inTrans s = false) (hst : st ≠ powState s) :
    requestState st s = startTransition st s := by
  unfold requestState
  rw [ht, if_neg Bool.false_ne_true, if_neg hst]

theorem acts_startTransition (F : List Nat) (st : Nat) (s : State) : Acts F [POWER_STAT] s (startTransition st s) := by
  obtain ⟨u, hu⟩ : ∃ u, u = State.setFlag POWER_STAT POWER_STAT_TRANS true
    (State.setFld POWER_STAT POWER_STAT_TARGET st s) := ⟨_, rfl⟩
  have h : Acts F [POWER_STAT] s u := hu ▸ acts_setFlag (acts_setFld (.refl _ _ s) _ _ (by simp)) _ _ (by simp)
  unfold startTransition
  rw [← hu]
  exact h.of_same rfl rfl rfl

theorem fld_startTransition (st : Nat) (s : State) (f : Fld) : (startTransition st s).fld POWER_STAT f =
    (State.setFlag POWER_STAT POWER_STAT_TRANS true (State.setFld POWER_STAT POWER_STAT_TARGET st s)).fld POWER_STAT f :=
  State.fld_of_regs rfl _ f

theorem inTrans_startTransition (st : Nat) (s : State) : inTrans (startTransition st s) = true := by
  unfold inTrans State.flag
  rw [fld_startTransition, State.fld_setFlag_same _ _ _ _ (by decide) (by decide)]
  rfl

theorem target_startTransition {st : Nat} (h : st < 4) (s : State) :
    (startTransition st s).fld POWER_STAT POWER_STAT_TARGET = st := by
  rw [fld_startTransition, State.setFlag, State.fld_setFld_field _ _ _ _ _ (by decide),
    State.fld_setFld_same _ _ _ _ (by decide)]
  exact Nat.mod_eq_of_lt h

/-- Settles O23, the wakes by `doWake_wakes`; a forwarded request is answered by a barge, which leaves requests alone. -/
theorem wakesAndRequests : Obligations.WakesAndRequests := by
  refine ⟨fun kind index multi s hc hl hlist h8 hcan hsel hlin hi => ?wake, fun s hc hl hn he => ?timer,
    fun st reqId origin ap s hc hst => ?request, fun reqId origin ap s hc => ?ack,
    fun w st s hc ha hw hh ht hne h4 => ?due, fun s hc => ?late⟩
  case wake =>
    refine (runs_wake hc hl hlist h8 hcan hsel hlin).mono fun t ⟨hsrc, hst, hd, hwarm⟩ => ?_
    unfold State.fld at hst hwarm ⊢
    rw [hsrc]
    exact ⟨wakeWord_kind kind.isLt _ _, wakeWord_index _ (by omega) _, wakeWord_multi _ _ _, hst, hd, hwarm⟩
  case timer =>
    obtain ⟨hw, hcalm⟩ := doWake_wakes 7 0 false hc
    have hx : exec .wakeTimer s = finish s (doWake 7 0 false s) :=
      congrArg (finish s) ((if_pos ⟨.inl hl, hn, he⟩).trans (wakeEvent_of_lowPower hl 7 0 false))
    refine runs_of_calm hx hcalm fun t ht _ => ?_
    obtain ⟨hsrc, hst, -, -⟩ := ht.woken hw
    refine ⟨?_, hst⟩
    unfold State.fld
    rw [hsrc]
    exact wakeWord_kind (by decide) _ _
  case request =>
    obtain ⟨u, hu⟩ : ∃ u, u = { s with pow := { s.pow with apply := s.pow.apply ++ [(ap, st)] } } := ⟨_, rfl⟩
    have hcu : Calm u := hu ▸ hc
    have hx : exec (.powerBargeReceive st reqId origin ap) s =
        finish s (sendBarge (mkBarge u 1 0 3 origin 0xF2 (powerPayload 0xFF reqId origin ap)) u) := by
      refine congrArg (finish s) ?_
      unfold powerArrives
      rw [if_neg (by omega), if_neg (by omega), hu]
    refine runs_of_calm hx (calm_sendBarge hcu _) fun t ht _ => ?_
    rw [ht.pow, pow_sendBarge, hu]
  case ack =>
    refine runs_of_calm (u := { s with pow := { s.pow with
      ackWait := s.pow.ackWait.filter (fun a => !(a.1 == origin && a.2.1 == reqId)) } }) rfl hc fun t ht _ => ?_
    rw [ht.pow]
    exact ⟨rfl, rfl, ht.onlyRegs (F := []) (.refl _ _ s)⟩
  case due =>
    obtain ⟨u, hu⟩ : ∃ u, u = { s with pow := { s.pow with apply := [] } } := ⟨_, rfl⟩
    have happ : applies s (w, st) = true := by simp [applies, hw, hh]
    have hx : exec .powerApplyTime s = finish s (startTransition st u) := by
      refine congrArg (finish s) ?_
      have hdue : s.pow.apply.filter (applies s) = [(w, st)] := by
        rw [ha]
        exact List.filter_cons_of_pos happ
      have hrest : s.pow.apply.filter (fun e => !applies s e) = [] := by
        rw [ha]
        exact List.filter_cons_of_neg (by simp [happ])
      unfold applyDue
      rw [hdue, hrest, ← hu]
      exact requestState_starts (hu ▸ ht) (hu ▸ hne)
    have hacts : Acts [] [POWER_STAT] s (startTransition st u) := by
      have h := acts_startTransition [] st u
      rw [hu] at h ⊢
      exact h
    refine runs_of_calm hx (hacts.calm hc) fun t hs _ => ⟨?_, ?_, ?_, hs.onlyRegs hacts⟩
    · rw [hs.pow, hu]
      rfl
    · exact (hs.flag _).trans (inTrans_startTransition st u)
    · exact (hs.fld _).trans (target_startTransition h4 u)
  case late =>
    obtain ⟨u, hu⟩ : ∃ u, u = { s with pow := { s.pow with
      ackWait := s.pow.ackWait.filter (fun a => decide (s.now < a.2.2)) } } := ⟨_, rfl⟩
    have hx : exec .powerAckTimeout s = finish s ((s.pow.ackWait.filter (fun a => decide (a.2.2 ≤ s.now))).foldl
        (fun t a => raiseEvRec 251 a.1 [a.1] t) u) := by
      rw [hu]
      rfl
    have hacts := acts_foldl (F := []) (l := []) (s := s) (t := u) (g := fun t a => raiseEvRec 251 a.1 [a.1] t)
      (s.pow.ackWait.filter (fun a => decide (a.2.2 ≤ s.now))) (fun _ _ _ h => acts_raiseEvRec h _ _ (by decide))
      (hu ▸ .refl _ _ s)
    have hpow := List.foldlRecOn (s.pow.ackWait.filter (fun a => decide (a.2.2 ≤ s.now)))
      (fun t a => raiseEvRec 251 a.1 [a.1] t) (motive := fun t : State => t.pow = u.pow) (rfl : u.pow = u.pow)
      fun t ht a _ => (pow_raiseEvRec _ _ _ t).trans ht
    refine runs_of_calm hx (hacts.calm hc) fun t ht _ => ?_
    have hwait : t.pow.ackWait = s.pow.ackWait.filter (fun a => decide (s.now < a.2.2)) := by
      rw [ht.pow, hpow, hu]
    refine ⟨hwait, fun a _ hd => ?_, ht.onlyRegs hacts⟩
    rw [hwait, List.mem_filter]
    rintro ⟨-, hn⟩
    exact absurd (of_decide_eq_true hn) (Nat.not_lt.2 hd)

end Sys2Proof.Machine
end

section
/-! Luminance loops and the Trellis (R218 to R231). -/

namespace Sys2Proof.Machine

/-! ### Fields and bits -/

/-- A field written with what it holds. -/
theorem fput_fget (f : Fld) (v : Word) : fput f (fget f v) v = v := by
  unfold fput fget fmask
  rw [BitVec.ofNat_toNat, BitVec.setWidth_eq]
  apply BitVec.eq_of_getLsbD_eq
  intro i hi
  by_cases h1 : i < f.lo
  · simp [hi, h1]
  · by_cases h2 : i - f.lo < f.w
    · simp [hi, h1, h2, Nat.add_sub_cancel' (Nat.not_lt.1 h1)]
    · simp [hi, h1, h2]

theorem b2n_fget_eq (f : Fld) (hw : f.w = 1) (v : Word) : b2n (fget f v == 1) = fget f v := by
  have h := fget_lt f v
  rw [hw] at h
  rcases (by omega : fget f v = 0 ∨ fget f v = 1) with h | h <;> rw [h] <;> rfl

/-- A flag written with what it shows leaves its register. -/
theorem State.reg_setFlag_self (s : State) (a : Nat) (f : Fld) (hw : f.w = 1) (b : Nat) :
    (State.setFlag a f (s.fld a f == 1) s).reg b = s.reg b := by
  by_cases h : b = a
  · subst h
    unfold State.setFlag State.setFld
    rw [State.reg_setReg_same, State.fld, b2n_fget_eq f hw, fput_fget]
  · exact State.reg_setFld_other s f _ h

theorem testBit_clrBitN (x i j : Nat) : (clrBitN x i).testBit j = (x.testBit j && decide (i ≠ j)) := by
  unfold clrBitN
  rw [bitOf_eq_testBit]
  by_cases hb : x.testBit i = true
  · rw [if_pos hb]
    have h2 := Nat.two_pow_pos i
    have hge : 2 ^ i ≤ x := Nat.ge_two_pow_of_testBit hb
    have hodd : x / 2 ^ i % 2 = 1 := by
      rw [Nat.testBit_eq_decide_div_mod_eq] at hb
      exact of_decide_eq_true hb
    have hdiv : x / 2 ^ i = (x - 2 ^ i) / 2 ^ i + 1 := by
      rw [← Nat.add_div_right _ h2, Nat.sub_add_cancel hge]
    have hclear : (x - 2 ^ i).testBit i = false := by
      rw [Nat.testBit_eq_decide_div_mod_eq, decide_eq_false_iff_not]
      omega
    have hx : x = setBitN (x - 2 ^ i) i := by
      unfold setBitN
      rw [bitOf_eq_testBit, hclear, if_neg Bool.false_ne_true, Nat.sub_add_cancel hge]
    by_cases hij : i = j
    · subst hij
      simp [hclear]
    · have h := testBit_setBitN (x - 2 ^ i) i j
      rw [← hx] at h
      simp [h, hij]
  · have hb0 : x.testBit i = false := by simpa using hb
    rw [if_neg hb]
    by_cases hij : i = j
    · subst hij
      simp [hb0]
    · simp [hij]

/-- LCLR with no veto releases one line after the other. -/
theorem testBit_clearedLines (l n j : Nat) :
    ((List.range n).foldl (fun x k => if bitOf l k && !bitOf 0 k then clrBitN x k else x) l).testBit j =
      (l.testBit j && decide (n ≤ j)) := by
  induction n with
  | zero => simp
  | succ n ih =>
    rw [List.range_succ, List.foldl_append, List.foldl_cons, List.foldl_nil]
    by_cases hb : l.testBit n = true
    · rw [if_pos (by rw [bitOf_eq_testBit, hb, bitOf_eq_testBit, Nat.zero_testBit]; rfl), testBit_clrBitN, ih]
      rw [Bool.and_assoc, ← Bool.decide_and]
      exact congrArg (l.testBit j && ·) (decide_eq_decide.2 (by omega))
    · rw [if_neg (by rw [bitOf_eq_testBit]; simp [hb]), ih]
      by_cases hj : l.testBit j = true
      · have hne : n ≠ j := fun e => hb (e ▸ hj)
        rw [hj]
        exact congrArg (true && ·) (decide_eq_decide.2 (by omega))
      · simp [hj]

theorem clearedLines_eq {l : Nat} (hl : l < 2 ^ 16) :
    (List.range 16).foldl (fun x k => if bitOf l k && !bitOf 0 k then clrBitN x k else x) l = 0 := by
  refine Nat.eq_of_testBit_eq fun j => ?_
  rw [testBit_clearedLines, Nat.zero_testBit]
  by_cases hj : 16 ≤ j
  · rw [Nat.testBit_lt_two_pow (Nat.lt_of_lt_of_le hl (Nat.pow_le_pow_right (by decide) hj))]
    rfl
  · simp [hj]

/-! ### Sources and loops -/

theorem State.source_modSource_same (i : Nat) (f : Source → Source) (s : State) :
    (State.modSource i f s).source i = f (s.source i) := Tab.get_mod_same _ _ _ _

theorem State.source_modSource_other {i j : Nat} (f : Source → Source) (s : State) (h : j ≠ i) :
    (State.modSource i f s).source j = s.source j := Tab.get_mod_other _ _ _ h

theorem Settled.source {s u t : State} (h : Settled s u t) (i : Nat) : t.source i = u.source i := by
  rw [h.frame]
  rfl

theorem Settled.trellis {s u t : State} (h : Settled s u t) : t.trellis = u.trellis := by rw [h.frame]

/-- The last step of a tick uses every reading up. -/
theorem readings_used (n : Nat) (s : State) {i : Nat} (hi : i < n) :
    (((List.range n).foldl (fun t i => State.modSource i (fun x => { x with reading := none }) t) s).source i).reading = none := by
  induction n with
  | zero => omega
  | succ n ih =>
    rw [List.range_succ, List.foldl_append, List.foldl_cons, List.foldl_nil]
    by_cases h : i = n
    · subst h
      rw [State.source_modSource_same]
    · rw [State.source_modSource_other _ _ h]
      exact ih (by omega)

theorem calm_foldl {β : Type} {g : State → β → State} (L : List β) {s : State} (h : Calm s)
    (hg : ∀ u, ∀ x ∈ L, Calm u → Calm (g u x)) : Calm (L.foldl g s) :=
  List.foldlRecOn L g (motive := Calm) h fun u hu x hx => hg u x hx hu

section
variable {s : State} (h : Calm s)
include h

theorem calm_setSnsf (i : Nat) (b : Bool) : Calm (setSnsf i b s) := by
  unfold setSnsf
  refine calm_foldl _ h fun u l _ hu => ?_
  split
  · exact hu
  · exact hu

theorem calm_sourceTick (i : Nat) : Calm (sourceTick i s) := by
  unfold sourceTick
  dsimp only
  split
  · exact h
  split
  · split
    · exact dieEv_calm _ _ _ _ (calm_setSnsf (s := State.modSource i (fun x => { x with fault := true })
        (State.modSource i (fun x => { x with bad := (s.source i).bad + 1, good := 0 }) s)) h i true)
    · exact h
  · split
    · exact calm_setSnsf (s := State.modSource i (fun x => { x with fault := false })
        (State.modSource i (fun x => { x with good := (s.source i).good + 1, bad := 0 }) s)) h i false
    · exact h

theorem calm_ltRelevel (k : Nat) : Calm (ltRelevel k s) := by
  unfold ltRelevel
  split
  · exact h
  · exact h

theorem calm_loopMember (l m k : Nat) (r : Nat × Nat × Nat) : Calm (loopMember l m k r s) := by
  unfold loopMember
  extract_lets a g lvl ksh t new atLimit g' sat was u u2 u3 u4
  have hu : Calm u := by
    unfold u
    split
    · exact h
    · exact h
  have hu3 : Calm u3 := by
    unfold u3
    split
    · exact hu
    · exact hu
  have hu4 : Calm u4 := calm_ltRelevel hu3 k
  split
  · exact dieEv_calm _ _ _ _ hu4
  · exact hu4

theorem calm_loopTick (l : Nat) : Calm (loopTick l s) := by
  unfold loopTick
  extract_lets ms src
  split
  · exact calm_foldl _ h fun _ _ _ hu => hu
  · split
    · exact calm_foldl _ h fun _ _ _ hu => hu
    · refine calm_foldl _ h fun u e _ hu => ?_
      split
      · exact hu
      · exact calm_loopMember hu ..

end

theorem State.fld_setFlag_field (s : State) (a : Nat) (f g : Fld) (b : Bool)
    (h : g.lo + g.w ≤ f.lo ∨ f.lo + f.w ≤ g.lo) : (State.setFlag a f b s).fld a g = s.fld a g :=
  State.fld_setFld_field s a f g _ h

theorem photodiode_reads {p : Fin 4} {val : Nat} {s : State} (hc : Calm s) (hv : val < 10000000) :
    Runs (.photodiodeIntegration p val) s fun t =>
      t.fld (PD_VAL p) PD_VAL_VAL = val ∧ t.fld (PD_VAL p) PD_VAL_RANGE = pdRange val ∧
        t.fld (PD_VAL p) PD_VAL_OVR = 0 ∧ (t.source p).reading = some (val, 0, 0) ∧ OnlyRegs [PD_VAL p] s t := by
  obtain ⟨u, hu⟩ : ∃ u, u = State.setFld (PD_VAL p) PD_VAL_VAL val (State.setFld (PD_VAL p) PD_VAL_RANGE (pdRange val)
    (State.setFlag (PD_VAL p) PD_VAL_OVR false s)) := ⟨_, rfl⟩
  have hx : exec (.photodiodeIntegration p val) s =
      finish s (State.modSource p (fun x => { x with reading := some (val, 0, 0) }) u) := by
    refine congrArg (finish s) ?_
    have hclamp : clampN 0 0xFFFFFF val = val := by
      unfold clampN
      rw [if_neg (Nat.not_lt_zero _), if_neg (by omega)]
    unfold photodiode
    rw [hclamp, decide_eq_false (Nat.not_le.2 hv), hu]
  have hacts : Acts [] [PD_VAL p] s u := by
    rw [hu]
    exact acts_setFld (acts_setFld (acts_setFlag (.refl _ _ s) _ _ (by simp)) _ _ (by simp)) _ _ (by simp)
  obtain ⟨hrep, hnet⟩ := (by decide : ∀ p : Fin 4, reportReg (PD_VAL p) = false ∧ PD_VAL p ≠ NETPM_STAT) p
  have hf : ∀ t, Settled s (State.modSource p (fun x => { x with reading := some (val, 0, 0) }) u) t →
      ∀ f, t.fld (PD_VAL p) f = u.fld (PD_VAL p) f := fun t ht f => ht.fld f hrep hnet
  have hrange : pdRange val < 2 ^ 2 := by
    unfold pdRange
    split_ifs <;> decide
  refine runs_of_calm hx (hacts.calm hc) fun t ht _ => ⟨?_, ?_, ?_, ?_, ht.onlyRegs (hacts.of_same rfl rfl rfl)⟩
  · rw [hf t ht, hu, State.fld_setFld_same _ _ _ _ (by decide)]
    exact Nat.mod_eq_of_lt (Nat.lt_trans hv (by decide))
  · rw [hf t ht, hu, State.fld_setFld_field _ _ _ _ _ (by decide), State.fld_setFld_same _ _ _ _ (by decide)]
    exact Nat.mod_eq_of_lt hrange
  · rw [hf t ht, hu, State.fld_setFld_field _ _ _ _ _ (by decide), State.fld_setFld_field _ _ _ _ _ (by decide),
      State.fld_setFlag_same _ _ _ _ (by decide) (by decide)]
    rfl
  · rw [ht.source, State.source_modSource_same]

section
variable {n : Fin 4} {s : State} (hc : Calm s) (he : s.fld (SNS_CFG n) SNS_CFG_EN = 1) (hr : s.lock.lrst = false)
include he hr

theorem sensorRuns_of_enabled : sensorRuns s n = true := by
  unfold sensorRuns State.flag
  rw [he, hr]
  rfl

include hc

theorem sensorRead_reads (data : BitVec 48) (ack arrived : Bool) (hup : cvUp s 4 = true) (hs : (s.die 4).silent = false) :
    Runs (.sensorRead n data ack arrived) s fun t =>
      ((t.source (4 + n)).reading = if ack && arrived then
        some (sensorCount data (s.fld (SNS_CFG n) SNS_CFG_BE == 1) 0, sensorCount data (s.fld (SNS_CFG n) SNS_CFG_BE == 1) 1,
          sensorCount data (s.fld (SNS_CFG n) SNS_CFG_BE == 1) 2) else none) ∧
        t.out = s.out ++ [.i2c (s.fld (SNS_CFG n) SNS_CFG_BUS) (s.fld (SNS_CFG n) SNS_CFG_ADDR)
          (s.fld (SNS_CFG n) SNS_CFG_REG)] := by
  have hruns := sensorRuns_of_enabled he hr
  obtain ⟨v, hv⟩ : ∃ v, v = sensorSend n s := ⟨_, rfl⟩
  have hcv : Calm v := hv ▸ hc
  have hok : (ack && arrived && cvUp v 4 && !(v.die 4).silent) = (ack && arrived) := by
    have hup' : cvUp v 4 = true := hv ▸ hup
    have hs' : (v.die 4).silent = false := hv ▸ hs
    rw [hup', hs', Bool.and_true, Bool.not_false, Bool.and_true]
  have hx : exec (.sensorRead n data ack arrived) s = finish s (State.modSource (4 + n) (fun x => { x with
      tag := (x.tag + 1) % 256
      reading := if ack && arrived then
        some (sensorCount data (v.flag (SNS_CFG n) SNS_CFG_BE) 0, sensorCount data (v.flag (SNS_CFG n) SNS_CFG_BE) 1,
          sensorCount data (v.flag (SNS_CFG n) SNS_CFG_BE) 2) else none }) v) := by
    refine congrArg (finish s) ?_
    unfold sensorRead
    rw [hruns, ← hv]
    dsimp only
    rw [hok]
    rfl
  refine runs_of_calm hx hcv fun t ht _ => ⟨?_, ?_⟩
  · rw [ht.source, State.source_modSource_same, hv]
    rfl
  · rw [ht.out, hv]
    rfl

theorem sensorTimeout_drops : Runs (.sensorTransactionTimeout n) s fun t =>
    (t.source (4 + n)).reading = none ∧ t.out = s.out ++ [.i2c (s.fld (SNS_CFG n) SNS_CFG_BUS)
      (s.fld (SNS_CFG n) SNS_CFG_ADDR) (s.fld (SNS_CFG n) SNS_CFG_REG)] := by
  have hx : exec (.sensorTransactionTimeout n) s = finish s (State.modSource (4 + n) (fun x => { x with reading := none })
      (sensorSend n s)) := congrArg (finish s) (if_pos (sensorRuns_of_enabled he hr))
  refine runs_of_calm hx hc fun t ht _ => ⟨?_, ht.out⟩
  rw [ht.source, State.source_modSource_same]

end

theorem loopTick_uses {s : State} (hc : Calm s) (hs : serving s 14 = true) (hm : (s.bank 14).moored = false) :
    Runs .loopTick s fun t => ∀ i : Fin 8, (t.source i).reading = none := by
  obtain ⟨u, hu⟩ : ∃ u, u = (List.range 8).foldl (fun t i => sourceTick i t) (noteLoops s) := ⟨_, rfl⟩
  obtain ⟨v, hv⟩ : ∃ v, v = (List.range 8).foldl (fun t l => if t.flag (LOOP_CFG l) LOOP_CFG_EN then loopTick l t else t) u :=
    ⟨_, rfl⟩
  have hcu : Calm u := hu ▸ calm_foldl _ (s := noteLoops s) hc fun _ _ _ h => calm_sourceTick h _
  have hcv : Calm v := by
    rw [hv]
    refine calm_foldl _ hcu fun w l _ h => ?_
    split
    · exact calm_loopTick h l
    · exact h
  have hx : exec .loopTick s =
      finish s ((List.range 8).foldl (fun t i => State.modSource i (fun x => { x with reading := none }) t) v) := by
    refine congrArg (finish s) ?_
    unfold tickLoops
    rw [hs, hm, hv, hu]
    rfl
  refine runs_of_calm hx (calm_foldl _ hcv fun _ _ _ h => h) fun t ht _ i => ?_
  rw [ht.source]
  exact readings_used 8 v i.isLt

/-! ### The Trellis -/

/-- A frame shows that it scans, and the buffer that a SHOW before it names. -/
def frameShows (s : State) : State :=
  if s.trellis.showTime < s.now && !(s.die 4).silent then
    State.setFld TR_STAT TR_STAT_DISP (s.fld TR_CMD TR_CMD_SHOW) (State.setFld TR_STAT TR_STAT_STATE 1 s)
  else State.setFld TR_STAT TR_STAT_STATE 1 s

/-- The scan of `s` begins at its first line, in registers `v`. -/
def frameBegun (vtrsup : Nat) (s v : State) : State :=
  { v with trellis := { v.trellis with
    frame := (if s.fld TR_STAT TR_STAT_STATE != 1 then 0 else (s.trellis.frame + 1) % 2 ^ 32)
    lows := (if s.fld TR_STAT TR_STAT_STATE != 1 then [] else s.trellis.lows)
    line := 0, sub := 0, vtrsup := vtrsup, seen := 0 } }

theorem acts_frameShows (s : State) : Acts [] [TR_STAT] s (frameShows s) := by
  have h : Acts [] [TR_STAT] s (State.setFld TR_STAT TR_STAT_STATE 1 s) := acts_setFld (.refl _ _ s) _ _ (by simp)
  unfold frameShows
  exact acts_ite (fun _ => acts_setFld h _ _ (by simp)) fun _ => h

theorem state_frameShows (s : State) : (frameShows s).fld TR_STAT TR_STAT_STATE = 1 := by
  have h : (State.setFld TR_STAT TR_STAT_STATE 1 s).fld TR_STAT TR_STAT_STATE = 1 := by
    rw [State.fld_setFld_same _ _ _ _ (by decide)]
    rfl
  unfold frameShows
  split
  · rw [State.fld_setFld_field _ _ _ _ _ (by decide), h]
  · exact h

section
variable {vtrsup : Nat} {s : State} (hc : Calm s) (hst : s.fld TR_STAT TR_STAT_STATE ≠ 2) (hserv : serving s 14 = true)
  (hm : (s.bank 14).moored = false) (hrun : s.fld TR_CMD TR_CMD_RUN = 1)
include hst hserv hm hrun

theorem trFrameStart_runs : trFrameStart vtrsup s =
    if inOver s || lightTsd s then State.setFld TR_STAT TR_STAT_STATE 3 s
    else frameBegun vtrsup s (frameShows s) := by
  have hf : s.flag TR_CMD TR_CMD_RUN = true := by
    unfold State.flag
    rw [hrun]
    rfl
  have hg : ¬ (!serving s 14 || (s.bank 14).moored || !s.flag TR_CMD TR_CMD_RUN) = true := by
    rw [hserv, hm, hf]
    decide
  exact (if_neg hst).trans (if_neg hg)

include hc

theorem trellisFrame_over (ho : inOver s = true) : Runs (.trellisFrameStart vtrsup) s fun t =>
    t.fld TR_STAT TR_STAT_STATE = 3 ∧ OnlyRegs [TR_STAT] s t := by
  have hx : exec (.trellisFrameStart vtrsup) s = finish s (State.setFld TR_STAT TR_STAT_STATE 3 s) := by
    refine congrArg (finish s) ((trFrameStart_runs hst hserv hm hrun).trans ?_)
    rw [ho, Bool.true_or, if_pos rfl]
  refine runs_of_calm hx hc fun t ht _ => ⟨?_, ht.onlyRegs (F := []) (acts_setFld (.refl _ _ s) _ _ (by simp))⟩
  rw [ht.fld, State.fld_setFld_same _ _ _ _ (by decide)]
  rfl

theorem trellisFrame_scans (ho : inOver s = false) (hd : lightTsd s = false) : Runs (.trellisFrameStart vtrsup) s fun t =>
    t.fld TR_STAT TR_STAT_STATE = 1 ∧ t.trellis.line = 0 ∧ t.trellis.sub = 0 ∧ OnlyRegs [TR_STAT] s t := by
  have hx : exec (.trellisFrameStart vtrsup) s = finish s (frameBegun vtrsup s (frameShows s)) := by
    refine congrArg (finish s) ((trFrameStart_runs hst hserv hm hrun).trans ?_)
    rw [ho, hd, Bool.false_or, if_neg Bool.false_ne_true]
  have hacts : Acts [] [TR_STAT] s (frameBegun vtrsup s (frameShows s)) := (acts_frameShows s).of_same rfl rfl rfl
  refine runs_of_calm hx (hacts.calm hc) fun t ht _ => ⟨(ht.fld _).trans (state_frameShows s), ?_, ?_, ht.onlyRegs hacts⟩
  · rw [ht.trellis]
    rfl
  · rw [ht.trellis]
    rfl

end

/-- The visit of a line that is latched, but for the first of a frame, moves on. -/
theorem trellisVisit_latched {levels currents pres : List Nat} {s : State} (hc : Calm s)
    (hst : s.fld TR_STAT TR_STAT_STATE = 1) (h0 : 0 < s.trellis.line) (hl : s.trellis.line + 1 < trLines s)
    (hsub : s.trellis.sub ≤ s.fld TR_CFG TR_CFG_NSUB) (hb : bitOf (s.fld TR_STAT TR_STAT_LLATCH) s.trellis.line = true)
    (hrun : s.fld TR_CMD TR_CMD_RUN = 1) (hserv : serving s 14 = true) (hm : (s.bank 14).moored = false) :
    Runs (.trellisLineVisit levels currents pres) s fun t =>
      t.trellis.line = s.trellis.line + 1 ∧ t.trellis.sub = s.trellis.sub ∧ OnlyRegs [] s t := by
  obtain ⟨u, hu⟩ : ∃ u, u = { s with trellis := { s.trellis with line := s.trellis.line + 1, sub := s.trellis.sub } } :=
    ⟨_, rfl⟩
  have hf : s.flag TR_CMD TR_CMD_RUN = true := by
    unfold State.flag
    rw [hrun]
    rfl
  have hx : exec (.trellisLineVisit levels currents pres) s = finish s u := by
    refine congrArg (finish s) ((if_pos ⟨hst, hsub⟩).trans ?_)
    have hlast : (s.trellis.line + 1 == trLines s) = false := beq_false_of_ne (Nat.ne_of_lt hl)
    have hfirst : ¬ (s.trellis.line = 0 ∧ s.trellis.sub = 0) := fun x => absurd x.1 (Nat.ne_of_gt h0)
    have hscan : (s.fld TR_STAT TR_STAT_STATE != 1) = false := by
      rw [hst]
      rfl
    unfold lineVisit
    dsimp only
    rw [if_neg hfirst, hscan, if_neg Bool.false_ne_true, if_pos hb, hf, hserv, hm, hlast, hu]
    rfl
  refine runs_of_calm hx (hu ▸ hc) fun t ht _ => ?_
  rw [ht.trellis, hu]
  exact ⟨rfl, rfl, ht.onlyRegs (F := []) (hu ▸ .refl _ _ s)⟩

theorem bitOf_setBitN_same (x i : Nat) : bitOf (setBitN x i) i = true := by
  rw [bitOf_eq_testBit, testBit_setBitN]
  simp

theorem acts_clearLineDebts {F l : List Nat} (n : Nat) (s : State) : Acts F l s (clearLineDebts n s) := by
  unfold clearLineDebts
  split
  · refine acts_foldl _ (fun u c _ hu => ?_) (.refl F l s)
    split
    · exact hu.of_same rfl rfl rfl
    · exact hu
  · exact .refl F l s

theorem fld_dieEv {d n : Nat} (i : Nat) (t : State) (hn : n < 256) {a : Nat} (f : Fld) (hr : reportReg a = false) :
    (dieEv d n i t).fld a f = t.fld a f := by
  unfold dieEv
  split
  · exact fld_raiseEv i t hn f hr
  · rfl

theorem fld_dieFault {d n : Nat} (t : State) (hn : n < 96) {a : Nat} (f : Fld) (hr : reportReg a = false) :
    (dieFault d n t).fld a f = t.fld a f := by
  unfold dieFault
  split
  · exact fld_raiseFault t hn f hr
  · rfl

/-- Line switch `l` shows that it has latched. -/
def lineShown (l : Nat) (s : State) : State :=
  State.setFlag TR_STAT TR_STAT_LSEEN true
    (State.setFld TR_STAT TR_STAT_LLATCH (setBitN (s.fld TR_STAT TR_STAT_LLATCH) l) (clearLineDebts l s))

theorem lineLatch_eq (l : Nat) (s : State) : lineLatch l s = dieFault 4 22 (dieEv 4 92 l (lineShown l s)) := rfl

theorem lineSwitch_latches {l : Fin 16} {ma dur : Nat} {x : Int} {s : State} (hc : Calm s)
    (hst : s.fld TR_STAT TR_STAT_STATE = 1) (hma : 3000 ≤ ma) (hd : 5000 ≤ dur) (hr : actingReact s 22 = 0)
    (ho : resetOverdue s = false) : Runs (.lineSwitchLatch l false ma dur x) s fun t =>
      bitOf (t.fld TR_STAT TR_STAT_LLATCH) l = true ∧ OnlyRegs [TR_STAT] s t := by
  have hx : exec (.lineSwitchLatch l false ma dur x) s = finish s (dieFault 4 22 (dieEv 4 92 l (lineShown l s))) := by
    refine congrArg (finish s) (Eq.trans ?_ (lineLatch_eq l s))
    exact (if_neg Bool.false_ne_true).trans (if_pos ⟨.inl hst, hma, hd⟩)
  have hshown : Acts [22] [TR_STAT] s (lineShown l s) :=
    acts_setFlag (acts_setFld (acts_clearLineDebts l s) _ _ (by simp)) _ _ (by simp)
  have hacts : Acts [22] [TR_STAT] s (dieFault 4 22 (dieEv 4 92 l (lineShown l s))) :=
    acts_dieFault (acts_dieEv hshown 4 l (by decide)) 4 (by decide) (by simp)
  refine runs_of_noticed hx (hacts.noticed hc fun n hn => ?_) (hacts.notOverdue ho) fun t ht _ => ⟨?_, ht.onlyRegs hacts⟩
  · obtain rfl := List.mem_singleton.1 hn
    exact ⟨by decide, by decide, hr⟩
  · rw [ht.fld, fld_dieFault _ (by decide) _ (by decide), fld_dieEv _ _ (by decide) _ (by decide), lineShown,
      State.fld_setFlag_field _ _ _ _ _ (by decide), State.fld_setFld_same _ _ _ _ (by decide),
      Nat.mod_eq_of_lt (setBitN_lt (x := s.fld TR_STAT TR_STAT_LLATCH) (fget_lt TR_STAT_LLATCH _) l.isLt)]
    exact bitOf_setBitN_same _ _

theorem applyCommand_trellis {m : Nat} {s : State} (h : limpBars s m = false) (w : Word) :
    applyCommand false m 0x380 w s =
      applyTrCmd (fget TR_CMD_RUN w == 1) (fget TR_CMD_SHOW w == 1) (fget TR_CMD_LCLR w == 1) s := by
  unfold applyCommand
  rw [h, if_neg Bool.false_ne_true, Bool.false_and, Bool.false_and, Bool.false_and, if_neg Bool.false_ne_true,
    if_neg (by decide), if_neg (by decide), if_neg (by decide), if_neg (by decide), if_neg (by decide), if_pos (by decide)]

/-- RUN and SHOW of TR_CMD as a command gives them. -/
def trCmdStored (run shows : Bool) (s : State) : State :=
  State.setFlag TR_CMD TR_CMD_SHOW shows (State.setFlag TR_CMD TR_CMD_RUN run s)

/-- A command ends a safe level. -/
def trCmdTaken (run shows : Bool) (s : State) : State :=
  let t := trCmdStored run shows s
  { t with trellis := { t.trellis with
    showTime := (if shows != s.flag TR_CMD TR_CMD_SHOW then s.now else t.trellis.showTime), safeLevel := none } }

theorem applyTrCmd_eq (run shows lclr : Bool) (s : State) :
    applyTrCmd run shows lclr s = if lclr then trLclr (trCmdTaken run shows s) else trCmdTaken run shows s := rfl

theorem b2n_beq_one {x : Nat} (h : x < 2) : b2n (x == 1) = x := by
  rcases (by omega : x = 0 ∨ x = 1) with rfl | rfl <;> rfl

theorem trCmdWrite_stores {m : Fin 12} {w : Word} {s : State} (hc : Calm s) (hb : limpBars s m = false)
    (hl : fget TR_CMD_LCLR w = 0) : Runs (.trCmdWrite ⟨m, false⟩ w) s fun t =>
      t.fld TR_CMD TR_CMD_RUN = fget TR_CMD_RUN w ∧ t.fld TR_CMD TR_CMD_SHOW = fget TR_CMD_SHOW w ∧
        t.trellis.safeLevel = none ∧ OnlyRegs [TR_CMD] s t := by
  obtain ⟨v, hv⟩ : ∃ v, v = trCmdStored (fget TR_CMD_RUN w == 1) (fget TR_CMD_SHOW w == 1) s := ⟨_, rfl⟩
  obtain ⟨u, hu⟩ : ∃ u, u = trCmdTaken (fget TR_CMD_RUN w == 1) (fget TR_CMD_SHOW w == 1) s := ⟨_, rfl⟩
  have hx : exec (.trCmdWrite ⟨m, false⟩ w) s = finish s u := by
    refine congrArg (finish s) ((applyCommand_trellis hb w).trans ?_)
    rw [hl, applyTrCmd_eq, hu]
    exact if_neg (by decide)
  have hacts : Acts [] [TR_CMD] s v := by
    rw [hv]
    exact acts_setFlag (acts_setFlag (.refl _ _ s) _ _ (by simp)) _ _ (by simp)
  have hregs : u.regs = v.regs := by
    rw [hu, hv]
    rfl
  have hactu : Acts [] [TR_CMD] s u := hacts.of_same hregs (by rw [hu, hv]; rfl) (by rw [hu, hv]; rfl)
  have hf : ∀ t, Settled s u t → ∀ f, t.fld TR_CMD f = v.fld TR_CMD f := fun t ht f =>
    (ht.fld f).trans (State.fld_of_regs hregs _ f)
  refine runs_of_calm hx (hactu.calm hc) fun t ht _ => ⟨?_, ?_, ?_, ht.onlyRegs hactu⟩
  · rw [hf t ht, hv, trCmdStored, State.fld_setFlag_field _ _ _ _ _ (by decide),
      State.fld_setFlag_same _ _ _ _ (by decide) (by decide)]
    exact b2n_beq_one (fget_lt TR_CMD_RUN w)
  · rw [hf t ht, hv, trCmdStored, State.fld_setFlag_same _ _ _ _ (by decide) (by decide)]
    exact b2n_beq_one (fget_lt TR_CMD_SHOW w)
  · rw [ht.trellis, hu]
    rfl

theorem lclr_releases {m : Fin 12} {s : State} (hc : Calm s) (hb : limpBars s m = false) (hv : s.trellis.veto = 0) :
    Runs (.lclr ⟨m, false⟩) s fun t =>
      t.fld TR_STAT TR_STAT_LLATCH = 0 ∧ t.fld TR_STAT TR_STAT_STATE ≠ 2 ∧ OnlyRegs [TR_STAT] s t := by
  have hw : ∀ f : Fld, f = TR_CMD_RUN ∨ f = TR_CMD_SHOW → fget f (fput TR_CMD_LCLR 1 (s.reg TR_CMD)) = s.fld TR_CMD f := by
    rintro f (rfl | rfl) <;> exact fget_fput_other _ _ _ _ (by decide)
  obtain ⟨u, hu⟩ : ∃ u, u = trCmdTaken (s.fld TR_CMD TR_CMD_RUN == 1) (s.fld TR_CMD TR_CMD_SHOW == 1) s := ⟨_, rfl⟩
  have hx : exec (.lclr ⟨m, false⟩) s = finish s (trLclr u) := by
    refine congrArg (finish s) ((applyCommand_trellis hb _).trans ?_)
    rw [applyTrCmd_eq, fget_fput_same _ _ _ (by decide), hw _ (.inl rfl), hw _ (.inr rfl), hu]
    exact if_pos rfl
  have hsame : ∀ a, u.reg a = s.reg a := fun a => by
    obtain ⟨v, hv⟩ : ∃ v, v = State.setFlag TR_CMD TR_CMD_RUN (s.fld TR_CMD TR_CMD_RUN == 1) s := ⟨_, rfl⟩
    have hva : ∀ b, v.reg b = s.reg b := fun b => hv ▸ State.reg_setFlag_self s TR_CMD TR_CMD_RUN rfl b
    have hshow : s.fld TR_CMD TR_CMD_SHOW = v.fld TR_CMD TR_CMD_SHOW := by
      unfold State.fld
      rw [hva]
    have h : u.reg a = (State.setFlag TR_CMD TR_CMD_SHOW (v.fld TR_CMD TR_CMD_SHOW == 1) v).reg a := by
      rw [← hshow, hv, hu]
      rfl
    rw [h, State.reg_setFlag_self v TR_CMD TR_CMD_SHOW rfl, hva]
  have hveto : u.trellis.veto = 0 := by
    rw [hu]
    exact hv
  obtain ⟨x, hx'⟩ : ∃ x, x = State.setFld TR_STAT TR_STAT_LLATCH 0 u := ⟨_, rfl⟩
  have hl : trLclr u = if x.fld TR_STAT TR_STAT_STATE = 2 then trStop 0 x else x := by
    unfold trLclr
    extract_lets l kept t
    have hk : kept = 0 := by
      unfold kept
      rw [hveto]
      exact clearedLines_eq (fget_lt TR_STAT_LLATCH _)
    have ht : t = x := by
      unfold t
      rw [hk, hx']
    rw [ht]
  have hactu : Acts [] [TR_STAT] s u :=
    ⟨fun a _ _ _ => hsame a, fun _ _ => by rw [hu]; exact hc, fun n hn => .inl (by rw [hu] at hn; exact hn),
      by rw [hu]; exact .refl s⟩
  have hactx : Acts [] [TR_STAT] s x := hx' ▸ acts_setFld hactu _ _ (by simp)
  obtain ⟨y, hy⟩ : ∃ y, y = State.setFld TR_STAT TR_STAT_STATE 0 x := ⟨_, rfl⟩
  have hacty : Acts [] [TR_STAT] s y := hy ▸ acts_setFld hactx _ _ (by simp)
  have hacts : Acts [] [TR_STAT] s (trLclr u) := by
    rw [hl]
    refine acts_ite (fun _ => ?_) fun _ => hactx
    unfold trStop
    rw [← hy]
    exact hacty.of_same rfl rfl rfl
  have hlx : x.fld TR_STAT TR_STAT_LLATCH = 0 := by
    rw [hx', State.fld_setFld_same _ _ _ _ (by decide)]
    rfl
  have hstop : ∀ f, (trStop 0 x).fld TR_STAT f = y.fld TR_STAT f := fun f => by
    rw [hy]
    exact State.fld_of_regs rfl _ f
  refine runs_of_calm hx (hacts.calm hc) fun t ht _ => ⟨?_, ?_, ht.onlyRegs hacts⟩
  · rw [ht.fld, hl]
    split
    · rw [hstop, hy, State.fld_setFld_field _ _ _ _ _ (by decide), hlx]
    · exact hlx
  · rw [ht.fld, hl]
    split
    · rw [hstop, hy, State.fld_setFld_same _ _ _ _ (by decide)]
      decide
    · assumption

/-- Settles O11, a clause per lemma above. -/
theorem loopsAndTrellis : Obligations.LoopsAndTrellis :=
  ⟨fun _ _ _ hc => photodiode_reads hc, fun _ data ack arrived _ hc he hr => sensorRead_reads hc he hr data ack arrived,
    fun _ _ hc he hr => sensorTimeout_drops hc he hr, fun _ hc => loopTick_uses hc,
    fun _ _ hc hst hs hm hr => trellisFrame_over hc hst hs hm hr, fun _ _ hc hst hs hm hr => trellisFrame_scans hc hst hs hm hr,
    fun _ _ _ _ hc => trellisVisit_latched hc, fun _ _ _ _ _ hc => lineSwitch_latches hc,
    fun _ _ _ hc => trCmdWrite_stores hc, fun _ _ hc => lclr_releases hc⟩

end Sys2Proof.Machine
end

section
/-! Inputs: sampling, debouncing, delivery and polling (R237 to R243). -/

namespace Sys2Proof.Machine

theorem State.input_modInput_same (j : Nat) (f : Input → Input) (s : State) :
    (State.modInput j f s).input j = f (s.input j) := Tab.get_mod_same _ _ _ _

theorem Settled.input {s u t : State} (h : Settled s u t) (j : Nat) : t.input j = u.input j := by
  rw [h.frame]
  rfl

/-- The bases of the arrays of input bits. -/
def inputWords : List Nat := [IN_LVL 0, IN_RAW 0, IN_EDGE 0, IN_CHAT 0]

theorem inputWord_plain : ∀ b ∈ inputWords, ∀ w < 4, reportReg (b + 4 * w) = false ∧ b + 4 * w ≠ NETPM_STAT := by decide

theorem inputWords_apart : ∀ b ∈ inputWords, ∀ c ∈ inputWords, b ≠ c → ∀ w < 4, b + 4 * w ≠ c + 4 * w := by decide

theorem inBit_of_reg {s t : State} {base j : Nat} (h : t.reg (base + 4 * (j / 32)) = s.reg (base + 4 * (j / 32))) :
    inBit t base j = inBit s base j := by
  unfold inBit
  rw [h]

theorem Settled.inBit {s u t : State} (h : Settled s u t) {base j : Nat} (hb : base ∈ inputWords) (hj : j < 128) :
    inBit t base j = inBit u base j := by
  obtain ⟨hr, hn⟩ := inputWord_plain base hb (j / 32) (by omega)
  exact inBit_of_reg (h.regs _ hr hn)

theorem inBit_setInBit_same (base j : Nat) (b : Bool) (s : State) : inBit (setInBit base j b s) base j = b := by
  have hj : j % 32 < 32 := Nat.mod_lt _ (by decide)
  unfold inBit setInBit
  rw [State.reg_setReg_same, bitOf_eq_testBit, BitVec.toNat_ofNat, Nat.testBit_mod_two_pow]
  cases b
  · simp [testBit_clrBitN]
  · simp [testBit_setBitN, hj]

theorem inBit_setInBit_other {base base' : Nat} {j : Nat} (b : Bool) (s : State) (hb : base ∈ inputWords)
    (hb' : base' ∈ inputWords) (hne : base' ≠ base) (hj : j < 128) :
    inBit (setInBit base j b s) base' j = inBit s base' j :=
  inBit_of_reg (State.reg_setReg_other _ _ (inputWords_apart base' hb' base hb hne _ (by omega)))

theorem acts_setInBit {F l : List Nat} {s t : State} (h : Acts F l s t) {base j : Nat} (b : Bool)
    (hl : base + 4 * (j / 32) ∈ l) : Acts F l s (setInBit base j b t) := acts_setReg h _ hl

/-- A level that differs from the debounced one opens the window. -/
theorem rawChange_opens {j : Nat} {b : Bool} {s : State} (hc : inputClaimed s j = true) (hw : (s.input j).winEnd = none)
    (hb : inLevel s j = !b) (hj : j < 128) : rawChange j b s =
      State.modInput j (fun x => { x with winEnd := some (s.now + debTime s j), level := b }) (setInBit (IN_RAW 0) j b s) := by
  have hlvl : inLevel (setInBit (IN_RAW 0) j b s) j = !b :=
    (inBit_setInBit_other b s (by decide) (by decide) (by decide) hj).trans hb
  have hopen : (b != inLevel (setInBit (IN_RAW 0) j b s) j) = true := by
    rw [hlvl]
    cases b <;> rfl
  unfold rawChange
  dsimp only
  rw [hc, hw]
  exact if_pos hopen

theorem rawLevelChange_opens {j : Fin 128} {mv : Int} {b : Bool} {s : State} (hcalm : Calm s) (hl : lowPower s = false)
    (hc : inputClaimed s j = true) (hw : (s.input j).winEnd = none) (hb : inLevel s j = !b)
    (hr : inReads s j (inBit s (IN_RAW 0) j) mv = b) : Runs (.rawLevelChange j mv) s fun t =>
      (t.input j).winEnd = some (s.now + debTime s j) ∧ (t.input j).level = b ∧ inBit t (IN_RAW 0) j = b ∧
        inLevel t j = !b := by
  obtain ⟨v, hv⟩ : ∃ v, v = setInBit (IN_RAW 0) j b s := ⟨_, rfl⟩
  have hx : exec (.rawLevelChange j mv) s =
      finish s (State.modInput j (fun x => { x with winEnd := some (s.now + debTime s j), level := b }) v) := by
    refine congrArg (finish s) ?_
    unfold inputSample
    rw [hl, if_neg Bool.false_ne_true, hr, rawChange_opens hc hw hb j.isLt, hv]
  have hcv : Calm v := hv ▸ hcalm
  refine runs_of_calm hx hcv fun t ht _ => ⟨?_, ?_, ?_, ?_⟩
  · rw [ht.input, State.input_modInput_same]
  · rw [ht.input, State.input_modInput_same]
  · refine (ht.inBit (by decide) j.isLt).trans (Eq.trans ?_ (inBit_setInBit_same (IN_RAW 0) j b s))
    rw [hv]
    rfl
  · refine (ht.inBit (by decide) j.isLt).trans (Eq.trans ?_ ((inBit_setInBit_other b s (by decide) (by decide) (by decide)
      j.isLt : inLevel (setInBit (IN_RAW 0) j b s) j = inLevel s j).trans hb))
    rw [hv]
    rfl

/-! ### The debounced level -/

/-- Chatter is counted beside the window, the waiting changes and the time of the last one. -/
structure Beside (j : Nat) (s t : State) : Prop where
  calm : Calm s → Calm t
  bits : ∀ b ∈ [IN_LVL 0, IN_RAW 0, IN_EDGE 0], inBit t b j = inBit s b j
  waiting : (t.input j).waiting = (s.input j).waiting
  winEnd : (t.input j).winEnd = (s.input j).winEnd
  changedAt : (t.input j).changedAt = (s.input j).changedAt

theorem Beside.trans {j : Nat} {s t u : State} (h : Beside j s t) (h' : Beside j t u) : Beside j s u :=
  ⟨h'.calm ∘ h.calm, fun b hb => (h'.bits b hb).trans (h.bits b hb), h'.waiting.trans h.waiting, h'.winEnd.trans h.winEnd,
    h'.changedAt.trans h.changedAt⟩

theorem beside_dieEv {j : Nat} (hj : j < 128) (d : Nat) {n : Nat} (i : Nat) (hn : n < 256) (s : State) :
    Beside j s (dieEv d n i s) := by
  have hin : (dieEv d n i s).input j = s.input j := by
    unfold dieEv
    split <;> rfl
  refine ⟨dieEv_calm d n i s, fun b hb => ?_, by rw [hin], by rw [hin], by rw [hin]⟩
  have hacts : Acts [] [] s (dieEv d n i s) := acts_dieEv (.refl _ _ s) d i hn
  have hb4 : b ∈ inputWords := by
    simp only [List.mem_cons, List.not_mem_nil, or_false] at hb
    rcases hb with rfl | rfl | rfl <;> decide
  obtain ⟨hr, hnet⟩ := inputWord_plain b hb4 (j / 32) (by omega)
  exact inBit_of_reg (hacts.reg (by simp) hr hnet)

theorem beside_chatter {j : Nat} (hj : j < 128) (s : State) : Beside j s (chatter j s) := by
  unfold chatter
  extract_lets recent t
  have ht : Beside j s t := by
    have hin : t.input j = { s.input j with changes := recent.take 21 } := State.input_modInput_same _ _ _
    exact ⟨id, fun _ _ => rfl, by rw [hin], by rw [hin], by rw [hin]⟩
  split
  · have hset : Beside j t (setInBit (IN_CHAT 0) j true t) := by
      refine ⟨id, fun b hb => ?_, rfl, rfl, rfl⟩
      simp only [List.mem_cons, List.not_mem_nil, or_false] at hb
      rcases hb with rfl | rfl | rfl
      all_goals exact inBit_setInBit_other true t (by decide) (by decide) (by decide) hj
    exact ht.trans (hset.trans (beside_dieEv hj 5 (n := 97) j (by decide) _))
  · exact ht

/-- The bits that show a debounced change. -/
def levelShown (j : Nat) (b : Bool) (s : State) : State := setInBit (IN_EDGE 0) j true (setInBit (IN_LVL 0) j b s)

theorem debounced_changes {j : Fin 128} {e : Nat} {s : State} (hc : Calm s) (hw : (s.input j).winEnd = some e)
    (he : e ≤ s.now) (hl : lowPower s = false) : Runs (.debounceWindowEnd j) s fun t =>
      inLevel t j = (s.input j).level ∧ (t.input j).waiting = (s.input j).waiting ++ [(s.input j).level] ∧
        (t.input j).winEnd = none ∧ (t.input j).changedAt = some s.now ∧ inBit t (IN_EDGE 0) j = true := by
  have hj : j.val < 128 := j.isLt
  obtain ⟨b, hb⟩ : ∃ b, b = (s.input j).level := ⟨_, rfl⟩
  obtain ⟨v, hv⟩ : ∃ v, v = levelShown j b s := ⟨_, rfl⟩
  obtain ⟨w, hwv⟩ : ∃ w, w = State.modInput j (fun x => { x with
    winEnd := none, changedAt := some s.now, waiting := x.waiting ++ [b] }) v := ⟨_, rfl⟩
  obtain ⟨x, hx⟩ : ∃ x, x = if s.flag (IN_CFG j) IN_CFG_EVT then dieEv 5 96 j w else w := ⟨_, rfl⟩
  have hex : exec (.debounceWindowEnd j) s = finish s (chatter j x) := by
    refine congrArg (finish s) ?_
    unfold debounceEnd
    dsimp only
    rw [hw, ← hb]
    dsimp only
    rw [if_pos ⟨he, hl⟩, hx, hwv, hv]
    rfl
  have hwin : w.input j = { s.input j with
      winEnd := none, changedAt := some s.now, waiting := (s.input j).waiting ++ [b] } := by
    rw [hwv, State.input_modInput_same, hv]
    rfl
  have hend : Beside j w (chatter j x) := by
    refine .trans ?_ (beside_chatter hj x)
    rw [hx]
    split
    · exact beside_dieEv hj 5 (n := 96) j (by decide) w
    · exact ⟨id, fun _ _ => rfl, rfl, rfl, rfl⟩
  have hcw : Calm w := by
    rw [hwv, hv]
    exact hc
  refine runs_of_calm hex (hend.calm hcw) fun t ht _ => ⟨?_, ?_, ?_, ?_, ?_⟩
  · refine (ht.inBit (by decide) hj).trans ((hend.bits _ (by simp)).trans ?_)
    rw [hwv, ← hb]
    refine (inBit_of_reg (s := v) rfl).trans ?_
    rw [hv]
    exact (inBit_setInBit_other true _ (by decide) (by decide) (by decide) hj).trans (inBit_setInBit_same _ _ _ _)
  · rw [ht.input, hend.waiting, hwin, hb]
  · rw [ht.input, hend.winEnd, hwin]
  · rw [ht.input, hend.changedAt, hwin]
  · refine (ht.inBit (by decide) hj).trans ((hend.bits _ (by simp)).trans ?_)
    rw [hwv]
    refine (inBit_of_reg (s := v) rfl).trans ?_
    rw [hv]
    exact inBit_setInBit_same _ _ _ _

theorem inputChange_delivered {j : Fin 128} {b : Bool} {rest : List Bool} {s : State} (hc : Calm s)
    (hw : (s.input j).waiting = b :: rest) (hup : cvUp s 5 = true) (hd : s.start.lodgeDown = false) :
    Runs (.inputChangeDelivery j) s fun t =>
      (t.input j).waiting = rest ∧ (t.input j).ref = b ∧ bitOf t.kp.edgeAcc j = true ∧ inLevel t j = inLevel s j ∧
        OnlyRegs [IN_EDGE (j / 32)] s t := by
  obtain ⟨w, hwl⟩ : ∃ w, w = modLane 5 false (fun l => laneHears l s.now) s := ⟨_, rfl⟩
  obtain ⟨v, hv⟩ : ∃ v, v = State.modInput j (fun x => { x with waiting := rest }) w := ⟨_, rfl⟩
  have hx : exec (.inputChangeDelivery j) s = finish s (imageTakes j b v) := by
    refine congrArg (finish s) ?_
    unfold inputDelivery
    rw [hw]
    dsimp only
    rw [if_pos ⟨hup, hd⟩, hv, hwl]
  have hactw : Acts [] [IN_EDGE (j / 32)] s w := hwl ▸ acts_modLane (.refl _ _ s) _ _ _
  have hactv : Acts [] [IN_EDGE (j / 32)] s v := by
    rw [hv]
    exact hactw.of_same rfl rfl rfl
  have hacts : Acts [] [IN_EDGE (j / 32)] s (imageTakes j b v) := hactv.of_same rfl rfl rfl
  have hin : (imageTakes j b v).input j = { s.input j with waiting := rest, ref := b } := by
    have hwj : w.input j = s.input j := by
      rw [hwl]
      rfl
    have hvj : v.input j = { s.input j with waiting := rest } := by
      rw [hv, State.input_modInput_same, hwj]
    have h : (imageTakes j b v).input j = { v.input j with ref := b } :=
      State.input_modInput_same j (fun x => { x with ref := b }) v
    rw [h, hvj]
  refine runs_of_calm hx (hacts.calm hc) fun t ht _ => ⟨?_, ?_, ?_, ?_, ht.onlyRegs hacts⟩
  · rw [ht.input, hin]
  · rw [ht.input, hin]
  · rw [ht.kp]
    exact bitOf_setBitN_same _ _
  · refine (ht.inBit (by decide) j.isLt).trans (inBit_of_reg ?_)
    rw [hv, hwl]
    rfl

/-- A poll that counts, below WAKE_CNT. -/
theorem inputPoll_counts {j : Fin 128} {mv : Int} {s : State} (hc : Calm s) (hd : pollDue s j = true)
    (hr : (s.input j).ref = false) (hm : (inThresholds s j).1 < mv) (hw : bitOf (s.fld (IN_CFG j) IN_CFG_WAKE) 0 = true)
    (hn : (s.input j).polls < s.fld IN_POLL IN_POLL_WAKE_CNT) : Runs (.inputPoll j mv) s fun t =>
      (t.input j).polls = (s.input j).polls + 1 ∧ (t.input j).polledAt = some s.now ∧
        t.fld POWER_STAT POWER_STAT_STATE = s.fld POWER_STAT POWER_STAT_STATE := by
  have hreads : inReads s j (s.input j).ref mv = true := by
    unfold inReads
    rw [decide_eq_true hm, Bool.true_or]
  have hcounts : pollCounts s j true = true := by
    unfold pollCounts
    dsimp only
    rw [hr, if_pos rfl, hw]
    rfl
  have hx : exec (.inputPoll j mv) s = finish s
      (State.modInput j (fun x => { x with polls := (s.input j).polls + 1, polledAt := some s.now }) s) := by
    refine congrArg (finish s) ?_
    unfold inputPoll
    rw [hd, hreads, hcounts]
    dsimp only
    rw [if_pos rfl, Bool.not_true, if_neg Bool.false_ne_true, if_neg (by omega)]
  refine runs_of_calm hx hc fun t ht _ => ⟨?_, ?_, ht.fld _⟩
  · rw [ht.input, State.input_modInput_same]
  · rw [ht.input, State.input_modInput_same]

end Sys2Proof.Machine
end

section
/-! Field outputs (R244 to R252). -/

namespace Sys2Proof.Machine

/-! ### State and demand of an output -/

theorem foRegs_plain : ∀ o : Fin 16, (reportReg (FO_STAT o) = false ∧ FO_STAT o ≠ NETPM_STAT) ∧
    reportReg (FO_CMD o) = false ∧ FO_CMD o ≠ NETPM_STAT := by decide

theorem foStat_ne_foCmd (o p : Nat) (h : o < 16) : FO_CMD o ≠ FO_STAT p := by
  unfold FO_CMD FO_STAT
  omega

theorem State.fo_modFo_same (o : Nat) (f : FieldOut → FieldOut) (s : State) : (State.modFo o f s).fo o = f (s.fo o) :=
  Tab.get_mod_same _ _ _ _

theorem fo_dieEv (d n i : Nat) (s : State) (o : Nat) : (dieEv d n i s).fo o = s.fo o := by
  unfold dieEv
  split <;> rfl

theorem fo_dieFault (d n : Nat) (s : State) (o : Nat) : (dieFault d n s).fo o = s.fo o := by
  unfold dieFault
  split <;> rfl

section
variable {s u t : State} (h : Settled s u t)
include h

theorem Settled.fo (o : Nat) : t.fo o = u.fo o := by
  rw [h.frame]
  rfl

theorem Settled.foStat (o : Fin 16) (f : Fld) : t.fld (FO_STAT o) f = u.fld (FO_STAT o) f :=
  h.fld f (foRegs_plain o).1.1 (foRegs_plain o).1.2

theorem Settled.foState (o : Fin 16) : foState t o = foState u o := h.foStat o FO_STAT_STATE

theorem Settled.foDemand (o : Fin 16) : foDemand t o = foDemand u o :=
  h.flag FO_CMD_ON (foRegs_plain o).2.1 (foRegs_plain o).2.2

end

theorem Settled.fieldBank {s u t : State} (h : Settled s u t) : t.fieldBank = u.fieldBank := by
  rw [h.frame]

theorem foState_setFoState (o : Nat) {st : Nat} (h : st < 16) (s : State) : foState (setFoState o st s) o = st :=
  (State.fld_setFld_same _ _ _ _ (by decide)).trans (Nat.mod_eq_of_lt h)

theorem foState_setFlag (o : Nat) {f : Fld} (b : Bool) (s : State) (h : f.lo + f.w ≤ 28) :
    foState (State.setFlag (FO_STAT o) f b s) o = foState s o :=
  State.fld_setFlag_field _ _ _ _ _ (.inr h)

theorem foState_of_cmd {F : List Nat} {o : Fin 16} {s t : State} (h : Acts F [FO_CMD o] s t) : foState t o = foState s o :=
  h.fld _ (by simp) (foRegs_plain o).1.1 (foRegs_plain o).1.2

theorem foDemand_of_stat {F : List Nat} {o : Fin 16} {s t : State} (h : Acts F [FO_STAT o] s t) :
    foDemand t o = foDemand s o :=
  congrArg (· == 1) (h.fld FO_CMD_ON (by simp) (foRegs_plain o).2.1 (foRegs_plain o).2.2)

theorem foDemand_setFlag (o : Nat) (b : Bool) (s : State) : foDemand (State.setFlag (FO_CMD o) FO_CMD_ON b s) o = b :=
  State.flag_setFlag_same _ _ _ _ (by decide) (by decide)

/-! ### Turning on and off -/

/-- Nothing keeps output `o` from turning on. -/
structure TurnsOn (o : Nat) (s : State) : Prop where
  pin : pinFirst s (113 + o) = true
  bank : (s.bank (6 + o / 4)).moored = false
  veto : s.fld (FO_STAT o) FO_STAT_VETO_T = 0
  noOver : inOver s = false

section
variable {F l : List Nat} {s t : State} (h : Acts F l s t) {o : Nat}
include h

theorem acts_modFo (f : FieldOut → FieldOut) : Acts F l s (State.modFo o f t) := h

variable (hl : FO_STAT o ∈ l)
include hl

theorem acts_setFoState (st : Nat) : Acts F l s (setFoState o st t) := acts_setFld h _ _ hl

theorem acts_foTurnOn : Acts F l s (foTurnOn o t) := by
  have hp : ∀ b, Acts F l s (State.setFlag (FO_STAT o) FO_STAT_PEND b t) := fun b => acts_setFlag h _ _ hl
  unfold foTurnOn
  split
  · exact h
  split
  · exact acts_setFlag (acts_setFoState h hl _) _ _ hl
  split
  · exact acts_setFlag (acts_setFoState h hl _) _ _ hl
  dsimp only
  split
  · exact acts_setFoState (hp false) hl _
  · exact acts_modFo (acts_setFoState (hp false) hl _) _

theorem acts_foTurnOff (c : DemagCause) : Acts F l s (foTurnOff o c t) :=
  acts_modFo (acts_setFlag (acts_setFlag (acts_setFoState h hl _) _ _ hl) _ _ hl) _

end

/-- An output that turns on: ON is shown, PEND is gone. -/
def foShownOn (o : Nat) (s : State) : State := setFoState o foOn (State.setFlag (FO_STAT o) FO_STAT_PEND false s)

theorem foTurnOn_eq {o : Nat} {s : State} (h : TurnsOn o s) :
    foTurnOn o s = State.modFo o (fun x => { x with openNow := false, shortNow := false }) (foShownOn o s) := by
  obtain ⟨hpin, hbank, hveto, hover⟩ := h
  have hv : s.flag (FO_STAT o) FO_STAT_VETO_T = false := by
    unfold State.flag
    rw [hveto]
    rfl
  unfold foTurnOn
  dsimp only
  rw [hpin, hbank, hv, hover]
  rfl

theorem foState_foTurnOn {o : Nat} {s : State} (h : TurnsOn o s) : foState (foTurnOn o s) o = foOn := by
  rw [foTurnOn_eq h]
  exact foState_setFoState o (by decide) _

theorem foState_foTurnOff (o : Nat) (c : DemagCause) (s : State) : foState (foTurnOff o c s) o = foDemag := by
  have h : ∀ u, foState (State.setFlag (FO_STAT o) FO_STAT_LIM false (State.setFlag (FO_STAT o) FO_STAT_PEND false u)) o =
      foState u o := fun u => by
    rw [foState_setFlag _ _ _ (by decide), foState_setFlag _ _ _ (by decide)]
  exact (h _).trans (foState_setFoState o (by decide) s)

theorem cause_foTurnOff (o : Nat) (c : DemagCause) (s : State) : ((foTurnOff o c s).fo o).cause = c := by
  unfold foTurnOff
  rw [State.fo_modFo_same]

/-- A demand word leaves what decides whether an output turns on. -/
theorem TurnsOn.of_cmd {o : Fin 16} {s : State} (h : TurnsOn o s) (b : Bool) :
    TurnsOn o (State.setFlag (FO_CMD o) FO_CMD_ON b s) := by
  have hacts : Acts [] [FO_CMD o] s (State.setFlag (FO_CMD o) FO_CMD_ON b s) := acts_setFlag (.refl _ _ s) _ _ (by simp)
  obtain ⟨hpin, hbank, hveto, hover⟩ := h
  refine ⟨hpin, hbank, ?_, ?_⟩
  · rw [hacts.fld _ (by simp) (foRegs_plain o).1.1 (foRegs_plain o).1.2, hveto]
  · unfold inOver at hover ⊢
    rw [hacts.fld _ ((by decide : ∀ o : Fin 16, SUPPLY_STAT ∉ [FO_CMD o]) o)]
    exact hover

/-! ### Commands -/

theorem applyCommand_field {m o : Nat} {s : State} (h : limpBars s m = false) (w : Word) :
    applyCommand false m (0x400 + o) w s =
      applyFoCmd false (masterClass m) o (fget FO_CMD_ON w == 1) (fget FO_CMD_CLR w == 1) s := by
  unfold applyCommand
  rw [h, if_neg Bool.false_ne_true, Bool.false_and, Bool.false_and, Bool.false_and, if_neg Bool.false_ne_true,
    if_neg (by omega), if_neg (by omega), if_neg (by omega), if_neg (by omega), if_neg (by omega), if_neg (by omega),
    Nat.add_sub_cancel_left]

theorem applyFoCmd_of_any {c o : Nat} {s : State} (h : s.fld (FO_CFG o) FO_CFG_OWNER = 3) (on clr : Bool) :
    applyFoCmd false c o on clr s = foDemandSet o on clr s := by
  have hw : foWatched s o = false := by
    unfold foWatched
    rw [h]
    rfl
  unfold applyFoCmd
  dsimp only
  rw [h, hw]
  rfl

theorem acts_foDemandSet (F : List Nat) (o : Nat) (on clr : Bool) (s : State) :
    Acts F [FO_CMD o, FO_STAT o] s (foDemandSet o on clr s) := by
  have h : Acts F [FO_CMD o, FO_STAT o] s (State.setFlag (FO_CMD o) FO_CMD_ON on s) :=
    acts_setFlag (.refl _ _ s) _ _ (by simp)
  have hs : FO_STAT o ∈ [FO_CMD o, FO_STAT o] := by simp
  have hon := acts_foTurnOn h hs
  have hp : ∀ b, Acts F [FO_CMD o, FO_STAT o] s (State.setFlag (FO_STAT o) FO_STAT_PEND b
      (State.setFlag (FO_CMD o) FO_CMD_ON on s)) := fun b => acts_setFlag h _ _ hs
  unfold foDemandSet
  dsimp only
  refine acts_ite (fun _ => h) fun _ => acts_ite (fun _ => ?_) fun _ => acts_ite (fun _ => ?_) fun _ =>
    acts_ite (fun _ => hon) fun _ => h
  · exact acts_ite (fun _ => acts_foTurnOff h hs _) fun _ => acts_ite (fun _ => hp false) fun _ => h
  · exact acts_ite (fun _ => hon) fun _ => acts_ite (fun _ => hp true) fun _ => acts_ite (fun _ => hon) fun _ => h

section
variable {m : Fin 12} {o : Fin 16} {w : Word} {s : State} (hc : Calm s) (hb : limpBars s m = false)
include hb

theorem exec_foCmdWrite (how : s.fld (FO_CFG o) FO_CFG_OWNER = 3) : exec (.foCmdWrite ⟨m, false⟩ o w) s =
    finish s (foDemandSet o (fget FO_CMD_ON w == 1) (fget FO_CMD_CLR w == 1) s) :=
  congrArg (finish s) ((applyCommand_field hb w).trans (applyFoCmd_of_any how _ _))

include hc

theorem foCmd_turnsOn (how : s.fld (FO_CFG o) FO_CFG_OWNER = 3) (hm : (s.bank (6 + o / 4)).moored = false)
    (hs : foServing s o = true) (hd : foDemand s o = false) (hst : foState s o = foOff)
    (hpin : pinFirst s (113 + o) = true) (hv : s.fld (FO_STAT o) FO_STAT_VETO_T = 0) (ho : inOver s = false)
    (hon : fget FO_CMD_ON w = 1) : Runs (.foCmdWrite ⟨m, false⟩ o w) s fun t =>
      foState t o = foOn ∧ foDemand t o = true ∧ OnlyRegs [FO_CMD o, FO_STAT o] s t := by
  obtain ⟨u, hu⟩ : ∃ u, u = State.setFlag (FO_CMD o) FO_CMD_ON true s := ⟨_, rfl⟩
  have hturns : TurnsOn o u := hu ▸ (⟨hpin, hm, hv, ho⟩ : TurnsOn o s).of_cmd true
  have hset : foDemandSet o true (fget FO_CMD_CLR w == 1) s = foTurnOn o u := by
    unfold foDemandSet
    dsimp only
    rw [hs, hd, hst, hu]
    rfl
  have hx : exec (.foCmdWrite ⟨m, false⟩ o w) s = finish s (foTurnOn o u) := by
    rw [exec_foCmdWrite hb how, hon]
    exact congrArg (finish s) hset
  have hacts : Acts [] [FO_CMD o, FO_STAT o] s (foTurnOn o u) := hset ▸ acts_foDemandSet [] o true _ s
  refine runs_of_calm hx (hacts.calm hc) fun t ht _ => ⟨?_, ?_, ht.onlyRegs hacts⟩
  · exact (ht.foState o).trans (foState_foTurnOn hturns)
  · refine (ht.foDemand o).trans ((foDemand_of_stat (F := []) (acts_foTurnOn (.refl _ _ u) (by simp))).trans ?_)
    rw [hu]
    exact foDemand_setFlag o true s

theorem foCmd_turnsOff (how : s.fld (FO_CFG o) FO_CFG_OWNER = 3) (hs : foServing s o = true) (hst : foState s o = foOn)
    (hoff : fget FO_CMD_ON w = 0) : Runs (.foCmdWrite ⟨m, false⟩ o w) s fun t =>
      foState t o = foDemag ∧ foDemand t o = false ∧ (t.fo o).cause = .off ∧ OnlyRegs [FO_STAT o, FO_CMD o] s t := by
  obtain ⟨u, hu⟩ : ∃ u, u = State.setFlag (FO_CMD o) FO_CMD_ON false s := ⟨_, rfl⟩
  have hset : foDemandSet o false (fget FO_CMD_CLR w == 1) s = foTurnOff o .off u := by
    unfold foDemandSet
    dsimp only
    rw [hs, hst, hu]
    rfl
  have hx : exec (.foCmdWrite ⟨m, false⟩ o w) s = finish s (foTurnOff o .off u) := by
    rw [exec_foCmdWrite hb how, hoff]
    exact congrArg (finish s) hset
  have hacts : Acts [] [FO_CMD o, FO_STAT o] s (foTurnOff o .off u) := hset ▸ acts_foDemandSet [] o false _ s
  refine runs_of_calm hx (hacts.calm hc) fun t ht _ => ⟨?_, ?_, ?_, ht.onlyRegs (hacts.mono fun a ha => by simpa [or_comm] using ha)⟩
  · exact (ht.foState o).trans (foState_foTurnOff o _ u)
  · refine (ht.foDemand o).trans ((foDemand_of_stat (F := []) (acts_foTurnOff (.refl _ _ u) (by simp) _)).trans ?_)
    rw [hu]
    exact foDemand_setFlag o false s
  · rw [ht.fo]
    exact cause_foTurnOff o .off u

theorem foCmd_notOwned (h3 : s.fld (FO_CFG o) FO_CFG_OWNER ≠ 3) (hcl : s.fld (FO_CFG o) FO_CFG_OWNER ≠ masterClass m) :
    Runs (.foCmdWrite ⟨m, false⟩ o w) s fun t =>
      t.fld (FO_STAT o) FO_STAT_NOTOWN = 1 ∧ foState t o = foState s o ∧ foDemand t o = foDemand s o ∧
        OnlyRegs [FO_STAT o, FO_CMD o] s t := by
  obtain ⟨u, hu⟩ : ∃ u, u = State.setFlag (FO_STAT o) FO_STAT_NOTOWN true s := ⟨_, rfl⟩
  have hx : exec (.foCmdWrite ⟨m, false⟩ o w) s = finish s (dieEv 3 102 o u) := by
    refine congrArg (finish s) ((applyCommand_field hb w).trans ?_)
    unfold applyFoCmd
    dsimp only
    rw [if_pos (by simp [h3, hcl]), hu]
  have hactu : Acts [] [FO_STAT o] s u := hu ▸ acts_setFlag (.refl _ _ s) _ _ (by simp)
  have hacts : Acts [] [FO_STAT o] s (dieEv 3 102 o u) := acts_dieEv hactu 3 o (by decide)
  have hf : ∀ f, (dieEv 3 102 o u).fld (FO_STAT o) f = u.fld (FO_STAT o) f := fun f =>
    fld_dieEv _ _ (by decide) _ (foRegs_plain o).1.1
  refine runs_of_calm hx (hacts.calm hc) fun t ht _ => ⟨?_, ?_, ?_, ht.onlyRegs (hacts.mono fun a ha => by simp_all)⟩
  · rw [ht.foStat, hf, hu, State.fld_setFlag_same _ _ _ _ (by decide) (by decide)]
    rfl
  · refine (ht.foState o).trans ((hf FO_STAT_STATE).trans ?_)
    rw [hu]
    exact foState_setFlag o true s (by decide)
  · exact (ht.foDemand o).trans (foDemand_of_stat hacts)

theorem foClr_turnsOn (how : s.fld (FO_CFG o) FO_CFG_OWNER = 3) (hm : (s.bank (6 + o / 4)).moored = false)
    (hs : foServing s o = true) (hd : foDemand s o = true) (hst : foState s o = foTherm)
    (ha : s.fld (FO_CFG o) FO_CFG_AUTO = 0) (hpin : pinFirst s (113 + o) = true)
    (hv : s.fld (FO_STAT o) FO_STAT_VETO_T = 0) (ho : inOver s = false) : Runs (.foClr ⟨m, false⟩ o) s fun t =>
      foState t o = foOn ∧ OnlyRegs [FO_STAT o, FO_CMD o] s t := by
  obtain ⟨u, hu⟩ : ∃ u, u = State.setFlag (FO_CMD o) FO_CMD_ON true s := ⟨_, rfl⟩
  have hturns : TurnsOn o u := hu ▸ (⟨hpin, hm, hv, ho⟩ : TurnsOn o s).of_cmd true
  have hon : (fget FO_CMD_ON (fput FO_CMD_CLR 1 (s.reg (FO_CMD o))) == 1) = true := by
    rw [fget_fput_other _ _ _ _ (by decide)]
    exact hd
  have hset : foDemandSet o true true s = foTurnOn o u := by
    have hauto : s.flag (FO_CFG o) FO_CFG_AUTO = false := by
      unfold State.flag
      rw [ha]
      rfl
    unfold foDemandSet
    dsimp only
    rw [hs, hd, hst, hauto, hu]
    rfl
  have hx : exec (.foClr ⟨m, false⟩ o) s = finish s (foTurnOn o u) := by
    refine congrArg (finish s) ((applyCommand_field hb _).trans ((applyFoCmd_of_any how _ _).trans ?_))
    rw [hon, fget_fput_same _ _ _ (by decide)]
    exact hset
  have hacts : Acts [] [FO_CMD o, FO_STAT o] s (foTurnOn o u) := hset ▸ acts_foDemandSet [] o true _ s
  refine runs_of_calm hx (hacts.calm hc) fun t ht _ => ⟨?_, ht.onlyRegs (hacts.mono fun a ha => by simpa [or_comm] using ha)⟩
  exact (ht.foState o).trans (foState_foTurnOn hturns)

end

/-! ### Safe point, veto and diagnosis -/

theorem flag_of_fld_eq_zero {s : State} {a : Nat} {f : Fld} (h : s.fld a f = 0) : s.flag a f = false := by
  unfold State.flag
  rw [h]
  rfl

theorem flag_of_fld_eq_one {s : State} {a : Nat} {f : Fld} (h : s.fld a f = 1) : s.flag a f = true := by
  unfold State.flag
  rw [h]
  rfl

/-- A turn-off changes STATE, LIM and PEND of FO_STAT. -/
theorem fld_foTurnOff (o : Nat) (c : DemagCause) (s : State) (f : Fld) (hs : f.lo + f.w ≤ 28)
    (hl : f.lo + f.w ≤ 25 ∨ 26 ≤ f.lo) (hp : f.lo + f.w ≤ 19 ∨ 20 ≤ f.lo) :
    (foTurnOff o c s).fld (FO_STAT o) f = s.fld (FO_STAT o) f := by
  have h1 : (State.setFld (FO_STAT o) FO_STAT_STATE foDemag s).fld (FO_STAT o) f = s.fld (FO_STAT o) f :=
    State.fld_setFld_field _ _ _ _ _ (.inl hs)
  have h2 : ∀ u, (State.setFlag (FO_STAT o) FO_STAT_LIM false (State.setFlag (FO_STAT o) FO_STAT_PEND false u)).fld
      (FO_STAT o) f = u.fld (FO_STAT o) f := fun u =>
    (State.fld_setFlag_field _ _ _ _ _ hl).trans (State.fld_setFlag_field _ _ _ _ _ hp)
  exact (h2 _).trans h1

theorem fld_foShownOn (o : Nat) (s : State) (f : Fld) (hs : f.lo + f.w ≤ 28) (hp : f.lo + f.w ≤ 19 ∨ 20 ≤ f.lo) :
    (foShownOn o s).fld (FO_STAT o) f = s.fld (FO_STAT o) f := by
  refine (State.fld_setFld_field _ _ FO_STAT_STATE _ _ (.inl hs)).trans ?_
  exact State.fld_setFlag_field _ _ FO_STAT_PEND _ _ hp

/-- Output `o` shows its junction temperature and the end of its veto. -/
def foVetoEnded (o : Nat) (x : Int) (s : State) : State := State.setFlag (FO_STAT o) FO_STAT_VETO_T false (putFoTj o x s)

/-- Output `o` shows its junction temperature, the veto and the shutdown. -/
def foOverheated (o : Nat) (x : Int) (s : State) : State :=
  dieEv 3 98 o (State.setFlag (FO_STAT o) FO_STAT_THERM true (State.setFlag (FO_STAT o) FO_STAT_VETO_T true (putFoTj o x s)))

section
variable {F l : List Nat} {s t : State} (h : Acts F l s t) {o : Nat} (hl : FO_STAT o ∈ l)
include h hl

theorem acts_foVetoEnded (x : Int) : Acts F l s (foVetoEnded o x t) := acts_setFlag (acts_setFld h _ _ hl) _ _ hl

theorem acts_foOverheated (x : Int) : Acts F l s (foOverheated o x t) :=
  acts_dieEv (acts_setFlag (acts_setFlag (acts_setFld h _ _ hl) _ _ hl) _ _ hl) 3 o (by decide)

end

section
variable {o : Fin 16} {s : State} (hc : Calm s)
include hc

theorem foSafePoint_off {pin : Int} (hst : foState s o = foDemag) (hp : 0 < pin) (hcause : (s.fo o).cause = .off)
    (hpend : s.fld (FO_STAT o) FO_STAT_PEND = 0) : Runs (.demagSafePoint o pin) s fun t =>
      foState t o = foOff ∧ OnlyRegs [FO_STAT o] s t := by
  obtain ⟨u, hu⟩ : ∃ u, u = State.setFlag (FO_STAT o) FO_STAT_PEND false s := ⟨_, rfl⟩
  have hx : exec (.demagSafePoint o pin) s = finish s (setFoState o foOff u) := by
    refine congrArg (finish s) ((if_pos ⟨hst, hp⟩).trans ?_)
    unfold demagSafePoint
    dsimp only
    rw [hcause, flag_of_fld_eq_zero hpend, hu]
    rfl
  have hacts : Acts [] [FO_STAT o] s (setFoState o foOff u) :=
    acts_setFoState (hu ▸ acts_setFlag (.refl _ _ s) _ _ (by simp)) (by simp) _
  refine runs_of_calm hx (hacts.calm hc) fun t ht _ => ⟨?_, ht.onlyRegs hacts⟩
  exact (ht.foState o).trans (foState_setFoState o (by decide) u)

theorem foThermal_turnsOff {x : Int} (h160 : 160 ≤ x) (h200 : x ≤ 200) (hv : s.fld (FO_STAT o) FO_STAT_VETO_T = 0)
    (hst : foState s o = foOn) : Runs (.foThermalShutdown o x) s fun t =>
      t.fld (FO_STAT o) FO_STAT_VETO_T = 1 ∧ t.fld (FO_STAT o) FO_STAT_THERM = 1 ∧ foState t o = foDemag ∧
        (t.fo o).cause = .therm ∧ t.fld (FO_STAT o) FO_STAT_TJ = (x + 55).toNat ∧ OnlyRegs [FO_STAT o] s t := by
  have hx : exec (.foThermalShutdown o x) s = finish s (foTurnOff o .therm (foOverheated o x s)) := by
    refine congrArg (finish s) ?_
    unfold foThermal
    dsimp only
    rw [if_pos ⟨h160, flag_of_fld_eq_zero hv⟩, if_pos hst, foOverheated]
  have hacts : Acts [] [FO_STAT o] s (foTurnOff o .therm (foOverheated o x s)) :=
    acts_foTurnOff (acts_foOverheated (.refl _ _ s) (by simp) x) (by simp) _
  have hev : ∀ f, (foOverheated o x s).fld (FO_STAT o) f = (State.setFlag (FO_STAT o) FO_STAT_THERM true
      (State.setFlag (FO_STAT o) FO_STAT_VETO_T true (putFoTj o x s))).fld (FO_STAT o) f := fun f =>
    fld_dieEv _ _ (by decide) f (foRegs_plain o).1.1
  refine runs_of_calm hx (hacts.calm hc) fun t ht _ => ⟨?_, ?_, ?_, ?_, ?_, ht.onlyRegs hacts⟩
  · rw [ht.foStat, fld_foTurnOff _ _ _ _ (by decide) (by decide) (by decide), hev,
      State.fld_setFlag_field _ _ _ _ _ (by decide), State.fld_setFlag_same _ _ _ _ (by decide) (by decide)]
    rfl
  · rw [ht.foStat, fld_foTurnOff _ _ _ _ (by decide) (by decide) (by decide), hev,
      State.fld_setFlag_same _ _ _ _ (by decide) (by decide)]
    rfl
  · exact (ht.foState o).trans (foState_foTurnOff o _ _)
  · rw [ht.fo]
    exact cause_foTurnOff o _ _
  · have htj : clampN 0 255 (x + 55).toNat = (x + 55).toNat := by
      rw [clampN, if_neg (Nat.not_lt_zero _), if_neg (by omega)]
    rw [ht.foStat, fld_foTurnOff _ _ _ _ (by decide) (by decide) (by decide), hev,
      State.fld_setFlag_field _ _ _ _ _ (by decide), State.fld_setFlag_field _ _ _ _ _ (by decide), putFoTj,
      State.fld_setFld_same _ _ _ _ (by decide), htj]
    exact Nat.mod_eq_of_lt (show _ < 256 by omega)

theorem foAuto_turnsOn {x : Int} (hx140 : x < 140) (hv : s.fld (FO_STAT o) FO_STAT_VETO_T = 1) (hst : foState s o = foTherm)
    (hauto : s.fld (FO_CFG o) FO_CFG_AUTO = 1) (hd : foDemand s o = true) (hm : (s.bank (6 + o / 4)).moored = false)
    (hs : foServing s o = true) (hpin : pinFirst s (113 + o) = true) (ho : inOver s = false) :
    Runs (.foAutoRestart o x) s fun t =>
      t.fld (FO_STAT o) FO_STAT_VETO_T = 0 ∧ foState t o = foOn ∧ OnlyRegs [FO_STAT o] s t := by
  obtain ⟨u, hu⟩ : ∃ u, u = foVetoEnded o x s := ⟨_, rfl⟩
  have hactu : Acts [] [FO_STAT o] s u := hu ▸ acts_foVetoEnded (.refl _ _ s) (by simp) x
  have hveto : u.fld (FO_STAT o) FO_STAT_VETO_T = 0 := by
    rw [hu, foVetoEnded, State.fld_setFlag_same _ _ _ _ (by decide) (by decide)]
    rfl
  have hover : inOver u = false := by
    unfold inOver at ho ⊢
    rw [hactu.fld _ ((by decide : ∀ o : Fin 16, SUPPLY_STAT ∉ [FO_STAT o]) o)]
    exact ho
  have hturns : TurnsOn o u := ⟨hu ▸ hpin, hu ▸ hm, hveto, hover⟩
  have hua : u.flag (FO_CFG o) FO_CFG_AUTO = true := by
    refine flag_of_fld_eq_one ((hactu.fld _ ?_ ?_ ?_).trans hauto)
    · exact (by decide : ∀ o : Fin 16, FO_CFG o ∉ [FO_STAT o]) o
    · exact (by decide : ∀ o : Fin 16, reportReg (FO_CFG o) = false) o
    · exact (by decide : ∀ o : Fin 16, FO_CFG o ≠ NETPM_STAT) o
  have hlive : (foDemand u o && foServing u o) = true := by
    rw [foDemand_of_stat hactu, hd]
    exact hu ▸ hs
  have hrel : foRelease o u = dieEv 3 99 o (foTurnOn o u) := by
    unfold foRelease
    dsimp only
    rw [hua, hlive, if_pos rfl, if_pos rfl, if_pos (foState_foTurnOn hturns)]
  have hx : exec (.foAutoRestart o x) s = finish s (dieEv 3 99 o (foTurnOn o u)) := by
    refine congrArg (finish s) (Eq.trans ?_ hrel)
    unfold foVetoClear
    dsimp only
    rw [if_pos ⟨hx140, flag_of_fld_eq_one hv⟩, if_pos hst, hu, foVetoEnded]
  have hacts : Acts [] [FO_STAT o] s (dieEv 3 99 o (foTurnOn o u)) :=
    acts_dieEv (acts_foTurnOn hactu (by simp)) 3 o (by decide)
  have hf : ∀ f, (dieEv 3 99 o (foTurnOn o u)).fld (FO_STAT o) f = (foTurnOn o u).fld (FO_STAT o) f := fun f =>
    fld_dieEv _ _ (by decide) f (foRegs_plain o).1.1
  refine runs_of_calm hx (hacts.calm hc) fun t ht _ => ⟨?_, ?_, ht.onlyRegs hacts⟩
  · rw [ht.foStat, hf, foTurnOn_eq hturns]
    exact (fld_foShownOn o u _ (by decide) (by decide)).trans hveto
  · exact (ht.foState o).trans ((hf FO_STAT_STATE).trans (foState_foTurnOn hturns))

/-! ### Diagnosis, owner limp and restart -/

theorem foDiagnosis_open {ua mv dur : Nat} (hen : s.fld (FO_CFG o) FO_CFG_DIAG_EN = 1)
    (hm : (s.bank (6 + o / 4)).moored = false) (hst : foState s o = foOn) (hua : ua < 5000) (hdur : 10000000 ≤ dur)
    (hnow : (s.fo o).openNow = false) : Runs (.foDiagnosis o ua mv dur) s fun t =>
      t.fld (FO_STAT o) FO_STAT_OPEN = 1 ∧ (t.fo o).openNow = true ∧ OnlyRegs [FO_STAT o] s t := by
  obtain ⟨u, hu⟩ : ∃ u, u = State.setFlag (FO_STAT o) FO_STAT_LIM false s := ⟨_, rfl⟩
  have hactu : Acts [] [FO_STAT o] s u := hu ▸ acts_setFlag (.refl _ _ s) _ _ (by simp)
  obtain ⟨v, hv⟩ : ∃ v, v = State.modFo o (fun x => { x with openNow := true })
      (State.setFlag (FO_STAT o) FO_STAT_OPEN true u) := ⟨_, rfl⟩
  have hlim : foLimit o ua s = u := by
    unfold foLimit
    rw [if_neg (not_not.2 hst), if_pos (by omega), hu]
  have hug : u.flag (FO_CFG o) FO_CFG_DIAG_EN = true := by
    refine flag_of_fld_eq_one ((hactu.fld _ ?_ ?_ ?_).trans hen)
    · exact (by decide : ∀ o : Fin 16, FO_CFG o ∉ [FO_STAT o]) o
    · exact (by decide : ∀ o : Fin 16, reportReg (FO_CFG o) = false) o
    · exact (by decide : ∀ o : Fin 16, FO_CFG o ≠ NETPM_STAT) o
  have hum : (u.bank (6 + o / 4)).moored = false := hu ▸ hm
  have hun : (u.fo o).openNow = false := hu ▸ hnow
  have hus : foState u o = foOn := by
    rw [hu, foState_setFlag o false s (by decide), hst]
  have hx : exec (.foDiagnosis o ua mv dur) s = finish s (dieEv 3 100 o v) := by
    refine congrArg (finish s) ((congrArg (foDiagnosis o ua mv dur) hlim).trans ?_)
    unfold foDiagnosis
    rw [hug, hum, if_neg (by simp), if_pos hus, if_pos ⟨hua, hdur⟩, hun, if_neg Bool.false_ne_true, hv]
  have hactv : Acts [] [FO_STAT o] s v := hv ▸ acts_modFo (acts_setFlag hactu _ _ (by simp)) _
  have hacts : Acts [] [FO_STAT o] s (dieEv 3 100 o v) := acts_dieEv hactv 3 o (by decide)
  refine runs_of_calm hx (hacts.calm hc) fun t ht _ => ⟨?_, ?_, ht.onlyRegs hacts⟩
  · rw [ht.foStat, fld_dieEv _ _ (by decide) _ (foRegs_plain o).1.1, hv]
    exact State.fld_setFlag_same u _ _ _ (by decide) (by decide)
  · rw [ht.fo, fo_dieEv, hv, State.fo_modFo_same]

theorem ownerWindow_ends {e : Nat} (hown : (s.fo o).ownEnd = some e) (hle : e ≤ s.now) :
    Runs (.ownerWindowExpiry o) s fun t =>
      t.fld (FO_STAT o) FO_STAT_OLIMP = 1 ∧ (t.fo o).ownEnd = none ∧
        (t.fo o).limpEnd = some (s.now + foLimpTime s o) ∧ OnlyRegs [FO_STAT o] s t := by
  obtain ⟨v, hv⟩ : ∃ v, v = State.modFo o (fun x => { x with ownEnd := none, limpEnd := some (s.now + foLimpTime s o) })
    (State.setFlag (FO_STAT o) FO_STAT_OLIMP true s) := ⟨_, rfl⟩
  have hx : exec (.ownerWindowExpiry o) s = finish s (dieEv 3 103 o v) := by
    refine congrArg (finish s) ?_
    rw [hown]
    exact (if_pos hle).trans (congrArg (dieEv 3 103 o) hv.symm)
  have hactv : Acts [] [FO_STAT o] s v := hv ▸ acts_modFo (acts_setFlag (.refl _ _ s) _ _ (by simp)) _
  have hacts : Acts [] [FO_STAT o] s (dieEv 3 103 o v) := acts_dieEv hactv 3 o (by decide)
  have hfo : v.fo o = { s.fo o with ownEnd := none, limpEnd := some (s.now + foLimpTime s o) } := by
    rw [hv, State.fo_modFo_same]
    rfl
  refine runs_of_calm hx (hacts.calm hc) fun t ht _ => ⟨?_, ?_, ?_, ht.onlyRegs hacts⟩
  · rw [ht.foStat, fld_dieEv _ _ (by decide) _ (foRegs_plain o).1.1, hv]
    exact State.fld_setFlag_same s _ _ _ (by decide) (by decide)
  · rw [ht.fo, fo_dieEv, hfo]
  · rw [ht.fo, fo_dieEv, hfo]

theorem ownerLimp_ends {e : Nat} (hlimp : (s.fo o).limpEnd = some e) (hle : e ≤ s.now)
    (hsafe : s.fld (FO_CFG o) FO_CFG_SAFE = 2) (hr : actingReact s 67 = 0) (ho : resetOverdue s = false) :
    Runs (.ownerLimpExpiry o) s fun t =>
      t.fld (FO_STAT o) FO_STAT_OSAFE = 1 ∧ (t.fo o).limpEnd = none ∧ foState t o = foState s o ∧
        OnlyRegs [FO_STAT o, FO_CMD o] s t := by
  obtain ⟨v, hv⟩ : ∃ v, v = State.setFlag (FO_STAT o) FO_STAT_OSAFE true
    (State.modFo o (fun x => { x with limpEnd := none }) s) := ⟨_, rfl⟩
  have hactv : Acts [67] [FO_STAT o] s v := hv ▸ acts_setFlag (acts_modFo (.refl _ _ s) _) _ _ (by simp)
  have hkeep : foSafe o v = v := by
    have hvs : v.fld (FO_CFG o) FO_CFG_SAFE = 2 := by
      refine (hactv.fld _ ?_ ?_ ?_).trans hsafe
      · exact (by decide : ∀ o : Fin 16, FO_CFG o ∉ [FO_STAT o]) o
      · exact (by decide : ∀ o : Fin 16, reportReg (FO_CFG o) = false) o
      · exact (by decide : ∀ o : Fin 16, FO_CFG o ≠ NETPM_STAT) o
    unfold foSafe
    rw [hvs]
    rfl
  have hx : exec (.ownerLimpExpiry o) s = finish s (dieFault 3 67 (dieEv 3 104 o v)) := by
    refine congrArg (finish s) ?_
    rw [hlimp]
    refine (if_pos hle).trans ?_
    unfold foOwnerSafe
    dsimp only
    rw [← hv, hkeep]
  have hacts : Acts [67] [FO_STAT o] s (dieFault 3 67 (dieEv 3 104 o v)) :=
    acts_dieFault (acts_dieEv hactv 3 o (by decide)) 3 (by decide) (by simp)
  have hf : ∀ f, (dieFault 3 67 (dieEv 3 104 o v)).fld (FO_STAT o) f = v.fld (FO_STAT o) f := fun f => by
    rw [fld_dieFault _ (by decide) f (foRegs_plain o).1.1, fld_dieEv _ _ (by decide) f (foRegs_plain o).1.1]
  refine runs_of_noticed hx (hacts.noticed hc fun n hn => ?_) (hacts.notOverdue ho) fun t ht _ =>
    ⟨?_, ?_, ?_, ht.onlyRegs (hacts.mono fun a ha => by simp_all)⟩
  · obtain rfl := List.mem_singleton.1 hn
    exact ⟨by decide, (by decide : ∀ o : Fin 16, FAULT_CFG 67 ∉ [FO_STAT o]) o, hr⟩
  · rw [ht.foStat, hf, hv]
    exact State.fld_setFlag_same _ _ _ _ (by decide) (by decide)
  · have hfo : v.fo o = { s.fo o with limpEnd := none } := by
      rw [hv]
      exact Eq.trans (b := (State.modFo o (fun x => { x with limpEnd := none }) s).fo o) rfl (State.fo_modFo_same o _ s)
    rw [ht.fo, fo_dieFault, fo_dieEv, hfo]
  · refine (ht.foState o).trans ((hf FO_STAT_STATE).trans ?_)
    rw [hv]
    exact foState_setFlag o true _ (by decide)

end

/-- The restart slot of the next output is taken. -/
def foSlotTaken (rest : List Nat) (s : State) : State :=
  { s with fieldBank := { queue := rest, slotDue := s.fieldBank.slotDue + 50000 } }

section
variable {o : Fin 16} {rest : List Nat} {s : State} (hc : Calm s) (hq : s.fieldBank.queue = o.val :: rest)
  (hdue : s.fieldBank.slotDue ≤ s.now) (ho : inOver s = false) (hst : foState s o = foSupply)
include hq hdue ho hst

theorem exec_foOverRestartSlot : exec .foOverRestartSlot s = finish s
    (if foDemand s o && foServing s o then foTurnOn o (foSlotTaken rest s) else setFoState o foOff (foSlotTaken rest s)) := by
  refine congrArg (finish s) ?_
  unfold foRestartSlot
  rw [hq]
  exact (if_pos ⟨hdue, ho⟩).trans (if_pos hst)

include hc

theorem foRestart_off (hd : foDemand s o = false) : Runs .foOverRestartSlot s fun t =>
    foState t o = foOff ∧ t.fieldBank.queue = rest ∧ t.fieldBank.slotDue = s.fieldBank.slotDue + 50000 ∧
      OnlyRegs [FO_STAT o] s t := by
  obtain ⟨u, hu⟩ : ∃ u, u = foSlotTaken rest s := ⟨_, rfl⟩
  have hx : exec .foOverRestartSlot s = finish s (setFoState o foOff u) := by
    rw [exec_foOverRestartSlot hq hdue ho hst, hd, hu]
    rfl
  have hactu : Acts [] [FO_STAT o] s u := hu ▸ (Acts.refl _ _ s)
  have hacts := acts_setFoState (o := o) hactu (by simp) foOff
  have hb : (setFoState o foOff u).fieldBank = u.fieldBank := rfl
  refine runs_of_calm hx (hacts.calm hc) fun t ht _ => ⟨?_, ?_, ?_, ht.onlyRegs hacts⟩
  · exact (ht.foState o).trans (foState_setFoState o (by decide) u)
  · rw [ht.fieldBank, hb, hu, foSlotTaken]
  · rw [ht.fieldBank, hb, hu, foSlotTaken]

theorem foRestart_on (hd : foDemand s o = true) (hm : (s.bank (6 + o / 4)).moored = false) (hs : foServing s o = true)
    (hpin : pinFirst s (113 + o) = true) (hv : s.fld (FO_STAT o) FO_STAT_VETO_T = 0) : Runs .foOverRestartSlot s fun t =>
    foState t o = foOn ∧ t.fieldBank.queue = rest := by
  obtain ⟨u, hu⟩ : ∃ u, u = foSlotTaken rest s := ⟨_, rfl⟩
  have hturns : TurnsOn o u := hu ▸ ⟨hpin, hm, hv, ho⟩
  have hx : exec .foOverRestartSlot s = finish s (foTurnOn o u) := by
    rw [exec_foOverRestartSlot hq hdue ho hst, hd, hs, hu]
    rfl
  have hactu : Acts [] [FO_STAT o] s u := hu ▸ (Acts.refl _ _ s)
  have hacts := acts_foTurnOn hactu (o := o) (by simp)
  have hb : (foTurnOn o u).fieldBank = u.fieldBank := by
    rw [foTurnOn_eq hturns]
    rfl
  refine runs_of_calm hx (hacts.calm hc) fun t ht _ => ⟨?_, ?_⟩
  · exact (ht.foState o).trans (foState_foTurnOn hturns)
  · rw [ht.fieldBank, hb, hu, foSlotTaken]

end

/-- Settles O12: the inputs and the field outputs, clause by clause. -/
theorem inputsAndOutputs : Obligations.InputsAndOutputs := by
  unfold Obligations.InputsAndOutputs
  refine ⟨?_, ?_, fun _ _ _ hc hw he hl => debounced_changes hc hw he hl,
    fun _ _ _ _ hc hw hup hd => inputChange_delivered hc hw hup hd,
    fun _ _ _ hc hd hr hm hw hn => inputPoll_counts hc hd hr hm hw hn,
    fun _ _ _ _ hc hb how hm hs hd hst hpin hv ho hon => foCmd_turnsOn hc hb how hm hs hd hst hpin hv ho hon,
    fun _ _ _ _ hc hb how hs hst hoff => foCmd_turnsOff hc hb how hs hst hoff,
    fun _ _ _ _ hc hb h3 hcl => foCmd_notOwned hc hb h3 hcl,
    fun _ _ _ hc hb how hm hs hd hst ha hpin hv ho => foClr_turnsOn hc hb how hm hs hd hst ha hpin hv ho,
    fun _ _ _ hc hst hp hcause hpend => foSafePoint_off hc hst hp hcause hpend,
    fun _ _ _ hc h160 h200 hv hst => foThermal_turnsOff hc h160 h200 hv hst,
    fun _ _ _ hc hx hv hst ha hd hm hs hpin ho => foAuto_turnsOn hc hx hv hst ha hd hm hs hpin ho,
    fun _ _ _ _ _ hc hen hm hst hua hdur hnow => foDiagnosis_open hc hen hm hst hua hdur hnow,
    fun _ _ _ hc hown hle => ownerWindow_ends hc hown hle,
    fun _ _ _ hc hlimp hle hsafe hr ho => ownerLimp_ends hc hlimp hle hsafe hr ho,
    fun _ _ _ hc hq hdue ho hst hd => foRestart_off hc hq hdue ho hst hd,
    fun _ _ _ hc hq hdue ho hst hd hm hs hpin hv => foRestart_on hc hq hdue ho hst hd hm hs hpin hv⟩
  · intro j mv s hc hl hcl hw hlvl hmv
    refine rawLevelChange_opens (b := true) hc hl hcl hw hlvl ?_
    unfold inReads
    rw [decide_eq_true hmv, Bool.true_or]
  · intro j mv s hc hl hcl hw hlvl ⟨h1, h2⟩
    refine rawLevelChange_opens (b := false) hc hl hcl hw hlvl ?_
    unfold inReads
    rw [decide_eq_false (not_lt.2 h1.le), decide_eq_false (not_le.2 h2), Bool.and_false, Bool.false_or]

end Sys2Proof.Machine
end

section
/-! Rate detection and the J1939 address claim of the CAN controllers (R365, R366). -/

namespace Sys2Proof.Machine

theorem State.can_modCan_same (c : Nat) (f : CanCtl → CanCtl) (s : State) : (State.modCan c f s).can c = f (s.can c) :=
  Tab.get_mod_same _ _ _ _

theorem Settled.can {s u t : State} (h : Settled s u t) (c : Nat) : t.can c = u.can c := by
  rw [h.frame]
  rfl

/-- The registers of controller `c` that rate detection and the address claim write. -/
def rateRegs (c : Nat) : List Nat := [CAN_RDET c, CAN_STAT c, CAN_NBT c, CAN_CTRL c, CAN_J1939 c]

theorem rateRegs_plain : ∀ c : Fin 8, ∀ a ∈ rateRegs c, reportReg a = false ∧ a ≠ NETPM_STAT := by decide

theorem Settled.rateReg {s u t : State} (h : Settled s u t) (c : Fin 8) {a : Nat} (ha : a ∈ rateRegs c) : t.reg a = u.reg a :=
  h.regs a (rateRegs_plain c a ha).1 (rateRegs_plain c a ha).2

theorem reg_raiseEv_rate {n : Nat} (hn : n < 256) (i : Nat) (s : State) (c : Fin 8) {a : Nat} (ha : a ∈ rateRegs c) :
    (raiseEv n i s).reg a = s.reg a := raiseEv_regs n i s hn a (rateRegs_plain c a ha).1

/-! ### Rate detection -/

/-- The word of CAN_RDET that shows candidate `i` found. -/
def rdFoundWord (i : Nat) (w : Word) : Word := fput CAN_RDET_DONE 1 (fput CAN_RDET_FOUND 1 (fput CAN_RDET_CAND i w))

theorem rdFoundWord_shows {i : Nat} (hi : i < 8) (w : Word) : fget CAN_RDET_DONE (rdFoundWord i w) = 1 ∧
    fget CAN_RDET_FOUND (rdFoundWord i w) = 1 ∧ fget CAN_RDET_CAND (rdFoundWord i w) = i := by
  unfold rdFoundWord
  refine ⟨fget_fput_same _ _ _ (by decide), ?_, ?_⟩
  · exact (fget_fput_other _ _ _ _ (by decide)).trans (fget_fput_same _ _ _ (by decide))
  · rw [fget_fput_other _ _ _ _ (by decide), fget_fput_other _ _ _ _ (by decide), fget_fput_same _ _ _ (by decide)]
    exact Nat.mod_eq_of_lt hi

/-- RDET and STAT show that a candidate has been confirmed. -/
def rdShown (c i : Nat) (s : State) : State :=
  State.setFlag (CAN_STAT c) CAN_STAT_RDOK true (State.setReg (CAN_RDET c) (rdFoundWord i (s.reg (CAN_RDET c))) s)

/-- The controller loads the bit time of candidate `i` and goes to mode 0. -/
def rdLoaded (c i : Nat) (s : State) : State :=
  State.setFld (CAN_CTRL c) CAN_CTRL_MODE 0 (State.setReg (CAN_NBT c) (s.reg (CAN_RCAND c i)) (rdShown c i s))

/-- What the confirmation of a candidate leaves in the registers. -/
def rdTaken (c i : Nat) (s : State) : State :=
  if s.flag (CAN_CTRL c) CAN_CTRL_RD_AUTO then rdLoaded c i s else rdShown c i s

theorem rdFound_eq (c i : Nat) (s : State) :
    rdFound c i s = raiseEv 136 c (State.modCan c (fun x => { x with rdCand := none }) (rdTaken c i s)) := rfl

theorem acts_rdShown {F l : List Nat} {s : State} {c : Nat} (i : Nat) (hd : CAN_RDET c ∈ l) (ht : CAN_STAT c ∈ l) :
    Acts F l s (rdShown c i s) := acts_setFlag (acts_setReg (.refl _ _ s) _ hd) _ _ ht

theorem acts_rdTaken (F : List Nat) (c i : Nat) (s : State) :
    Acts F [CAN_RDET c, CAN_STAT c, CAN_NBT c, CAN_CTRL c] s (rdTaken c i s) := by
  have h := acts_rdShown (F := F) (s := s) (c := c) (l := [CAN_RDET c, CAN_STAT c, CAN_NBT c, CAN_CTRL c]) i (by simp) (by simp)
  exact acts_ite (fun _ => acts_setFld (acts_setReg h _ (by simp)) _ _ (by simp)) fun _ => h

/-- Loading the bit time leaves RDET and STAT. -/
theorem reg_rdTaken (c : Fin 8) (i : Nat) (s : State) {a : Nat} (ha : a ∈ [CAN_RDET c, CAN_STAT c]) :
    (rdTaken c i s).reg a = (rdShown c i s).reg a := by
  unfold rdTaken
  split
  · have hne : ∀ c : Fin 8, ∀ a ∈ [CAN_RDET c, CAN_STAT c], a ≠ CAN_CTRL c ∧ a ≠ CAN_NBT c := by decide
    exact (State.reg_setReg_other _ _ (hne c a ha).1).trans (State.reg_setReg_other _ _ (hne c a ha).2)
  · rfl

theorem rdShown_rdet (c : Fin 8) (i : Nat) (s : State) :
    (rdShown c i s).reg (CAN_RDET c) = rdFoundWord i (s.reg (CAN_RDET c)) :=
  (State.reg_setReg_other _ _ ((by decide : ∀ c : Fin 8, CAN_RDET c ≠ CAN_STAT c) c)).trans (State.reg_setReg_same _ _ _)

theorem rdLoaded_nbt (c : Fin 8) (i : Nat) (s : State) : (rdLoaded c i s).reg (CAN_NBT c) = s.reg (CAN_RCAND c i) :=
  (State.reg_setReg_other _ _ ((by decide : ∀ c : Fin 8, CAN_NBT c ≠ CAN_CTRL c) c)).trans (State.reg_setReg_same _ _ _)

/-- The search leaves the registers, and starts again without a good frame and without a rejected candidate. -/
theorem rdNext_starts (c : Nat) (u : State) (h : (u.can c).rdTried = []) :
    (∀ a, (rdNext c u).reg a = u.reg a) ∧ ((rdNext c u).can c).rdGood = 0 ∧ ((rdNext c u).can c).rdTried = [] := by
  unfold rdNext
  split
  · rw [State.can_modCan_same]
    exact ⟨fun _ => rfl, rfl, h⟩
  · rw [State.can_modCan_same]
    exact ⟨fun _ => rfl, rfl, rfl⟩

theorem acts_rdNext {F l : List Nat} {s t : State} (h : Acts F l s t) {c : Nat} : Acts F l s (rdNext c t) := by
  unfold rdNext
  split <;> exact h

section
variable {c : Fin 8} {s : State} (hc : Calm s)
include hc

theorem rate_confirmed {minbit i : Nat} (hr : rdRuns s c = true) (hcand : (s.can c).rdCand = some i)
    (hg : 1 ≤ (s.can c).rdGood) (hi : i < 8) : Runs (.rateDetection c 1 minbit) s fun t =>
      t.fld (CAN_RDET c) CAN_RDET_DONE = 1 ∧ t.fld (CAN_RDET c) CAN_RDET_FOUND = 1 ∧ t.fld (CAN_RDET c) CAN_RDET_CAND = i ∧
        t.fld (CAN_STAT c) CAN_STAT_RDOK = 1 ∧
        (s.fld (CAN_CTRL c) CAN_CTRL_RD_AUTO = 1 → t.reg (CAN_NBT c) = s.reg (CAN_RCAND c i) ∧
          t.fld (CAN_CTRL c) CAN_CTRL_MODE = 0) ∧
        OnlyRegs [CAN_RDET c, CAN_STAT c, CAN_NBT c, CAN_CTRL c] s t := by
  obtain ⟨u, hu⟩ : ∃ u, u = rdTaken c i s := ⟨_, rfl⟩
  have hx : exec (.rateDetection c 1 minbit) s =
      finish s (raiseEv 136 c (State.modCan c (fun x => { x with rdCand := none }) u)) := by
    refine congrArg (finish s) ((if_pos hr).trans ?_)
    rw [hu, ← rdFound_eq]
    unfold rateStep
    rw [hcand]
    exact if_pos hg
  have hactu : Acts [] [CAN_RDET c, CAN_STAT c, CAN_NBT c, CAN_CTRL c] s u := hu ▸ acts_rdTaken [] c i s
  have hacts : Acts [] [CAN_RDET c, CAN_STAT c, CAN_NBT c, CAN_CTRL c] s
      (raiseEv 136 c (State.modCan c (fun x => { x with rdCand := none }) u)) :=
    acts_raiseEv (n := 136) (t := State.modCan c _ u) hactu c (by decide)
  refine runs_of_calm hx (hacts.calm hc) fun t ht _ => ?_
  have hreg : ∀ a ∈ rateRegs c, t.reg a = u.reg a := fun a ha =>
    (ht.rateReg c ha).trans (reg_raiseEv_rate (n := 136) (by decide) c _ c ha)
  have hrdet : t.reg (CAN_RDET c) = rdFoundWord i (s.reg (CAN_RDET c)) := by
    rw [hreg _ (by simp [rateRegs]), hu, reg_rdTaken c i s (by simp), rdShown_rdet]
  obtain ⟨hdone, hfound, hcd⟩ := rdFoundWord_shows hi (s.reg (CAN_RDET c))
  refine ⟨(congrArg _ hrdet).trans hdone, (congrArg _ hrdet).trans hfound, (congrArg _ hrdet).trans hcd, ?_, fun ha => ?_,
    ht.onlyRegs hacts⟩
  · have hstat : t.reg (CAN_STAT c) = (rdShown c i s).reg (CAN_STAT c) := by
      rw [hreg _ (by simp [rateRegs]), hu, reg_rdTaken c i s (by simp)]
    exact (congrArg (fget CAN_STAT_RDOK) hstat).trans (State.fld_setFlag_same _ _ _ _ (by decide) (by decide))
  · have huload : u = rdLoaded c i s := hu.trans (if_pos (flag_of_fld_eq_one ha))
    refine ⟨?_, ?_⟩
    · rw [hreg _ (by simp [rateRegs]), huload, rdLoaded_nbt]
    · refine (congrArg (fget CAN_CTRL_MODE) (hreg (CAN_CTRL c) (by simp [rateRegs]))).trans ?_
      rw [huload]
      exact State.fld_setFld_same _ _ _ _ (by decide)

theorem rate_measured {minbit : Nat} (hr : rdRuns s c = true) (hcand : (s.can c).rdCand = none)
    (hm : minbit < 2 ^ CAN_RDET_MINBIT.w) : Runs (.rateDetection c 0 minbit) s fun t =>
      t.fld (CAN_RDET c) CAN_RDET_MINBIT = minbit ∧ (t.can c).rdGood = 0 ∧ (t.can c).rdTried = [] ∧
        OnlyRegs [CAN_RDET c] s t := by
  obtain ⟨u, hu⟩ : ∃ u, u = State.setFld (CAN_RDET c) CAN_RDET_MINBIT minbit s := ⟨_, rfl⟩
  obtain ⟨v, hv⟩ : ∃ v, v = State.modCan c (fun x => { x with rdTried := [] }) u := ⟨_, rfl⟩
  have hx : exec (.rateDetection c 0 minbit) s = finish s (rdNext c v) := by
    refine congrArg (finish s) ((if_pos hr).trans ?_)
    unfold rateStep
    rw [hcand, hv, hu]
    rfl
  have htried : (v.can c).rdTried = [] := by rw [hv, State.can_modCan_same]
  obtain ⟨hrn, hcn⟩ := rdNext_starts c v htried
  have hactu : Acts [] [CAN_RDET c] s u := hu ▸ acts_setFld (.refl _ _ s) _ _ (by simp)
  have hactv : Acts [] [CAN_RDET c] s v := hv ▸ hactu
  have hacts : Acts [] [CAN_RDET c] s (rdNext c v) := acts_rdNext hactv
  refine runs_of_calm hx (hacts.calm hc) fun t ht _ => ⟨?_, ?_, ?_, ht.onlyRegs hacts⟩
  · refine (congrArg (fget CAN_RDET_MINBIT) ((ht.rateReg c (by simp [rateRegs])).trans (hrn _))).trans ?_
    rw [hv, hu]
    exact (State.fld_setFld_same s _ _ _ (by decide)).trans (Nat.mod_eq_of_lt hm)
  · rw [ht.can, hcn.1]
  · rw [ht.can, hcn.2]

theorem rate_timesOut (hrun : canRuns s c = true) (hmode : canMode s c = 2) (hd : s.fld (CAN_RDET c) CAN_RDET_DONE = 0)
    (hto : 0 < s.fld (CAN_CTRL c) CAN_CTRL_RD_TO)
    (hdue : (s.can c).rdStart + s.fld (CAN_CTRL c) CAN_CTRL_RD_TO * 10000000 ≤ s.now) :
    Runs (.rateDetectionTimeout c) s fun t =>
      t.fld (CAN_RDET c) CAN_RDET_DONE = 1 ∧ t.fld (CAN_RDET c) CAN_RDET_FOUND = 0 ∧
        t.fld (CAN_STAT c) CAN_STAT_RDFAIL = 1 ∧ (t.can c).rdCand = none ∧ OnlyRegs [CAN_RDET c, CAN_STAT c] s t := by
  obtain ⟨u, hu⟩ : ∃ u, u = State.setFlag (CAN_RDET c) CAN_RDET_DONE true
    (State.setFlag (CAN_RDET c) CAN_RDET_FOUND false s) := ⟨_, rfl⟩
  obtain ⟨v, hv⟩ : ∃ v, v = State.setFlag (CAN_STAT c) CAN_STAT_RDFAIL true
    (State.modCan c (fun x => { x with rdCand := none, rdGood := 0 }) u) := ⟨_, rfl⟩
  have hlim : 0 < rdLimit s c := Nat.mul_pos hto (by decide)
  have hx : exec (.rateDetectionTimeout c) s = finish s (raiseEv 137 c v) := by
    refine congrArg (finish s) ((if_pos ⟨hrun, hmode, flag_of_fld_eq_zero hd, hlim, hdue⟩).trans ?_)
    rw [hv, hu]
  have hactu : Acts [] [CAN_RDET c, CAN_STAT c] s u := hu ▸ acts_setFlag (acts_setFlag (.refl _ _ s) _ _ (by simp)) _ _ (by simp)
  have hactv : Acts [] [CAN_RDET c, CAN_STAT c] s v :=
    hv ▸ acts_setFlag (t := State.modCan c (fun x => { x with rdCand := none, rdGood := 0 }) u) hactu _ _ (by simp)
  have hacts : Acts [] [CAN_RDET c, CAN_STAT c] s (raiseEv 137 c v) := acts_raiseEv hactv c (by decide)
  have hreg : ∀ {t}, Settled s (raiseEv 137 c v) t → ∀ a ∈ rateRegs c, t.reg a = v.reg a := fun ht a ha =>
    (ht.rateReg c ha).trans (reg_raiseEv_rate (n := 137) (by decide) c _ c ha)
  have hrdet : v.reg (CAN_RDET c) = u.reg (CAN_RDET c) := by
    rw [hv]
    exact State.reg_setReg_other _ _ ((by decide : ∀ c : Fin 8, CAN_RDET c ≠ CAN_STAT c) c)
  refine runs_of_calm hx (hacts.calm hc) fun t ht _ => ⟨?_, ?_, ?_, ?_, ht.onlyRegs hacts⟩
  · refine (congrArg (fget CAN_RDET_DONE) ((hreg ht _ (by simp [rateRegs])).trans hrdet)).trans ?_
    rw [hu]
    exact State.fld_setFlag_same _ _ _ _ (by decide) (by decide)
  · refine (congrArg (fget CAN_RDET_FOUND) ((hreg ht _ (by simp [rateRegs])).trans hrdet)).trans ?_
    rw [hu]
    exact (State.fld_setFlag_field _ _ _ _ _ (by decide)).trans (State.fld_setFlag_same _ _ _ _ (by decide) (by decide))
  · refine (congrArg (fget CAN_STAT_RDFAIL) (hreg ht _ (by simp [rateRegs]))).trans ?_
    rw [hv]
    exact State.fld_setFlag_same _ _ _ _ (by decide) (by decide)
  · have hcan : (raiseEv 137 c v).can c = { u.can c with rdCand := none, rdGood := 0 } := by
      rw [hv]
      exact State.can_modCan_same c (fun x => { x with rdCand := none, rdGood := 0 }) u
    rw [ht.can, hcan]

end

/-! ### The J1939 address claim -/

/-- The frame that claims address `a` for controller `c`. -/
def claimOf (s : State) (c a : Nat) : Out := .can c (claimFrame (jName s c) a)

/-- Controller `c` is claiming address `a`. -/
def jClaiming (c a : Nat) (s : State) : State := State.modCan c (fun x => { x with jAddr := a, jEnd := s.now + 250000000 })
  (State.setFld (CAN_J1939 c) CAN_J1939_STATE 1 s)

theorem jClaim_eq (c a : Nat) (s : State) : jClaim c a s = State.send (claimOf s c a) (jClaiming c a s) := rfl

/-- The window of a claim does not end for a controller that is not claiming. -/
theorem jWindowEnd_of_claimed {c : Nat} {s : State} (h : jState s c = 2) : jWindowEnd c s = s :=
  if_neg fun hh => absurd (h.symm.trans hh.2.1) (by decide)

theorem jState_of_reg {s t : State} {c : Nat} (h : t.reg (CAN_J1939 c) = s.reg (CAN_J1939 c)) : jState t c = jState s c :=
  congrArg (fget CAN_J1939_STATE) h

theorem j1939Contention_eq {c : Fin 8} {name sa : Nat} {s : State} (hs : jServes s c = true) (hp : pausing s = false)
    (h2 : jState s c = 2) (hsa : sa = s.fld (CAN_J1939 c) CAN_J1939_ADDR) : j1939Contention c name sa s = jContend c name sa s := by
  have hlt : sa < 256 := by
    rw [hsa]
    exact fget_lt CAN_J1939_ADDR _
  unfold j1939Contention
  rw [hp, hs, if_neg Bool.false_ne_true, if_pos rfl, jWindowEnd_of_claimed h2, Nat.mod_eq_of_lt hlt]

theorem owns_claimed {c sa : Nat} {s : State} (h2 : jState s c = 2) (hsa : sa = s.fld (CAN_J1939 c) CAN_J1939_ADDR) :
    (jState s c = 1 ∨ jState s c = 2) ∧ sa = jOwn s c := by
  refine ⟨.inr h2, ?_⟩
  unfold jOwn
  rw [h2]
  exact hsa

/-- An address claim that the module sends for the address it holds. -/
theorem runs_sendClaim {c : Fin 8} {s : State} (hc : Calm s) (h2 : jState s c = 2) {x : Instr} {a : Nat} (hx : exec x s = finish s (State.send (claimOf s c a) s)) :
    Runs x s fun t => t.out = s.out ++ [claimOf s c a] ∧ jState t c = 2 := by
  have hcu : Calm (State.send (claimOf s c a) s) := hc
  refine runs_of_calm hx hcu fun t ht _ => ⟨ht.out, ?_⟩
  exact (jState_of_reg (ht.rateReg c (by simp [rateRegs]))).trans h2

section
variable {c : Fin 8} {s : State} (hc : Calm s) (hs : jServes s c = true)
include hc hs

theorem claim_starts (h0 : jState s c = 0) : Runs (.j1939ClaimStart c) s fun t =>
    jState t c = 1 ∧ (t.can c).jAddr = s.fld (CAN_J1939 c) CAN_J1939_PREF ∧ (t.can c).jEnd = s.now + 250000000 ∧
      t.out = s.out ++ [claimOf s c (s.fld (CAN_J1939 c) CAN_J1939_PREF)] ∧ OnlyRegs [CAN_J1939 c] s t := by
  obtain ⟨a, ha⟩ : ∃ a, a = s.fld (CAN_J1939 c) CAN_J1939_PREF := ⟨_, rfl⟩
  obtain ⟨u, hu⟩ : ∃ u, u = jClaiming c a s := ⟨_, rfl⟩
  have hx : exec (.j1939ClaimStart c) s = finish s (State.send (claimOf s c a) u) := by
    refine congrArg (finish s) ((if_pos ⟨hs, h0⟩).trans ?_)
    rw [← ha, hu, jClaim_eq]
  have hactu : Acts [] [CAN_J1939 c] s u := hu ▸ acts_setFld (.refl _ _ s) _ _ (by simp)
  have hacts : Acts [] [CAN_J1939 c] s (State.send (claimOf s c a) u) := hactu
  have hcan : u.can c = { s.can c with jAddr := a, jEnd := s.now + 250000000 } := by
    rw [hu]
    exact State.can_modCan_same c _ _
  rw [← ha]
  refine runs_of_calm hx (hacts.calm hc) fun t ht _ => ⟨?_, ?_, ?_, ?_, ht.onlyRegs hacts⟩
  · refine (jState_of_reg (ht.rateReg c (by simp [rateRegs]))).trans ?_
    rw [hu]
    exact State.fld_setFld_same s _ _ _ (by decide)
  · exact (congrArg CanCtl.jAddr ((ht.can c).trans hcan))
  · exact (congrArg CanCtl.jEnd ((ht.can c).trans hcan))
  · rw [ht.out, hu]
    rfl

theorem claim_holds (h1 : jState s c = 1) (hend : (s.can c).jEnd ≤ s.now) (ha : (s.can c).jAddr < 256) :
    Runs (.j1939ClaimWindowEnd c) s fun t =>
      jState t c = 2 ∧ t.fld (CAN_J1939 c) CAN_J1939_ADDR = (s.can c).jAddr ∧ OnlyRegs [CAN_J1939 c] s t := by
  obtain ⟨u, hu⟩ : ∃ u, u = State.setFld (CAN_J1939 c) CAN_J1939_STATE 2
    (State.setFld (CAN_J1939 c) CAN_J1939_ADDR (s.can c).jAddr s) := ⟨_, rfl⟩
  have hx : exec (.j1939ClaimWindowEnd c) s = finish s (raiseEv 138 c u) := by
    refine congrArg (finish s) ((if_pos ⟨hs, h1, hend⟩).trans ?_)
    rw [hu]
  have hactu : Acts [] [CAN_J1939 c] s u := hu ▸ acts_setFld (acts_setFld (.refl _ _ s) _ _ (by simp)) _ _ (by simp)
  have hacts : Acts [] [CAN_J1939 c] s (raiseEv 138 c u) := acts_raiseEv hactu c (by decide)
  refine runs_of_calm hx (hacts.calm hc) fun t ht _ => ?_
  have hreg : t.reg (CAN_J1939 c) = u.reg (CAN_J1939 c) :=
    (ht.rateReg c (by simp [rateRegs])).trans (reg_raiseEv_rate (n := 138) (by decide) c _ c (by simp [rateRegs]))
  refine ⟨(jState_of_reg hreg).trans ?_, (congrArg (fget CAN_J1939_ADDR) hreg).trans ?_, ht.onlyRegs hacts⟩
  · rw [hu]
    exact State.fld_setFld_same _ _ _ _ (by decide)
  · rw [hu]
    refine (State.fld_setFld_field _ _ _ _ _ (by decide)).trans ?_
    exact (State.fld_setFld_same s _ _ _ (by decide)).trans (Nat.mod_eq_of_lt ha)

section
variable (hp : pausing s = false) (h2 : jState s c = 2)
include hp h2

theorem request_answered : Runs (.j1939Request c) s fun t =>
    t.out = s.out ++ [claimOf s c (s.fld (CAN_J1939 c) CAN_J1939_ADDR)] ∧ jState t c = 2 := by
  refine runs_sendClaim hc h2 (congrArg (finish s) ?_)
  unfold j1939Request
  rw [hp, hs, if_neg Bool.false_ne_true, if_pos rfl, jWindowEnd_of_claimed h2]
  dsimp only
  rw [h2]
  rfl

variable {name sa : Nat} (hsa : sa = s.fld (CAN_J1939 c) CAN_J1939_ADDR)
include hsa

theorem contention_defended (hle : jName s c ≤ name) : Runs (.j1939Contention c name sa) s fun t =>
    t.out = s.out ++ [claimOf s c sa] ∧ jState t c = 2 := by
  refine runs_sendClaim hc h2 (congrArg (finish s) ((j1939Contention_eq hs hp h2 hsa).trans ?_))
  unfold jContend
  dsimp only
  rw [if_pos (owns_claimed h2 hsa), if_neg (not_lt.2 hle), h2]
  rfl

theorem contention_lost (hlt : name < jName s c) (hac : s.fld (CAN_J1939 c) CAN_J1939_AAC = 0) :
    Runs (.j1939Contention c name sa) s fun t =>
      t.out = s.out ++ [claimOf s c 254] ∧ jState t c = 3 ∧ OnlyRegs [CAN_J1939 c] s t := by
  obtain ⟨u, hu⟩ : ∃ u, u = State.setFld (CAN_J1939 c) CAN_J1939_STATE 3
    (State.modCan c (fun x => { x with jTaken := x.jTaken ++ [sa] }) s) := ⟨_, rfl⟩
  obtain ⟨v, hv⟩ : ∃ v, v = State.send (claimOf s c 254) u := ⟨_, rfl⟩
  have hstate : u.reg (CAN_J1939 c) = fput CAN_J1939_STATE 3 (s.reg (CAN_J1939 c)) := by
    rw [hu]
    exact State.reg_setReg_same _ _ _
  have hst3 : jState (raiseEv 139 c v) c = 3 := by
    refine (congrArg (fget CAN_J1939_STATE) ((reg_raiseEv_rate (n := 139) (by decide) c v c (by simp [rateRegs])).trans
      (Eq.trans ?_ hstate))).trans (fget_fput_same _ _ _ (by decide))
    rw [hv]
    rfl
  have hchoose : jChoose c (State.modCan c (fun x => { x with jTaken := x.jTaken ++ [sa] }) s) = raiseEv 139 c v := by
    rw [hv, hu]
    exact if_neg (Bool.eq_false_iff.1 (flag_of_fld_eq_zero hac))
  have hx : exec (.j1939Contention c name sa) s = finish s (raiseEv 139 c v) := by
    refine congrArg (finish s) ((j1939Contention_eq hs hp h2 hsa).trans ?_)
    unfold jContend
    dsimp only
    rw [if_pos (owns_claimed h2 hsa), if_pos hlt, hchoose, hst3, if_neg fun h => absurd h.2 (by decide)]
  have hactu : Acts [] [CAN_J1939 c] s u := hu ▸ acts_setFld (t := State.modCan c _ s) (.refl _ _ s) _ _ (by simp)
  have hactv : Acts [] [CAN_J1939 c] s v := hv ▸ hactu
  have hacts : Acts [] [CAN_J1939 c] s (raiseEv 139 c v) := acts_raiseEv hactv c (by decide)
  refine runs_of_calm hx (hacts.calm hc) fun t ht _ => ⟨?_, ?_, ht.onlyRegs hacts⟩
  · have hout : (raiseEv 139 c v).out = u.out ++ [claimOf s c 254] := by
      rw [hv]
      rfl
    rw [ht.out, hout, hu]
    rfl
  · exact (jState_of_reg (ht.rateReg c (by simp [rateRegs]))).trans hst3

end
end

/-- Settles O19: rate detection and the address claim, clause by clause. -/
theorem canRateAndName : Obligations.CanRateAndName := by
  unfold Obligations.CanRateAndName
  exact ⟨fun _ _ _ _ hc hr hcand hg hi => rate_confirmed hc hr hcand hg hi,
    fun _ _ _ hc hr hcand hm => rate_measured hc hr hcand hm,
    fun _ _ hc hrun hmode hd hto hdue => rate_timesOut hc hrun hmode hd hto hdue,
    fun _ _ hc hs h0 => claim_starts hc hs h0,
    fun _ _ hc hs h1 hend ha => claim_holds hc hs h1 hend ha,
    fun _ _ _ _ hc hp hs h2 hsa hle => contention_defended hc hs hp h2 hsa hle,
    fun _ _ _ _ hc hp hs h2 hsa hlt hac => contention_lost hc hs hp h2 hsa hlt hac,
    fun _ _ hc hp hs h2 => request_answered hc hs hp h2⟩

end Sys2Proof.Machine
end

section
/-! What a reaction keeps (R436): the words of the learned baselines and of the update, and the state of measurement and start. -/

namespace Sys2Proof.Machine

/-- Words that no reaction writes: UPD_STAT and the baselines of the channels. -/
def spared (a : Nat) : Bool := decide (a = UPD_STAT ∨ (MEAS_HHBASE 0 ≤ a ∧ a < MEAS_HHBASE 96))

/-- What a reaction keeps of a state: the spared entries of the register table, measurement and start. -/
def kept (s : State) : Tab Word × Meas × Start := (s.regs.filter (fun e => spared e.1), s.meas, s.start)

theorem meas_of_kept {s t : State} (h : kept t = kept s) : t.meas = s.meas := congrArg (fun x => x.2.1) h

theorem start_of_kept {s t : State} (h : kept t = kept s) : t.start = s.start := congrArg (fun x => x.2.2) h

theorem kept_of_parts {s t : State} (hr : t.regs = s.regs) (hm : t.meas = s.meas) (hs : t.start = s.start) :
    kept t = kept s := by
  unfold kept
  rw [hr, hm, hs]

/-! ### Register writes -/

theorem filter_erase {α : Type} {p : Nat → Bool} {k : Nat} (h : p k = false) (t : Tab α) :
    (Tab.erase t k).filter (fun e => p e.1) = t.filter (fun e => p e.1) := by
  induction t with
  | nil => rfl
  | cons e rest ih =>
    unfold Tab.erase
    split
    · rename_i he
      rw [ih, List.filter_cons_of_neg (by simp [he, h])]
    · rw [List.filter_cons, List.filter_cons, ih]

theorem filter_insert {α : Type} {p : Nat → Bool} {k : Nat} (h : p k = false) (v : α) (t : Tab α) :
    (Tab.insert t k v).filter (fun e => p e.1) = t.filter (fun e => p e.1) := by
  induction t with
  | nil => simp [Tab.insert, h]
  | cons e rest ih =>
    unfold Tab.insert
    split
    · rw [List.filter_cons_of_neg (by simp [h])]
    · rw [List.filter_cons, List.filter_cons, ih]

theorem filter_put {α : Type} [DecidableEq α] {p : Nat → Bool} {k : Nat} (h : p k = false) (d v : α) (t : Tab α) :
    (Tab.put t d k v).filter (fun e => p e.1) = t.filter (fun e => p e.1) := by
  unfold Tab.put
  split
  · exact filter_erase h t
  · exact (filter_insert h v _).trans (filter_erase h t)

theorem kept_setReg {a : Nat} (ha : spared a = false) (v : Word) (s : State) : kept (State.setReg a v s) = kept s :=
  congrArg (fun r => (r, s.meas, s.start)) (filter_put ha _ _ s.regs)

@[simp] theorem kept_setFld {a : Nat} (ha : spared a = false) (f : Fld) (x : Nat) (s : State) :
    kept (State.setFld a f x s) = kept s := kept_setReg ha _ s

@[simp] theorem kept_setFlag {a : Nat} (ha : spared a = false) (f : Fld) (b : Bool) (s : State) :
    kept (State.setFlag a f b s) = kept s := kept_setReg ha _ s

@[simp] theorem kept_incFld {a : Nat} (ha : spared a = false) (f : Fld) (s : State) :
    kept (State.incFld a f s) = kept s := kept_setReg ha _ s

@[simp] theorem kept_ite (c : Prop) [Decidable c] (s t : State) :
    kept (if c then s else t) = if c then kept s else kept t := apply_ite kept c s t

theorem kept_foldl {α : Type} {f : State → α → State} {l : List α} (h : ∀ s, ∀ x ∈ l, kept (f s x) = kept s) (s : State) :
    kept (l.foldl f s) = kept s := by
  induction l generalizing s with
  | nil => rfl
  | cons x rest ih =>
    exact (ih (fun s y hy => h s y (List.mem_cons_of_mem _ hy)) _).trans (h s x List.mem_cons_self)

/-! ### Events and faults -/

/-- What only writes registers and the report keeps what its register writes keep. -/
theorem kept_report {s t : State} {r : Report} (h : kept t = kept s) : kept { s with regs := t.regs, rep := r } = kept s :=
  congrArg (fun x => (x, s.meas, s.start)) (congrArg Prod.fst h)

theorem spared_counts {n : Nat} (h : n < 256) : spared (HOST_EVCNT n) = false ∧ spared (HOST_EVPEND (n / 16)) = false := by
  refine ⟨decide_eq_false ?_, decide_eq_false ?_⟩
  · simp only [UPD_STAT, MEAS_HHBASE, HOST_EVCNT]
    omega
  · simp only [UPD_STAT, MEAS_HHBASE, HOST_EVPEND]
    omega

theorem kept_evCount {n : Nat} (h : n < 256) (s : State) : kept (evCount n s) = kept s := by
  obtain ⟨h1, h2⟩ := spared_counts h
  unfold evCount
  refine kept_report ?_
  simp [h1, h2]

theorem kept_countDrop (s : State) : kept (countDrop s) = kept s := kept_report (kept_incFld (by decide) _ s)

theorem kept_pushQuiet (r : LogRec) (s : State) : kept (pushQuiet r s) = kept s := by
  unfold pushQuiet
  split
  · exact kept_of_parts rfl rfl rfl
  · exact kept_countDrop s

theorem kept_raiseQuiet {n : Nat} (h : n < 256) (i : Nat) (d : List Nat) (s : State) : kept (raiseQuiet n i d s) = kept s := by
  unfold raiseQuiet
  split
  · dsimp only
    split
    · exact (kept_pushQuiet _ _).trans (kept_evCount h s)
    · exact kept_evCount h s
  · rfl

theorem kept_captureRegs {n : Nat} (h : n < 96) (s : State) : kept (captureRegs n s) = kept s := by
  have hs : spared (FAULT_STICKY (n / 32)) = false := by
    refine decide_eq_false ?_
    simp only [UPD_STAT, MEAS_HHBASE, FAULT_STICKY]
    omega
  exact kept_report ((kept_setFlag (by decide) _ _ _).trans ((kept_incFld (by decide) _ _).trans (kept_setFld hs _ _ s)))

theorem kept_raiseFault64 (s : State) : kept (raiseFault64 s) = kept s := by
  have hq : kept (raiseQuiet 201 0xFFFF [] (pushQuiet (mkRec s 2 64 0xFFFF [0]) (captureRegs 64 s))) = kept s :=
    (kept_raiseQuiet (by decide) _ _ _).trans ((kept_pushQuiet _ _).trans (kept_captureRegs (by decide) s))
  unfold raiseFault64
  split
  · rfl
  split
  · exact kept_of_parts rfl rfl rfl
  dsimp only
  split
  · exact (kept_report ((kept_setFlag (by decide) _ _ _).trans (kept_setReg (by decide) _ _))).trans hq
  · exact hq

theorem kept_pushRec (r : LogRec) (s : State) : kept (pushRec r s) = kept s := by
  unfold pushRec
  split
  · exact kept_of_parts rfl rfl rfl
  · exact (kept_raiseFault64 _).trans ((kept_raiseQuiet (by decide) _ _ _).trans (kept_countDrop s))

theorem kept_raiseEvCore {n : Nat} (h : n < 256) (i : Nat) (d : List Nat) (s : State) : kept (raiseEvCore n i d s) = kept s := by
  unfold raiseEvCore
  split
  · dsimp only
    split
    · exact (kept_pushRec _ _).trans (kept_evCount h s)
    · exact kept_evCount h s
  · rfl

theorem kept_raiseEv {n : Nat} (h : n < 256) (i : Nat) (s : State) : kept (raiseEv n i s) = kept s :=
  kept_report (kept_raiseEvCore h i [] s)

theorem kept_raiseEvData {n : Nat} (h : n < 256) (i : Nat) (d : List Nat) (s : State) : kept (raiseEvData n i d s) = kept s :=
  kept_report (kept_raiseEvCore h i d s)

theorem kept_raiseFault {n : Nat} (h : n < 96) (s : State) : kept (raiseFault n s) = kept s := by
  refine kept_report ?_
  unfold raiseFaultCore
  split
  · rfl
  split
  · exact kept_of_parts rfl rfl rfl
  · exact (kept_raiseEv (by decide) _ _).trans ((kept_pushRec _ _).trans (kept_captureRegs h s))

theorem kept_dieEv {n : Nat} (hn : n < 256) (d i : Nat) (s : State) : kept (dieEv d n i s) = kept s := by
  unfold dieEv
  split
  · exact kept_raiseEv hn i s
  · rfl

/-! ### The rows of the banks -/

/-- Rows of 96 words at most that hold none of the spared words. -/
theorem not_spared {b i : Nat} (hb : b + 384 ≤ MEAS_HHBASE 0 ∨ (MEAS_HHBASE 96 ≤ b ∧ b + 384 ≤ UPD_STAT)) (hi : i < 96) :
    spared (b + 4 * i) = false := by
  simp [UPD_STAT, MEAS_HHBASE] at hb
  simp [spared, UPD_STAT, MEAS_HHBASE]
  omega

theorem spared_pav {g : Nat} (hg : g < 96) : spared (PAV_STAT g) = false ∧ spared (PAV_CMD g) = false ∧
    spared (MEAS_DIAG g) = false ∧ spared (MEAS_IV g) = false :=
  ⟨not_spared (by decide) hg, not_spared (by decide) hg, not_spared (by decide) hg, not_spared (by decide) hg⟩

theorem spared_motor {h : Nat} (hh : h < 16) : spared (BR_STAT h) = false ∧ spared (BR_CMD h) = false :=
  ⟨not_spared (by decide) (by omega), not_spared (by decide) (by omega)⟩

theorem spared_fo {o : Nat} (ho : o < 16) : spared (FO_STAT o) = false ∧ spared (FO_CMD o) = false :=
  ⟨not_spared (by decide) (by omega), not_spared (by decide) (by omega)⟩

theorem spared_valve {v : Nat} (hv : v < 24) : spared (SLU_STAT v) = false ∧ spared (SLU_CMD v) = false ∧
    spared (SLU_MOVE v) = false ∧ spared (SLU_BSTAT (bankOfValve v)) = false :=
  ⟨not_spared (by decide) (by omega), not_spared (by decide) (by omega), not_spared (by decide) (by omega),
    not_spared (by decide) (show v / 6 < 96 by omega)⟩

theorem spared_elem {k : Nat} (hk : k < 52) : spared (ltStat k) = false ∧ spared (ltCmd k) = false ∧
    spared (LC_STAT k) = false ∧ spared (BL_STAT (k - 48)) = false := by
  have h1 : spared (LC_STAT k) = false := not_spared (by decide) (by omega)
  have h2 : spared (BL_STAT (k - 48)) = false := not_spared (by decide) (by omega)
  have h3 : spared (LC_CMD k) = false := not_spared (by decide) (by omega)
  have h4 : spared (BL_CMD (k - 48)) = false := not_spared (by decide) (by omega)
  unfold ltStat ltCmd
  exact ⟨by split <;> assumption, by split <;> assumption, h1, h2⟩

theorem spared_loop {i j : Nat} (hi : i < 8) (hj : j < 3) : spared (LOOP_STAT i j) = false := by
  refine decide_eq_false ?_
  simp only [UPD_STAT, MEAS_HHBASE, LOOP_STAT]
  omega

theorem spared_bank (b : Nat) : spared (bstat b) = false := by
  unfold bstat
  split
  · exact not_spared (by decide) (by omega)
  split
  · exact not_spared (by decide) (by omega)
  split
  · exact not_spared (by decide) (by omega)
  · decide

/-! ### The high-side channels -/

@[simp] theorem kept_modChan (g : Nat) (f : Chan → Chan) (s : State) : kept (State.modChan g f s) = kept s := rfl

@[simp] theorem kept_modUv (p : Nat) (f : Uv → Uv) (s : State) : kept (State.modUv p f s) = kept s := rfl

section
variable {g : Nat} (hg : g < 96)
include hg

theorem kept_setPavState (st : Nat) (s : State) : kept (setPavState g st s) = kept s := by
  simp [setPavState, spared_pav hg]

theorem kept_setClamp (duty : Nat) (soft : Bool) (s : State) : kept (setClamp g duty soft s) = kept s := by
  unfold setClamp
  split <;> simp [spared_pav hg]

theorem kept_turnOn (soft : Bool) (s : State) : kept (turnOn g soft s) = kept s := by
  simp [turnOn, kept_setClamp hg, kept_setPavState hg, spared_pav hg]

theorem kept_enterVetoed (retry : Bool) (s : State) : kept (enterVetoed g retry s) = kept s := by
  simp [enterVetoed, kept_dieEv, kept_setPavState hg]

theorem kept_turnOnDue (soft : Bool) (s : State) : kept (turnOnDue g soft s) = kept s := by
  simp [turnOnDue, kept_enterVetoed hg, kept_turnOn hg, kept_setPavState hg, spared_pav hg]

theorem kept_goOff (s : State) : kept (goOff g s) = kept s := by
  simp [goOff, kept_setPavState hg, spared_pav hg]

theorem kept_safeChannel (s : State) : kept (safeChannel g s) = kept s := by
  simp [safeChannel, retargetSoft, kept_goOff hg, kept_turnOnDue hg, spared_pav hg]

end

theorem kept_checkRestarted (p : Nat) (s : State) : kept (checkRestarted p s) = kept s := by
  simp [checkRestarted, kept_dieEv]

theorem kept_pavSafeState {p : Nat} (hp : p < 6) (s : State) : kept (pavSafeState p s) = kept s := by
  refine (kept_checkRestarted p _).trans (kept_foldl (fun t g hgm => kept_safeChannel ?_ t) s)
  simp [pavChannels] at hgm
  omega

/-! ### Motors -/

@[simp] theorem kept_modMotor (h : Nat) (f : Motor → Motor) (s : State) : kept (State.modMotor h f s) = kept s := rfl

section
variable {h : Nat} (hh : h < 16)
include hh

theorem kept_setBrState (st : Nat) (s : State) : kept (setBrState h st s) = kept s := by
  simp [setBrState, spared_motor hh]

theorem kept_brBrakeTo (c : BrakeTo) (s : State) : kept (brBrakeTo h c s) = kept s := by
  simp [brBrakeTo, kept_setBrState hh, spared_motor hh]

theorem kept_brStop (s : State) : kept (brStop h s) = kept s := by
  unfold brStop
  split
  · simp [brPark, kept_setBrState hh]
  · exact kept_brBrakeTo hh _ s

theorem kept_safeMotor (s : State) : kept (safeMotor h s) = kept s := by
  simp [safeMotor, kept_brStop hh, kept_brBrakeTo hh, spared_motor hh]

end

theorem kept_brSafeState {g : Nat} (hg : g < 4) (s : State) : kept (brSafeState g s) = kept s := by
  refine kept_foldl (fun t h hm => ?_) s
  have hh : h < 16 := by
    simp at hm
    omega
  simp [kept_safeMotor hh]

/-! ### Valves -/

@[simp] theorem kept_modValve (v : Nat) (f : Valve → Valve) (s : State) : kept (State.modValve v f s) = kept s := rfl

section
variable {v : Nat} (hv : v < 24)
include hv

theorem kept_setSluState (st : Nat) (s : State) : kept (setSluState v st s) = kept s := by
  simp [setSluState, spared_valve hv]

theorem kept_closeKink (s : State) : kept (closeKink v s) = kept s := by
  simp [closeKink, kept_dieEv, spared_valve hv]

theorem kept_releasePeak (s : State) : kept (releasePeak v s) = kept s := by
  simp [releasePeak, kept_closeKink hv, spared_valve hv]

theorem kept_startDecay (c : DecayCause) (s : State) : kept (startDecay v c s) = kept s := by
  simp [startDecay, kept_setSluState hv, kept_releasePeak hv, spared_valve hv]

theorem kept_valveTurnOn (bounded : Bool) (s : State) : kept (valveTurnOn v bounded s) = kept s := by
  simp [valveTurnOn, ditherStart, kept_dieEv, kept_setSluState hv]

theorem kept_valveToOff (s : State) : kept (valveToOff v s) = kept s := by
  simp [valveToOff, kept_setSluState hv, spared_valve hv]

theorem kept_safeValve (s : State) : kept (safeValve v s) = kept s := by
  simp [safeValve, kept_valveTurnOn hv, kept_startDecay hv, kept_valveToOff hv, spared_valve hv]

end

theorem kept_sluSafeState {b : Nat} (hb : b < 4) (s : State) : kept (sluSafeState b s) = kept s := by
  refine kept_foldl (fun t v hm => kept_safeValve ?_ t) s
  simp [valvesOf] at hm
  omega

/-! ### Field outputs -/

@[simp] theorem kept_modFo (o : Nat) (f : FieldOut → FieldOut) (s : State) : kept (State.modFo o f s) = kept s := rfl

section
variable {o : Nat} (ho : o < 16)
include ho

theorem kept_foTurnOn (s : State) : kept (foTurnOn o s) = kept s := by
  simp [foTurnOn, setFoState, spared_fo ho]

theorem kept_foTurnOff (c : DemagCause) (s : State) : kept (foTurnOff o c s) = kept s := by
  simp [foTurnOff, setFoState, spared_fo ho]

theorem kept_foDemandSet (on clr : Bool) (s : State) : kept (foDemandSet o on clr s) = kept s := by
  simp [foDemandSet, kept_foTurnOn ho, kept_foTurnOff ho, spared_fo ho]

theorem kept_foSafe (s : State) : kept (foSafe o s) = kept s := by
  unfold foSafe
  split
  · exact kept_foDemandSet ho _ _ s
  · rfl
  · exact kept_foDemandSet ho _ _ s

end

theorem kept_foSafeState {b : Nat} (hb : b < 4) (s : State) : kept (foSafeState b s) = kept s := by
  refine kept_foldl (fun t o hm => kept_foSafe ?_ t) s
  simp [fosOf] at hm
  omega

/-! ### Lights -/

@[simp] theorem kept_modElem (k : Nat) (f : Elem → Elem) (s : State) : kept (State.modElem k f s) = kept s := rfl

theorem kept_clearRun (k : Nat) (s : State) : kept (clearRun k s) = kept s :=
  kept_foldl (f := fun t j => State.modElem j Elem.clearObs t) (fun _ _ _ => rfl) s

theorem kept_ltRelevel (k : Nat) (s : State) : kept (ltRelevel k s) = kept s := by
  simp [ltRelevel]

theorem kept_holdGains (k : Nat) (s : State) : kept (holdGains k s) = kept s := by
  unfold holdGains
  split
  · refine kept_foldl (fun t i hi => ?_) s
    have hl : spared (LOOP_STAT (i / 3) (i % 3)) = false := spared_loop (by simp at hi; omega) (by omega)
    dsimp only
    split
    · split
      · rw [kept_ltRelevel, kept_setFlag hl, kept_setReg hl]
      · rw [kept_setFlag hl, kept_setReg hl]
    · rfl
  · rfl

section
variable {k : Nat} (hk : k < 52)
include hk

theorem kept_setLtState (st : Nat) (s : State) : kept (setLtState k st s) = kept s := kept_setReg (spared_elem hk).1 _ s

theorem kept_ltTurnOn (s : State) : kept (ltTurnOn k s) = kept s := by
  have ht : kept (clearRun k (State.setFlag (ltStat k) (ltPend k) false s)) = kept s :=
    (kept_clearRun k _).trans (kept_setFlag (spared_elem hk).1 _ _ s)
  unfold ltTurnOn
  dsimp only
  split
  · exact ht
  split
  · exact (kept_setLtState hk _ _).trans ht
  split
  · exact (kept_setLtState hk _ _).trans ht
  split
  · exact (kept_setLtState hk _ _).trans ht
  · exact (kept_setLtState hk _ _).trans ht

theorem kept_ltDark (st : Nat) (s : State) : kept (ltDark k st s) = kept s := by
  simp [ltDark, kept_clearRun, kept_setLtState hk, spared_elem hk]

theorem kept_ltFadeDown (a : Nat) (s : State) : kept (ltFadeDown k a s) = kept s := by
  simp [ltFadeDown, kept_ltDark hk, kept_setLtState hk, spared_elem hk]

theorem kept_applyLtCmd (on : Bool) (lvl : Nat) (clr : Bool) (s : State) : kept (applyLtCmd k on lvl clr s) = kept s := by
  simp [applyLtCmd, ltLeave, kept_ltFadeDown hk, kept_holdGains, kept_ltTurnOn hk, kept_ltRelevel, spared_elem hk]

theorem kept_safeElem (s : State) : kept (safeElem k s) = kept s := by
  simp [safeElem, kept_applyLtCmd hk, kept_ltRelevel, spared_elem hk]

end

theorem kept_trSafeState (s : State) : kept (trSafeState s) = kept s := by
  have hfold : kept ((List.range 52).foldl (fun t k => safeElem k t) s) = kept s :=
    kept_foldl (fun t k hk => kept_safeElem (by simpa using hk) t) s
  have hcmd : spared TR_CMD = false := by decide
  unfold trSafeState
  dsimp only
  split
  · exact hfold
  split
  · exact hfold
  · exact (kept_setReg hcmd _ _).trans hfold
  · exact (kept_setReg hcmd _ _).trans hfold

/-! ### Reactions -/

theorem kept_bankSafe (b : Nat) (s : State) : kept (bankSafe b s) = kept s := by
  unfold bankSafe
  split
  · exact kept_pavSafeState (by omega) s
  split
  · exact (kept_foSafeState (by omega) _).trans (kept_sluSafeState (by omega) s)
  split
  · exact kept_brSafeState (by omega) s
  · exact kept_trSafeState s

theorem kept_bankSafed (b : Nat) (s : State) :
    kept (bankSafe b (State.setFlag (bstat b) PAV_BSTAT_SAFED true s)) = kept s :=
  (kept_bankSafe b _).trans (kept_setReg (spared_bank b) _ s)

theorem reactEvent_lt (b : Nat) : reactEvent b < 256 := by
  unfold reactEvent safeEvent
  split_ifs <;> decide

theorem kept_reactBank (n b : Nat) (s : State) : kept (reactBank n b s) = kept s :=
  (kept_raiseEvData (reactEvent_lt b) _ _ _).trans (kept_bankSafed b s)

theorem kept_haltKeepers (s : State) : kept (haltKeepers s) = kept s := by
  refine kept_foldl (fun t k hk => ?_) s
  have hk8 : k < 8 := by simpa using hk
  exact (congrArg kept (if_pos hk8)).trans (kept_setReg (not_spared (by decide) (by omega)) _ _)

theorem kept_enterModuleLimp (s : State) : kept (enterModuleLimp s) = kept s := by
  unfold enterModuleLimp
  split
  · rfl
  · rw [kept_raiseEv (by decide), kept_setFlag (by decide), kept_haltKeepers]
    exact kept_foldl (fun t b _ => kept_bankSafed b t) s

theorem kept_react (caps : List Nat) (s : State) : kept (react caps s) = kept s := by
  unfold react
  extract_lets rs ran t1 r1 t2 t3 t4 t5 r5
  have h1 : kept t1 = kept s := (kept_setReg (by decide) _ _).trans (kept_setReg (by decide) _ s)
  have h2 : kept t2 = kept t1 := kept_of_parts rfl rfl rfl
  have h3 : kept t3 = kept t2 := kept_foldl (fun u n _ => kept_reactBank n _ u) t2
  have h4 : kept t4 = kept t3 := by
    simp only [t4]
    split
    · exact kept_enterModuleLimp t3
    · rfl
  have h5 : kept t5 = kept t4 := by
    simp only [t5]
    split
    · exact kept_raiseEv (by decide) _ t4
    · rfl
  refine Eq.trans (kept_of_parts rfl rfl rfl) (h5.trans (h4.trans (h3.trans (h2.trans h1))))

theorem kept_awakeEval (s : State) : kept (awakeEval s) = kept s := by
  unfold awakeEval
  extract_lets loc run start t1 n1 t2
  have h1 : kept t1 = kept s := kept_setReg (by decide) _ s
  have h2 : kept t2 = kept t1 := kept_of_parts rfl rfl rfl
  split
  · exact (kept_raiseEv (by decide) _ t2).trans (h2.trans h1)
  · exact h2.trans h1

end Sys2Proof.Machine
end

section
/-! What the check units and a Lodge reset keep (R29, R143, R337, R445). -/

namespace Sys2Proof.Machine

/-! ### The check units -/

theorem spared_cu {u : Nat} (hu : u < 4) : spared (CU_STAT u) = false ∧ spared (CU_RES_LO u) = false ∧
    spared (CU_RES_HI u) = false :=
  (by decide : ∀ u : Fin 4, spared (CU_STAT u) = false ∧ spared (CU_RES_LO u) = false ∧ spared (CU_RES_HI u) = false) ⟨u, hu⟩

section
variable {u : Nat} (hu : u < 4)
include hu

theorem kept_cuArm (s : State) : kept (cuArm u s) = kept s := kept_setFlag (spared_cu hu).1 _ _ s

theorem kept_cuResult (s : State) : kept (cuResult u s) = kept s := by
  obtain ⟨h1, h2, h3⟩ := spared_cu hu
  have hstat : ∀ (f : Fld) (b : Bool) (t : State), kept (State.setFlag (CU_STAT u) f b t) = kept t := fun f b t =>
    kept_setFlag h1 f b t
  unfold cuResult
  extract_lets c r e t1 t2 t3 t4 t5
  have hb : kept t3 = kept s := (hstat _ _ _).trans ((kept_incFld h1 _ _).trans ((hstat _ _ _).trans
    ((kept_setReg h2 _ _).trans (kept_setReg h3 _ s))))
  have h4 : kept t4 = kept s := (kept_raiseEv (by omega) _ _).trans ((hstat _ _ _).trans hb)
  have h5 : kept t5 = kept s := by
    simp only [t5]
    split
    · exact (kept_raiseEv (by decide) _ _).trans hb
    split
    · exact (kept_raiseFault (by omega) _).trans h4
    · exact h4
  split
  · exact (kept_cuArm hu t5).trans h5
  · exact (hstat _ _ _).trans h5

theorem kept_cuTake (bytes : List Nat) (s : State) : kept (cuTake u bytes s) = kept s := by
  unfold cuTake
  extract_lets t l
  have ht : kept t = kept s := by
    simp only [t]
    split
    · exact kept_cuResult hu s
    · rfl
  split
  · exact ht
  · exact ht

end

theorem kept_cuBus (write : Bool) (a : Nat) (v : Word) (s : State) : kept (cuBus write a v s) = kept s := by
  refine kept_foldl (fun t u hu => ?_) s
  dsimp only
  split
  · exact kept_cuTake (by simpa using hu) _ t
  · rfl

theorem kept_flashRead (a n : Nat) (s : State) : kept (flashRead a n s) = kept s := by
  unfold flashRead cuFlash
  split
  · refine kept_foldl (fun t u hu => ?_) s
    split
    · exact kept_cuTake (by simpa using hu) _ t
    · rfl
  · rfl

/-! ### Tables that list a key once -/

/-- Key `k` is listed once at most. -/
def Tab.Once {α : Type} (t : Tab α) (k : Nat) : Prop := (t.filter (fun e => e.1 == k)).length ≤ 1

theorem Tab.filter_key_erase {α : Type} (t : Tab α) (k : Nat) : (Tab.erase t k).filter (fun e => e.1 == k) = [] := by
  induction t with
  | nil => rfl
  | cons e rest ih =>
    unfold Tab.erase
    split
    · exact ih
    · rename_i he
      rw [List.filter_cons_of_neg (by simpa using he), ih]

theorem Tab.length_filter_key_insert {α : Type} (t : Tab α) (k : Nat) (v : α) :
    ((Tab.insert t k v).filter (fun e => e.1 == k)).length = (t.filter (fun e => e.1 == k)).length + 1 := by
  induction t with
  | nil => simp [Tab.insert]
  | cons e rest ih =>
    unfold Tab.insert
    split
    · rw [List.filter_cons_of_pos (by simp), List.length_cons]
    · rw [List.filter_cons, List.filter_cons]
      split <;> simp [ih]

theorem Tab.once_put {α : Type} [DecidableEq α] (t : Tab α) (d v : α) (k : Nat) : Tab.Once (Tab.put t d k v) k := by
  unfold Tab.Once Tab.put
  split
  · simp [Tab.filter_key_erase]
  · rw [Tab.length_filter_key_insert, Tab.filter_key_erase]
    exact le_refl 1

/-- What a filter that keeps the key leaves decides whether it is listed once. -/
theorem Tab.Once.of_filter {α : Type} {t u : Tab α} {p : Nat → Bool} {k : Nat} (h : Tab.Once t k) (hk : p k = true)
    (hf : u.filter (fun e => p e.1) = t.filter (fun e => p e.1)) : Tab.Once u k := by
  have hsub : ∀ w : Tab α, w.filter (fun e => e.1 == k) = (w.filter (fun e => p e.1)).filter (fun e => e.1 == k) := fun w => by
    rw [List.filter_filter]
    refine List.filter_congr fun e _ => ?_
    by_cases he : e.1 = k
    · simp [he, hk]
    · simp [he]
  unfold Tab.Once at h ⊢
  rw [hsub, hf, ← hsub]
  exact h

/-- A key that is not listed is not listed after its neighbours change. -/
theorem Tab.find_filterMap_none {α : Type} {g : Nat × α → Option (Nat × α)} (hg : ∀ e e', g e = some e' → e'.1 = e.1) {k : Nat} :
    ∀ t : Tab α, (∀ e ∈ t, e.1 ≠ k) → Tab.find (t.filterMap g) k = none
  | [], _ => rfl
  | e :: rest, h => by
    have ih := Tab.find_filterMap_none hg rest fun x hx => h x (List.mem_cons_of_mem _ hx)
    rw [List.filterMap_cons]
    cases hx : g e with
    | none => exact ih
    | some e' =>
      have hne : e'.1 ≠ k := fun he => h e List.mem_cons_self ((hg e e' hx).symm.trans he)
      exact (if_neg hne).trans ih

/-- An entry that is listed once changes as the map says. -/
theorem Tab.find_filterMap_of_once {α : Type} {g : Nat × α → Option (Nat × α)} (hg : ∀ e e', g e = some e' → e'.1 = e.1)
    {k : Nat} : ∀ t : Tab α, Tab.Once t k →
      Tab.find (t.filterMap g) k = (Tab.find t k).bind fun v => (g (k, v)).map Prod.snd
  | [], _ => rfl
  | (j, v) :: rest, h => by
    rw [List.filterMap_cons]
    by_cases hj : j = k
    · subst hj
      have hrest : ∀ e ∈ rest, e.1 ≠ j := by
        unfold Tab.Once at h
        rw [List.filter_cons_of_pos (by simp), List.length_cons] at h
        have hnil : rest.filter (fun e => e.1 == j) = [] := List.eq_nil_of_length_eq_zero (by omega)
        intro e he hej
        have := List.filter_eq_nil_iff.1 hnil e he
        simp [hej] at this
      have hfind : Tab.find ((j, v) :: rest) j = some v := if_pos rfl
      rw [hfind]
      cases hx : g (j, v) with
      | none => simpa [hx] using Tab.find_filterMap_none hg rest hrest
      | some e' =>
        show Tab.find (e' :: rest.filterMap g) j = (g (j, v)).map Prod.snd
        rw [hx]
        exact if_pos (hg _ _ hx)
    · have honce : Tab.Once rest k := by
        unfold Tab.Once at h ⊢
        rwa [List.filter_cons_of_neg (by simpa using hj)] at h
      have ih := Tab.find_filterMap_of_once hg rest honce
      have hfind : Tab.find ((j, v) :: rest) k = Tab.find rest k := if_neg hj
      rw [hfind]
      cases hx : g (j, v) with
      | none => exact ih
      | some e' => exact (if_neg (fun he => hj ((hg _ _ hx).symm.trans he))).trans ih

/-! ### A Lodge reset -/

theorem reg_lodgeReset {s : State} {a : Nat} (h : Tab.Once s.regs a) :
    (lodgeReset s).reg a = lodgeWord a (s.reg a) ∨ (lodgeReset s).reg a = s.reg a := by
  have hf := Tab.find_filterMap_of_once (g := fun e : Nat × Word =>
    if lodgeWord e.1 e.2 = regReset e.1 then none else some (e.1, lodgeWord e.1 e.2)) (fun e e' he => by
      split at he
      · cases he
      · cases he
        rfl) s.regs h
  have hreg : (lodgeReset s).reg a = (Tab.find (regsMap lodgeWord s.regs) a).getD (regReset a) := rfl
  have hs : s.reg a = (Tab.find s.regs a).getD (regReset a) := rfl
  rw [hreg, hs, regsMap, hf]
  cases Tab.find s.regs a with
  | none => exact .inr rfl
  | some v =>
    refine .inl ?_
    by_cases hv : lodgeWord a v = regReset a
    · simp [hv]
    · simp [hv]

/-- Field `f` of the word at `a` keeps its value over a Lodge reset. -/
def KeptField (a : Nat) (f : Fld) : Prop := ∀ v, fget f (lodgeWord a v) = fget f v

theorem fld_lodgeReset {s : State} {a : Nat} (h : Tab.Once s.regs a) {f : Fld} (hf : KeptField a f) :
    (lodgeReset s).fld a f = s.fld a f := by
  unfold State.fld
  rcases reg_lodgeReset h with hr | hr
  · rw [hr, hf]
  · rw [hr]

theorem learnDays_lodgeReset {s : State} {g : Nat} (h : Tab.Once s.meas.chans g) :
    ((lodgeReset s).mch g).learnDays = (s.mch g).learnDays := by
  have hf := Tab.find_filterMap_of_once (g := fun e : Nat × MeasCh =>
    if MeasCh.lodgeReset e.2 = {} then none else some (e.1, MeasCh.lodgeReset e.2)) (fun e e' he => by
      split at he
      · cases he
      · cases he
        rfl) s.meas.chans h
  have hr : (lodgeReset s).mch g = (Tab.find (Tab.map {} MeasCh.lodgeReset s.meas.chans) g).getD {} := rfl
  have hs : s.mch g = (Tab.find s.meas.chans g).getD {} := rfl
  rw [hr, hs, Tab.map, hf]
  cases Tab.find s.meas.chans g with
  | none => rfl
  | some v =>
    have hl : v.learnDays = (MeasCh.lodgeReset v).learnDays := rfl
    by_cases hv : MeasCh.lodgeReset v = {}
    · simp [hv, hl]
    · simp [hv, hl]

/-! ### The words that a Lodge reset keeps whole -/

/-- The word `w` with the fields that `k` names taken from `v`. -/
def takenFields (k : FInfo → Bool) (v : Word) (fs : List FInfo) (w : Word) : Word :=
  fs.foldl (fun w x => if k x then fput x.fld (fget x.fld v) w else w) w

theorem fget_takenFields_apart {k : FInfo → Bool} {fs : List FInfo} {g : Fld} (h : ∀ x ∈ fs, x.fld.apart g = true)
    (v w : Word) : fget g (takenFields k v fs w) = fget g w := by
  induction fs generalizing w with
  | nil => rfl
  | cons x rest ih =>
    refine (ih (fun y hy => h y (List.mem_cons_of_mem _ hy)) _).trans ?_
    dsimp only
    split
    · exact fget_fput_other _ _ _ _ (of_decide_eq_true (h x List.mem_cons_self))
    · rfl

/-- A field that is taken, of a row whose fields share no bit. -/
theorem fget_takenFields {k : FInfo → Bool} {fs : List FInfo} {f : FInfo} (hf : f ∈ fs) (hk : k f = true)
    (hd : fs.Pairwise fun x y => y.fld.apart x.fld = true) (h32 : f.fld.lo + f.fld.w ≤ 32) (v w : Word) :
    fget f.fld (takenFields k v fs w) = fget f.fld v := by
  induction fs generalizing w with
  | nil => cases hf
  | cons x rest ih =>
    obtain ⟨hx, hrest⟩ := List.pairwise_cons.1 hd
    rcases List.mem_cons.1 hf with rfl | hmem
    · refine (fget_takenFields_apart hx v _).trans ?_
      dsimp only
      rw [if_pos hk, fget_fput_same _ _ _ h32]
      exact Nat.mod_eq_of_lt (fget_lt _ _)
    · exact ih hmem hrest _

theorem keptField_of_row {a i : Nat} {r : RegRow} {f : FInfo} (hr : regAt a = some (r, i)) (hl : r.home = .lodge)
    (hf : f ∈ r.fields) (hk : fieldKept r f = true) (hd : r.fields.Pairwise fun x y => y.fld.apart x.fld = true)
    (h32 : f.fld.lo + f.fld.w ≤ 32) : KeptField a f.fld := by
  intro v
  unfold lodgeWord
  rw [hr]
  dsimp only
  rw [if_pos hl]
  exact fget_takenFields hf hk hd h32 v _

/-- The row of `a` says that field `f` keeps its value over a Lodge reset. -/
def rowKeeps (a : Nat) (f : Fld) : Bool :=
  match regAt a with
  | some (r, _) => decide (r.home = .lodge ∧ (r.fields.Pairwise fun x y => y.fld.apart x.fld = true) ∧
      ∃ x ∈ r.fields, x.fld = f ∧ fieldKept r x = true ∧ x.fld.lo + x.fld.w ≤ 32)
  | none => false

theorem keptField_of_rowKeeps {a : Nat} {f : Fld} (h : rowKeeps a f = true) : KeptField a f := by
  unfold rowKeeps at h
  split at h
  · rename_i r i hr
    obtain ⟨hl, hd, x, hx, rfl, hk, h32⟩ := of_decide_eq_true h
    exact keptField_of_row hr hl hx hk hd h32
  · cases h

theorem updStat_keeps : KeptField UPD_STAT UPD_STAT_STATE ∧ KeptField UPD_STAT UPD_STAT_REASON :=
  ⟨keptField_of_rowKeeps (by decide +kernel), keptField_of_rowKeeps (by decide +kernel)⟩

theorem hhbase_keeps (g : Fin 96) : KeptField (MEAS_HHBASE g) MEAS_HHBASE_LEARNED ∧ KeptField (MEAS_HHBASE g) MEAS_HHBASE_LEFT := by
  have h : ∀ g : Fin 96, rowKeeps (MEAS_HHBASE g) MEAS_HHBASE_LEARNED = true ∧ rowKeeps (MEAS_HHBASE g) MEAS_HHBASE_LEFT = true := by
    decide +kernel
  exact ⟨keptField_of_rowKeeps (h g).1, keptField_of_rowKeeps (h g).2⟩

/-! ### The end of a command -/

/-- What every end of a command leaves of state `s`, a reaction or a Lodge reset among them. -/
structure Remains (s t : State) : Prop where
  fld : ∀ {a : Nat} {f : Fld}, spared a = true → KeptField a f → Tab.Once s.regs a → t.fld a f = s.fld a f
  learnDays : ∀ {g : Nat}, Tab.Once s.meas.chans g → (t.mch g).learnDays = (s.mch g).learnDays
  dayOpen : t.meas.dayOpen = s.meas.dayOpen
  fwSlot : t.start.fwSlot = s.start.fwSlot

theorem once_of_kept {s t : State} (h : kept t = kept s) {a : Nat} (ha : spared a = true) (ho : Tab.Once s.regs a) :
    Tab.Once t.regs a := ho.of_filter ha (congrArg Prod.fst h)

theorem reg_of_kept {s t : State} (h : kept t = kept s) {a : Nat} (ha : spared a = true) : t.reg a = s.reg a := by
  have hf : t.regs.filter (fun e => spared e.1) = s.regs.filter (fun e => spared e.1) := congrArg Prod.fst h
  unfold State.reg Tab.get
  rw [← Tab.find_filter t.regs (p := fun e => spared e.1) fun _ => ha, hf, Tab.find_filter _ fun _ => ha]

theorem remains_of_kept {s t : State} (h : kept t = kept s) : Remains s t where
  fld ha _ _ := congrArg (fget _) (reg_of_kept h ha)
  learnDays _ := by
    unfold State.mch
    rw [meas_of_kept h]
  dayOpen := congrArg Meas.dayOpen (meas_of_kept h)
  fwSlot := congrArg Start.fwSlot (start_of_kept h)

theorem remains_lodgeReset (s : State) : Remains s (lodgeReset s) where
  fld _ hf ho := fld_lodgeReset ho hf
  learnDays ho := learnDays_lodgeReset ho
  dayOpen := rfl
  fwSlot := rfl

theorem Remains.after {s t u : State} (h : kept t = kept s) (h' : Remains t u) : Remains s u where
  fld ha hf ho := (h'.fld ha hf (once_of_kept h ha ho)).trans ((remains_of_kept h).fld ha hf ho)
  learnDays ho := by
    refine (h'.learnDays ?_).trans ((remains_of_kept h).learnDays ho)
    rw [meas_of_kept h]
    exact ho
  dayOpen := h'.dayOpen.trans (remains_of_kept h).dayOpen
  fwSlot := h'.fwSlot.trans (remains_of_kept h).fwSlot

theorem Remains.then {s t u : State} (h : Remains s t) (h' : kept u = kept t) : Remains s u where
  fld ha hf ho := (congrArg (fget _) (reg_of_kept h' ha)).trans (h.fld ha hf ho)
  learnDays ho := by
    refine Eq.trans ?_ (h.learnDays ho)
    unfold State.mch
    rw [meas_of_kept h']
  dayOpen := (congrArg Meas.dayOpen (meas_of_kept h')).trans h.dayOpen
  fwSlot := (congrArg Start.fwSlot (start_of_kept h')).trans h.fwSlot

theorem Remains.of_parts {s t u : State} (h : Remains t u) (hr : t.regs = s.regs) (hm : t.meas = s.meas)
    (hf : t.start.fwSlot = s.start.fwSlot) : Remains s u where
  fld ha hk ho := by
    refine (h.fld ha hk (hr ▸ ho)).trans ?_
    unfold State.fld State.reg
    rw [hr]
  learnDays ho := by
    refine (h.learnDays (hm ▸ ho)).trans ?_
    unfold State.mch
    rw [hm]
  dayOpen := h.dayOpen.trans (congrArg Meas.dayOpen hm)
  fwSlot := h.fwSlot.trans hf

theorem remains_lodgeResetWarm (s : State) : Remains s (lodgeResetWarm s) := by
  unfold lodgeResetWarm
  extract_lets running t
  obtain ⟨u, hu, hr, hm, hf⟩ : ∃ u, t = lodgeReset u ∧ u.regs = s.regs ∧ u.meas = s.meas ∧ u.start.fwSlot = s.start.fwSlot := by
    refine ⟨_, rfl, ?_⟩
    split <;> exact ⟨rfl, rfl, rfl⟩
  have h : Remains s t := hu ▸ (remains_lodgeReset u).of_parts hr hm hf
  exact ⟨h.fld, h.learnDays, h.dayOpen, h.fwSlot⟩

theorem remains_resetAfter (due : Bool) (s : State) : Remains s (resetAfter due s) := by
  unfold resetAfter
  split
  · exact (remains_lodgeResetWarm _).of_parts rfl rfl rfl
  · exact remains_of_kept rfl

theorem remains_settle (s : State) : Remains s (settle s) := by
  unfold settle
  dsimp only
  refine Remains.then ?_ (kept_awakeEval _)
  split
  · exact remains_of_kept rfl
  · exact .after (kept_react _ s) (remains_resetAfter _ _)

end Sys2Proof.Machine
end

section
/-! Measurement, diagnosis and trending of the high-side channels (R128 to R143). -/

namespace Sys2Proof.Machine

/-! ### The state of a channel -/

theorem State.mch_modMch_same (g : Nat) (f : MeasCh → MeasCh) (s : State) : (State.modMch g f s).mch g = f (s.mch g) :=
  Tab.get_mod_same _ _ _ _

theorem State.mch_modMch_other {g h : Nat} (hne : h ≠ g) (f : MeasCh → MeasCh) (s : State) :
    (State.modMch g f s).mch h = s.mch h := Tab.get_mod_other _ _ _ hne

theorem State.chan_modChan_same (g : Nat) (f : Chan → Chan) (s : State) : (State.modChan g f s).chan g = f (s.chan g) :=
  Tab.get_mod_same _ _ _ _

theorem measRegs_plain : ∀ g : Fin 96, (reportReg (MEAS_IV g) = false ∧ MEAS_IV g ≠ NETPM_STAT) ∧
    (reportReg (MEAS_DIAG g) = false ∧ MEAS_DIAG g ≠ NETPM_STAT) ∧ MEAS_IV g ≠ MEAS_DIAG g := by decide

theorem measArb_plain : ∀ b : Fin 6, reportReg (MEAS_ARB b) = false ∧ MEAS_ARB b ≠ NETPM_STAT := by decide

/-- A channel of a pair is governed by the even one. -/
theorem govern_lt {ch : Nat} (s : State) (h : ch < 96) : govern s ch < 96 := by
  unfold govern
  split <;> omega

theorem chan_dieEv (d n i : Nat) (s : State) (g : Nat) : (dieEv d n i s).chan g = s.chan g := by
  unfold dieEv
  split <;> rfl

section
variable {s u t : State} (h : Settled s u t)
include h

theorem Settled.mch (g : Nat) : t.mch g = u.mch g := by
  rw [h.frame]
  rfl

theorem Settled.chan (g : Nat) : t.chan g = u.chan g := by
  rw [h.frame]
  rfl

theorem Settled.measIv (g : Fin 96) (f : Fld) : t.fld (MEAS_IV g) f = u.fld (MEAS_IV g) f :=
  h.fld f (measRegs_plain g).1.1 (measRegs_plain g).1.2

theorem Settled.measDiag (g : Fin 96) (f : Fld) : t.fld (MEAS_DIAG g) f = u.fld (MEAS_DIAG g) f :=
  h.fld f (measRegs_plain g).2.1.1 (measRegs_plain g).2.1.2

end

/-! ### Results of the diagnosis (R130 to R134) -/

section
variable {F l : List Nat} {s t : State} (h : Acts F l s t) {g : Nat}
include h

theorem acts_modMch (f : MeasCh → MeasCh) : Acts F l s (State.modMch g f t) := h

theorem acts_modChan (f : Chan → Chan) : Acts F l s (State.modChan g f t) := h

theorem acts_takeFg (b k : Nat) : Acts F l s (takeFg b k t) := h

variable (hl : MEAS_DIAG g ∈ l)
include hl

theorem acts_diagConfirm (code by' : Nat) : Acts F l s (diagConfirm g code by' t) := by
  have hb := acts_modMch (g := g) (acts_setFld h MEAS_DIAG_CODE code hl) (fun x => { x with codeBy := by', good := 0 })
  unfold diagConfirm
  dsimp only
  split
  · exact acts_dieEv (acts_setFlag hb _ _ hl) _ _ (by decide)
  · exact acts_dieEv (acts_setFlag hb _ _ hl) _ _ (by decide)
  · exact acts_dieEv (acts_setFlag hb _ _ hl) _ _ (by decide)
  · exact acts_dieEv (acts_setFlag hb _ _ hl) _ _ (by decide)
  · exact hb

theorem acts_diagGood (by' need : Nat) : Acts F l s (diagGood g by' need t) := by
  unfold diagGood
  refine acts_ite (fun _ => h) fun _ => acts_ite (fun _ => ?_) fun _ => acts_modMch h _
  exact acts_dieEv (acts_modMch (acts_setFld h _ _ hl) _) _ _ (by decide)

end

/-- A confirmed short shows its code and its sticky bit, and keeps the other fields apart from them. -/
theorem diagConfirm_short {g : Fin 96} {code : Nat} {f : Fld} (h : (code = 3 ∧ f = MEAS_DIAG_SHORT_BAT) ∨
    (code = 4 ∧ f = MEAS_DIAG_SHORT_GND)) (by' : Nat) (s : State) :
    diagCode (diagConfirm g code by' s) g = code ∧ (diagConfirm g code by' s).fld (MEAS_DIAG g) f = 1 ∧
      (∀ x : Fld, x.lo + x.w ≤ 24 → (diagConfirm g code by' s).fld (MEAS_DIAG g) x = s.fld (MEAS_DIAG g) x) ∧
      ∀ c, (diagConfirm g code by' s).chan c = s.chan c := by
  obtain ⟨n, hn, heq⟩ : ∃ n, n < 256 ∧ diagConfirm g code by' s = dieEv (dieOfPav (g / 16)) n g
      (State.setFlag (MEAS_DIAG g) f true (State.modMch g (fun x => { x with codeBy := by', good := 0 })
        (State.setFld (MEAS_DIAG g) MEAS_DIAG_CODE code s))) := by
    rcases h with ⟨rfl, rfl⟩ | ⟨rfl, rfl⟩
    · exact ⟨34, by decide, rfl⟩
    · exact ⟨35, by decide, rfl⟩
  obtain ⟨hf, hcode⟩ : (f.lo + f.w ≤ 28 ∧ 24 ≤ f.lo ∧ 0 < f.w) ∧ code < 16 := by
    rcases h with ⟨rfl, rfl⟩ | ⟨rfl, rfl⟩ <;> decide
  obtain ⟨hf1, hf2, hf3⟩ := hf
  have hx : ∀ x, (diagConfirm g code by' s).fld (MEAS_DIAG g) x = (State.setFlag (MEAS_DIAG g) f true
      (State.setFld (MEAS_DIAG g) MEAS_DIAG_CODE code s)).fld (MEAS_DIAG g) x := fun x => by
    rw [heq, fld_dieEv _ _ hn _ (measRegs_plain g).2.1.1]
    rfl
  refine ⟨(hx _).trans ?_, (hx f).trans ?_, fun x hxlo => (hx x).trans ?_, fun c => ?_⟩
  · rw [State.fld_setFlag_field _ _ _ _ _ (.inr hf1), State.fld_setFld_same _ _ _ _ (by decide)]
    exact Nat.mod_eq_of_lt hcode
  · exact State.fld_setFlag_same _ _ _ _ (by omega) hf3
  · rw [State.fld_setFlag_field _ _ _ _ _ (.inl (by omega)), State.fld_setFld_field _ _ _ _ _ (.inl (by show _ ≤ 28; omega))]
  · rw [heq, chan_dieEv]
    rfl

/-! ### On-state bursts, off-state tests, captures and stretches -/

/-- What a burst does beside storing its word touches the diagnosis alone. -/
theorem acts_burst (F : List Nat) (g i v : Nat) (s : State) : Acts F [MEAS_DIAG g]
    (State.setReg (MEAS_IV g) (fput MEAS_IV_I (clampN 0 0xFFFF i) (fput MEAS_IV_V (clampN 0 0xFFF v)
      (fput MEAS_IV_VALID 1 (s.reg (MEAS_IV g))))) s) (burst g i v s) := by
  have hl : MEAS_DIAG g ∈ [MEAS_DIAG g] := List.mem_singleton_self _
  unfold burst
  extract_lets w t1 t2 n t3 t4
  have h2 : Acts F [MEAS_DIAG g] (State.setReg (MEAS_IV g) w s) t2 := acts_modMch (acts_takeFg (.refl _ _ _) _ _) _
  refine acts_ite (fun _ => ?_) fun _ => ?_
  · exact acts_ite (fun _ => acts_diagConfirm (acts_modMch h2 _) hl _ _) fun _ => acts_modMch h2 _
  · exact acts_ite (fun _ => acts_diagGood (acts_modMch h2 _) hl _ _) fun _ => acts_diagGood (acts_modMch h2 _) hl _ _

section
variable {ch : Fin 96} {s : State} (hc : Calm s) {g : Fin 96} (hg : govern s ch = g)
include hc hg

theorem burst_stored {i v : Nat} (hen : s.fld (MEAS_DCFG g) MEAS_DCFG_DIAG_EN = 1) (hlive : pavLive s g = true)
    (hrun : measRuns s g = true) (hown : slotsOwn s (g / 16) (burstSpan s (g / 16) (slotNow s)) = true)
    (hfit : burstFits s g (burstSpan s (g / 16) (slotNow s)) = true) (hi : i ≤ 65535) (hv : v ≤ 4095) :
    Runs (.onstateBurstComplete ch i v) s fun t =>
      t.fld (MEAS_IV g) MEAS_IV_I = i ∧ t.fld (MEAS_IV g) MEAS_IV_V = v ∧ t.fld (MEAS_IV g) MEAS_IV_VALID = 1 := by
  have hx : exec (.onstateBurstComplete ch i v) s = finish s (burst g i v s) := by
    refine congrArg (finish s) ?_
    rw [hg]
    unfold onstateBurst
    dsimp only
    rw [flag_of_fld_eq_one hen, hlive, hrun, hfit, hown]
    rfl
  have hacts := acts_burst [] g i v s
  have hcs : Calm (State.setReg (MEAS_IV g) (fput MEAS_IV_I (clampN 0 0xFFFF i) (fput MEAS_IV_V (clampN 0 0xFFF v)
    (fput MEAS_IV_VALID 1 (s.reg (MEAS_IV g))))) s) := hc
  have hw : ∀ f, (burst g i v s).fld (MEAS_IV g) f = fget f (fput MEAS_IV_I (clampN 0 0xFFFF i)
      (fput MEAS_IV_V (clampN 0 0xFFF v) (fput MEAS_IV_VALID 1 (s.reg (MEAS_IV g))))) := fun f =>
    (hacts.fld f (by simp) (measRegs_plain g).1.1 (measRegs_plain g).1.2).trans
      (congrArg (fget f) (State.reg_setReg_same _ _ _))
  have hci : clampN 0 0xFFFF i = i := by rw [clampN, if_neg (Nat.not_lt_zero _), if_neg (by omega)]
  have hcv : clampN 0 0xFFF v = v := by rw [clampN, if_neg (Nat.not_lt_zero _), if_neg (by omega)]
  refine runs_of_calm hx (hacts.calm hcs) fun t ht _ => ⟨?_, ?_, ?_⟩
  · rw [ht.measIv, hw, fget_fput_same _ _ _ (by decide), hci]
    exact Nat.mod_eq_of_lt (show i < 65536 by omega)
  · rw [ht.measIv, hw, fget_fput_other _ _ _ _ (by decide), fget_fput_same _ _ _ (by decide), hcv]
    exact Nat.mod_eq_of_lt (show v < 4096 by omega)
  · rw [ht.measIv, hw, fget_fput_other _ _ _ _ (by decide), fget_fput_other _ _ _ _ (by decide),
      fget_fput_same _ _ _ (by decide)]
    rfl

theorem offTest_shortBat {va vb : Nat} (hen : s.fld (MEAS_DCFG g) MEAS_DCFG_OFF_EN = 1) (hoff : offAllowed s g = true)
    (hrun : measRuns s g = true) (hlong : (offLong s g || offTimeFits s g) = true) (hvb : 4000 ≤ vb)
    (hol : s.fld (MEAS_DCFG g) MEAS_DCFG_OL_CNT = 0) (hk : (s.mch g).offKind = 0) :
    Runs (.offstateTestComplete ch va vb) s fun t =>
      diagCode t g = 3 ∧ t.fld (MEAS_DIAG g) MEAS_DIAG_SHORT_BAT = 1 ∧ OnlyRegs [MEAS_DIAG g, MEAS_DIAG ch] s t := by
  obtain ⟨u, hu⟩ : ∃ u, u = State.modMch g (fun x => { x with
      offKind := 3, offCount := 1, good := if x.codeBy = 1 then 0 else x.good })
    (State.modMch g (fun x => { x with testEnd := some s.now }) s) := ⟨_, rfl⟩
  have htest : offTest g va vb s = diagConfirm g 3 1 u := by
    have hkind : ((State.modMch g (fun x => { x with testEnd := some s.now }) s).mch g).offKind = 0 := by
      rw [State.mch_modMch_same, hk]
    have hneed : olNeed u g = 1 := by
      rw [hu]
      exact congrArg (· + 1) hol
    have hconf : confirms u g 1 3 = true := by
      unfold confirms
      rw [hneed]
      rfl
    unfold offTest
    dsimp only
    rw [if_pos hvb, if_neg (by decide : ¬ 3 = 0), hkind, if_neg (by decide : ¬ 0 = 3), ← hu, hconf, if_pos rfl]
  have hx : exec (.offstateTestComplete ch va vb) s = finish s (diagConfirm g 3 1 u) := by
    refine congrArg (finish s) (Eq.trans ?_ htest)
    rw [hg]
    unfold offstateTest
    rw [flag_of_fld_eq_one hen, hoff, hrun, hlong]
    rfl
  have hactu : Acts [] [MEAS_DIAG g, MEAS_DIAG ch] s u := hu ▸ acts_modMch (acts_modMch (.refl _ _ s) _) _
  have hacts := acts_diagConfirm hactu (g := g) (by simp) 3 1
  obtain ⟨hcode, hbit, -, -⟩ := diagConfirm_short (g := g) (.inl ⟨rfl, rfl⟩) 1 u
  exact runs_of_calm hx (hacts.calm hc) fun t ht _ =>
    ⟨(ht.measDiag g _).trans hcode, (ht.measDiag g _).trans hbit, ht.onlyRegs hacts⟩

theorem capture_shortGnd {v : Nat} (hcap : (s.chan g).capture = true) (hrun : measRuns s g = true) (hv : v * 16 < 2000) :
    Runs (.latchCapture ch v) s fun t =>
      t.fld (MEAS_DIAG g) MEAS_DIAG_LATCH_V = v ∧ diagCode t g = 4 ∧ t.fld (MEAS_DIAG g) MEAS_DIAG_SHORT_GND = 1 ∧
        (t.chan g).capture = false := by
  obtain ⟨u, hu⟩ : ∃ u, u = State.modChan g (fun c => { c with capture := false })
    (takeFg (g / 16) 1 (State.setFld (MEAS_DIAG g) MEAS_DIAG_LATCH_V (clampN 0 0xFFF v) s)) := ⟨_, rfl⟩
  have hx : exec (.latchCapture ch v) s = finish s (diagConfirm g 4 2 u) := by
    refine congrArg (finish s) ?_
    rw [hg]
    unfold latchCapture latchSample
    dsimp only
    rw [hcap, hrun, if_pos hv, hu]
    rfl
  have hactu : Acts [] [MEAS_DIAG g] s u :=
    hu ▸ acts_modChan (acts_takeFg (acts_setFld (.refl _ _ s) _ _ (by simp)) _ _) _
  have hacts := acts_diagConfirm hactu (g := g) (by simp) 4 2
  obtain ⟨hcode, hbit, hrest, hchan⟩ := diagConfirm_short (g := g) (.inr ⟨rfl, rfl⟩) 2 u
  refine runs_of_calm hx (hacts.calm hc) fun t ht _ =>
    ⟨?_, (ht.measDiag g _).trans hcode, (ht.measDiag g _).trans hbit, ?_⟩
  · have hcv : clampN 0 0xFFF v = v := by rw [clampN, if_neg (Nat.not_lt_zero _), if_neg (by omega)]
    rw [ht.measDiag, hrest _ (by decide), hu]
    refine (State.fld_setFld_same s _ _ _ (by decide)).trans ?_
    rw [hcv]
    exact Nat.mod_eq_of_lt (show v < 4096 by omega)
  · rw [ht.chan, hchan, hu, State.chan_modChan_same]

theorem stretch_owed {ns period : Nat} (hp : pavPeriod s g false = some period)
    (hst : s.fld (MEAS_DCFG g) MEAS_DCFG_STRETCH = 1) (hen : s.fld (MEAS_DCFG g) MEAS_DCFG_DIAG_EN = 1)
    (hon : pavState s g = pavOn) (hrun : measRuns s g = true) (hleft : (s.mch g).stretchLeft = 0)
    (hton : onTimeOf (g / 16) period (s.chan g).duty < ns) (hns : ns + pavMinOn (g / 16) ≤ period) :
    Runs (.diagStretch ch ns) s fun t =>
      t.fld (MEAS_DIAG g) MEAS_DIAG_STRETCHED = 1 ∧ (t.chan g).pulse = ns ∧
        (t.chan g).debt = (s.chan g).debtWas + (ns - onTimeOf (g / 16) period (s.chan g).duty) ∧
        OnlyRegs [MEAS_DIAG g, MEAS_DIAG ch] s t := by
  obtain ⟨ton, hton'⟩ : ∃ ton, ton = onTimeOf (g / 16) period (s.chan g).duty := ⟨_, rfl⟩
  obtain ⟨v, hv⟩ : ∃ v, v = State.modChan g (fun c => { c with debt := c.debtWas + (ns - ton), pulse := ns })
    (State.setFlag (MEAS_DIAG g) MEAS_DIAG_STRETCHED true s) := ⟨_, rfl⟩
  obtain ⟨u, hu⟩ : ∃ u, u = State.modMch g (fun x => { x with stretchLeft := stretchN s }) v := ⟨_, rfl⟩
  have hx : exec (.diagStretch ch ns) s = finish s u := by
    refine congrArg (finish s) ?_
    rw [hg]
    unfold stretch
    rw [hp]
    dsimp only
    rw [if_pos ⟨flag_of_fld_eq_one hst, flag_of_fld_eq_one hen, hon, hrun, hleft, hton, hns⟩, hu, hv, hton']
  have hactv : Acts [] [MEAS_DIAG g, MEAS_DIAG ch] s v :=
    hv ▸ acts_modChan (acts_setFlag (.refl _ _ s) _ _ (by simp)) _
  have hacts : Acts [] [MEAS_DIAG g, MEAS_DIAG ch] s u := hu ▸ acts_modMch hactv _
  have hchan : u.chan g = { s.chan g with debt := (s.chan g).debtWas + (ns - ton), pulse := ns } := by
    have hvg : v.chan g = { s.chan g with debt := (s.chan g).debtWas + (ns - ton), pulse := ns } := by
      rw [hv]
      exact State.chan_modChan_same g _ _
    rw [hu]
    exact hvg
  rw [← hton']
  refine runs_of_calm hx (hacts.calm hc) fun t ht _ => ⟨?_, ?_, ?_, ht.onlyRegs hacts⟩
  · rw [ht.measDiag, hu, hv]
    exact State.fld_setFlag_same s _ _ _ (by decide) (by decide)
  · rw [ht.chan, hchan]
  · rw [ht.chan, hchan]

end

end Sys2Proof.Machine
end

section
/-! Trending (R127, R138 to R144): samples, batches, days and learning. -/

namespace Sys2Proof.Machine

/-! ### Samples and batches -/

theorem background_sampled {b : Fin 6} {k : Fin 16} {i v : Nat} {ready : BitVec 16} {s : State} (hc : Calm s)
    (hmay : bgMay s b = true) (hrun : measRuns s (16 * b + k) = true) (hnext : hhNext s b ready.toNat = some k.val)
    (hel : hhEligible s (16 * b + k) i = true) : Runs (.backgroundSample b k i v ready) s fun t =>
      (t.mch (16 * b + k)).sumVI = (s.mch (16 * b + k)).sumVI + v * i ∧
      (t.mch (16 * b + k)).sumII = (s.mch (16 * b + k)).sumII + i * i ∧
      (t.mch (16 * b + k)).count = (s.mch (16 * b + k)).count + 1 ∧
      t.fld (MEAS_ARB b) MEAS_ARB_BG_PTR = (k.val + 1) % 16 ∧ OnlyRegs [MEAS_ARB b, MEAS_SCNT b] s t := by
  obtain ⟨g, hg⟩ : ∃ g, g = 16 * b.val + k.val := ⟨_, rfl⟩
  rw [← hg] at hrun hel ⊢
  obtain ⟨w, hw⟩ : ∃ w, w = takeBg b (State.setFld (MEAS_ARB b) MEAS_ARB_BG_PTR ((k + 1) % 16) s) := ⟨_, rfl⟩
  obtain ⟨u, hu⟩ : ∃ u, u = State.modMch g (fun x => { x with
    sumVI := x.sumVI + v * i, sumII := x.sumII + i * i, count := x.count + 1 }) w := ⟨_, rfl⟩
  have hx : exec (.backgroundSample b k i v ready) s = finish s u := by
    refine congrArg (finish s) ?_
    unfold backgroundSample
    dsimp only
    rw [← hg, hmay, hrun, hnext, hel, beq_self_eq_true, hu, hw]
    rfl
  have hactw : Acts [] [MEAS_ARB b, MEAS_SCNT b] s w :=
    hw ▸ (acts_setFld (.refl _ _ s) _ _ (by simp) : Acts [] [MEAS_ARB b, MEAS_SCNT b] s (State.setFld (MEAS_ARB b) _ _ s))
  have hacts : Acts [] [MEAS_ARB b, MEAS_SCNT b] s u := hu ▸ acts_modMch hactw _
  have hm : u.mch g = { s.mch g with
      sumVI := (s.mch g).sumVI + v * i, sumII := (s.mch g).sumII + i * i, count := (s.mch g).count + 1 } := by
    have hwg : w.mch g = s.mch g := by
      rw [hw]
      rfl
    rw [hu, State.mch_modMch_same, hwg]
  refine runs_of_calm hx (hacts.calm hc) fun t ht _ => ⟨?_, ?_, ?_, ?_, ht.onlyRegs hacts⟩
  · rw [ht.mch, hm]
  · rw [ht.mch, hm]
  · rw [ht.mch, hm]
  · rw [ht.fld _ (measArb_plain b).1 (measArb_plain b).2, hu, hw]
    exact (State.fld_setFld_same s _ _ _ (by decide)).trans (Nat.mod_mod _ _)

/-- A fold whose steps each change their own channel. -/
theorem mch_foldl {f : State → Nat → State} {F : MeasCh → MeasCh} {g : Nat} (hsame : ∀ t, (f t g).mch g = F (t.mch g))
    (hother : ∀ t x, x ≠ g → (f t x).mch g = t.mch g) {l : List Nat} (hn : l.Nodup) (s : State) :
    (l.foldl f s).mch g = if g ∈ l then F (s.mch g) else s.mch g := by
  induction l generalizing s with
  | nil => rfl
  | cons x rest ih =>
    obtain ⟨hx, hrest⟩ := List.nodup_cons.1 hn
    rw [List.foldl_cons, ih hrest]
    by_cases hg : x = g
    · subst hg
      rw [if_neg hx, if_pos List.mem_cons_self, hsame]
    · rw [hother _ _ hg]
      simp [Ne.symm hg]

/-- What a die sends of a channel. -/
def batchSent (x : MeasCh) : MeasCh :=
  if x.count = 0 then x
  else { x with sent := x.sent ++ [(x.sumVI, x.sumII, x.count)], sumVI := 0, sumII := 0, count := 0 }

theorem mch_sendBatch_same (g : Nat) (s : State) : (sendBatch g s).mch g = batchSent (s.mch g) := by
  unfold sendBatch batchSent
  dsimp only
  split
  · rfl
  · rw [State.mch_modMch_same]

theorem mch_sendBatch_other {g x : Nat} (h : x ≠ g) (s : State) : (sendBatch x s).mch g = s.mch g := by
  unfold sendBatch
  dsimp only
  split
  · rfl
  · exact State.mch_modMch_other h.symm _ s

theorem batch_sent {d : Fin 3} {g : Fin 96} {s : State} (hc : Calm s) (hr : dieReports s d = true)
    (hd : dieOfPav (g / 16) = d.val) (hn : (s.mch g).count ≠ 0) : Runs (.hhBatchSend d) s fun t =>
      (t.mch g).sent = (s.mch g).sent ++ [((s.mch g).sumVI, (s.mch g).sumII, (s.mch g).count)] ∧ (t.mch g).count = 0 := by
  obtain ⟨u, hu⟩ : ∃ u, u = (List.range 96).foldl (fun t g => if dieOfPav (g / 16) = d then sendBatch g t else t) s := ⟨_, rfl⟩
  have hx : exec (.hhBatchSend d) s = finish s u := by
    refine congrArg (finish s) ((if_pos hr).trans hu.symm)
  have hcu : Calm u := by
    rw [hu]
    refine calm_foldl _ hc fun w x _ hw => ?_
    split
    · unfold sendBatch
      dsimp only
      split
      · exact hw
      · exact hw
    · exact hw
  have hm : u.mch g = batchSent (s.mch g) := by
    rw [hu, mch_foldl (g := g) (F := batchSent) (fun t => ?_) (fun t x hne => ?_) List.nodup_range,
      if_pos (List.mem_range.2 g.isLt)]
    · rw [if_pos hd, mch_sendBatch_same]
    · split
      · exact mch_sendBatch_other hne t
      · rfl
  unfold batchSent at hm
  rw [if_neg hn] at hm
  exact runs_of_calm hx hcu fun t ht _ => ⟨by rw [ht.mch, hm], by rw [ht.mch, hm]⟩

theorem batch_arrives {ch : Fin 96} {g : Nat} {b : Nat × Nat × Nat} {rest : List (Nat × Nat × Nat)} {s : State} (hc : Calm s)
    (hg : govern s ch = g) (hs : (s.mch g).sent = b :: rest) (hd : dayOver s = false) : Runs (.hhBatchArrival ch) s fun t =>
      (t.mch g).sent = rest ∧ (t.mch g).wsum = (s.mch g).wsum + hhWeighted s g b.1 ∧
        (t.mch g).weight = (s.mch g).weight + b.2.1 ∧ (t.mch g).batches = (s.mch g).batches + 1 := by
  obtain ⟨vi, ii, n⟩ := b
  obtain ⟨p, hp⟩ : ∃ p, p = tickBatches s g := ⟨_, rfl⟩
  obtain ⟨u, hu⟩ : ∃ u, u = State.drawn (State.modMch g (fun x => { x with
    sent := rest, wsum := x.wsum + hhWeighted s g vi, weight := x.weight + ii, batches := x.batches + 1,
    tick := (s.wwt, p.1 + hhWeighted s g vi, p.2.1 + ii, p.2.2 + 1) }) s) := ⟨_, rfl⟩
  have hx : exec (.hhBatchArrival ch) s = finish s u := by
    refine congrArg (finish s) ?_
    rw [hg]
    unfold batchArrives
    rw [hs, List.isEmpty_cons, if_neg Bool.false_ne_true, hd, if_neg Bool.false_ne_true]
    unfold batchAdds
    rw [hs, hu, hp]
  have hcu : Calm u := hu ▸ hc
  have hm : u.mch g = { s.mch g with
      sent := rest, wsum := (s.mch g).wsum + hhWeighted s g vi, weight := (s.mch g).weight + ii,
      batches := (s.mch g).batches + 1, tick := (s.wwt, p.1 + hhWeighted s g vi, p.2.1 + ii, p.2.2 + 1) } := by
    rw [hu]
    exact State.mch_modMch_same g _ s
  refine runs_of_calm hx hcu fun t ht _ => ⟨?_, ?_, ?_, ?_⟩
  · rw [ht.mch, hm]
  · rw [ht.mch, hm]
  · rw [ht.mch, hm]
  · rw [ht.mch, hm]

/-! ### Days and learning -/

/-- The registers that the close of a trend day writes. -/
def trendRegs : List Nat := (List.range 96).flatMap fun g => [MEAS_HHDAY g, MEAS_HHBASE g, MEAS_HHSTAT g]

section
variable {F l : List Nat} {s t : State} (h : Acts F l s t)
include h

theorem acts_drawn : Acts F l s (State.drawn t) := h

variable {g : Nat} (hb : MEAS_HHBASE g ∈ l) (hs : MEAS_HHSTAT g ∈ l)
include hb in
theorem acts_learnDay (mean : Nat) : Acts F l s (learnDay g mean t) := by
  have h1 : ∀ x, Acts F l s (State.setFld (MEAS_HHBASE g) MEAS_HHBASE_LEFT x (State.modMch g (fun x => { x with
      learnSum := x.learnSum + mean, learnDays := x.learnDays + 1 }) t)) := fun x => acts_setFld (acts_modMch h _) _ _ hb
  unfold learnDay
  dsimp only
  split
  · exact acts_raiseEv (acts_drawn (acts_setFlag (acts_setFld (h1 _) _ _ hb) _ _ hb)) _ (by decide)
  · exact h1 _

include hs in
theorem acts_driftDay (mean : Nat) : Acts F l s (driftDay g mean t) := by
  unfold driftDay
  extract_lets diff mohm sat t1 t2
  have h1 : Acts F l s t1 := acts_drawn (acts_setFld h _ _ hs)
  have h2 : Acts F l s t2 := acts_incFld h1 _ hs
  refine acts_ite (fun _ => acts_ite (fun _ => ?_) fun _ => h2) fun _ => ?_
  · exact acts_raiseEvData (acts_modMch (acts_setFlag (acts_setFlag h2 _ _ hs) _ _ hs) _) _ _ (by decide)
  · exact acts_modMch (acts_setFlag (acts_setFld h1 _ _ hs) _ _ hs) _

include hb hs in
theorem acts_closeChannel (hd : MEAS_HHDAY g ∈ l) : Acts F l s (closeChannel g t) := by
  unfold closeChannel
  extract_lets mean sparse learned t1 t2 p
  have h1 : Acts F l s t1 := acts_drawn (acts_setFld (acts_setFlag h _ _ hd) _ _ hd)
  have h2 : Acts F l s t2 := by
    refine acts_ite (fun _ => h1) fun _ => acts_ite (fun _ => acts_driftDay h1 hs mean) fun _ => ?_
    exact acts_ite (fun _ => h1) fun _ => acts_learnDay h1 hb mean
  exact acts_modMch h2 _

end

theorem acts_closeDay (F : List Nat) (s : State) : Acts F trendRegs s (closeDay s) := by
  obtain ⟨u, hu⟩ : ∃ u, u = (List.range 96).foldl (fun t g => if govern t g = g then closeChannel g t else t) s := ⟨_, rfl⟩
  have h : Acts F trendRegs s u := by
    rw [hu]
    refine List.foldlRecOn _ _ (motive := fun w : State => Acts F trendRegs s w) (.refl _ _ s) fun w hw g hg => ?_
    have hmem : ∀ a ∈ [MEAS_HHDAY g, MEAS_HHBASE g, MEAS_HHSTAT g], a ∈ trendRegs := fun a ha =>
      List.mem_flatMap.2 ⟨g, hg, ha⟩
    exact acts_ite (fun _ => acts_closeChannel hw (hmem _ (by simp)) (hmem _ (by simp)) (hmem _ (by simp))) fun _ => hw
  have hd : Acts F trendRegs s { u with meas := { u.meas with dayOpen := s.wwt } } := h
  have heq : closeDay s = raiseEv 39 0xFFFF { u with meas := { u.meas with dayOpen := s.wwt } } := by rw [hu]; rfl
  rw [heq]
  exact acts_raiseEv hd _ (by decide)

theorem dayOpen_closeDay (s : State) : (closeDay s).meas.dayOpen = s.wwt :=
  congrArg Meas.dayOpen (meas_of_kept (kept_raiseEv (by decide) _ _))

/-- A command ends in a state that keeps what every end of a command keeps. -/
theorem runs_of_remains {c : Instr} {s u : State} {P : State → Prop} (hx : exec c s = finish s u)
    (hP : ∀ t, Remains u t → P t) : Runs c s P := by
  obtain ⟨hf, hl, hd, hw⟩ := remains_settle u
  exact ⟨_, hx, hP _ ⟨hf, hl, hd, hw⟩⟩

theorem day_closes {s : State} (hd : s.meas.dayOpen + dayLength ≤ s.wwt) : Runs .trendDayClose s fun t =>
    t.meas.dayOpen = s.wwt := by
  have hx : exec .trendDayClose s = finish s (closeDay s) :=
    congrArg (finish s) (if_pos (decide_eq_true hd))
  exact runs_of_remains hx fun t ht => ht.dayOpen.trans (dayOpen_closeDay s)

theorem trend_flushed {s : State} (hc : Calm s) : Runs .trendFlush s fun t =>
    ∀ g : Fin 96, (t.mch g).flushed = ((s.mch g).wsum, (s.mch g).weight, (s.mch g).batches) := by
  have hcu : Calm (flushTrend s) := calm_foldl _ hc fun _ _ _ hw => hw
  refine runs_of_calm (u := flushTrend s) rfl hcu fun t ht _ g => ?_
  rw [ht.mch, flushTrend, mch_foldl (g := g) (F := fun x => { x with flushed := (x.wsum, x.weight, x.batches) })
    (fun t => State.mch_modMch_same _ _ t) (fun t x hne => State.mch_modMch_other hne.symm _ t) List.nodup_range,
    if_pos (List.mem_range.2 g.isLt)]

/-! ### MEAS_HHCMD -/

/-- The row of MEAS_HHCMD. -/
def hhcmdRow : RegRow := ((regAt MEAS_HHCMD).getD (⟨0, 0, 0, 0, 0, false, .lodge, .none, []⟩, 0)).1

/-- MEAS_HHCMD as it stands after a write of `v` at `full`. -/
def hhcmdWritten (full : Nat) (v : Word) (s : State) : State :=
  State.setReg MEAS_HHCMD (writtenWord hhcmdRow.fields (viewOf full) v (s.reg MEAS_HHCMD)) s

theorem wrote_hhcmd {m a : Nat} {v : Word} {s : State} (hm : masterUp s m = true) (he : accessError s a = 0)
    (ha : a = MEAS_HHCMD ∨ a = MEAS_HHCMD + setView) :
    wrote m a v s = cuBus true a v (onHhcmd a v (hhcmdWritten a v s)) := by
  have hrow : canWindow a = none ∧ regAt (normalOf a) = some (hhcmdRow, 0) := by
    rcases ha with rfl | rfl <;> decide +kernel
  have hopen : FieldsOpen s m (lockedBy s hhcmdRow.lock 0) (entryFields hhcmdRow 0) := fun f hf => by
    have := (by decide +kernel : ∀ f ∈ hhcmdRow.fields, f.acc ≠ .wl ∧ f.pr = false) f hf
    exact ⟨this.1, fun hp => absurd (this.2.symm.trans hp) (by decide)⟩
  rw [wrote_lodgeRow hm he hrow.1 hrow.2 (by decide +kernel) (by rfl) (by decide +kernel) (by decide +kernel)
    (by decide +kernel) hopen]
  rfl

theorem day_closedBy {m : Fin 12} {s : State} (hm : masterUp s m = true)
    (he : accessError s (MEAS_HHCMD + setView) = 0) : Runs (.closeDay m) s fun t => t.meas.dayOpen = s.wwt := by
  obtain ⟨w, hw⟩ : ∃ w, w = hhcmdWritten (MEAS_HHCMD + setView) (fmask MEAS_HHCMD_CLOSE_DAY) s := ⟨_, rfl⟩
  have hcmd : onHhcmd (MEAS_HHCMD + setView) (fmask MEAS_HHCMD_CLOSE_DAY) w = closeDay w := by
    unfold onHhcmd
    dsimp only
    rw [(by decide +kernel : woSet (MEAS_HHCMD + setView) (fmask MEAS_HHCMD_CLOSE_DAY) MEAS_HHCMD_CLOSE_DAY = true),
      (by decide +kernel : woSet (MEAS_HHCMD + setView) (fmask MEAS_HHCMD_CLOSE_DAY) MEAS_HHCMD_RELEARN = false)]
    rfl
  have hx : exec (.closeDay m) s = finish s (cuBus true (MEAS_HHCMD + setView) (fmask MEAS_HHCMD_CLOSE_DAY) (closeDay w)) := by
    rw [← hcmd, hw]
    exact congrArg (finish s) (wrote_hhcmd hm he (.inr rfl))
  refine runs_of_remains hx fun t ht => ht.dayOpen.trans ?_
  rw [meas_of_kept (kept_cuBus _ _ _ _), dayOpen_closeDay, hw]
  rfl

/-- The channel in CH learns, after a day that is over has closed. -/
theorem onHhcmd_relearn {ch : Fin 128} (hch : ch.val < 96) (s : State) :
    onHhcmd MEAS_HHCMD (fput MEAS_HHCMD_RELEARN 1 (fput MEAS_HHCMD_CH ch 0#32))
      (hhcmdWritten MEAS_HHCMD (fput MEAS_HHCMD_RELEARN 1 (fput MEAS_HHCMD_CH ch 0#32)) s) =
    let w := hhcmdWritten MEAS_HHCMD (fput MEAS_HHCMD_RELEARN 1 (fput MEAS_HHCMD_CH ch 0#32)) s
    startLearn ch (if dayOver w then closeDay w else w) := by
  obtain ⟨v, hv⟩ : ∃ v, v = fput MEAS_HHCMD_RELEARN 1 (fput MEAS_HHCMD_CH ch 0#32) := ⟨_, rfl⟩
  have hcv : fget MEAS_HHCMD_CH v = ch := by
    rw [hv, fget_fput_other _ _ _ _ (by decide), fget_fput_same _ _ _ (by decide)]
    exact Nat.mod_eq_of_lt ch.isLt
  have hclose : woSet MEAS_HHCMD v MEAS_HHCMD_CLOSE_DAY = false := by
    have h0 : fget MEAS_HHCMD_CLOSE_DAY v = 0 := by
      rw [hv, fget_fput_other _ _ _ _ (by decide), fget_fput_other _ _ _ _ (by decide)]
      rfl
    unfold woSet
    rw [h0]
    exact Bool.and_false _
  have hset : woSet MEAS_HHCMD v MEAS_HHCMD_RELEARN = true := by
    have h1 : fget MEAS_HHCMD_RELEARN v = 1 := by
      rw [hv, fget_fput_same _ _ _ (by decide)]
      rfl
    unfold woSet
    rw [h1]
    decide +kernel
  have hfld : (hhcmdWritten MEAS_HHCMD v s).fld MEAS_HHCMD MEAS_HHCMD_CH = ch := by
    have hf := fget_writtenWord (fs := hhcmdRow.fields) (f := ⟨MEAS_HHCMD_CH, .rw, false, 0⟩) (by decide +kernel)
      (by decide +kernel) (by decide) 0 v (s.reg MEAS_HHCMD)
    unfold State.fld hhcmdWritten
    rw [State.reg_setReg_same, (by decide +kernel : viewOf MEAS_HHCMD = 0), hf]
    show fget MEAS_HHCMD_CH v % 2 ^ 7 = ch
    rw [hcv]
    exact Nat.mod_eq_of_lt ch.isLt
  rw [← hv]
  unfold onHhcmd
  dsimp only
  rw [hclose, if_neg Bool.false_ne_true, hset, if_pos rfl, hfld, if_pos hch]

/-- A channel that starts to learn shows its days to come. -/
theorem startLearn_shows (g : Nat) (s : State) :
    (startLearn g s).fld (MEAS_HHBASE g) MEAS_HHBASE_LEARNED = 0 ∧
    (startLearn g s).fld (MEAS_HHBASE g) MEAS_HHBASE_LEFT = zeroAsOne (s.fld MEAS_CFG MEAS_CFG_LEARN_DAYS) % 16 ∧
    ((startLearn g s).mch g).learnDays = 0 ∧ Tab.Once (startLearn g s).regs (MEAS_HHBASE g) ∧
    Tab.Once (startLearn g s).meas.chans g := by
  obtain ⟨u, hu⟩ : ∃ u, u = State.setReg (MEAS_HHSTAT g) (fput MEAS_HHSTAT_DRIFT_ACT 0 (fput MEAS_HHSTAT_OVER_DAYS 0
    (fput MEAS_HHSTAT_DRIFT 0 (s.reg (MEAS_HHSTAT g))))) s := ⟨_, rfl⟩
  obtain ⟨w, hw⟩ : ∃ w, w = State.setFlag (MEAS_HHBASE g) MEAS_HHBASE_LEARNED false
    (State.setFld (MEAS_HHBASE g) MEAS_HHBASE_LEFT (zeroAsOne (s.fld MEAS_CFG MEAS_CFG_LEARN_DAYS)) u) := ⟨_, rfl⟩
  have hl : startLearn g s = State.modMch g (fun x => { x with
      learnSum := 0, learnDays := 0, driftTold := false, learnAt := some s.wwt }) w := by
    rw [hw, hu]
    rfl
  have hfld : ∀ f, (startLearn g s).fld (MEAS_HHBASE g) f = w.fld (MEAS_HHBASE g) f := fun f => by
    rw [hl]
    rfl
  have hregs : (startLearn g s).regs = w.regs := by
    rw [hl]
    rfl
  refine ⟨?_, ?_, ?_, ?_, ?_⟩
  · rw [hfld, hw]
    exact State.fld_setFlag_same _ _ _ _ (by decide) (by decide)
  · rw [hfld, hw, State.fld_setFlag_field _ _ _ _ _ (by decide)]
    exact State.fld_setFld_same _ _ _ _ (by decide)
  · rw [hl, State.mch_modMch_same]
  · rw [hregs, hw]
    exact Tab.once_put _ _ _ _
  · rw [hl]
    exact Tab.once_put _ _ _ _

theorem relearn_starts {m : Fin 12} {ch : Fin 128} {s : State} (hm : masterUp s m = true)
    (he : accessError s MEAS_HHCMD = 0) (hch : ch.val < 96) (hd : 0 < s.fld MEAS_CFG MEAS_CFG_LEARN_DAYS) :
    Runs (.relearn m ch) s fun t =>
      t.fld (MEAS_HHBASE ch) MEAS_HHBASE_LEARNED = 0 ∧
      t.fld (MEAS_HHBASE ch) MEAS_HHBASE_LEFT = s.fld MEAS_CFG MEAS_CFG_LEARN_DAYS ∧ (t.mch ch).learnDays = 0 := by
  obtain ⟨v, hv⟩ : ∃ v, v = fput MEAS_HHCMD_RELEARN 1 (fput MEAS_HHCMD_CH ch 0#32) := ⟨_, rfl⟩
  obtain ⟨w, hw⟩ : ∃ w, w = hhcmdWritten MEAS_HHCMD v s := ⟨_, rfl⟩
  obtain ⟨y, hy⟩ : ∃ y, y = if dayOver w then closeDay w else w := ⟨_, rfl⟩
  obtain ⟨u, hu⟩ : ∃ u, u = startLearn ch y := ⟨_, rfl⟩
  have hcmd : onHhcmd MEAS_HHCMD v w = u := by
    rw [hu, hy, hw, hv]
    exact onHhcmd_relearn hch s
  have hx : exec (.relearn m ch) s = finish s (cuBus true MEAS_HHCMD v u) := by
    rw [← hcmd, hw, hv]
    exact congrArg (finish s) (wrote_hhcmd hm he (.inl rfl))
  obtain ⟨hlearned, hleft, hdays, honce, honceCh⟩ := startLearn_shows ch y
  rw [← hu] at hlearned hleft hdays honce honceCh
  have hcu := kept_cuBus true MEAS_HHCMD v u
  have hsp : spared (MEAS_HHBASE ch) = true := (by decide : ∀ g : Fin 96, spared (MEAS_HHBASE g) = true) ⟨ch, hch⟩
  obtain ⟨hk1, hk2⟩ := hhbase_keeps ⟨ch, hch⟩
  have hcfg : y.fld MEAS_CFG MEAS_CFG_LEARN_DAYS = s.fld MEAS_CFG MEAS_CFG_LEARN_DAYS := by
    have hactw : Acts [] (MEAS_HHCMD :: trendRegs) s w := hw ▸ acts_setReg (.refl _ _ s) _ (by simp)
    have hacty : Acts [] (MEAS_HHCMD :: trendRegs) s y :=
      hy ▸ acts_ite (fun _ => hactw.trans ((acts_closeDay [] w).mono fun a ha => by simp [ha])) fun _ => hactw
    exact hacty.fld _ (by decide +kernel) (by decide) (by decide)
  refine runs_of_remains hx fun t ht => ⟨?_, ?_, ?_⟩
  · exact ((ht.fld hsp hk1 (once_of_kept hcu hsp honce)).trans (congrArg (fget _) (reg_of_kept hcu hsp))).trans hlearned
  · refine ((ht.fld hsp hk2 (once_of_kept hcu hsp honce)).trans (congrArg (fget _) (reg_of_kept hcu hsp))).trans ?_
    refine hleft.trans ?_
    have hlt : s.fld MEAS_CFG MEAS_CFG_LEARN_DAYS < 16 := fget_lt MEAS_CFG_LEARN_DAYS _
    rw [hcfg, zeroAsOne, if_neg (by omega), Nat.mod_eq_of_lt hlt]
  · have hmeas := meas_of_kept hcu
    refine (ht.learnDays (hmeas ▸ honceCh)).trans (Eq.trans ?_ hdays)
    unfold State.mch
    rw [hmeas]

/-- Settles O16: measurement, diagnosis and trending, clause by clause. -/
theorem measurement : Obligations.Measurement := by
  unfold Obligations.Measurement
  refine ⟨fun ch _ _ s hc hen hlive hrun hown hfit hi hv => ?_, fun ch _ _ s hc hen hoff hrun hlong hvb hol hk => ?_,
    fun ch _ s hc _ hcap hrun hv => ?_, fun ch _ _ s hc hp hst hen hon hrun hleft hton hns => ?_,
    fun _ _ _ _ _ _ hc hmay hrun hnext hel => background_sampled hc hmay hrun hnext hel,
    fun _ _ _ hc hr hd hn => batch_sent hc hr hd hn,
    fun _ _ _ _ hc hs hd => batch_arrives hc rfl hs hd,
    fun _ _ _ _ hm _ he hch hd => relearn_starts hm he hch hd,
    fun _ _ _ hm _ he => day_closedBy hm he,
    fun _ _ hd => day_closes hd, fun _ hc => trend_flushed hc⟩
  · exact burst_stored hc (g := ⟨_, govern_lt s ch.isLt⟩) rfl hen hlive hrun hown hfit hi hv
  · exact offTest_shortBat hc (g := ⟨_, govern_lt s ch.isLt⟩) rfl hen hoff hrun hlong hvb hol hk
  · exact capture_shortGnd hc (g := ⟨_, govern_lt s ch.isLt⟩) rfl hcap hrun hv
  · exact stretch_owed hc (g := ⟨_, govern_lt s ch.isLt⟩) rfl hp hst hen hon hrun hleft hton hns

end Sys2Proof.Machine
end

section
/-! The update record (R410, R484) and the state of an update (R493). -/

namespace Sys2Proof.Machine

/-! ### Barges of class F to every leaf -/

/-- The registers that count what a full queue drops. -/
def dropRegs : List Nat := aqPorts.map AQ_PCNT

theorem dropReg_of_port {p : Nat} (hp : p ∈ aqPorts) : AQ_PCNT p ∈ dropRegs := List.mem_map_of_mem hp

theorem queueBarge_classF {b : Barge} (hb : b.cls = 1) (p : Nat) (s : State) : queueBarge p b s =
    if (s.aqPort p).qf.length < 64 then State.modPort p (fun x => { x with qf := x.qf ++ [b] }) s
    else State.incFld (AQ_PCNT p) AQ_PCNT_QDROP s := by
  unfold queueBarge
  dsimp only
  rw [hb]
  rfl

theorem State.aqPort_modPort_same (p : Nat) (f : AqPort → AqPort) (s : State) : (State.modPort p f s).aqPort p = f (s.aqPort p) :=
  Tab.get_mod_same _ _ _ _

theorem State.aqPort_modPort_other {p q : Nat} (h : q ≠ p) (f : AqPort → AqPort) (s : State) :
    (State.modPort p f s).aqPort q = s.aqPort q := Tab.get_mod_other _ _ _ h

/-- What a barge that is queued leaves beside the queues. -/
structure BesideQueues (s t : State) : Prop where
  acts : Acts [] dropRegs s t
  kept : kept t = kept s
  upd : t.upd = s.upd
  txSeq : t.aq.txSeq = s.aq.txSeq

theorem BesideQueues.refl (s : State) : BesideQueues s s := ⟨.refl _ _ s, rfl, rfl, rfl⟩

theorem BesideQueues.trans {s t u : State} (h : BesideQueues s t) (h' : BesideQueues t u) : BesideQueues s u :=
  ⟨h.acts.trans h'.acts, h'.kept.trans h.kept, h'.upd.trans h.upd, h'.txSeq.trans h.txSeq⟩

theorem besideQueues_queueBarge {b : Barge} (hb : b.cls = 1) {p : Nat} (hp : p ∈ aqPorts) (s : State) :
    BesideQueues s (queueBarge p b s) := by
  have hs : spared (AQ_PCNT p) = false := (by decide : ∀ p ∈ aqPorts, spared (AQ_PCNT p) = false) p hp
  rw [queueBarge_classF hb]
  split
  · exact ⟨.refl _ _ s, rfl, rfl, rfl⟩
  · exact ⟨acts_incFld (.refl _ _ s) _ (dropReg_of_port hp), kept_incFld hs _ s, rfl, rfl⟩

/-- Port `p` sends the barges of source `src` on. -/
def sendsOn (s : State) (src p : Nat) : Bool := portUp s p && treeLeaves (topology s) src (aqAddr s) p

/-- A barge at the other ports leaves whether this one is up, its queues and the address. -/
theorem queueBarge_beside_port {b : Barge} (hb : b.cls = 1) {p q : Nat} (hp : p ∈ aqPorts) (hne : q ≠ p) (hq : q ∈ aqPorts)
    (s : State) : (queueBarge p b s).aqPort q = s.aqPort q ∧ portUp (queueBarge p b s) q = portUp s q := by
  have hport : (queueBarge p b s).aqPort q = s.aqPort q := by
    rw [queueBarge_classF hb]
    split
    · exact State.aqPort_modPort_other hne _ s
    · rfl
  have hfld : (queueBarge p b s).fld (AQ_PSTAT q) AQ_PSTAT_LSTATE = s.fld (AQ_PSTAT q) AQ_PSTAT_LSTATE :=
    (besideQueues_queueBarge hb hp s).acts.fld _
      ((by decide : ∀ q ∈ aqPorts, AQ_PSTAT q ∉ dropRegs) q hq)
      ((by decide : ∀ q ∈ aqPorts, reportReg (AQ_PSTAT q) = false) q hq)
      ((by decide : ∀ q ∈ aqPorts, AQ_PSTAT q ≠ NETPM_STAT) q hq)
  refine ⟨hport, ?_⟩
  unfold portUp lstate
  rw [hport, hfld]

theorem aqAddr_beside {s t : State} (h : BesideQueues s t) : aqAddr t = aqAddr s :=
  h.acts.fld _ (by decide) (by decide) (by decide)

/-- One port of a barge that is spread. -/
def spreadAt (t : Tab LinkState) (b : Barge) (u : State) (p : Nat) : State :=
  if portUp u p && treeLeaves t b.src (aqAddr u) p then queueBarge p b u else u

theorem spreadBarge_all (b : Barge) (s : State) : spreadBarge b none s = aqPorts.foldl (spreadAt (topology s) b) s := by
  have h : ∀ p : Nat, (some p != none) = true := fun _ => rfl
  unfold spreadBarge spreadAt
  simp only [h, Bool.and_true]

theorem besideQueues_spreadAt {b : Barge} (hb : b.cls = 1) (t : Tab LinkState) (s : State) {p : Nat} (hp : p ∈ aqPorts) :
    BesideQueues s (spreadAt t b s p) := by
  unfold spreadAt
  split
  · exact besideQueues_queueBarge hb hp s
  · exact .refl s

theorem besideQueues_spreadBarge {b : Barge} (hb : b.cls = 1) (s : State) : BesideQueues s (spreadBarge b none s) := by
  rw [spreadBarge_all]
  exact List.foldlRecOn _ _ (motive := fun u : State => BesideQueues s u) (.refl s) fun u hu p hp =>
    hu.trans (besideQueues_spreadAt hb _ u hp)

/-- A port at which a spread barge leaves takes it once. -/
theorem spread_queued {b : Barge} (hb : b.cls = 1) (t : Tab LinkState) {q : Nat} {l : List Nat} (hl : ∀ p ∈ l, p ∈ aqPorts)
    (hn : l.Nodup) (hq : q ∈ aqPorts) (s : State) (hup : portUp s q = true) (ht : treeLeaves t b.src (aqAddr s) q = true)
    (hlen : (s.aqPort q).qf.length < 64) : ((l.foldl (spreadAt t b) s).aqPort q).qf.length =
      (s.aqPort q).qf.length + if q ∈ l then 1 else 0 := by
  induction l generalizing s with
  | nil => rfl
  | cons p rest ih =>
    obtain ⟨hp, hrest⟩ := List.nodup_cons.1 hn
    have hpm := hl p List.mem_cons_self
    have hl' : ∀ x ∈ rest, x ∈ aqPorts := fun x hx => hl x (List.mem_cons_of_mem _ hx)
    rw [List.foldl_cons]
    by_cases hpq : p = q
    · subst hpq
      have hnot : ∀ (l : List Nat), (∀ x ∈ l, x ∈ aqPorts) → p ∉ l → ∀ u, ((l.foldl (spreadAt t b) u).aqPort p) = u.aqPort p := by
        intro l
        induction l with
        | nil => exact fun _ _ _ => rfl
        | cons x xs ihx =>
          intro hx hne u
          rw [List.foldl_cons, ihx (fun y hy => hx y (List.mem_cons_of_mem _ hy)) fun hm => hne (List.mem_cons_of_mem _ hm)]
          have hxp : p ≠ x := fun e => hne (e ▸ List.mem_cons_self)
          unfold spreadAt
          split
          · exact (queueBarge_beside_port hb (hx x List.mem_cons_self) hxp hpm u).1
          · rfl
      have hstep : spreadAt t b s p = State.modPort p (fun x => { x with qf := x.qf ++ [b] }) s := by
        unfold spreadAt
        rw [hup, ht, queueBarge_classF hb, if_pos hlen]
        rfl
      rw [hnot rest hl' hp, hstep, State.aqPort_modPort_same, List.length_append, if_pos List.mem_cons_self]
      rfl
    · have hstep : (spreadAt t b s p).aqPort q = s.aqPort q ∧ portUp (spreadAt t b s p) q = portUp s q := by
        unfold spreadAt
        split
        · exact queueBarge_beside_port hb hpm (Ne.symm hpq) hq s
        · exact ⟨rfl, rfl⟩
      have haddr := aqAddr_beside (besideQueues_spreadAt hb t s hpm)
      rw [ih hl' hrest (spreadAt t b s p) (hstep.2.trans hup) (haddr ▸ ht) (hstep.1 ▸ hlen), hstep.1]
      simp [Ne.symm hpq]

/-! ### The record -/

/-- The update record that the module sends. -/
def recordBarge (s : State) : Barge := mkBarge s 1 2 1 0 0xFD (updRecord s)

theorem sendRecord_running {s : State} (he : enabled s 15 = true) (hs : aqState s = 2) : sendRecord s =
    spreadBarge { recordBarge s with seq := Tab.get s.aq.txSeq 0 0xFD } none (withSeq (recordBarge s) s).2 := by
  have h3 : ¬ (aqState s = 3 ∧ (recordBarge s).cls ≠ 2) := fun h => absurd (hs.symm.trans h.1) (by decide)
  unfold sendRecord
  rw [if_pos ⟨he, hs⟩]
  unfold sendBarge
  exact (if_neg h3).trans (if_neg (by decide : ¬ (2 : Nat) = 0))

theorem sendRecord_silent {s : State} (h : ¬ (enabled s 15 = true ∧ aqState s = 2)) : sendRecord s = s := if_neg h

/-- What the record leaves beside the queues and its sequence number. -/
theorem acts_sendRecord {F l : List Nat} {s t : State} (h : Acts F l s t) (hl : ∀ a ∈ dropRegs, a ∈ l) :
    Acts F l s (sendRecord t) := by
  by_cases hr : enabled t 15 = true ∧ aqState t = 2
  · rw [sendRecord_running hr.1 hr.2]
    have hseq : Acts F l s (withSeq (recordBarge t) t).2 := h
    obtain ⟨ho, hc, hf, hn⟩ := (besideQueues_spreadBarge (b := { recordBarge t with seq := Tab.get t.aq.txSeq 0 0xFD }) rfl
      (withSeq (recordBarge t) t).2).acts
    exact hseq.trans (Acts.mono ⟨ho, fun _ => hc rfl, fun n hx => (hf n hx).imp id (Or.imp id (absurd · List.not_mem_nil)), hn⟩ hl)
  · rw [sendRecord_silent hr]
    exact h

theorem kept_sendRecord (s : State) : kept (sendRecord s) = kept s := by
  by_cases hr : enabled s 15 = true ∧ aqState s = 2
  · rw [sendRecord_running hr.1 hr.2]
    exact (besideQueues_spreadBarge rfl _).kept
  · rw [sendRecord_silent hr]

theorem upd_sendRecord (s : State) : (sendRecord s).upd = s.upd := by
  by_cases hr : enabled s 15 = true ∧ aqState s = 2
  · rw [sendRecord_running hr.1 hr.2]
    exact (besideQueues_spreadBarge rfl _).upd
  · rw [sendRecord_silent hr]

/-- The clock of the record moves on. -/
def recordTimed (s : State) : State := { s with upd := { s.upd with nextRecord := s.now + 1000000000 } }

theorem exec_updateRecordSend {s : State} (hw : wardenServes s = true) : exec .updateRecordSend s =
    finish s (if s.upd.nextRecord ≤ s.now then sendRecord (recordTimed s) else s) := by
  refine congrArg (finish s) ?_
  rw [hw, Bool.true_and]
  simp only [decide_eq_true_eq]
  rfl

theorem record_sent {p : Fin 4} {s : State} (hc : Calm s) (hw : wardenServes s = true) (hdue : s.upd.nextRecord ≤ s.now)
    (he : enabled s 15 = true) (ha : aqState s = 2) (hup : portUp s p = true)
    (ht : treeLeaves (topology s) (aqAddr s) (aqAddr s) p = true) (hlen : (s.aqPort p).qf.length < 64) :
    Runs .updateRecordSend s fun t => (t.aqPort p).qf.length = (s.aqPort p).qf.length + 1 ∧
      Tab.get t.aq.txSeq 0 0xFD = (Tab.get s.aq.txSeq 0 0xFD + 1) % 65536 := by
  obtain ⟨v, hv⟩ : ∃ v, v = recordTimed s := ⟨_, rfl⟩
  obtain ⟨b, hb⟩ : ∃ b, b = { recordBarge v with seq := Tab.get v.aq.txSeq 0 0xFD } := ⟨_, rfl⟩
  obtain ⟨w, hww⟩ : ∃ w, w = (withSeq (recordBarge v) v).2 := ⟨_, rfl⟩
  have hcls : b.cls = 1 := by rw [hb]; rfl
  have hsend : sendRecord v = spreadBarge b none w := by
    rw [hb, hww]
    exact sendRecord_running (hv ▸ he) (hv ▸ ha)
  have hx : exec .updateRecordSend s = finish s (spreadBarge b none w) := by
    rw [exec_updateRecordSend hw, if_pos hdue, ← hv, hsend]
  have hbeside := besideQueues_spreadBarge hcls w
  have hcw : Calm w := by
    rw [hww, hv]
    exact hc
  have hmem : p.val ∈ aqPorts := (by decide : ∀ p : Fin 4, p.val ∈ aqPorts) p
  have hport : ((spreadBarge b none w).aqPort p).qf.length = (w.aqPort p).qf.length + 1 := by
    have hq := spread_queued hcls (topology w) (q := p) (l := aqPorts) (fun _ h => h) (by decide) hmem w
      (by rw [hww, hv]; exact hup) (by rw [hww, hb, hv]; exact ht) (by rw [hww, hv]; exact hlen)
    rw [spreadBarge_all, hq, if_pos hmem]
  refine runs_of_calm hx (hbeside.acts.calm hcw) fun t ht' _ => ⟨?_, ?_⟩
  · have haq : t.aqPort p = (spreadBarge b none w).aqPort p := by
      unfold State.aqPort
      rw [ht'.aq]
    rw [haq, hport, hww, hv]
    rfl
  · rw [ht'.aq, hbeside.txSeq, hww, hv]
    exact Tab.get_put_same _ _ _ _

theorem record_silent {s : State} (hc : Calm s) (hw : wardenServes s = true) (h : enabled s 15 = false ∨ aqState s ≠ 2) :
    Runs .updateRecordSend s fun t => t.aq = s.aq ∧ OnlyRegs [] s t := by
  have hnot : ¬ (enabled (recordTimed s) 15 = true ∧ aqState (recordTimed s) = 2) := fun hh =>
    h.elim (fun h0 => absurd (h0.symm.trans hh.1) (by decide)) fun h0 => h0 hh.2
  obtain ⟨u, hx, hacts, haq⟩ : ∃ u, exec .updateRecordSend s = finish s u ∧ Acts [] [] s u ∧ u.aq = s.aq := by
    rw [exec_updateRecordSend hw, sendRecord_silent hnot]
    refine ⟨_, rfl, ?_, ?_⟩
    · exact acts_ite (fun _ => (Acts.refl [] [] s : Acts [] [] s (recordTimed s))) fun _ => .refl _ _ s
    · split <;> rfl
  exact runs_of_calm hx (hacts.calm hc) fun t ht _ => ⟨ht.aq.trans haq, ht.onlyRegs hacts⟩

end Sys2Proof.Machine
end

section
/-! A complete update, and its abort (R480, R482, R483). -/

namespace Sys2Proof.Machine

/-! ### The state that an update enters -/

/-- UPD_STAT shows state `st` with its reason, and the notice of it waits. -/
def updShown (st reason detail : Nat) (s : State) : State :=
  let t := State.setReg UPD_STAT
    (fput UPD_STAT_STATE st (fput UPD_STAT_REASON reason (fput UPD_STAT_DETAIL detail (s.reg UPD_STAT)))) s
  { t with rep := { t.rep with updateNote := some ((s.reg UPD_ID).toNat, st, reason) } }

theorem updTo_eq (st reason detail : Nat) (s : State) : updTo st reason detail s = sendRecord (updShown st reason detail s) := rfl

section
variable {st reason detail : Nat} {s : State}

theorem reg_updShown : (updShown st reason detail s).reg UPD_STAT =
    fput UPD_STAT_STATE st (fput UPD_STAT_REASON reason (fput UPD_STAT_DETAIL detail (s.reg UPD_STAT))) :=
  State.reg_setReg_same _ _ _

theorem updShown_shows (hs : st < 16) (hr : reason < 256) : updState (updShown st reason detail s) = st ∧
    (updShown st reason detail s).fld UPD_STAT UPD_STAT_REASON = reason := by
  unfold updState State.fld
  rw [reg_updShown]
  refine ⟨(fget_fput_same _ _ _ (by decide)).trans (Nat.mod_eq_of_lt hs), ?_⟩
  rw [fget_fput_other _ _ _ _ (by decide), fget_fput_same _ _ _ (by decide)]
  exact Nat.mod_eq_of_lt hr

/-- Whatever follows an entered state, the end of the command shows it. -/
theorem updShown_remains {u t : State} (hs : st < 16) (hr : reason < 256) (hk : kept u = kept (updShown st reason detail s))
    (h : Remains u t) : updState t = st ∧ t.fld UPD_STAT UPD_STAT_REASON = reason ∧ t.start.fwSlot = s.start.fwSlot := by
  obtain ⟨hstate, hreason⟩ := updShown_shows (detail := detail) (s := s) hs hr
  obtain ⟨hk1, hk2⟩ := updStat_keeps
  have hsp : spared UPD_STAT = true := by decide
  have honce : Tab.Once u.regs UPD_STAT := once_of_kept hk hsp (Tab.once_put _ _ _ _)
  have hreg := reg_of_kept hk hsp
  refine ⟨(h.fld hsp hk1 honce).trans ((congrArg (fget _) hreg).trans hstate),
    (h.fld hsp hk2 honce).trans ((congrArg (fget _) hreg).trans hreason), ?_⟩
  exact h.fwSlot.trans ((congrArg Start.fwSlot (start_of_kept hk)).trans rfl)

end

theorem acts_updTo {F l : List Nat} {s t : State} (h : Acts F l s t) (hu : UPD_STAT ∈ l) (hl : ∀ a ∈ dropRegs, a ∈ l)
    (st reason detail : Nat) : Acts F l s (updTo st reason detail t) := by
  have hset : Acts F l s (State.setReg UPD_STAT
    (fput UPD_STAT_STATE st (fput UPD_STAT_REASON reason (fput UPD_STAT_DETAIL detail (t.reg UPD_STAT)))) t) := acts_setReg h _ hu
  exact acts_sendRecord (t := updShown st reason detail t) hset hl

/-! ### The copy of a firmware component (R482) -/

theorem Tab.find_filter_none {α : Type} (t : Tab α) {p : Nat × α → Bool} {k : Nat} (h : ∀ v, p (k, v) = false) :
    Tab.find (t.filter p) k = none := by
  induction t with
  | nil => rfl
  | cons e rest ih =>
    obtain ⟨j, v⟩ := e
    by_cases hp : p (j, v) = true
    · have hj : j ≠ k := fun e => by simp [e, h] at hp
      rw [List.filter_cons_of_pos hp]
      exact (if_neg hj).trans ih
    · rw [List.filter_cons_of_neg hp]
      exact ih

/-- An erased byte of the flash. -/
theorem byte_clearedFlash {k n a : Nat} (hk : k ≤ a) (hn : a < k + n) (hf : flashBase ≤ a) (s : State) :
    (State.clearRange k n s).byte a = 0xFF#8 := by
  unfold State.byte State.clearRange Tab.get
  rw [Tab.find_filter_none _ fun _ => decide_eq_false (show ¬ (a < k ∨ k + n ≤ a) by omega)]
  exact if_pos hf

/-- The memory of a slot that takes `n` bytes and is erased past them. -/
theorem bytes_slotCopied {src dst size n : Nat} (s : State) (hn : n ≤ size) (hd : flashBase ≤ dst) (hsrc : dst + size ≤ src) :
    let t := State.copyBytes src dst n (State.clearRange dst size s)
    (∀ i < n, t.byte (dst + i) = s.byte (src + i)) ∧ (∀ i < size, n ≤ i → t.byte (dst + i) = 0xFF#8) ∧
      SameBytes s t dst (dst + size) := by
  have hclear := sameBytes_clearRange dst size s
  obtain ⟨hcopy, hsame⟩ := byte_copyBytes (src := src) (dst := dst) (n := n) (State.clearRange dst size s) (by omega)
  refine ⟨fun i hi => (hcopy i hi).trans (hclear _ (by omega)), fun i hi hni => (hsame _ (by omega)).trans ?_,
    fun a ha => (hsame a (by omega)).trans (hclear a ha)⟩
  exact byte_clearedFlash (by omega) (by omega) (by omega) s

/-- A firmware component goes to the slot that does not run. -/
theorem copyComp_firmware {c : Comp} {s : State} (ht : c.typ = 2) (hlen : c.len ≤ 0x100000) (hslot : s.start.fwSlot = false) :
    (copyComp c s).mem = (State.copyBytes (flashBase + basin + 4096 * (mPieces s + c.first)) (flashBase + 0x200000) c.len
      (State.clearRange (flashBase + 0x200000) 0x100000 s)).mem ∧ (copyComp c s).start.fwSlot = false := by
  have hidle : idleSlot s c.typ = 0x200000 := by
    unfold idleSlot
    rw [ht, hslot]
    rfl
  have hclamp : clampN 0 0x100000 c.len = c.len := by rw [clampN, if_neg (Nat.not_lt_zero _), if_neg (by omega)]
  obtain ⟨v, hv⟩ : ∃ v, v = State.copyBytes (flashBase + basin + 4096 * (mPieces s + c.first)) (flashBase + 0x200000) c.len
      (State.clearRange (flashBase + 0x200000) 0x100000 s) := ⟨_, rfl⟩
  obtain ⟨u, hu⟩ : ∃ u, u = flashRead (basin + 4096 * (mPieces s + c.first)) c.len v := ⟨_, rfl⟩
  have hcopy : copyComp c s = { u with start := { u.start with
      fwMajor := Tab.put u.start.fwMajor 0 (b2n (!u.start.fwSlot)) (mf s 10 1 + 1) } } := by
    unfold copyComp
    dsimp only
    rw [hidle, if_neg (by omega : ¬ c.typ = 1), hclamp, ← hv, ← hu, if_pos ht]
  have hmem : OnlyMem s v := by
    rw [hv]
    exact onlyMem_copyBytes _ _ _ rfl
  have hstart : u.start = s.start := by
    rw [hu, start_of_kept (kept_flashRead _ _ v), hmem]
  rw [hcopy, ← hv]
  exact ⟨by rw [hu, mem_flashRead], by rw [hstart, hslot]⟩

/-! ### READY and REFUSED (R483) -/

theorem updIncompatible_lt {s : State} {x : Nat × Nat × Nat} (h : updIncompatible s = some x) : x.1 < 16 := by
  unfold updIncompatible at h
  split at h
  · cases h; decide
  split at h
  · cases h; decide
  split at h
  · cases h; exact (by decide : 5 < 16)
  split at h
  · cases h; exact (by decide : 6 < 16)
  split at h
  · dsimp only at h
    split at h
    · cases h; decide
    · cases h
  · cases h

/-- READY, or REFUSED with the reason of the first condition that fails. -/
theorem updComplete_enters (s : State) : ∃ st reason detail v, kept (updComplete s) = kept (updShown st reason detail v) ∧
    (updComplete s).mem = (copyComps s).mem ∧ v.start = (copyComps s).start ∧ st < 16 ∧ reason < 16 ∧
    (updIncompatible (copyComps s) = none → st = 3 ∧ reason = 0) ∧
    ∀ x, updIncompatible (copyComps s) = some x → st = 6 ∧ reason = x.1 := by
  cases h : updIncompatible (copyComps s) with
  | none =>
    refine ⟨3, 0, 0, copyComps s, ?_, ?_, rfl, by decide, by decide, fun _ => ⟨rfl, rfl⟩, fun _ hx => by cases hx⟩
    · unfold updComplete
      dsimp only
      rw [h]
      exact (kept_raiseEv (by decide) _ _).trans (kept_sendRecord _)
    · unfold updComplete
      dsimp only
      rw [h]
      simp
  | some x =>
    obtain ⟨r, d, p⟩ := x
    refine ⟨6, r, d, State.setFld UPD_CTRL UPD_CTRL_UPD_PEER p (copyComps s), ?_, ?_, rfl, by decide, updIncompatible_lt h,
      fun hx => (by cases hx), fun x hx => ?_⟩
    · unfold updComplete
      dsimp only
      rw [h]
      exact (kept_raiseFault (by decide) _).trans ((kept_raiseEv (by decide) _ _).trans (kept_sendRecord _))
    · unfold updComplete
      dsimp only
      rw [h]
      simp [updRefuse]
    · cases hx
      exact ⟨rfl, rfl⟩

theorem exec_updateComplete (s : State) :
    exec .updateComplete s = finishMem s (if wardenServes s && updState s == 2 then updComplete s else s) := rfl

/-- A command that may store ends in a state that keeps what every end keeps, and the memory. -/
theorem runsMem_of_remains {c : Instr} {s u : State} {P : State → Prop} (hx : exec c s = finishMem s u)
    (hP : ∀ t, Remains u t → t.mem = u.mem → P t) : Runs c s P := by
  obtain ⟨hf, hl, hd, hw⟩ := remains_settle u
  exact ⟨_, hx, hP _ ⟨hf, hl, hd, hw⟩ (mem_settle u)⟩

theorem update_completes {c : Comp} {s : State} (hw : wardenServes s = true) (h2 : updState s = 2) (hcs : comps s = [c])
    (ht : c.typ = 2) (hlen : c.len ≤ 0x100000) (hslot : s.start.fwSlot = false) : Runs .updateComplete s fun t =>
      (updIncompatible (copyComps s) = none → updState t = 3 ∧ t.fld UPD_STAT UPD_STAT_REASON = 0) ∧
      (∀ x, updIncompatible (copyComps s) = some x → updState t = 6 ∧ t.fld UPD_STAT UPD_STAT_REASON = x.1 % 16) ∧
      (∀ i < c.len, t.byte (flashBase + 0x200000 + i) = s.byte (flashBase + basin + 4096 * (mPieces s + c.first) + i)) ∧
      (∀ i < 0x100000, c.len ≤ i → t.byte (flashBase + 0x200000 + i) = 0xFF#8) ∧
      SameBytes s t (flashBase + 0x200000) (flashBase + 0x300000) ∧ t.start.fwSlot = false := by
  have hx : exec .updateComplete s = finishMem s (updComplete s) :=
    (exec_updateComplete s).trans (congrArg _ (if_pos (by rw [hw, h2]; rfl)))
  obtain ⟨st, reason, detail, v, hk, hmem, hstart, hst, hre, hnone, hsome⟩ := updComplete_enters s
  have hcopy : copyComps s = copyComp c s := by
    unfold copyComps
    rw [hcs]
    rfl
  obtain ⟨hcm, hcslot⟩ := copyComp_firmware ht hlen hslot
  obtain ⟨h1, h2', h3⟩ := bytes_slotCopied (src := flashBase + basin + 4096 * (mPieces s + c.first)) (dst := flashBase + 0x200000)
    s hlen (Nat.le_add_right _ _) (by unfold flashBase basin; omega)
  refine runsMem_of_remains hx fun t hrem htm => ?_
  obtain ⟨hstate, hreason, hfw⟩ := updShown_remains hst (by omega) hk hrem
  have hbyte : ∀ a, t.byte a = _ := State.byte_of_mem ((htm.trans hmem).trans ((congrArg State.mem hcopy).trans hcm))
  refine ⟨fun h => ?_, fun x h => ?_, fun i hi => (hbyte _).trans (h1 i hi), fun i hi hni => (hbyte _).trans (h2' i hi hni),
    fun a ha => (hbyte a).trans (h3 a ha), ?_⟩
  · obtain ⟨e1, e2⟩ := hnone h
    exact ⟨hstate.trans e1, hreason.trans e2⟩
  · obtain ⟨e1, e2⟩ := hsome x h
    exact ⟨hstate.trans e1, hreason.trans (e2.trans (Nat.mod_eq_of_lt (updIncompatible_lt h)).symm)⟩
  · rw [hfw, hstart, hcopy, hcslot]

theorem update_stands {s : State} (hc : Calm s) (h : updState s ≠ 2 ∨ wardenServes s = false) :
    Runs .updateComplete s fun t => updState t = updState s ∧ t.mem = s.mem ∧ OnlyRegs [] s t := by
  have hnot : ¬ (wardenServes s && updState s == 2) = true := by
    rcases h with h | h <;> simp [h]
  have hx : exec .updateComplete s = finishMem s s := (exec_updateComplete s).trans (congrArg _ (if_neg hnot))
  exact runsMem_of_calm hx hc fun t ht hm => ⟨ht.fld _, hm, ht.onlyRegs (.refl [] [] s)⟩

end Sys2Proof.Machine
end

section
/-! ABORT (R480, R491). -/

namespace Sys2Proof.Machine

/-! ### The write of UPD_CTRL -/

/-- The row of UPD_CTRL. -/
def updCtrlRow : RegRow := ((regAt UPD_CTRL).getD (⟨0, 0, 0, 0, 0, false, .lodge, .none, []⟩, 0)).1

/-- A written value whose bits set nothing that the row stores leaves the word (R36). -/
theorem writtenWord_self {fs : List FInfo} {v : Word}
    (h : ∀ f ∈ fs, f.acc = .wo ∨ f.acc = .ro ∨ (f.acc = .rw ∧ fget f.fld v = 0)) (old : Word) :
    writtenWord fs 1 v old = old := by
  induction fs with
  | nil => rfl
  | cons f rest ih =>
    have hf : fput f.fld (viewBits f.acc 1 (fget f.fld old) (fget f.fld v)) old = old := by
      have hbits : viewBits f.acc 1 (fget f.fld old) (fget f.fld v) = fget f.fld old := by
        rcases h f List.mem_cons_self with ha | ha | ⟨ha, hz⟩
        · rw [ha]; rfl
        · rw [ha]; rfl
        · rw [ha, hz]
          exact Nat.or_zero _
      rw [hbits, fput_fget]
    refine Eq.trans ?_ (ih fun x hx => h x (List.mem_cons_of_mem _ hx))
    exact congrArg (writtenWord rest 1 v) hf

/-- What the write itself leaves of a state: UPD_CTRL as it was. -/
def updCtrlWritten (s : State) : State := State.setReg UPD_CTRL (s.reg UPD_CTRL) s

theorem reg_updCtrlWritten (s : State) (a : Nat) : (updCtrlWritten s).reg a = s.reg a := by
  by_cases h : a = UPD_CTRL
  · rw [h]
    exact State.reg_setReg_same _ _ _
  · exact State.reg_setReg_other _ _ h

theorem acts_updCtrlWritten (s : State) : Acts [] [] s (updCtrlWritten s) := by
  obtain ⟨-, hc, hf, hn⟩ := (acts_setReg (.refl [] [UPD_CTRL] s) (s.reg UPD_CTRL) (by simp) :
    Acts [] [UPD_CTRL] s (updCtrlWritten s))
  exact ⟨fun a _ _ _ => reg_updCtrlWritten s a, hc, hf, hn⟩

theorem updState_updCtrlWritten (s : State) : updState (updCtrlWritten s) = updState s :=
  congrArg (fget _) (reg_updCtrlWritten s UPD_STAT)

theorem onUpdCtrl_abort {m : Nat} {s : State} (hp : privileged s m = true) :
    onUpdCtrl m (UPD_CTRL + setView) (fmask UPD_CTRL_ABORT) s = abortUpdate s := by
  unfold onUpdCtrl
  rw [hp, (by decide +kernel : woSet (UPD_CTRL + setView) (fmask UPD_CTRL_ABORT) UPD_CTRL_ABORT = true),
    (by decide +kernel : woSet (UPD_CTRL + setView) (fmask UPD_CTRL_ABORT) UPD_CTRL_ARM = false)]
  rfl

theorem wrote_abort {m : Nat} {s : State} (hm : masterUp s m = true) (hp : privileged s m = true)
    (he : accessError s (UPD_CTRL + setView) = 0) : setBits m UPD_CTRL UPD_CTRL_ABORT s =
      cuBus true (UPD_CTRL + setView) (fmask UPD_CTRL_ABORT) (abortUpdate (updCtrlWritten s)) := by
  have hwin : canWindow (UPD_CTRL + setView) = none := by decide +kernel
  have hopen : FieldsOpen s m (lockedBy s updCtrlRow.lock 0) (entryFields updCtrlRow 0) := fun f hf =>
    ⟨(by decide +kernel : ∀ f ∈ updCtrlRow.fields, f.acc ≠ .wl) f hf, fun _ => ⟨hp, rfl⟩⟩
  have hself := writtenWord_self (fs := updCtrlRow.fields) (v := fmask UPD_CTRL_ABORT) (by decide +kernel) (s.reg UPD_CTRL)
  have hstored : storeRow false m (UPD_CTRL + setView) updCtrlRow 0 (fmask UPD_CTRL_ABORT) s = updCtrlWritten s := by
    rw [storeRow_lodge (by rfl) (by decide +kernel) (by decide +kernel) (by decide +kernel), writeRow_open hopen]
    exact congrArg (fun w => State.setReg UPD_CTRL w s) hself
  have htop : topStore false m (UPD_CTRL + setView) updCtrlRow 0 (fmask UPD_CTRL_ABORT) s = abortUpdate (updCtrlWritten s) := by
    unfold topStore
    rw [if_neg (by decide +kernel : ¬ updCtrlRow.base = CHECK_EN)]
    dsimp only
    rw [if_neg (by decide +kernel : ¬ updCtrlRow.base = CHECK_STARTCTL),
      if_pos (by decide +kernel : updCtrlRow.base = UPD_CTRL), hstored]
    exact onUpdCtrl_abort hp
  have hdies : homeDies updCtrlRow 0 = [] := by decide +kernel
  unfold setBits
  rw [wrote_eq_topStore _ hm ((masterError_of_register m hwin).trans he) hwin
    (r := updCtrlRow) (i := 0) (by decide +kernel), hdies]
  exact congrArg (cuBus true (UPD_CTRL + setView) (fmask UPD_CTRL_ABORT)) htop

/-! ### What ABORT clears -/

/-- The bitmap of pieces is cleared. -/
def bitmapCleared (s : State) : State := (List.range 128).foldl (fun t w => State.setReg (UPD_BITMAP w) 0#32 t) s

/-- The update is forgotten: no piece, no identity and no component is left. -/
def updCleared (s : State) : State :=
  let t := State.setReg UPD_PIECES 0#32 (State.setReg UPD_ID 0#32 (bitmapCleared s))
  { t with upd := { t.upd with armed := none, todo := [] } }

theorem abortUpdate_clears {s : State} (h : ¬ (updState s = 0 ∨ updState s = 4)) :
    abortUpdate s = raiseEv 223 0xFFFF (updTo 0 0 0 (updCleared s)) := if_neg h

theorem abortUpdate_idle {s : State} (h : updState s = 0 ∨ updState s = 4) : abortUpdate s = s := if_pos h

/-- The words of the bitmap. -/
def bitmapRegs : List Nat := (List.range 128).map UPD_BITMAP

theorem acts_bitmapCleared {F l : List Nat} (s : State) (hl : ∀ a ∈ bitmapRegs, a ∈ l) : Acts F l s (bitmapCleared s) :=
  List.foldlRecOn _ _ (motive := fun u : State => Acts F l s u) (.refl _ _ s) fun _ hu _ hw =>
    acts_setReg hu _ (hl _ (List.mem_map_of_mem hw))

theorem reg_bitmapCleared {w : Nat} (hw : w < 128) (s : State) : (bitmapCleared s).reg (UPD_BITMAP w) = 0#32 := by
  have h : ∀ (l : List Nat) (t : State), (w ∈ l ∨ t.reg (UPD_BITMAP w) = 0#32) →
      (l.foldl (fun t w => State.setReg (UPD_BITMAP w) 0#32 t) t).reg (UPD_BITMAP w) = 0#32 := by
    intro l
    induction l with
    | nil => exact fun t h => h.resolve_left List.not_mem_nil
    | cons x rest ih =>
      intro t h
      refine ih _ ?_
      by_cases hx : w = x
      · subst hx
        exact .inr (State.reg_setReg_same _ _ _)
      · refine (h.imp (fun hm => (List.mem_cons.1 hm).resolve_left hx) fun h0 => ?_)
        refine (State.reg_setReg_other _ _ ?_).trans h0
        unfold UPD_BITMAP
        omega
  exact h _ s (.inl (List.mem_range.2 hw))

/-- The registers that ABORT writes. -/
def abortRegs : List Nat := UPD_STAT :: UPD_PIECES :: UPD_ID :: (bitmapRegs ++ dropRegs)

theorem upd_bitmapCleared (s : State) : (bitmapCleared s).upd = s.upd :=
  List.foldlRecOn _ _ (motive := fun u : State => u.upd = s.upd) rfl fun _ hu _ _ => hu

theorem acts_updCleared (s : State) : Acts [] abortRegs s (updCleared s) := by
  have h := acts_bitmapCleared (F := []) (l := abortRegs) s fun a ha => by simp [abortRegs, ha]
  unfold updCleared
  generalize bitmapCleared s = b at h ⊢
  exact acts_setReg (acts_setReg h 0#32 (a := UPD_ID) (by simp [abortRegs])) 0#32 (a := UPD_PIECES) (by simp [abortRegs])

theorem updCleared_clears (s : State) : (updCleared s).reg UPD_ID = 0#32 ∧ (updCleared s).reg UPD_PIECES = 0#32 ∧
    (∀ w : Fin 128, (updCleared s).reg (UPD_BITMAP w) = 0#32) ∧ (updCleared s).upd.armed = none ∧
    (updCleared s).upd.todo = [] ∧ (updCleared s).upd.waiting = s.upd.waiting := by
  have hbits : ∀ w : Fin 128, (bitmapCleared s).reg (UPD_BITMAP w) = 0#32 := fun w => reg_bitmapCleared w.isLt s
  have hupd := upd_bitmapCleared s
  unfold updCleared
  generalize bitmapCleared s = b at hbits hupd ⊢
  have hwait : b.upd.waiting = s.upd.waiting := congrArg Upd.waiting hupd
  obtain ⟨c, hc⟩ : ∃ c, c = State.setReg UPD_PIECES 0#32 (State.setReg UPD_ID 0#32 b) := ⟨_, rfl⟩
  have hcid : c.reg UPD_ID = 0#32 := by
    rw [hc, State.reg_setReg_other _ _ (by decide), State.reg_setReg_same]
  have hcp : c.reg UPD_PIECES = 0#32 := by
    rw [hc, State.reg_setReg_same]
  have hcb : ∀ w : Fin 128, c.reg (UPD_BITMAP w) = 0#32 := fun w => by
    have hne : ∀ w : Fin 128, UPD_BITMAP w ≠ UPD_PIECES ∧ UPD_BITMAP w ≠ UPD_ID := by decide +kernel
    rw [hc, State.reg_setReg_other _ _ (hne w).1, State.reg_setReg_other _ _ (hne w).2, hbits]
  have hcw : c.upd.waiting = b.upd.waiting := by
    rw [hc]
    rfl
  rw [← hc]
  exact ⟨hcid, hcp, hcb, rfl, rfl, hcw.trans hwait⟩

/-- What follows the clearing: state 0 with its record and event. -/
def abortTold (s : State) : State := raiseEv 223 0xFFFF (updTo 0 0 0 s)

theorem acts_abortTold {F l : List Nat} {s t : State} (h : Acts F l s t) (hu : UPD_STAT ∈ l) (hl : ∀ a ∈ dropRegs, a ∈ l) :
    Acts F l s (abortTold t) := acts_raiseEv (acts_updTo h hu hl _ _ _) _ (by decide)

theorem upd_abortTold (s : State) : (abortTold s).upd = s.upd := upd_sendRecord (updShown 0 0 0 s)

theorem updState_abortTold (s : State) : updState (abortTold s) = 0 := by
  have hev : updState (abortTold s) = updState (updTo 0 0 0 s) := fld_raiseEv _ _ (by decide) _ (by decide)
  have hsend : updState (updTo 0 0 0 s) = updState (updShown 0 0 0 s) :=
    (acts_sendRecord (.refl [] dropRegs (updShown 0 0 0 s)) fun _ h => h).fld _ (by decide) (by decide) (by decide)
  rw [hev, hsend]
  exact (updShown_shows (by decide) (by decide)).1

section
variable {m : Fin 12} {s : State} (hc : Calm s) (hm : masterUp s m = true) (hp : privileged s m = true)
  (he : accessError s (UPD_CTRL + setView) = 0) (hcu : CuIdle s) (hw : s.upd.waiting = [])
include hm hp he hcu

/-- ABORT where no check unit runs. -/
theorem exec_abort (hl : Acts [] abortRegs s (abortUpdate (updCtrlWritten s))) :
    exec (.abort m) s = finishHost s (abortUpdate (updCtrlWritten s)) := by
  have hidle : CuIdle (abortUpdate (updCtrlWritten s)) := hcu.of_regs fun u => hl.reg
    ((by decide +kernel : ∀ u : Fin 4, CU_STAT u ∉ abortRegs) u) ((by decide : ∀ u : Fin 4, reportReg (CU_STAT u) = false) u)
    ((by decide : ∀ u : Fin 4, CU_STAT u ≠ NETPM_STAT) u)
  refine congrArg (finishHost s) ((wrote_abort hm hp he).trans ?_)
  exact cuBus_of_idle hidle _ _ _

include hc hw

theorem abort_clears (h0 : updState s ≠ 0) (h4 : updState s ≠ 4) : Runs (.abort m) s fun t =>
    updState t = 0 ∧ t.reg UPD_ID = 0#32 ∧ t.fld UPD_PIECES UPD_PIECES_TOTAL = 0 ∧
      (∀ w : Fin 128, t.reg (UPD_BITMAP w) = 0#32) ∧ t.upd.armed = none ∧ t.upd.todo = [] ∧ t.mem = s.mem := by
  obtain ⟨v, hv⟩ : ∃ v, v = updCleared (updCtrlWritten s) := ⟨_, rfl⟩
  have habort : abortUpdate (updCtrlWritten s) = abortTold v := by
    rw [hv]
    refine abortUpdate_clears ?_
    rw [updState_updCtrlWritten]
    exact fun h => h.elim h0 h4
  have hacts : Acts [] abortRegs s (abortTold v) :=
    acts_abortTold (hv ▸ ((acts_updCtrlWritten s).mono (by simp)).trans (acts_updCleared _)) (by simp [abortRegs])
      fun a ha => by simp [abortRegs, ha]
  have hrest : Acts [] (UPD_STAT :: dropRegs) v (abortTold v) :=
    acts_abortTold (.refl _ _ v) (by simp) fun a ha => by simp [ha]
  obtain ⟨hid, hpieces, hbits, harmed, htodo, hwait⟩ := updCleared_clears (updCtrlWritten s)
  rw [← hv] at hid hpieces hbits harmed htodo hwait
  have hx : exec (.abort m) s = finishHost s (abortTold v) := by
    rw [exec_abort hm hp he hcu (habort ▸ hacts), habort]
  have hkeep : ∀ {a}, a ∉ UPD_STAT :: dropRegs → reportReg a = false → a ≠ NETPM_STAT → (abortTold v).reg a = v.reg a :=
    fun h1 h2 h3 => hrest.reg h1 h2 h3
  have hupd := upd_abortTold v
  refine runsHost_of_calm hx ?_ (hacts.calm hc) fun t ht hmem => ⟨?_, ?_, ?_, fun w => ?_, ?_, ?_, ?_⟩
  · rw [hupd, hwait]
    exact hw
  · exact (ht.fld UPD_STAT_STATE).trans (updState_abortTold v)
  · rw [ht.regs _ (by decide) (by decide), hkeep (by decide) (by decide) (by decide), hid]
  · rw [ht.fld, State.fld, hkeep (by decide) (by decide) (by decide), hpieces]
    rfl
  · have hpl : ∀ w : Fin 128, UPD_BITMAP w ∉ UPD_STAT :: dropRegs ∧ reportReg (UPD_BITMAP w) = false ∧
      UPD_BITMAP w ≠ NETPM_STAT := by decide +kernel
    obtain ⟨h1, h2, h3⟩ := hpl w
    rw [ht.regs _ h2 h3, hkeep h1 h2 h3, hbits]
  · rw [ht.upd, hupd, harmed]
  · rw [ht.upd, hupd, htodo]
  · have hmw : (abortUpdate (updCtrlWritten s)).mem = s.mem := (mem_abortUpdate _).trans rfl
    rw [hmem, ← habort, hmw]

theorem abort_idle (h : updState s = 0 ∨ updState s = 4) : Runs (.abort m) s fun t =>
    updState t = updState s ∧ t.reg UPD_ID = s.reg UPD_ID ∧ t.upd = s.upd ∧ t.mem = s.mem ∧
      OnlyRegs [UPD_ID, UPD_STAT] s t := by
  have hwritten := acts_updCtrlWritten s
  have habort : abortUpdate (updCtrlWritten s) = updCtrlWritten s :=
    abortUpdate_idle (by rwa [updState_updCtrlWritten])
  have hx : exec (.abort m) s = finishHost s (updCtrlWritten s) := by
    rw [exec_abort hm hp he hcu (habort.symm ▸ hwritten.mono (by simp)), habort]
  refine runsHost_of_calm hx hw (hwritten.calm hc) fun t ht hmem => ⟨?_, ?_, ?_, hmem, ht.onlyRegs (hwritten.mono (by simp))⟩
  · exact (ht.fld UPD_STAT_STATE).trans (updState_updCtrlWritten s)
  · exact (ht.regs _ (by decide) (by decide)).trans (reg_updCtrlWritten s _)
  · exact ht.upd

end

/-- Settles O49: a complete update, its record and ABORT, clause by clause. -/
theorem updateCompletion : Obligations.UpdateCompletion := by
  unfold Obligations.UpdateCompletion
  exact ⟨fun _ _ _ hw h2 hcs ht hlen hslot => update_completes hw h2 hcs ht hlen hslot,
    fun _ hc h => update_stands hc h,
    fun _ _ hc hw hdue he ha hup ht hlen => record_sent hc hw hdue he ha hup ht hlen,
    fun _ hc hw h => record_silent hc hw h,
    fun _ _ hc hm hp he h0 h4 hcu hw => abort_clears hc hm hp he hcu hw h0 h4,
    fun _ _ hc hm hp he h hw hcu => abort_idle hc hm hp he hcu hw h⟩

end Sys2Proof.Machine
end
